-- ==== Sys2Proof/Word.lean ====
section
/-! DEFINITION. Words, bit fields and keyed tables: the plainest data the model is written over.
Register contents and message fields are natural numbers below the width their rule gives; every operation that stores
one reduces it to that width. Lengths, indexes and times are natural numbers. -/

namespace Sys2Proof

/-- One byte of pool memory (R167: the address space is byte addressed). -/
abbrev Byte := BitVec 8

/-- Bits `hi:lo` of `w`, as the register tables write a range. -/
def bits (w hi lo : Nat) : Nat := (w >>> lo) % 2 ^ (hi + 1 - lo)

/-- A Boolean as a one-bit field. -/
def b2n (b : Bool) : Nat := if b then 1 else 0

/-- `w` with bit `i` set to `b`. -/
def setBit (w i : Nat) (b : Bool) : Nat :=
  if w.testBit i then (if b then w else w - 2 ^ i) else (if b then w + 2 ^ i else w)

/-- The union of two bit sets. -/
def setUnion (a b : Nat) : Nat := a ||| b

/-- The bits of `a` that are not in `b`. -/
def setMinus (a b : Nat) : Nat := a ^^^ (a &&& b)

/-- The first `n` numbers that are members of the bit set `w`, in ascending order. -/
def members (w n : Nat) : List Nat := (List.range n).filter fun i => w.testBit i

/-- The bit set of a list of numbers. -/
def ofMembers (l : List Nat) : Nat := l.foldl (fun w i => w ||| (1 <<< i)) 0

/-- How many of the first `n` bits of `w` are set. -/
def popcount (w n : Nat) : Nat := (members w n).length

/-- The two's complement reading of the low `n` bits of `w`. -/
def toSigned (n w : Nat) : Int :=
  if (w % 2 ^ n) < 2 ^ (n - 1) then ((w % 2 ^ n : Nat) : Int) else ((w % 2 ^ n : Nat) : Int) - (2 : Int) ^ n

/-- The `n`-bit two's complement of `z`. -/
def ofSigned (n : Nat) (z : Int) : Nat := (z % (2 : Int) ^ n).toNat

/-- `z` held to the range `lo` to `hi`. -/
def clampInt (lo hi z : Int) : Int := if z < lo then lo else if hi < z then hi else z

/-- `n` held to the range `lo` to `hi`. -/
def clampNat (lo hi n : Nat) : Nat := if n < lo then lo else if hi < n then hi else n

/-- Integer division rounded to the nearest, halves away from zero. -/
def divRound (a : Int) (b : Nat) : Int :=
  if a < 0 then -(((2 * a.natAbs + b) / (2 * b) : Nat) : Int) else (((2 * a.natAbs + b) / (2 * b) : Nat) : Int)

/-- The quotient of two natural numbers rounded up. -/
def divUp (a b : Nat) : Nat := (a + b - 1) / b

/-- The smallest member of a list, or `d` where it is empty. -/
def minOr (d : Nat) (l : List Nat) : Nat := match l with
  | [] => d
  | x :: r => r.foldl min x

/-- The largest member of a list, or 0. -/
def maxOr0 (l : List Nat) : Nat := l.foldl max 0

/-- The sum of a list. -/
def total (l : List Nat) : Nat := l.foldl (· + ·) 0

/-- A field placed at byte `i` of a record, little-endian: its contribution to the record read as one number. -/
def atByte (i v : Nat) : Nat := v <<< (8 * i)

/-- The `n` bytes of a number, lowest first. -/
def bytesOf (n w : Nat) : List Nat := match n with
  | 0 => []
  | k + 1 => w % 256 :: bytesOf k (w / 256)

/-- The number whose bytes, lowest first, are given. -/
def ofBytes (l : List Nat) : Nat := match l with
  | [] => 0
  | b :: r => b % 256 + 256 * ofBytes r

/-- A table of values by number: pairs in strictly rising order of the number. A number that is not listed has the
default value of its type. -/
abbrev Tab (α : Type) := List (Nat × α)

/-- The value a table lists at `i`. -/
def tfind {α : Type} (t : Tab α) (i : Nat) : Option α := match t with
  | [] => none
  | (k, v) :: r => if k = i then some v else tfind r i

/-- The value a table holds at `i`, or `d` where it lists none. -/
def tgetD {α : Type} (t : Tab α) (i : Nat) (d : α) : α := match tfind t i with
  | some v => v
  | none => d

/-- The value a table holds at `i`, or its type's default. -/
def tget {α : Type} [Inhabited α] (t : Tab α) (i : Nat) : α := tgetD t i default

/-- A table with `v` at `i`. -/
def tput {α : Type} (t : Tab α) (i : Nat) (v : α) : Tab α := match t with
  | [] => [(i, v)]
  | (k, u) :: r => if i < k then (i, v) :: (k, u) :: r else if k = i then (i, v) :: r else (k, u) :: tput r i v

/-- A table that lists nothing at `i`. -/
def tdel {α : Type} (t : Tab α) (i : Nat) : Tab α := t.filter fun p => p.1 != i

/-- A table with the value at `i` changed by `f`. -/
def tmod {α : Type} [Inhabited α] (t : Tab α) (i : Nat) (f : α → α) : Tab α := tput t i (f (tget t i))

/-- The keys of a table stand in strictly rising order. -/
def tabSorted {α : Type} (t : Tab α) : Bool := match t with
  | [] => true
  | (_, _) :: [] => true
  | (k, _) :: (k', v') :: r => decide (k < k') && tabSorted ((k', v') :: r)

/-- One field of a management register: `key` is 32 times the register's offset in the management window plus the
field's lowest bit, `w` its width in bits, `rst` its Reset value (R15). -/
structure Fld where
  key : Nat
  w : Nat
  rst : Nat
deriving DecidableEq, Repr, Inhabited

/-- An event count of R9 with its sticky overflow bit. -/
structure Cnt where
  cnt : Fld
  ovf : Fld
deriving DecidableEq, Repr, Inhabited

end Sys2Proof
end

