-- ==== Sys2Proof/Types.lean ====
section
/-! DEFINITION. The data that commands carry and that State holds: agents, messages, records and images. -/

namespace Sys2Proof

/-- Who makes a register access or an order (R97, R177, R247 and the block rules name them). -/
inductive Agent where
  /-- Steward, through the warden's register bus -/
  | steward
  /-- another warden processor: 1 Power, 2 Cooling, 3 Recorder -/
  | proc (p : Nat)
  /-- a link-and-queue processor: FW index 4 to 7 -/
  | lq (p : Nat)
  /-- the host, by a request stamped with its identity through the management window; it may write while it holds the session (R177) -/
  | host
  /-- a local accelerator or a remote hub, through the management window (R177) -/
  | window
deriving DecidableEq, Repr, Inhabited

/-- The response codes of R393. -/
inductive Resp where
  | ok
  | busy
  | retry
  | denied
  | invalid
  | poison
deriving DecidableEq, Repr, Inhabited

/-- The numeric value of a response (R393). -/
def Resp.code (r : Resp) : Nat := match r with
  | .ok => 0
  | .busy => 1
  | .retry => 2
  | .denied => 3
  | .invalid => 4
  | .poison => 5

/-- An error record (R338). `detail` is bytes 32 to 47 read as one little-endian number; `temp` is the two's complement
field. The reserved bytes are zero and the check is computed when the record is read out. -/
structure ErrRec where
  unit : Nat := 0
  operation : Nat := 0
  groupTime : Nat := 0
  seconds : Nat := 0
  cycles : Nat := 0
  severity : Nat := 0
  temp : Nat := 0
  millivolts : Nat := 0
  cls : Nat := 0
  sequence : Nat := 0
  detail : Nat := 0
  step : Nat := 0
deriving DecidableEq, Repr, Inhabited

/-- The sequence summary of R246 and R415. -/
structure SeqSummary where
  kind : Nat := 0
  notGood : Nat := 0
  chatter : Nat := 0
  notFallen : Nat := 0
  slots : Nat := 0
  inputOff : Bool := false
  hubScope : Bool := false
  channel : Nat := 0xFF
deriving DecidableEq, Repr, Inhabited

/-- What a cask record records (R413 to R416, R421, R422). -/
inductive CaskBody where
  | error (r : ErrRec)
  | summary (q : SeqSummary)
  /-- event code, unit identifier, and bytes 2 to 15 of the payload as one number -/
  | event (code unit data : Nat)
  /-- a repeat record: the count, the first occurrence's position and seconds, the last repeat's seconds, the excess -/
  | rpt (count pos first last excess : Nat)
  /-- a header snapshot; its fields are the live values when it is written -/
  | snapshot
deriving DecidableEq, Repr, Inhabited

/-- A record waiting for the flash (R418), stamped when it was made (R417). `run` names its open or closed run. -/
structure CaskRec where
  body : CaskBody
  seconds : Nat
  cycles : Nat
  run : Nat := 0
deriving DecidableEq, Repr, Inhabited

/-- An open run of repeats (R420, R421). `pos` is the first occurrence's position once it has been written. -/
structure CaskRun where
  id : Nat
  body : CaskBody
  first : Nat
  last : Nat
  count : Nat := 0
  excess : Nat := 0
  pos : Option Nat := none
deriving DecidableEq, Repr, Inhabited

/-- The two commanders (R390). -/
inductive Role where
  | rackManager
  | host
deriving DecidableEq, Repr, Inhabited

/-- A management message's header, transport and signature trailer (R390, R391, R392). `source` names the sender: an IPv6
address and port for the rack manager, the bridge hub's number for the host. `viaHostPort` says that an MGMT_REQ entered
through a host port (R221). `sigOk` says whether the ML-DSA-65 signature verifies for this device under the key at `key`;
`bytes` stands for the message's own bytes in the comparison of R396. -/
structure Msg where
  role : Role := .rackManager
  source : Nat := 0
  viaHostPort : Bool := true
  magic : Nat := 0x4D47
  version : Nat := 1
  flags : Nat := 0
  codeHigh : Nat := 0
  status : Nat := 0
  /-- the header's length field, and the bytes that came after the header -/
  length : Nat := 0
  size : Nat := 0
  tag : Nat := 0
  session : Nat := 0
  sequence : Nat := 0
  reserved : Nat := 0
  counter : Nat := 0
  key : Nat := 0
  trailerZero : Bool := true
  /-- the bytes and bits of the body that R395 and R402 do not list -/
  spare : Nat := 0
  sigOk : Bool := false
  bytes : Nat := 0
deriving DecidableEq, Repr, Inhabited

/-- An entry of a mark table (R73): mark number, quorum (0 for every admitted accelerator), nominal angle. -/
structure MarkEntry where
  mark : Nat := 0
  quorum : Nat := 0
  angle : Nat := 0
deriving DecidableEq, Repr, Inhabited

/-- A pattern: its header (R73) and each die's rows as sixteen 32-bit words a row (R74). -/
structure Pattern where
  number : Nat := 0
  nominal : Nat := 3125
  domains0 : Nat := 0
  domains1 : Nat := 0
  tiles0 : Nat := 0
  tiles1 : Nat := 0
  linkShare : Nat := 20
  poolShare : Nat := 20
  successor : Nat := 0
  successorValid : Bool := false
  msets : Nat := 0
  marks : List MarkEntry := []
  rows0 : List (List Nat) := []
  rows1 : List (List Nat) := []
deriving DecidableEq, Repr, Inhabited

/-- An operand descriptor (R86), with its reserved bits kept so that validation can see them. -/
structure Desc where
  base : Nat := 0
  count : Nat := 0
  format : Nat := 0
  mode : Nat := 0
  valid : Bool := false
  stageOk : Bool := false
  owner : Nat := 0
  rows : Nat := 0
  cols : Nat := 0
  ld : Nat := 0
  generation : Nat := 0
  reserved : Nat := 0
deriving DecidableEq, Repr, Inhabited

/-- A membership set (R91): its granularity and its active and pending bitmaps. -/
structure MSet where
  hub : Bool := false
  active : Nat := 0
  pending : Nat := 0
deriving DecidableEq, Repr, Inhabited

/-- A stage record of a route entry (R117). -/
structure Stage where
  kind : Nat := 0
  size : Nat := 1
  position : Nat := 0
  nextPorts : Nat := 0
  prevPorts : Nat := 0
  nextHops : Nat := 0
  nextPath : Nat := 0
  prevHops : Nat := 0
  prevPath : Nat := 0
  peer : Nat := 0
  face : Nat := 0
deriving DecidableEq, Repr, Inhabited

/-- A route entry (R117): the stages of strand 0 and strand 1, strand 0's weight in 1/256, chunk and staging allowance. -/
structure Route where
  strands : Nat := 1
  weight : Nat := 0
  stages0 : List Stage := []
  stages1 : List Stage := []
  hall : Bool := false
  chunk : Nat := 1
  staging : Nat := 0
deriving DecidableEq, Repr, Inhabited

/-- An element as it is stored: its encoding and, in an MX format, its block's scale byte (R139); none where it is POISON. -/
structure Coded where
  code : Option Nat := none
  scale : Option Nat := none
deriving DecidableEq, Repr, Inhabited

/-- A sequence of the slice micro-op library (R437): its 64-bit micro-ops, an optimizer's state word count and its kind (0 none,
1 to 4 the optimizer sequences of R130). -/
structure SliceSeq where
  ops : List Nat := []
  stateWords : Nat := 0
  kind : Nat := 0
deriving DecidableEq, Repr, Inhabited

/-- A row tag with the line it names (R119, R208): die, row index, pattern, strand, stage, step or hall count, line index. -/
structure RowTag where
  pattern : Nat := 0
  die : Nat := 0
  row : Nat := 0
  strand : Nat := 0
  stage : Nat := 0
  step : Nat := 0
  line : Nat := 0
deriving DecidableEq, Repr, Inhabited

/-- One entry of an accelerator's gauge table (R252): core frequency in MHz, core rail voltage in mV, idle power and full-activity
power in W. -/
structure GaugeEntry where
  f : Nat := 0
  v : Nat := 0
  idle : Nat := 0
  pmax : Nat := 0
deriving DecidableEq, Repr, Inhabited

/-- A power profile (R435): its first write record and how many writes prepare and release. -/
structure PowerProfile where
  first : Nat := 0
  prepare : Nat := 0
  release : Nat := 0
deriving DecidableEq, Repr, Inhabited

/-- A write record of the power section (R435). -/
structure WriteRec where
  master : Nat := 0
  page : Nat := 0
  address : Nat := 0
  avs : Bool := false
  command : Nat := 0
  length : Nat := 0
  data : Nat := 0
deriving DecidableEq, Repr, Inhabited

/-- The open operations (R174). -/
inductive OpenOp where
  | read | write | writeMasked | readBulk | writeBulk | swap | cas | fetchAdd | fetchAnd | fetchOr | fetchXor | fetchMin
  | fetchMax | fetchUmin | fetchUmax | fence
deriving DecidableEq, Repr, Inhabited

/-- The source identity stamped on a request (R185), coded as MEM_LAST_SOURCE: kind 0 local accelerator, 1 host, 2 remote. -/
structure Source where
  kind : Nat := 0
  slot : Nat := 0
  hub : Nat := 0
deriving DecidableEq, Repr, Inhabited

/-- An open request as it arrives (R208): the link it enters by (0 to 7 AL, 8 to 15 SP), its header, and the stamp it carries
from another hub. `size` is in bytes. -/
structure OpenHdr where
  link : Nat := 0
  ordered : Bool := false
  size : Nat := 4
  queue : Nat := 0
  tag : Nat := 0
  addr : Nat := 0
  stamp : Source := {}
deriving DecidableEq, Repr, Inhabited

/-- An open request with its payload: the byte mask, the data or operand, and the compare value, lowest byte first. -/
structure OpenReq where
  op : OpenOp := .read
  hdr : OpenHdr := {}
  src : Source := {}
  mask : Nat := 0
  data : List Nat := []
  compare : List Nat := []
deriving DecidableEq, Repr, Inhabited

/-- What a check finds at a pool access: nothing, an error its code corrects, an uncorrectable error (R317, R318), a parity
mismatch of the transfer (R324), or a bridge transfer resent `n` times within 1 ms. -/
inductive MemCheck where
  | clean
  | inner (corrections : Nat)
  | corrected (symbols first : Nat)
  | uncorrectable (symbols first : Nat)
  | parity
  | bridge (resends : Nat)
deriving DecidableEq, Repr, Inhabited

/-- One region guard entry (R186, MEM_GUARD_n): units of 64 KiB; permissions are read, write, atomic from the lowest bit. -/
structure Guard where
  base : Nat := 0
  limit : Nat := 0
  part : Nat := 0
  host : Nat := 0
  remote : Nat := 0
  remoteParts : Nat := 0
  hubLo : Nat := 0
  hubHi : Nat := 0
deriving DecidableEq, Repr, Inhabited

/-- One entry of the queue table (R190). -/
structure QueueCfg where
  slots : Nat := 0
  host : Bool := false
  remote : Bool := false
  weight : Nat := 1
  depth : Nat := 64
  minCtx : Nat := 16
  maxCtx : Nat := 512
  allowance : Nat := 0
deriving DecidableEq, Repr, Inhabited

/-- One entry of the open-path table (R170): a range of hubs, the egress port and the path at intermediate hubs. -/
structure OpenPath where
  lo : Nat := 0
  hi : Nat := 0
  egress : Nat := 0
  path : Nat := 0
deriving DecidableEq, Repr, Inhabited

/-- A test-port description (R357): the pattern set, the highest test clock in units of 100 kHz, the duration limit in units of 10 ms, the
flags, and bytes 9 to 15. -/
structure TestPort where
  set : Nat := 0
  tck : Nat := 0
  limit : Nat := 0
  flags : Nat := 0
  reserved : Nat := 0
deriving DecidableEq, Repr, Inhabited

/-- The identity memory of an accelerator (R219, R252, R357) as its fields say: the header, whether its length is in range and its check
matches, and what its offsets name. -/
structure IdentityMem where
  magic : Nat := 0x7EA51D01
  version : Nat := 1
  length : Nat := 64
  checkOk : Bool := true
  model : Nat := 0
  serial : Nat := 0
  windowSize : Nat := 0
  lanes : Nat := 16
  /-- 16 coefficients as FP32 words, in µJ per counter unit (R248) -/
  coeff : List Nat := []
  /-- the gauge table's 64 entries (R252) -/
  gauge : List GaugeEntry := []
  test : TestPort := {}
deriving DecidableEq, Repr, Inhabited

/-- What Steward reads of a Sotin module under CMIS (R222): presence, passive cable, identifier, module type, power class, module state, the
application code selected and whether its data path is active, a module fault, the lanes with loss of signal and loss of lock, the
temperature in °C and the supply in mV. -/
structure ModuleRead where
  present : Bool := false
  passive : Bool := false
  identifier : Nat := 0
  kind : Nat := 0
  powerClass : Nat := 1
  state : Nat := 0
  app : Nat := 0
  active : Bool := false
  fault : Bool := false
  los : Nat := 0
  lol : Nat := 0
  temp : Nat := 0
  supply : Nat := 0
deriving DecidableEq, Repr, Inhabited

/-- What Steward writes to a module under CMIS (R222): it leaves ModuleLowPwr, selects an application code, or activates its data path. -/
inductive ModuleOrder where
  | powerUp
  | selectApp (code : Nat)
  | activate
deriving DecidableEq, Repr, Inhabited

/-- A rail table entry (R226). Times are in µs and the nominal voltage in mV. -/
structure RailCfg where
  channel : Nat := 0
  withPrev : Bool := false
  owner : Nat := 0
  role : Nat := 0
  nominal : Nat := 1000
  delay : Nat := 100
  debounce : Nat := 500
  timeout : Nat := 20000
  faultAction : Nat := 0
  onFlag : Bool := false
  fallSense : Bool := false
  bindRank : Nat := 0
  master : Nat := 0
  page : Nat := 0
  address : Nat := 0
  discharge : Nat := 2000
deriving DecidableEq, Repr, Inhabited

/-- A row of the cooling table (R287): its breakpoint in °C, and the floor minimum and table value of valves, pumps and fans in percent. -/
structure CoolRow where
  breakpoint : Int := 0
  floorValve : Nat := 100
  floorPump : Nat := 100
  floorFan : Nat := 100
  valve : Nat := 100
  pump : Nat := 100
  fan : Nat := 100
deriving DecidableEq, Repr, Inhabited

/-- A leak zone (R302): its loops, its slots and its isolation valve: 0 none, 1 ISO_VALVE[0], 2 ISO_VALVE[1]. -/
structure LeakZone where
  loops : Nat := 0
  slots : Nat := 0
  iso : Nat := 0
deriving DecidableEq, Repr, Inhabited

/-- The plant section (R431): what is fitted, each TEMP_SNS's floor offset in °C, the roles of the supply, return and inlet sensors,
the cooling table, the leak zones, the residual-air table (heat in W, fan duty), the heat capacity in W for 10 mL/min and 0.125 °C scaled
by 2^16, the pressure setpoint in kPa, each fan's normal current band in mA and each pump's speed at full duty in revolutions per minute. -/
structure Plant where
  temps : Nat := 0
  flows : Nat := 0
  presses : Nat := 0
  fans : Nat := 0
  pumps : Nat := 0
  loops : Nat := 0
  offsets : List Int := []
  supply : Nat := 0
  return_ : Nat := 1
  inlet : Nat := 2
  table : List CoolRow := []
  zones : List LeakZone := []
  residual : List (Nat × Nat) := []
  heatCap : Nat := 0
  setpoint : Nat := 150
  bands : List (Nat × Nat) := []
  pumpRpm : List Nat := []
  tachPulses : Nat := 2
  /-- the hub target of R291 in °C -/
  hubTarget : Nat := 95
deriving DecidableEq, Repr, Inhabited

/-- The surrogate section (R440): the hidden size, the cost weights and margin of R283 as FP32 words, and the weights as R438 uses
them: FP32 words, or BF16 words where R440 says so, row-major. -/
structure Surrogate where
  nh : Nat := 8
  wt : Nat := 0
  wv : Nat := 0
  margin : Nat := 0
  offset : List Nat := []
  scale : List Nat := []
  wx : List Nat := []
  wh : List Nat := []
  b : List Nat := []
  wy : List Nat := []
  c : List Nat := []
  outScale : List Nat := []
  outOffset : List Nat := []
deriving DecidableEq, Repr, Inhabited

/-- One log-ring entry (R376). -/
structure LogEntry where
  time : Nat
  point : Nat
  level : Nat
  processor : Nat
  sequence : Nat
  args : List Nat := []
deriving DecidableEq, Repr, Inhabited

/-- One programmed cask slot (R413), without its check, which the read-out forms. -/
structure CaskSlot where
  kind : Nat
  part : Nat
  arg : Nat
  seconds : Nat
  cycles : Nat
  arg2 : Nat
  payload : Nat
deriving DecidableEq, Repr, Inhabited

/-- What a cask slot of the flash holds. An unlisted slot is empty (all 0xFF). `torn` is a slot that is neither empty nor
matched by its check (R423). -/
inductive CaskCell where
  | torn
  | slot (c : CaskSlot)
deriving DecidableEq, Repr, Inhabited

/-- A Sotin port in the tray description (R432): the peer, its kind, the channel, and the pluggable module's limits. -/
structure PortCfg where
  peerHub : Nat := 0
  peerPort : Nat := 0
  kind : Nat := 1
  channel : Nat := 0
  pluggable : Bool := false
  maxPowerClass : Nat := 0
  appCode : Nat := 0
deriving DecidableEq, Repr, Inhabited

/-- The tray description of R432. -/
structure Tray where
  hub : Nat := 0
  index : Nat := 0
  grouped : Bool := false
  master : Nat := 0
  primary : Nat := 0
  secondary : Nat := 0
  secondaryValid : Bool := false
  partitions : Nat := 1
  map : Nat := 0
  t4 : Bool := false
  bridge : Bool := false
  links0 : Nat := 0
  links1 : Nat := 0
  /-- the management address, the notice receiver with its port, and the prefix length -/
  address : Nat := 0
  notice : Nat := 0
  noticePort : Nat := 0
  prefixLen : Nat := 64
deriving DecidableEq, Repr, Inhabited

/-- The configuration image as its sections give it (R431). -/
structure Image where
  tray : Tray := {}
  ports : Tab PortCfg := []
  /-- the slice micro-op library (R437) -/
  slices : List SliceSeq := []
  /-- the rail table in cast-on order (R226) -/
  rails : List RailCfg := []
  /-- the power section (R435) -/
  profiles : List PowerProfile := []
  writes : List WriteRec := []
  gaugePlan : List Nat := []
  hintProfile : Nat := 0
  plant : Plant := {}
  surrogate : Option Surrogate := none
  /-- the partition a tile is assigned to (R334), by tile index of both dies -/
  tileOwner : Tab Nat := []
  /-- the section types present, the header's version and security version, and the SHAKE256 measurement as one number -/
  sections : Nat := 0
  version : Nat := 0
  svn : Nat := 0
  digest : Nat := 0
  /-- the settings section: management offset and value (R434) -/
  loads : List (Nat × Nat) := []
  /-- the pattern library and the initial pattern -/
  patterns : Tab Pattern := []
  initial : Nat := 0
  descs : Tab Desc := []
  msets : Tab MSet := []
  stage : Nat := 0
  routes : Tab Route := []
  paths : List OpenPath := []
  guards : List Guard := []
  queues : Tab QueueCfg := []
  /-- the governors' coefficients by die (R23), in mW for each count of a domain's activity counter in 1 µs; the spec lays out no section that
  holds them -/
  governor : Tab (List Nat) := []
  /-- the pool preload: local offset and bytes -/
  preload : List (Nat × List Nat) := []
  /-- commander keys that are not all zero: bits 0 to 3 rack manager, 4 to 7 host -/
  keys : Nat := 0
  /-- the features that the image enables (R378) -/
  features : Nat := 0
  /-- bytes of the sections held in the warden -/
  wardenBytes : Nat := 0
deriving DecidableEq, Repr, Inhabited

/-- The channel of the core rail of slot 0 to 7 (role 0), or of H0 (8) or H1 (9), where the rail table names one. -/
def Image.coreRail (i : Image) (owner : Nat) : Option Nat :=
  (i.rails.find? fun r => r.owner = owner ∧ (r.role = 0 ∨ (owner = 9 ∧ r.role = 1))).map RailCfg.channel

/-- What the settings store keeps of an observed unit (R349, R350, R351): failed, its level (0 normal, 1 watched, 2 suspect), its
consecutive passing swatches, and an accelerator's serial number. -/
structure UnitKept where
  failed : Bool := false
  level : Nat := 0
  passes : Nat := 0
  serial : Nat := 0
deriving DecidableEq, Repr, Inhabited

/-- What the settings area of the settings store keeps beside register loads (R256, R260, R407, R468): off records, the rack budget where
one is set, the caps of each source, the pin, all written through. -/
structure Settings where
  offBy : Nat := 0
  budget : Option Nat := none
  capRm : Nat := 0xFFFF
  capHost : Nat := 0xFFFF
  partRm : Tab Nat := []
  partHost : Tab Nat := []
  fixed : Option Bool := none
  pin : Nat := 0x30
  /-- the ring-oscillator references of R309 by 64 times the die plus the tile, in MHz -/
  ringRef : Tab Nat := []
  units : Tab UnitKept := []
deriving DecidableEq, Repr, Inhabited

/-- What reading an image gives (R450, R451): whether its region could be read in three attempts, bytes 0 to 127 of the header, whether its pad
is zero, the SHAKE256 digest computed of the body, whether the signature verifies under the key that the header names, and the measurement as
one number (log 12). -/
structure ImageCheck where
  readable : Bool := true
  header : List Nat := []
  padZero : Bool := true
  bodyDigest : Nat := 0
  sigOk : Bool := true
  digest : Nat := 0
deriving DecidableEq, Repr, Inhabited

/-- The WARDEN and HUBCTL images as the loader finds them (R367, R377, R378, R469): their checks, the settings version and feature bitmap
of the WARDEN image, the kinds of settings records it knows as a bit set, the default trace enables of both images, and the
measurements of the code copies of Power, Cooling and Recorder. -/
structure CodeImages where
  warden : ImageCheck := {}
  hubctl : ImageCheck := {}
  settings : Nat := 0
  features : Nat := 1
  known : Nat := 0
  traceW : Nat := 0
  traceH : Nat := 0
  copies : List Nat := []
deriving DecidableEq, Repr, Inhabited

/-- What Steward's one reading of the CONFIG region gives (R441): its check, a failure of the reading itself or of a section whose layout the
spec does not give (as reason, section and entry), the bytes of the directory (R430) and the CRC-32C computed of each section it lists; then the bytes of the sections: the tray description (R432), the rail entries (R226), the loads
(R434), the power section (R435), the pattern headers (R73) with the two dies' row lists as sixteen words a row (R74), the descriptors by
number (R86), the slice library with the number of its directory's entries (R437), the route entries by index (R117), the surrogate (R440), the pool preload and the commander keys (R431). `rest` holds what
the sections give whose layout the spec does not state. -/
structure ConfigRead where
  check : ImageCheck := {}
  bad : Option (Nat × Nat × Nat) := none
  directory : List Nat := []
  crcs : List Nat := []
  tray : List Nat := []
  rails : List (List Nat) := []
  loads : List (List Nat) := []
  power : List Nat := []
  headers : List (List Nat) := []
  rows0 : List (List Nat) := []
  rows1 : List (List Nat) := []
  descs : Tab (List Nat) := []
  sliceCount : Nat := 0
  slices : List Nat := []
  routes : Tab (List Nat) := []
  surrogate : Option (List Nat) := none
  preload : List Nat := []
  keys : List Nat := []
  rest : Image := {}
deriving DecidableEq, Repr, Inhabited

/-- A component of a TRAYSTAGE image (R464): kind, slot mask, model, length in bytes, and its place and CRC-32C. -/
structure StageComp where
  kind : Nat := 1
  mask : Nat := 0
  model : Nat := 0
  length : Nat := 0
  offset : Nat := 0
  crc : Nat := 0
deriving DecidableEq, Repr, Inhabited

/-- What the tray staging region holds once it is WRITTEN (R464, R465): how it will check, and the bytes of its directory: the component count
and an entry of 32 bytes for each. -/
structure StageFile where
  check : ImageCheck := {}
  dir : List Nat := []
deriving DecidableEq, Repr, Inhabited

/-- The custody header of R457. -/
structure CustodyHeader where
  published : Bool := false
  typ : Nat := 0
  id : Nat := 0
  length : Nat := 0
  lo : Nat := 0
  hi : Nat := 0
deriving DecidableEq, Repr, Inhabited

/-- A life-cycle statement (R480): bytes 0 to 335, whether its reserved bytes 3,645 to 3,647 are zero, and whether its signature verifies under
the key that it names (log 12). -/
structure Statement where
  bytes : List Nat := []
  padZero : Bool := true
  sigOk : Bool := true
deriving DecidableEq, Repr, Inhabited

/-- An unlock token (R485): bytes 0 to 127, whether its pad is zero, and whether its signature verifies under the key that it names (log 12). -/
structure Token where
  bytes : List Nat := []
  padZero : Bool := true
  sigOk : Bool := true
deriving DecidableEq, Repr, Inhabited

/-- How a control message came in: whether a flit of it was accepted with replay 1 (R214), and the ns since the last tick (R61). -/
structure Arrival where
  replayed : Bool := false
  ns : Nat := 0
deriving DecidableEq, Repr, Inhabited

/-- How a TIME_REQUEST came in, and the ns until the reply leaves (R214). -/
structure RequestArrival extends Arrival where
  turn : Nat := 0
deriving DecidableEq, Repr, Inhabited

/-- What a training step found: in step 3 the order of the lanes and those with inverted polarity, in step 5 the port's own transmit and
receive latency in 0.125 ns (R201, R215). -/
structure TrainFound where
  order : List Nat := []
  polarity : Nat := 0
  latTx : Nat := 0
  latRx : Nat := 0
deriving DecidableEq, Repr, Inhabited

/-- A reading of the two kiln-trip sensors of a die, 16-bit signed, in units of 0.125 °C (R294). -/
structure KilnReading where
  die : Nat := 0
  sensorA : Nat := 0
  sensorB : Nat := 0
deriving DecidableEq, Repr, Inhabited

/-- The sets of a TESTSTORE image: the size of its hub-tile set in bytes and the identifiers of its accelerator pattern sets (R356, R357). -/
structure StoredSets where
  hubSet : Nat := 0
  sets : List Nat := []
deriving DecidableEq, Repr, Inhabited

/-- What maker test programs (R471, R474): the unique secret, the serial number, the maker key digests, the identity digest that the
device certificate names, 0 for no certificate, and the trim tables are the MON block's. -/
structure MakerData where
  secret : Nat := 0
  serial : Nat := 0
  makerKeys : List Nat := []
  cert : Nat := 0
  trims : List Int := []
deriving DecidableEq, Repr, Inhabited

end Sys2Proof
end

