-- ==== Sys2Proof/Syntax.lean ====
section
/-! DEFINITION. The commands of the block: one constructor for each row of spec/opcode_table.json, with the row's operands. -/

namespace Sys2Proof

/-- The commands and events that change the block's state. -/
inductive Instr where
  /-- `agent` writes `value` to the register at management offset `off` (R14) -/
  | registerWrite (agent : Agent) (off value : Nat)
  /-- `agent` reads the register at `off`, whose RC fields are then cleared (R14) -/
  | readClear (agent : Agent) (off : Nat)
  /-- `agent` reads the low word of a 64-bit pair (R70) -/
  | latchedLowRead (agent : Agent) (off : Nat)

  | standbyRise
  | standbyFall
  | wardenPowerOnReset
  | wardenRstN
  /-- The boot ROM's check of the LOADER region: what it finds (R476) -/
  | loaderVerify (check : ImageCheck)
  /-- A request by `agent` to switch on domain `domain` of die `die` (R31) -/
  | domainSwitchRequest (agent : Agent) (die domain : Nat)
  | domainOnComplete (die domain : Nat)
  /-- The five references' deviations in ppm: crystal, then 156.25 MHz and 100 MHz of H0 and of H1 (R36) -/
  | referenceCheck (ppm : List Nat)
  | hubReferenceRecover
  /-- Steward resets die `die` (R41) -/
  | hubResetSingle (agent : Agent) (die : Nat)
  | hubRelease (agent : Agent) (die : Nat)
  /-- Die `die`'s governor estimates from its activity counters, one a domain (R23) -/
  | governorEstimate (die : Nat) (activity : List Nat)
  /-- Regulator telemetry in mW for the die's share of VDD_H0 or VDD_H1, VDD_SRD and VDD_HBM (R23) -/
  | governorRescale (die measured : Nat)
  | governorRelease (die : Nat)
  | packageLimitUnmet (die : Nat)
  | packageLimitClear (die : Nat)
  /-- Steward or the Power processor requests that a hub domain be switched off (R32) -/
  | domainOffRequest (agent : Agent) (die domain : Nat)

  /-- The next 32 ns tick of the cadence trackers (R46) -/
  | cadenceTick
  /-- Four estimated periods have passed without a step mark (R55) -/
  | cadenceStall
  /-- The tick at which the step mark takes effect (R94) -/
  | stepMarkEffect
  /-- STEP_MARK from the accelerator in `slot` (R44) -/
  | stepMarkMessage (slot step : Nat)
  /-- PHASE_MARK from the accelerator in `slot` with a mark number and step tag (R50) -/
  | phaseMark (slot mark tag : Nat)
  /-- The tick at which the oldest taken mark takes effect (R52) -/
  | markEffect
  /-- A write of CAD_MARK_CFG.tolerance in die `die`'s block (R70) -/
  | toleranceWrite (agent : Agent) (die value : Nat)
  | toleranceApply
  /-- TIME_REQUEST is sent (R61) -/
  | timeRequestSend
  /-- TIME_REQUEST received on Sotin port `port` (R61, R214) -/
  | timeRequest (port sequence hub : Nat) (arrival : RequestArrival)
  /-- TIME_REPLY received on `port`: the upstream's hub number and state, its master, t2 and t3 (R61, R210) -/
  | timeReply (port sequence hub upState master t2 t3 : Nat) (arrival : Arrival)
  /-- No reply on `port` within 100 µs (R62) -/
  | timeReplyMissed (port : Nat)
  | gtHoldover

  /-- The sequencer of die `die` looks at its next row; `fault` is 1 where a row-store word is uncorrectable, 2 where a word of the
  descriptor store is (R79, R101, R318); 256 + b where bit b of a row-store word has been corrected, 512 + b of a word of the
  descriptor store (R317, R339) -/
  | rowTrigger (die fault : Nat)
  | fenceComplete
  /-- The COLLECTIVE row `row` of die `die` in flight: its results are formed, or it completes (R108); `residue` lists elements
  whose long-accumulator residue or rounding check fails (R325) -/
  | collectiveComplete (die row : Nat) (residue : List Nat)
  /-- ARRAY; `bad` and `residue` list the output blocks of which a checksum or a residue check fails; for op 4 `bad` lists the tiles
  whose results differ (R155, R158, R162) -/
  | arrayComplete (die row : Nat) (bad residue : List Nat)
  /-- SLICE; `bad` lists lines of d0 whose core fails a check (R183, R326) -/
  | sliceComplete (die row : Nat) (bad : List Nat)
  | fusedComplete (die row : Nat) (residue : List Nat)
  | digestComplete (die row : Nat)
  | rowLimitExpire (die row : Nat)
  /-- The take-up after a step mark; `bad` is a line of the staging area found uncorrectable (R89, R318) -/
  | descriptorTakeUp (bad : Option Nat)
  /-- PAT_NEXT and PAT_NEXT_STEP written by `agent` (R97) -/
  | patNextWrite (agent : Agent) (valid atStep : Bool) (pattern stepLo : Nat)
  /-- PAT_CTRL.restart written by `agent` (R99, R100) -/
  | patternRestart (agent : Agent)
  | forcedStepMark
  /-- A pending copy of membership set `set` written by `agent` (R93) -/
  | msetPendingWrite (agent : Agent) (set bitmap : Nat)
  /-- A planned flit's line on Sotin port `port` (R121), `none` for POISON, with the hops still to go and their egress ports, three bits
  each (R117, R120) -/
  | plannedFlitArrive (port : Nat) (tag : RowTag) (data : Option (List Nat)) (check : MemCheck) (hops path : Nat)
  /-- PDATA from the accelerator in `slot` answering a PREAD; `none` for an empty one (R209, R322) -/
  | pdata (slot : Nat) (tag : RowTag) (data : Option (List Nat))
  | pack (slot : Nat) (tag : RowTag)

  /-- READ of `h.size` bytes (R174); likewise the other open operations -/
  | read (h : OpenHdr)
  | write (h : OpenHdr) (data : List Nat)
  | writeMasked (h : OpenHdr) (mask : Nat) (data : List Nat)
  | readBulk (h : OpenHdr)
  | writeBulk (h : OpenHdr) (data : List Nat)
  | swap (h : OpenHdr) (operand : List Nat)
  | cas (h : OpenHdr) (compare new : List Nat)
  | fetchAdd (h : OpenHdr) (operand : List Nat)
  | fetchAnd (h : OpenHdr) (operand : List Nat)
  | fetchOr (h : OpenHdr) (operand : List Nat)
  | fetchXor (h : OpenHdr) (operand : List Nat)
  | fetchMin (h : OpenHdr) (operand : List Nat)
  | fetchMax (h : OpenHdr) (operand : List Nat)
  | fetchUmin (h : OpenHdr) (operand : List Nat)
  | fetchUmax (h : OpenHdr) (operand : List Nat)
  | fence (h : OpenHdr)
  /-- Die `die`'s dispatcher serves one eligible queue (R191) -/
  | openDispatch (die : Nat)
  /-- The home port, register or window of context `id` applies its request, with what the checks find (R178) -/
  | openPerformed (id : Nat) (check : MemCheck)
  /-- The corrected line is written back (R317) -/
  | correctionWriteback (line : Nat)
  /-- An accelerator's response to the forwarded operation of context `id` (R176): code, data, retry hint -/
  | accOpenResponse (id : Nat) (resp : Resp) (data : List Nat) (hint : Nat)
  | openTimeout (id : Nat)
  | telemetryRefresh
  | wardenSnapshot
  | memOpenCfgWrite (agent : Agent) (die timeout hint : Nat)
  /-- The scrubber reads line `line` (local offset divided by 256) (R319) -/
  | scrubRead (line : Nat) (check : MemCheck)
  /-- A RESPONSE packet from a remote hub for the request of context `id` (R208) -/
  | response (id : Nat) (resp : Resp) (data : List Nat) (hint : Nat) (unknown : Bool)

  /-- A 200-byte flit received on link `link`; `fecOk` is false in an uncorrectable codeword, `corrected` counts corrected
  codewords (R202, R203, R206) -/
  | flitReceive (link : Nat) (flit : List Nat) (fecOk : Bool) (corrected : Nat)
  | keepaliveFlit (link : Nat)
  | laneSignalLoss (link lane : Nat)
  | linkSilenceTimeout (link : Nat)
  | linkHoldoffExpire (link : Nat)
  | linkTrainStart (link : Nat)
  /-- The current training step ends, with what it found (R201, R215) -/
  | trainStepComplete (link : Nat) (found : TrainFound)
  | trainTimeout (link : Nat)
  /-- PEER_ID on a Sotin port: hub, port, kind, the sender's latencies and its master; bits 31:21 of its parameter and its W4, which R210
  calls zero (R210, R217) -/
  | peerId (port hub peerPort kind txPeer rxPeer master spare word4 : Nat)
  /-- HINT: angle, added load in W, duration, step tag (R210, R271) -/
  | hint (slot angle watts duration tag : Nat)
  /-- ACTIVITY: gauge, slow flag, step tag and the 16 counters (R210, R248) -/
  | activity (slot gauge : Nat) (slow : Bool) (tag : Nat) (counters : List Nat)
  | activityLost (slot : Nat)
  /-- MGMT_REQ on `link` for hub `hub` with a tag and its payload words (R221) -/
  | mgmtReq (link hub tag : Nat) (payload : List Nat)
  | autoAdmit (slot : Nat)
  /-- The identity memory of slot `slot` has been read: its bytes (R219) -/
  | identityRead (slot : Nat) (bytes : List Nat)
  | modulePresencePoll (port : Nat) (read : ModuleRead)
  | moduleFlagPoll (port : Nat) (read : ModuleRead)
  | linkRetrain (agent : Agent) (die mask : Nat)
  | linkClear (agent : Agent) (die mask : Nat)
  /-- ACC_PRSNT_N of `slot` has been low for 100 ms (R503) -/
  | accPresent (slot : Nat)
  | mgmtResp (link hub tag : Nat) (payload : List Nat)

  /-- ACC_PRSNT_N of `slot` has been high for 100 µs (R241) -/
  | accRemoved (slot : Nat)
  | trayCastOn (agent : Agent)
  | trayBindOff (agent : Agent)
  | slotCastOn (agent : Agent) (slots : Nat)
  | slotBindOff (agent : Agent) (slots : Nat)
  | castOnGroupEnable
  /-- RAIL_PG of `channel` is sampled at a new level (R230, R234) -/
  | railPgChange (channel : Nat) (high : Bool)
  | railGood (channel : Nat)
  | railNotGood (channel : Nat)
  | railFault (channel : Nat)
  | perstRelease
  | bindOffGroupDrop
  /-- The Power processor's READ_VOUT of a rail reaches the sequencer (R237) -/
  | railVoutRead (channel mv : Nat)
  | railFallen (channel : Nat)
  | railNotFallen (channel : Nat)
  | inputSettleExpire


  /-- READ_POUT of slot `slot`'s five rails summed in mW, none where a read failed (R249) -/
  | ksCalibrate (slot : Nat) (pout : Option Nat)
  /-- READ_PIN of the hot-swap controller in mW, none where it failed (R251) -/
  | auxUpdate (pin : Option Nat)
  | trayEstimate
  | averageRefresh
  | throttleHoldExpire
  | capDutyStep
  | capUnmet
  | guardDutyStep
  | voltageCutWrite
  /-- The read-back of slot `slot`'s core rail in mV (R254) -/
  | voltageConfirm (slot mv : Nat)
  | gaugeMismatch (slot : Nat)
  | hubAllowance
  | powerReleaseWrites
  | rampLimiterTick
  | rampWindowEnd
  | energyAttribute
  /-- The group result of the GAUGE row `row` of die `die`; `others` is the minimum over the other members' records (R262) -/
  | gaugeResult (die row : Nat) (others : List Nat)
  | gaugeApply
  | slowPeriod


  /-- The junction of slot `slot` as read over I3C, none where the read failed (R278) -/
  | accTempRead (slot : Nat) (temp : Option Nat)
  /-- TEMP_SNS `n` reads `value`, two's complement in 0.125 °C (R279) -/
  | thermistorSample (n value : Nat)
  /-- One surrogate tick with the flows in 10 mL/min and the pressures in kPa as the front end latched them (R280) -/
  | surrogateTick (flows presses : List Nat)
  | modelResume
  | valveControl
  | pumpFanControl
  /-- Fan `fan` has been started for 4 s; whether tach pulses have arrived (R296) -/
  | fanStartTimeout (fan : Nat) (pulses : Bool)
  /-- Fan `fan` is kicked; whether the kick brings tach pulses at once, those that come later being FAN_START_TIMEOUT's (R296) -/
  | fanKick (fan : Nat) (pulses : Bool)
  /-- A 1 s tach window ends: each fan's speed and current, each pump's speed (R297, R299) -/
  | tachWindow (rpm current pumpRpm : List Nat)
  | pumpSpeedFail (pump : Nat)
  /-- Fan `fan` is probed at 20% and draws `current` mA (R298) -/
  | fanProbe (fan current : Nat)
  /-- VALVE_POS of valve `valve` reads `position` percent (R300) -/
  | valveFlag (valve position : Nat)
  | floorTick
  | thermalCeiling
  /-- Die `die`'s DTS sensors read `temps`, two's complement in 0.125 °C (R291, R307) -/
  | hubThermalThrottle (die : Nat) (temps : List Nat)
  | overJunction (die : Nat)
  /-- Kiln-trip sensors of die `die` reach 115 °C: bit 0 A, bit 1 B (R293) -/
  | kilnTrip (die sensors : Nat)
  /-- The two kiln-trip sensors of a die are read (R294) -/
  | kilnTripClear (reading : KilnReading)
  /-- ACC_THERMTRIP_N of slot `slot` has been low for 10 µs (R295) -/
  | accThermtrip (slot : Nat)
  | thermtripValveExpire (slot : Nat)
  /-- The loops' resistances in ohms (R301) -/
  | leakSample (ohms : List Nat)
  | wetZoneOrder (zone : Nat)
  | zoneUnguarded (zone : Nat)
  | zoneUnguardClear (zone : Nat)
  | leakClearWrite (agent : Agent) (zones : Nat)
  | coolClearFan (agent : Agent) (fans : Nat)
  | coolClearPump (agent : Agent) (pumps : Nat)
  | coolClearValve (agent : Agent) (valves : Nat)
  | coolClearModel (agent : Agent)
  /-- The RC oscillator's error against the crystal in ppm, two's complement, the hottest warden temperature and its sensor
  (R306) -/
  | rcTrim (error temp index : Nat)
  /-- Voltage monitor `index` of die `die` has been outside its range for 1 ms at `mv` (R307) -/
  | voltAlarm (die index mv : Nat)
  /-- Tile group `group` of die `die` has counted `count` droops in 1 s (R308) -/
  | droopAlarm (die group count : Nat)
  /-- The ring oscillator of tile `tile` of die `die` reads `value` (R309) -/
  | ringOscMeasure (die tile value : Nat)
  | monSelWrite (agent : Agent) (die kind index : Nat)

  /-- The standing report of the hub: step number, gauge and the domains of H0 and H1 (R327) -/
  | crossCheckReport (step gauge domains0 domains1 : Nat)
  | crossCheckMissing
  | containmentRelease
  | memoryRetrainComplete
  /-- The writing of partition `part`'s region ends (R335) -/
  | partitionWipeComplete (part : Nat)
  | hubLatchRelease (agent : Agent)

  /-- The re-execution on tile unit `unit` ends; whether it reproduced the fault (R353) -/
  | shadowComplete (unit : Nat) (reproduced : Bool)
  /-- SDC_SWATCH_CTRL is written (R358) -/
  | swatchOrder (agent : Agent) (run : Bool) (index : Nat)
  | swatchDue (unit : Nat)
  /-- The swatch of unit `unit` ends: whether its duration limit ran out, whether the signature equals the expected one, whether a word
  of a tile's SRAM is uncorrectable, and the failing signature bits (R356, R357, R360) -/
  | swatchEnd (unit : Nat) (aborted signatureOk sramBad : Bool) (failBits : Nat)

  /-- Processor `p`'s watchdog reaches its timeout with the program counter at `pc` (R370, R371) -/
  | watchdogExpire (p pc : Nat)
  /-- A kick of the watchdogs in `mask` by `agent` (R370) -/
  | watchdogKick (agent : Agent) (mask : Nat)
  /-- A trap, or where `word` names one an uncorrectable word, at `pc` (R371, R318) -/
  | processorTrap (p pc : Nat) (word : Option Nat)
  /-- 20 ms into a restart; `copyBad` where the code copy held an uncorrectable word (R368, R372) -/
  | processorRelease (p : Nat) (copyBad : Bool)
  | dutiesResumed (p : Nat)
  | restartTimeout (p : Nat)
  /-- FW_CTRL.revive (R374) -/
  | processorRevive (agent : Agent) (mask : Nat)
  /-- FW_CTRL.restart (R387) -/
  | processorRestartOrder (agent : Agent) (mask : Nat)
  /-- Processor `p` posts an operation on controller `c`, one flag a transfer for a lock to the next, `clocks` warden clocks
  after the generator was last stepped (R379, R381) -/
  | arbPost (p c : Nat) (locks : List Bool) (clocks : Nat)
  /-- The last beat of the transfer on controller `c` (R381, R382, R383) -/
  | arbDraw (c clocks : Nat)
  /-- A write of ARB_TICKET_c (R380) -/
  | arbTicketWrite (agent : Agent) (c : Nat) (high : Bool) (value : Nat)

  /-- A reassembly still incomplete after 100 ms (R389) -/
  | reassemblyTimeout (id : Nat)
  /-- SESSION_OPEN with its preempt flag (R395) -/
  | sessionOpen (m : Msg) (preempt : Bool)
  | sessionClose (m : Msg)
  /-- FEATURES with the partner's 128-bit bitmap (R378) -/
  | features (m : Msg) (bitmap : Nat)
  /-- BUDGET_SET with the budget in W (R402) -/
  | budgetSet (m : Msg) (watts : Nat)
  /-- CAP_SET: 0xFF for the tray or a partition number, the clear bit, the cap in W (R402) -/
  | capSet (m : Msg) (scope : Nat) (clear : Bool) (watts : Nat)
  | gaugeFixOn (m : Msg) (pin : Nat)
  | gaugeFixOff (m : Msg) (pin : Nat)
  | partitionPowerOn (m : Msg) (parts : Nat)
  | partitionPowerOff (m : Msg) (parts : Nat)
  | powerOff (m : Msg)
  | patternSelect (m : Msg) (pattern : Nat) (atStep restart : Bool) (stepLo : Nat)
  /-- ADMIT or EXPEL with a unit identifier (R402) -/
  | admitMsg (m : Msg) (unit : Nat)
  | expel (m : Msg) (unit : Nat)
  | telemetryRead (m : Msg) (offset len : Nat)
  /-- LOG_READ: 0 the error-record ring or 1 + p, first index, count (R402) -/
  | logRead (m : Msg) (ring first count : Nat)
  | traceSet (m : Msg) (hubctl : Nat) (point : Nat) (enable : Bool)
  | recorderFreeze (m : Msg)
  | recorderRelease (m : Msg)
  | recorderRead (m : Msg) (first count : Nat)
  | swatchRun (m : Msg) (unit : Nat)
  | swatchResult (m : Msg) (unit : Nat)
  | clearLatchFan (m : Msg) (index : Nat)
  | clearLatchPump (m : Msg) (index : Nat)
  | clearLatchValve (m : Msg) (index : Nat)
  | clearLatchModel (m : Msg) (index : Nat)
  | clearLatchZone (m : Msg) (index : Nat)
  | clearLatchLink (m : Msg) (index : Nat)
  | clearLatchProcessor (m : Msg) (index : Nat)
  | clearLatchHubHold (m : Msg) (index : Nat)
  | sessionLeaseExpire
  /-- Neither commander has been heard for the silence time (R409) -/
  | actAlone
  | lockoutExpire (source : Nat)
  /-- An ICMPv6 echo request on the management port (R389) -/
  | icmpv6Echo (source ident : Nat)
  /-- A neighbour discovery message for the static (`linkLocal` false) or link-local address (R389) -/
  | neighbourDiscovery (source : Nat) (linkLocal : Bool)
  /-- A fragment of datagram `id`, whose whole length is `need`; `len` bytes of it (R389) -/
  | datagramFragment (id need len : Nat)
  /-- A message with a reserved or a notice code (R393) -/
  | reservedMessageCode (m : Msg) (code : Nat)
  | managementPortLink (up : Bool)

  /-- The Recorder programs the record at the head of its queue; `fail` names a part whose program fails (R418, R419) -/
  | caskWrite (fail : Option Nat)
  /-- The erase of the cask block ahead ends; `ok` is false where it fails (R411, R419) -/
  | blockEraseComplete (ok : Bool)
  /-- The window of the open run numbered `run` expires (R421) -/
  | runClose (run : Nat)
  /-- 600 operating seconds have passed since the last header snapshot (R422) -/
  | headerSnapshot
  /-- The scan after a warden power-on reset (R424) -/
  | caskScan
  /-- A freeze reaches REC_CFG.freeze_max (R425) -/
  | freezeExpire
  /-- One operating second passes (R417) -/
  | operatingSecond

  /-- The loader in VERIFY checks the WARDEN and HUBCTL images (R452) -/
  | wardenVerify (code : CodeImages)
  /-- Steward reads and validates the CONFIG region (R441) -/
  | configValidate (read : ConfigRead)
  /-- Steward loads the hub sections of die `die`: whether the copy's digests match, and whether the CONFIG region still holds the image that
  was verified (R444) -/
  | hubSectionsLoad (die : Nat) (copyOk regionOk : Bool)
  | memoryTrained (die : Nat)
  /-- Steward's check of the TESTSTORE image ends; the pattern sets it holds and the mode the eMMC reached: 1 legacy, 2 HS200, 3 HS400
  (R356, R357, R448, R501) -/
  | teststoreVerify (check : ImageCheck) (held : StoredSets) (mode : Nat)

  /-- UPDATE_BEGIN: type, abort flag, total length (R454) -/
  | updateBegin (m : Msg) (typ : Nat) (abort : Bool) (length : Nat)
  /-- UPDATE_BLOCK: offset, length, and whether the program reads back equal (R455) -/
  | updateBlock (m : Msg) (offset length : Nat) (ok : Bool)
  /-- UPDATE_END; for a TRAYSTAGE image what the region then holds (R456, R464) -/
  | updateEnd (m : Msg) (stage : StageFile)
  /-- SKEIN operation 0 with the header's fields (R457) -/
  | skeinOpen (m : Msg) (header : CustodyHeader)
  | skeinLoad (m : Msg) (offset : Nat) (data : List Nat)
  | skeinPublish (m : Msg)
  | skeinWithdraw (m : Msg)
  /-- ACTIVATE: its flags, and what the verification of the named images finds (R460) -/
  | activateWarden (m : Msg) (flags : Nat) (code : CodeImages)
  | activateHubctl (m : Msg) (flags : Nat) (code : CodeImages)
  | activateFullRestart (m : Msg) (flags : Nat)
  | regionEraseComplete
  | transferIdleExpire
  /-- Steward's read of the custody header; none where it is unreachable or any other answer came (R458) -/
  | tricklePoll (header : Option CustodyHeader)
  | tricklePull
  /-- Skein `index` returns; whether the answer was OK, and where its page is already programmed whether it equals the skein; for a TRAYSTAGE
  image what the region holds once complete (R458) -/
  | skeinReceive (index : Nat) (ok : Bool) (page : Option Bool) (stage : StageFile)
  /-- The status that slot `slot`'s accelerator shows after a chunk (R465) -/
  | pushChunkStatus (slot status : Nat)
  | pushTimeout (slot : Nat)
  /-- Type `typ` has run 600 s; whether the OTP write succeeds (R466) -/
  | svnAdvance (typ : Nat) (ok : Bool)
  | settingsCompact

  /-- ATTEST operation 0 with a nonce, operation 1 with an offset (R488) -/
  | attestReport (m : Msg) (nonce : Nat)
  | attestCertificate (m : Msg) (offset : Nat)
  /-- LIFECYCLE operations (R480). KEY_STAGE gives a slot and the digest of the key -/
  | keyStage (m : Msg) (slot digest : Nat)
  | provision (m : Msg) (st : Statement)
  | deploy (m : Msg) (st : Statement)
  | returnConsent (m : Msg) (st : Statement)
  | returnPart (m : Msg) (st : Statement)
  | retire (m : Msg) (st : Statement)
  | revoke (m : Msg) (st : Statement)
  | unlock (m : Msg) (token : Token)
  | lock (m : Msg)
  | consentLapse
  | debugLimitExpire
  /-- A token shifted in through the warden test port (R485) -/
  | tokenShift (token : Token)
  /-- Maker test programs a BLANK part (R471, R479) -/
  | makerProgramming (data : MakerData)
  /-- Processor `p` is halted through the warden test port (R486) -/
  | debugHalt (p : Nat)

  /-- A target of controller `c` has held the clock low for 35 ms (R501) -/
  | clockHeldLow (c : Nat)
  /-- ARR_INJECT of die `die` is written (R166) -/
  | arrInjectWrite (agent : Agent) (die : Nat) (arm : Bool) (tile : Nat)
deriving DecidableEq, Repr

end Sys2Proof
end

