-- ==== Sys2Proof/Decode.lean ====
section
/-! DEFINITION. Commands spelled by words of the opcode table. The block has no instruction decoder, and no row of the table gives a command
bits: no word spells one. -/

namespace Sys2Proof

/-- The command that the low `nbits` bits of a word spell by the table's bits: none, since no row has any. -/
def decodeTableWord (_nbits _w : Nat) : Option Instr := none

end Sys2Proof
end

