-- ==== Sys2Proof/Config.lean ====
section
/-! DEFINITION. What the spec leaves to the implementation or does not state: free values, which nothing evaluates. -/

namespace Sys2Proof.Config

/-- A value the spec leaves open, drawn for the `n`th time: below 2^32 once reduced (log 3). -/
opaque freeWord : Nat → Nat

/-- The session identifier drawn from the true random source for the `n`th time (R395), before it is made non-zero (log 3). -/
opaque freeSession : Nat → Nat

/-- The seed of the service bus arbiter's generator, drawn from the true random source for the `n`th time (R381; log 3). -/
opaque freeSeed : Nat → Nat

/-- The bytes of a result the spec does not lay out, as one number: a response body, a report or a certificate (log 4). -/
opaque freeBody : Nat → Nat → Nat

/-- What the device certificate for an identity digest holds beside the fields that R474 fixes: the maker key index, the public key and the
signature; for no certificate, what the flash there reads as (log 4). -/
opaque certBody : Nat → Nat

/-- tanh of an FP32 word as the model unit rounds it (R438 states no rounding; log 6). -/
opaque tanh32 : Nat → Nat

/-- The proportional and integral gains of the pump law in thousandths of a percent for 1 kPa (R285 states none; log 6). -/
opaque pumpP : Int
opaque pumpI : Int

/-- How far the warden's continuation counter runs off the rate that it was disciplined to, in ppb, since the moment of its last discipline:
within 2,000 once clamped (R67; log 3). -/
opaque contDrift : Nat → Int

/-- How many hops a hub stands from the cadence master, by its hub number: the image fixes the tree (R60), and no section that the spec lays out
gives the number (log 4). Below 16 once reduced. -/
opaque hops : Nat → Nat

/-- The SHAKE256 digest of the identity public key that a unique secret gives (R473), as one number: no agent reads the secret (R472), and
the model computes no ML-DSA-65 key (log 7). -/
opaque identityDigest : Nat → Nat

/-- The bandwidth in bytes a microsecond that a row leaves free in one direction of the bridge, by the direction and the row's words: a row says
that it carries traffic over the bridge, and no rule says how much (R19, R74; log 75). -/
opaque bridgeLeft : Nat → List Nat → Nat

/-- Check symbol `i` of the outer code over the data symbols of one word of it: R314 gives the codes' lengths and strengths, and no rule gives
their polynomials (log 79). Below 256 once reduced. -/
opaque outerSymbol : List Nat → Nat → Nat

/-- The check byte of a SECDED word (R314 gives the code's size alone; log 79). Below 256 once reduced. -/
opaque secdedByte : Nat → Nat

/-- The data bits of a granule, word or line marked POISON, which are undefined (R315; log 79), by where they lie. Below 256 once reduced. -/
opaque markedByte : Nat → Nat

end Sys2Proof.Config
end

