-- ==== Sys2Proof/Machine/Crc.lean ====
section
/-! DEFINITION. CRC-32C as R75 states it. -/

namespace Sys2Proof.Machine

/-- One bit of the reflected CRC-32C register. -/
def crcBit (c : Nat) : Nat := if c % 2 = 1 then (c / 2) ^^^ 0x82F63B78 else c / 2

/-- Eight bits of the register. -/
def crcByte (c b : Nat) : Nat :=
  crcBit (crcBit (crcBit (crcBit (crcBit (crcBit (crcBit (crcBit (c ^^^ (b % 256)))))))))

/-- CRC-32C of a list of bytes (R75): polynomial 0x1EDC_6F41 reflected, initial value and final exclusive-or all ones. -/
def crc32c (l : List Nat) : Nat := (l.foldl crcByte 0xFFFFFFFF) ^^^ 0xFFFFFFFF

/-! ## Fields of bytes -/

/-- The number in `n` bytes at an offset. -/
def fieldAt (b : List Nat) (o n : Nat) : Nat := ofBytes ((b.drop o).take n)

/-- Whether the bytes from `o` on, `n` of them, are zero. -/
def zeroAt (b : List Nat) (o n : Nat) : Bool := ((b.drop o).take n).all (· % 256 == 0)

/-- Equal pieces of a list of bytes. -/
def piecesOf (size n : Nat) (b : List Nat) : List (List Nat) := (List.range n).map fun k => (b.drop (size * k)).take size

end Sys2Proof.Machine
end

