-- ==== Sys2Proof/Machine/RegMap.lean ====
section
/-! DEFINITION. The fields of the management registers, by register and field name, with the offset, width and Reset value
that the register tables of the chapters give them (R11, R14, R15). Each name is the manual's; `d` is the hub die, `i` the
index within an array of registers. -/

namespace Sys2Proof.R

/-- A field at offset `off` of the management window. -/
def fld (off lo w rst : Nat) : Fld := ⟨off * 32 + lo, w, rst⟩

/-- A field of die `d`'s block (R10: H0 blocks at 0x0100_0000, H1 blocks at 0x0200_0000). -/
def hfld (d off lo w rst : Nat) : Fld := ⟨(0x1000000 * (d + 1) + off) * 32 + lo, w, rst⟩

/-! CAD_STATUS -/
def CAD_STATUS.out_of_range (d : Nat) : Fld := hfld d (0x10000) 8 1 0x0
def CAD_STATUS.renumbered (d : Nat) : Fld := hfld d (0x10000) 7 1 0x0
def CAD_STATUS.holdover (d : Nat) : Fld := hfld d (0x10000) 6 1 0x0
def CAD_STATUS.seeded (d : Nat) : Fld := hfld d (0x10000) 3 1 0x1
def CAD_STATUS.held (d : Nat) : Fld := hfld d (0x10000) 2 1 0x0
def CAD_STATUS.correcting (d : Nat) : Fld := hfld d (0x10000) 1 1 0x0
def CAD_STATUS.stalled (d : Nat) : Fld := hfld d (0x10000) 0 1 0x0
/-! CAD_ANGLE -/
def CAD_ANGLE.corr_remaining (d : Nat) : Fld := hfld d (0x10004) 16 16 0x0
def CAD_ANGLE.angle (d : Nat) : Fld := hfld d (0x10004) 0 16 0x0
/-! CAD_PERIOD_EST -/
def CAD_PERIOD_EST.period (d : Nat) : Fld := hfld d (0x10008) 0 32 0x0
/-! CAD_PERIOD_LAST -/
def CAD_PERIOD_LAST.period (d : Nat) : Fld := hfld d (0x1000c) 0 32 0x0
/-! CAD_STEP_LO -/
def CAD_STEP_LO.step_lo (d : Nat) : Fld := hfld d (0x10010) 0 32 0x0
/-! CAD_STEP_HI -/
def CAD_STEP_HI.step_hi (d : Nat) : Fld := hfld d (0x10014) 0 16 0x0
/-! CAD_MARK_CFG -/
def CAD_MARK_CFG.tolerance (d : Nat) : Fld := hfld d (0x10018) 0 16 0x4000
/-! CAD_MARK_LAST -/
def CAD_MARK_LAST.mark (d : Nat) : Fld := hfld d (0x1001c) 24 8 0x0
def CAD_MARK_LAST.valid (d : Nat) : Fld := hfld d (0x1001c) 23 1 0x0
def CAD_MARK_LAST.acc (d : Nat) : Fld := hfld d (0x1001c) 20 3 0x0
def CAD_MARK_LAST.reason (d : Nat) : Fld := hfld d (0x1001c) 18 2 0x0
def CAD_MARK_LAST.error (d : Nat) : Fld := hfld d (0x1001c) 0 16 0x0
/-! CAD_STALL_COUNT -/
def CAD_STALL_COUNT.count (d : Nat) : Fld := hfld d (0x10020) 0 32 0x0
/-! CAD_MARK_TAKEN -/
def CAD_MARK_TAKEN.count (d : Nat) : Fld := hfld d (0x10024) 0 32 0x0
/-! CAD_MARK_REJECT -/
def CAD_MARK_REJECT.count (d : Nat) : Fld := hfld d (0x10028) 0 32 0x0
/-! CAD_COUNT_OVF -/
def CAD_COUNT_OVF.reject_ovf (d : Nat) : Fld := hfld d (0x1002c) 2 1 0x0
def CAD_COUNT_OVF.taken_ovf (d : Nat) : Fld := hfld d (0x1002c) 1 1 0x0
def CAD_COUNT_OVF.stall_ovf (d : Nat) : Fld := hfld d (0x1002c) 0 1 0x0
/-! CAD_GT_LO -/
def CAD_GT_LO.gt (d : Nat) : Fld := hfld d (0x10040) 0 32 0x0
/-! CAD_GT_HI -/
def CAD_GT_HI.gt (d : Nat) : Fld := hfld d (0x10044) 0 32 0x0
/-! CAD_GT_STATUS -/
def CAD_GT_STATUS.lock_run (d : Nat) : Fld := hfld d (0x10048) 16 8 0x0
def CAD_GT_STATUS.hops (d : Nat) : Fld := hfld d (0x10048) 8 4 0x0
def CAD_GT_STATUS.secondary_in_use (d : Nat) : Fld := hfld d (0x10048) 3 1 0x0
def CAD_GT_STATUS.state (d : Nat) : Fld := hfld d (0x10048) 0 3 0x0
/-! CAD_GT_OFFSET -/
def CAD_GT_OFFSET.offset (d : Nat) : Fld := hfld d (0x1004c) 0 32 0x0
/-! CAD_GT_DELAY -/
def CAD_GT_DELAY.delay (d : Nat) : Fld := hfld d (0x10050) 0 32 0x0
/-! CAD_GT_RATE -/
def CAD_GT_RATE.rate (d : Nat) : Fld := hfld d (0x10054) 0 32 0x0
/-! CAD_GT_CFG -/
def CAD_GT_CFG.master (d : Nat) : Fld := hfld d (0x10058) 14 18 0x0
def CAD_GT_CFG.is_master (d : Nat) : Fld := hfld d (0x10058) 13 1 0x0
def CAD_GT_CFG.secondary_valid (d : Nat) : Fld := hfld d (0x10058) 12 1 0x0
def CAD_GT_CFG.secondary_port (d : Nat) : Fld := hfld d (0x10058) 9 3 0x0
def CAD_GT_CFG.primary_port (d : Nat) : Fld := hfld d (0x10058) 5 3 0x0
/-! CAD_HOLDOVER_TIME -/
def CAD_HOLDOVER_TIME.ms (d : Nat) : Fld := hfld d (0x1005c) 0 32 0x0
/-! PAT_STATUS -/
def PAT_STATUS.desc_reject (d : Nat) : Fld := hfld d (0x20000) 8 1 0x0
def PAT_STATUS.select_late (d : Nat) : Fld := hfld d (0x20000) 7 1 0x0
def PAT_STATUS.window_open (d : Nat) : Fld := hfld d (0x20000) 6 1 0x0
def PAT_STATUS.fence_wait (d : Nat) : Fld := hfld d (0x20000) 5 1 0x0
def PAT_STATUS.single_die (d : Nat) : Fld := hfld d (0x20000) 4 1 0x0
def PAT_STATUS.state (d : Nat) : Fld := hfld d (0x20000) 0 4 0x0
/-! PAT_ACTIVE -/
def PAT_ACTIVE.pattern (d : Nat) : Fld := hfld d (0x20004) 16 8 0x0
def PAT_ACTIVE.ended (d : Nat) : Fld := hfld d (0x20004) 12 1 0x0
def PAT_ACTIVE.next_row (d : Nat) : Fld := hfld d (0x20004) 0 12 0x0
/-! PAT_NEXT -/
def PAT_NEXT.valid (d : Nat) : Fld := hfld d (0x20008) 31 1 0x0
def PAT_NEXT.at_step (d : Nat) : Fld := hfld d (0x20008) 30 1 0x0
def PAT_NEXT.pattern (d : Nat) : Fld := hfld d (0x20008) 0 8 0x0
/-! PAT_NEXT_STEP -/
def PAT_NEXT_STEP.step_lo (d : Nat) : Fld := hfld d (0x2000c) 0 32 0x0
/-! PAT_CTRL -/
def PAT_CTRL.restart (d : Nat) : Fld := hfld d (0x20010) 0 1 0x0
/-! PAT_ERROR -/
def PAT_ERROR.pattern (d : Nat) : Fld := hfld d (0x20014) 24 8 0x0
def PAT_ERROR.valid (d : Nat) : Fld := hfld d (0x20014) 23 1 0x0
def PAT_ERROR.reason (d : Nat) : Fld := hfld d (0x20014) 16 4 0x0
def PAT_ERROR.row (d : Nat) : Fld := hfld d (0x20014) 0 12 0x0
/-! PAT_INFLIGHT -/
def PAT_INFLIGHT.count (d : Nat) : Fld := hfld d (0x20018) 0 5 0x0
/-! PAT_FENCE -/
def PAT_FENCE.waiting (d : Nat) : Fld := hfld d (0x2001c) 16 1 0x0
def PAT_FENCE.last_met (d : Nat) : Fld := hfld d (0x2001c) 0 16 0x0
/-! PAT_DESC_STAGE_LO -/
def PAT_DESC_STAGE_LO.addr (d : Nat) : Fld := hfld d (0x20020) 0 32 0x0
/-! PAT_DESC_STAGE_HI -/
def PAT_DESC_STAGE_HI.addr (d : Nat) : Fld := hfld d (0x20024) 0 32 0x0
/-! PAT_DESC_TAKEN -/
def PAT_DESC_TAKEN.count (d : Nat) : Fld := hfld d (0x20028) 0 32 0x0
/-! PAT_DESC_REJECT -/
def PAT_DESC_REJECT.count (d : Nat) : Fld := hfld d (0x2002c) 0 32 0x0
/-! PAT_LIMIT_COUNT -/
def PAT_LIMIT_COUNT.count (d : Nat) : Fld := hfld d (0x20030) 0 32 0x0
/-! PAT_MALFORMED_COUNT -/
def PAT_MALFORMED_COUNT.count (d : Nat) : Fld := hfld d (0x20034) 0 32 0x0
/-! PAT_COUNT_OVF -/
def PAT_COUNT_OVF.malformed_ovf (d : Nat) : Fld := hfld d (0x20038) 3 1 0x0
def PAT_COUNT_OVF.limit_ovf (d : Nat) : Fld := hfld d (0x20038) 2 1 0x0
def PAT_COUNT_OVF.reject_ovf (d : Nat) : Fld := hfld d (0x20038) 1 1 0x0
def PAT_COUNT_OVF.taken_ovf (d : Nat) : Fld := hfld d (0x20038) 0 1 0x0
/-! PAT_MSET -/
def PAT_MSET.pending (d i : Nat) : Fld := hfld d (0x20100 + 4 * i) 31 1 0x0
def PAT_MSET.hub_granular (d i : Nat) : Fld := hfld d (0x20100 + 4 * i) 30 1 0x0
def PAT_MSET.size (d i : Nat) : Fld := hfld d (0x20100 + 4 * i) 0 17 0x0
/-! COL_STATUS -/
def COL_STATUS.transit (d : Nat) : Fld := hfld d (0x30000) 4 1 0x0
def COL_STATUS.fused_held (d : Nat) : Fld := hfld d (0x30000) 3 1 0x0
def COL_STATUS.poison_out (d : Nat) : Fld := hfld d (0x30000) 2 1 0x0
def COL_STATUS.late_drop (d : Nat) : Fld := hfld d (0x30000) 1 1 0x0
def COL_STATUS.stage_full (d : Nat) : Fld := hfld d (0x30000) 0 1 0x0
/-! COL_ROUTES -/
def COL_ROUTES.count (d : Nat) : Fld := hfld d (0x30004) 0 17 0x0
/-! COL_STAGE_USED -/
def COL_STAGE_USED.mib (d : Nat) : Fld := hfld d (0x30008) 0 14 0x0
/-! COL_STAGE_PEAK -/
def COL_STAGE_PEAK.mib (d : Nat) : Fld := hfld d (0x3000c) 0 14 0x0
/-! COL_EARLY_COUNT -/
def COL_EARLY_COUNT.count (d : Nat) : Fld := hfld d (0x30010) 0 32 0x0
/-! COL_LATE_DROP -/
def COL_LATE_DROP.count (d : Nat) : Fld := hfld d (0x30014) 0 32 0x0
/-! COL_POISON_OUT -/
def COL_POISON_OUT.count (d : Nat) : Fld := hfld d (0x30018) 0 32 0x0
/-! COL_FUSED_HELD -/
def COL_FUSED_HELD.count (d : Nat) : Fld := hfld d (0x3001c) 0 32 0x0
/-! COL_TRANSIT_LO -/
def COL_TRANSIT_LO.count (d : Nat) : Fld := hfld d (0x30020) 0 32 0x0
/-! COL_TRANSIT_HI -/
def COL_TRANSIT_HI.count (d : Nat) : Fld := hfld d (0x30024) 0 32 0x0
/-! COL_ADDS_LO -/
def COL_ADDS_LO.count (d : Nat) : Fld := hfld d (0x30028) 0 32 0x0
/-! COL_ADDS_HI -/
def COL_ADDS_HI.count (d : Nat) : Fld := hfld d (0x3002c) 0 32 0x0
/-! COL_COUNT_OVF -/
def COL_COUNT_OVF.held_ovf (d : Nat) : Fld := hfld d (0x30030) 3 1 0x0
def COL_COUNT_OVF.poison_ovf (d : Nat) : Fld := hfld d (0x30030) 2 1 0x0
def COL_COUNT_OVF.late_ovf (d : Nat) : Fld := hfld d (0x30030) 1 1 0x0
def COL_COUNT_OVF.early_ovf (d : Nat) : Fld := hfld d (0x30030) 0 1 0x0
/-! COL_LAST_ERROR -/
def COL_LAST_ERROR.valid (d : Nat) : Fld := hfld d (0x30034) 31 1 0x0
def COL_LAST_ERROR.cause (d : Nat) : Fld := hfld d (0x30034) 24 4 0x0
def COL_LAST_ERROR.pattern (d : Nat) : Fld := hfld d (0x30034) 16 8 0x0
def COL_LAST_ERROR.row (d : Nat) : Fld := hfld d (0x30034) 0 12 0x0
/-! ARR_STATUS -/
def ARR_STATUS.basis_kept (d : Nat) : Fld := hfld d (0x40000) 3 1 0x0
def ARR_STATUS.nan_out (d : Nat) : Fld := hfld d (0x40000) 2 1 0x0
def ARR_STATUS.saturate (d : Nat) : Fld := hfld d (0x40000) 1 1 0x0
def ARR_STATUS.check_fail (d : Nat) : Fld := hfld d (0x40000) 0 1 0x0
/-! ARR_FORMATS_LO -/
def ARR_FORMATS_LO.codes (d : Nat) : Fld := hfld d (0x40004) 0 32 0x3f007e
/-! ARR_FORMATS_HI -/
def ARR_FORMATS_HI.codes (d : Nat) : Fld := hfld d (0x40008) 0 32 0xf
/-! ARR_LOWRANK_CFG -/
def ARR_LOWRANK_CFG.interval (d : Nat) : Fld := hfld d (0x4000c) 0 11 0x10
/-! ARR_BASIS_STATUS -/
def ARR_BASIS_STATUS.step (d : Nat) : Fld := hfld d (0x40010) 16 16 0x0
def ARR_BASIS_STATUS.kept (d : Nat) : Fld := hfld d (0x40010) 15 1 0x0
def ARR_BASIS_STATUS.row (d : Nat) : Fld := hfld d (0x40010) 0 6 0x0
/-! ARR_CHECK_FAIL -/
def ARR_CHECK_FAIL.count (d : Nat) : Fld := hfld d (0x40014) 0 32 0x0
/-! ARR_SATURATE -/
def ARR_SATURATE.count (d : Nat) : Fld := hfld d (0x40018) 0 32 0x0
/-! ARR_NAN_OUT -/
def ARR_NAN_OUT.count (d : Nat) : Fld := hfld d (0x4001c) 0 32 0x0
/-! ARR_BASIS_KEPT -/
def ARR_BASIS_KEPT.count (d : Nat) : Fld := hfld d (0x40020) 0 32 0x0
/-! ARR_COUNT_OVF -/
def ARR_COUNT_OVF.kept_ovf (d : Nat) : Fld := hfld d (0x40024) 3 1 0x0
def ARR_COUNT_OVF.nan_ovf (d : Nat) : Fld := hfld d (0x40024) 2 1 0x0
def ARR_COUNT_OVF.sat_ovf (d : Nat) : Fld := hfld d (0x40024) 1 1 0x0
def ARR_COUNT_OVF.check_ovf (d : Nat) : Fld := hfld d (0x40024) 0 1 0x0
/-! ARR_LAST_ERROR -/
def ARR_LAST_ERROR.valid (d : Nat) : Fld := hfld d (0x40028) 31 1 0x0
def ARR_LAST_ERROR.cause (d : Nat) : Fld := hfld d (0x40028) 26 4 0x0
def ARR_LAST_ERROR.tile (d : Nat) : Fld := hfld d (0x40028) 20 6 0x0
def ARR_LAST_ERROR.pattern (d : Nat) : Fld := hfld d (0x40028) 12 8 0x0
def ARR_LAST_ERROR.row (d : Nat) : Fld := hfld d (0x40028) 0 12 0x0
/-! ARR_INJECT -/
def ARR_INJECT.arm (d : Nat) : Fld := hfld d (0x4002c) 31 1 0x0
def ARR_INJECT.tile (d : Nat) : Fld := hfld d (0x4002c) 0 6 0x0
/-! ARR_MACS_LO -/
def ARR_MACS_LO.count (d : Nat) : Fld := hfld d (0x40030) 0 32 0x0
/-! ARR_MACS_HI -/
def ARR_MACS_HI.count (d : Nat) : Fld := hfld d (0x40034) 0 32 0x0
/-! MEM_STATUS -/
def MEM_STATUS.lqp1_busy (d : Nat) : Fld := hfld d (0x50000) 5 1 0x0
def MEM_STATUS.lqp0_busy (d : Nat) : Fld := hfld d (0x50000) 4 1 0x0
def MEM_STATUS.poison (d : Nat) : Fld := hfld d (0x50000) 3 1 0x0
def MEM_STATUS.timeout (d : Nat) : Fld := hfld d (0x50000) 2 1 0x0
def MEM_STATUS.denied (d : Nat) : Fld := hfld d (0x50000) 1 1 0x0
def MEM_STATUS.queue_full (d : Nat) : Fld := hfld d (0x50000) 0 1 0x0
/-! MEM_OPEN_CFG -/
def MEM_OPEN_CFG.timeout (d : Nat) : Fld := hfld d (0x50004) 16 10 0x14
def MEM_OPEN_CFG.retry_hint (d : Nat) : Fld := hfld d (0x50004) 0 10 0xa
/-! MEM_SHARE -/
def MEM_SHARE.pool_applied (d : Nat) : Fld := hfld d (0x50008) 24 8 0x0
def MEM_SHARE.link_applied (d : Nat) : Fld := hfld d (0x50008) 16 8 0x0
def MEM_SHARE.pool_share (d : Nat) : Fld := hfld d (0x50008) 8 8 0x0
def MEM_SHARE.link_share (d : Nat) : Fld := hfld d (0x50008) 0 8 0x0
/-! MEM_PARTITION -/
def MEM_PARTITION.count (d : Nat) : Fld := hfld d (0x5000c) 24 4 0x1
def MEM_PARTITION.map (d : Nat) : Fld := hfld d (0x5000c) 0 24 0x0
/-! MEM_CTX -/
def MEM_CTX.peak (d : Nat) : Fld := hfld d (0x50010) 16 14 0x0
def MEM_CTX.used (d : Nat) : Fld := hfld d (0x50010) 0 14 0x0
/-! MEM_FENCED_LO -/
def MEM_FENCED_LO.tiles (d : Nat) : Fld := hfld d (0x50014) 0 32 0x0
/-! MEM_FENCED_HI -/
def MEM_FENCED_HI.tiles (d : Nat) : Fld := hfld d (0x50018) 0 32 0x0
/-! MEM_LAST_REFUSE -/
def MEM_LAST_REFUSE.valid (d : Nat) : Fld := hfld d (0x5001c) 31 1 0x0
def MEM_LAST_REFUSE.response (d : Nat) : Fld := hfld d (0x5001c) 28 3 0x0
def MEM_LAST_REFUSE.class (d : Nat) : Fld := hfld d (0x5001c) 26 2 0x0
def MEM_LAST_REFUSE.queue (d : Nat) : Fld := hfld d (0x5001c) 16 8 0x0
/-! MEM_LAST_ADDR_LO -/
def MEM_LAST_ADDR_LO.addr (d : Nat) : Fld := hfld d (0x50020) 0 32 0x0
/-! MEM_LAST_ADDR_HI -/
def MEM_LAST_ADDR_HI.addr (d : Nat) : Fld := hfld d (0x50024) 0 32 0x0
/-! MEM_RETRY_COUNT -/
def MEM_RETRY_COUNT.count (d : Nat) : Fld := hfld d (0x50028) 0 32 0x0
/-! MEM_BUSY_COUNT -/
def MEM_BUSY_COUNT.count (d : Nat) : Fld := hfld d (0x5002c) 0 32 0x0
/-! MEM_DENIED_COUNT -/
def MEM_DENIED_COUNT.count (d : Nat) : Fld := hfld d (0x50030) 0 32 0x0
/-! MEM_INVALID_COUNT -/
def MEM_INVALID_COUNT.count (d : Nat) : Fld := hfld d (0x50034) 0 32 0x0
/-! MEM_POISON_COUNT -/
def MEM_POISON_COUNT.count (d : Nat) : Fld := hfld d (0x50038) 0 32 0x0
/-! MEM_TIMEOUT_COUNT -/
def MEM_TIMEOUT_COUNT.count (d : Nat) : Fld := hfld d (0x5003c) 0 32 0x0
/-! MEM_COUNT_OVF -/
def MEM_COUNT_OVF.timeout_ovf (d : Nat) : Fld := hfld d (0x50040) 5 1 0x0
def MEM_COUNT_OVF.poison_ovf (d : Nat) : Fld := hfld d (0x50040) 4 1 0x0
def MEM_COUNT_OVF.invalid_ovf (d : Nat) : Fld := hfld d (0x50040) 3 1 0x0
def MEM_COUNT_OVF.denied_ovf (d : Nat) : Fld := hfld d (0x50040) 2 1 0x0
def MEM_COUNT_OVF.busy_ovf (d : Nat) : Fld := hfld d (0x50040) 1 1 0x0
def MEM_COUNT_OVF.retry_ovf (d : Nat) : Fld := hfld d (0x50040) 0 1 0x0
/-! MEM_LAST_SOURCE -/
def MEM_LAST_SOURCE.kind (d : Nat) : Fld := hfld d (0x50044) 21 2 0x0
def MEM_LAST_SOURCE.slot (d : Nat) : Fld := hfld d (0x50044) 18 3 0x0
def MEM_LAST_SOURCE.hub (d : Nat) : Fld := hfld d (0x50044) 0 18 0x0
/-! MEM_OPEN_BYTES_LO -/
def MEM_OPEN_BYTES_LO.count (d : Nat) : Fld := hfld d (0x50048) 0 32 0x0
/-! MEM_OPEN_BYTES_HI -/
def MEM_OPEN_BYTES_HI.count (d : Nat) : Fld := hfld d (0x5004c) 0 32 0x0
/-! MEM_GUARD_0 -/
def MEM_GUARD_0.valid (d i : Nat) : Fld := hfld d (0x50100 + 32 * i) 31 1 0x0
def MEM_GUARD_0.unit (d i : Nat) : Fld := hfld d (0x50100 + 32 * i) 0 30 0x0
/-! MEM_GUARD_1 -/
def MEM_GUARD_1.valid (d i : Nat) : Fld := hfld d (0x50104 + 32 * i) 31 1 0x0
def MEM_GUARD_1.unit (d i : Nat) : Fld := hfld d (0x50104 + 32 * i) 0 30 0x0
/-! MEM_GUARD_2 -/
def MEM_GUARD_2.remote_perm (d i : Nat) : Fld := hfld d (0x50108 + 32 * i) 28 3 0x0
def MEM_GUARD_2.host_perm (d i : Nat) : Fld := hfld d (0x50108 + 32 * i) 24 3 0x0
def MEM_GUARD_2.part_perm (d i : Nat) : Fld := hfld d (0x50108 + 32 * i) 0 24 0x0
/-! MEM_GUARD_3 -/
def MEM_GUARD_3.remote_parts (d i : Nat) : Fld := hfld d (0x5010c + 32 * i) 0 8 0x0
/-! MEM_GUARD_4 -/
def MEM_GUARD_4.hub (d i : Nat) : Fld := hfld d (0x50110 + 32 * i) 0 18 0x0
/-! MEM_GUARD_5 -/
def MEM_GUARD_5.hub (d i : Nat) : Fld := hfld d (0x50114 + 32 * i) 0 18 0x0
/-! MEM_GUARD_6 -/
/-! MEM_GUARD_7 -/
/-! MEM_QUEUE -/
def MEM_QUEUE.enabled (d i : Nat) : Fld := hfld d (0x51000 + 4 * i) 31 1 0x0
def MEM_QUEUE.busy (d i : Nat) : Fld := hfld d (0x51000 + 4 * i) 30 1 0x0
def MEM_QUEUE.allowance_used (d i : Nat) : Fld := hfld d (0x51000 + 4 * i) 29 1 0x0
def MEM_QUEUE.waiting (d i : Nat) : Fld := hfld d (0x51000 + 4 * i) 16 11 0x0
def MEM_QUEUE.weight (d i : Nat) : Fld := hfld d (0x51000 + 4 * i) 0 8 0x1
/-! LNK_STATE -/
def LNK_STATE.cause (d i : Nat) : Fld := hfld d (0x60000 + 32 * i) 24 4 0x0
def LNK_STATE.attempts (d i : Nat) : Fld := hfld d (0x60000 + 32 * i) 16 8 0x0
def LNK_STATE.lane (d i : Nat) : Fld := hfld d (0x60000 + 32 * i) 12 4 0x0
def LNK_STATE.admitted (d i : Nat) : Fld := hfld d (0x60000 + 32 * i) 11 1 0x0
def LNK_STATE.host_port (d i : Nat) : Fld := hfld d (0x60000 + 32 * i) 10 1 0x0
def LNK_STATE.reversed (d i : Nat) : Fld := hfld d (0x60000 + 32 * i) 9 1 0x0
def LNK_STATE.present (d i : Nat) : Fld := hfld d (0x60000 + 32 * i) 8 1 0x0
def LNK_STATE.state (d i : Nat) : Fld := hfld d (0x60000 + 32 * i) 0 3 0x0
/-! LNK_CFG -/
def LNK_CFG.admit_delay (d i : Nat) : Fld := hfld d (0x60004 + 32 * i) 16 10 0xa
def LNK_CFG.auto_admit (d i : Nat) : Fld := hfld d (0x60004 + 32 * i) 1 1 0x1
def LNK_CFG.enabled (d i : Nat) : Fld := hfld d (0x60004 + 32 * i) 0 1 0x0
/-! LNK_FEC_CORR_LO -/
def LNK_FEC_CORR_LO.count (d i : Nat) : Fld := hfld d (0x60008 + 32 * i) 0 32 0x0
/-! LNK_FEC_CORR_HI -/
def LNK_FEC_CORR_HI.count (d i : Nat) : Fld := hfld d (0x6000c + 32 * i) 0 32 0x0
/-! LNK_FEC_UNCORR -/
def LNK_FEC_UNCORR.count (d i : Nat) : Fld := hfld d (0x60010 + 32 * i) 0 32 0x0
/-! LNK_REPLAY -/
def LNK_REPLAY.count (d i : Nat) : Fld := hfld d (0x60014 + 32 * i) 0 32 0x0
/-! LNK_DOWN -/
def LNK_DOWN.count (d i : Nat) : Fld := hfld d (0x60018 + 32 * i) 0 32 0x0
/-! LNK_PEER -/
def LNK_PEER.kind (d i : Nat) : Fld := hfld d (0x6001c + 32 * i) 21 2 0x0
def LNK_PEER.port (d i : Nat) : Fld := hfld d (0x6001c + 32 * i) 18 3 0x0
def LNK_PEER.hub (d i : Nat) : Fld := hfld d (0x6001c + 32 * i) 0 18 0x0
/-! LNK_COUNT_OVF -/
def LNK_COUNT_OVF.reject_ovf (d : Nat) : Fld := hfld d (0x60100) 24 1 0x0
def LNK_COUNT_OVF.link_ovf (d : Nat) : Fld := hfld d (0x60100) 0 24 0x0
/-! LNK_CTRL -/
def LNK_CTRL.clear (d : Nat) : Fld := hfld d (0x60104) 8 8 0x0
def LNK_CTRL.retrain (d : Nat) : Fld := hfld d (0x60104) 0 8 0x0
/-! LNK_CTL_REJECT -/
def LNK_CTL_REJECT.count (d : Nat) : Fld := hfld d (0x60108) 0 32 0x0
/-! LNK_ASYM -/
def LNK_ASYM.asym (d i : Nat) : Fld := hfld d (0x60110 + 4 * i) 0 32 0x0
/-! LNK_MODULE -/
def LNK_MODULE.temp (d i : Nat) : Fld := hfld d (0x60120 + 4 * i) 24 8 0x0
def LNK_MODULE.power_class (d i : Nat) : Fld := hfld d (0x60120 + 4 * i) 8 4 0x0
def LNK_MODULE.cmis_state (d i : Nat) : Fld := hfld d (0x60120 + 4 * i) 5 3 0x0
def LNK_MODULE.refused (d i : Nat) : Fld := hfld d (0x60120 + 4 * i) 4 1 0x0
def LNK_MODULE.fault (d i : Nat) : Fld := hfld d (0x60120 + 4 * i) 3 1 0x0
def LNK_MODULE.passive (d i : Nat) : Fld := hfld d (0x60120 + 4 * i) 2 1 0x0
def LNK_MODULE.present (d i : Nat) : Fld := hfld d (0x60120 + 4 * i) 1 1 0x0
/-! SEQ_STATUS -/
def SEQ_STATUS.flagged : Fld := fld (0x100000) 24 1 0x0
def SEQ_STATUS.scope : Fld := fld (0x100000) 16 8 0x0
def SEQ_STATUS.entry : Fld := fld (0x100000) 8 6 0x0
def SEQ_STATUS.slot_seq : Fld := fld (0x100000) 4 1 0x0
def SEQ_STATUS.state : Fld := fld (0x100000) 0 4 0x0
/-! SEQ_CFG -/
def SEQ_CFG.bind_order : Fld := fld (0x100004) 27 1 0x0
def SEQ_CFG.entries : Fld := fld (0x100004) 20 7 0x0
def SEQ_CFG.input_settle : Fld := fld (0x100004) 10 10 0x64
def SEQ_CFG.perst_delay : Fld := fld (0x100004) 0 10 0xa
/-! SEQ_CTRL -/
def SEQ_CTRL.tray_on : Fld := fld (0x100008) 17 1 0x0
def SEQ_CTRL.tray_off : Fld := fld (0x100008) 16 1 0x0
def SEQ_CTRL.slots_off : Fld := fld (0x100008) 8 8 0x0
def SEQ_CTRL.slots_on : Fld := fld (0x100008) 0 8 0x0
/-! SEQ_HOLD -/
def SEQ_HOLD.input_off : Fld := fld (0x10000c) 18 1 0x0
def SEQ_HOLD.h1_held : Fld := fld (0x10000c) 17 1 0x0
def SEQ_HOLD.h0_held : Fld := fld (0x10000c) 16 1 0x0
def SEQ_HOLD.slot_flagged : Fld := fld (0x10000c) 8 8 0x0
def SEQ_HOLD.slot_reset : Fld := fld (0x10000c) 0 8 0xff
/-! SEQ_EN_LO -/
def SEQ_EN_LO.channels : Fld := fld (0x100010) 0 32 0x0
/-! SEQ_EN_HI -/
def SEQ_EN_HI.channels : Fld := fld (0x100014) 0 32 0x0
/-! SEQ_PG_LO -/
def SEQ_PG_LO.channels : Fld := fld (0x100018) 0 32 0x0
/-! SEQ_PG_HI -/
def SEQ_PG_HI.channels : Fld := fld (0x10001c) 0 32 0x0
/-! SEQ_GOOD_LO -/
def SEQ_GOOD_LO.channels : Fld := fld (0x100020) 0 32 0x0
/-! SEQ_GOOD_HI -/
def SEQ_GOOD_HI.channels : Fld := fld (0x100024) 0 32 0x0
/-! SEQ_NOTGOOD_LO -/
def SEQ_NOTGOOD_LO.channels : Fld := fld (0x100028) 0 32 0x0
/-! SEQ_NOTGOOD_HI -/
def SEQ_NOTGOOD_HI.channels : Fld := fld (0x10002c) 0 32 0x0
/-! SEQ_CHATTER_LO -/
def SEQ_CHATTER_LO.channels : Fld := fld (0x100030) 0 32 0x0
/-! SEQ_CHATTER_HI -/
def SEQ_CHATTER_HI.channels : Fld := fld (0x100034) 0 32 0x0
/-! SEQ_NOTFALLEN_LO -/
def SEQ_NOTFALLEN_LO.channels : Fld := fld (0x100038) 0 32 0x0
/-! SEQ_NOTFALLEN_HI -/
def SEQ_NOTFALLEN_HI.channels : Fld := fld (0x10003c) 0 32 0x0
/-! SEQ_FAULT_LO -/
def SEQ_FAULT_LO.channels : Fld := fld (0x100040) 0 32 0x0
/-! SEQ_FAULT_HI -/
def SEQ_FAULT_HI.channels : Fld := fld (0x100044) 0 32 0x0
/-! SEQ_GLITCH_COUNT -/
def SEQ_GLITCH_COUNT.count : Fld := fld (0x100048) 0 32 0x0
/-! SEQ_FAULT_COUNT -/
def SEQ_FAULT_COUNT.count : Fld := fld (0x10004c) 0 32 0x0
/-! SEQ_RUN_COUNT -/
def SEQ_RUN_COUNT.count : Fld := fld (0x100050) 0 32 0x0
/-! SEQ_COUNT_OVF -/
def SEQ_COUNT_OVF.run_ovf : Fld := fld (0x100054) 2 1 0x0
def SEQ_COUNT_OVF.fault_ovf : Fld := fld (0x100054) 1 1 0x0
def SEQ_COUNT_OVF.glitch_ovf : Fld := fld (0x100054) 0 1 0x0
/-! SEQ_TRACE_HEAD -/
def SEQ_TRACE_HEAD.wrapped : Fld := fld (0x100058) 12 1 0x0
def SEQ_TRACE_HEAD.next : Fld := fld (0x100058) 0 12 0x0
/-! SEQ_TRACE_IDX -/
def SEQ_TRACE_IDX.index : Fld := fld (0x10005c) 0 12 0x0
/-! SEQ_TRACE_DATA -/
def SEQ_TRACE_DATA.word (i : Nat) : Fld := fld (0x100060 + 4 * i) 0 32 0x0
/-! SEQ_RAIL -/
def SEQ_RAIL.rise (i : Nat) : Fld := fld (0x100100 + 4 * i) 16 16 0x0
def SEQ_RAIL.listed (i : Nat) : Fld := fld (0x100100 + 4 * i) 12 1 0x0
def SEQ_RAIL.skipped (i : Nat) : Fld := fld (0x100100 + 4 * i) 11 1 0x0
def SEQ_RAIL.state (i : Nat) : Fld := fld (0x100100 + 4 * i) 8 3 0x0
def SEQ_RAIL.chatter (i : Nat) : Fld := fld (0x100100 + 4 * i) 0 5 0x0
/-! PWR_STATUS -/
def PWR_STATUS.partial : Fld := fld (0x110000) 11 1 0x0
def PWR_STATUS.degraded : Fld := fld (0x110000) 10 1 0x0
def PWR_STATUS.guard : Fld := fld (0x110000) 9 1 0x0
def PWR_STATUS.substitute : Fld := fld (0x110000) 8 1 0x0
def PWR_STATUS.unmet : Fld := fld (0x110000) 7 1 0x0
def PWR_STATUS.ramp : Fld := fld (0x110000) 6 1 0x0
def PWR_STATUS.lagging : Fld := fld (0x110000) 5 1 0x0
def PWR_STATUS.fixed_broken : Fld := fld (0x110000) 4 1 0x0
def PWR_STATUS.fixed : Fld := fld (0x110000) 3 1 0x0
def PWR_STATUS.unmet_seen : Fld := fld (0x110000) 2 1 0x0
def PWR_STATUS.lagging_seen : Fld := fld (0x110000) 1 1 0x0
def PWR_STATUS.broken_seen : Fld := fld (0x110000) 0 1 0x0
/-! PWR_GAUGE -/
def PWR_GAUGE.result : Fld := fld (0x110004) 24 6 0x0
def PWR_GAUGE.below_zero : Fld := fld (0x110004) 23 1 0x0
def PWR_GAUGE.result_valid : Fld := fld (0x110004) 22 1 0x0
def PWR_GAUGE.cap_level : Fld := fld (0x110004) 16 6 0x0
def PWR_GAUGE.request : Fld := fld (0x110004) 8 6 0x0
def PWR_GAUGE.gauge : Fld := fld (0x110004) 0 6 0x0
/-! PWR_GAUGE_CFG -/
def PWR_GAUGE_CFG.raise_holdoff : Fld := fld (0x110008) 24 8 0x8
def PWR_GAUGE_CFG.raise_margin : Fld := fld (0x110008) 16 8 0x5
def PWR_GAUGE_CFG.settle : Fld := fld (0x110008) 6 10 0x14
def PWR_GAUGE_CFG.start : Fld := fld (0x110008) 0 6 0x28
/-! PWR_FIX -/
def PWR_FIX.enabled : Fld := fld (0x11000c) 31 1 0x0
def PWR_FIX.pin : Fld := fld (0x11000c) 0 6 0x30
/-! PWR_BUDGET -/
def PWR_BUDGET.tray_max : Fld := fld (0x110010) 16 16 0x0
def PWR_BUDGET.budget : Fld := fld (0x110010) 0 16 0x0
/-! PWR_CAP_EFF -/
def PWR_CAP_EFF.source : Fld := fld (0x110014) 16 4 0x0
def PWR_CAP_EFF.cap : Fld := fld (0x110014) 0 16 0x0
/-! PWR_CAPS -/
def PWR_CAPS.host : Fld := fld (0x110018) 16 16 0xffff
def PWR_CAPS.rack_manager : Fld := fld (0x110018) 0 16 0xffff
/-! PWR_TRAY_EST -/
def PWR_TRAY_EST.aux : Fld := fld (0x11001c) 16 16 0x0
def PWR_TRAY_EST.tray : Fld := fld (0x11001c) 0 16 0x0
/-! PWR_HUB -/
def PWR_HUB.allowance : Fld := fld (0x110020) 16 10 0x258
def PWR_HUB.estimate : Fld := fld (0x110020) 0 10 0x0
/-! PWR_THROTTLE_CFG -/
def PWR_THROTTLE_CFG.slow_period : Fld := fld (0x110024) 16 8 0xa
def PWR_THROTTLE_CFG.hold : Fld := fld (0x110024) 0 7 0xa
/-! PWR_RAMP_CFG -/
def PWR_RAMP_CFG.slope : Fld := fld (0x110028) 16 16 0x7d0
def PWR_RAMP_CFG.lead : Fld := fld (0x110028) 0 16 0x32
/-! PWR_UNMET -/
def PWR_UNMET.shortfall : Fld := fld (0x11002c) 0 16 0x0
/-! PWR_DUTY -/
def PWR_DUTY.duty : Fld := fld (0x110030) 0 32 0x88888888
/-! PWR_LAGGING_COUNT -/
def PWR_LAGGING_COUNT.count : Fld := fld (0x110034) 0 32 0x0
/-! PWR_UNMET_COUNT -/
def PWR_UNMET_COUNT.count : Fld := fld (0x110038) 0 32 0x0
/-! PWR_HINT_DROP -/
def PWR_HINT_DROP.count : Fld := fld (0x11003c) 0 32 0x0
/-! PWR_BROKEN_COUNT -/
def PWR_BROKEN_COUNT.count : Fld := fld (0x110040) 0 32 0x0
/-! PWR_COUNT_OVF -/
def PWR_COUNT_OVF.broken_ovf : Fld := fld (0x110044) 3 1 0x0
def PWR_COUNT_OVF.hint_ovf : Fld := fld (0x110044) 2 1 0x0
def PWR_COUNT_OVF.unmet_ovf : Fld := fld (0x110044) 1 1 0x0
def PWR_COUNT_OVF.lagging_ovf : Fld := fld (0x110044) 0 1 0x0
/-! PWR_SHARE_CFG -/
def PWR_SHARE_CFG.hub_weight : Fld := fld (0x110048) 24 8 0xd
def PWR_SHARE_CFG.hub_min : Fld := fld (0x110048) 14 10 0x12c
def PWR_SHARE_CFG.aux_min : Fld := fld (0x110048) 0 13 0x12c
/-! PWR_ACC -/
def PWR_ACC.activity_lost (i : Nat) : Fld := fld (0x110080 + 4 * i) 31 1 0x0
def PWR_ACC.substitute (i : Nat) : Fld := fld (0x110080 + 4 * i) 30 1 0x0
def PWR_ACC.scale (i : Nat) : Fld := fld (0x110080 + 4 * i) 16 14 0x1000
def PWR_ACC.estimate (i : Nat) : Fld := fld (0x110080 + 4 * i) 0 16 0x0
/-! PWR_PART -/
def PWR_PART.estimate (i : Nat) : Fld := fld (0x1100a0 + 4 * i) 16 16 0x0
def PWR_PART.cap (i : Nat) : Fld := fld (0x1100a0 + 4 * i) 0 16 0xffff
/-! PWR_ENERGY_LO -/
def PWR_ENERGY_LO.count (i : Nat) : Fld := fld (0x110100 + 8 * i) 0 32 0x0
/-! PWR_ENERGY_HI -/
def PWR_ENERGY_HI.count (i : Nat) : Fld := fld (0x110104 + 8 * i) 0 32 0x0
/-! PWR_DOMAIN_H -/
def PWR_DOMAIN_H.pending (i : Nat) : Fld := fld (0x11f000 + 4 * i) 27 1 0x0
def PWR_DOMAIN_H.on (i : Nat) : Fld := fld (0x11f000 + 4 * i) 0 27 0x0
/-! PWR_DOMAIN_W -/
def PWR_DOMAIN_W.w1_on : Fld := fld (0x11f008) 1 1 0x0
def PWR_DOMAIN_W.w0_on : Fld := fld (0x11f008) 0 1 0x0
/-! COOL_STATUS -/
def COOL_STATUS.over_junction : Fld := fld (0x120000) 12 1 0x0
def COOL_STATUS.thermtrip_seen : Fld := fld (0x120000) 11 1 0x0
def COOL_STATUS.no_pump : Fld := fld (0x120000) 10 1 0x0
def COOL_STATUS.valve_flagged : Fld := fld (0x120000) 9 1 0x0
def COOL_STATUS.pump_failed : Fld := fld (0x120000) 8 1 0x0
def COOL_STATUS.fan_failed : Fld := fld (0x120000) 7 1 0x0
def COOL_STATUS.suspect : Fld := fld (0x120000) 6 1 0x0
def COOL_STATUS.implausible : Fld := fld (0x120000) 5 1 0x0
def COOL_STATUS.floor_raising : Fld := fld (0x120000) 4 1 0x0
def COOL_STATUS.table_reason : Fld := fld (0x120000) 2 2 0x0
def COOL_STATUS.mode : Fld := fld (0x120000) 0 2 0x2
/-! COOL_THERMAL -/
def COOL_THERMAL.excess : Fld := fld (0x120004) 16 16 0x0
def COOL_THERMAL.slot : Fld := fld (0x120004) 8 3 0x0
def COOL_THERMAL.ceiling : Fld := fld (0x120004) 0 6 0x3f
/-! COOL_HUB_THR -/
def COOL_HUB_THR.h1_factor : Fld := fld (0x120008) 24 8 0x64
def COOL_HUB_THR.h0_factor : Fld := fld (0x120008) 16 8 0x64
def COOL_HUB_THR.h1_excess : Fld := fld (0x120008) 8 8 0x0
def COOL_HUB_THR.h0_excess : Fld := fld (0x120008) 0 8 0x0
/-! COOL_KILN -/
def COOL_KILN.h1_sensor : Fld := fld (0x12000c) 4 2 0x0
def COOL_KILN.h0_sensor : Fld := fld (0x12000c) 2 2 0x0
def COOL_KILN.h1_trip : Fld := fld (0x12000c) 1 1 0x0
def COOL_KILN.h0_trip : Fld := fld (0x12000c) 0 1 0x0
/-! COOL_CLEAR -/
def COOL_CLEAR.model : Fld := fld (0x120010) 18 1 0x0
def COOL_CLEAR.valves : Fld := fld (0x120010) 10 8 0x0
def COOL_CLEAR.pumps : Fld := fld (0x120010) 8 2 0x0
def COOL_CLEAR.fans : Fld := fld (0x120010) 0 8 0x0
/-! COOL_FAN_FAIL_COUNT -/
def COOL_FAN_FAIL_COUNT.count : Fld := fld (0x120014) 0 32 0x0
/-! COOL_PUMP_FAIL_COUNT -/
def COOL_PUMP_FAIL_COUNT.count : Fld := fld (0x120018) 0 32 0x0
/-! COOL_VALVE_FLAG_COUNT -/
def COOL_VALVE_FLAG_COUNT.count : Fld := fld (0x12001c) 0 32 0x0
/-! COOL_SUSPECT_COUNT -/
def COOL_SUSPECT_COUNT.count : Fld := fld (0x120020) 0 32 0x0
/-! COOL_KILN_COUNT -/
def COOL_KILN_COUNT.count : Fld := fld (0x120024) 0 32 0x0
/-! COOL_THERMTRIP_COUNT -/
def COOL_THERMTRIP_COUNT.count : Fld := fld (0x120028) 0 32 0x0
/-! COOL_COUNT_OVF -/
def COOL_COUNT_OVF.ovf : Fld := fld (0x12002c) 0 6 0x0
/-! COOL_ACC -/
def COOL_ACC.temp (i : Nat) : Fld := fld (0x120040 + 4 * i) 16 16 0x0
def COOL_ACC.target (i : Nat) : Fld := fld (0x120040 + 4 * i) 8 8 0x55
def COOL_ACC.read_fail (i : Nat) : Fld := fld (0x120040 + 4 * i) 7 1 0x0
/-! COOL_FAN -/
def COOL_FAN.rpm (i : Nat) : Fld := fld (0x120060 + 4 * i) 16 16 0x0
def COOL_FAN.duty (i : Nat) : Fld := fld (0x120060 + 4 * i) 9 7 0x0
def COOL_FAN.state (i : Nat) : Fld := fld (0x120060 + 4 * i) 6 3 0x0
def COOL_FAN.reason (i : Nat) : Fld := fld (0x120060 + 4 * i) 4 2 0x0
def COOL_FAN.present (i : Nat) : Fld := fld (0x120060 + 4 * i) 3 1 0x0
def COOL_FAN.kicks (i : Nat) : Fld := fld (0x120060 + 4 * i) 0 3 0x0
/-! COOL_PUMP -/
def COOL_PUMP.rpm (i : Nat) : Fld := fld (0x120080 + 4 * i) 16 16 0x0
def COOL_PUMP.duty (i : Nat) : Fld := fld (0x120080 + 4 * i) 9 7 0x0
def COOL_PUMP.state (i : Nat) : Fld := fld (0x120080 + 4 * i) 6 3 0x0
/-! COOL_VALVE -/
def COOL_VALVE.position (i : Nat) : Fld := fld (0x1200a0 + 4 * i) 16 8 0x0
def COOL_VALVE.command (i : Nat) : Fld := fld (0x1200a0 + 4 * i) 8 8 0x64
def COOL_VALVE.flagged (i : Nat) : Fld := fld (0x1200a0 + 4 * i) 7 1 0x0
/-! COOL_ISO -/
def COOL_ISO.closed (i : Nat) : Fld := fld (0x1200c0 + 4 * i) 1 1 0x0
def COOL_ISO.fitted (i : Nat) : Fld := fld (0x1200c0 + 4 * i) 0 1 0x0
/-! COOL_TEMP -/
def COOL_TEMP.value (i : Nat) : Fld := fld (0x120100 + 4 * i) 16 16 0x0
def COOL_TEMP.failed (i : Nat) : Fld := fld (0x120100 + 4 * i) 2 1 0x0
def COOL_TEMP.suspect (i : Nat) : Fld := fld (0x120100 + 4 * i) 1 1 0x0
def COOL_TEMP.fitted (i : Nat) : Fld := fld (0x120100 + 4 * i) 0 1 0x0
/-! COOL_FLOW -/
def COOL_FLOW.value (i : Nat) : Fld := fld (0x120140 + 4 * i) 16 16 0x0
def COOL_FLOW.failed (i : Nat) : Fld := fld (0x120140 + 4 * i) 2 1 0x0
def COOL_FLOW.suspect (i : Nat) : Fld := fld (0x120140 + 4 * i) 1 1 0x0
def COOL_FLOW.fitted (i : Nat) : Fld := fld (0x120140 + 4 * i) 0 1 0x0
/-! COOL_PRESS -/
def COOL_PRESS.kpa (i : Nat) : Fld := fld (0x120160 + 4 * i) 16 16 0x0
def COOL_PRESS.fitted (i : Nat) : Fld := fld (0x120160 + 4 * i) 0 1 0x0
/-! LEAK_STATUS -/
def LEAK_STATUS.unguarded : Fld := fld (0x130000) 8 8 0x0
def LEAK_STATUS.wet : Fld := fld (0x130000) 0 8 0x0
/-! LEAK_CLEAR -/
def LEAK_CLEAR.zones : Fld := fld (0x130004) 0 8 0x0
/-! LEAK_WET_COUNT -/
def LEAK_WET_COUNT.count : Fld := fld (0x130008) 0 32 0x0
/-! LEAK_UNGUARD_COUNT -/
def LEAK_UNGUARD_COUNT.count : Fld := fld (0x13000c) 0 32 0x0
/-! LEAK_COUNT_OVF -/
def LEAK_COUNT_OVF.unguard_ovf : Fld := fld (0x130010) 1 1 0x0
def LEAK_COUNT_OVF.wet_ovf : Fld := fld (0x130010) 0 1 0x0
/-! LEAK_LOOP -/
def LEAK_LOOP.ohms (i : Nat) : Fld := fld (0x130040 + 4 * i) 16 16 0x0
def LEAK_LOOP.zone (i : Nat) : Fld := fld (0x130040 + 4 * i) 4 3 0x0
def LEAK_LOOP.state (i : Nat) : Fld := fld (0x130040 + 4 * i) 0 3 0x5
/-! LEAK_ZONE -/
def LEAK_ZONE.loops (i : Nat) : Fld := fld (0x130080 + 4 * i) 16 16 0x0
def LEAK_ZONE.slots (i : Nat) : Fld := fld (0x130080 + 4 * i) 8 8 0x0
def LEAK_ZONE.iso (i : Nat) : Fld := fld (0x130080 + 4 * i) 6 2 0x0
def LEAK_ZONE.unguarded (i : Nat) : Fld := fld (0x130080 + 4 * i) 1 1 0x0
def LEAK_ZONE.wet (i : Nat) : Fld := fld (0x130080 + 4 * i) 0 1 0x0
/-! MON_STATUS -/
def MON_STATUS.drift : Fld := fld (0x140000) 4 1 0x0
def MON_STATUS.volt_alarm : Fld := fld (0x140000) 3 1 0x0
def MON_STATUS.droop_h1 : Fld := fld (0x140000) 2 1 0x0
def MON_STATUS.droop_h0 : Fld := fld (0x140000) 1 1 0x0
def MON_STATUS.rc_table_only : Fld := fld (0x140000) 0 1 0x0
/-! MON_CFG -/
def MON_CFG.drift : Fld := fld (0x140004) 8 8 0x1e
def MON_CFG.droop : Fld := fld (0x140004) 0 8 0x5a
/-! MON_WARDEN_TEMP -/
def MON_WARDEN_TEMP.temp : Fld := fld (0x140008) 16 16 0x0
def MON_WARDEN_TEMP.absent : Fld := fld (0x140008) 6 1 0x0
def MON_WARDEN_TEMP.index : Fld := fld (0x140008) 0 6 0x0
/-! MON_RC_TRIM -/
def MON_RC_TRIM.error : Fld := fld (0x14000c) 16 16 0x0
def MON_RC_TRIM.band : Fld := fld (0x14000c) 8 4 0x0
def MON_RC_TRIM.trim : Fld := fld (0x14000c) 0 8 0x0
/-! MON_DTS_H0 -/
def MON_DTS_H0.temp : Fld := fld (0x140010) 16 16 0x0
def MON_DTS_H0.absent : Fld := fld (0x140010) 6 1 0x0
def MON_DTS_H0.index : Fld := fld (0x140010) 0 6 0x0
/-! MON_DTS_H1 -/
def MON_DTS_H1.temp : Fld := fld (0x140014) 16 16 0x0
def MON_DTS_H1.absent : Fld := fld (0x140014) 6 1 0x0
def MON_DTS_H1.index : Fld := fld (0x140014) 0 6 0x0
/-! MON_SEL -/
def MON_SEL.die : Fld := fld (0x140018) 14 2 0x0
def MON_SEL.kind : Fld := fld (0x140018) 12 2 0x0
def MON_SEL.index : Fld := fld (0x140018) 0 6 0x0
/-! MON_DATA -/
def MON_DATA.value : Fld := fld (0x14001c) 0 32 0x0
/-! MON_DROOP_COUNT_H0 -/
def MON_DROOP_COUNT_H0.count : Fld := fld (0x140020) 0 32 0x0
/-! MON_DROOP_COUNT_H1 -/
def MON_DROOP_COUNT_H1.count : Fld := fld (0x140024) 0 32 0x0
/-! MON_COUNT_OVF -/
def MON_COUNT_OVF.h1_ovf : Fld := fld (0x140028) 1 1 0x0
def MON_COUNT_OVF.h0_ovf : Fld := fld (0x140028) 0 1 0x0
/-! ERR_STATUS -/
def ERR_STATUS.hub_latched : Fld := fld (0x200000) 7 1 0x0
def ERR_STATUS.part_resetting : Fld := fld (0x200000) 6 1 0x0
def ERR_STATUS.containing : Fld := fld (0x200000) 5 1 0x0
def ERR_STATUS.cross : Fld := fld (0x200000) 4 1 0x0
def ERR_STATUS.residue : Fld := fld (0x200000) 3 1 0x0
def ERR_STATUS.parity : Fld := fld (0x200000) 2 1 0x0
def ERR_STATUS.ue : Fld := fld (0x200000) 1 1 0x0
def ERR_STATUS.ce : Fld := fld (0x200000) 0 1 0x0
/-! ERR_CFG -/
def ERR_CFG.scrub_period : Fld := fld (0x200004) 16 8 0x18
def ERR_CFG.scrub_en : Fld := fld (0x200004) 3 1 0x1
def ERR_CFG.cross_en : Fld := fld (0x200004) 2 1 0x1
def ERR_CFG.checks : Fld := fld (0x200004) 1 1 0x0
def ERR_CFG.t4_mode : Fld := fld (0x200004) 0 1 0x0
/-! ERR_CTRL -/
def ERR_CTRL.release : Fld := fld (0x200008) 0 1 0x0
/-! ERR_CONTAIN -/
def ERR_CONTAIN.valid : Fld := fld (0x20000c) 31 1 0x0
def ERR_CONTAIN.kind : Fld := fld (0x20000c) 28 3 0x0
def ERR_CONTAIN.partition : Fld := fld (0x20000c) 25 3 0x0
def ERR_CONTAIN.cause : Fld := fld (0x20000c) 16 8 0x0
def ERR_CONTAIN.step : Fld := fld (0x20000c) 0 16 0x0
/-! ERR_CE_COUNT -/
def ERR_CE_COUNT.count : Fld := fld (0x200010) 0 32 0x0
/-! ERR_UE_COUNT -/
def ERR_UE_COUNT.count : Fld := fld (0x200014) 0 32 0x0
/-! ERR_POISON_COUNT -/
def ERR_POISON_COUNT.count : Fld := fld (0x200018) 0 32 0x0
/-! ERR_PARITY_COUNT -/
def ERR_PARITY_COUNT.count : Fld := fld (0x20001c) 0 32 0x0
/-! ERR_RESIDUE_COUNT -/
def ERR_RESIDUE_COUNT.count : Fld := fld (0x200020) 0 32 0x0
/-! ERR_CROSS_COUNT -/
def ERR_CROSS_COUNT.count : Fld := fld (0x200024) 0 32 0x0
/-! ERR_CONTAIN_COUNT -/
def ERR_CONTAIN_COUNT.count : Fld := fld (0x200028) 0 32 0x0
/-! ERR_COUNT_OVF -/
def ERR_COUNT_OVF.ovf : Fld := fld (0x20002c) 0 7 0x0
/-! ERR_SCRUB_STATUS -/
def ERR_SCRUB_STATUS.passes : Fld := fld (0x200030) 16 16 0x0
def ERR_SCRUB_STATUS.lpddr : Fld := fld (0x200030) 8 8 0x0
def ERR_SCRUB_STATUS.hbm : Fld := fld (0x200030) 0 8 0x0
/-! ERR_REC_HEAD -/
def ERR_REC_HEAD.wrapped : Fld := fld (0x200034) 8 1 0x0
def ERR_REC_HEAD.next : Fld := fld (0x200034) 0 8 0x0
/-! ERR_REC_IDX -/
def ERR_REC_IDX.index : Fld := fld (0x200038) 0 8 0x0
/-! ERR_REC_DATA -/
def ERR_REC_DATA.word (i : Nat) : Fld := fld (0x200040 + 4 * i) 0 32 0x0
/-! SDC_STATUS -/
def SDC_STATUS.overdue : Fld := fld (0x210000) 5 1 0x0
def SDC_STATUS.due : Fld := fld (0x210000) 4 1 0x0
def SDC_STATUS.swatch_fail : Fld := fld (0x210000) 3 1 0x0
def SDC_STATUS.permanent : Fld := fld (0x210000) 2 1 0x0
def SDC_STATUS.doubted : Fld := fld (0x210000) 1 1 0x0
def SDC_STATUS.expelled : Fld := fld (0x210000) 0 1 0x0
/-! SDC_CFG -/
def SDC_CFG.auto : Fld := fld (0x210004) 31 1 0x0
def SDC_CFG.watched_interval : Fld := fld (0x210004) 12 14 0x3e8
def SDC_CFG.suspect_interval : Fld := fld (0x210004) 0 10 0x64
/-! SDC_SWATCH_CTRL -/
def SDC_SWATCH_CTRL.run : Fld := fld (0x210008) 8 1 0x0
def SDC_SWATCH_CTRL.index : Fld := fld (0x210008) 0 8 0x0
/-! SDC_SWATCH_STATUS -/
def SDC_SWATCH_STATUS.result : Fld := fld (0x21000c) 30 2 0x0
def SDC_SWATCH_STATUS.last : Fld := fld (0x21000c) 22 8 0x0
def SDC_SWATCH_STATUS.h1_tile : Fld := fld (0x21000c) 16 6 0x0
def SDC_SWATCH_STATUS.h0_tile : Fld := fld (0x21000c) 10 6 0x0
def SDC_SWATCH_STATUS.h1_busy : Fld := fld (0x21000c) 9 1 0x0
def SDC_SWATCH_STATUS.h0_busy : Fld := fld (0x21000c) 8 1 0x0
def SDC_SWATCH_STATUS.slots : Fld := fld (0x21000c) 0 8 0x0
/-! SDC_LAST_VOTE -/
def SDC_LAST_VOTE.valid : Fld := fld (0x210010) 31 1 0x0
def SDC_LAST_VOTE.verdict : Fld := fld (0x210010) 28 3 0x0
def SDC_LAST_VOTE.missing : Fld := fld (0x210010) 27 1 0x0
def SDC_LAST_VOTE.slots : Fld := fld (0x210010) 16 8 0x0
def SDC_LAST_VOTE.shards : Fld := fld (0x210010) 0 16 0x0
/-! SDC_LAST_VOTE_STEP -/
def SDC_LAST_VOTE_STEP.step_lo : Fld := fld (0x210014) 0 32 0x0
/-! SDC_VOTE_COUNT -/
def SDC_VOTE_COUNT.count : Fld := fld (0x210018) 0 32 0x0
/-! SDC_DISSENT_COUNT -/
def SDC_DISSENT_COUNT.count : Fld := fld (0x21001c) 0 32 0x0
/-! SDC_EXPEL_COUNT -/
def SDC_EXPEL_COUNT.count : Fld := fld (0x210020) 0 32 0x0
/-! SDC_SWATCH_COUNT -/
def SDC_SWATCH_COUNT.count : Fld := fld (0x210024) 0 32 0x0
/-! SDC_SWATCH_FAIL_COUNT -/
def SDC_SWATCH_FAIL_COUNT.count : Fld := fld (0x210028) 0 32 0x0
/-! SDC_SHADOW_COUNT -/
def SDC_SHADOW_COUNT.count : Fld := fld (0x21002c) 0 32 0x0
/-! SDC_PERMANENT_COUNT -/
def SDC_PERMANENT_COUNT.count : Fld := fld (0x210030) 0 32 0x0
/-! SDC_COUNT_OVF -/
def SDC_COUNT_OVF.ovf : Fld := fld (0x210034) 0 7 0x0
/-! SDC_UNIT -/
def SDC_UNIT.state (i : Nat) : Fld := fld (0x210100 + 4 * i) 30 2 0x0
def SDC_UNIT.level (i : Nat) : Fld := fld (0x210100 + 4 * i) 28 2 0x0
def SDC_UNIT.due (i : Nat) : Fld := fld (0x210100 + 4 * i) 27 1 0x0
def SDC_UNIT.overdue (i : Nat) : Fld := fld (0x210100 + 4 * i) 26 1 0x0
def SDC_UNIT.running (i : Nat) : Fld := fld (0x210100 + 4 * i) 25 1 0x0
def SDC_UNIT.history (i : Nat) : Fld := fld (0x210100 + 4 * i) 22 3 0x0
def SDC_UNIT.passes (i : Nat) : Fld := fld (0x210100 + 4 * i) 18 4 0x0
def SDC_UNIT.since (i : Nat) : Fld := fld (0x210100 + 4 * i) 0 18 0x0
/-! FW_STATUS -/
def FW_STATUS.halted : Fld := fld (0x300000) 8 8 0x0
def FW_STATUS.restarting : Fld := fld (0x300000) 0 8 0x0
/-! FW_CTRL -/
def FW_CTRL.revive : Fld := fld (0x300004) 8 8 0x0
def FW_CTRL.restart : Fld := fld (0x300004) 0 8 0x0
/-! FW_KICK -/
def FW_KICK.kick : Fld := fld (0x300008) 0 8 0x0
/-! FW_LAST_CRASH -/
def FW_LAST_CRASH.valid : Fld := fld (0x30000c) 31 1 0x0
def FW_LAST_CRASH.cause : Fld := fld (0x30000c) 27 4 0x0
def FW_LAST_CRASH.processor : Fld := fld (0x30000c) 24 3 0x0
def FW_LAST_CRASH.pc : Fld := fld (0x30000c) 0 24 0x0
/-! FW_PROC -/
def FW_PROC.last_cause (i : Nat) : Fld := fld (0x300010 + 4 * i) 24 4 0x0
def FW_PROC.window (i : Nat) : Fld := fld (0x300010 + 4 * i) 22 2 0x0
def FW_PROC.state (i : Nat) : Fld := fld (0x300010 + 4 * i) 20 2 0x0
def FW_PROC.timeout (i : Nat) : Fld := fld (0x300010 + 4 * i) 0 10 0x64
/-! FW_CRASH -/
def FW_CRASH.count (i : Nat) : Fld := fld (0x300030 + 4 * i) 0 32 0x0
/-! FW_COUNT_OVF -/
def FW_COUNT_OVF.ovf : Fld := fld (0x300050) 0 8 0x0
/-! FW_FEATURES -/
def FW_FEATURES.bits (i : Nat) : Fld := fld (0x300060 + 4 * i) 0 32 0x0
/-! FW_NEG -/
def FW_NEG.bits (i : Nat) : Fld := fld (0x300070 + 4 * i) 0 32 0x0
/-! FW_TRACE_W -/
def FW_TRACE_W.enable (i : Nat) : Fld := fld (0x300080 + 4 * i) 0 32 0x0
/-! FW_TRACE_H -/
def FW_TRACE_H.enable (i : Nat) : Fld := fld (0x3000a0 + 4 * i) 0 32 0x0
/-! FW_LOG_SEL -/
def FW_LOG_SEL.processor : Fld := fld (0x3000c0) 11 3 0x0
def FW_LOG_SEL.index : Fld := fld (0x3000c0) 0 11 0x0
/-! FW_LOG_HEAD -/
def FW_LOG_HEAD.wrapped : Fld := fld (0x3000c4) 11 1 0x0
def FW_LOG_HEAD.next : Fld := fld (0x3000c4) 0 11 0x0
/-! FW_LOG_DATA -/
def FW_LOG_DATA.word (i : Nat) : Fld := fld (0x3000e0 + 4 * i) 0 32 0x0
/-! ARB_LFSR -/
def ARB_LFSR.value : Fld := fld (0x310000) 0 32 0x1
/-! ARB_TICKET_LO -/
def ARB_TICKET_LO.tickets (i : Nat) : Fld := fld (0x310010 + 8 * i) 0 32 0x0
/-! ARB_TICKET_HI -/
def ARB_TICKET_HI.tickets (i : Nat) : Fld := fld (0x310014 + 8 * i) 0 32 0x0
/-! ARB_CTL -/
def ARB_CTL.locked (i : Nat) : Fld := fld (0x310040 + 4 * i) 20 1 0x0
def ARB_CTL.held (i : Nat) : Fld := fld (0x310040 + 4 * i) 19 1 0x0
def ARB_CTL.holder (i : Nat) : Fld := fld (0x310040 + 4 * i) 16 3 0x0
def ARB_CTL.waiting (i : Nat) : Fld := fld (0x310040 + 4 * i) 8 8 0x0
def ARB_CTL.suspended (i : Nat) : Fld := fld (0x310040 + 4 * i) 0 8 0x0
/-! ARB_PROG -/
def ARB_PROG.progress (i : Nat) : Fld := fld (0x310060 + 4 * i) 0 12 0x0
/-! MGT_STATUS -/
def MGT_STATUS.preempted : Fld := fld (0x320000) 8 1 0x0
def MGT_STATUS.responder : Fld := fld (0x320000) 7 1 0x0
def MGT_STATUS.port_up : Fld := fld (0x320000) 6 1 0x0
def MGT_STATUS.host_silent : Fld := fld (0x320000) 5 1 0x0
def MGT_STATUS.rm_silent : Fld := fld (0x320000) 4 1 0x0
def MGT_STATUS.alone : Fld := fld (0x320000) 3 1 0x0
def MGT_STATUS.role : Fld := fld (0x320000) 1 2 0x0
def MGT_STATUS.held : Fld := fld (0x320000) 0 1 0x0
/-! MGT_CFG -/
def MGT_CFG.silence : Fld := fld (0x320004) 16 10 0x3c
def MGT_CFG.lease : Fld := fld (0x320004) 0 9 0x1e
/-! MGT_RATE_CFG -/
def MGT_RATE_CFG.lockout : Fld := fld (0x320008) 24 8 0x10
def MGT_RATE_CFG.signed : Fld := fld (0x320008) 16 8 0x14
def MGT_RATE_CFG.bulk : Fld := fld (0x320008) 8 8 0x14
def MGT_RATE_CFG.command : Fld := fld (0x320008) 0 8 0x32
/-! MGT_HOLDER -/
def MGT_HOLDER.role : Fld := fld (0x32000c) 22 2 0x0
def MGT_HOLDER.key : Fld := fld (0x32000c) 20 2 0x0
def MGT_HOLDER.bridge : Fld := fld (0x32000c) 0 18 0x0
/-! MGT_HOLDER_SEQ -/
def MGT_HOLDER_SEQ.sequence : Fld := fld (0x320010) 0 32 0x0
/-! MGT_PART_OFF -/
def MGT_PART_OFF.off_by : Fld := fld (0x320014) 0 16 0x0
/-! MGT_SILENCE -/
def MGT_SILENCE.host : Fld := fld (0x320018) 16 16 0x0
def MGT_SILENCE.rack_manager : Fld := fld (0x320018) 0 16 0x0
/-! MGT_DENIED_COUNT -/
def MGT_DENIED_COUNT.count : Fld := fld (0x32001c) 0 32 0x0
/-! MGT_INVALID_COUNT -/
def MGT_INVALID_COUNT.count : Fld := fld (0x320020) 0 32 0x0
/-! MGT_RETRY_COUNT -/
def MGT_RETRY_COUNT.count : Fld := fld (0x320024) 0 32 0x0
/-! MGT_BUSY_COUNT -/
def MGT_BUSY_COUNT.count : Fld := fld (0x320028) 0 32 0x0
/-! MGT_SIG_FAIL_COUNT -/
def MGT_SIG_FAIL_COUNT.count : Fld := fld (0x32002c) 0 32 0x0
/-! MGT_ALONE_COUNT -/
def MGT_ALONE_COUNT.count : Fld := fld (0x320030) 0 32 0x0
/-! MGT_COUNT_OVF -/
def MGT_COUNT_OVF.ovf : Fld := fld (0x320034) 0 6 0x0
/-! MGT_LAST_REFUSE -/
def MGT_LAST_REFUSE.valid : Fld := fld (0x320038) 31 1 0x0
def MGT_LAST_REFUSE.role : Fld := fld (0x320038) 29 2 0x0
def MGT_LAST_REFUSE.response : Fld := fld (0x320038) 16 8 0x0
def MGT_LAST_REFUSE.code : Fld := fld (0x320038) 0 12 0x0
/-! REC_STATUS -/
def REC_STATUS.write_fail : Fld := fld (0x330000) 6 1 0x0
def REC_STATUS.dropped : Fld := fld (0x330000) 5 1 0x0
def REC_STATUS.torn : Fld := fld (0x330000) 4 1 0x0
def REC_STATUS.blank : Fld := fld (0x330000) 3 1 0x0
def REC_STATUS.withheld : Fld := fld (0x330000) 2 1 0x0
def REC_STATUS.frozen : Fld := fld (0x330000) 1 1 0x0
def REC_STATUS.scanning : Fld := fld (0x330000) 0 1 0x1
/-! REC_CFG -/
def REC_CFG.freeze_max : Fld := fld (0x330004) 16 12 0x258
def REC_CFG.repeat_window : Fld := fld (0x330004) 0 12 0xa
/-! REC_HEAD -/
def REC_HEAD.position : Fld := fld (0x330008) 0 32 0x0
/-! REC_OLDEST -/
def REC_OLDEST.position : Fld := fld (0x33000c) 0 32 0x0
/-! REC_FREEZE_POINT -/
def REC_FREEZE_POINT.position : Fld := fld (0x330010) 0 32 0x0
/-! REC_PENDING -/
def REC_PENDING.count : Fld := fld (0x330014) 0 11 0x0
/-! REC_SUPPRESSED -/
def REC_SUPPRESSED.count : Fld := fld (0x330018) 0 32 0x0
/-! REC_WRITTEN -/
def REC_WRITTEN.count : Fld := fld (0x33001c) 0 32 0x0
/-! REC_SECONDS -/
def REC_SECONDS.seconds : Fld := fld (0x330020) 0 32 0x0
/-! REC_CYCLES -/
def REC_CYCLES.cycles : Fld := fld (0x330024) 0 24 0x0
/-! REC_TORN_COUNT -/
def REC_TORN_COUNT.count : Fld := fld (0x330028) 0 32 0x0
/-! REC_DROP_COUNT -/
def REC_DROP_COUNT.count : Fld := fld (0x33002c) 0 32 0x0
/-! REC_WRITE_FAIL_COUNT -/
def REC_WRITE_FAIL_COUNT.count : Fld := fld (0x330030) 0 32 0x0
/-! REC_COUNT_OVF -/
def REC_COUNT_OVF.ovf : Fld := fld (0x330034) 0 3 0x0
/-! UPD_STATUS -/
def UPD_STATUS.pushed : Fld := fld (0x340000) 7 1 0x0
def UPD_STATUS.verify_fail : Fld := fld (0x340000) 6 1 0x0
def UPD_STATUS.abandoned : Fld := fld (0x340000) 5 1 0x0
def UPD_STATUS.erasing : Fld := fld (0x340000) 4 1 0x0
def UPD_STATUS.loader : Fld := fld (0x340000) 0 2 0x0
/-! UPD_XFER -/
def UPD_XFER.type : Fld := fld (0x340004) 8 4 0x0
def UPD_XFER.kind : Fld := fld (0x340004) 0 2 0x0
/-! UPD_XFER_DONE -/
def UPD_XFER_DONE.count : Fld := fld (0x340008) 0 32 0x0
/-! UPD_REGIONS -/
def UPD_REGIONS.state : Fld := fld (0x34000c) 0 12 0x0
/-! UPD_XFER_CFG -/
def UPD_XFER_CFG.idle : Fld := fld (0x340010) 0 17 0x258
/-! UPD_TRICKLE_CFG -/
def UPD_TRICKLE_CFG.poll : Fld := fld (0x340014) 16 12 0x3c
def UPD_TRICKLE_CFG.rate : Fld := fld (0x340014) 0 11 0x2
/-! UPD_CUSTODIAN -/
def UPD_CUSTODIAN.valid : Fld := fld (0x340018) 31 1 0x0
def UPD_CUSTODIAN.queue : Fld := fld (0x340018) 18 8 0x0
def UPD_CUSTODIAN.hub : Fld := fld (0x340018) 0 18 0x0
/-! UPD_CUSTODY_BASE -/
def UPD_CUSTODY_BASE.unit : Fld := fld (0x34001c) 0 30 0x0
/-! UPD_CUSTODY_SIZE -/
def UPD_CUSTODY_SIZE.mib : Fld := fld (0x340020) 0 8 0x0
/-! UPD_SETTINGS -/
def UPD_SETTINGS.image : Fld := fld (0x340024) 16 16 0x0
def UPD_SETTINGS.store : Fld := fld (0x340024) 0 16 0x0
/-! UPD_VERIFY_FAIL_COUNT -/
def UPD_VERIFY_FAIL_COUNT.count : Fld := fld (0x340028) 0 32 0x0
/-! UPD_ACTIVATE_COUNT -/
def UPD_ACTIVATE_COUNT.count : Fld := fld (0x34002c) 0 32 0x0
/-! UPD_PUSH_FAIL_COUNT -/
def UPD_PUSH_FAIL_COUNT.count : Fld := fld (0x340030) 0 32 0x0
/-! UPD_COUNT_OVF -/
def UPD_COUNT_OVF.ovf : Fld := fld (0x340034) 0 3 0x0
/-! UPD_SVN -/
def UPD_SVN.running (i : Nat) : Fld := fld (0x340040 + 4 * i) 16 8 0x0
def UPD_SVN.counter (i : Nat) : Fld := fld (0x340040 + 4 * i) 0 8 0x0
/-! SEC_STATUS -/
def SEC_STATUS.activated : Fld := fld (0x350000) 11 1 0x0
def SEC_STATUS.debug_halt : Fld := fld (0x350000) 10 1 0x0
def SEC_STATUS.consent : Fld := fld (0x350000) 9 1 0x0
def SEC_STATUS.marker : Fld := fld (0x350000) 4 4 0x0
def SEC_STATUS.state : Fld := fld (0x350000) 0 3 0x0
/-! SEC_KEYS -/
def SEC_KEYS.staged : Fld := fld (0x350004) 12 4 0x0
def SEC_KEYS.owner1_revoked : Fld := fld (0x350004) 8 4 0x0
def SEC_KEYS.owner0_revoked : Fld := fld (0x350004) 4 4 0x0
def SEC_KEYS.maker_revoked : Fld := fld (0x350004) 0 4 0x0
/-! SEC_DEBUG -/
def SEC_DEBUG.source : Fld := fld (0x350008) 6 2 0x0
def SEC_DEBUG.scope : Fld := fld (0x350008) 0 4 0x0
/-! SEC_DEBUG_UNTIL -/
def SEC_DEBUG_UNTIL.seconds : Fld := fld (0x35000c) 0 32 0xffffffff
/-! SEC_CONSENT -/
def SEC_CONSENT.valid : Fld := fld (0x350010) 31 1 0x0
def SEC_CONSENT.key : Fld := fld (0x350010) 12 2 0x0
def SEC_CONSENT.remaining : Fld := fld (0x350010) 0 12 0x0
/-! SEC_SERIAL_LO -/
def SEC_SERIAL_LO.serial : Fld := fld (0x350014) 0 32 0x0
/-! SEC_SERIAL_HI -/
def SEC_SERIAL_HI.serial : Fld := fld (0x350018) 0 32 0x0
/-! SEC_MEAS_SEL -/
def SEC_MEAS_SEL.slot : Fld := fld (0x35001c) 0 4 0x0
/-! SEC_LAST_REFUSE -/
def SEC_LAST_REFUSE.valid : Fld := fld (0x350020) 31 1 0x0
def SEC_LAST_REFUSE.reason : Fld := fld (0x350020) 16 8 0x0
def SEC_LAST_REFUSE.op : Fld := fld (0x350020) 8 8 0x0
def SEC_LAST_REFUSE.key : Fld := fld (0x350020) 0 2 0x0
/-! SEC_REFUSE_COUNT -/
def SEC_REFUSE_COUNT.count : Fld := fld (0x350024) 0 32 0x0
/-! SEC_UNLOCK_COUNT -/
def SEC_UNLOCK_COUNT.count : Fld := fld (0x350028) 0 32 0x0
/-! SEC_COUNT_OVF -/
def SEC_COUNT_OVF.unlock_ovf : Fld := fld (0x35002c) 1 1 0x0
def SEC_COUNT_OVF.refuse_ovf : Fld := fld (0x35002c) 0 1 0x0
/-! SEC_ID_DIGEST -/
def SEC_ID_DIGEST.bytes (i : Nat) : Fld := fld (0x350040 + 4 * i) 0 32 0x0
/-! SEC_MEAS_DATA -/
def SEC_MEAS_DATA.bytes (i : Nat) : Fld := fld (0x350080 + 4 * i) 0 32 0x0
/-! CFG_STATUS -/
def CFG_STATUS.ready : Fld := fld (0x360000) 7 1 0x0
def CFG_STATUS.full_restart : Fld := fld (0x360000) 6 1 0x0
def CFG_STATUS.surrogate : Fld := fld (0x360000) 5 1 0x0
def CFG_STATUS.store_empty : Fld := fld (0x360000) 4 1 0x0
def CFG_STATUS.state : Fld := fld (0x360000) 0 2 0x0
/-! CFG_ERROR -/
def CFG_ERROR.valid : Fld := fld (0x360004) 31 1 0x0
def CFG_ERROR.reason : Fld := fld (0x360004) 24 4 0x0
def CFG_ERROR.section : Fld := fld (0x360004) 16 8 0x0
def CFG_ERROR.entry : Fld := fld (0x360004) 0 16 0x0
/-! CFG_VERSION -/
def CFG_VERSION.value : Fld := fld (0x360008) 0 32 0x0
/-! CFG_SVN -/
def CFG_SVN.value : Fld := fld (0x36000c) 0 32 0x0
/-! CFG_SECTIONS -/
def CFG_SECTIONS.value : Fld := fld (0x360010) 0 32 0x0
/-! CFG_HUB -/
def CFG_HUB.grouped : Fld := fld (0x360014) 31 1 0x0
def CFG_HUB.index : Fld := fld (0x360014) 18 13 0x0
def CFG_HUB.hub : Fld := fld (0x360014) 0 18 0x0
/-! CFG_MILESTONE -/
def CFG_MILESTONE.ms (i : Nat) : Fld := fld (0x360020 + 4 * i) 0 32 0xffffffff
/-! CFG_DIGEST -/
def CFG_DIGEST.bytes (i : Nat) : Fld := fld (0x360040 + 4 * i) 0 32 0x0
/-! PIN_STATUS -/
def PIN_STATUS.h1_io : Fld := fld (0x400000) 5 1 0x0
def PIN_STATUS.h0_io : Fld := fld (0x400000) 4 1 0x0
def PIN_STATUS.vdd_io : Fld := fld (0x400000) 3 1 0x0
def PIN_STATUS.vio18 : Fld := fld (0x400000) 2 1 0x0
def PIN_STATUS.stby_margin : Fld := fld (0x400000) 1 1 0x0
/-! PIN_ACC -/
def PIN_ACC.present : Fld := fld (0x400004) 24 8 0x0
def PIN_ACC.thermtrip : Fld := fld (0x400004) 16 8 0x0
def PIN_ACC.slow : Fld := fld (0x400004) 8 8 0x0
def PIN_ACC.perst : Fld := fld (0x400004) 0 8 0xff
/-! PIN_TRAY -/
def PIN_TRAY.warden_rst : Fld := fld (0x400008) 4 1 0x0
def PIN_TRAY.iso_valve : Fld := fld (0x400008) 2 2 0x0
def PIN_TRAY.input_off : Fld := fld (0x400008) 1 1 0x0
/-! PIN_BUS_CFG -/
def PIN_BUS_CFG.avs_mhz : Fld := fld (0x40000c) 16 6 0x14
def PIN_BUS_CFG.pmbus : Fld := fld (0x40000c) 0 8 0x55
/-! PIN_MODES -/
def PIN_MODES.emmc_present : Fld := fld (0x400010) 7 1 0x0
def PIN_MODES.emmc_mode : Fld := fld (0x400010) 4 3 0x0
def PIN_MODES.xspi_mode : Fld := fld (0x400010) 0 2 0x0

/-! The event counts with their overflow bits (R9). -/
def CAD_STALL_COUNT.c (d : Nat) : Cnt := ⟨CAD_STALL_COUNT.count d, hfld d 0x1002c (0) 1 0⟩
def CAD_MARK_TAKEN.c (d : Nat) : Cnt := ⟨CAD_MARK_TAKEN.count d, hfld d 0x1002c (1) 1 0⟩
def CAD_MARK_REJECT.c (d : Nat) : Cnt := ⟨CAD_MARK_REJECT.count d, hfld d 0x1002c (2) 1 0⟩
def PAT_DESC_TAKEN.c (d : Nat) : Cnt := ⟨PAT_DESC_TAKEN.count d, hfld d 0x20038 (0) 1 0⟩
def PAT_DESC_REJECT.c (d : Nat) : Cnt := ⟨PAT_DESC_REJECT.count d, hfld d 0x20038 (1) 1 0⟩
def PAT_LIMIT_COUNT.c (d : Nat) : Cnt := ⟨PAT_LIMIT_COUNT.count d, hfld d 0x20038 (2) 1 0⟩
def PAT_MALFORMED_COUNT.c (d : Nat) : Cnt := ⟨PAT_MALFORMED_COUNT.count d, hfld d 0x20038 (3) 1 0⟩
def COL_EARLY_COUNT.c (d : Nat) : Cnt := ⟨COL_EARLY_COUNT.count d, hfld d 0x30030 (0) 1 0⟩
def COL_LATE_DROP.c (d : Nat) : Cnt := ⟨COL_LATE_DROP.count d, hfld d 0x30030 (1) 1 0⟩
def COL_POISON_OUT.c (d : Nat) : Cnt := ⟨COL_POISON_OUT.count d, hfld d 0x30030 (2) 1 0⟩
def COL_FUSED_HELD.c (d : Nat) : Cnt := ⟨COL_FUSED_HELD.count d, hfld d 0x30030 (3) 1 0⟩
def ARR_CHECK_FAIL.c (d : Nat) : Cnt := ⟨ARR_CHECK_FAIL.count d, hfld d 0x40024 (0) 1 0⟩
def ARR_SATURATE.c (d : Nat) : Cnt := ⟨ARR_SATURATE.count d, hfld d 0x40024 (1) 1 0⟩
def ARR_NAN_OUT.c (d : Nat) : Cnt := ⟨ARR_NAN_OUT.count d, hfld d 0x40024 (2) 1 0⟩
def ARR_BASIS_KEPT.c (d : Nat) : Cnt := ⟨ARR_BASIS_KEPT.count d, hfld d 0x40024 (3) 1 0⟩
def MEM_RETRY_COUNT.c (d : Nat) : Cnt := ⟨MEM_RETRY_COUNT.count d, hfld d 0x50040 (0) 1 0⟩
def MEM_BUSY_COUNT.c (d : Nat) : Cnt := ⟨MEM_BUSY_COUNT.count d, hfld d 0x50040 (1) 1 0⟩
def MEM_DENIED_COUNT.c (d : Nat) : Cnt := ⟨MEM_DENIED_COUNT.count d, hfld d 0x50040 (2) 1 0⟩
def MEM_INVALID_COUNT.c (d : Nat) : Cnt := ⟨MEM_INVALID_COUNT.count d, hfld d 0x50040 (3) 1 0⟩
def MEM_POISON_COUNT.c (d : Nat) : Cnt := ⟨MEM_POISON_COUNT.count d, hfld d 0x50040 (4) 1 0⟩
def MEM_TIMEOUT_COUNT.c (d : Nat) : Cnt := ⟨MEM_TIMEOUT_COUNT.count d, hfld d 0x50040 (5) 1 0⟩
def SEQ_GLITCH_COUNT.c : Cnt := ⟨SEQ_GLITCH_COUNT.count, fld 0x100054 (0) 1 0⟩
def SEQ_FAULT_COUNT.c : Cnt := ⟨SEQ_FAULT_COUNT.count, fld 0x100054 (1) 1 0⟩
def SEQ_RUN_COUNT.c : Cnt := ⟨SEQ_RUN_COUNT.count, fld 0x100054 (2) 1 0⟩
def PWR_LAGGING_COUNT.c : Cnt := ⟨PWR_LAGGING_COUNT.count, fld 0x110044 (0) 1 0⟩
def PWR_UNMET_COUNT.c : Cnt := ⟨PWR_UNMET_COUNT.count, fld 0x110044 (1) 1 0⟩
def PWR_HINT_DROP.c : Cnt := ⟨PWR_HINT_DROP.count, fld 0x110044 (2) 1 0⟩
def PWR_BROKEN_COUNT.c : Cnt := ⟨PWR_BROKEN_COUNT.count, fld 0x110044 (3) 1 0⟩
def COOL_FAN_FAIL_COUNT.c : Cnt := ⟨COOL_FAN_FAIL_COUNT.count, fld 0x12002c (0) 1 0⟩
def COOL_PUMP_FAIL_COUNT.c : Cnt := ⟨COOL_PUMP_FAIL_COUNT.count, fld 0x12002c (1) 1 0⟩
def COOL_VALVE_FLAG_COUNT.c : Cnt := ⟨COOL_VALVE_FLAG_COUNT.count, fld 0x12002c (2) 1 0⟩
def COOL_SUSPECT_COUNT.c : Cnt := ⟨COOL_SUSPECT_COUNT.count, fld 0x12002c (3) 1 0⟩
def COOL_KILN_COUNT.c : Cnt := ⟨COOL_KILN_COUNT.count, fld 0x12002c (4) 1 0⟩
def COOL_THERMTRIP_COUNT.c : Cnt := ⟨COOL_THERMTRIP_COUNT.count, fld 0x12002c (5) 1 0⟩
def LEAK_WET_COUNT.c : Cnt := ⟨LEAK_WET_COUNT.count, fld 0x130010 (0) 1 0⟩
def LEAK_UNGUARD_COUNT.c : Cnt := ⟨LEAK_UNGUARD_COUNT.count, fld 0x130010 (1) 1 0⟩
def MON_DROOP_COUNT_H0.c : Cnt := ⟨MON_DROOP_COUNT_H0.count, fld 0x140028 (0) 1 0⟩
def MON_DROOP_COUNT_H1.c : Cnt := ⟨MON_DROOP_COUNT_H1.count, fld 0x140028 (1) 1 0⟩
def ERR_CE_COUNT.c : Cnt := ⟨ERR_CE_COUNT.count, fld 0x20002c (0) 1 0⟩
def ERR_UE_COUNT.c : Cnt := ⟨ERR_UE_COUNT.count, fld 0x20002c (1) 1 0⟩
def ERR_POISON_COUNT.c : Cnt := ⟨ERR_POISON_COUNT.count, fld 0x20002c (2) 1 0⟩
def ERR_PARITY_COUNT.c : Cnt := ⟨ERR_PARITY_COUNT.count, fld 0x20002c (3) 1 0⟩
def ERR_RESIDUE_COUNT.c : Cnt := ⟨ERR_RESIDUE_COUNT.count, fld 0x20002c (4) 1 0⟩
def ERR_CROSS_COUNT.c : Cnt := ⟨ERR_CROSS_COUNT.count, fld 0x20002c (5) 1 0⟩
def ERR_CONTAIN_COUNT.c : Cnt := ⟨ERR_CONTAIN_COUNT.count, fld 0x20002c (6) 1 0⟩
def SDC_VOTE_COUNT.c : Cnt := ⟨SDC_VOTE_COUNT.count, fld 0x210034 (0) 1 0⟩
def SDC_DISSENT_COUNT.c : Cnt := ⟨SDC_DISSENT_COUNT.count, fld 0x210034 (1) 1 0⟩
def SDC_EXPEL_COUNT.c : Cnt := ⟨SDC_EXPEL_COUNT.count, fld 0x210034 (2) 1 0⟩
def SDC_SWATCH_COUNT.c : Cnt := ⟨SDC_SWATCH_COUNT.count, fld 0x210034 (3) 1 0⟩
def SDC_SWATCH_FAIL_COUNT.c : Cnt := ⟨SDC_SWATCH_FAIL_COUNT.count, fld 0x210034 (4) 1 0⟩
def SDC_SHADOW_COUNT.c : Cnt := ⟨SDC_SHADOW_COUNT.count, fld 0x210034 (5) 1 0⟩
def SDC_PERMANENT_COUNT.c : Cnt := ⟨SDC_PERMANENT_COUNT.count, fld 0x210034 (6) 1 0⟩
def MGT_DENIED_COUNT.c : Cnt := ⟨MGT_DENIED_COUNT.count, fld 0x320034 (0) 1 0⟩
def MGT_INVALID_COUNT.c : Cnt := ⟨MGT_INVALID_COUNT.count, fld 0x320034 (1) 1 0⟩
def MGT_RETRY_COUNT.c : Cnt := ⟨MGT_RETRY_COUNT.count, fld 0x320034 (2) 1 0⟩
def MGT_BUSY_COUNT.c : Cnt := ⟨MGT_BUSY_COUNT.count, fld 0x320034 (3) 1 0⟩
def MGT_SIG_FAIL_COUNT.c : Cnt := ⟨MGT_SIG_FAIL_COUNT.count, fld 0x320034 (4) 1 0⟩
def MGT_ALONE_COUNT.c : Cnt := ⟨MGT_ALONE_COUNT.count, fld 0x320034 (5) 1 0⟩
def REC_TORN_COUNT.c : Cnt := ⟨REC_TORN_COUNT.count, fld 0x330034 (0) 1 0⟩
def REC_DROP_COUNT.c : Cnt := ⟨REC_DROP_COUNT.count, fld 0x330034 (1) 1 0⟩
def REC_WRITE_FAIL_COUNT.c : Cnt := ⟨REC_WRITE_FAIL_COUNT.count, fld 0x330034 (2) 1 0⟩
def UPD_VERIFY_FAIL_COUNT.c : Cnt := ⟨UPD_VERIFY_FAIL_COUNT.count, fld 0x340034 (0) 1 0⟩
def UPD_ACTIVATE_COUNT.c : Cnt := ⟨UPD_ACTIVATE_COUNT.count, fld 0x340034 (1) 1 0⟩
def UPD_PUSH_FAIL_COUNT.c : Cnt := ⟨UPD_PUSH_FAIL_COUNT.count, fld 0x340034 (2) 1 0⟩
def SEC_REFUSE_COUNT.c : Cnt := ⟨SEC_REFUSE_COUNT.count, fld 0x35002c (0) 1 0⟩
def SEC_UNLOCK_COUNT.c : Cnt := ⟨SEC_UNLOCK_COUNT.count, fld 0x35002c (1) 1 0⟩
def LNK_FEC_UNCORR.c (d i : Nat) : Cnt := ⟨LNK_FEC_UNCORR.count d i, hfld d 0x60100 (3 * i + 0) 1 0⟩
def LNK_REPLAY.c (d i : Nat) : Cnt := ⟨LNK_REPLAY.count d i, hfld d 0x60100 (3 * i + 1) 1 0⟩
def LNK_DOWN.c (d i : Nat) : Cnt := ⟨LNK_DOWN.count d i, hfld d 0x60100 (3 * i + 2) 1 0⟩
def LNK_CTL_REJECT.c (d : Nat) : Cnt := ⟨LNK_CTL_REJECT.count d, hfld d 0x60100 (24) 1 0⟩
def FW_CRASH.c (i : Nat) : Cnt := ⟨FW_CRASH.count i, fld 0x300050 (i) 1 0⟩

end Sys2Proof.R
end

