-- ==== Sys2Proof/Machine/State.lean ====
section
/-! DEFINITION. The state of the block as plain data, and its value after reset. -/

namespace Sys2Proof.Machine

/-- One hub die as the warden sees it: whether Steward has released it from reset, when it was, the causes that hold it (R40:
bit 0 a rail flagged in cast-on, 1 a rail fault, 2 a failed reference, 3 an active kiln trip), when its reset began, and its
governor (R23 to R28). Shares are in percentage points and issue rates in sixteenths, counted as the reduction in force. -/
structure Die where
  released : Bool := false
  releasedAt : Nat := 0
  holds : Nat := 0
  resetAt : Nat := 0
  /-- the last estimate of the die's share of the package power in mW, and the last that exceeded or stayed below its marks -/
  estimate : Nat := 0
  shareCut : Nat := 0
  issueCut : Nat := 0
  overSince : Option Nat := none
  underSince : Option Nat := none
  marginSince : Option Nat := none
  lastRelease : Nat := 0
  unmet : Bool := false
  /-- coefficients of the activity counters by domain, in mW for each count of 1 µs, and their scale in 1/65,536 -/
  coeff : List Nat := []
  scale : Nat := 65536
  /-- memory trained since the release (R445), and the hub sections loaded -/
  sections : Bool := false
  trained : Bool := false
  /-- domain starts by domain number and when each is made, when the last start was made, and domains whose switch-off waits for a
  boundary (R31, R32) -/
  starting : Tab Nat := []
  lastStart : Option Nat := none
  offPending : Nat := 0
deriving DecidableEq, Repr, Inhabited

/-- A selection that Steward is to write: its pattern, whether it writes PAT_CTRL.restart too (R99), and whether it waits for the memory of
both dies, as it does after a release. -/
structure Wanted where
  pattern : Nat
  restart : Bool := true
  both : Bool := true
deriving DecidableEq, Repr, Inhabited

/-- The supply, resets and references (chapters 1 and 19). -/
structure Supply where
  /-- VDD_STBY is within its range; when it rose; the release of the power-on reset -/
  standby : Bool := false
  riseAt : Nat := 0
  wardenOn : Bool := false
  onAt : Nat := 0
  /-- the last reset's source, as the warden-start event gives it -/
  resetSource : Nat := 0
  romHold : Bool := false
  loaderStarted : Bool := false
  w1At : Nat := 0
  crystalFailed : Bool := false
  /-- for each of the five references (crystal, then two a die), when it went out of range, and since when the hub's four are in -/
  refOut : Tab Nat := []
  refFailed : Nat := 0
  refGoodSince : Nat := 0
  portDown : Bool := false
  /-- the selection that Steward is to write once its domains are on (R41, R510, R511) -/
  want : Option Wanted := none
  dies : Tab Die := []
deriving DecidableEq, Repr, Inhabited

/-- The cadence tracker (R46, "The tracker"). Both dies' trackers hold identical state at every tick, so the hub keeps one; a die that was
released while the other ran has its own until the two are alike (`State.own`). Times are group times in ns; `est` and `last` are in units of 16 ns; `phase` is the 48-bit phase. -/
structure Cadence where
  est : Nat := 0
  last : Nat := 0
  lastStamp : Nat := 0
  phase : Nat := 0
  inc : Nat := 0
  corr : Int := 0
  held : Bool := false
  stalled : Bool := false
  started : Bool := false
  seeded : Bool := true
  reseed : Bool := false
  step : Nat := 0
  /-- the stamp of a step mark that has not yet taken effect (R46) -/
  markStamp : Option Nat := none
  /-- accelerators admitted at the step's start (R50) -/
  accAtStart : Nat := 0
  /-- accelerators under a STEP_MARK mismatch (R44) -/
  mismatch : Nat := 0
  /-- by mark-table entry: the accelerators whose message has arrived in this step -/
  senders : Tab Nat := []
  /-- mark-table entries taken in this step, and those of them that have taken effect -/
  taken : Nat := 0
  effective : Nat := 0
  /-- taken entries waiting for their effective tick: entry, stamp, completing accelerator, 8 for an entry that the angle took (R50) -/
  takes : List (Nat × Nat × Nat) := []
  /-- the mark tolerance in force, and those written but not yet in force with the group times of their writes, oldest first (R70) -/
  tolerance : Nat := 0x4000
  tolerancePending : List (Nat × Nat) := []
  /-- the stall that the last step mark ended, for BOUNDARY (R210) -/
  stallEnded : Bool := false
  renumbered : Bool := false
deriving DecidableEq, Repr, Inhabited

/-- A member's group time and its exchanges (R58 to R69). `time` is in ns; offsets and delays are in units of 0.125 ns. -/
structure GroupTime where
  time : Nat := 0
  state : Nat := 0
  freq : Int := 0
  rate : Int := 0
  offset : Int := 0
  delay : Int := 0
  lockRun : Nat := 0
  /-- consecutive offsets within 4 ns from an upstream LOCKED or MASTER, and consecutive such replies in HOLDOVER -/
  lockedRun : Nat := 0
  holdRun : Nat := 0
  missed : Nat := 0
  secondary : Bool := false
  /-- consecutive valid replies on the primary while the secondary is in use -/
  primaryRun : Nat := 0
  /-- exchanges in flight by port: t1 and the exchange sequence number -/
  inFlight : Tab (Nat × Nat) := []
  sequence : Nat := 0
  lastSend : Nat := 0
  lastValid : Nat := 0
  holdStart : Nat := 0
  holdMs : Nat := 0
  /-- the warden's continuation counter (R67): the group time and the rate in ppb that it was disciplined to, and the warden time of that
  moment -/
  contTime : Nat := 0
  contRate : Int := 0
  contAt : Nat := 0
  everRun : Bool := false
deriving DecidableEq, Repr, Inhabited

/-- A row in flight (R80): its die, index and words, its trigger in group time, its limit in ns (0 for none), the ranks or hubs
whose contribution no longer comes (R83), the contribution lines that have arrived by slot, the lines that have arrived from
other hubs, and the lines written to accelerators that have not been acknowledged. A line is `none` where it is POISON. -/
structure Flight where
  die : Nat
  row : Nat
  words : List Nat
  trigAt : Nat := 0
  limit : Nat := 0
  lost : Nat := 0
  lines : List (Nat × Nat × Option (List Nat)) := []
  remote : List (Nat × Nat × Nat × Option (List Nat)) := []
  /-- the lines that this hub has sent to others: strand, stage and first line of each unit (R118) -/
  sent : List (Nat × Nat × Nat) := []
  /-- this hub's pool contributions as they were read, by descriptor number (R113) -/
  pool : Tab (List (Option Nat)) := []
  /-- a FUSED row's parameter block as it was read at the trigger (R129) -/
  params : List (Option Nat) := []
  /-- elements whose residue or rounding check failed (R325) -/
  residue : List Nat := []
  /-- a FUSED row's updated elements with their indexes (R126 phase 4) -/
  shard : Option (List (Nat × Coded)) := none
  /-- the row's results have been formed, and those sent to accelerators wait for acknowledgement: slot, line and window offset -/
  written : Bool := false
  unacked : List (Nat × Nat × Nat) := []
deriving DecidableEq, Repr, Inhabited

/-- A FENCE row that has triggered (R84): its row, its fence number, its trigger time, and whether it still waits. -/
structure FenceRow where
  row : Nat
  number : Nat
  at_ : Nat
  waits : Bool := true
deriving DecidableEq, Repr, Inhabited

/-- A die's row sequencer beyond its PAT registers (R79): the rows of its list that have completed, as a bit set, and the FENCE
rows of this step that have triggered, in order (R84). -/
structure Sequencer where
  next : Nat := 0
  done : Nat := 0
  ended : Bool := false
  fences : List FenceRow := []
  /-- when the first row of the step may trigger (R94) -/
  startAt : Nat := 0
deriving DecidableEq, Repr, Inhabited

/-- A planned line held in collective staging (R121): its row tag and content. -/
structure Staged where
  tag : RowTag
  data : Option (List Nat)
deriving DecidableEq, Repr, Inhabited

/-- What the last GAUGE result announced (R92, R93, R263), to be applied at the step mark that ends its step: ranks admitted and
expelled, hubs joined and left, and the master's step number. -/
structure Announce where
  admits : List Nat := []
  expel : List Nat := []
  join : List Nat := []
  leave : List Nat := []
  master : Nat := 0
deriving DecidableEq, Repr, Inhabited

/-- Steward's mirror of the descriptors, sets and active pattern at the last step mark (R333). -/
structure Mirror where
  descs : Tab Desc := []
  msets : Tab MSet := []
  pattern : Option Nat := none
deriving DecidableEq, Repr, Inhabited

/-- Patterns, rows, descriptors and membership (chapters 3 and 4). -/
structure PatState where
  /-- patterns loaded in the row and header stores of each die (R71) -/
  lib : Tab Pattern := []
  active : Option Nat := none
  seqs : Tab Sequencer := []
  /-- group time of the last write of PAT_NEXT (R97) -/
  nextAt : Nat := 0
  /-- a pattern accepted under R99, with the group time of acceptance -/
  forced : Option (Nat × Nat) := none
  flights : List Flight := []
  descs : Tab Desc := []
  /-- when the step's descriptor take-up starts, until it has been made (R89) -/
  takeUpAt : Option Nat := none
  msets : Tab MSet := []
  /-- the admitted record (R92): one bit a rank, one bit a hub index -/
  admitted : Nat := 0
  joined : Nat := 0
  announce : Option Announce := none
  /-- slots put forward for admission and expulsion in the next GAUGE row, and slots fenced -/
  putAdmit : Nat := 0
  putExpel : Nat := 0
  /-- expulsions that Steward puts forward once it runs again (R373) -/
  dueExpel : Nat := 0
  listedAdmit : Nat := 0
  listedExpel : Nat := 0
  accFenced : Nat := 0
  staging : List Staged := []
  /-- lines that a Sotin port keeps in its receive buffer while staging has no room for them, with the port (R121) -/
  blocked : List (Nat × Staged) := []
  /-- hall counts by route (R119) -/
  hall : Tab Nat := []
  /-- rows for which COL_LATE_DROP or COL_FUSED_HELD has written its record in this step -/
  lateRecorded : List (Nat × Nat) := []
  routes : Tab Route := []
  mirror : Mirror := {}
deriving DecidableEq, Repr, Inhabited

/-- What the block sends. The model's own outbox: each command prepends what it sends, so the newest stands first. -/
inductive Out where
  /-- the answer to a register access or an order: response, value read, retry hint in µs -/
  | answer (resp : Resp) (value hint : Nat)
  /-- a management message's response with its body -/
  | mgmt (role : Role) (code : Nat) (resp : Resp) (body : List Nat)
  /-- a notice with its number (R405) -/
  | notice (role : Role) (code number : Nat) (body : List Nat)
  /-- the response to an open request: its link, tag, response, data, hint and outcome-unknown flag (R208) -/
  | openAnswer (link tag : Nat) (resp : Resp) (data : List Nat) (hint : Nat) (unknown : Bool)
  /-- an open request forwarded on a link (R170, R176) -/
  | openForward (link id : Nat) (req : OpenReq)
  /-- a control message on a link: code, parameter, further words (R210) -/
  | control (link code param : Nat) (words : List Nat)
  /-- a flit's 200 bytes on a link (R202): the transactions and control messages of this list travel in them -/
  | flit (link : Nat) (bytes : List Nat)
  /-- a management message's payload words handed to this hub's Steward, and a message sent on a link (R221) -/
  | mgmtDelivered (hub tag : Nat) (payload : List Nat)
  | mgmtForward (link : Nat) (isReq : Bool) (hub tag : Nat) (payload : List Nat)
  /-- a planned read of the line at window offset `offset` of a slot (R209) -/
  | pread (slot : Nat) (tag : RowTag) (offset : Nat)
  /-- a planned write to a slot, `none` for POISON (R209, R322) -/
  | pdata (slot : Nat) (tag : RowTag) (offset : Nat) (data : Option (List Nat))
  /-- a planned line to another hub on a Sotin port, with the further hops and their egress ports, `none` for POISON (R117, R118) -/
  | planned (port : Nat) (tag : RowTag) (hops path : Nat) (data : Option (List Nat))
  /-- a power profile's write on a regulator (R435) -/
  | regWrite (w : WriteRec)
  /-- an AVSBus write of a slot's core rail in mV (R254) -/
  | coreVoltage (slot mv : Nat)
  /-- the recovery of a service bus by its controller (R385, R501) -/
  | busRecovery (controller : Nat)
  | codeRewritten (proc : Nat)
  /-- an ICMPv6 or neighbour-discovery answer (R389) -/
  | icmp (dest ident : Nat) (kind : Nat)
  /-- a chunk of a pushed image to an accelerator (R464) -/
  | push (slot chunk : Nat)
  /-- a read of a skein from the custodian (R458) -/
  | skeinRead (index : Nat)
  /-- an order to the module of a Sotin port (R222) -/
  | moduleOrder (port : Nat) (order : ModuleOrder)
deriving DecidableEq, Repr, Inhabited

/-- A request waiting in a queue (R190): its issue number on this hub and when it was accepted, in group time. -/
structure Waiting where
  id : Nat
  req : OpenReq
  at_ : Nat
deriving DecidableEq, Repr, Inhabited

/-- A hardware context (R191): the request, its die, when it was accepted, the link it was dispatched through if it left this
hub's pools, and whether it has been performed. -/
structure Context where
  id : Nat
  req : OpenReq
  die : Nat
  at_ : Nat
  link : Option Nat := none
deriving DecidableEq, Repr, Inhabited

/-- A request or management message for another hub that waits for tokens on its way through the crossbar (R170, R221): the link it leaves by,
its charges by resource, and what is sent. -/
structure Crossing where
  link : Nat
  charges : List (Nat × Nat)
  out : Out
deriving DecidableEq, Repr, Inhabited

/-- The counts of one queue's telemetry record (R196). -/
structure QueueStat where
  bytes : Nat := 0
  completed : Nat := 0
  retry : Nat := 0
  busy : Nat := 0
  denied : Nat := 0
deriving DecidableEq, Repr, Inhabited

/-- The counts of one memory unit's telemetry record (R196). -/
structure MemStat where
  corrected : Nat := 0
  uncorrectable : Nat := 0
  poison : Nat := 0
  read : Nat := 0
  written : Nat := 0
deriving DecidableEq, Repr, Inhabited

/-- The pools and open traffic (chapter 6). `pool` holds the bytes of both pools by local offset in the canonical form of
`Memory.wf`; `marked` lists the lines marked POISON (R320) by local offset divided by 256, in rising order. -/
structure MemState where
  pool : List Host.Cell := []
  marked : List Nat := []
  guards : List Guard := []
  queues : Tab QueueCfg := []
  paths : List OpenPath := []
  nextId : Nat := 0
  waiting : Tab (List Waiting) := []
  ctxs : List Context := []
  /-- bytes dispatched this step by queue, and deficit counters (R191, R192) -/
  used : Tab Nat := []
  deficit : Tab Nat := []
  /-- the queue each die's dispatcher stands at, and whether it has its quantum of this round (R191) -/
  turn : Tab (Nat × Bool) := []
  /-- requests of other hubs that the crossbar has forwarded: the number by which this hub knows them, whence and whither (R170) -/
  transit : List Context := []
  /-- what the crossbar has to forward and that waits for tokens (R170, R189, R221) -/
  crossing : List Crossing := []
  /-- token buckets: thousandths of a byte spent and when, by resource (R189) -/
  spent : Tab (Nat × Nat) := []
  /-- tiles fenced other than by a domain that is off, by die -/
  fenced : Tab Nat := []
  /-- shares set by the header or the last OPEN row, in percent, by die: link and pool -/
  shares : Tab (Nat × Nat) := []
  qstat : Tab QueueStat := []
  mstat : Tab MemStat := []
  /-- group time of the last error record for DENIED or INVALID, by source -/
  refuseAt : Tab Nat := []
  /-- corrected lines waiting for their write-back (R317): line and the time of the correction -/
  writeback : List (Nat × Nat) := []
  /-- the telemetry snapshot as non-zero 32-bit words by offset (R196), and its counters -/
  snapshot : Tab Nat := []
  snapSeq : Nat := 0
  snapCount : Nat := 0
  snapAt : Nat := 0
deriving DecidableEq, Repr, Inhabited

/-- A packet or a control message that waits to leave on a link (R208, R210): its words not yet sent, what it says, whether some of it
has left, and whether it is traffic that this hub forwards (R120). -/
structure TxPacket where
  words : List Nat
  out : Out
  begun : Bool := false
  transit : Bool := false
deriving DecidableEq, Repr, Inhabited

/-- A flit in the replay store (R203, R204): its sequence number, how often it has been resent, its channel, its control word, its payload
words and the channel to which it returns credit. -/
structure StoredFlit where
  seq : Nat
  resends : Nat := 0
  vc : Nat := 0
  control : Nat := 0
  payload : List Nat := []
  credit : Option Nat := none
deriving DecidableEq, Repr, Inhabited

/-- A link's state beyond its LNK registers (chapter 7), by unit number 0 to 15: AL0 to AL7, then SP0 to SP7. -/
structure Link where
  /-- entries to DOWN within the last 600 s, newest first, since the link last left LATCHED -/
  downs : List Nat := []
  /-- OFF was entered from LATCHED (R215) -/
  latchHeld : Bool := false
  downAt : Nat := 0
  upAt : Nat := 0
  trainAt : Nat := 0
  trainStep : Nat := 0
  stepAt : Nat := 0
  lastFlit : Nat := 0
  lastSent : Nat := 0
  /-- next sequence number to send and next expected (R202, R203) -/
  txSeq : Nat := 0
  rxSeq : Nat := 0
  /-- the replay store: flits sent and not acknowledged, oldest first (R204) -/
  store : List StoredFlit := []
  nakSent : Bool := false
  nakActed : Option Nat := none
  credit : Tab Nat := []
  owed : Tab Nat := []
  uncorr : List Nat := []
  /-- a control message in progress: its words so far, the group time of its header word, and whether a flit of it was a replay (R210,
  R214) -/
  ctlPart : List Nat := []
  ctlAt : Nat := 0
  ctlReplay : Bool := false
  /-- a packet in progress, by virtual channel: its words so far (R208) -/
  pktPart : Tab (List Nat) := []
  /-- control messages that wait to leave, packets by virtual channel, the channel that sent last, and whether the last planned packet was
  forwarded traffic (R120, R207) -/
  control : List TxPacket := []
  queue : Tab (List TxPacket) := []
  turn : Nat := 2
  lastTransit : Bool := false
  plannedSent : Nat := 0
  plannedRecv : Nat := 0
  openSent : Nat := 0
  openRecv : Nat := 0
  activityCount : Nat := 0
  activityAt : Nat := 0
  activityLost : Bool := false
  /-- Sotin links: UP since before the last step mark, so planned traffic may use it (R218) -/
  planned : Bool := false
  /-- the lanes with inverted polarity that training found, and the port's own transmit and receive latencies in 0.125 ns (R201, R217) -/
  polarity : Nat := 0
  latTx : Nat := 0
  latRx : Nat := 0
deriving DecidableEq, Repr, Inhabited

/-- The links, identity memories and modules (chapter 7). -/
structure LnkState where
  links : Tab Link := []
  identity : Tab IdentityMem := []
  /-- slots whose identity memory has been read since presence -/
  identityRead : Nat := 0
  modules : Tab ModuleRead := []
deriving DecidableEq, Repr, Inhabited

/-- A rail channel as the sequencer holds it (R225 to R237): SEQ_RAIL_n.state's code, the count of chatter, the rise time, whether
the last sequence skipped it, when its enable was asserted or dropped, the start of a debounce window, since when RAIL_PG is low, and
when a READ_VOUT last arrived. -/
structure Rail where
  state : Nat := 0
  chatter : Nat := 0
  rise : Nat := 0
  skipped : Bool := false
  enableAt : Nat := 0
  dropAt : Nat := 0
  window : Option Nat := none
  lowAt : Option Nat := none
  voutAt : Option Nat := none
  /-- the present low of RAIL_PG has been declared a rail fault -/
  faulted : Bool := false
deriving DecidableEq, Repr, Inhabited

/-- The kinds of sequence: a tray cast-on, a tray bind-off, a slot cast-on or bind-off, and the table adoption of R243, which binds
off and then casts on. -/
inductive SeqKind where
  | trayOn
  | trayOff
  | slotsOn
  | slotsOff
  | adopt
deriving DecidableEq, Repr, Inhabited

/-- The running sequence: its kind, its slots, the groups still to come as channels, the group being resolved, whether that group's
enables have been asserted or dropped and when it may be, whether it is in its binding-off part, and whether TRAY_INPUT_OFF follows
whatever the outcome. -/
structure SeqRun where
  kind : SeqKind
  slots : Nat := 0xFF
  groups : List (List Nat) := []
  current : List Nat := []
  acted : Bool := false
  at_ : Nat := 0
  off : Bool := false
  forceInput : Bool := false
  start : Nat := 0
  /-- slots that left the sequence to be bound off when it ends (R242) -/
  leaving : Nat := 0
deriving DecidableEq, Repr, Inhabited

/-- The rail sequencer (chapter 8). Channel sets are bit sets of 64. `held` are the orders held, in arrival order: on or off, the whole
tray or its slots. `perst` are reset releases due: when and which slots. -/
structure SeqState where
  present : Nat := 0
  state : Nat := 0
  en : Nat := 0
  pg : Nat := 0
  good : Nat := 0
  notGood : Nat := 0
  chatter : Nat := 0
  notFallen : Nat := 0
  fault : Nat := 0
  rails : Tab Rail := []
  vout : Tab Nat := []
  run : Option SeqRun := none
  held : List (Bool × Bool × Nat) := []
  settle : Option Nat := none
  perst : List (Nat × Nat) := []
  /-- slots whose five rails were cut and have not been cast on since (R241) -/
  cut : Nat := 0
  /-- hub channels whose rail fault holds their dies until they are cast on and prove good (R234) -/
  faultHold : Nat := 0
  /-- the table that an adopted table replaced, for the channels it alone lists (R243) -/
  oldRails : List RailCfg := []
  /-- an adoption waits for the running sequence to end (R242, R243) -/
  adoptWaits : Bool := false
  /-- slots whose bind-off by fault action 2 waits for Steward to order it (R240, R244) -/
  faultOff : Nat := 0
  trace : Tab (List Nat) := []
  traceNext : Nat := 0
  traceWrapped : Bool := false
  startAt : Nat := 0
  /-- a cast-on order may be taken: a configuration image has been verified (R228) -/
  verified : Bool := false
deriving DecidableEq, Repr, Inhabited

/-- What the estimator and the Power processor hold of a slot (R248 to R254, R265 to R273). Powers are in W. -/
structure SlotPower where
  table : List GaugeEntry := []
  coeff : List Nat := []
  /-- p_s, the calibration factor k_s, the reference counters with their stamp in group time -/
  p : Rat := 0
  k : Rat := 1
  counters : List Nat := []
  stamp : Option Nat := none
  /-- p_s summed over the estimates since the last calibration, and their number -/
  sum : Rat := 0
  n : Nat := 0
  /-- energy below 1 µJ carried forward -/
  frac : Rat := 0
  /-- the level whose voltage was last written to the core rail, and the confirmed level (R254) -/
  want : Option Nat := none
  confirmed : Option Nat := none
  /-- the gauge last reported, and since when it has differed from the gauge in force -/
  reported : Nat := 0
  differs : Bool := false
  mismatchNoted : Bool := false
  capDuty : Nat := 8
  guardDuty : Nat := 8
  /-- hints taken in this step -/
  hints : Nat := 0
deriving DecidableEq, Repr, Inhabited

/-- Sums of the tray estimates of one 100 µs: their number, and the sums of the tray, the hub, the auxiliary and each slot's power. -/
structure PowerBucket where
  n : Nat := 0
  tray : Rat := 0
  hub : Rat := 0
  aux : Rat := 0
  slots : List Rat := []
deriving DecidableEq, Repr, Inhabited

/-- The 1 ms interval of R258 in which the tray's average was highest: the average, each slot's power and duty, the gauge, the hub and
auxiliary estimates and each partition's attributed hub power. -/
structure PowerPeak where
  avg : Rat := 0
  slots : List Rat := []
  duties : List Nat := []
  gauge : Nat := 0
  hub : Rat := 0
  aux : Rat := 0
  parts : List Rat := []
deriving DecidableEq, Repr, Inhabited

/-- A hint taken and not yet ended (R271): slot, angle, the angle of its pre-position, watts, duration; whether its pre-position has
been made. -/
structure HintWait where
  slot : Nat
  angle : Nat
  lead : Nat
  watts : Nat
  duration : Nat
  positioned : Bool := false
deriving DecidableEq, Repr, Inhabited

/-- The ramp limiter's open window (R272): its end in group time, its slope in W/ms and c. -/
structure RampWindow where
  endAt : Nat
  slope : Nat
  c : Rat
deriving DecidableEq, Repr, Inhabited

/-- Power estimation, caps and the gauge (chapter 9). -/
structure PwrState where
  /-- the gauge is held in HOLDOVER and until the first boundary after LOCKED (R69), which the member has reached again -/
  gaugeHeld : Bool := false
  holdEnds : Bool := false
  slots : Tab SlotPower := []
  /-- the auxiliary estimate, which starts at PWR_SHARE_CFG.aux_min (R251) -/
  aux : Rat := 300
  /-- a die's last regulator reading in mW and when (R251) -/
  dieRead : Tab (Nat × Nat) := []
  acc : PowerBucket := {}
  buckets : List PowerBucket := []
  trayAvg : Rat := 0
  partAvg : List Rat := []
  peak : Option PowerPeak := none
  peakPrev : Option PowerPeak := none
  /-- hub energy since the last attribution and the fraction below 1 µJ, in µJ; bytes by partition; attributed hub power in W -/
  hubEnergy : Rat := 0
  hubFrac : Rat := 0
  partBytes : Tab Nat := []
  /-- what each accelerator link had carried at the last attribution (R274) -/
  linkBytes : Tab Nat := []
  partHub : List Rat := []
  /-- step marks since the gauge last fell (R259) -/
  sinceCut : Option Nat := none
  /-- since when the tray (8) or a partition exceeds its cap -/
  excess : Tab Nat := []
  /-- the excesses that have been throttled (R266) -/
  throttled : Nat := 0
  /-- when the cap duties last stepped, and by slot since when the averages have stayed 5% below its caps (R267) -/
  dutyAt : Nat := 0
  belowSince : Tab Nat := []
  guardAt : Nat := 0
  guardBelow : Option Nat := none
  guardExcess : Option Nat := none
  unmetAt : Option Nat := none
  /-- release writes pending: profile and angle (R270) -/
  releases : List (Nat × Nat) := []
  hints : List HintWait := []
  ramp : Option RampWindow := none
  dRamp : Nat := 8
  rampAt : Nat := 0
  /-- slots whose ACC_SLOW_N is held until their voltage is confirmed (R254) -/
  slowHold : Nat := 0
  /-- this hub's contribution to the last GAUGE row, and the result received in this step -/
  record : List Nat := []
  result : Option (List Nat) := none
  /-- the application due, in group time, with its gauge; when the gauge in force was applied; the cut write due -/
  applyAt : Option (Nat × Nat) := none
  appliedAt : Nat := 0
  cutAt : Option Nat := none
  slowAt : Nat := 0
deriving DecidableEq, Repr, Inhabited

/-- A scheduled coolant load (R284): the slots it is spread over, W, its start and length in group time. -/
structure CoolLoad where
  slots : Nat
  watts : Nat
  start : Nat
  len : Nat
deriving DecidableEq, Repr, Inhabited

/-- A fan beyond its COOL_FAN register (R296 to R298): when its start or kick began, when the stall or last kick was, the tach windows
missed in a row and whether every one of them saw normal current, and since when probes see no fan. -/
structure Fan where
  startAt : Option Nat := none
  kicking : Bool := false
  kickAt : Nat := 0
  missed : Nat := 0
  normalCurrent : Bool := true
  goneSince : Option Nat := none
deriving DecidableEq, Repr, Inhabited

/-- A pump beyond its COOL_PUMP register (R299): windows missed in a row, since when it is slow, until when it starts at 100%. -/
structure Pump where
  missed : Nat := 0
  slowSince : Option Nat := none
  startUntil : Nat := 0
deriving DecidableEq, Repr, Inhabited

/-- A TEMP_SNS (0 to 15) or FLOW_PLS (16 to 23) input (R279, R281): since when it reads in range while failed, since when it departs
from its prediction, and since when it agrees while suspect. -/
structure Sensor where
  inRangeSince : Option Nat := none
  departSince : Option Nat := none
  agreeSince : Option Nat := none
deriving DecidableEq, Repr, Inhabited

/-- Cooling (chapter 10). Commands are the firmware's, before the floor engine; `f` is the floor input of R287 in units of 0.125 °C. -/
structure CoolState where
  loads : List CoolLoad := []
  fans : Tab Fan := []
  pumps : Tab Pump := []
  sensors : Tab Sensor := []
  valveCmd : Tab Nat := []
  pumpCmd : Nat := 0
  fanCmd : Nat := 0
  /-- since when a valve disagrees (R300), and until when R295 holds it open -/
  valveWrong : Tab Nat := []
  openUntil : Tab Nat := []
  /-- consecutive failed junction reads by slot -/
  readFails : Tab Nat := []
  f : Option Int := none
  /-- the surrogate's hidden layer and last outputs as FP32 words, and how many steps it has run -/
  h : List Nat := []
  predicted : List Nat := []
  ticks : Nat := 0
  implausibleAt : Nat := 0
  /-- the integral of the pump law in kPa -/
  integral : Int := 0
  /-- since when a die's DTS is above 105 °C, whether that was recorded, and since when both its kiln sensors are below 100 °C -/
  overSince : Tab Nat := []
  overNoted : Nat := 0
  kilnLow : Tab Nat := []
  /-- the ceiling that stood when the floor input of a halted Cooling processor reached the top breakpoint (R290) -/
  heldCeiling : Option Nat := none
deriving DecidableEq, Repr, Inhabited

/-- The leak front end (R301 to R305): wet samples in a row by loop, since when a loop has been open or short, out of band, or dry, and
wet zones whose orders Steward has still to give. -/
structure LeakState where
  wetRun : Tab Nat := []
  brokenSince : Tab Nat := []
  bandSince : Tab Nat := []
  drySince : Tab Nat := []
  orders : Nat := 0
  /-- of those, the ones the floor engine ordered while Steward was halted -/
  ordered : Nat := 0
  /-- the loop that completed a zone's wet samples -/
  wetLoop : Tab Nat := []
deriving DecidableEq, Repr, Inhabited

/-- The monitors (R306 to R309): readings by die, kind and index, the learned trim, ring-oscillator references. -/
structure MonState where
  readings : Tab Nat := []
  trims : Tab Int := []
  /-- since when a voltage monitor, by its key, reads outside its band, and those whose alarm has been raised (R307) -/
  voltSince : Tab Nat := []
  voltNoted : List Nat := []
deriving DecidableEq, Repr, Inhabited

/-- Integrity and containment (chapter 11): the error-record ring (R340), the lines whose corrected-error record has been written
in this hour of operating time (R317), the containments of the last 10 minutes, and the containment in progress. -/
structure ErrState where
  ring : Tab ErrRec := []
  next : Nat := 0
  wrapped : Bool := false
  sequence : Nat := 0
  /-- line or word with a record, and the operating second of it -/
  ceRecorded : Tab Nat := []
  /-- when the native containment in progress began -/
  containAt : Option Nat := none
  /-- the links that were UP when the containment in progress began (R332) -/
  containLinks : Nat := 0
  contained : List Nat := []
  partitionResets : List (Nat × Nat) := []
  partitionsResetting : Nat := 0
  /-- stacks (bits 0 to 5) and channels (bits 16 to 31) in self-refresh -/
  selfRefresh : Nat := 0
  bridgeResends : Nat := 0
  /-- consecutive mismatching reports, and when the last report came (R327) -/
  crossBad : Nat := 0
  /-- the item of the last report that differed (R327, R339) -/
  crossItem : Nat := 0
  reportAt : Nat := 0
  crossFailed : Bool := false
deriving DecidableEq, Repr, Inhabited

/-- What is held of an observed unit outside the settings store (R349 to R363): the operating seconds of its last three faults, newest
first; the step marks counted when its last swatch ended; a swatch ordered and not started; the start of one that runs; whether it is
fenced for a swatch only, has passed since it failed, and is to be readmitted at the next step mark; the class of the fault being
re-executed; and the record of its last swatch. -/
structure UnitLive where
  history : List Nat := []
  base : Nat := 0
  waiting : Bool := false
  running : Option Nat := none
  forSwatch : Bool := false
  passed : Bool := false
  readmit : Bool := false
  shadow : Option Nat := none
  /-- held out of admission until it passes a swatch (R347) -/
  held : Bool := false
  last : Option ErrRec := none
deriving DecidableEq, Repr, Inhabited

/-- Digests, swatches and history (chapter 12). `marks` counts step marks; `hubSet` says that the hub-tile pattern set has been verified
within its size (R356) and `sets` names the accelerator pattern sets of the test store (R357); `result` and `lastUnit` are those of the last swatch. -/
structure SdcState where
  units : Tab UnitLive := []
  marks : Nat := 0
  hubSet : Bool := false
  sets : List Nat := []
  result : Nat := 0
  lastUnit : Nat := 0
deriving DecidableEq, Repr, Inhabited

/-- One firmware processor beyond its FW registers (R370 to R376): its watchdog, the crashes of the last 600 s, the restart in
progress and its log ring. -/
structure Proc where
  armed : Bool := false
  kickedAt : Nat := 0
  /-- halted through the debug port, with its watchdog paused (R486) -/
  debugHalt : Bool := false
  crashes : List Nat := []
  restartAt : Nat := 0
  /-- released from reset within its restart (R372) -/
  released : Bool := false
  log : Tab LogEntry := []
  logNext : Nat := 0
  logWrapped : Bool := false
  logSeq : Nat := 0
deriving DecidableEq, Repr, Inhabited

/-- The firmware processors (chapter 13). `stopSeq` is the first error record made while the Recorder was halted (R373). -/
structure FwState where
  procs : Tab Proc := []
  /-- time of the last watchdog expiry by processor (R466) -/
  lastExpiry : Tab Nat := []
  haltSeq : Option Nat := none
deriving DecidableEq, Repr, Inhabited

/-- An operation posted to a shared controller (R379): for each of its transfers, whether it is locked to the next, and how
many have been completed. -/
structure BusOp where
  locks : List Bool
  done : Nat := 0
deriving DecidableEq, Repr, Inhabited

/-- The service bus arbiter (R379 to R385): the operations by 8 times the controller plus the processor. -/
structure ArbState where
  ops : Tab BusOp := []
deriving DecidableEq, Repr, Inhabited

/-- The open session (R395, R396): its identifier, holder, transport source, bridge hub, key index, last accepted sequence,
the response kept for a retransmission, and when the holder last sent within it. -/
structure Session where
  id : Nat
  role : Role
  source : Nat
  key : Nat
  lastSeq : Nat := 0
  cached : Option (Resp × List Nat) := none
  heardAt : Nat := 0
deriving DecidableEq, Repr, Inhabited

/-- The last signed message accepted for a key outside a session, with its cached response (R396). -/
structure SignedLast where
  bytes : Nat := 0
  resp : Resp := .ok
  body : List Nat := []
  at_ : Nat := 0
deriving DecidableEq, Repr, Inhabited

/-- A reassembly of a fragmented datagram (R389): its identity, when it began, its whole length and the bytes held. -/
structure Reassembly where
  id : Nat
  since : Nat
  need : Nat
  have_ : Nat
deriving DecidableEq, Repr, Inhabited

/-- The management protocol (chapter 14). Token buckets hold what has been spent, in millionths of a token, and when. -/
structure MgtState where
  session : Option Session := none
  spent : Tab (Nat × Nat) := []
  signedLast : Tab SignedLast := []
  failures : List (Nat × Nat) := []
  lockouts : Tab Nat := []
  noticeNumber : Nat := 0
  /-- when the rack manager and the host were last heard (R409) -/
  heardRm : Nat := 0
  heardHost : Nat := 0
  reassemblies : List Reassembly := []
deriving DecidableEq, Repr, Inhabited

/-- The Recorder (chapter 15): the pending queue oldest first (R418), the open runs (R420), the records dropped since the
queue was last full, the block erase ahead of the write position (R411) and the freeze (R425). -/
structure RecState where
  queue : List CaskRec := []
  runs : List CaskRun := []
  nextRun : Nat := 1
  dropped : Nat := 0
  /-- the block sequence whose erase has been ordered and has not ended -/
  erasing : Option Nat := none
  /-- the block sequence whose erase a freeze withholds (R425) -/
  heldErase : Option Nat := none
  /-- the block sequence of the erased block ahead of the write position -/
  erased : Option Nat := none
  /-- when the freeze in force began, and the session that made it -/
  freezeAt : Nat := 0
  freezeSession : Nat := 0
  /-- operating second of the last header snapshot -/
  snapshotAt : Nat := 0
deriving DecidableEq, Repr, Inhabited

/-- The configuration and start-up (chapter 16): the dies whose reserved HBM holds a copy of their hub sections (R444), and the rail table
in force when a full restart began, while it is not over (R243). -/
structure CfgState where
  copies : Nat := 0
  /-- dies whose pool preload has been written since device start -/
  preloaded : Nat := 0
  oldRails : Option (List RailCfg) := none
deriving DecidableEq, Repr, Inhabited

/-- A trickle transfer as the state area holds it (R458): its identifier, type and length and the skeins that the bitmap marks. -/
structure Trickle where
  id : Nat
  typ : Nat
  length : Nat
  bitmap : Nat := 0
deriving DecidableEq, Repr, Inhabited

/-- What outlives every reset but an erasure: the cask, the settings area, and the state area (R411, R429, R467, R468). -/
structure Flash where
  cask : Tab CaskCell := []
  settings : Settings := {}
  /-- the settings version and generation of the half in use, and whether the store holds values -/
  version : Nat := 0
  generation : Nat := 0
  used : Bool := false
  /-- image regions left INCOMPLETE, bit t for type t (R454), and those whose content was written and not verified since -/
  incomplete : Nat := 0
  written : Nat := 0
  /-- what the tray staging region holds, and the measurement of the last image pushed (R465) -/
  stage : Option StageFile := none
  pushed : Nat := 0
  /-- the trickle in progress, and the last completed and abandoned identifiers -/
  trickle : Option Trickle := none
  trickleDone : Nat := 0
  trickleAbandoned : Nat := 0
  /-- signing counters (R392, R481) and token counters (R485): 0 to 3 rack manager, 4 to 7 host, 8 to 11 maker, 12 to 15 owner bank 0, 16 to
  19 owner bank 1 -/
  signCtr : Tab Nat := []
  tokenCtr : Tab Nat := []
  /-- owner public keys as digests, by 4 times the bank plus the index; the identity digest that the device certificate names, 0 for none;
  the commander keys present and the management address last copied (R432) -/
  ownerKeys : Tab Nat := []
  cert : Nat := 0
  keys : Nat := 0
  address : Nat := 0
  /-- whether the last verified tray description sets bit 31 (R469) -/
  grouped : Bool := false
deriving DecidableEq, Repr, Inhabited

/-- The open transfer (R454, R459): its type and length, the blocks or skeins received, whether a trickle is paused, and when it last was
heard. -/
structure Xfer where
  trickle : Bool := false
  paused : Bool := false
  typ : Nat
  length : Nat
  got : Nat := 0
  heardAt : Nat := 0
deriving DecidableEq, Repr, Inhabited

/-- A push of one component to one slot (R465): the chunks it takes, those acknowledged, when the last was sent, and whether the accelerator
has shown that it is busy with the last. -/
structure Push where
  slot : Nat
  comp : Nat
  chunks : Nat
  done : Nat := 0
  at_ : Nat := 0
deriving DecidableEq, Repr, Inhabited

/-- Image update (chapter 17). -/
structure UpdState where
  xfer : Option Xfer := none
  /-- the custody header and the skeins loaded (R457) -/
  custody : Option CustodyHeader := none
  loaded : Nat := 0
  /-- pushes to come in order, components accepted by slot, slots refused, and whether a push was cut short (R465) -/
  pushes : List Push := []
  accepted : List (Nat × Nat) := []
  refusedSlots : Nat := 0
  pushCut : Bool := false
  /-- when each type's running image began its 600 s (R466) -/
  svnAt : Tab Nat := []
  pollAt : Nat := 0
  pullAt : Nat := 0
  /-- an activation under way (R461): the flags that its event is still to give, 0 for none, and the next link-and-queue processor to restart,
  8 for none -/
  act : Option (Nat × Nat) := none
  /-- features of the running WARDEN image (R378) -/
  features : Nat := 1
deriving DecidableEq, Repr, Inhabited

/-- One-time-programmable memory (R471): the unique secret, the serial number, key digests, revoke bits, the copies of each marker M1 to M8
as three bits, and the security version counters by type. -/
structure Otp where
  secret : Nat := 0
  serial : Nat := 0
  makerKeys : List Nat := []
  owner0 : List Nat := []
  owner1 : List Nat := []
  makerRevoked : Nat := 0
  owner0Revoked : Nat := 0
  owner1Revoked : Nat := 0
  markers : Tab Nat := []
  svn : Tab Nat := []
  /-- the trim tables of R306 as maker test programs them -/
  trims : List Int := []
deriving DecidableEq, Repr, Inhabited

/-- Security (chapter 18): owner keys staged as digests, the return consent's key and time, the measurement slots of R477. -/
structure SecState where
  staged : Tab Nat := []
  consent : Option (Nat × Nat) := none
  meas : Tab Nat := []
deriving DecidableEq, Repr, Inhabited

/-- Pin and bus levels that no register of another block holds (R503, R507): ACC_THERMTRIP_N lines low, and the mode that the test store
reached: 0 none, 1 legacy, 2 HS200, 3 HS400. -/
structure PinState where
  thermtrip : Nat := 0
  emmc : Nat := 0
deriving DecidableEq, Repr, Inhabited

/-- Why a command's step may stop. The block itself never faults: each of its rules gives an effect, an answer or a mark. -/
inductive Fault where
  /-- raised by no command; it keeps the interface's fault outcome named. Safe: nothing reaches it. -/
  | none
deriving DecidableEq, Repr, Inhabited

/-- Why a command's step may be refused. -/
inductive Refusal where
  /-- raised by the dispatcher for a command that has no meaning yet. Safe: the block goes on where the model stops. -/
  | notModelled (mnemonic : String)
deriving DecidableEq, Repr, Inhabited

/-- The block's whole state. `pending` is the queue of commands, first in first out. `now` is the warden's time in µs. `regs` holds
the fields of the management registers that differ from their Reset values, by field key; `wide` the 64-bit activity counts by the
key of their low word; `out` what the block has sent; `freeCtr` counts the free values taken. -/
structure State where
  pending : List Instr := []
  now : Nat := 0
  regs : Tab Nat := []
  wide : Tab Nat := []
  out : List Out := []
  freeCtr : Nat := 0
  sup : Supply := {}
  cad : Cadence := {}
  /-- the tracker of a die that was released while the other ran, while it differs from the hub's (R46, R49) -/
  own : Tab Cadence := []
  gt : GroupTime := {}
  pat : PatState := {}
  mem : MemState := {}
  lnk : LnkState := {}
  seq : SeqState := {}
  pwr : PwrState := {}
  cool : CoolState := {}
  leak : LeakState := {}
  mon : MonState := {}
  itg : ErrState := {}
  sdc : SdcState := {}
  fw : FwState := {}
  arb : ArbState := {}
  mgt : MgtState := {}
  rcd : RecState := {}
  cfg : CfgState := {}
  img : Image := {}
  upd : UpdState := {}
  sec : SecState := {}
  flash : Flash := {}
  otp : Otp := {}
  pin : PinState := {}
deriving DecidableEq, Repr, Inhabited

/-- The block right after the warden power-on reset (R39): every register at its Reset value, no command waiting, the warden
running from standby, every rail off, both hub dies held, flash and OTP blank (log 1). A BLANK part has every debug scope open (R484). -/
def State.reset : State := { sup := { standby := true, wardenOn := true }, regs := [(R.SEC_DEBUG.scope.key, 0xF)] }

end Sys2Proof.Machine
end

