-- ==== Sys2Proof/Machine/Ops.lean ====
section
/-! DEFINITION. The named operations over State: register fields, event counts, what the block sends, error records, the
recorder's queue, and the plainest questions about the parts. -/

namespace Sys2Proof.Machine

/-! ## Registers and counts -/

/-- The value of a register field: its Reset value where the file lists none (R14, R15). -/
def State.rd (s : State) (f : Fld) : Nat := tgetD s.regs f.key f.rst

/-- The field file with field `f` at `v`, reduced to the field's width; a field at its Reset value is not listed. -/
def putField (t : Tab Nat) (f : Fld) (v : Nat) : Tab Nat :=
  if v % 2 ^ f.w = f.rst then tdel t f.key else tput t f.key (v % 2 ^ f.w)

/-- Sets a register field. -/
def State.wr (s : State) (f : Fld) (v : Nat) : State := { s with regs := putField s.regs f v }

/-- Whether a one-bit field is 1. -/
def State.on (s : State) (f : Fld) : Bool := s.rd f != 0

/-- R9: an event count advances by one; at all-ones it holds, and its overflow bit records the lost event. -/
def State.bump (s : State) (c : Cnt) : State :=
  if s.rd c.cnt = 2 ^ 32 - 1 then s.wr c.ovf 1 else s.wr c.cnt (s.rd c.cnt + 1)

/-- R9: an event count advances by `n`. -/
def State.bumpN (s : State) (c : Cnt) (n : Nat) : State :=
  if s.rd c.cnt + n ≤ 2 ^ 32 - 1 then s.wr c.cnt (s.rd c.cnt + n)
  else (s.wr c.cnt (2 ^ 32 - 1)).wr c.ovf 1

/-- R9: a 64-bit activity count, named by its low word, advances by `n` and wraps. -/
def State.addWide (s : State) (lo : Fld) (n : Nat) : State :=
  { s with wide := tput s.wide lo.key ((tget s.wide lo.key + n) % 2 ^ 64) }

/-- The `n`th free value is taken: the counter of free values advances. -/
def State.drawFree (s : State) : State := { s with freeCtr := s.freeCtr + 1 }

/-! ## What the block sends -/

/-- Sends `o`. -/
def State.emit (s : State) (o : Out) : State := { s with out := o :: s.out }

/-- Answers a register access or an order. -/
def State.answer (s : State) (r : Resp) (value hint : Nat) : State := s.emit (.answer r value hint)

/-! ## Dies, processors and links -/

/-- Whether die `d` runs: released from reset (R40, R42). -/
def State.dieUp (s : State) (d : Nat) : Bool := decide (d < 2) && (tget s.sup.dies d).released

/-- Whether any hub die runs. -/
def State.anyDieUp (s : State) : Bool := s.dieUp 0 || s.dieUp 1

/-- R67: the warden's continuation counter now: it runs on from its last discipline at that rate, off by a drift that the rule bounds at
2 ppm and leaves open, in steps of 40 ns. -/
def continuation (s : State) : Nat :=
  let g := s.gt
  let drift : Int := clampInt (-2000) 2000 (Config.contDrift g.contAt)
  let ns : Int := ((s.now - g.contAt : Nat) : Int) * (1000000000 + g.contRate + drift) / 1000000
  (g.contTime + ns.toNat) / 40 * 40 % 2 ^ 64

/-- Group time as the warden has it: the hub's while a die runs, else its continuation counter (R6, R67). -/
def State.groupNow (s : State) : Nat := if s.anyDieUp then s.gt.time else if s.gt.everRun then continuation s else 0

/-- Changes what the warden holds of die `d`. -/
def State.modDie (s : State) (d : Nat) (f : Die → Die) : State := { s with sup := { s.sup with dies := tmod s.sup.dies d f } }

/-- Applies `f` for each running die. -/
def State.onDies (s : State) (f : Nat → State → State) : State :=
  let s := if s.dieUp 0 then f 0 s else s
  if s.dieUp 1 then f 1 s else s

/-- Sets a field in each running die's block. -/
def State.wrDies (s : State) (f : Nat → Fld) (v : Nat) : State := s.onDies fun d s => s.wr (f d) v

/-- Advances a count in each running die's block. -/
def State.bumpDies (s : State) (c : Nat → Cnt) : State := s.onDies fun d s => s.bump (c d)

/-- Whether an agent's access comes through the address space and not over the warden's register bus. -/
def viaWindow (a : Agent) : Bool := match a with
  | .host => true
  | .window => true
  | _ => false

/-- R508: an access to a register of die `d`: `f` where the die runs, else RETRY with a hint of 10 µs for Steward and of the other
die's MEM_OPEN_CFG.retry_hint for an access through the address space, which reaches no hub when neither die runs. -/
def State.gateDie (s : State) (a : Agent) (d : Nat) (f : State → State) : State :=
  if s.dieUp d then f s
  else if viaWindow a then
    if s.anyDieUp then s.answer .retry 0 (s.rd (R.MEM_OPEN_CFG.retry_hint (1 - d))) else s
  else s.answer .retry 0 10

/-- R508: a request through the address space reaches no hub while neither die runs. -/
def State.reach (s : State) (a : Agent) (f : State → State) : State := if viaWindow a ∧ ¬ s.anyDieUp then s else f s

/-- An access that a block's rule denies to its agent is answered DENIED, where it reaches the hub at all (R508). -/
def State.deny (s : State) (a : Agent) : State := s.reach a fun s => s.answer .denied 0 0

/-- R177: a write stamped with the host's identity is answered DENIED unless the host holds the session. -/
def State.hostGate (s : State) (a : Agent) (f : State → State) : State :=
  if a = .host ∧ (s.mgt.session.any fun q => q.role == .host) = false then s.deny a else s.reach a f

/-- Whether firmware processor `p` runs (R366, R387). -/
def State.procUp (s : State) (p : Nat) : Bool := decide (p < 8) && s.rd (R.FW_PROC.state p) == 1

/-- Changes what the warden holds of processor `p`. -/
def State.modProc (s : State) (p : Nat) (f : Proc → Proc) : State := { s with fw := { s.fw with procs := tmod s.fw.procs p f } }

/-- R376: an entry written to processor `p`'s log ring of 2,048 entries. -/
def State.logEntry (s : State) (p point level : Nat) (args : List Nat) : State :=
  s.modProc p fun q =>
    let e : LogEntry := { time := s.now - s.sup.onAt, point := point, level := level, processor := p, sequence := q.logSeq, args := args }
    { q with log := tput q.log q.logNext e, logNext := (q.logNext + 1) % 2048, logSeq := (q.logSeq + 1) % 2 ^ 32,
             logWrapped := q.logWrapped || q.logNext + 1 == 2048 }

/-- The die of a link (0 to 7 AL, 8 to 15 SP). -/
def linkDie (l : Nat) : Nat := if l < 8 then l / 4 else (l - 8) / 4

/-- The index of a link in its die's LNK registers: 0 to 3 accelerator links, 4 to 7 Sotin ports. -/
def linkIdx (l : Nat) : Nat := if l < 8 then l % 4 else 4 + l % 4

/-- The link of a die with an index in its LNK registers. -/
def linkOf (d i : Nat) : Nat := if i < 4 then 4 * d + i else 8 + 4 * d + (i - 4)

/-- Changes a link's state beyond its registers. -/
def State.modLink (s : State) (l : Nat) (f : Link → Link) : State := { s with lnk := { s.lnk with links := tmod s.lnk.links l f } }

/-- R223: planned data bytes sent on a link (log 65). -/
def State.plannedOut (s : State) (l n : Nat) : State := s.modLink l fun k => { k with plannedSent := (k.plannedSent + n) % 2 ^ 64 }

/-- R223: planned data bytes received on a link. -/
def State.plannedIn (s : State) (l n : Nat) : State := s.modLink l fun k => { k with plannedRecv := (k.plannedRecv + n) % 2 ^ 64 }

/-- R223: open data bytes received on a link. -/
def State.openIn (s : State) (l n : Nat) : State := s.modLink l fun k => { k with openRecv := (k.openRecv + n) % 2 ^ 64 }

/-- The data bytes of a line, none for POISON. -/
def lineBytes (d : Option (List Nat)) : Nat := match d with
  | some l => l.length
  | none => 0

/-- The state of a link (R215): 0 OFF, 1 WAIT, 2 TRAIN, 3 UP, 4 DOWN, 5 LATCHED. A link of a die that does not run is OFF. -/
def State.linkState (s : State) (l : Nat) : Nat :=
  if s.dieUp (linkDie l) then s.rd (R.LNK_STATE.state (linkDie l) (linkIdx l)) else 0

/-- Sets a link's state. -/
def State.setLinkState (s : State) (l v : Nat) : State := s.wr (R.LNK_STATE.state (linkDie l) (linkIdx l)) v

/-- Whether Sotin port `p`'s link is UP. -/
def State.portUp (s : State) (p : Nat) : Bool := decide (p < 8) && s.linkState (8 + p) == 3

/-- Whether die `d` carries traffic: it runs and its crossbar's domain is on (R33). -/
def State.carries (s : State) (d : Nat) : Bool := s.dieUp d && (s.rd (R.PWR_DOMAIN_H.on d)).testBit 16

/-- The tray description. -/
def State.tree (s : State) : Tray := s.img.tray

/-- R66: whether this hub is its cadence master: named by the image, or configured without a cadence group. -/
def trayIsMaster (t : Tray) : Bool := ! t.grouped || t.master == t.hub

/-- Whether SP7 is in host-port mode (R220, R432). -/
def State.hostPortMode (s : State) : Bool := s.img.tray.bridge

/-- R170: the open path towards a hub. -/
def State.openPath (s : State) (hub : Nat) : Option OpenPath :=
  s.mem.paths.find? fun p => decide (p.lo ≤ hub) && decide (hub ≤ p.hi)

/-- Whether domain `n` of die `d` is on. -/
def State.domainOn (s : State) (d n : Nat) : Bool := (s.rd (R.PWR_DOMAIN_H.on d)).testBit n

/-- Whether an accelerator is present in a slot (R503). -/
def State.accPresent (s : State) (slot : Nat) : Bool := s.seq.present.testBit slot

/-- This hub's ranks begin at its group-local index times 8 (R91). -/
def State.rankOf (s : State) (slot : Nat) : Nat := 8 * s.img.tray.index + slot

/-- Whether the accelerator of a slot is admitted (R92) and its hub has joined. -/
def State.accAdmitted (s : State) (slot : Nat) : Bool :=
  s.pat.admitted.testBit (s.rankOf slot) && s.pat.joined.testBit s.img.tray.index

/-- Whether the accelerator of a slot is admitted, or is to be: a GAUGE row has listed it or a result announces it (R92, R93). -/
def State.accIncoming (s : State) (slot : Nat) : Bool :=
  s.accAdmitted slot || s.pat.listedAdmit.testBit slot || s.pat.announce.any fun a => a.admits.contains (s.rankOf slot)

/-- Whether open traffic to and from a slot is served: admitted and not fenced (R176). -/
def State.accServed (s : State) (slot : Nat) : Bool := s.accAdmitted slot && ! s.pat.accFenced.testBit slot

/-- Whether a slot's marks and messages count: its link UP, admitted and not fenced (R44, R50). -/
def State.marksHeard (s : State) (slot : Nat) : Bool := decide (slot < 8) && s.linkState slot == 3 && s.accServed slot

/-- Whether some membership set of the tray lists a slot's accelerator, by its rank or by its hub (R50, R91). -/
def State.inSomeSet (s : State) (slot : Nat) : Bool :=
  s.pat.msets.any fun m => m.2.active.testBit (if m.2.hub then s.img.tray.index else s.rankOf slot)

/-- Whether a slot's PHASE_MARK messages count (R50). -/
def State.phaseHeard (s : State) (slot : Nat) : Bool := s.marksHeard slot && s.inSomeSet slot

/-- The tracker of die `d`: its own where it differs from the hub's (R46, R49). -/
def State.cadOf (s : State) (d : Nat) : Cadence := (tfind s.own d).getD s.cad

/-- A die's own tracker put in the place of the hub's (R46): the tracker's own fields. -/
def Cadence.tracked (c o : Cadence) : Cadence :=
  { c with est := o.est, last := o.last, lastStamp := o.lastStamp, phase := o.phase, inc := o.inc, corr := o.corr, held := o.held,
           stalled := o.stalled, started := o.started, seeded := o.seeded, reseed := o.reseed }

/-- The partition of a slot (R184), as MEM_PARTITION.map lays it out: three bits a slot. -/
def State.partOf (s : State) (slot : Nat) : Nat := bits s.img.tray.map (3 * slot + 2) (3 * slot)

/-- The active pattern. -/
def State.activePattern (s : State) : Option Pattern := match s.pat.active with
  | some n => tfind s.pat.lib n
  | none => none

/-- The active pattern's mark table (R73). -/
def State.markTable (s : State) : List MarkEntry := match s.activePattern with
  | some p => p.marks
  | none => []

/-- The row sequencer's unit: of H0, or of H1 while H0 does not run (R21). -/
def State.seqUnit (s : State) : Nat := if s.dieUp 0 ∨ ¬ s.dieUp 1 then 0x10D0 else 0x20D0

/-- The die that serves a request's queue (R190). -/
def State.servingDie (_s : State) (r : OpenReq) : Nat := r.hdr.queue / 128 % 2

/-! ## Records -/

/-- Whether two bodies repeat each other (R420): equal but for the stamps that rule names. -/
def repeatsBody (a b : CaskBody) : Bool := match a, b with
  | .error x, .error y =>
    x.unit == y.unit && x.operation == y.operation && x.severity == y.severity && x.cls == y.cls && x.detail == y.detail
  | .event c u d, .event c' u' d' => c == c' && u == u' && d == d'
  | _, _ => false

/-- R418: a record stamped now joins the pending queue, or is dropped where the queue holds 1,024. -/
def State.enqueue (s : State) (b : CaskBody) (run : Nat) : State :=
  if 1024 ≤ s.rcd.queue.length then
    let s := { s with rcd := { s.rcd with dropped := s.rcd.dropped + 1 } }
    (s.bump R.REC_DROP_COUNT.c).wr R.REC_STATUS.dropped 1
  else
    let r : CaskRec := { body := b, seconds := s.rd R.REC_SECONDS.seconds, cycles := s.rd R.REC_CYCLES.cycles, run := run }
    let s := { s with rcd := { s.rcd with queue := s.rcd.queue ++ [r] } }
    s.wr R.REC_PENDING.count s.rcd.queue.length

/-- R418: records that waited while the cask was scanned join the queue again, as many as it holds; the rest are dropped and counted. -/
def State.requeue (s : State) (l : List CaskRec) : State :=
  let room := 1024 - s.rcd.queue.length
  let lost := l.length - room
  let s := { s with rcd := { s.rcd with queue := s.rcd.queue ++ l.take room, dropped := s.rcd.dropped + lost } }
  let s := if lost = 0 then s else (s.bumpN R.REC_DROP_COUNT.c lost).wr R.REC_STATUS.dropped 1
  s.wr R.REC_PENDING.count s.rcd.queue.length

/-- R421: a run closes, with a repeat record where it was repeated. The repeat record of a run whose first occurrence has not been
written yet keeps the run's number until its position is known. -/
def closeRun (s : State) (r : CaskRun) : State :=
  let s := { s with rcd := { s.rcd with runs := s.rcd.runs.filter fun q => q.id != r.id } }
  if r.count = 0 then s
  else s.enqueue (.rpt r.count (r.pos.getD 0) r.first r.last r.excess) (if r.pos.isSome then 0 else r.id)

/-- The open run least recently repeated (R421). -/
def oldestRun (l : List CaskRun) : Option CaskRun :=
  l.foldl (init := none) fun best r => match best with
    | none => some r
    | some b => if r.last < b.last then some r else some b

/-- R420: one repeat of a run. -/
def repeatRun (s : State) (r : CaskRun) : State :=
  let now := s.rd R.REC_SECONDS.seconds
  let r' := if r.count < 65535 then { r with count := r.count + 1, last := now }
    else { r with excess := r.excess + 1, last := now }
  let s := { s with rcd := { s.rcd with runs := s.rcd.runs.map fun q => if q.id = r.id then r' else q } }
  if r.count < 65535 then s
  else s.wr R.REC_SUPPRESSED.count (min (2 ^ 32 - 1) (s.rd R.REC_SUPPRESSED.count + 1))

/-- R420, R421: a record repeats an open run, or opens one and is written at once. -/
def State.submit (s : State) (b : CaskBody) : State :=
  let now := s.rd R.REC_SECONDS.seconds
  match s.rcd.runs.find? fun r => repeatsBody r.body b && decide (now ≤ r.last + s.rd R.REC_CFG.repeat_window) with
  | some r => repeatRun s r
  | none =>
    let stale := s.rcd.runs.find? fun r => repeatsBody r.body b
    let s : State := match stale with
      | some r => closeRun s r
      | none => s
    let s : State := if s.rcd.runs.length < 16 then s else match oldestRun s.rcd.runs with
      | some r => closeRun s r
      | none => s
    let id := s.rcd.nextRun
    let run : CaskRun := { id := id, body := b, first := now, last := now }
    let s := { s with rcd := { s.rcd with runs := s.rcd.runs ++ [run], nextRun := id + 1 } }
    s.enqueue b id

/-- A cask event with its unit and further data (R414). -/
def State.event (s : State) (code unit data : Nat) : State := s.submit (.event code unit (data % 2 ^ 112))

/-- A sequence summary (R246). -/
def State.summary (s : State) (q : SeqSummary) : State := s.enqueue (.summary q) 0

/-- The domain of a unit identifier (R10). -/
def unitDomain (u : Nat) : Nat := u / 4096

/-- R338: the temperature an error record carries: a hub unit's die, an accelerator's or its link's junction, else the warden's. -/
def unitTemp (s : State) (u : Nat) : Nat :=
  if unitDomain u = 1 then s.rd R.MON_DTS_H0.temp
  else if unitDomain u = 2 then s.rd R.MON_DTS_H1.temp
  else if unitDomain u = 3 then s.rd (R.COOL_ACC.temp (u % 8))
  else if unitDomain u = 4 ∧ u % 4096 < 8 then s.rd (R.COOL_ACC.temp (u % 8))
  else s.rd R.MON_WARDEN_TEMP.temp

/-- R338: the voltage in mV an error record carries: the die's or the slot's core rail, or a rail's own reading. -/
def unitMv (s : State) (u : Nat) : Nat :=
  let rail (n : Nat) : Nat := tget s.seq.vout n
  if unitDomain u = 1 then (match s.img.coreRail 8 with
    | some c => rail c
    | none => 0)
  else if unitDomain u = 2 then (match s.img.coreRail 9 with
    | some c => rail c
    | none => 0)
  else if unitDomain u = 3 then (match s.img.coreRail (u % 8) with
    | some c => rail c
    | none => 0)
  else if unitDomain u = 8 then rail (u % 64)
  else 0

/-- The 64 bytes of an error record as sixteen words' worth of one number, without the check (R338). -/
def errBytes60 (r : ErrRec) : List Nat :=
  bytesOf 60 (atByte 0 r.unit + atByte 2 r.operation + atByte 4 r.groupTime + atByte 12 r.seconds + atByte 16 r.cycles +
    atByte 19 r.severity + atByte 20 r.temp + atByte 22 r.millivolts + atByte 24 r.cls + atByte 28 r.sequence +
    atByte 32 r.detail + atByte 48 r.step)

/-- The 64 bytes of an error record with its check (R338). -/
def errBytes (r : ErrRec) : List Nat := errBytes60 r ++ bytesOf 4 (crc32c (errBytes60 r))

/-- R405: a notice is sent to the rack manager, and to the session holder where that is the host: its number advances by one. -/
def State.notify (s : State) (code : Nat) (body : List Nat) : State :=
  let s := { s with mgt := { s.mgt with noticeNumber := (s.mgt.noticeNumber + 1) % 2 ^ 32 } }
  let s := s.emit (.notice .rackManager code s.mgt.noticeNumber body)
  if s.mgt.session.any fun q => q.role == .host then s.emit (.notice .host code s.mgt.noticeNumber body) else s

/-- R409: how long a commander has not been heard, in whole seconds. -/
def State.silence (s : State) (r : Role) : Nat := match r with
  | .rackManager => (s.now - s.mgt.heardRm) / 1000000
  | .host => (s.now - s.mgt.heardHost) / 1000000

/-- R338, R340: an error record is made: it enters the ring and the cask's queue, and an alarm is sent as a notice. While the Recorder restarts or
is halted it enters the ring alone (R373). -/
def State.err (s : State) (unit op cls severity detail : Nat) : State :=
  let r : ErrRec :=
    { unit := unit, operation := op, groupTime := s.groupNow, seconds := s.rd R.REC_SECONDS.seconds,
      cycles := s.rd R.REC_CYCLES.cycles, severity := severity, temp := unitTemp s unit, millivolts := unitMv s unit, cls := cls,
      sequence := s.itg.sequence, detail := detail % 2 ^ 128, step := s.cad.step }
  let k := s.itg.next
  let s := { s with itg := { s.itg with ring := tput s.itg.ring k r, next := (k + 1) % 256,
                                        wrapped := s.itg.wrapped || k == 255, sequence := (s.itg.sequence + 1) % 2 ^ 32 } }
  let s := (s.wr R.ERR_REC_HEAD.next s.itg.next).wr R.ERR_REC_HEAD.wrapped (b2n s.itg.wrapped)
  let st := s.rd (R.FW_PROC.state 3)
  let s := if st = 2 ∨ st = 3 then s else s.submit (.error r)
  if severity = 3 then s.notify 0x081 (errBytes r) else s

/-- R473: the identity digest that a unique secret gives, 64 bytes. Zero stands for no certificate, so a digest of zeros is taken not to occur
(log 7). -/
def identityOf (secret : Nat) : Nat := Config.identityDigest secret % (2 ^ 512 - 1) + 1

end Sys2Proof.Machine
end

