-- ==== Sys2Proof/Machine/Arbiter.lean ====
section
/-! DEFINITION. The service bus arbiter (R379 to R388). -/

namespace Sys2Proof.Machine

/-- One step of the 32-bit Galois LFSR of R381, polynomial x^32 + x^22 + x^2 + x + 1, shifting towards bit 0.
DESIGN CHOICE (log 20): the rule names the polynomial and not the direction of the shift. -/
def lfsrStep (v : Nat) : Nat := if v % 2 = 1 then (v / 2) ^^^ 0x80200003 else v / 2

/-- R381: the generator is seeded from the true random source, a free value; a seed of zero is replaced by 1. -/
def seedArbiter (s : State) : State :=
  let v := Config.freeSeed s.freeCtr % 2 ^ 32
  s.drawFree.wr R.ARB_LFSR.value (if v = 0 then 1 else v)

/-- `n` steps of the generator. -/
def lfsrSteps (n v : Nat) : Nat := match n with
  | 0 => v
  | k + 1 => lfsrSteps k (lfsrStep v)

/-- The operation processor `p` has on controller `c`. -/
def opOf (s : State) (c p : Nat) : Option BusOp := tfind s.arb.ops (8 * c + p)

/-- The tickets of processor `p` on controller `c` (R380). -/
def ticketsOf (s : State) (c p : Nat) : Nat :=
  if p < 4 then bits (s.rd (R.ARB_TICKET_LO.tickets c)) (8 * p + 7) (8 * p)
  else bits (s.rd (R.ARB_TICKET_HI.tickets c)) (8 * (p - 4) + 7) (8 * (p - 4))

/-- The processors with a posted operation on controller `c`, in ascending index. -/
def requesters (s : State) (c : Nat) : List Nat := (List.range 8).filter fun p => (opOf s c p).isSome

/-- The requester whose cumulative range of tickets holds `r` (R381). -/
def drawAt (s : State) (c r : Nat) (l : List Nat) : Option Nat := match l with
  | [] => none
  | p :: rest => if r < ticketsOf s c p then some p else drawAt s c (r - ticketsOf s c p) rest

/-- R381: the winner among `l` with generator value `v`. With no tickets the lowest-indexed requester wins. -/
def lottery (s : State) (c v : Nat) (l : List Nat) : Option Nat :=
  let t := total (l.map (ticketsOf s c))
  if t = 0 then l.head? else drawAt s c (v * t / 2 ^ 32) l

/-- The grant of controller `c` goes to `w`; every other processor with an operation waits, and one that has completed
transfers is suspended with its progress count (R382). -/
def grant (s : State) (c : Nat) (w : Option Nat) : State :=
  match w with
  | none =>
    let s := s.wr (R.ARB_CTL.held c) 0
    let s := s.wr (R.ARB_CTL.waiting c) 0
    let s := s.wr (R.ARB_CTL.suspended c) 0
    let s := s.wr (R.ARB_CTL.locked c) 0
    s.wr (R.ARB_PROG.progress c) 0
  | some p =>
    let others := (requesters s c).filter (· != p)
    let susp := others.filter fun q => (opOf s c q).any fun o => o.done != 0
    let wait := others.filter fun q => (opOf s c q).all fun o => o.done == 0
    let o := (opOf s c p).getD { locks := [] }
    let s := s.wr (R.ARB_CTL.held c) 1
    let s := s.wr (R.ARB_CTL.holder c) p
    let s := s.wr (R.ARB_CTL.waiting c) (ofMembers wait)
    let s := s.wr (R.ARB_CTL.suspended c) (ofMembers susp)
    let s := s.wr (R.ARB_CTL.locked c) (b2n (o.locks.getD o.done false))
    s.wr (R.ARB_PROG.progress c) o.done

/-- A draw on controller `c` (R381). -/
def draw (s : State) (c : Nat) : State := grant s c (lottery s c (s.rd R.ARB_LFSR.value) (requesters s c))

/-- R381: the generator steps once per warden clock. -/
def runLfsr (s : State) (clocks : Nat) : State := s.wr R.ARB_LFSR.value (lfsrSteps clocks (s.rd R.ARB_LFSR.value))

/-- R379, R381: an operation of 1 to 4,096 transfers is posted; an idle controller draws at once. A processor that already
has an operation on the controller keeps it. -/
def arbPost (p c : Nat) (locks : List Bool) (clocks : Nat) (s : State) : State :=
  let s := runLfsr s clocks
  if 8 ≤ p ∨ 6 ≤ c ∨ locks = [] ∨ 4096 < locks.length ∨ (opOf s c p).isSome ∨ ¬ s.procUp p then s else
  let s := { s with arb := { s.arb with ops := tput s.arb.ops (8 * c + p) { locks := locks } } }
  if s.on (R.ARB_CTL.held c) then s.wr (R.ARB_CTL.waiting c) (setBit (s.rd (R.ARB_CTL.waiting c)) p true) else draw s c

/-- R381 to R383: the last beat of the holder's transfer. A locked transfer makes no draw; otherwise every processor with an
operation that is not complete takes part. -/
def arbDraw (c clocks : Nat) (s : State) : State :=
  let s := runLfsr s clocks
  if 6 ≤ c ∨ ¬ s.on (R.ARB_CTL.held c) then s else
  let h := s.rd (R.ARB_CTL.holder c)
  match opOf s c h with
  | none => draw s c
  | some o =>
    let k := o.done + 1
    let lockedNow := o.locks.getD o.done false && decide (k < o.locks.length)
    let ops := if k < o.locks.length then tput s.arb.ops (8 * c + h) { o with done := k } else tdel s.arb.ops (8 * c + h)
    let s := { s with arb := { s.arb with ops := ops } }
    if lockedNow then grant s c (some h) else draw s c

/-- R385: processor `p`'s operations are withdrawn; a grant it holds ends with the bus's recovery, and a draw is made. -/
def arbCrash (s : State) (p : Nat) : State :=
  (List.range 6).foldl (init := s) fun s c =>
    if (opOf s c p).isNone then s else
    let s := { s with arb := { s.arb with ops := tdel s.arb.ops (8 * c + p) } }
    if s.on (R.ARB_CTL.held c) ∧ s.rd (R.ARB_CTL.holder c) = p then draw (s.emit (.busRecovery c)) c
    else if s.on (R.ARB_CTL.held c) then grant s c (some (s.rd (R.ARB_CTL.holder c))) else s

/-- R380, R388: Steward alone writes ARB_TICKET_c. -/
def arbTicketWrite (agent : Agent) (c : Nat) (high : Bool) (value : Nat) (s : State) : State :=
  if agent ≠ .steward then s.deny agent
  else if 6 ≤ c then s.answer .ok 0 0
  else ((if high then s.wr (R.ARB_TICKET_HI.tickets c) value else s.wr (R.ARB_TICKET_LO.tickets c) value)).answer .ok 0 0

/-- ARB_POST. -/
def execArbPost (p c : Nat) (locks : List Bool) (clocks : Nat) (s : State) : Host.Outcome State Fault Refusal :=
  .next (arbPost p c locks clocks s)
/-- ARB_DRAW. -/
def execArbDraw (c clocks : Nat) (s : State) : Host.Outcome State Fault Refusal := .next (arbDraw c clocks s)
/-- ARB_TICKET_WRITE. -/
def execArbTicketWrite (agent : Agent) (c : Nat) (high : Bool) (value : Nat) (s : State) : Host.Outcome State Fault Refusal :=
  .next (arbTicketWrite agent c high value s)

end Sys2Proof.Machine
end

