-- ==== Sys2Proof/Machine/Cadence.lean ====
section
/-! DEFINITION. The cadence tracker and its commands (chapter "Cadence: the job's step as time base", R43 to R57, R70). -/

namespace Sys2Proof.Machine

/-- The cadence angle: the top 16 bits of the phase (R43). -/
def Cadence.angle (c : Cadence) : Nat := c.phase / 2 ^ 32

/-- The saturated phase. -/
def phaseMax : Nat := 2 ^ 48 - 1

/-- R55: stalling sets the angle to 65,535 and holds it, discards any correction and sets CAD_STATUS.stalled. -/
def Cadence.stall (c : Cadence) : Cadence :=
  { c with stalled := true, phase := phaseMax, held := true, corr := 0 }

/-- The correction applied in one tick: at most `inc` of what is outstanding (R53). -/
def Cadence.slew (c : Cadence) : Nat × Int :=
  if 0 < c.corr then
    let x := min c.corr.toNat c.inc
    (c.inc + x, c.corr - x)
  else
    let x := min (-c.corr).toNat c.inc
    (c.inc - x, c.corr + x)

/-- The advance of one tick, up to and including the hold at 65,535 (R53, "every tick"). -/
def Cadence.advance (c : Cadence) : Cadence :=
  if c.stalled ∨ ¬ c.started then c else
  let phase := min (c.phase + c.slew.1) phaseMax
  if 65535 * 2 ^ 32 ≤ phase then { c with phase := phase, held := true, corr := 0 }
  else { c with phase := phase, corr := c.slew.2 }

/-- Whether the tracker must stall at group time `now`: no step mark within four estimated periods (R55). -/
def Cadence.overdue (c : Cadence) (now : Nat) : Bool :=
  c.started && ! c.stalled && decide (4 * c.est * 16 + c.lastStamp < now)

/-- R55: the cadence stalls: the count advances on each running die whose tracker is the hub's, and one cask event is written. -/
def stallCadence (s : State) : State :=
  let step := s.cad.step
  let s := { s with cad := s.cad.stall }
  let s := s.onDies fun d s => if (tfind s.own d).isSome then s else s.bump (R.CAD_STALL_COUNT.c d)
  s.event 0x0002 (s.seqUnit) (atByte 0 step)

/-- R55: a die's own tracker stalls: its count advances. The hub's cask event stands for both trackers (log 70). -/
def stallOwn (s : State) (now d : Nat) : State := match tfind s.own d with
  | none => s
  | some c => if c.overdue now then { s with own := tput s.own d c.stall }.bump (R.CAD_STALL_COUNT.c d) else s

/-- R50: on a tray without admitted accelerators each entry not yet taken is taken at the tick at which the angle first
reaches its nominal angle, with that tick's group time as its stamp. -/
def nominalTakes (s : State) : State :=
  if s.cad.accAtStart ≠ 0 ∨ ¬ s.cad.started then s else
  let due := (s.markTable.zipIdx.filter fun e =>
    ! s.cad.taken.testBit e.2 && decide (e.1.angle ≤ s.cad.angle)).map (·.2)
  { s with cad := { s.cad with taken := s.cad.taken ||| ofMembers due, takes := s.cad.takes ++ due.map fun i => (i, s.gt.time, 8) } }

/-- R46: one tick of group time. The trackers advance the phase with any slewed correction, and stall where four estimated periods have
passed. A mark's effect at the same tick comes after the advance: MARK_EFFECT and STEP_MARK_EFFECT are commands of their own (log 70). -/
def cadenceTick (s : State) : State :=
  if ¬ s.anyDieUp then s else
  let now := (s.gt.time / 32 + 1) * 32
  let s := { s with gt := { s.gt with time := now % 2 ^ 64 } }
  let go (o : Nat × Cadence) : Nat × Cadence := (o.1, o.2.advance)
  let s := { s with cad := s.cad.advance, own := s.own.map go }
  let s := if s.cad.overdue now then stallCadence s else s
  nominalTakes (stallOwn (stallOwn s now 0) now 1)

/-- CADENCE_STALL: the condition of R55, taken as an event of its own. -/
def cadenceStall (s : State) : State := if s.cad.overdue s.gt.time then stallCadence s else s

/-- R44: STEP_MARK from an admitted accelerator reports the step it has begun; another number sets its mismatch. -/
def stepMarkMessage (slot step : Nat) (s : State) : State :=
  if ¬ s.marksHeard slot then s
  else { s with cad := { s.cad with mismatch := setBit s.cad.mismatch slot (step % 2 ^ 48 != s.cad.step) } }

/-- R51: a rejection on one die advances CAD_MARK_REJECT and overwrites CAD_MARK_LAST. -/
def markRejectOn (d mark acc reason : Nat) (error : Int) (s : State) : State :=
  let s := s.bump (R.CAD_MARK_REJECT.c d)
  let s := s.wr (R.CAD_MARK_LAST.mark d) mark
  let s := s.wr (R.CAD_MARK_LAST.valid d) 1
  let s := s.wr (R.CAD_MARK_LAST.acc d) acc
  let s := s.wr (R.CAD_MARK_LAST.reason d) reason
  s.wr (R.CAD_MARK_LAST.error d) (ofSigned 16 (clampInt (-32768) 32767 error))

/-- R51: a rejection on each running die. -/
def markReject (s : State) (mark acc reason : Nat) (error : Int) : State :=
  s.onDies fun d s => markRejectOn d mark acc reason error s

/-- The index of mark `mark` in the active pattern's mark table. -/
def markIndex (t : List MarkEntry) (mark : Nat) : Option Nat := t.findIdx? fun e => e.mark = mark

/-- R50: the accelerators an entry needs: its quorum, 0 for all, never more than were admitted at the step's start. -/
def quorumOf (s : State) (e : MarkEntry) : Nat :=
  let n := popcount s.cad.accAtStart 8
  if e.quorum = 0 then n else min e.quorum n

/-- R50, R51: a PHASE_MARK stamped `stamp` is counted, takes its entry, is discarded or is rejected. Where several cases of R51 hold, the reason is the first of:
an unknown mark, a tag or STEP_MARK mismatch, a second message (DESIGN CHOICE, log 70). -/
def phaseMarkAt (s : State) (stamp slot mark tag : Nat) : State :=
  if ¬ s.phaseHeard slot then s else
  match markIndex s.markTable mark with
  | none => markReject s mark slot 1 0
  | some i =>
    if tag % 2 ^ 16 ≠ s.cad.step % 2 ^ 16 ∨ s.cad.mismatch.testBit slot then markReject s mark slot 2 0
    else if (tget s.cad.senders i).testBit slot then markReject s mark slot 3 0
    else if s.cad.taken.testBit i then
      { s with cad := { s.cad with senders := tput s.cad.senders i (setBit (tget s.cad.senders i) slot true) } }
    else
      let set := setBit (tget s.cad.senders i) slot true
      let c := { s.cad with senders := tput s.cad.senders i set }
      if quorumOf s (s.markTable.getD i default) ≤ popcount set 8 then
        { s with cad := { c with taken := setBit c.taken i true, takes := c.takes ++ [(i, stamp, slot)] } }
      else { s with cad := c }

/-- PHASE_MARK, stamped now. -/
def phaseMark (slot mark tag : Nat) (s : State) : State := phaseMarkAt s s.gt.time slot mark tag

/-- R52: the correction that a mark at a nominal angle asks of a tracker. -/
def Cadence.error (c : Cadence) (angle : Nat) : Int := (angle * 2 ^ 32 : Nat) - (c.phase : Int)

/-- R52, R53: whether a taken mark's correction is beyond the tolerance, while the angle is not held. -/
def Cadence.beyond (c : Cadence) (tolerance angle : Nat) : Bool :=
  ! c.held && ! c.stalled && decide (tolerance * 2 ^ 32 < (c.error angle).natAbs)

/-- R52, R53: the tracker after a taken mark: its correction replaces one outstanding, but where the angle is held or the correction is beyond
the tolerance. -/
def Cadence.correct (c : Cadence) (tolerance angle : Nat) : Cadence :=
  if c.held || c.stalled || c.beyond tolerance angle then c else { c with corr := c.error angle }

/-- R52, R53, R70: the oldest taken mark takes effect at the first tick 256 ns after its stamp. One that the angle took makes a correction of
zero (R50). CAD_MARK_LAST.error is rounded toward zero (DESIGN CHOICE, log 70). -/
def markEffect (s : State) : State :=
  match s.cad.takes with
  | [] => s
  | (i, stamp, acc) :: rest =>
    if s.gt.time < stamp + 256 then s else
    let e := s.markTable.getD i default
    let s := { s with cad := { s.cad with takes := rest, effective := setBit s.cad.effective i true } }
    if acc = 8 then s.bumpDies R.CAD_MARK_TAKEN.c
    else
      let k := s.cad.tolerance
      let f := s.onDies fun d f =>
        let c := s.cadOf d
        if c.beyond k e.angle then markRejectOn d e.mark acc 0 ((c.error e.angle).tdiv (2 ^ 32)) f else f.bump (R.CAD_MARK_TAKEN.c d)
      let go (o : Nat × Cadence) : Nat × Cadence := (o.1, o.2.correct k e.angle)
      { f with cad := f.cad.correct k e.angle, own := f.own.map go }

/-- R70: a tolerance within 1,024 to 32,767 sets both dies' copies; another value is ignored and answered INVALID. -/
def toleranceWrite (agent : Agent) (die value : Nat) (s : State) : State :=
  s.gateDie agent die fun s => s.hostGate agent fun s =>
    if value < 1024 ∨ 32767 < value then s.answer .invalid 0 0
    else
      let s := s.onDies fun d s => s.wr (R.CAD_MARK_CFG.tolerance d) value
      { s with cad := { s.cad with tolerancePending := s.cad.tolerancePending ++ [(value, s.gt.time)] } }.answer .ok 0 0

/-- R70: the oldest tolerance written takes effect at the first tick at least 1 µs after its write. -/
def toleranceApply (s : State) : State :=
  match s.cad.tolerancePending with
  | [] => s
  | (v, t) :: rest =>
    if s.gt.time < t + 1000 then s
    else { s with cad := { s.cad with tolerance := v, tolerancePending := rest } }

/-- CADENCE_TICK. -/
def execCadenceTick (s : State) : Host.Outcome State Fault Refusal := .next (cadenceTick s)
/-- CADENCE_STALL. -/
def execCadenceStall (s : State) : Host.Outcome State Fault Refusal := .next (cadenceStall s)
/-- STEP_MARK_MESSAGE. -/
def execStepMarkMessage (slot step : Nat) (s : State) : Host.Outcome State Fault Refusal :=
  .next (stepMarkMessage slot step s)
/-- PHASE_MARK. -/
def execPhaseMark (slot mark tag : Nat) (s : State) : Host.Outcome State Fault Refusal := .next (phaseMark slot mark tag s)
/-- MARK_EFFECT. -/
def execMarkEffect (s : State) : Host.Outcome State Fault Refusal := .next (markEffect s)
/-- TOLERANCE_WRITE. -/
def execToleranceWrite (agent : Agent) (die value : Nat) (s : State) : Host.Outcome State Fault Refusal :=
  .next (toleranceWrite agent die value s)
/-- TOLERANCE_APPLY. -/
def execToleranceApply (s : State) : Host.Outcome State Fault Refusal := .next (toleranceApply s)

end Sys2Proof.Machine
end

