-- ==== Sys2Proof/Machine/Num.lean ====
section
/-! DEFINITION. Number formats, conversion and rounding, FP32 and FP64 arithmetic, and the long accumulator (R137 to R151).
A finite value is kept exactly, as a sign, a natural number and a power of two. -/

namespace Sys2Proof.Machine

/-- A value of any format: a finite dyadic number (which keeps the sign of a zero), an infinity or a NaN. -/
inductive Num where
  | fin (neg : Bool) (m : Nat) (e : Int)
  | inf (neg : Bool)
  | nan
deriving DecidableEq, Repr, Inhabited

/-- A floating-point encoding (R138): exponent and mantissa bits, bias, the largest finite value's mantissa and power, whether it
has infinities, and its canonical NaN where it has one (R142). -/
structure FloatFmt where
  eb : Nat
  mb : Nat
  bias : Nat
  maxM : Nat
  maxQ : Int
  hasInf : Bool
  nanCode : Option Nat
deriving DecidableEq, Repr, Inhabited

/-- An IEEE 754 binary format. -/
def ieee (eb mb : Nat) : FloatFmt :=
  { eb := eb, mb := mb, bias := 2 ^ (eb - 1) - 1, maxM := 2 ^ (mb + 1) - 1, maxQ := (2 ^ (eb - 1) - 1 : Nat) - (mb : Int),
    hasInf := true, nanCode := some ((2 ^ eb - 1) * 2 ^ mb + 2 ^ (mb - 1)) }

/-- FP32. -/
def fp32 : FloatFmt := ieee 8 23
/-- FP64. -/
def fp64 : FloatFmt := ieee 11 52
/-- BF16. -/
def bf16 : FloatFmt := ieee 8 7
/-- FP16. -/
def fp16 : FloatFmt := ieee 5 10
/-- FP8 E4M3. -/
def e4m3 : FloatFmt := { eb := 4, mb := 3, bias := 7, maxM := 14, maxQ := 5, hasInf := false, nanCode := some 0x7F }
/-- FP8 E5M2. -/
def e5m2 : FloatFmt := ieee 5 2
/-- The MXFP6 E3M2 element. -/
def e3m2 : FloatFmt := { eb := 3, mb := 2, bias := 3, maxM := 7, maxQ := 2, hasInf := false, nanCode := none }
/-- The MXFP6 E2M3 element. -/
def e2m3 : FloatFmt := { eb := 2, mb := 3, bias := 1, maxM := 15, maxQ := -1, hasInf := false, nanCode := none }
/-- The MXFP4 E2M1 element. -/
def e2m1 : FloatFmt := { eb := 2, mb := 1, bias := 1, maxM := 3, maxQ := 1, hasInf := false, nanCode := none }

/-- An element format: floating point, or an integer of `n` bits with a quantum of 2^q. -/
inductive ElemFmt where
  | float (f : FloatFmt)
  | int (signed : Bool) (n : Nat) (q : Int)
deriving DecidableEq, Repr, Inhabited

/-- A format code's element format, element width in bits, and for an MX format the emax of R146 (R137, R139). -/
structure Fmt where
  elem : ElemFmt
  width : Nat
  mx : Option Int
deriving DecidableEq, Repr, Inhabited

/-- The format of a code; every other code is reserved (R137). -/
def fmtOf (code : Nat) : Option Fmt := match code with
  | 0x01 => some ⟨.float fp64, 64, none⟩
  | 0x02 => some ⟨.float fp32, 32, none⟩
  | 0x03 => some ⟨.float bf16, 16, none⟩
  | 0x04 => some ⟨.float fp16, 16, none⟩
  | 0x05 => some ⟨.float e4m3, 8, none⟩
  | 0x06 => some ⟨.float e5m2, 8, none⟩
  | 0x10 => some ⟨.float e4m3, 8, some 8⟩
  | 0x11 => some ⟨.float e5m2, 8, some 15⟩
  | 0x12 => some ⟨.float e3m2, 6, some 4⟩
  | 0x13 => some ⟨.float e2m3, 6, some 2⟩
  | 0x14 => some ⟨.float e2m1, 4, some 2⟩
  | 0x15 => some ⟨.int true 8 (-6), 8, some 0⟩
  | 0x20 => some ⟨.int true 8 0, 8, none⟩
  | 0x21 => some ⟨.int true 16 0, 16, none⟩
  | 0x22 => some ⟨.int true 32 0, 32, none⟩
  | 0x23 => some ⟨.int false 8 0, 8, none⟩
  | _ => none

/-- Whether a code is an MX format. -/
def isMx (code : Nat) : Bool := match fmtOf code with
  | some f => f.mx.isSome
  | none => false

/-- Whether a code is a floating-point format and not an integer one. -/
def isFloatCode (code : Nat) : Bool := match fmtOf code with
  | some f => (match f.elem with
    | .float _ => true
    | .int .. => false)
  | none => false

/-! ## Decoding -/

/-- The value of a float encoding (R138, R142: all NaNs are alike). -/
def FloatFmt.decode (f : FloatFmt) (w : Nat) : Num :=
  let neg := w.testBit (f.eb + f.mb)
  let e := w / 2 ^ f.mb % 2 ^ f.eb
  let m := w % 2 ^ f.mb
  if e = 2 ^ f.eb - 1 ∧ f.hasInf then (if m = 0 then .inf neg else .nan)
  else if e = 2 ^ f.eb - 1 ∧ f.nanCode.isSome ∧ m = 2 ^ f.mb - 1 then .nan
  else if e = 0 then .fin neg m (1 - (f.bias : Int) - f.mb)
  else .fin neg (2 ^ f.mb + m) ((e : Int) - f.bias - f.mb)

/-- The value of an element encoding. -/
def ElemFmt.decode (f : ElemFmt) (w : Nat) : Num := match f with
  | .float g => g.decode w
  | .int signed n q =>
    let z : Int := if signed then toSigned n w else ((w % 2 ^ n : Nat) : Int)
    .fin (decide (z < 0)) z.natAbs q

/-- A value times 2^s. -/
def Num.scale (x : Num) (s : Int) : Num := match x with
  | .fin n m e => .fin n m (e + s)
  | y => y

/-! ## Rounding -/

/-- The three rounding modes, stochastic with the generator's output for the element (R143). -/
inductive Rounding where
  | nearest
  | zero
  | stochastic (r : Nat)
deriving DecidableEq, Repr, Inhabited

/-- R144: the generator, a function of the row's seed, the low 32 bits of the step number and the element index. -/
def stochR (seed step i : Nat) : Nat :=
  let M := 2 ^ 64
  let x := (step % 2 ^ 32) * 2 ^ 32 + i % 2 ^ 32
  let x := x ^^^ (seed * 0x9E3779B97F4A7C15 % M)
  let x := ((x ^^^ (x >>> 30)) * 0xBF58476D1CE4E5B9) % M
  let x := ((x ^^^ (x >>> 27)) * 0x94D049BB133111EB) % M
  let x := x ^^^ (x >>> 31)
  x >>> 32

/-- The rounding of a row's rounding field for element `i`. -/
def roundingOf (mode seed step i : Nat) : Rounding := match mode with
  | 0 => .nearest
  | 1 => .zero
  | _ => .stochastic (stochR seed step i)

/-- The magnitude `m * 2^e` rounded to a whole number of quanta 2^q (R143). -/
def roundTo (r : Rounding) (m : Nat) (e q : Int) : Nat :=
  if q ≤ e then m * 2 ^ (e - q).toNat
  else
    let sh := (q - e).toNat
    let kept := m >>> sh
    let disc := m % 2 ^ sh
    match r with
    | .zero => kept
    | .nearest =>
      if 2 * disc < 2 ^ sh then kept
      else if 2 * disc = 2 ^ sh then (if kept % 2 = 0 then kept else kept + 1)
      else kept + 1
    | .stochastic x =>
      let d := if 32 ≤ sh then disc >>> (sh - 32) else disc <<< (32 - sh)
      if disc ≠ 0 ∧ x < d then kept + 1 else kept

/-- What a conversion gives: the encoding, whether it saturated, and whether its result is a NaN (R141, R142). -/
structure Conv where
  code : Nat
  sat : Bool := false
  isNan : Bool := false
deriving DecidableEq, Repr, Inhabited

/-- The encoding of the largest finite magnitude. -/
def FloatFmt.maxCode (f : FloatFmt) : Nat :=
  (f.maxQ + f.mb + f.bias).toNat * 2 ^ f.mb + (f.maxM - 2 ^ f.mb)

/-- The sign bit of an encoding. -/
def FloatFmt.signBit (f : FloatFmt) (neg : Bool) : Nat := if neg then 2 ^ (f.eb + f.mb) else 0

/-- The quantum to which a magnitude is rounded: that of its binade, or of the subnormals. -/
def FloatFmt.quantum (f : FloatFmt) (m : Nat) (e : Int) : Int :=
  max ((Nat.log2 m : Int) + e - f.mb) (1 - (f.bias : Int) - f.mb)

/-- The encoding of `k` quanta of 2^q, a magnitude in range. -/
def FloatFmt.pack (f : FloatFmt) (k : Nat) (q : Int) : Nat :=
  let k' := if k = 2 ^ (f.mb + 1) then 2 ^ f.mb else k
  let q' := if k = 2 ^ (f.mb + 1) then q + 1 else q
  if k' < 2 ^ f.mb then k' else (q' + f.mb + f.bias).toNat * 2 ^ f.mb + (k' - 2 ^ f.mb)

/-- R141: conversion to a floating-point format. A NaN for a format without one answers code 0; its block's scale carries it. -/
def FloatFmt.convert (f : FloatFmt) (r : Rounding) (x : Num) : Conv := match x with
  | .nan => { code := f.nanCode.getD 0, isNan := true }
  | .inf neg =>
    if f.hasInf then { code := f.signBit neg + (2 ^ f.eb - 1) * 2 ^ f.mb }
    else { code := f.signBit neg + f.maxCode, sat := true }
  | .fin neg m e =>
    if m = 0 then { code := f.signBit neg }
    else
      let q := f.quantum m e
      let k := roundTo r m e q
      let big := decide (f.maxQ ≤ q) && decide (f.maxM < k * 2 ^ (q - f.maxQ).toNat)
      if big then
        match r with
        | .nearest => if f.hasInf then { code := f.signBit neg + (2 ^ f.eb - 1) * 2 ^ f.mb }
                      else { code := f.signBit neg + f.maxCode, sat := true }
        | _ => { code := f.signBit neg + f.maxCode, sat := true }
      else { code := f.signBit neg + f.pack k q }

/-- R141: conversion to an integer format. -/
def intConvert (signed : Bool) (n : Nat) (q : Int) (r : Rounding) (x : Num) : Conv :=
  let hi : Int := if signed then 2 ^ (n - 1) - 1 else 2 ^ n - 1
  let lo : Int := if signed then -(2 ^ (n - 1)) else 0
  match x with
  | .nan => { code := 0, sat := true }
  | .inf neg => { code := ofSigned n (if neg then lo else hi), sat := true }
  | .fin neg m e =>
    let k := roundTo r m e q
    let z : Int := if neg then -(k : Int) else k
    if z < lo then { code := ofSigned n lo, sat := true }
    else if hi < z then { code := ofSigned n hi, sat := true }
    else { code := ofSigned n z }

/-- R141: conversion to an element format. -/
def ElemFmt.convert (f : ElemFmt) (r : Rounding) (x : Num) : Conv := match f with
  | .float g => g.convert r x
  | .int s n q => intConvert s n q r x

/-- A value rounded to a floating-point format and read back. -/
def FloatFmt.round (f : FloatFmt) (r : Rounding) (x : Num) : Num := f.decode (f.convert r x).code

/-! ## Exact operations -/

/-- The signed whole number of a finite value in units of 2^q, for q at or below its exponent. -/
def Num.units (neg : Bool) (m : Nat) (e q : Int) : Int :=
  let k : Int := (m * 2 ^ (e - q).toNat : Nat)
  if neg then -k else k

/-- The finite value of a signed whole number of units; a zero has the sign `zneg`. -/
def Num.ofUnits (z q : Int) (zneg : Bool) : Num := if z = 0 then .fin zneg 0 q else .fin (decide (z < 0)) z.natAbs q

/-- The exact sum, with the zero and infinity rules of IEEE 754. -/
def Num.add (x y : Num) : Num := match x, y with
  | .nan, _ => .nan
  | _, .nan => .nan
  | .inf a, .inf b => if a = b then .inf a else .nan
  | .inf a, .fin .. => .inf a
  | .fin .., .inf b => .inf b
  | .fin a m e, .fin b n f =>
    let q := min e f
    Num.ofUnits (Num.units a m e q + Num.units b n f q) q (a && b && decide (m = 0) && decide (n = 0))

/-- The negation. -/
def Num.negate (x : Num) : Num := match x with
  | .fin a m e => .fin (!a) m e
  | .inf a => .inf (!a)
  | .nan => .nan

/-- The exact product. -/
def Num.mul (x y : Num) : Num := match x, y with
  | .nan, _ => .nan
  | _, .nan => .nan
  | .inf a, .inf b => .inf (a != b)
  | .inf a, .fin b n _ => if n = 0 then .nan else .inf (a != b)
  | .fin a m _, .inf b => if m = 0 then .nan else .inf (a != b)
  | .fin a m e, .fin b n f => .fin (a != b) (m * n) (e + f)

/-- The quotient with at least 140 significant bits and a last bit that is set where the rest is not zero, so that one rounding
to any format gives the correctly rounded quotient. -/
def Num.div (x y : Num) : Num := match x, y with
  | .nan, _ => .nan
  | _, .nan => .nan
  | .inf _, .inf _ => .nan
  | .inf a, .fin b .. => .inf (a != b)
  | .fin a _ e, .inf b => .fin (a != b) 0 e
  | .fin a m e, .fin b n f =>
    if n = 0 then (if m = 0 then .nan else .inf (a != b))
    else
      let sh : Nat := 140 + Nat.log2 n
      let k := m * 2 ^ sh
      .fin (a != b) (2 * (k / n) + (if k % n = 0 then 0 else 1)) (e - f - sh - 1)

/-- The integer square root, one bit at a time from bit `i - 1` down. -/
def isqrtBits (n : Nat) (i acc : Nat) : Nat := match i with
  | 0 => acc
  | k + 1 => isqrtBits n k (if (acc + 2 ^ k) * (acc + 2 ^ k) ≤ n then acc + 2 ^ k else acc)

/-- The square root with a sticky last bit, as the quotient above; the root of a negative number is NaN and of −0 is −0. -/
def Num.sqrt (x : Num) : Num := match x with
  | .nan => .nan
  | .inf a => if a then .nan else .inf false
  | .fin a m e =>
    if m = 0 then .fin a 0 e
    else if a then .nan
    else
      let sh : Nat := 160 + (if (e - 160) % 2 = 0 then 0 else 1)
      let k := m * 2 ^ sh
      let r := isqrtBits k (Nat.log2 k / 2 + 1) 0
      .fin false (2 * r + (if r * r = k then 0 else 1)) ((e - sh) / 2 - 1)

/-- R150's order on values that are not NaN: −0 below +0. -/
def Num.below (x y : Num) : Bool := match x, y with
  | .inf a, .inf b => a && !b
  | .inf a, _ => a
  | _, .inf b => !b
  | .fin a m e, .fin b n f =>
    let q := min e f
    let u := Num.units a m e q
    let v := Num.units b n f q
    decide (u < v) || (decide (u = v) && a && !b)
  | _, _ => false

/-- The minimum of R150. -/
def Num.min2 (x y : Num) : Num := if x = .nan ∨ y = .nan then .nan else if y.below x then y else x

/-- The maximum of R150. -/
def Num.max2 (x y : Num) : Num := if x = .nan ∨ y = .nan then .nan else if x.below y then y else x

/-- +0. -/
def Num.zero : Num := .fin false 0 0
/-- One. -/
def Num.one : Num := .fin false 1 0

/-- One operation of R130 and R436 in FP32 or FP64, rounded to nearest even. -/
def FloatFmt.op (f : FloatFmt) (x : Num) : Num := f.round .nearest x

/-- `a ^ n` by repeated squaring over the 32 bits of `n` from the least significant bit up (R130). -/
def FloatFmt.powBits (f : FloatFmt) (k n : Nat) (a acc : Num) : Num := match k with
  | 0 => acc
  | j + 1 =>
    f.powBits j (n / 2) (f.op (a.mul a)) (if n % 2 = 1 then f.op (acc.mul a) else acc)

/-- beta ^ n of R130. -/
def FloatFmt.pow (f : FloatFmt) (a : Num) (n : Nat) : Num := f.powBits 32 n a .one

/-! ## The long accumulator -/

/-- A long accumulator's content or an exact partial (R147, R148): the integer in units of the window's LSB, and whether any term
was +infinity, −infinity or NaN. -/
structure LongAcc where
  sum : Int := 0
  pos : Bool := false
  neg : Bool := false
  nan : Bool := false
deriving DecidableEq, Repr, Inhabited

/-- The window of a wire format: the exponent of the LSB and the partial's width in bits; none for the codes of which R114 gives
no partial. -/
def windowOf (code : Nat) : Option (Int × Nat) := match code with
  | 0x02 => some (-149, 320)
  | 0x03 => some (-149, 320)
  | 0x04 => some (-24, 96)
  | 0x06 => some (-16, 96)
  | 0x05 => some (-9, 64)
  | 0x20 => some (0, 64)
  | 0x23 => some (0, 64)
  | 0x21 => some (0, 64)
  | 0x22 => some (0, 96)
  | _ => none

/-- R148: a term in a window with LSB 2^q. -/
def LongAcc.ofTerm (x : Num) (q : Int) : LongAcc := match x with
  | .fin a m e => { sum := Num.units a m e q }
  | .inf a => { pos := !a, neg := a }
  | .nan => { nan := true }

/-- R148: the sum of two accumulators: exact, and the OR of the states. -/
def LongAcc.add (a b : LongAcc) : LongAcc :=
  { sum := a.sum + b.sum, pos := a.pos || b.pos, neg := a.neg || b.neg, nan := a.nan || b.nan }

/-- R149: the value to be rounded once; an exact zero is +0. -/
def LongAcc.value (a : LongAcc) (q : Int) : Num :=
  if a.nan ∨ (a.pos ∧ a.neg) then .nan
  else if a.pos then .inf false
  else if a.neg then .inf true
  else Num.ofUnits a.sum q false

/-- The two state bits (R148): 0b00 finite, 0b01 +infinity, 0b10 −infinity, 0b11 NaN. -/
def LongAcc.state (a : LongAcc) : Nat :=
  if a.nan then 3 else b2n a.pos + 2 * b2n a.neg

/-- R147, R322: an exact partial of width `w`: state in the top two bits, the integer below, which is zero in a NaN. -/
def LongAcc.encode (a : LongAcc) (w : Nat) : Nat :=
  a.state * 2 ^ (w - 2) + (if a.state = 3 then 0 else ofSigned (w - 2) a.sum)

/-- The content of an exact partial. -/
def LongAcc.decode (w p : Nat) : LongAcc :=
  let st := p / 2 ^ (w - 2) % 4
  { sum := toSigned (w - 2) p, pos := st % 2 = 1, neg := st / 2 = 1, nan := st = 3 }

/-! ## Packed vectors -/

/-- The bytes that `n` elements of `width` bits occupy, packed as a bit stream (R140). -/
def packedBytes (width n : Nat) : Nat := (width * n + 7) / 8

/-- Element `k` of a packed stream of elements of `width` bits, the stream read as one number. -/
def streamElem (width k stream : Nat) : Nat := stream / 2 ^ (width * k) % 2 ^ width

/-- R140: where the scale region of an MX operand of `n` elements at `base` begins, counted from its base: at the first 256-byte boundary
after the element region. -/
def scaleOffset (base width n : Nat) : Nat := (base + packedBytes width n + 255) / 256 * 256 - base

/-- R139: the value of an MX element with its block's scale byte. -/
def mxValue (f : ElemFmt) (w scale : Nat) : Num :=
  if scale = 255 then .nan else (f.decode w).scale ((scale : Int) - 127)

/-- floor(log2) of a positive dyadic magnitude. -/
def log2Of (m : Nat) (e : Int) : Int := (Nat.log2 m : Int) + e

/-- R146: the scale byte of a block of values. -/
def mxScale (f : ElemFmt) (emax : Int) (block : List Num) : Nat :=
  let bad := block.any fun x => match x with
    | .nan => true
    | .inf _ => (match f with
      | .float g => !g.hasInf
      | .int .. => true)
    | .fin .. => false
  if bad then 255
  else
    let exps := block.filterMap fun x => match x with
      | .fin _ m e => if m = 0 then none else some (log2Of m e - emax)
      | _ => none
    match exps with
    | [] => 0
    | x :: r => ((clampInt (-127) 127 (r.foldl max x)) + 127).toNat

/-- R146: a block of 32 values in an MX format: the scale byte and the elements. A scale of 0xFF makes every element NaN (R139, R142). -/
def mxBlock (f : ElemFmt) (emax : Int) (rounds : List Rounding) (block : List Num) : Nat × List Conv :=
  let sc := mxScale f emax block
  (sc, (block.zip rounds).map fun p =>
    if sc = 255 then { code := 0, isNan := true } else f.convert p.2 (p.1.scale (127 - (sc : Int))))

end Sys2Proof.Machine
end

