-- ==== Sys2Proof/Machine/RegTable.lean ====
section
/-! DEFINITION. The register tables of the chapters as data for an access by address: each block, its registers, and each
field's bits, access type and Reset value (R11, R12, R14). -/

namespace Sys2Proof.Machine

/-- The access types of R14. `peak` is an RC field that records a peak. -/
inductive Acc where
  | ro
  | rw
  | w1c
  | wo
  | rc
  | peak
deriving DecidableEq, Repr, Inhabited

/-- One field of a register table: bits `hi:lo`, its access type and Reset value, and for a field that the image loads (R433) its range. -/
structure FDesc where
  hi : Nat
  lo : Nat
  acc : Acc
  rst : Nat
  load : Option (Nat × Nat)
deriving DecidableEq, Repr, Inhabited

/-- One row of a register map: the block offset of the first register, how many there are and how far apart, the fields, and
for an event count the block offset of its overflow register, the bit of index 0 there and the bits from one index to the next. -/
structure RegRow where
  off : Nat
  count : Nat
  stride : Nat
  ovf : Option (Nat × Nat × Nat)
  fields : List FDesc
deriving DecidableEq, Repr, Inhabited

/-- The CAD register map. -/
def rowsCAD : List RegRow := [
  ⟨0x0, 1, 4, none, [⟨8, 8, .w1c, 0x0, none⟩, ⟨7, 7, .w1c, 0x0, none⟩, ⟨6, 6, .ro, 0x0, none⟩, ⟨3, 3, .ro, 0x1, none⟩, ⟨2, 2, .ro, 0x0, none⟩, ⟨1, 1, .ro, 0x0, none⟩, ⟨0, 0, .ro, 0x0, none⟩]⟩,
  ⟨0x4, 1, 4, none, [⟨31, 16, .ro, 0x0, none⟩, ⟨15, 0, .ro, 0x0, none⟩]⟩,
  ⟨0x8, 1, 4, none, [⟨31, 0, .ro, 0x0, none⟩]⟩,
  ⟨0xc, 1, 4, none, [⟨31, 0, .ro, 0x0, none⟩]⟩,
  ⟨0x10, 1, 4, none, [⟨31, 0, .ro, 0x0, none⟩]⟩,
  ⟨0x14, 1, 4, none, [⟨15, 0, .ro, 0x0, none⟩]⟩,
  ⟨0x18, 1, 4, none, [⟨15, 0, .rw, 0x4000, some (1024, 0x7fff)⟩]⟩,
  ⟨0x1c, 1, 4, none, [⟨31, 24, .ro, 0x0, none⟩, ⟨23, 23, .ro, 0x0, none⟩, ⟨22, 20, .ro, 0x0, none⟩, ⟨19, 18, .ro, 0x0, none⟩, ⟨15, 0, .ro, 0x0, none⟩]⟩,
  ⟨0x20, 1, 4, some (0x2c, 0, 0), [⟨31, 0, .rc, 0x0, none⟩]⟩,
  ⟨0x24, 1, 4, some (0x2c, 1, 0), [⟨31, 0, .rc, 0x0, none⟩]⟩,
  ⟨0x28, 1, 4, some (0x2c, 2, 0), [⟨31, 0, .rc, 0x0, none⟩]⟩,
  ⟨0x2c, 1, 4, none, [⟨2, 2, .ro, 0x0, none⟩, ⟨1, 1, .ro, 0x0, none⟩, ⟨0, 0, .ro, 0x0, none⟩]⟩,
  ⟨0x40, 1, 4, none, [⟨31, 0, .ro, 0x0, none⟩]⟩,
  ⟨0x44, 1, 4, none, [⟨31, 0, .ro, 0x0, none⟩]⟩,
  ⟨0x48, 1, 4, none, [⟨23, 16, .ro, 0x0, none⟩, ⟨11, 8, .ro, 0x0, none⟩, ⟨3, 3, .ro, 0x0, none⟩, ⟨2, 0, .ro, 0x0, none⟩]⟩,
  ⟨0x4c, 1, 4, none, [⟨31, 0, .ro, 0x0, none⟩]⟩,
  ⟨0x50, 1, 4, none, [⟨31, 0, .ro, 0x0, none⟩]⟩,
  ⟨0x54, 1, 4, none, [⟨31, 0, .ro, 0x0, none⟩]⟩,
  ⟨0x58, 1, 4, none, [⟨31, 14, .ro, 0x0, some (0, 0x3ffff)⟩, ⟨13, 13, .ro, 0x0, some (0, 0x1)⟩, ⟨12, 12, .ro, 0x0, none⟩, ⟨11, 9, .ro, 0x0, none⟩, ⟨7, 5, .ro, 0x0, none⟩]⟩,
  ⟨0x5c, 1, 4, none, [⟨31, 0, .ro, 0x0, none⟩]⟩]

/-- The PAT register map. -/
def rowsPAT : List RegRow := [
  ⟨0x0, 1, 4, none, [⟨8, 8, .w1c, 0x0, none⟩, ⟨7, 7, .w1c, 0x0, none⟩, ⟨6, 6, .ro, 0x0, none⟩, ⟨5, 5, .ro, 0x0, none⟩, ⟨4, 4, .ro, 0x0, none⟩, ⟨3, 0, .ro, 0x0, none⟩]⟩,
  ⟨0x4, 1, 4, none, [⟨23, 16, .ro, 0x0, none⟩, ⟨12, 12, .ro, 0x0, none⟩, ⟨11, 0, .ro, 0x0, none⟩]⟩,
  ⟨0x8, 1, 4, none, [⟨31, 31, .rw, 0x0, none⟩, ⟨30, 30, .rw, 0x0, none⟩, ⟨7, 0, .rw, 0x0, none⟩]⟩,
  ⟨0xc, 1, 4, none, [⟨31, 0, .rw, 0x0, none⟩]⟩,
  ⟨0x10, 1, 4, none, [⟨0, 0, .wo, 0x0, none⟩]⟩,
  ⟨0x14, 1, 4, none, [⟨31, 24, .ro, 0x0, none⟩, ⟨23, 23, .w1c, 0x0, none⟩, ⟨19, 16, .ro, 0x0, none⟩, ⟨11, 0, .ro, 0x0, none⟩]⟩,
  ⟨0x18, 1, 4, none, [⟨4, 0, .ro, 0x0, none⟩]⟩,
  ⟨0x1c, 1, 4, none, [⟨16, 16, .ro, 0x0, none⟩, ⟨15, 0, .ro, 0x0, none⟩]⟩,
  ⟨0x20, 1, 4, none, [⟨31, 0, .ro, 0x0, some (0, 0xffffffff)⟩]⟩,
  ⟨0x24, 1, 4, none, [⟨31, 0, .ro, 0x0, some (0, 0xffffffff)⟩]⟩,
  ⟨0x28, 1, 4, some (0x38, 0, 0), [⟨31, 0, .rc, 0x0, none⟩]⟩,
  ⟨0x2c, 1, 4, some (0x38, 1, 0), [⟨31, 0, .rc, 0x0, none⟩]⟩,
  ⟨0x30, 1, 4, some (0x38, 2, 0), [⟨31, 0, .rc, 0x0, none⟩]⟩,
  ⟨0x34, 1, 4, some (0x38, 3, 0), [⟨31, 0, .rc, 0x0, none⟩]⟩,
  ⟨0x38, 1, 4, none, [⟨3, 3, .ro, 0x0, none⟩, ⟨2, 2, .ro, 0x0, none⟩, ⟨1, 1, .ro, 0x0, none⟩, ⟨0, 0, .ro, 0x0, none⟩]⟩,
  ⟨0x100, 64, 4, none, [⟨31, 31, .ro, 0x0, none⟩, ⟨30, 30, .ro, 0x0, some (0, 0x1)⟩, ⟨16, 0, .ro, 0x0, some (0, 0x10000)⟩]⟩]

/-- The COL register map. -/
def rowsCOL : List RegRow := [
  ⟨0x0, 1, 4, none, [⟨4, 4, .ro, 0x0, none⟩, ⟨3, 3, .w1c, 0x0, none⟩, ⟨2, 2, .w1c, 0x0, none⟩, ⟨1, 1, .w1c, 0x0, none⟩, ⟨0, 0, .ro, 0x0, none⟩]⟩,
  ⟨0x4, 1, 4, none, [⟨16, 0, .ro, 0x0, some (0, 0x10000)⟩]⟩,
  ⟨0x8, 1, 4, none, [⟨13, 0, .ro, 0x0, none⟩]⟩,
  ⟨0xc, 1, 4, none, [⟨13, 0, .peak, 0x0, none⟩]⟩,
  ⟨0x10, 1, 4, some (0x30, 0, 0), [⟨31, 0, .rc, 0x0, none⟩]⟩,
  ⟨0x14, 1, 4, some (0x30, 1, 0), [⟨31, 0, .rc, 0x0, none⟩]⟩,
  ⟨0x18, 1, 4, some (0x30, 2, 0), [⟨31, 0, .rc, 0x0, none⟩]⟩,
  ⟨0x1c, 1, 4, some (0x30, 3, 0), [⟨31, 0, .rc, 0x0, none⟩]⟩,
  ⟨0x20, 1, 4, none, [⟨31, 0, .ro, 0x0, none⟩]⟩,
  ⟨0x24, 1, 4, none, [⟨31, 0, .ro, 0x0, none⟩]⟩,
  ⟨0x28, 1, 4, none, [⟨31, 0, .ro, 0x0, none⟩]⟩,
  ⟨0x2c, 1, 4, none, [⟨31, 0, .ro, 0x0, none⟩]⟩,
  ⟨0x30, 1, 4, none, [⟨3, 3, .ro, 0x0, none⟩, ⟨2, 2, .ro, 0x0, none⟩, ⟨1, 1, .ro, 0x0, none⟩, ⟨0, 0, .ro, 0x0, none⟩]⟩,
  ⟨0x34, 1, 4, none, [⟨31, 31, .w1c, 0x0, none⟩, ⟨27, 24, .ro, 0x0, none⟩, ⟨23, 16, .ro, 0x0, none⟩, ⟨11, 0, .ro, 0x0, none⟩]⟩]

/-- The ARR register map. -/
def rowsARR : List RegRow := [
  ⟨0x0, 1, 4, none, [⟨3, 3, .w1c, 0x0, none⟩, ⟨2, 2, .w1c, 0x0, none⟩, ⟨1, 1, .w1c, 0x0, none⟩, ⟨0, 0, .w1c, 0x0, none⟩]⟩,
  ⟨0x4, 1, 4, none, [⟨31, 0, .ro, 0x3f007e, none⟩]⟩,
  ⟨0x8, 1, 4, none, [⟨31, 0, .ro, 0xf, none⟩]⟩,
  ⟨0xc, 1, 4, none, [⟨10, 0, .ro, 0x10, some (1, 0x400)⟩]⟩,
  ⟨0x10, 1, 4, none, [⟨31, 16, .ro, 0x0, none⟩, ⟨15, 15, .ro, 0x0, none⟩, ⟨5, 0, .ro, 0x0, none⟩]⟩,
  ⟨0x14, 1, 4, some (0x24, 0, 0), [⟨31, 0, .rc, 0x0, none⟩]⟩,
  ⟨0x18, 1, 4, some (0x24, 1, 0), [⟨31, 0, .rc, 0x0, none⟩]⟩,
  ⟨0x1c, 1, 4, some (0x24, 2, 0), [⟨31, 0, .rc, 0x0, none⟩]⟩,
  ⟨0x20, 1, 4, some (0x24, 3, 0), [⟨31, 0, .rc, 0x0, none⟩]⟩,
  ⟨0x24, 1, 4, none, [⟨3, 3, .ro, 0x0, none⟩, ⟨2, 2, .ro, 0x0, none⟩, ⟨1, 1, .ro, 0x0, none⟩, ⟨0, 0, .ro, 0x0, none⟩]⟩,
  ⟨0x28, 1, 4, none, [⟨31, 31, .w1c, 0x0, none⟩, ⟨29, 26, .ro, 0x0, none⟩, ⟨25, 20, .ro, 0x0, none⟩, ⟨19, 12, .ro, 0x0, none⟩, ⟨11, 0, .ro, 0x0, none⟩]⟩,
  ⟨0x2c, 1, 4, none, [⟨31, 31, .rw, 0x0, none⟩, ⟨5, 0, .rw, 0x0, none⟩]⟩,
  ⟨0x30, 1, 4, none, [⟨31, 0, .ro, 0x0, none⟩]⟩,
  ⟨0x34, 1, 4, none, [⟨31, 0, .ro, 0x0, none⟩]⟩]

/-- The MEM register map, part 0. -/
def rowsMEM0 : List RegRow := [
  ⟨0x0, 1, 4, none, [⟨5, 5, .ro, 0x0, none⟩, ⟨4, 4, .ro, 0x0, none⟩, ⟨3, 3, .w1c, 0x0, none⟩, ⟨2, 2, .w1c, 0x0, none⟩, ⟨1, 1, .w1c, 0x0, none⟩, ⟨0, 0, .w1c, 0x0, none⟩]⟩,
  ⟨0x4, 1, 4, none, [⟨25, 16, .rw, 0x14, some (1, 0x3e8)⟩, ⟨9, 0, .rw, 0xa, some (1, 0x3e8)⟩]⟩,
  ⟨0x8, 1, 4, none, [⟨31, 24, .ro, 0x0, none⟩, ⟨23, 16, .ro, 0x0, none⟩, ⟨15, 8, .ro, 0x0, none⟩, ⟨7, 0, .ro, 0x0, none⟩]⟩,
  ⟨0xc, 1, 4, none, [⟨27, 24, .ro, 0x1, some (0, 0xf)⟩, ⟨23, 0, .ro, 0x0, some (0, 0xffffff)⟩]⟩,
  ⟨0x10, 1, 4, none, [⟨29, 16, .peak, 0x0, none⟩, ⟨13, 0, .ro, 0x0, none⟩]⟩,
  ⟨0x14, 1, 4, none, [⟨31, 0, .ro, 0x0, none⟩]⟩,
  ⟨0x18, 1, 4, none, [⟨31, 0, .ro, 0x0, none⟩]⟩,
  ⟨0x1c, 1, 4, none, [⟨31, 31, .w1c, 0x0, none⟩, ⟨30, 28, .ro, 0x0, none⟩, ⟨27, 26, .ro, 0x0, none⟩, ⟨23, 16, .ro, 0x0, none⟩]⟩,
  ⟨0x20, 1, 4, none, [⟨31, 0, .ro, 0x0, none⟩]⟩,
  ⟨0x24, 1, 4, none, [⟨31, 0, .ro, 0x0, none⟩]⟩,
  ⟨0x28, 1, 4, some (0x40, 0, 0), [⟨31, 0, .rc, 0x0, none⟩]⟩,
  ⟨0x2c, 1, 4, some (0x40, 1, 0), [⟨31, 0, .rc, 0x0, none⟩]⟩,
  ⟨0x30, 1, 4, some (0x40, 2, 0), [⟨31, 0, .rc, 0x0, none⟩]⟩,
  ⟨0x34, 1, 4, some (0x40, 3, 0), [⟨31, 0, .rc, 0x0, none⟩]⟩,
  ⟨0x38, 1, 4, some (0x40, 4, 0), [⟨31, 0, .rc, 0x0, none⟩]⟩,
  ⟨0x3c, 1, 4, some (0x40, 5, 0), [⟨31, 0, .rc, 0x0, none⟩]⟩,
  ⟨0x40, 1, 4, none, [⟨5, 5, .ro, 0x0, none⟩, ⟨4, 4, .ro, 0x0, none⟩, ⟨3, 3, .ro, 0x0, none⟩, ⟨2, 2, .ro, 0x0, none⟩, ⟨1, 1, .ro, 0x0, none⟩, ⟨0, 0, .ro, 0x0, none⟩]⟩,
  ⟨0x44, 1, 4, none, [⟨22, 21, .ro, 0x0, none⟩, ⟨20, 18, .ro, 0x0, none⟩, ⟨17, 0, .ro, 0x0, none⟩]⟩,
  ⟨0x48, 1, 4, none, [⟨31, 0, .ro, 0x0, none⟩]⟩,
  ⟨0x4c, 1, 4, none, [⟨31, 0, .ro, 0x0, none⟩]⟩,
  ⟨0x100, 64, 32, none, [⟨31, 31, .ro, 0x0, some (0, 0x1)⟩, ⟨29, 0, .ro, 0x0, some (0, 0x3fffffff)⟩]⟩,
  ⟨0x104, 64, 32, none, [⟨31, 31, .ro, 0x0, some (0, 0x1)⟩, ⟨29, 0, .ro, 0x0, some (0, 0x3fffffff)⟩]⟩,
  ⟨0x108, 64, 32, none, [⟨30, 28, .ro, 0x0, some (0, 0x7)⟩, ⟨26, 24, .ro, 0x0, some (0, 0x7)⟩, ⟨23, 0, .ro, 0x0, some (0, 0xffffff)⟩]⟩,
  ⟨0x10c, 64, 32, none, [⟨7, 0, .ro, 0x0, some (0, 0xff)⟩]⟩]

/-- The MEM register map, part 1. -/
def rowsMEM1 : List RegRow := [
  ⟨0x110, 64, 32, none, [⟨17, 0, .ro, 0x0, some (0, 0x3ffff)⟩]⟩,
  ⟨0x114, 64, 32, none, [⟨17, 0, .ro, 0x0, some (0, 0x3ffff)⟩]⟩,
  ⟨0x118, 64, 32, none, []⟩,
  ⟨0x11c, 64, 32, none, []⟩,
  ⟨0x1000, 256, 4, none, [⟨31, 31, .ro, 0x0, some (0, 0x1)⟩, ⟨30, 30, .ro, 0x0, none⟩, ⟨29, 29, .ro, 0x0, none⟩, ⟨26, 16, .ro, 0x0, none⟩, ⟨7, 0, .ro, 0x1, some (1, 0xff)⟩]⟩]

/-- The MEM register map. -/
def rowsMEM : List RegRow := rowsMEM0 ++ rowsMEM1

/-- The LNK register map. -/
def rowsLNK : List RegRow := [
  ⟨0x0, 8, 32, none, [⟨27, 24, .ro, 0x0, none⟩, ⟨23, 16, .ro, 0x0, none⟩, ⟨15, 12, .ro, 0x0, none⟩, ⟨11, 11, .ro, 0x0, none⟩, ⟨10, 10, .ro, 0x0, some (0, 0x1)⟩, ⟨9, 9, .ro, 0x0, none⟩, ⟨8, 8, .ro, 0x0, none⟩, ⟨2, 0, .ro, 0x0, none⟩]⟩,
  ⟨0x4, 8, 32, none, [⟨25, 16, .ro, 0xa, some (0, 0x258)⟩, ⟨1, 1, .ro, 0x1, some (0, 0x1)⟩, ⟨0, 0, .ro, 0x0, none⟩]⟩,
  ⟨0x8, 8, 32, none, [⟨31, 0, .ro, 0x0, none⟩]⟩,
  ⟨0xc, 8, 32, none, [⟨31, 0, .ro, 0x0, none⟩]⟩,
  ⟨0x10, 8, 32, some (0x100, 0, 3), [⟨31, 0, .rc, 0x0, none⟩]⟩,
  ⟨0x14, 8, 32, some (0x100, 1, 3), [⟨31, 0, .rc, 0x0, none⟩]⟩,
  ⟨0x18, 8, 32, some (0x100, 2, 3), [⟨31, 0, .rc, 0x0, none⟩]⟩,
  ⟨0x1c, 8, 32, none, [⟨22, 21, .ro, 0x0, none⟩, ⟨20, 18, .ro, 0x0, none⟩, ⟨17, 0, .ro, 0x0, none⟩]⟩,
  ⟨0x100, 1, 4, none, [⟨24, 24, .ro, 0x0, none⟩, ⟨23, 0, .ro, 0x0, none⟩]⟩,
  ⟨0x104, 1, 4, none, [⟨15, 8, .wo, 0x0, none⟩, ⟨7, 0, .wo, 0x0, none⟩]⟩,
  ⟨0x108, 1, 4, some (0x100, 24, 0), [⟨31, 0, .rc, 0x0, none⟩]⟩,
  ⟨0x110, 4, 4, none, [⟨31, 0, .ro, 0x0, none⟩]⟩,
  ⟨0x120, 4, 4, none, [⟨31, 24, .ro, 0x0, none⟩, ⟨11, 8, .ro, 0x0, none⟩, ⟨7, 5, .ro, 0x0, none⟩, ⟨4, 4, .ro, 0x0, none⟩, ⟨3, 3, .ro, 0x0, none⟩, ⟨2, 2, .ro, 0x0, none⟩, ⟨1, 1, .ro, 0x0, none⟩]⟩]

/-- The SEQ register map, part 0. -/
def rowsSEQ0 : List RegRow := [
  ⟨0x0, 1, 4, none, [⟨24, 24, .ro, 0x0, none⟩, ⟨23, 16, .ro, 0x0, none⟩, ⟨13, 8, .ro, 0x0, none⟩, ⟨4, 4, .ro, 0x0, none⟩, ⟨3, 0, .ro, 0x0, none⟩]⟩,
  ⟨0x4, 1, 4, none, [⟨27, 27, .ro, 0x0, some (0, 0x1)⟩, ⟨26, 20, .ro, 0x0, some (0, 0x7f)⟩, ⟨19, 10, .ro, 0x64, some (10, 0x3e8)⟩, ⟨9, 0, .ro, 0xa, some (1, 0x3e8)⟩]⟩,
  ⟨0x8, 1, 4, none, [⟨17, 17, .wo, 0x0, none⟩, ⟨16, 16, .wo, 0x0, none⟩, ⟨15, 8, .wo, 0x0, none⟩, ⟨7, 0, .wo, 0x0, none⟩]⟩,
  ⟨0xc, 1, 4, none, [⟨18, 18, .ro, 0x0, none⟩, ⟨17, 17, .ro, 0x0, none⟩, ⟨16, 16, .ro, 0x0, none⟩, ⟨15, 8, .ro, 0x0, none⟩, ⟨7, 0, .ro, 0xff, none⟩]⟩,
  ⟨0x10, 1, 4, none, [⟨31, 0, .ro, 0x0, none⟩]⟩,
  ⟨0x14, 1, 4, none, [⟨31, 0, .ro, 0x0, none⟩]⟩,
  ⟨0x18, 1, 4, none, [⟨31, 0, .ro, 0x0, none⟩]⟩,
  ⟨0x1c, 1, 4, none, [⟨31, 0, .ro, 0x0, none⟩]⟩,
  ⟨0x20, 1, 4, none, [⟨31, 0, .ro, 0x0, none⟩]⟩,
  ⟨0x24, 1, 4, none, [⟨31, 0, .ro, 0x0, none⟩]⟩,
  ⟨0x28, 1, 4, none, [⟨31, 0, .ro, 0x0, none⟩]⟩,
  ⟨0x2c, 1, 4, none, [⟨31, 0, .ro, 0x0, none⟩]⟩,
  ⟨0x30, 1, 4, none, [⟨31, 0, .ro, 0x0, none⟩]⟩,
  ⟨0x34, 1, 4, none, [⟨31, 0, .ro, 0x0, none⟩]⟩,
  ⟨0x38, 1, 4, none, [⟨31, 0, .ro, 0x0, none⟩]⟩,
  ⟨0x3c, 1, 4, none, [⟨31, 0, .ro, 0x0, none⟩]⟩,
  ⟨0x40, 1, 4, none, [⟨31, 0, .ro, 0x0, none⟩]⟩,
  ⟨0x44, 1, 4, none, [⟨31, 0, .ro, 0x0, none⟩]⟩,
  ⟨0x48, 1, 4, some (0x54, 0, 0), [⟨31, 0, .rc, 0x0, none⟩]⟩,
  ⟨0x4c, 1, 4, some (0x54, 1, 0), [⟨31, 0, .rc, 0x0, none⟩]⟩,
  ⟨0x50, 1, 4, some (0x54, 2, 0), [⟨31, 0, .rc, 0x0, none⟩]⟩,
  ⟨0x54, 1, 4, none, [⟨2, 2, .ro, 0x0, none⟩, ⟨1, 1, .ro, 0x0, none⟩, ⟨0, 0, .ro, 0x0, none⟩]⟩,
  ⟨0x58, 1, 4, none, [⟨12, 12, .ro, 0x0, none⟩, ⟨11, 0, .ro, 0x0, none⟩]⟩,
  ⟨0x5c, 1, 4, none, [⟨11, 0, .rw, 0x0, none⟩]⟩]

/-- The SEQ register map, part 1. -/
def rowsSEQ1 : List RegRow := [
  ⟨0x60, 4, 4, none, [⟨31, 0, .ro, 0x0, none⟩]⟩,
  ⟨0x100, 64, 4, none, [⟨31, 16, .ro, 0x0, none⟩, ⟨12, 12, .ro, 0x0, some (0, 0x1)⟩, ⟨11, 11, .ro, 0x0, none⟩, ⟨10, 8, .ro, 0x0, none⟩, ⟨4, 0, .ro, 0x0, none⟩]⟩]

/-- The SEQ register map. -/
def rowsSEQ : List RegRow := rowsSEQ0 ++ rowsSEQ1

/-- The PWR register map, part 0. -/
def rowsPWR0 : List RegRow := [
  ⟨0x0, 1, 4, none, [⟨11, 11, .ro, 0x0, none⟩, ⟨10, 10, .ro, 0x0, none⟩, ⟨9, 9, .ro, 0x0, none⟩, ⟨8, 8, .ro, 0x0, none⟩, ⟨7, 7, .ro, 0x0, none⟩, ⟨6, 6, .ro, 0x0, none⟩, ⟨5, 5, .ro, 0x0, none⟩, ⟨4, 4, .ro, 0x0, none⟩, ⟨3, 3, .ro, 0x0, none⟩, ⟨2, 2, .w1c, 0x0, none⟩, ⟨1, 1, .w1c, 0x0, none⟩, ⟨0, 0, .w1c, 0x0, none⟩]⟩,
  ⟨0x4, 1, 4, none, [⟨29, 24, .ro, 0x0, none⟩, ⟨23, 23, .ro, 0x0, none⟩, ⟨22, 22, .ro, 0x0, none⟩, ⟨21, 16, .ro, 0x0, none⟩, ⟨13, 8, .ro, 0x0, none⟩, ⟨5, 0, .ro, 0x0, none⟩]⟩,
  ⟨0x8, 1, 4, none, [⟨31, 24, .ro, 0x8, some (0, 0xff)⟩, ⟨23, 16, .ro, 0x5, some (0, 0x19)⟩, ⟨15, 6, .ro, 0x14, some (2, 0x1f4)⟩, ⟨5, 0, .ro, 0x28, some (0, 0x3f)⟩]⟩,
  ⟨0xc, 1, 4, none, [⟨31, 31, .ro, 0x0, some (0, 0x1)⟩, ⟨5, 0, .ro, 0x30, some (0, 0x3f)⟩]⟩,
  ⟨0x10, 1, 4, none, [⟨31, 16, .ro, 0x0, some (1000, 0xfffe)⟩, ⟨15, 0, .ro, 0x0, some (500, 0xfffe)⟩]⟩,
  ⟨0x14, 1, 4, none, [⟨19, 16, .ro, 0x0, none⟩, ⟨15, 0, .ro, 0x0, none⟩]⟩,
  ⟨0x18, 1, 4, none, [⟨31, 16, .ro, 0xffff, some (0, 0xffff)⟩, ⟨15, 0, .ro, 0xffff, some (0, 0xffff)⟩]⟩,
  ⟨0x1c, 1, 4, none, [⟨31, 16, .ro, 0x0, none⟩, ⟨15, 0, .ro, 0x0, none⟩]⟩,
  ⟨0x20, 1, 4, none, [⟨25, 16, .ro, 0x258, none⟩, ⟨9, 0, .ro, 0x0, none⟩]⟩,
  ⟨0x24, 1, 4, none, [⟨23, 16, .ro, 0xa, some (1, 0x64)⟩, ⟨6, 0, .ro, 0xa, some (1, 0x64)⟩]⟩,
  ⟨0x28, 1, 4, none, [⟨31, 16, .ro, 0x7d0, some (10, 0xffff)⟩, ⟨15, 0, .ro, 0x32, some (0, 0x3e8)⟩]⟩,
  ⟨0x2c, 1, 4, none, [⟨15, 0, .ro, 0x0, none⟩]⟩,
  ⟨0x30, 1, 4, none, [⟨31, 0, .ro, 0x88888888, none⟩]⟩,
  ⟨0x34, 1, 4, some (0x44, 0, 0), [⟨31, 0, .rc, 0x0, none⟩]⟩,
  ⟨0x38, 1, 4, some (0x44, 1, 0), [⟨31, 0, .rc, 0x0, none⟩]⟩,
  ⟨0x3c, 1, 4, some (0x44, 2, 0), [⟨31, 0, .rc, 0x0, none⟩]⟩,
  ⟨0x40, 1, 4, some (0x44, 3, 0), [⟨31, 0, .rc, 0x0, none⟩]⟩,
  ⟨0x44, 1, 4, none, [⟨3, 3, .ro, 0x0, none⟩, ⟨2, 2, .ro, 0x0, none⟩, ⟨1, 1, .ro, 0x0, none⟩, ⟨0, 0, .ro, 0x0, none⟩]⟩,
  ⟨0x48, 1, 4, none, [⟨31, 24, .ro, 0xd, some (0, 0xff)⟩, ⟨23, 14, .ro, 0x12c, some (100, 0x258)⟩, ⟨12, 0, .ro, 0x12c, some (0, 0x1388)⟩]⟩,
  ⟨0x80, 8, 4, none, [⟨31, 31, .ro, 0x0, none⟩, ⟨30, 30, .ro, 0x0, none⟩, ⟨29, 16, .ro, 0x1000, none⟩, ⟨15, 0, .ro, 0x0, none⟩]⟩,
  ⟨0xa0, 8, 4, none, [⟨31, 16, .ro, 0x0, none⟩, ⟨15, 0, .ro, 0xffff, some (0, 0xffff)⟩]⟩,
  ⟨0x100, 17, 8, none, [⟨31, 0, .ro, 0x0, none⟩]⟩,
  ⟨0x104, 17, 8, none, [⟨31, 0, .ro, 0x0, none⟩]⟩,
  ⟨0xf000, 2, 4, none, [⟨27, 27, .ro, 0x0, none⟩, ⟨26, 0, .ro, 0x0, none⟩]⟩]

/-- The PWR register map, part 1. -/
def rowsPWR1 : List RegRow := [
  ⟨0xf008, 1, 4, none, [⟨1, 1, .ro, 0x0, none⟩, ⟨0, 0, .ro, 0x0, none⟩]⟩]

/-- The PWR register map. -/
def rowsPWR : List RegRow := rowsPWR0 ++ rowsPWR1

/-- The COOL register map. -/
def rowsCOOL : List RegRow := [
  ⟨0x0, 1, 4, none, [⟨12, 12, .w1c, 0x0, none⟩, ⟨11, 11, .w1c, 0x0, none⟩, ⟨10, 10, .ro, 0x0, none⟩, ⟨9, 9, .ro, 0x0, none⟩, ⟨8, 8, .ro, 0x0, none⟩, ⟨7, 7, .ro, 0x0, none⟩, ⟨6, 6, .ro, 0x0, none⟩, ⟨5, 5, .ro, 0x0, none⟩, ⟨4, 4, .ro, 0x0, none⟩, ⟨3, 2, .ro, 0x0, none⟩, ⟨1, 0, .ro, 0x2, none⟩]⟩,
  ⟨0x4, 1, 4, none, [⟨31, 16, .ro, 0x0, none⟩, ⟨10, 8, .ro, 0x0, none⟩, ⟨5, 0, .ro, 0x3f, none⟩]⟩,
  ⟨0x8, 1, 4, none, [⟨31, 24, .ro, 0x64, none⟩, ⟨23, 16, .ro, 0x64, none⟩, ⟨15, 8, .ro, 0x0, none⟩, ⟨7, 0, .ro, 0x0, none⟩]⟩,
  ⟨0xc, 1, 4, none, [⟨5, 4, .ro, 0x0, none⟩, ⟨3, 2, .ro, 0x0, none⟩, ⟨1, 1, .ro, 0x0, none⟩, ⟨0, 0, .ro, 0x0, none⟩]⟩,
  ⟨0x10, 1, 4, none, [⟨18, 18, .wo, 0x0, none⟩, ⟨17, 10, .wo, 0x0, none⟩, ⟨9, 8, .wo, 0x0, none⟩, ⟨7, 0, .wo, 0x0, none⟩]⟩,
  ⟨0x14, 1, 4, some (0x2c, 0, 0), [⟨31, 0, .rc, 0x0, none⟩]⟩,
  ⟨0x18, 1, 4, some (0x2c, 1, 0), [⟨31, 0, .rc, 0x0, none⟩]⟩,
  ⟨0x1c, 1, 4, some (0x2c, 2, 0), [⟨31, 0, .rc, 0x0, none⟩]⟩,
  ⟨0x20, 1, 4, some (0x2c, 3, 0), [⟨31, 0, .rc, 0x0, none⟩]⟩,
  ⟨0x24, 1, 4, some (0x2c, 4, 0), [⟨31, 0, .rc, 0x0, none⟩]⟩,
  ⟨0x28, 1, 4, some (0x2c, 5, 0), [⟨31, 0, .rc, 0x0, none⟩]⟩,
  ⟨0x2c, 1, 4, none, [⟨5, 0, .ro, 0x0, none⟩]⟩,
  ⟨0x40, 8, 4, none, [⟨31, 16, .ro, 0x0, none⟩, ⟨15, 8, .ro, 0x55, some (50, 0x69)⟩, ⟨7, 7, .ro, 0x0, none⟩]⟩,
  ⟨0x60, 8, 4, none, [⟨31, 16, .ro, 0x0, none⟩, ⟨15, 9, .ro, 0x0, none⟩, ⟨8, 6, .ro, 0x0, none⟩, ⟨5, 4, .ro, 0x0, none⟩, ⟨3, 3, .ro, 0x0, none⟩, ⟨2, 0, .ro, 0x0, none⟩]⟩,
  ⟨0x80, 2, 4, none, [⟨31, 16, .ro, 0x0, none⟩, ⟨15, 9, .ro, 0x0, none⟩, ⟨8, 6, .ro, 0x0, none⟩]⟩,
  ⟨0xa0, 8, 4, none, [⟨23, 16, .ro, 0x0, none⟩, ⟨15, 8, .ro, 0x64, none⟩, ⟨7, 7, .ro, 0x0, none⟩]⟩,
  ⟨0xc0, 2, 4, none, [⟨1, 1, .ro, 0x0, none⟩, ⟨0, 0, .ro, 0x0, some (0, 0x1)⟩]⟩,
  ⟨0x100, 16, 4, none, [⟨31, 16, .ro, 0x0, none⟩, ⟨2, 2, .ro, 0x0, none⟩, ⟨1, 1, .ro, 0x0, none⟩, ⟨0, 0, .ro, 0x0, some (0, 0x1)⟩]⟩,
  ⟨0x140, 8, 4, none, [⟨31, 16, .ro, 0x0, none⟩, ⟨2, 2, .ro, 0x0, none⟩, ⟨1, 1, .ro, 0x0, none⟩, ⟨0, 0, .ro, 0x0, some (0, 0x1)⟩]⟩,
  ⟨0x160, 2, 4, none, [⟨31, 16, .ro, 0x0, none⟩, ⟨0, 0, .ro, 0x0, some (0, 0x1)⟩]⟩]

/-- The LEAK register map. -/
def rowsLEAK : List RegRow := [
  ⟨0x0, 1, 4, none, [⟨15, 8, .ro, 0x0, none⟩, ⟨7, 0, .ro, 0x0, none⟩]⟩,
  ⟨0x4, 1, 4, none, [⟨7, 0, .wo, 0x0, none⟩]⟩,
  ⟨0x8, 1, 4, some (0x10, 0, 0), [⟨31, 0, .rc, 0x0, none⟩]⟩,
  ⟨0xc, 1, 4, some (0x10, 1, 0), [⟨31, 0, .rc, 0x0, none⟩]⟩,
  ⟨0x10, 1, 4, none, [⟨1, 1, .ro, 0x0, none⟩, ⟨0, 0, .ro, 0x0, none⟩]⟩,
  ⟨0x40, 16, 4, none, [⟨31, 16, .ro, 0x0, none⟩, ⟨6, 4, .ro, 0x0, some (0, 0x7)⟩, ⟨2, 0, .ro, 0x5, none⟩]⟩,
  ⟨0x80, 8, 4, none, [⟨31, 16, .ro, 0x0, some (0, 0xffff)⟩, ⟨15, 8, .ro, 0x0, some (0, 0xff)⟩, ⟨7, 6, .ro, 0x0, some (0, 0x2)⟩, ⟨1, 1, .ro, 0x0, none⟩, ⟨0, 0, .ro, 0x0, none⟩]⟩]

/-- The MON register map. -/
def rowsMON : List RegRow := [
  ⟨0x0, 1, 4, none, [⟨4, 4, .w1c, 0x0, none⟩, ⟨3, 3, .w1c, 0x0, none⟩, ⟨2, 2, .w1c, 0x0, none⟩, ⟨1, 1, .w1c, 0x0, none⟩, ⟨0, 0, .ro, 0x0, none⟩]⟩,
  ⟨0x4, 1, 4, none, [⟨15, 8, .ro, 0x1e, some (10, 0x64)⟩, ⟨7, 0, .ro, 0x5a, some (80, 0x5f)⟩]⟩,
  ⟨0x8, 1, 4, none, [⟨31, 16, .ro, 0x0, none⟩, ⟨6, 6, .ro, 0x0, none⟩, ⟨5, 0, .ro, 0x0, none⟩]⟩,
  ⟨0xc, 1, 4, none, [⟨31, 16, .ro, 0x0, none⟩, ⟨11, 8, .ro, 0x0, none⟩, ⟨7, 0, .ro, 0x0, none⟩]⟩,
  ⟨0x10, 1, 4, none, [⟨31, 16, .ro, 0x0, none⟩, ⟨6, 6, .ro, 0x0, none⟩, ⟨5, 0, .ro, 0x0, none⟩]⟩,
  ⟨0x14, 1, 4, none, [⟨31, 16, .ro, 0x0, none⟩, ⟨6, 6, .ro, 0x0, none⟩, ⟨5, 0, .ro, 0x0, none⟩]⟩,
  ⟨0x18, 1, 4, none, [⟨15, 14, .rw, 0x0, none⟩, ⟨13, 12, .rw, 0x0, none⟩, ⟨5, 0, .rw, 0x0, none⟩]⟩,
  ⟨0x1c, 1, 4, none, [⟨31, 0, .ro, 0x0, none⟩]⟩,
  ⟨0x20, 1, 4, some (0x28, 0, 0), [⟨31, 0, .rc, 0x0, none⟩]⟩,
  ⟨0x24, 1, 4, some (0x28, 1, 0), [⟨31, 0, .rc, 0x0, none⟩]⟩,
  ⟨0x28, 1, 4, none, [⟨1, 1, .ro, 0x0, none⟩, ⟨0, 0, .ro, 0x0, none⟩]⟩]

/-- The ERR register map. -/
def rowsERR : List RegRow := [
  ⟨0x0, 1, 4, none, [⟨7, 7, .ro, 0x0, none⟩, ⟨6, 6, .ro, 0x0, none⟩, ⟨5, 5, .ro, 0x0, none⟩, ⟨4, 4, .w1c, 0x0, none⟩, ⟨3, 3, .w1c, 0x0, none⟩, ⟨2, 2, .w1c, 0x0, none⟩, ⟨1, 1, .w1c, 0x0, none⟩, ⟨0, 0, .w1c, 0x0, none⟩]⟩,
  ⟨0x4, 1, 4, none, [⟨23, 16, .ro, 0x18, some (1, 0xa8)⟩, ⟨3, 3, .ro, 0x1, some (0, 0x1)⟩, ⟨2, 2, .ro, 0x1, some (0, 0x1)⟩, ⟨1, 1, .ro, 0x0, some (0, 0x1)⟩, ⟨0, 0, .ro, 0x0, some (0, 0x1)⟩]⟩,
  ⟨0x8, 1, 4, none, [⟨0, 0, .wo, 0x0, none⟩]⟩,
  ⟨0xc, 1, 4, none, [⟨31, 31, .w1c, 0x0, none⟩, ⟨30, 28, .ro, 0x0, none⟩, ⟨27, 25, .ro, 0x0, none⟩, ⟨23, 16, .ro, 0x0, none⟩, ⟨15, 0, .ro, 0x0, none⟩]⟩,
  ⟨0x10, 1, 4, some (0x2c, 0, 0), [⟨31, 0, .rc, 0x0, none⟩]⟩,
  ⟨0x14, 1, 4, some (0x2c, 1, 0), [⟨31, 0, .rc, 0x0, none⟩]⟩,
  ⟨0x18, 1, 4, some (0x2c, 2, 0), [⟨31, 0, .rc, 0x0, none⟩]⟩,
  ⟨0x1c, 1, 4, some (0x2c, 3, 0), [⟨31, 0, .rc, 0x0, none⟩]⟩,
  ⟨0x20, 1, 4, some (0x2c, 4, 0), [⟨31, 0, .rc, 0x0, none⟩]⟩,
  ⟨0x24, 1, 4, some (0x2c, 5, 0), [⟨31, 0, .rc, 0x0, none⟩]⟩,
  ⟨0x28, 1, 4, some (0x2c, 6, 0), [⟨31, 0, .rc, 0x0, none⟩]⟩,
  ⟨0x2c, 1, 4, none, [⟨6, 0, .ro, 0x0, none⟩]⟩,
  ⟨0x30, 1, 4, none, [⟨31, 16, .ro, 0x0, none⟩, ⟨15, 8, .ro, 0x0, none⟩, ⟨7, 0, .ro, 0x0, none⟩]⟩,
  ⟨0x34, 1, 4, none, [⟨8, 8, .ro, 0x0, none⟩, ⟨7, 0, .ro, 0x0, none⟩]⟩,
  ⟨0x38, 1, 4, none, [⟨7, 0, .rw, 0x0, none⟩]⟩,
  ⟨0x40, 16, 4, none, [⟨31, 0, .ro, 0x0, none⟩]⟩]

/-- The SDC register map. -/
def rowsSDC : List RegRow := [
  ⟨0x0, 1, 4, none, [⟨5, 5, .ro, 0x0, none⟩, ⟨4, 4, .ro, 0x0, none⟩, ⟨3, 3, .w1c, 0x0, none⟩, ⟨2, 2, .w1c, 0x0, none⟩, ⟨1, 1, .w1c, 0x0, none⟩, ⟨0, 0, .w1c, 0x0, none⟩]⟩,
  ⟨0x4, 1, 4, none, [⟨31, 31, .ro, 0x0, some (0, 0x1)⟩, ⟨25, 12, .ro, 0x3e8, some (100, 0x2710)⟩, ⟨9, 0, .ro, 0x64, some (10, 0x3e8)⟩]⟩,
  ⟨0x8, 1, 4, none, [⟨8, 8, .wo, 0x0, none⟩, ⟨7, 0, .wo, 0x0, none⟩]⟩,
  ⟨0xc, 1, 4, none, [⟨31, 30, .ro, 0x0, none⟩, ⟨29, 22, .ro, 0x0, none⟩, ⟨21, 16, .ro, 0x0, none⟩, ⟨15, 10, .ro, 0x0, none⟩, ⟨9, 9, .ro, 0x0, none⟩, ⟨8, 8, .ro, 0x0, none⟩, ⟨7, 0, .ro, 0x0, none⟩]⟩,
  ⟨0x10, 1, 4, none, [⟨31, 31, .w1c, 0x0, none⟩, ⟨30, 28, .ro, 0x0, none⟩, ⟨27, 27, .ro, 0x0, none⟩, ⟨23, 16, .ro, 0x0, none⟩, ⟨15, 0, .ro, 0x0, none⟩]⟩,
  ⟨0x14, 1, 4, none, [⟨31, 0, .ro, 0x0, none⟩]⟩,
  ⟨0x18, 1, 4, some (0x34, 0, 0), [⟨31, 0, .rc, 0x0, none⟩]⟩,
  ⟨0x1c, 1, 4, some (0x34, 1, 0), [⟨31, 0, .rc, 0x0, none⟩]⟩,
  ⟨0x20, 1, 4, some (0x34, 2, 0), [⟨31, 0, .rc, 0x0, none⟩]⟩,
  ⟨0x24, 1, 4, some (0x34, 3, 0), [⟨31, 0, .rc, 0x0, none⟩]⟩,
  ⟨0x28, 1, 4, some (0x34, 4, 0), [⟨31, 0, .rc, 0x0, none⟩]⟩,
  ⟨0x2c, 1, 4, some (0x34, 5, 0), [⟨31, 0, .rc, 0x0, none⟩]⟩,
  ⟨0x30, 1, 4, some (0x34, 6, 0), [⟨31, 0, .rc, 0x0, none⟩]⟩,
  ⟨0x34, 1, 4, none, [⟨6, 0, .ro, 0x0, none⟩]⟩,
  ⟨0x100, 136, 4, none, [⟨31, 30, .ro, 0x0, some (0, 0x3)⟩, ⟨29, 28, .ro, 0x0, some (0, 0x2)⟩, ⟨27, 27, .ro, 0x0, none⟩, ⟨26, 26, .ro, 0x0, none⟩, ⟨25, 25, .ro, 0x0, none⟩, ⟨24, 22, .ro, 0x0, none⟩, ⟨21, 18, .ro, 0x0, none⟩, ⟨17, 0, .ro, 0x0, none⟩]⟩]

/-- The FW register map. -/
def rowsFW : List RegRow := [
  ⟨0x0, 1, 4, none, [⟨15, 8, .ro, 0x0, none⟩, ⟨7, 0, .ro, 0x0, none⟩]⟩,
  ⟨0x4, 1, 4, none, [⟨15, 8, .wo, 0x0, none⟩, ⟨7, 0, .wo, 0x0, none⟩]⟩,
  ⟨0x8, 1, 4, none, [⟨7, 0, .wo, 0x0, none⟩]⟩,
  ⟨0xc, 1, 4, none, [⟨31, 31, .w1c, 0x0, none⟩, ⟨30, 27, .ro, 0x0, none⟩, ⟨26, 24, .ro, 0x0, none⟩, ⟨23, 0, .ro, 0x0, none⟩]⟩,
  ⟨0x10, 8, 4, none, [⟨27, 24, .ro, 0x0, none⟩, ⟨23, 22, .ro, 0x0, none⟩, ⟨21, 20, .ro, 0x0, none⟩, ⟨9, 0, .ro, 0x64, some (10, 0x3e8)⟩]⟩,
  ⟨0x30, 8, 4, some (0x50, 0, 1), [⟨31, 0, .rc, 0x0, none⟩]⟩,
  ⟨0x50, 1, 4, none, [⟨7, 0, .ro, 0x0, none⟩]⟩,
  ⟨0x60, 4, 4, none, [⟨31, 0, .ro, 0x0, none⟩]⟩,
  ⟨0x70, 4, 4, none, [⟨31, 0, .ro, 0x0, none⟩]⟩,
  ⟨0x80, 8, 4, none, [⟨31, 0, .rw, 0x0, some (0, 0xffffffff)⟩]⟩,
  ⟨0xa0, 8, 4, none, [⟨31, 0, .rw, 0x0, some (0, 0xffffffff)⟩]⟩,
  ⟨0xc0, 1, 4, none, [⟨13, 11, .rw, 0x0, none⟩, ⟨10, 0, .rw, 0x0, none⟩]⟩,
  ⟨0xc4, 1, 4, none, [⟨11, 11, .ro, 0x0, none⟩, ⟨10, 0, .ro, 0x0, none⟩]⟩,
  ⟨0xe0, 8, 4, none, [⟨31, 0, .ro, 0x0, none⟩]⟩]

/-- The ARB register map. -/
def rowsARB : List RegRow := [
  ⟨0x0, 1, 4, none, [⟨31, 0, .ro, 0x1, none⟩]⟩,
  ⟨0x10, 6, 8, none, [⟨31, 0, .rw, 0x0, some (0, 0xffffffff)⟩]⟩,
  ⟨0x14, 6, 8, none, [⟨31, 0, .rw, 0x0, some (0, 0xffffffff)⟩]⟩,
  ⟨0x40, 6, 4, none, [⟨20, 20, .ro, 0x0, none⟩, ⟨19, 19, .ro, 0x0, none⟩, ⟨18, 16, .ro, 0x0, none⟩, ⟨15, 8, .ro, 0x0, none⟩, ⟨7, 0, .ro, 0x0, none⟩]⟩,
  ⟨0x60, 6, 4, none, [⟨11, 0, .ro, 0x0, none⟩]⟩]

/-- The MGT register map. -/
def rowsMGT : List RegRow := [
  ⟨0x0, 1, 4, none, [⟨8, 8, .w1c, 0x0, none⟩, ⟨7, 7, .ro, 0x0, none⟩, ⟨6, 6, .ro, 0x0, none⟩, ⟨5, 5, .ro, 0x0, none⟩, ⟨4, 4, .ro, 0x0, none⟩, ⟨3, 3, .ro, 0x0, none⟩, ⟨2, 1, .ro, 0x0, none⟩, ⟨0, 0, .ro, 0x0, none⟩]⟩,
  ⟨0x4, 1, 4, none, [⟨25, 16, .ro, 0x3c, some (10, 0x258)⟩, ⟨8, 0, .ro, 0x1e, some (5, 0x12c)⟩]⟩,
  ⟨0x8, 1, 4, none, [⟨31, 24, .ro, 0x10, some (4, 0xff)⟩, ⟨23, 16, .ro, 0x14, some (1, 0x64)⟩, ⟨15, 8, .ro, 0x14, some (1, 0x64)⟩, ⟨7, 0, .ro, 0x32, some (1, 0xff)⟩]⟩,
  ⟨0xc, 1, 4, none, [⟨23, 22, .ro, 0x0, none⟩, ⟨21, 20, .ro, 0x0, none⟩, ⟨17, 0, .ro, 0x0, none⟩]⟩,
  ⟨0x10, 1, 4, none, [⟨31, 0, .ro, 0x0, none⟩]⟩,
  ⟨0x14, 1, 4, none, [⟨15, 0, .ro, 0x0, some (0, 0xffff)⟩]⟩,
  ⟨0x18, 1, 4, none, [⟨31, 16, .ro, 0x0, none⟩, ⟨15, 0, .ro, 0x0, none⟩]⟩,
  ⟨0x1c, 1, 4, some (0x34, 0, 0), [⟨31, 0, .rc, 0x0, none⟩]⟩,
  ⟨0x20, 1, 4, some (0x34, 1, 0), [⟨31, 0, .rc, 0x0, none⟩]⟩,
  ⟨0x24, 1, 4, some (0x34, 2, 0), [⟨31, 0, .rc, 0x0, none⟩]⟩,
  ⟨0x28, 1, 4, some (0x34, 3, 0), [⟨31, 0, .rc, 0x0, none⟩]⟩,
  ⟨0x2c, 1, 4, some (0x34, 4, 0), [⟨31, 0, .rc, 0x0, none⟩]⟩,
  ⟨0x30, 1, 4, some (0x34, 5, 0), [⟨31, 0, .rc, 0x0, none⟩]⟩,
  ⟨0x34, 1, 4, none, [⟨5, 0, .ro, 0x0, none⟩]⟩,
  ⟨0x38, 1, 4, none, [⟨31, 31, .w1c, 0x0, none⟩, ⟨30, 29, .ro, 0x0, none⟩, ⟨23, 16, .ro, 0x0, none⟩, ⟨11, 0, .ro, 0x0, none⟩]⟩]

/-- The REC register map. -/
def rowsREC : List RegRow := [
  ⟨0x0, 1, 4, none, [⟨6, 6, .w1c, 0x0, none⟩, ⟨5, 5, .w1c, 0x0, none⟩, ⟨4, 4, .w1c, 0x0, none⟩, ⟨3, 3, .ro, 0x0, none⟩, ⟨2, 2, .ro, 0x0, none⟩, ⟨1, 1, .ro, 0x0, none⟩, ⟨0, 0, .ro, 0x1, none⟩]⟩,
  ⟨0x4, 1, 4, none, [⟨27, 16, .ro, 0x258, some (10, 0xe10)⟩, ⟨11, 0, .ro, 0xa, some (1, 0xe10)⟩]⟩,
  ⟨0x8, 1, 4, none, [⟨31, 0, .ro, 0x0, none⟩]⟩,
  ⟨0xc, 1, 4, none, [⟨31, 0, .ro, 0x0, none⟩]⟩,
  ⟨0x10, 1, 4, none, [⟨31, 0, .ro, 0x0, none⟩]⟩,
  ⟨0x14, 1, 4, none, [⟨10, 0, .ro, 0x0, none⟩]⟩,
  ⟨0x18, 1, 4, none, [⟨31, 0, .ro, 0x0, none⟩]⟩,
  ⟨0x1c, 1, 4, none, [⟨31, 0, .ro, 0x0, none⟩]⟩,
  ⟨0x20, 1, 4, none, [⟨31, 0, .ro, 0x0, none⟩]⟩,
  ⟨0x24, 1, 4, none, [⟨23, 0, .ro, 0x0, none⟩]⟩,
  ⟨0x28, 1, 4, some (0x34, 0, 0), [⟨31, 0, .rc, 0x0, none⟩]⟩,
  ⟨0x2c, 1, 4, some (0x34, 1, 0), [⟨31, 0, .rc, 0x0, none⟩]⟩,
  ⟨0x30, 1, 4, some (0x34, 2, 0), [⟨31, 0, .rc, 0x0, none⟩]⟩,
  ⟨0x34, 1, 4, none, [⟨2, 0, .ro, 0x0, none⟩]⟩]

/-- The UPD register map. -/
def rowsUPD : List RegRow := [
  ⟨0x0, 1, 4, none, [⟨7, 7, .w1c, 0x0, none⟩, ⟨6, 6, .w1c, 0x0, none⟩, ⟨5, 5, .w1c, 0x0, none⟩, ⟨4, 4, .ro, 0x0, none⟩, ⟨1, 0, .ro, 0x0, none⟩]⟩,
  ⟨0x4, 1, 4, none, [⟨11, 8, .ro, 0x0, none⟩, ⟨1, 0, .ro, 0x0, none⟩]⟩,
  ⟨0x8, 1, 4, none, [⟨31, 0, .ro, 0x0, none⟩]⟩,
  ⟨0xc, 1, 4, none, [⟨11, 0, .ro, 0x0, none⟩]⟩,
  ⟨0x10, 1, 4, none, [⟨16, 0, .ro, 0x258, some (60, 0x15180)⟩]⟩,
  ⟨0x14, 1, 4, none, [⟨27, 16, .ro, 0x3c, some (10, 0xe10)⟩, ⟨10, 0, .ro, 0x2, some (1, 0x400)⟩]⟩,
  ⟨0x18, 1, 4, none, [⟨31, 31, .ro, 0x0, some (0, 0x1)⟩, ⟨25, 18, .ro, 0x0, some (0, 0xff)⟩, ⟨17, 0, .ro, 0x0, some (0, 0x3ffff)⟩]⟩,
  ⟨0x1c, 1, 4, none, [⟨29, 0, .ro, 0x0, some (0, 0x3fffffff)⟩]⟩,
  ⟨0x20, 1, 4, none, [⟨7, 0, .ro, 0x0, some (0, 0x80)⟩]⟩,
  ⟨0x24, 1, 4, none, [⟨31, 16, .ro, 0x0, none⟩, ⟨15, 0, .ro, 0x0, none⟩]⟩,
  ⟨0x28, 1, 4, some (0x34, 0, 0), [⟨31, 0, .rc, 0x0, none⟩]⟩,
  ⟨0x2c, 1, 4, some (0x34, 1, 0), [⟨31, 0, .rc, 0x0, none⟩]⟩,
  ⟨0x30, 1, 4, some (0x34, 2, 0), [⟨31, 0, .rc, 0x0, none⟩]⟩,
  ⟨0x34, 1, 4, none, [⟨2, 0, .ro, 0x0, none⟩]⟩,
  ⟨0x40, 6, 4, none, [⟨23, 16, .ro, 0x0, none⟩, ⟨7, 0, .ro, 0x0, none⟩]⟩]

/-- The SEC register map. -/
def rowsSEC : List RegRow := [
  ⟨0x0, 1, 4, none, [⟨11, 11, .ro, 0x0, none⟩, ⟨10, 10, .ro, 0x0, none⟩, ⟨9, 9, .ro, 0x0, none⟩, ⟨7, 4, .ro, 0x0, none⟩, ⟨2, 0, .ro, 0x0, none⟩]⟩,
  ⟨0x4, 1, 4, none, [⟨15, 12, .ro, 0x0, none⟩, ⟨11, 8, .ro, 0x0, none⟩, ⟨7, 4, .ro, 0x0, none⟩, ⟨3, 0, .ro, 0x0, none⟩]⟩,
  ⟨0x8, 1, 4, none, [⟨7, 6, .ro, 0x0, none⟩, ⟨3, 0, .ro, 0x0, none⟩]⟩,
  ⟨0xc, 1, 4, none, [⟨31, 0, .ro, 0xffffffff, none⟩]⟩,
  ⟨0x10, 1, 4, none, [⟨31, 31, .ro, 0x0, none⟩, ⟨13, 12, .ro, 0x0, none⟩, ⟨11, 0, .ro, 0x0, none⟩]⟩,
  ⟨0x14, 1, 4, none, [⟨31, 0, .ro, 0x0, none⟩]⟩,
  ⟨0x18, 1, 4, none, [⟨31, 0, .ro, 0x0, none⟩]⟩,
  ⟨0x1c, 1, 4, none, [⟨3, 0, .rw, 0x0, none⟩]⟩,
  ⟨0x20, 1, 4, none, [⟨31, 31, .w1c, 0x0, none⟩, ⟨23, 16, .ro, 0x0, none⟩, ⟨15, 8, .ro, 0x0, none⟩, ⟨1, 0, .ro, 0x0, none⟩]⟩,
  ⟨0x24, 1, 4, some (0x2c, 0, 0), [⟨31, 0, .rc, 0x0, none⟩]⟩,
  ⟨0x28, 1, 4, some (0x2c, 1, 0), [⟨31, 0, .rc, 0x0, none⟩]⟩,
  ⟨0x2c, 1, 4, none, [⟨1, 1, .ro, 0x0, none⟩, ⟨0, 0, .ro, 0x0, none⟩]⟩,
  ⟨0x40, 16, 4, none, [⟨31, 0, .ro, 0x0, none⟩]⟩,
  ⟨0x80, 16, 4, none, [⟨31, 0, .ro, 0x0, none⟩]⟩]

/-- The CFG register map. -/
def rowsCFG : List RegRow := [
  ⟨0x0, 1, 4, none, [⟨7, 7, .ro, 0x0, none⟩, ⟨6, 6, .ro, 0x0, none⟩, ⟨5, 5, .ro, 0x0, none⟩, ⟨4, 4, .ro, 0x0, none⟩, ⟨1, 0, .ro, 0x0, none⟩]⟩,
  ⟨0x4, 1, 4, none, [⟨31, 31, .w1c, 0x0, none⟩, ⟨27, 24, .ro, 0x0, none⟩, ⟨23, 16, .ro, 0x0, none⟩, ⟨15, 0, .ro, 0x0, none⟩]⟩,
  ⟨0x8, 1, 4, none, [⟨31, 0, .ro, 0x0, some (0, 0xffffffff)⟩]⟩,
  ⟨0xc, 1, 4, none, [⟨31, 0, .ro, 0x0, some (0, 0xffffffff)⟩]⟩,
  ⟨0x10, 1, 4, none, [⟨31, 0, .ro, 0x0, some (0, 0xffffffff)⟩]⟩,
  ⟨0x14, 1, 4, none, [⟨31, 31, .ro, 0x0, some (0, 0x1)⟩, ⟨30, 18, .ro, 0x0, some (0, 0x1fff)⟩, ⟨17, 0, .ro, 0x0, some (0, 0x3ffff)⟩]⟩,
  ⟨0x20, 8, 4, none, [⟨31, 0, .ro, 0xffffffff, none⟩]⟩,
  ⟨0x40, 16, 4, none, [⟨31, 0, .ro, 0x0, none⟩]⟩]

/-- The PIN register map. -/
def rowsPIN : List RegRow := [
  ⟨0x0, 1, 4, none, [⟨5, 5, .ro, 0x0, none⟩, ⟨4, 4, .ro, 0x0, none⟩, ⟨3, 3, .ro, 0x0, none⟩, ⟨2, 2, .ro, 0x0, none⟩, ⟨1, 1, .ro, 0x0, none⟩]⟩,
  ⟨0x4, 1, 4, none, [⟨31, 24, .ro, 0x0, none⟩, ⟨23, 16, .ro, 0x0, none⟩, ⟨15, 8, .ro, 0x0, none⟩, ⟨7, 0, .ro, 0xff, none⟩]⟩,
  ⟨0x8, 1, 4, none, [⟨4, 4, .ro, 0x0, none⟩, ⟨3, 2, .ro, 0x0, none⟩, ⟨1, 1, .ro, 0x0, none⟩]⟩,
  ⟨0xc, 1, 4, none, [⟨21, 16, .ro, 0x14, some (5, 0x32)⟩, ⟨7, 0, .ro, 0x55, some (0, 0xff)⟩]⟩,
  ⟨0x10, 1, 4, none, [⟨7, 7, .ro, 0x0, none⟩, ⟨6, 4, .ro, 0x0, none⟩, ⟨1, 0, .ro, 0x0, none⟩]⟩]

/-- The blocks: block offset (R10), whether each hub die has one, and the rows. -/
def regBlocks : List (Nat × Bool × List RegRow) := [
  (0x10000, true, rowsCAD),
  (0x20000, true, rowsPAT),
  (0x30000, true, rowsCOL),
  (0x40000, true, rowsARR),
  (0x50000, true, rowsMEM),
  (0x60000, true, rowsLNK),
  (0x100000, false, rowsSEQ),
  (0x110000, false, rowsPWR),
  (0x120000, false, rowsCOOL),
  (0x130000, false, rowsLEAK),
  (0x140000, false, rowsMON),
  (0x200000, false, rowsERR),
  (0x210000, false, rowsSDC),
  (0x300000, false, rowsFW),
  (0x310000, false, rowsARB),
  (0x320000, false, rowsMGT),
  (0x330000, false, rowsREC),
  (0x340000, false, rowsUPD),
  (0x350000, false, rowsSEC),
  (0x360000, false, rowsCFG),
  (0x400000, false, rowsPIN)]

end Sys2Proof.Machine
end

