-- ==== Sys2Proof/Machine/Pool.lean ====
section
/-! DEFINITION. Pool memory: bytes by local offset, POISON marks by line, and the fold of R171. -/

namespace Sys2Proof.Machine

/-- What a byte of a pool reads as before anything has written it. DESIGN CHOICE (log 2): zero; the spec gives a pool no contents
before its preload is written. -/
def Memory.blank : Byte := 0#8

/-- One byte of memory. -/
def Memory.read (m : List Host.Cell) (a : Nat) : Byte := match m with
  | [] => Memory.blank
  | (k, b) :: r => if k = a then b else Memory.read r a

/-- A byte written; the form stays canonical: addresses strictly rising, no entry equal to the blank value. -/
def Memory.write (m : List Host.Cell) (a : Nat) (b : Byte) : List Host.Cell := match m with
  | [] => if b = Memory.blank then [] else [(a, b)]
  | (k, c) :: r =>
    if k < a then (k, c) :: Memory.write r a b
    else if k = a then (if b = Memory.blank then r else (a, b) :: r)
    else if b = Memory.blank then (k, c) :: r else (a, b) :: (k, c) :: r

/-- Every address of the list is above `a`, rising, and no byte is blank. -/
def Memory.wfAbove (a : Nat) (m : List Host.Cell) : Bool := match m with
  | [] => true
  | (k, b) :: r => decide (a < k) && b != Memory.blank && Memory.wfAbove k r

/-- The canonical form of a memory. -/
def Memory.wf (m : List Host.Cell) : Bool := match m with
  | [] => true
  | (k, b) :: r => b != Memory.blank && Memory.wfAbove k r

/-- `n` bytes from address `a`, as numbers, lowest first. -/
def Memory.readBytes (m : List Host.Cell) (a n : Nat) : List Nat := match n with
  | 0 => []
  | k + 1 => (Memory.read m a).toNat :: Memory.readBytes m (a + 1) k

/-- The bytes `l` written from address `a`. -/
def Memory.writeBytes (m : List Host.Cell) (a : Nat) (l : List Nat) : List Host.Cell := match l with
  | [] => m
  | b :: r => Memory.writeBytes (Memory.write m a (BitVec.ofNat 8 b)) (a + 1) r

/-- The bytes `l` written from address `a` where `mask` has their bit set (R174 WRITE_MASKED). -/
def Memory.writeMasked (m : List Host.Cell) (a mask : Nat) (l : List Nat) : List Host.Cell := match l with
  | [] => m
  | b :: r =>
    Memory.writeMasked (if mask % 2 = 1 then Memory.write m a (BitVec.ofNat 8 b) else m) (a + 1) (mask / 2) r

/-- A number inserted in a rising list. -/
def insertRising (l : List Nat) (x : Nat) : List Nat := match l with
  | [] => [x]
  | y :: r => if x < y then x :: y :: r else if x = y then y :: r else y :: insertRising r x

/-- The regions of a hub's local offsets (R168). -/
inductive Region where
  | window (slot : Nat)
  | hbm
  | lpddr
  | telemetry
  | registers
  | reserved
deriving DecidableEq, Repr, Inhabited

/-- The region a local offset lies in (R168). -/
def regionOf (off : Nat) : Region :=
  if off < 0x200000000000 then .window (off / 0x040000000000)
  else if off < 0x203200000000 then .hbm
  else if 0x280000000000 ≤ off ∧ off < 0x28E000000000 then .lpddr
  else if 0x300000000000 ≤ off ∧ off < 0x300040000000 then .telemetry
  else if 0x3F0000000000 ≤ off ∧ off < 0x3F0100000000 then .registers
  else .reserved

/-- Where a pool line lives (R171): its memory unit (0 to 5 stacks, 16 to 31 channels, as R21 numbers them), its die, the
die-local core of its home slice, and the line's index in the unit. -/
structure LineHome where
  unit : Nat
  die : Nat
  core : Nat
  index : Nat
deriving DecidableEq, Repr, Inhabited

/-- R171: the fold from a local offset in a pool to its line's home. -/
def homeOf (off : Nat) : LineHome :=
  if off < 0x280000000000 then
    let l := (off - 0x200000000000) / 256
    let q := l / 6
    { unit := l % 6, die := l % 6 / 3, core := (q ^^^ (q >>> 11) ^^^ (q >>> 22)) % 2048, index := q }
  else
    let l := (off - 0x280000000000) / 256
    let q := l / 16
    { unit := 16 + l % 16, die := l % 16 / 8, core := (q ^^^ (q >>> 11) ^^^ (q >>> 22)) % 2048, index := q }

/-- The tile of a home slice (R171). -/
def LineHome.tile (h : LineHome) : Nat := h.core / 32

/-- Whether a local offset lies in a pool. -/
def inPool (off : Nat) : Bool := match regionOf off with
  | .hbm => true
  | .lpddr => true
  | _ => false

/-- The local offset of a pool line from its die-and-pool-independent number: the offset divided by 256. -/
def lineOffset (line : Nat) : Nat := line * 256

/-- Whether line `line` is marked POISON (R320). -/
def MemState.isMarked (m : MemState) (line : Nat) : Bool := m.marked.contains line

/-- Line `line` marked POISON (R320). -/
def MemState.mark (m : MemState) (line : Nat) : MemState := { m with marked := insertRising m.marked line }

/-- Line `line`'s mark cleared (R321). -/
def MemState.unmark (m : MemState) (line : Nat) : MemState := { m with marked := m.marked.filter (· != line) }

/-- The lines that `n` bytes from local offset `a` touch. -/
def linesOf (a n : Nat) : List Nat := (List.range ((a + n - 1) / 256 + 1 - a / 256)).map (a / 256 + ·)

end Sys2Proof.Machine
end

