-- ==== Sys2Proof/Machine/Access.lean ====
section
/-! DEFINITION. How rows and open operations reach the pools: fenced tiles and domains that are off, region guards, POISON marks,
and operands packed in bytes (R33, R140, R173, R187, R320, R321). -/

namespace Sys2Proof.Machine

/-! ## Pool lines -/

/-- The tiles fenced on die `d`: by a cause of their own, or because their tile group's domain is off (R33, R173). -/
def fencedTiles (s : State) (d : Nat) : Nat :=
  setUnion (tget s.mem.fenced d) (ofMembers ((List.range 64).filter fun t => ! s.domainOn d (t / 4)))

/-- Whether a memory unit's domain is on (R29): stacks 22 to 24 of a die, channels 25. -/
def unitDomainOn (s : State) (h : LineHome) : Bool :=
  if h.unit < 16 then s.domainOn h.die (22 + h.unit % 3) else s.domainOn h.die 25

/-- Whether the line at local offset `off` is served: its die runs, its tile is not fenced and its domains are on. -/
def lineServed (s : State) (off : Nat) : Bool :=
  let h := homeOf off
  s.dieUp h.die && s.domainOn h.die 16 && unitDomainOn s h && ! (fencedTiles s h.die).testBit h.tile

/-- Whether a line delivers data: served and not marked (R173, R320). -/
def lineReadable (s : State) (off : Nat) : Bool := lineServed s off && ! s.mem.isMarked (off / 256)

/-- One byte of a pool for a row's engine: none where its line is POISON. -/
def poolByte (s : State) (off : Nat) : Option Nat :=
  if inPool off ∧ lineReadable s off then some (Memory.read s.mem.pool off).toNat else none

/-- R187, R87: whether partition `p`'s permissions in some guard entry allow `perm` (0 read, 1 write, 2 atomic) at `off`. -/
def partitionAllows (s : State) (p off perm : Nat) : Bool :=
  s.mem.guards.any fun g =>
    decide (g.base ≤ off / 65536) && decide (off / 65536 ≤ g.limit) && g.part.testBit (3 * p + perm)

/-- The part of a byte list that lies in one line: `at_` bytes into the line, the list starting at local offset `off`. -/
def linePart (off line : Nat) (l : List (Option Nat)) : Nat × List (Option Nat) :=
  let lo := max off (line * 256)
  (lo, ((l.drop (lo - off)).take ((line + 1) * 256 - lo)))

/-- R318, R320: a line is marked POISON; ERR_POISON_COUNT counts the lines marked. -/
def markPoison (s : State) (line : Nat) : State :=
  if s.mem.isMarked line then s else { s with mem := s.mem.mark line }.bump R.ERR_POISON_COUNT.c

/-- R321: a row write of the bytes `l` (none for POISON) of one line from local offset `lo`. A POISON element marks the line; a
part of a marked line stays unwritten; a whole line clears the mark. A line that is not served keeps its contents. -/
def writeLine (s : State) (lo : Nat) (l : List (Option Nat)) : State :=
  let line := lo / 256
  if l = [] ∨ ¬ inPool lo ∨ ¬ lineServed s lo then s
  else if l.any Option.isNone then markPoison s line
  else if s.mem.isMarked line ∧ l.length < 256 then s
  else { s with mem := { (s.mem.unmark line) with pool := Memory.writeBytes s.mem.pool lo (l.map fun b => b.getD 0) } }

/-- A row write of the bytes `l` from local offset `off`. -/
def writeSpan (s : State) (off : Nat) (l : List (Option Nat)) : State :=
  (linesOf off l.length).foldl (init := s) fun s line =>
    let p := linePart off line l
    writeLine s p.1 p.2

/-! ## Row accesses -/

/-- The counts of a memory unit's telemetry record changed (R196). -/
def modMemStat (s : State) (unit : Nat) (f : MemStat → MemStat) : State :=
  { s with mem := { s.mem with mstat := tmod s.mem.mstat unit f } }

/-- R274: bytes moved on behalf of a partition. -/
def countPart (s : State) (p n : Nat) : State :=
  { s with pwr := { s.pwr with partBytes := tput s.pwr.partBytes p (tget s.pwr.partBytes p + n) } }

/-- R196: bytes that rows or open requests read from the pools, or write to them, by memory unit. -/
def countSpan (s : State) (off n : Nat) (write : Bool) : State :=
  (linesOf off n).foldl (init := s) fun s line =>
    let b := min (off + n) ((line + 1) * 256) - max off (line * 256)
    if ! inPool (line * 256) || ! lineServed s (line * 256) then s
    else modMemStat s (homeOf (line * 256)).unit fun m =>
      if write then { m with written := (m.written + b) % 2 ^ 64 } else { m with read := (m.read + b) % 2 ^ 64 }

/-- R87, R196, R274: the bytes of a row's access that its owner's permissions allow are counted. -/
def countAccess (s : State) (owner off n : Nat) (write : Bool) : State :=
  (linesOf off n).foldl (init := s) fun s line =>
    let lo := max off (line * 256)
    let k := min (off + n) ((line + 1) * 256) - lo
    if n = 0 ∨ ¬ inPool lo ∨ partitionAllows s owner lo (b2n write) = false ∨ lineServed s lo = false then s
    else countPart (countSpan s lo k write) owner k

/-- A row's write: the partition whose permissions it has, its local offset and its bytes, none for POISON. -/
structure RowWrite where
  owner : Nat
  off : Nat
  bytes : List (Option Nat)
deriving Inhabited

/-- The parts of a row's writes in one line that the guards allow (R87), in order. -/
def writeParts (s : State) (l : List RowWrite) (line : Nat) : List (Nat × Nat × List (Option Nat)) :=
  l.filterMap fun w =>
    let p := linePart w.off line w.bytes
    if p.1 / 256 = line ∧ p.2 ≠ [] ∧ partitionAllows s w.owner p.1 1 = true then some (w.owner, p) else none

/-- The bytes of a line after some parts: none where no part reaches. -/
def overlayLine (line : Nat) (l : List (Nat × Nat × List (Option Nat))) : List (Option (Option Nat)) :=
  (List.range 256).map fun i => (l.filterMap fun p => p.2.2[line * 256 + i - p.2.1]?.bind fun b =>
    if p.2.1 ≤ line * 256 + i then some b else none).getLast?

/-- R87, R320, R321: the writes of a row, line by line. One row may write a whole line in parts, which then clears the line's mark; a
POISON element marks it. -/
def rowWrites (s : State) (l : List RowWrite) : State :=
  (l.flatMap fun w => linesOf w.off w.bytes.length).eraseDups.foldl (init := s) fun s line =>
    let parts := writeParts s l line
    let whole := overlayLine line parts
    let s := parts.foldl (fun s p => countAccess s p.1 p.2.1 p.2.2.length true) s
    if whole.all Option.isSome then writeLine s (line * 256) (whole.map fun b => b.getD none)
    else parts.foldl (fun s p => writeLine s p.2.1 p.2.2) s

/-! ## Operands -/

/-- A descriptor's leading dimension: ld, or its columns where ld is 0 (R86). -/
def leading (d : Desc) : Nat := if d.ld = 0 then d.cols else d.ld

/-- The elements from an operand's base to its last element. -/
def extentElems (d : Desc) : Nat := if d.rows = 0 then d.count else (d.rows - 1) * leading d + d.cols

/-- The bytes from an operand's base to its last byte (R140). -/
def extentBytes (d : Desc) : Nat := match fmtOf d.format with
  | none => 0
  | some f =>
    if f.mx.isSome then scaleOffset d.base f.width (extentElems d) + (extentElems d + 31) / 32
    else packedBytes f.width (extentElems d)

/-- R140: where a descriptor's scale region begins, counted from its base. -/
def scaleAt (d : Desc) : Nat := match fmtOf d.format with
  | none => 0
  | some f => scaleOffset d.base f.width (extentElems d)

/-- Where element `i` of an operand is stored, in elements from its base: matrices row by row with their leading dimension (R86, R153). -/
def storeIdx (d : Desc) (i : Nat) : Nat :=
  if d.rows = 0 ∨ d.cols = 0 then i else i / d.cols * leading d + i % d.cols

/-- `width` bits at bit `pos` of what a byte reader gives; none where a byte they touch is POISON. -/
def readBits (rd : Nat → Option Nat) (pos width : Nat) : Option Nat :=
  let first := pos / 8
  let n := (pos + width - 1) / 8 + 1 - first
  let l := (List.range n).map fun i => rd (first + i)
  if l.any Option.isNone then none
  else some (ofBytes (l.map fun b => b.getD 0) / 2 ^ (pos % 8) % 2 ^ width)

/-- The encoding of the element stored at index `k` of an operand. -/
def elemCode (rd : Nat → Option Nat) (f : Fmt) (k : Nat) : Option Nat := readBits rd (f.width * k) f.width

/-- The element stored at index `k` of an operand whose scale region begins at byte `sc`. -/
def codedElem (rd : Nat → Option Nat) (f : Fmt) (sc k : Nat) : Coded :=
  { code := elemCode rd f k, scale := if f.mx.isNone then some 127 else rd (sc + k / 32) }

/-- The value of a stored element (R138, R139); none for POISON. -/
def codedValue (f : Fmt) (e : Coded) : Option Num := match e.code, e.scale with
  | some w, some sc => some (if f.mx.isNone then f.elem.decode w else mxValue f.elem w sc)
  | _, _ => none

/-- The value of the element stored at index `k` of an operand whose scale region begins at byte `sc`. -/
def elemValue (rd : Nat → Option Nat) (f : Fmt) (sc k : Nat) : Option Num := codedValue f (codedElem rd f sc k)

/-- Elements as the bytes of a packed stream; a byte is none where an element in it is POISON. -/
def packElems (width : Nat) (l : List (Option Nat)) : List (Option Nat) :=
  let value : Nat := l.foldr (fun e acc => e.getD 0 % 2 ^ width + 2 ^ width * acc) 0
  let bad : Nat := l.foldr (fun e acc => (if e.isNone then 2 ^ width - 1 else 0) + 2 ^ width * acc) 0
  let n := packedBytes width l.length
  (List.range n).map fun i => if bad / 2 ^ (8 * i) % 256 = 0 then some (value / 2 ^ (8 * i) % 256) else none

/-- Values converted to a format, with how many conversions saturated and how many gave a NaN (R141, R142, R146). -/
structure Converted where
  elems : List Coded := []
  sats : Nat := 0
  nans : Nat := 0
deriving Inhabited

/-- Blocks of 32 of a list, `fuel` at most. -/
def blocksOf {α : Type} (fuel : Nat) (l : List α) : List (List α) := match fuel with
  | 0 => []
  | k + 1 => if l.isEmpty then [] else l.take 32 :: blocksOf k (l.drop 32)

/-- Converts values to a format (R141 to R146); `rounds` gives each element's rounding. A POISON element makes its MX block's
scale POISON as well as itself. -/
def convertAll (f : Fmt) (rounds : List Rounding) (l : List (Option Num)) : Converted :=
  let count (cs : List (Option Conv)) (es : List Coded) : Converted :=
    { elems := es, sats := (cs.filter fun c => c.any Conv.sat).length, nans := (cs.filter fun c => c.any Conv.isNan).length }
  match f.mx with
  | none =>
    let cs : List (Option Conv) := (l.zip rounds).map fun (p : Option Num × Rounding) => p.1.map fun x => f.elem.convert p.2 x
    count cs (cs.map fun c => { code := c.map Conv.code, scale := some 127 })
  | some emax =>
    let bl : List (List (Option Num × Rounding)) := blocksOf l.length (l.zip rounds)
    let done : List (Option Conv × Option Nat) := bl.flatMap fun b =>
      let r := mxBlock f.elem emax (b.map (·.2)) (b.map fun (p : Option Num × Rounding) => p.1.getD .zero)
      let bad := b.any fun (p : Option Num × Rounding) => p.1.isNone
      (b.zip r.2).map fun (p : (Option Num × Rounding) × Conv) =>
        (if p.1.1.isNone then none else some p.2, if bad then none else some r.1)
    count (done.map (·.1)) (done.map fun c => { code := c.1.map Conv.code, scale := c.2 })

/-- The element region of stored elements. -/
def elemBytes (f : Fmt) (l : List Coded) : List (Option Nat) := packElems f.width (l.map Coded.code)

/-- The scale region of stored elements: one byte for each block of 32, none where an element of it has none; empty for a format that is
not MX. -/
def scaleBytes (f : Fmt) (l : List Coded) : List (Option Nat) :=
  if f.mx.isNone then []
  else (blocksOf l.length l).map fun b => if b.any fun e => e.scale.isNone then none else (b.headD {}).scale

/-- R141, R142: what conversions on die `d` count. -/
def countConv (s : State) (d sats nans : Nat) : State :=
  let s := if sats = 0 then s else (s.bumpN (R.ARR_SATURATE.c d) sats).wr (R.ARR_STATUS.saturate d) 1
  if nans = 0 then s else (s.bumpN (R.ARR_NAN_OUT.c d) nans).wr (R.ARR_STATUS.nan_out d) 1

end Sys2Proof.Machine
end

