-- ==== Sys2Proof/Machine/Flits.lean ====
section
/-! DEFINITION. What leaves on a link: packets and control messages as words, credits, flits and the replay store (R120, R202 to R210). -/

namespace Sys2Proof.Machine

/-! ## Packets -/

/-- The packet type of an open operation (R208). -/
def packetType (o : OpenOp) : Nat := match o with
  | .read => 0x01
  | .write => 0x02
  | .writeMasked => 0x03
  | .readBulk => 0x04
  | .writeBulk => 0x05
  | .swap => 0x08
  | .cas => 0x09
  | .fetchAdd => 0x0A
  | .fetchAnd => 0x0B
  | .fetchOr => 0x0C
  | .fetchXor => 0x0D
  | .fetchMin => 0x0E
  | .fetchMax => 0x0F
  | .fetchUmin => 0x10
  | .fetchUmax => 0x11
  | .fence => 0x18

/-- A source as MEM_LAST_SOURCE codes it, and the source stamp of a request (R208). -/
def sourceCode (s : Source) : Nat := s.hub % 2 ^ 18 + 2 ^ 18 * (s.slot % 8) + 2 ^ 21 * (s.kind % 4)

/-- Bytes as little-endian words, `n` of them. -/
def wordsOf (n : Nat) (l : List Nat) : List Nat := match n with
  | 0 => []
  | k + 1 => ofBytes (l.take 4) :: wordsOf k (l.drop 4)

/-- The words that hold a list of bytes. -/
def dataWords (l : List Nat) : List Nat := wordsOf ((l.length + 3) / 4) l

/-- The payload words of an open request (R208). -/
def requestPayload (r : OpenReq) : List Nat :=
  let n := r.hdr.size / 4
  match r.op with
  | .read => []
  | .readBulk => []
  | .fence => []
  | .writeMasked => wordsOf 8 (bytesOf 32 r.mask) ++ wordsOf 64 r.data
  | .cas => wordsOf n r.compare ++ wordsOf n r.data
  | _ => wordsOf n r.data

/-- An open request as a packet (R208). -/
def requestWords (tag : Nat) (r : OpenReq) : List Nat :=
  [packetType r.op + 2 ^ 8 * b2n r.hdr.ordered + 2 ^ 9 * (r.hdr.size / 4 % 2048) + 2 ^ 20 * (r.hdr.queue % 256), tag % 2 ^ 24,
   bits r.hdr.addr 31 0, bits r.hdr.addr 63 32, sourceCode r.src, 0] ++ requestPayload r

/-- A response as a packet (R208). -/
def responseWords (tag : Nat) (a : Resp) (data : List Nat) (hint : Nat) (unknown : Bool) : List Nat :=
  [0x40 + 2 ^ 8 * a.code + 2 ^ 16 * ((data.length + 3) / 4), tag % 2 ^ 24, hint % 2 ^ 16 + 2 ^ 16 * b2n unknown] ++ dataWords data

/-- A planned packet (R208): its header, with the row tag, and its payload. -/
def plannedWords (type : Nat) (t : RowTag) (payload : List Nat) : List Nat :=
  [type + 2 ^ 8 * payload.length,
   t.pattern % 2 ^ 8 + 2 ^ 8 * (t.die % 2) + 2 ^ 9 * (t.row % 2 ^ 12) + 2 ^ 21 * (t.strand % 2) + 2 ^ 22 * (t.stage % 2 ^ 4),
   t.step % 2 ^ 16, t.line % 2 ^ 32] ++ payload

/-- A management message as a packet (R221). -/
def mgmtWords (isReq : Bool) (hub tag : Nat) (payload : List Nat) : List Nat :=
  [(if isReq then 0x30 else 0x31) + 2 ^ 8 * payload.length, hub % 2 ^ 18, tag % 2 ^ 24] ++ payload

/-- Where what the block sends leaves: its link, its virtual channel, 3 for the control channel, and its words. A request that goes on
carries as its tag the number by which this hub knows it (DESIGN CHOICE, log 74). A planned line to another hub holds no hops or path: its
header has no place for them (log 40). -/
def outPacket (o : Out) : Option (Nat × Nat × List Nat) := match o with
  | .openAnswer l tag a data hint unknown => some (l, 2, responseWords tag a data hint unknown)
  | .openForward l id r => some (l, 1, requestWords id r)
  | .mgmtForward l isReq hub tag payload => some (l, if isReq then 1 else 2, mgmtWords isReq hub tag payload)
  | .pread slot t offset => some (slot, 0, plannedWords 0x80 t (wordsOf 2 (bytesOf 8 offset)))
  | .pdata slot t _ data => some (slot, 0, plannedWords 0x81 t (dataWords (data.getD [])))
  | .planned port t _ _ data => some (8 + port, 0, plannedWords 0x81 t (dataWords (data.getD [])))
  | .control l code param ws =>
    some (l, 3, (code % 2 ^ 8 + 2 ^ 8 * ((1 + ws.length) % 2 ^ 8) + 2 ^ 16 * (param % 2 ^ 16)) :: ws.map (· % 2 ^ 32))
  | _ => none

/-! ## Flits -/

/-- A flit's bytes before its check (R202): the header, the control word and 47 payload words. -/
def flitBody (header control : Nat) (payload : List Nat) : List Nat :=
  bytesOf 4 header ++ bytesOf 4 control ++ (payload ++ List.replicate (47 - payload.length) 0).flatMap (bytesOf 4)

/-- A whole flit. -/
def flitBytes (header control : Nat) (payload : List Nat) : List Nat :=
  let b := flitBody header control payload
  b ++ bytesOf 4 (crc32c b)

/-- The header of a flit that a link sends now (R202): the last flit accepted in the other direction, and nak while a replay is awaited. -/
def flitHeader (k : Link) (replay idle : Bool) (f : StoredFlit) : Nat :=
  2 ^ 31 * b2n replay + 2 ^ 30 * b2n idle + 2 ^ 28 * (f.vc % 4) + 2 ^ 16 * (f.seq % 4096) + 2 ^ 4 * ((k.rxSeq + 4095) % 4096) +
    2 ^ 3 * b2n k.nakSent + 2 * (f.credit.getD 0 % 4) + b2n f.credit.isSome

/-- A flit goes out on a link. -/
def emitFlit (s : State) (l : Nat) (replay : Bool) (f : StoredFlit) : State :=
  s.emit (.flit l (flitBytes (flitHeader (tget s.lnk.links l) replay false f) f.control f.payload))

/-- An idle flit (R204): it names the last sequenced flit and carries nothing. -/
def emitIdle (s : State) (l : Nat) : State :=
  let k := tget s.lnk.links l
  s.emit (.flit l (flitBytes (flitHeader k false true { seq := (k.txSeq + 4095) % 4096 }) 0 []))

/-- The first `n` words of the packets that wait, what begins with them, and the packets that are left (R208). -/
def takeWords (n : Nat) (l : List TxPacket) : List Nat × List Out × List TxPacket := match l with
  | [] => ([], [], [])
  | p :: r =>
    if n = 0 then ([], [], l)
    else
      let begins := if p.begun then [] else [p.out]
      if p.words.length ≤ n then
        let x := takeWords (n - p.words.length) r
        (p.words ++ x.1, begins ++ x.2.1, x.2.2)
      else (p.words.take n, begins, { p with words := p.words.drop n, begun := true } :: r)

/-- Two lists, one of each in turn. -/
def inTurn (a b : List TxPacket) : List TxPacket := match a with
  | [] => b
  | x :: a => x :: (match b with
    | [] => a
    | y :: b => y :: inTurn a b)

/-- R120: a link's planned packets with this hub's own and forwarded ones in turn; one that has begun stays first. -/
def takeTurns (last : Bool) (l : List TxPacket) : List TxPacket :=
  let begun := l.filter TxPacket.begun
  let own := l.filter fun p => ! p.begun && ! p.transit
  let transit := l.filter fun p => ! p.begun && p.transit
  begun ++ (if last then inTurn own transit else inTurn transit own)

/-- R207: the next channel, after the one that sent last, that has a packet and holds credit (DESIGN CHOICE, log 74: in turn). -/
def nextChannel (k : Link) : Option Nat :=
  ([1, 2, 3].map fun i => (k.turn + i) % 3).find? fun c => ! (tget k.queue c).isEmpty && decide (0 < tget k.credit c)

/-- The channel that a flit without payload names: one with no packet in progress, so that nothing is taken for the packet's (DESIGN
CHOICE, log 74). -/
def emptyChannel (k : Link) : Nat := ([0, 1, 2].find? fun c => ! (tget k.queue c).any TxPacket.begun).getD 3

/-- R121, R207: the channel to which credit of 32 flits is due. A Sotin port withholds that of planned traffic while it holds lines that
staging has no room for. -/
def creditDue (s : State) (l : Nat) : Option Nat :=
  let held : Bool := s.pat.blocked.any fun b => 8 + b.1 == l
  [0, 1, 2].find? fun c => decide (32 ≤ tget (tget s.lnk.links l).owed c) && ! (c == 0 && held)

/-- R203, R204, R207: one sequenced flit with the next control word, the next payload and a credit due, into the replay store; none where
nothing waits, unless `zero`, or the store is full. -/
def formFlit (s : State) (l : Nat) (zero : Bool) : Option State :=
  let k := tget s.lnk.links l
  let ch := nextChannel k
  let due := creditDue s l
  if 2048 ≤ k.store.length ∨ (k.control.isEmpty = true ∧ ch = none ∧ due = none ∧ zero = false) then none
  else
    let c := takeWords 1 k.control
    let vc := ch.getD (emptyChannel k)
    let q := if vc = 0 then takeTurns k.lastTransit (tget k.queue 0) else tget k.queue vc
    let x := if ch.isSome then takeWords 47 q else ([], [], q)
    let f : StoredFlit := { seq := k.txSeq, vc := vc, control := c.1.headD 0, payload := x.1, credit := due }
    let k' : Link :=
      { k with txSeq := (k.txSeq + 1) % 4096, lastSent := s.now, store := k.store ++ [f], control := c.2.2,
               queue := if ch.isSome then tput k.queue vc x.2.2 else k.queue, turn := if ch.isSome then vc else k.turn,
               lastTransit := if ch = some 0 then (((q.filter fun p => ! p.begun).take x.2.1.length).getLast?.map TxPacket.transit).getD k.lastTransit else k.lastTransit,
               credit := if ch.isSome then tmod k.credit vc (· - 1) else k.credit,
               owed := match due with
                 | some d => tmod k.owed d (· - 32)
                 | none => k.owed }
    let s := emitFlit (s.modLink l fun _ => k') l false f
    some ((c.2.1 ++ x.2.1).foldl (fun s o => s.emit o) s)

/-- Flits while something waits, `fuel` at most. -/
def pumpFlits (l fuel : Nat) (s : State) : State := match fuel with
  | 0 => s
  | n + 1 => match formFlit s l false with
    | none => s
    | some t => pumpFlits l n t

/-- A link that is UP sends what waits, as far as credits and the replay store allow. -/
def pump (s : State) (l : Nat) : State :=
  if s.linkState l = 3 then pumpFlits l (2048 - (tget s.lnk.links l).store.length) s else s

/-- A packet or control message joins what waits on its link, and leaves as soon as it can; what would go out on a link that is not UP is
lost. Anything else that the block sends goes out at once. -/
def State.send (s : State) (o : Out) (transit : Bool := false) : State := match outPacket o with
  | none => s.emit o
  | some (l, c, ws) =>
    if s.linkState l ≠ 3 then s
    else
      let p : TxPacket := { words := ws, out := o, transit := transit }
      pump (s.modLink l fun k =>
        if c = 3 then { k with control := k.control ++ [p] } else { k with queue := tput k.queue c (tget k.queue c ++ [p]) }) l

/-- Whether a planned line of row `row` of die `d` still waits to leave on some link (R121: the sender waits). -/
def lineWaits (s : State) (d row : Nat) : Bool :=
  s.lnk.links.any fun k => (tget k.2.queue 0).any fun p => ! p.transit && (match p.out with
    | .planned _ t _ _ _ => t.die == d && t.row == row
    | _ => false)

/-- R203: a link with nothing else to send sends a zero flit; with a full replay store, an idle one (R204, R205). -/
def zeroFlit (s : State) (l : Nat) : State := match formFlit s l true with
  | some t => t
  | none => (emitIdle s l).modLink l fun k => { k with lastSent := s.now }

end Sys2Proof.Machine
end

