-- ==== Sys2Proof/Machine/Units.lean ====
section
/-! DEFINITION. Observed units: their state, history, levels, faults and the end of a swatch (R349 to R364). -/

namespace Sys2Proof.Machine

/-! ## Units -/

/-- What is held of unit `n`. -/
def unitLive (s : State) (n : Nat) : UnitLive := tget s.sdc.units n

/-- What the settings store keeps of unit `n`. -/
def unitKept (s : State) (n : Nat) : UnitKept := tget s.flash.settings.units n

/-- Changes what is held of a unit. -/
def modUnit (s : State) (n : Nat) (f : UnitLive → UnitLive) : State := { s with sdc := { s.sdc with units := tmod s.sdc.units n f } }

/-- Changes what the settings store keeps of a unit. -/
def modKept (s : State) (n : Nat) (f : UnitKept → UnitKept) : State :=
  { s with flash := { s.flash with settings := { s.flash.settings with units := tmod s.flash.settings.units n f } } }

/-- Whether an index names a tile; others below 136 name slots (R349). -/
def isTile (n : Nat) : Bool := decide (n < 128)

/-- The unit identifier of unit `n` (R10, R21). -/
def unitIdent (n : Nat) : Nat := if n < 64 then 0x1000 + n else if n < 128 then 0x2000 + (n - 64) else 0x3000 + (n - 128)

/-- The SDC index of a unit identifier that names a tile or an accelerator, a slice core counting against its tile (R349). -/
def unitOfIdent (u : Nat) : Option Nat :=
  let i := u % 4096
  if unitDomain u = 1 ∨ unitDomain u = 2 then
    let d := unitDomain u - 1
    if i < 64 then some (64 * d + i) else if 0x800 ≤ i then some (64 * d + (i - 0x800) / 32) else none
  else if unitDomain u = 3 ∧ i < 8 then some (128 + i)
  else none

/-- Whether a tile is fenced by a cause of its own (R173). -/
def tileFenced (s : State) (n : Nat) : Bool := (tget s.mem.fenced (n / 64)).testBit (n % 64)

/-- A unit's state as SDC_UNIT_n codes it: 0 absent, 1 in service, 2 fenced, 3 failed. A tile is absent while its die does not run;
an accelerator that is not admitted counts as fenced (log 52). -/
def unitState (s : State) (n : Nat) : Nat :=
  if (unitKept s n).failed then 3
  else if isTile n then (if ¬ s.dieUp (n / 64) then 0 else if tileFenced s n then 2 else 1)
  else if ¬ s.accPresent (n - 128) then 0
  else if s.accServed (n - 128) then 1 else 2

/-- The seconds over which faults count (R351, R353). -/
def historySpan : Nat := 2592000

/-- R365: a unit's faults in the last 2,592,000 operating seconds, at most three. -/
def historyCount (s : State) (n : Nat) : Nat :=
  ((unitLive s n).history.filter fun t => s.rd R.REC_SECONDS.seconds ≤ t + historySpan).length

/-- The detail of an error record of class 0x10 (R364). -/
def unitDetail (s : State) (n event a b : Nat) : Nat :=
  atByte 0 event + atByte 1 n + atByte 2 ((unitKept s n).level + 4 * unitState s n) + atByte 3 (historyCount s n) +
    atByte 4 (a % 2 ^ 32) + atByte 8 (b % 2 ^ 32)

/-- An error record of class 0x10 for a unit. Its severity is stated nowhere, so it is Warning (R509). -/
def unitRecord (s : State) (n event a b : Nat) : State := s.err (unitIdent n) 0 0x10 2 (unitDetail s n event a b)

/-- A fault enters a unit's history, of which the last three are kept (R354), and resets its pass count (R351). -/
def addHistory (s : State) (n : Nat) : State :=
  let s := modUnit s n fun u => { u with history := (s.rd R.REC_SECONDS.seconds :: u.history).take 3 }
  modKept s n fun k => { k with passes := 0 }

/-- R351: a unit's level changes, with its record. -/
def setLevel (s : State) (n level : Nat) : State :=
  if (unitKept s n).level = level then s
  else unitRecord (modKept s n fun k => { k with level := level }) n 9 0 0

/-- A tile is fenced at once (R173). -/
def fenceTile (s : State) (n : Nat) : State :=
  { s with mem := { s.mem with fenced := tput s.mem.fenced (n / 64) (setBit (tget s.mem.fenced (n / 64)) (n % 64) true) } }

/-- A tile's fence ends. -/
def unfenceTile (s : State) (n : Nat) : State :=
  { s with mem := { s.mem with fenced := tput s.mem.fenced (n / 64) (setBit (tget s.mem.fenced (n / 64)) (n % 64) false) } }

/-- R348: an accelerator is put forward for expulsion in the hub's next GAUGE row. A pending admission is withdrawn. -/
def expelSlot (s : State) (slot : Nat) : State :=
  { s with pat := { s.pat with putAdmit := setBit s.pat.putAdmit slot false,
                               putExpel := if s.accIncoming slot && s.procUp 0 then setBit s.pat.putExpel slot true else s.pat.putExpel,
                               dueExpel := if s.accIncoming slot && ! s.procUp 0 then setBit s.pat.dueExpel slot true else s.pat.dueExpel } }

/-! ## Faults -/

/-- R355: a fault is judged: permanent where its re-execution reproduced it or the history holds three (R353), else transient. -/
def judgeFault (s : State) (n : Nat) (reproduced : Bool) : State :=
  if reproduced ∨ 3 ≤ historyCount s n then
    let s := modKept s n fun k => { k with failed := true }
    let s := modUnit s n fun u => { u with passed := false, readmit := false, forSwatch := false }
    let s := (s.bump R.SDC_PERMANENT_COUNT.c).wr R.SDC_STATUS.permanent 1
    let s := if isTile n then fenceTile s n
      else (expelSlot s (n - 128)).bump R.SDC_EXPEL_COUNT.c
    unitRecord s n 10 0 0
  else setLevel s n (min 2 ((unitKept s n).level + 1))

/-- R352, R353, R361: a fault of class `cls` on a unit, whose error record has been written. `again` says that the failing work can be
re-executed; it is not while the tile is under swatch or fenced. -/
def unitFault (s : State) (n cls : Nat) (again : Bool) : State :=
  let s := addHistory s n
  if (unitLive s n).running.isSome then s
  else if again ∧ isTile n ∧ ! tileFenced s n then
    (if (unitLive s n).shadow.isSome then s else modUnit s n fun u => { u with shadow := some cls })
  else judgeFault s n false

/-- R353, R355, R361: SHADOW_COMPLETE: a re-execution ends. Where the tile was fenced for another reason it has been abandoned, and the
history alone judges. -/
def shadowComplete (unit : Nat) (reproduced : Bool) (s : State) : State :=
  match (unitLive s unit).shadow with
  | none => s
  | some _ =>
    let s := modUnit s unit fun u => { u with shadow := none }
    if tileFenced s unit then judgeFault s unit false
    else judgeFault (unitRecord (s.bump R.SDC_SHADOW_COUNT.c) unit (if reproduced then 7 else 8) 0 0) unit reproduced

/-! ## Swatches -/

/-- The step marks since a unit's last swatch (R365). -/
def sinceSwatch (s : State) (n : Nat) : Nat := s.sdc.marks - (unitLive s n).base

/-- The interval of a unit's level in step marks; a normal unit has none (R351). -/
def swatchInterval (s : State) (n : Nat) : Option Nat :=
  if (unitKept s n).level = 1 then some (s.rd R.SDC_CFG.watched_interval)
  else if (unitKept s n).level = 2 then some (s.rd R.SDC_CFG.suspect_interval)
  else none

/-- R359: whether a unit is due, or overdue with `k` 2. -/
def unitDue (s : State) (n k : Nat) : Bool := match swatchInterval s n with
  | some i => decide (k * i ≤ sinceSwatch s n)
  | none => false

/-- The tile under swatch on a die. -/
def tileUnderSwatch (s : State) (d : Nat) : Option Nat := (List.range 64).find? fun t => (unitLive s (64 * d + t)).running.isSome

/-- R351: the level after passing swatches: ten in a row take a suspect unit to watched, and a watched one without a fault in the last
2,592,000 operating seconds to normal. -/
def passLevel (s : State) (n : Nat) : State :=
  let k := unitKept s n
  if k.passes < 10 then s
  else if k.level = 2 then setLevel (modKept s n fun k => { k with passes := 0 }) n 1
  else if k.level = 1 ∧ historyCount s n = 0 then setLevel (modKept s n fun k => { k with passes := 0 }) n 0
  else s

/-- R360, R361, R362: a swatch ends: 1 pass, 2 fail, 3 aborted; `keep` leaves the unit due. The record carries the failing signature bits
and the duration in ms. -/
def finishSwatch (s : State) (n result failBits : Nat) (keep : Bool) : State :=
  let u := unitLive s n
  let ms := (s.now - u.running.getD s.now) / 1000
  let s := modUnit s n fun u => { u with running := none, waiting := false, base := if keep then u.base else s.sdc.marks }
  let s := { s with sdc := { s.sdc with result := result, lastUnit := n } }
  let s := s.bump R.SDC_SWATCH_COUNT.c
  let s :=
    if result = 1 then
      let s := modKept s n fun k => { k with passes := min 10 (k.passes + 1) }
      let s := modUnit (passLevel s n) n fun u => { u with held := false }
      if (unitKept s n).failed then modUnit s n fun u => { u with passed := true }
      else if isTile n ∧ u.forSwatch then modUnit s n fun u => { u with readmit := true }
      else s
    else if result = 2 then
      let s := (s.bump R.SDC_SWATCH_FAIL_COUNT.c).wr R.SDC_STATUS.swatch_fail 1
      let s := addHistory s n
      let s := modKept s n fun k => { k with failed := true }
      modUnit s n fun u => { u with passed := false, forSwatch := false, readmit := false }
    else s
  let s := unitRecord s n (3 + result) failBits ms
  modUnit s n fun u => { u with last := some (tget s.itg.ring ((s.itg.next + 255) % 256)) }

/-- R361: the running swatches among units `l` are aborted, and the units stay due. A tile's fence for the swatch ends with it. -/
def abortSwatches (s : State) (l : List Nat) : State :=
  l.foldl (init := s) fun s n =>
    if (unitLive s n).running.isNone then s
    else
      let s := finishSwatch s n 3 0 true
      if isTile n ∧ (unitLive s n).forSwatch then modUnit s n fun u => { u with readmit := true } else s

/-- The tiles of a die as units. -/
def dieUnits (d : Nat) : List Nat := (List.range 64).map (64 * d + ·)

/-- SHADOW_COMPLETE. -/
def execShadowComplete (unit : Nat) (reproduced : Bool) (s : State) : Host.Outcome State Fault Refusal :=
  .next (shadowComplete unit reproduced s)

end Sys2Proof.Machine
end

