-- ==== Sys2Proof/Machine/Hub.lean ====
section
/-! DEFINITION. Operations that several chapters share: open answers and contexts, fencing, links that leave UP, a hub die's reset, the
cask's block erase and freeze, and the duties of a processor that is out. -/

namespace Sys2Proof.Machine

/-! ## Open answers -/

/-- The class of an operation as MEM_LAST_REFUSE codes it, and as the guards' permissions do (R186): 0 read, 1 write, 2 atomic,
3 FENCE. -/
def opClass (op : OpenOp) : Nat := match op with
  | .read => 0
  | .readBulk => 0
  | .write => 1
  | .writeMasked => 1
  | .writeBulk => 1
  | .fence => 3
  | _ => 2

/-- A response as MEM_LAST_REFUSE.response codes it (R199). -/
def refuseCode (r : Resp) : Nat := match r with
  | .ok => 0
  | .denied => 0
  | .invalid => 1
  | .retry => 2
  | .busy => 3
  | .poison => 4

/-- R195: the count of a response other than OK. -/
def respCount (d : Nat) (r : Resp) : Option Cnt := match r with
  | .ok => none
  | .busy => some (R.MEM_BUSY_COUNT.c d)
  | .retry => some (R.MEM_RETRY_COUNT.c d)
  | .denied => some (R.MEM_DENIED_COUNT.c d)
  | .invalid => some (R.MEM_INVALID_COUNT.c d)
  | .poison => some (R.MEM_POISON_COUNT.c d)

/-- A count of one queue's telemetry record changed (R196). -/
def modQueueStat (s : State) (q : Nat) (f : QueueStat → QueueStat) : State :=
  { s with mem := { s.mem with qstat := tmod s.mem.qstat q f } }

/-- R195: what a response other than OK leaves in the MEM block, with at most one error record per source per second for DENIED and
INVALID. -/
def noteRefusal (s : State) (r : OpenReq) (a : Resp) : State :=
  let d := s.servingDie r
  match respCount d a with
  | none => s
  | some c =>
    let s := s.bump c
    let s := (((s.wr (R.MEM_LAST_REFUSE.valid d) 1).wr (R.MEM_LAST_REFUSE.response d) (refuseCode a)).wr
      (R.MEM_LAST_REFUSE.class d) (opClass r.op)).wr (R.MEM_LAST_REFUSE.queue d) r.hdr.queue
    let s : State := { s with wide := tput s.wide (R.MEM_LAST_ADDR_LO.addr d).key (r.hdr.addr % 2 ^ 64) }
    let s := ((s.wr (R.MEM_LAST_SOURCE.kind d) r.src.kind).wr (R.MEM_LAST_SOURCE.slot d) r.src.slot).wr
      (R.MEM_LAST_SOURCE.hub d) r.src.hub
    let s := if a = .denied then s.wr (R.MEM_STATUS.denied d) 1 else if a = .poison then s.wr (R.MEM_STATUS.poison d) 1 else s
    let key := sourceCode r.src
    let recent : Bool := match tfind s.mem.refuseAt key with
      | some t => decide (s.now < t + 1000000)
      | none => false
    if (a ≠ .denied ∧ a ≠ .invalid) ∨ recent = true then s
    else
      let s := { s with mem := { s.mem with refuseAt := tput s.mem.refuseAt key s.now } }
      let unit := if r.src.kind = 0 then 0x3000 + r.src.slot else 0x4000 + r.hdr.link
      s.err unit (0x3000 + packetType r.op) 0x0A 2
        (atByte 0 r.hdr.addr + atByte 8 a.code + atByte 9 (packetType r.op) + atByte 10 r.hdr.queue + atByte 12 key)

/-- One answer to an open request (R195): the counts, and the response on the link by which the request entered. A RETRY carries a
hint (R193, R394). -/
def answerOpenHint (s : State) (r : OpenReq) (a : Resp) (data : List Nat) (unknown : Bool) (hint : Nat) : State :=
  let q := r.hdr.queue
  let s := modQueueStat s q fun x =>
    { x with completed := (x.completed + 1) % 2 ^ 64,
             bytes := if a = .ok then (x.bytes + (if opClass r.op = 3 then 0 else r.hdr.size)) % 2 ^ 64 else x.bytes,
             retry := if a = .retry then min (2 ^ 32 - 1) (x.retry + 1) else x.retry,
             busy := if a = .busy then min (2 ^ 32 - 1) (x.busy + 1) else x.busy,
             denied := if a = .denied then min (2 ^ 32 - 1) (x.denied + 1) else x.denied }
  let s := if a = .ok ∧ opClass r.op ≠ 3 then s.addWide (R.MEM_OPEN_BYTES_LO.count (s.servingDie r)) r.hdr.size else s
  let s := noteRefusal s r a
  (s.modLink r.hdr.link fun k => { k with openSent := (k.openSent + data.length) % 2 ^ 64 }).send
    (.openAnswer r.hdr.link r.hdr.tag a data hint unknown)

/-- The answer with the serving die's own hint for a RETRY. -/
def answerOpen (s : State) (r : OpenReq) (a : Resp) (data : List Nat) (unknown : Bool) : State :=
  answerOpenHint s r a data unknown (if a = .retry then s.rd (R.MEM_OPEN_CFG.retry_hint (s.servingDie r)) else 0)

/-- The context numbered `id`. -/
def ctxOf (s : State) (id : Nat) : Option Context := s.mem.ctxs.find? fun c => c.id = id

/-- A context is freed (R191). -/
def freeCtx (s : State) (c : Context) : State :=
  let s := { s with mem := { s.mem with ctxs := s.mem.ctxs.filter fun x => x.id != c.id } }
  s.wr (R.MEM_CTX.used c.die) (s.mem.ctxs.filter fun x => x.die = c.die).length

/-- A context's request is answered and the context freed. -/
def finishOpenHint (s : State) (id : Nat) (a : Resp) (data : List Nat) (unknown : Bool) (hint : Nat) : State :=
  match ctxOf s id with
  | none => s
  | some c => answerOpenHint (freeCtx s c) c.req a data unknown hint

/-- A context's request is answered with the die's own hint. -/
def finishOpen (s : State) (id : Nat) (a : Resp) (data : List Nat) (unknown : Bool) : State :=
  match ctxOf s id with
  | none => s
  | some c => answerOpen (freeCtx s c) c.req a data unknown

/-- R194: a dispatched request is answered as one that times out: RETRY for a read or FENCE, else POISON with the outcome
unknown. -/
def timeoutCtx (s : State) (c : Context) : State :=
  if opClass c.req.op = 0 ∨ opClass c.req.op = 3 then finishOpen s c.id .retry [] false else finishOpen s c.id .poison [] true

/-- R216: every open request dispatched through a link is answered. -/
def timeoutLink (s : State) (l : Nat) : State :=
  (s.mem.ctxs.filter fun c => c.link = some l).foldl timeoutCtx s

/-- Whether a management offset lies in a defined block (R11, R12). -/
def inRegBlock (off : Nat) : Bool :=
  regBlocks.any fun b =>
    if b.2.1 then decide (off / 0x10000 = (0x1000000 + b.1) / 0x10000) || decide (off / 0x10000 = (0x2000000 + b.1) / 0x10000)
    else decide (off / 0x10000 = b.1 / 0x10000)

/-! ## Fencing and links -/

/-- An accelerator is fenced: its traffic is refused, a pending admission is withdrawn, and an admitted one is put forward for
expulsion in the next GAUGE row. An admission that a GAUGE row has already carried to the other hubs cannot be taken back by this hub alone
(R92): it is withdrawn by an expulsion in the next row, and the accelerator stays fenced (R218; DEDUCED, log 74). While Steward is out no new
expulsion is put forward (R373). -/
def fenceAcc (s : State) (slot : Nat) : State :=
  let s := { s with pat := { s.pat with
    accFenced := setBit s.pat.accFenced slot true, putAdmit := setBit s.pat.putAdmit slot false,
    putExpel := if s.accIncoming slot && s.procUp 0 then setBit s.pat.putExpel slot true else s.pat.putExpel,
    dueExpel := if s.accIncoming slot && ! s.procUp 0 then setBit s.pat.dueExpel slot true else s.pat.dueExpel } }
  s.wr (R.LNK_STATE.admitted (slot / 4) (slot % 4)) 0

/-- R216: what leaving UP does to traffic, for DOWN and for OFF alike. -/
def leaveUp (s : State) (l : Nat) : State :=
  let s := s.modLink l fun k =>
    { k with store := [], ctlPart := [], pktPart := [], control := [], queue := [], planned := false }
  let s := timeoutLink s l
  let s := { s with pat := { s.pat with flights := s.pat.flights.map fun f => { f with lost := setBit f.lost l true } } }
  if l < 8 then fenceAcc s l else s

/-- R215, R216: a link goes DOWN, or LATCHED at its fourth entry within 600 s. -/
def linkDown (s : State) (l cause lane : Nat) : State :=
  let d := linkDie l
  let i := linkIdx l
  let attempts := s.rd (R.LNK_STATE.attempts d i)
  let s := if s.linkState l = 3 then leaveUp s l else s
  let downs := s.now :: (tget s.lnk.links l).downs.filter fun t => s.now < t + 600000000
  let latch := decide (4 ≤ downs.length)
  let s := s.modLink l fun k => { k with downs := downs, downAt := s.now, latchHeld := false, trainStep := 0 }
  let s := s.bump (R.LNK_DOWN.c d i)
  let s := (s.wr (R.LNK_STATE.cause d i) cause).wr (R.LNK_STATE.lane d i) (if cause = 1 then lane else 0)
  let s := s.setLinkState l (if latch then 5 else 4)
  s.err (0x4000 + l) 0 0x07 2 (atByte 0 cause + atByte 1 (if cause = 1 then lane else 0) + atByte 2 attempts + atByte 3 (b2n latch))

/-- Whether a rail of a slot carries a flag (R230, R237). -/
def slotFlagged (s : State) (slot : Nat) : Bool :=
  s.img.rails.any fun r => r.owner == slot &&
    (setUnion s.seq.notGood (setUnion s.seq.chatter s.seq.notFallen)).testBit r.channel

/-- Whether ACC_PERST_N of a slot is asserted. -/
def perstAsserted (s : State) (slot : Nat) : Bool := (s.rd R.SEQ_HOLD.slot_reset).testBit slot

/-- The domain of a link in its die (R29). -/
def linkDomain (l : Nat) : Nat := if l < 8 then 17 + l % 4 else 21

/-- R33, R215: whether a condition of OFF holds; a die whose crossbar's domain is off is down, and its links with it. -/
def linkOffCond (s : State) (l : Nat) : Bool :=
  ! s.domainOn (linkDie l) 16 || ! s.domainOn (linkDie l) (linkDomain l) || ! s.on (R.LNK_CFG.enabled (linkDie l) (linkIdx l)) ||
  (decide (l < 8) && (slotFlagged s l || perstAsserted s l))

/-- R215: a link whose OFF condition holds goes OFF; one whose conditions have cleared goes to WAIT, or back to LATCHED. -/
def refreshLink (s : State) (l : Nat) : State :=
  if ¬ s.dieUp (linkDie l) then s
  else
    let st := s.linkState l
    if linkOffCond s l then
      if st = 0 then s
      else
        let s := if st = 3 then leaveUp s l else if l < 8 then fenceAcc s l else s
        let s := s.modLink l fun k => { k with latchHeld := st == 5, trainStep := 0 }
        s.setLinkState l 0
    else if st = 0 then
      (if (tget s.lnk.links l).latchHeld then s.setLinkState l 5 else s.setLinkState l 1)
    else s

/-- Every link's OFF condition looked at. -/
def refreshLinks (s : State) : State := (List.range 16).foldl refreshLink s

/-- R219: whether an identity memory passes its checks. -/
def identityValid (m : IdentityMem) : Bool :=
  m.magic == 0x7EA51D01 && m.version == 1 && m.checkOk && m.windowSize % 65536 == 0 && decide (m.windowSize ≤ 2 ^ 42) && m.lanes == 16

/-! ## Hub die reset -/

/-- Whether a field key belongs to die `d`'s blocks. -/
def dieKey (d k : Nat) : Bool := decide (k / 32 / 0x1000000 = d + 1)

/-- R31: when the last start of a die's domains that has been made was made. -/
def Die.lastMade (x : Die) (now : Nat) : Option Nat :=
  x.starting.foldl (init := x.lastStart) fun m p => if now < p.2 then m else some (max p.2 (m.getD 0))

/-- R15, R59, R61: what a reset of H0 leaves of group time: its registers take their Reset values at the release, and no exchange is in
flight. The rate and freq last learnt stay, at which H1's copy runs on. -/
def resetTime (g : GroupTime) : GroupTime :=
  { g with offset := 0, delay := 0, holdMs := 0, inFlight := [], lockRun := 0, lockedRun := 0, holdRun := 0, missed := 0, secondary := false,
           primaryRun := 0 }

/-- R46, R49: the trackers where a die enters reset: the other die's own tracker becomes the hub's. -/
def resetTracker (s : State) (d : Nat) : State := match tfind s.own (1 - d) with
  | some o => if s.dieUp (1 - d) then { s with cad := s.cad.tracked o, own := [] } else { s with own := [] }
  | none => { s with own := [] }

/-- R15, R42, R195, R216: a die's open traffic where it enters reset. Its own requests are lost, and so is what passed through its links; what
the other die has dispatched through them is answered. -/
def resetTraffic (s : State) (d : Nat) : State :=
  let through (l : Option Nat) : Bool := l.any fun l => linkDie l == d
  let s := { s with mem := { s.mem with
    ctxs := s.mem.ctxs.filter fun (c : Context) => c.die != d,
    waiting := s.mem.waiting.filter fun w => w.1 / 128 != d, used := s.mem.used.filter fun w => w.1 / 128 != d,
    deficit := s.mem.deficit.filter fun w => w.1 / 128 != d, turn := tdel s.mem.turn d,
    transit := s.mem.transit.filter fun (c : Context) => ! through c.link && linkDie c.req.hdr.link != d,
    crossing := s.mem.crossing.filter fun (c : Crossing) => linkDie c.link != d } }
  let s := (s.mem.ctxs.filter fun (c : Context) => through c.link).foldl timeoutCtx s
  (List.range 128).foldl (init := s) fun s i =>
    (s.wr (R.MEM_QUEUE.waiting (1 - d) (d * 128 + i)) 0).wr (R.MEM_QUEUE.allowance_used (1 - d) (d * 128 + i)) 0

/-! ## Duties of a processor that is out -/

/-- The link-and-queue processor's busy bit in its die's MEM_STATUS. -/
def lqBusy (p : Nat) : Fld := if p % 2 = 0 then R.MEM_STATUS.lqp0_busy ((p - 4) / 2) else R.MEM_STATUS.lqp1_busy ((p - 4) / 2)

/-- No transfer is open (R470). -/
def clearXfer (s : State) : State :=
  let s := { s with upd := { s.upd with xfer := none } }
  ((s.wr R.UPD_XFER.kind 0).wr R.UPD_XFER.type 0).wr R.UPD_XFER_DONE.count 0

/-- R456, R459: the open transfer is abandoned. Its region stays INCOMPLETE, and a trickle's identifier is not taken up again. -/
def abandonXfer (s : State) : State := match s.upd.xfer with
  | none => s
  | some x =>
    let s : State := match s.flash.trickle with
      | some t => if x.trickle then { s with flash := { s.flash with trickle := none, trickleAbandoned := t.id } } else s
      | none => s
    (clearXfer (s.wr R.UPD_STATUS.abandoned 1)).event 0x0101 0 (atByte 0 x.typ)

/-- R456: a restart of Steward abandons a block transfer. -/
def abandonBlock (s : State) : State := match s.upd.xfer with
  | some x => if x.trickle then s else abandonXfer s
  | none => s

/-- R372, R373: processor `p` goes out. -/
def dutiesPass (s : State) (p : Nat) : State :=
  if p = 0 then abandonBlock s
  else if p = 2 then (s.wr R.COOL_STATUS.mode 2).wr R.COOL_STATUS.table_reason 0
  else if p = 3 then { s with fw := { s.fw with haltSeq := some (s.fw.haltSeq.getD s.itg.sequence) } }
  else if 4 ≤ p then s.wr (lqBusy p) 1 else s

/-- R373: processor `p` is halted and degraded. -/
def dutiesHalt (s : State) (p : Nat) : State :=
  if p = 1 then s.wr R.PWR_STATUS.degraded 1
  else if p = 2 then s.wr R.PWR_DOMAIN_W.w0_on 0
  else s

/-- R373: processor `p` resumes. Steward puts forward the expulsions that waited for it, and the Recorder writes to the cask the records of its
absence that the ring still holds, oldest first. -/
def dutiesReturn (s : State) (p : Nat) : State :=
  if p = 0 then
    let due := ofMembers ((members s.pat.dueExpel 8).filter s.accIncoming)
    { s with upd := { s.upd with pollAt := 0 }, pat := { s.pat with putExpel := setUnion s.pat.putExpel due, dueExpel := 0 } }
  else if p = 3 then
    match s.fw.haltSeq with
    | none => s
    | some q =>
      let n := min 256 ((s.itg.sequence + 2 ^ 32 - q) % 2 ^ 32)
      let s := { s with fw := { s.fw with haltSeq := none } }
      (List.range n).foldl (init := s) fun s i =>
        match tfind s.itg.ring ((s.itg.next + 256 - n + i) % 256) with
        | some r => s.submit (.error r)
        | none => s
  else if 4 ≤ p then s.wr (lqBusy p) 0 else s

/-- R374: a halted processor is revived. -/
def dutiesUnhalt (s : State) (p : Nat) : State :=
  if p = 1 then s.wr R.PWR_STATUS.degraded 0
  else if p = 2 then s.wr R.PWR_DOMAIN_W.w0_on (s.rd R.CFG_STATUS.surrogate)
  else s

/-- Whether processor `p` is one of a hub die that is absent (R370). -/
def procAbsent (s : State) (p : Nat) : Bool := decide (4 ≤ p) && ¬ s.dieUp ((p - 4) / 2)

/-- The crash times of the last 600 s (R374). -/
def recentCrashes (s : State) (p : Nat) : List Nat := (tget s.fw.procs p).crashes.filter fun t => s.now < t + 600000000

/-- R372 at time 0: the processor is held in reset, a crash entry goes to its log ring, its grants end and its duties pass on
under R373. -/
def beginRestart (s : State) (p cause pc start : Nat) : State :=
  let s := s.modProc p fun q => { q with restartAt := start, released := false, armed := false }
  let s := (s.wr (R.FW_PROC.last_cause p) cause).wr (R.FW_PROC.state p) 2
  let s := s.wr R.FW_STATUS.restarting (setBit (s.rd R.FW_STATUS.restarting) p true)
  let s := s.wr R.FW_STATUS.halted (setBit (s.rd R.FW_STATUS.halted) p false)
  let s := s.logEntry p 0xFFFF 3 [cause, pc % 2 ^ 32, (recentCrashes s p).length, 0]
  let s := arbCrash s p
  dutiesPass s p

/-- R461: an activation of HUBCTL restarts the running link-and-queue processors one at a time, in index order. -/
def nextActivation (s : State) : State := match s.upd.act with
  | none => s
  | some (flags, next) =>
    match (List.range 8).find? fun p => decide (next ≤ p) && s.rd (R.FW_PROC.state p) == 1 && ! procAbsent s p with
    | some p => beginRestart { s with upd := { s.upd with act := some (flags, p + 1) } } p 6 0 s.now
    | none => { s with upd := { s.upd with act := if flags = 0 then none else some (flags, 8) } }

/-! ## A die's reset -/

/-- R370, R374, R376, R385: link-and-queue processor `p` of a die that has entered reset. Its log ring is lost and its bus operations are
withdrawn; one that is halted stays halted, and its crashes still count. An activation goes on with the next processor (R461). -/
def procLost (s : State) (p : Nat) : State :=
  let s := arbCrash s p
  let s := s.wr (R.FW_PROC.state p) (if s.rd (R.FW_PROC.state p) = 3 then 3 else 0)
  let s := s.wr R.FW_STATUS.restarting (setBit (s.rd R.FW_STATUS.restarting) p false)
  let s := s.modProc p fun q => { crashes := q.crashes, debugHalt := q.debugHalt }
  if s.upd.act.any fun a => a.2 == p + 1 then nextActivation s else s

/-- A hub die enters reset (R15, R39, R42, R332, R511): its registers take their Reset values, its links and sequencer stop, its rows
in flight are abandoned with no mark, and its open requests are lost. Rows of the other die lose the members behind its links. -/
def resetDie (s : State) (d : Nat) : State :=
  let s := abortSwatches s (dieUnits d)
  -- R215: a link that resets in LATCHED goes OFF from it
  let latched (l : Nat) : Bool := s.linkState l == 5
  let s := { s with regs := s.regs.filter fun p => ! dieKey d p.1, wide := s.wide.filter fun p => ! dieKey d p.1 }
  let links := if d = 0 then [0, 1, 2, 3, 8, 9, 10, 11] else [4, 5, 6, 7, 12, 13, 14, 15]
  let gone (f : Flight) : Flight := { f with lost := links.foldl (fun w l => setBit w l true) f.lost }
  let s := { s with pat := { s.pat with
    flights := (s.pat.flights.filter fun (f : Flight) => f.die != d).map gone,
    staging := s.pat.staging.filter fun (g : Staged) => g.tag.die != d,
    blocked := s.pat.blocked.filter fun (b : Nat × Staged) => b.2.tag.die != d && linkDie (8 + b.1) != d,
    seqs := tdel s.pat.seqs d } }
  let s := resetTraffic s d
  let kept (k : Nat × Link) : Nat × Link :=
    if linkDie k.1 = d then (k.1, { downs := k.2.downs, latchHeld := k.2.latchHeld || latched k.1 }) else k
  let s := { s with lnk := { s.lnk with links := s.lnk.links.map kept } }
  let s := (links.filter (· < 8)).foldl fenceAcc s
  -- R32: a switch-off that waits for a boundary acts at once; starts run on (R31)
  let s := (s.wr (R.PWR_DOMAIN_H.on d) (setMinus (s.rd (R.PWR_DOMAIN_H.on d)) (tget s.sup.dies d).offPending)).wr (R.PWR_DOMAIN_H.pending d) 0
  let s := s.modDie d fun x => { holds := x.holds, resetAt := s.now, starting := x.starting, lastStart := x.lastStart }
  let s := [4 + 2 * d, 5 + 2 * d].foldl procLost s
  let s := { resetTracker s d with gt := if d = 0 then resetTime s.gt else s.gt }
  if s.anyDieUp then s
  else { s with
    cad := { step := s.cad.step },
    gt := { resetTime s.gt with state := 0, contTime := s.gt.time / 40 * 40, contRate := s.gt.freq, contAt := s.now },
    pat := { s.pat with active := none, flights := [], seqs := [], forced := none, takeUpAt := none, admitted := 0, joined := 0,
                        announce := none, staging := [], listedAdmit := 0, listedExpel := 0, putAdmit := 0, putExpel := 0, dueExpel := 0 } }

/-! ## The cask's blocks and freeze -/

/-- How many blocks sequence `q` lies after the block of REC_OLDEST; positions are compared modulo 2^32 (R412). -/
def blocksAhead (s : State) (q : Nat) : Nat := (q + 2 ^ 32 - s.rd R.REC_OLDEST.position / 2048) % 2 ^ 21

/-- Whether the erase of block sequence `q` would take slots from REC_OLDEST up to the freeze point (R425). -/
def eraseWithheld (s : State) (q : Nat) : Bool :=
  let n := blocksAhead s q
  let point := (s.rd R.REC_FREEZE_POINT.position + 2 ^ 32 - s.rd R.REC_OLDEST.position / 2048 * 2048) % 2 ^ 32
  s.on R.REC_STATUS.frozen && decide (256 ≤ n) && decide ((n - 256) * 2048 < point)

/-- R411: the erase of the block ahead is ordered, unless a freeze withholds it. The history then starts at the next block. -/
def startErase (s : State) (q : Nat) : State :=
  if eraseWithheld s q then { s with rcd := { s.rcd with erasing := none, heldErase := some q } }.wr R.REC_STATUS.withheld 1
  else
    let s := { s with rcd := { s.rcd with erasing := some q, heldErase := none } }
    if 256 ≤ blocksAhead s q then s.wr R.REC_OLDEST.position ((q + 2 ^ 32 - 255) * 2048 % 2 ^ 32) else s

/-- R425: a freeze ends, and an erase it withheld is ordered. -/
def releaseFreeze (s : State) : State :=
  let s := (s.wr R.REC_STATUS.frozen 0).wr R.REC_STATUS.withheld 0
  match s.rcd.heldErase with
  | some q => startErase s q
  | none => s

/-- The freeze made by a session ends with it (R425). -/
def endFreezeOf (s : State) (session : Nat) : State :=
  if s.on R.REC_STATUS.frozen ∧ s.rcd.freezeSession = session then releaseFreeze s else s

/-- R421: every open run closes. -/
def closeRuns (s : State) : State := s.rcd.runs.foldl closeRun s

end Sys2Proof.Machine
end

