-- ==== Sys2Proof/Machine/Images.lean ====
section
/-! DEFINITION. Life-cycle state and keys as OTP gives them, the verification of images, milestones, and the pushes that a verified tray
staging image starts (R445, R450, R451, R464, R465, R475, R478). -/

namespace Sys2Proof
open Sys2Proof.Machine

/-! ## Image headers -/

/-- The security version of an image's header (R450). -/
def ImageCheck.svn (c : ImageCheck) : Nat := fieldAt c.header 8 4
/-- The image version of a header (R450). -/
def ImageCheck.version (c : ImageCheck) : Nat := fieldAt c.header 12 4
/-- The body's length (R450). -/
def ImageCheck.bodyLength (c : ImageCheck) : Nat := fieldAt c.header 16 8
/-- The signer: 0 maker, 1 owner (R450). -/
def ImageCheck.signer (c : ImageCheck) : Nat := fieldAt c.header 24 1
/-- The key index within the signer's set (R450). -/
def ImageCheck.key (c : ImageCheck) : Nat := fieldAt c.header 25 1

/-- R464: a directory entry of a TRAYSTAGE image. -/
def StageComp.ofBytes (b : List Nat) : StageComp :=
  { kind := fieldAt b 0 1, mask := fieldAt b 1 1, model := fieldAt b 4 16, offset := fieldAt b 20 4, length := fieldAt b 24 4,
    crc := fieldAt b 28 4 }

/-- R464: the components of a TRAYSTAGE image; none where its directory is malformed (log 78). -/
def StageFile.comps (f : StageFile) : List StageComp :=
  let n := fieldAt f.dir 0 4
  if 1 ≤ n ∧ n ≤ 64 ∧ zeroAt f.dir 4 28 = true ∧ f.dir.length = 32 + 32 * n then (piecesOf 32 n (f.dir.drop 32)).map StageComp.ofBytes else []

end Sys2Proof

namespace Sys2Proof.Machine

/-! ## Life-cycle state and keys -/

/-- R478: the highest marker of which at least two copies are set, 0 for none. -/
def highestMarker (o : Otp) : Nat :=
  ((List.range 9).reverse.find? fun m => m != 0 && decide (2 ≤ popcount (tget o.markers m) 3)).getD 0

/-- R478: the state of a marker, coded as R488 codes it: 0 BLANK, 1 MAKER, 2 PROVISIONED, 3 FIELD, 4 RETURNED, 5 RETIRED. -/
def markerState (m : Nat) : Nat := match m with
  | 0 => 0
  | 1 => 1
  | 2 => 2
  | 3 => 3
  | 4 => 4
  | 5 => 2
  | 6 => 3
  | 7 => 4
  | _ => 5

/-- The life-cycle state. -/
def State.lifeState (s : State) : Nat := markerState (highestMarker s.otp)

/-- R475: the owner bank in use. -/
def State.ownerBank (s : State) : Option Nat :=
  let m := highestMarker s.otp
  if 2 ≤ m ∧ m ≤ 4 then some 0 else if 5 ≤ m ∧ m ≤ 7 then some 1 else none

/-- The OTP digests of an owner bank. -/
def Otp.bankKeys (o : Otp) (b : Nat) : List Nat := if b = 0 then o.owner0 else o.owner1

/-- The revoke bits of an owner bank. -/
def Otp.bankRevoked (o : Otp) (b : Nat) : Nat := if b = 0 then o.owner0Revoked else o.owner1Revoked

/-- R475: whether maker key `k` counts. -/
def makerCounts (s : State) (k : Nat) : Bool :=
  decide (k < 4) && (s.otp.makerKeys.getD k 0) != 0 && ! s.otp.makerRevoked.testBit k

/-- R475: whether owner key `k` of the bank in use counts: the key kept in the state area has the digest in OTP, and is not revoked. -/
def ownerCounts (s : State) (k : Nat) : Bool := match s.ownerBank with
  | none => false
  | some b => decide (k < 4) && (s.otp.bankKeys b).getD k 0 != 0 && tget s.flash.ownerKeys (4 * b + k) == (s.otp.bankKeys b).getD k 0 &&
      ! (s.otp.bankRevoked b).testBit k

/-- Whether a key of a signer (0 maker, 1 owner) counts. -/
def keyCounts (s : State) (signer k : Nat) : Bool := if signer = 0 then makerCounts s k else ownerCounts s k

/-- R475: the signers that a state accepts for an image type. -/
def signerAccepted (st typ signer : Nat) : Bool :=
  if st = 1 ∨ st = 4 then signer == 0
  else if st = 2 ∨ st = 3 then
    (if typ = 1 ∨ typ = 2 ∨ typ = 3 then signer == 0 else if typ = 5 then decide (signer < 2) else signer == 1)
  else false

/-! ## Verification -/

/-- R448: the largest total length of an image of a type. -/
def largestLength (typ : Nat) : Nat := match typ with
  | 1 => 2 ^ 20
  | 2 => 8 * 2 ^ 20
  | 3 => 8 * 2 ^ 20
  | 4 => 64 * 2 ^ 20
  | 5 => 32 * 2 ^ 30
  | 6 => 96 * 2 ^ 20
  | _ => 0

/-- R450, R451: a reason 0x1 to 0x3 that an image's reading, its header or its body's digest gives. -/
def imageBad (typ : Nat) (c : ImageCheck) : Option Nat :=
  let f := fieldAt c.header
  if ! c.readable then some 1
  else if c.header.length ≠ 128 ∨ f 0 4 ≠ 0x494D4701 ∨ f 4 1 ≠ 1 ∨ f 5 1 ≠ typ ∨ f 6 2 ≠ 0 ∨ f 26 6 ≠ 0 ∨ f 96 32 ≠ 0 ∨ c.padZero = false ∨
      c.bodyLength = 0 ∨ largestLength typ < 4096 + c.bodyLength then some 2
  else if f 32 64 ≠ c.bodyDigest then some 3
  else none

/-- R450, R451: the reason for which an image of type `typ` does not verify. -/
def imageVerdict (s : State) (typ : Nat) (c : ImageCheck) : Option Nat :=
  if s.flash.incomplete.testBit typ then some 6
  else match imageBad typ c with
    | some r => some r
    | none =>
      if ! c.sigOk || ! signerAccepted s.lifeState typ c.signer || ! keyCounts s c.signer c.key then some 4
      else if 128 < c.svn ∨ c.svn < tget s.otp.svn typ then some 5 else none

/-- UPD_REGIONS.state for one type (R470). -/
def setRegion (s : State) (typ v : Nat) : State :=
  let w := s.rd R.UPD_REGIONS.state
  let i := 2 * typ - 2
  s.wr R.UPD_REGIONS.state (setBit (setBit w i (v.testBit 0)) (i + 1) (v.testBit 1))

/-- R451: a failed verification: counted, recorded and noted in the cask. -/
def verifyFailed (s : State) (typ reason op : Nat) : State :=
  let s := (s.bump R.UPD_VERIFY_FAIL_COUNT.c).wr R.UPD_STATUS.verify_fail 1
  let s := setRegion s typ (if reason = 6 then 2 else 3)
  let s := s.err 0x0014 op 0x11 3 (atByte 0 reason + atByte 1 typ)
  s.event 0x0102 0 (atByte 0 typ + atByte 1 reason)

/-- A verified image: its region counts as verified (R470). -/
def verifiedImage (s : State) (typ : Nat) (c : ImageCheck) : State :=
  let s := { s with flash := { s.flash with written := setBit s.flash.written typ false } }
  (setRegion s typ 0).wr (R.UPD_SVN.running (typ - 1)) c.svn

/-- R477: a measurement slot is written. -/
def measure (s : State) (slot v : Nat) : State := { s with sec := { s.sec with meas := tput s.sec.meas slot v } }

/-- R466: the 600 s of a type start again. -/
def startSvn (s : State) (typ : Nat) : State := { s with upd := { s.upd with svnAt := tput s.upd.svnAt typ s.now } }

/-! ## Start-up milestones -/

/-- R445: milestone `k` is reached, in ms from the warden power-on reset; it stays until the next device start. -/
def milestone (s : State) (k : Nat) : State :=
  if s.rd (R.CFG_MILESTONE.ms k) = 0xFFFFFFFF then s.wr (R.CFG_MILESTONE.ms k) ((s.now - s.sup.onAt) / 1000) else s

/-! ## Tray staging -/

/-- The chunks of 256 bytes of a component. -/
def pushChunks (c : StageComp) : Nat := (c.length + 255) / 256

/-- R464: the pushes of one component: the present slots of its mask whose identity memory gives its model, except where accepted. -/
def compPushes (s : State) (i : Nat) (c : StageComp) : List Push :=
  ((List.range 8).filter fun k =>
    c.kind == 1 && c.mask.testBit k && s.accPresent k && s.lnk.identityRead.testBit k && (tget s.lnk.identity k).model == c.model &&
    ! s.upd.accepted.contains (k, i)).map fun k => { slot := k, comp := i, chunks := pushChunks c, at_ := s.now }

/-- R465: at a tray cast-on a written tray staging image is verified, and one that verifies and has not been pushed is pushed to the
slots whose rails `good` gives. -/
def beginPushes (s : State) (good : Nat → Bool) : State := match s.flash.stage with
  | none => s
  | some f =>
    if s.flash.incomplete.testBit 6 ∨ f.check.digest = s.flash.pushed then s
    else match imageVerdict s 6 f.check with
      | some r => verifyFailed s 6 r 0x4001
      | none =>
        let s := verifiedImage s 6 f.check
        let l := (f.comps.zipIdx.flatMap fun p => compPushes s p.2 p.1).filter fun (p : Push) => good p.slot
        let first := (List.range 8).filterMap fun k => l.find? fun p => p.slot = k
        let s := { s with upd := { s.upd with pushes := l, refusedSlots := 0, pushCut := false } }
        first.foldl (fun s p => s.emit (.push p.slot 0)) s

/-- The slots whose reset is held for a push (R465). -/
def pushSlots (s : State) : Nat := ofMembers (s.upd.pushes.map Push.slot)

/-- R465: a rail cut or a bind-off ends the pushes of its slots. -/
def cutPushes (s : State) (slots : Nat) : State :=
  let cut := s.upd.pushes.any fun p => slots.testBit p.slot
  let s := { s with upd := { s.upd with pushes := s.upd.pushes.filter fun p => ! slots.testBit p.slot, pushCut := s.upd.pushCut || cut } }
  if cut then s.wr R.UPD_STATUS.pushed 1 else s

end Sys2Proof.Machine
end

