-- ==== Sys2Proof/Machine/Rails.lean ====
section
/-! DEFINITION. Tray power sequencing: cast-on, bind-off, slot sequences, rail cuts and the sequencer's trace (R225 to R246). -/

namespace Sys2Proof.Machine

/-! ## The rail table -/

/-- The table's entry of a channel (R226); a channel that only the table before an adoption lists keeps that entry (R243). -/
def State.railOf (s : State) (ch : Nat) : Option RailCfg := (s.img.rails ++ s.seq.oldRails).find? fun r => r.channel = ch

/-- The channels the table lists, as a bit set. -/
def listedSet (rails : List RailCfg) : Nat := ofMembers (rails.map RailCfg.channel)

/-- The channels of a set of slots, as a bit set. -/
def slotChannels (s : State) (slots : Nat) : Nat :=
  ofMembers ((s.img.rails.filter fun r => decide (r.owner < 8) && slots.testBit r.owner).map RailCfg.channel)

/-- R226: the groups of a list of entries: an entry with with_prev joins the entry before it. -/
def castGroups (rails : List RailCfg) : List (List Nat) :=
  (rails.foldl (init := ([] : List (List Nat))) fun acc r => match acc with
    | [] => [[r.channel]]
    | g :: rest => if r.withPrev then (g ++ [r.channel]) :: rest else [r.channel] :: g :: rest).reverse

/-- Entries by ascending bind_rank, in table order within a rank. -/
def insertRank (r : RailCfg) (l : List (List RailCfg)) : List (List RailCfg) := match l with
  | [] => [[r]]
  | g :: rest => match g with
    | [] => [r] :: rest
    | q :: _ => if r.bindRank = q.bindRank then (g ++ [r]) :: rest
      else if r.bindRank < q.bindRank then [r] :: g :: rest else g :: insertRank r rest

/-- R236: the bind-off groups: the cast-on groups reversed, or one group for each bind_rank ascending. -/
def bindGroups (s : State) : List (List Nat) :=
  if s.on R.SEQ_CFG.bind_order then
    (s.img.rails.foldl (fun acc r => insertRank r acc) []).map fun g => g.map RailCfg.channel
  else (castGroups s.img.rails).reverse

/-- R243: the enabled channels that the table in force does not list, in reverse channel order, each by itself. -/
def goneGroups (s : State) : List (List Nat) :=
  ((List.range 64).reverse.filter fun c => s.seq.en.testBit c && ! (listedSet s.img.rails).testBit c).map fun c => [c]

/-- Groups restricted to a set of channels; empty groups drop out. -/
def groupsWithin (set : Nat) (gs : List (List Nat)) : List (List Nat) :=
  (gs.map fun g => g.filter fun c => set.testBit c).filter fun g => g ≠ []

/-- Whether the settings store records the partition of a slot as turned off (R229, R407). -/
def slotTurnedOff (s : State) (slot : Nat) : Bool :=
  bits (s.rd R.MGT_PART_OFF.off_by) (2 * s.partOf slot + 1) (2 * s.partOf slot) != 0

/-- R229: an entry is skipped: its slot is absent or turned off. -/
def railSkipped (s : State) (r : RailCfg) : Bool :=
  decide (r.owner < 8) && (! s.accPresent r.owner || slotTurnedOff s r.owner)

/-- The dies a rail supplies (R40). -/
def railDies (r : RailCfg) : List Nat :=
  if r.owner = 8 then [0] else if r.owner = 9 then [1]
  else if r.owner = 10 then (if r.role = 0 then [0] else if r.role = 1 then [1] else [0, 1]) else []

/-- Whether any rail of a slot is enabled. -/
def slotOn (s : State) (slot : Nat) : Bool := (s.img.rails.any fun r => r.owner == slot && s.seq.en.testBit r.channel)

/-- Whether all five rails of a slot are good (R233): the rail of each of its five roles (R226). -/
def slotGood (s : State) (slot : Nat) : Bool :=
  let l := s.img.rails.filter fun r => r.owner == slot
  ((List.range 5).all fun k => l.any fun r => r.role == k) &&
    l.all fun r => s.seq.en.testBit r.channel && s.seq.good.testBit r.channel

/-! ## Channels, the trace and records -/

/-- Changes what the sequencer holds of a channel. -/
def State.modRail (s : State) (ch : Nat) (f : Rail → Rail) : State := { s with seq := { s.seq with rails := tmod s.seq.rails ch f } }

/-- R245: a trace entry in the ring of 4,096. -/
def traceSeq (s : State) (ch event : Nat) : State :=
  let r := tget s.seq.rails ch
  let e := [(s.now - s.seq.startAt) % 2 ^ 32,
    ch + event * 256 + r.chatter % 32 * 4096 + s.rd R.SEQ_RUN_COUNT.count % 256 * 2 ^ 24, tget s.seq.vout ch, s.rd R.REC_SECONDS.seconds]
  let k := s.seq.traceNext
  let s := { s with seq := { s.seq with trace := tput s.seq.trace k e, traceNext := (k + 1) % 4096,
                                        traceWrapped := s.seq.traceWrapped || k == 4095 } }
  (s.wr R.SEQ_TRACE_HEAD.next s.seq.traceNext).wr R.SEQ_TRACE_HEAD.wrapped (b2n s.seq.traceWrapped)

/-- The operation an error record of the sequencer names (R338). -/
def seqOp (s : State) : Nat := match s.seq.run with
  | none => 0
  | some r => match r.kind with
    | .trayOn => 0x4001
    | .adopt => 0x4001
    | .trayOff => 0x4002
    | .slotsOn => 0x4003
    | .slotsOff => 0x4003

/-- R232, R234, R237: the error record of a flagged rail or a rail fault (R509): `what` is 1 NOT_GOOD, 2 CHATTER, 3 NOT_FALLEN, 4 a
fault. -/
def railRecord (s : State) (r : RailCfg) (what : Nat) : State :=
  let b1 := if what = 4 then r.faultAction else (tget s.seq.rails r.channel).chatter
  s.err (0x8000 + r.channel) (seqOp s) 0x0E (if what = 4 then 3 else 2)
    (atByte 0 what + atByte 1 b1 + atByte 2 (tget s.seq.vout r.channel % 65536) + atByte 4 r.owner)

/-- R246, R415: the cask record of a sequence, a rail cut or a rail fault over a set of channels. -/
def seqSummary (s : State) (kind set slots : Nat) (hubs : Bool) (channel : Nat) : State :=
  s.summary { kind := kind, notGood := s.seq.notGood &&& set, chatter := s.seq.chatter &&& set,
              notFallen := s.seq.notFallen &&& set, slots := slots, inputOff := s.on R.SEQ_HOLD.input_off, hubScope := hubs,
              channel := channel }

/-- A die is held in reset by the warden for one more cause (R40); one that runs is reset (R511). -/
def holdDie (s : State) (d cause : Nat) : State :=
  let s := s.modDie d fun x => { x with holds := setBit x.holds cause true }
  if s.dieUp d then resetDie s d else s

/-- R40, R232, R234: the holds that flagged rails and rail faults make, and what SEQ_HOLD and SEQ_STATUS show of them. -/
def refreshHolds (s : State) : State :=
  let flags := setUnion s.seq.notGood s.seq.chatter
  let byFlag (d : Nat) : Bool := s.img.rails.any fun r => (railDies r).contains d && flags.testBit r.channel
  let byFault (d : Nat) : Bool := s.img.rails.any fun r => (railDies r).contains d && s.seq.faultHold.testBit r.channel
  let one (s : State) (d : Nat) : State :=
    let s := if byFlag d then holdDie s d 0 else s.modDie d fun x => { x with holds := setBit x.holds 0 false }
    if byFault d then holdDie s d 1 else s.modDie d fun x => { x with holds := setBit x.holds 1 false }
  let s := one (one s 0) 1
  let s := (s.wr R.SEQ_HOLD.h0_held (b2n (byFlag 0))).wr R.SEQ_HOLD.h1_held (b2n (byFlag 1))
  let s := s.wr R.SEQ_HOLD.slot_flagged (ofMembers ((List.range 8).filter (slotFlagged s)))
  refreshLinks (s.wr R.SEQ_STATUS.flagged (b2n (setUnion flags s.seq.notFallen != 0)))

/-- ACC_PERST_N of a set of slots is asserted, and their accelerators are fenced. A swatch that runs on one is aborted (R361). -/
def assertPerst (s : State) (slots : Nat) : State :=
  let s := cutPushes (abortSwatches s ((members slots 8).map (128 + ·))) slots
  let s := s.wr R.SEQ_HOLD.slot_reset (setUnion (s.rd R.SEQ_HOLD.slot_reset) (slots % 256))
  let s := { s with seq := { s.seq with perst := s.seq.perst.map fun p => (p.1, setMinus p.2 slots) } }
  refreshLinks ((members slots 8).foldl fenceAcc s)

/-- A channel's enable rises or falls. -/
def setEnable (s : State) (ch : Nat) (on : Bool) : State :=
  if s.seq.en.testBit ch = on then s
  else traceSeq { s with seq := { s.seq with en := setBit s.seq.en ch on } } ch (if on then 1 else 2)

/-- R235: a tray bind-off holds both dies in reset, and their domains go off with their rails. -/
def resetHubs (s : State) : State :=
  let s := if s.dieUp 0 then resetDie s 0 else s
  if s.dieUp 1 then resetDie s 1 else s

/-! ## Orders and sequences -/

/-- Whether the running sequence is binding a channel off, so that its rail is no longer watched (R234). -/
def bindingOff (s : State) (r : RailCfg) : Bool := match s.seq.run with
  | none => false
  | some q => match q.kind with
    | .trayOff => true
    | .slotsOff => decide (r.owner < 8) && q.slots.testBit r.owner
    | .adopt => q.off && ! (listedSet s.img.rails).testBit r.channel
    | _ => false

/-- A sequence starts: its count, its trace entry and what SEQ_STATUS shows of it. -/
def openRun (s : State) (q : SeqRun) : State :=
  let slotRun := q.kind == .slotsOn || q.kind == .slotsOff
  let s := { s with seq := { s.seq with run := some { q with start := s.now }, startAt := s.now } }
  let s := traceSeq (s.bump R.SEQ_RUN_COUNT.c) 0 0
  (s.wr R.SEQ_STATUS.slot_seq (b2n slotRun)).wr R.SEQ_STATUS.scope (if slotRun then q.slots else 0)

/-- The tray state (R228) changes. -/
def setSeqState (s : State) (v : Nat) : State := { s with seq := { s.seq with state := v } }.wr R.SEQ_STATUS.state v

/-- The longest delay of a group's entries (R229). -/
def groupDelay (s : State) (g : List Nat) : Nat := maxOr0 (g.map fun c => match s.railOf c with
  | some r => r.delay
  | none => 0)

/-- The index in the table of a group's first entry. -/
def entryIndex (s : State) (ch : Nat) : Nat := (s.img.rails.map RailCfg.channel).findIdx (· == ch)

/-- R229: whether a channel of a cast-on group needs no resolution: it is skipped, or already good. An adoption casts on the channels that are
off alone (R243). -/
def castResolved (s : State) (adopt : Bool) (ch : Nat) : Bool := match s.railOf ch with
  | none => true
  | some r => railSkipped s r || (s.seq.en.testBit ch && (adopt || s.seq.good.testBit ch))

/-- R229: the cast-on groups are gone through until one has an entry to enable. Skipped entries are marked. -/
def takeCast (s : State) (q : SeqRun) (gs : List (List Nat)) : State × Option SeqRun := match gs with
  | [] => (s, none)
  | g :: rest =>
    let s := g.foldl (init := s) fun s c => s.modRail c fun x =>
      { x with skipped := match s.railOf c with
          | some r => railSkipped s r
          | none => false }
    let live := g.filter fun c => ! castResolved s (q.kind == .adopt) c
    match live with
    | [] => takeCast s q rest
    | c :: _ => (s.wr R.SEQ_STATUS.entry (entryIndex s c),
        some { q with groups := rest, current := live, acted := false, at_ := s.now + groupDelay s live })

/-- R237: whether a rail counts as fallen now. -/
def railDown (s : State) (r : RailCfg) : Bool :=
  let x := tget s.seq.rails r.channel
  let fresh := r.fallSense && (match x.voutAt with
    | some t => decide (s.now ≤ t + 5000)
    | none => false)
  if fresh then decide (tget s.seq.vout r.channel * 10 < r.nominal)
  else ! s.seq.pg.testBit r.channel && decide (x.lowAt.getD 0 + r.discharge ≤ s.now)

/-- R236: the enables of a bind-off group drop in one microsecond. -/
def dropGroup (s : State) (g : List Nat) : State :=
  g.foldl (init := s) fun s c =>
    if s.seq.en.testBit c then
      let s := (setEnable s c false).modRail c fun x => { x with state := 5, dropAt := s.now, window := none }
      { s with seq := { s.seq with good := setBit s.seq.good c false } }
    else s

/-- R236: the bind-off groups are gone through until one has a rail to drop. -/
def takeBind (s : State) (q : SeqRun) (gs : List (List Nat)) : State × Option SeqRun := match gs with
  | [] => (s, none)
  | g :: rest =>
    let live := g.filter fun c => s.seq.en.testBit c
    match live with
    | [] => takeBind s q rest
    | c :: _ => (dropGroup (s.wr R.SEQ_STATUS.entry (entryIndex s c)) live,
        some { q with groups := rest, current := live, acted := true })

/-- R233: the slots that qualify for the release of their resets. -/
def perstSlots (s : State) (slots : Nat) : Nat :=
  ofMembers ((members slots 8).filter fun k =>
    s.accPresent k && slotGood s k && ! slotTurnedOff s k && ! slotFlagged s k)

/-- R233: the releases of ACC_PERST_N become due perst_delay after a sequence ends. A slot to which a push has still to end waits for it
(R465). -/
def schedulePerst (s : State) (slots : Nat) : State :=
  let due := (s.now + 1000 * s.rd R.SEQ_CFG.perst_delay, setMinus slots (pushSlots s))
  { s with seq := { s.seq with perst := s.seq.perst ++ [due] } }

/-- The end of a tray cast-on: the sequencer is ON, milestone 2 is reached, pushes begin, and the releases become due (R233, R445, R465). -/
def castOnDone (s : State) : State :=
  let s := milestone (setSeqState s 2) 2
  schedulePerst (beginPushes s (slotGood s)) 0xFF

/-- R240: a slot bind-off starts. -/
def startSlotsOff (s : State) (slots : Nat) : State :=
  let s := assertPerst s slots
  let s := openRun s { kind := .slotsOff, slots := slots }
  let gs := groupsWithin (slotChannels s slots) (bindGroups s)
  { s with seq := { s.seq with run := s.seq.run.map fun q => { q with groups := gs, at_ := s.now + 1000 } } }

/-- R336: a tray bind-off abandons a containment. -/
def abandonContainment (s : State) : State :=
  let s := { s with itg := { s.itg with containAt := none, selfRefresh := 0, partitionsResetting := 0 } }
  (s.wr R.ERR_STATUS.containing 0).wr R.ERR_STATUS.part_resetting 0

/-- R235: a tray bind-off starts. -/
def startTrayOff (s : State) (forceInput : Bool) : State :=
  let s := abandonContainment (resetHubs (assertPerst s 0xFF))
  let s := setSeqState (openRun s { kind := .trayOff }) 3
  let s := (s.wr (R.PWR_DOMAIN_H.on 0) 0).wr (R.PWR_DOMAIN_H.on 1) 0
  { s with seq := { s.seq with
      perst := [], run := s.seq.run.map fun q => { q with groups := goneGroups s ++ bindGroups s, at_ := s.now + 1000, forceInput := forceInput } } }

/-- Starts a run's first step: a cast-on's first group, or the end of a sequence with nothing to resolve. -/
def setRun (s : State) (q : SeqRun) : State := { s with seq := { s.seq with run := some q } }

/-- R238: the end of a tray bind-off: OFF, or INPUT_OFF where a rail has not fallen or the fault action says so. -/
def endTrayOff (s : State) (q : SeqRun) : State :=
  let late := s.img.rails.any fun r => ! railDown s r
  if late || q.forceInput then setSeqState (traceSeq (s.wr R.SEQ_HOLD.input_off 1) 0 0xD) 4 else setSeqState s 0

/-- R232, R237: a rail is flagged NOT_FALLEN, with its record. -/
def flagNotFallen (s : State) (r : RailCfg) : State :=
  let s := traceSeq (s.modRail r.channel fun x => { x with state := 7 }) r.channel 9
  railRecord { s with seq := { s.seq with notFallen := setBit s.seq.notFallen r.channel true } } r 3

/-- R238: the rails of a slot bind-off that have still not fallen are flagged, where they are not yet. -/
def endSlotsOff (s : State) (q : SeqRun) : State :=
  let late := s.img.rails.filter fun r =>
    decide (r.owner < 8) && q.slots.testBit r.owner && ! railDown s r && ! s.seq.notFallen.testBit r.channel
  refreshHolds (late.foldl flagNotFallen s)

/-- The end of a sequence (R233, R238, R242, R246), before held orders are looked at. -/
def endRun (s : State) (q : SeqRun) : State :=
  let s := { s with seq := { s.seq with run := none } }
  let s := (s.wr R.SEQ_STATUS.slot_seq 0).wr R.SEQ_STATUS.scope 0
  let all := setUnion (listedSet s.img.rails) (listedSet s.seq.oldRails)
  let s := match q.kind with
    | .trayOn => castOnDone { s with seq := { s.seq with oldRails := [] } }
    | .adopt => castOnDone { s with seq := { s.seq with oldRails := [] } }
    | .slotsOn => schedulePerst s q.slots
    | .trayOff => endTrayOff s q
    | .slotsOff => endSlotsOff s q
  let s := traceSeq (refreshHolds s) 0 0xF
  match q.kind with
  | .trayOn => seqSummary s 0 all 0xFF true 0xFF
  | .adopt => seqSummary s 0 all 0xFF true 0xFF
  | .trayOff => seqSummary s 1 all 0xFF true 0xFF
  | .slotsOn => seqSummary s 2 (slotChannels s q.slots) q.slots false 0xFF
  | .slotsOff => seqSummary s 3 (slotChannels s q.slots) q.slots false 0xFF

/-- Whether a sequence is binding off now. -/
def SeqRun.binding (q : SeqRun) : Bool := q.kind == .trayOff || q.kind == .slotsOff || q.off

/-- Whether every channel of the group being resolved is resolved. A cast-on group that has lost all its entries is, without its delay (R229). -/
def groupResolved (s : State) (q : SeqRun) : Bool :=
  (q.acted || (! q.binding && q.current.isEmpty)) && q.current.all fun c =>
    let st := (tget s.seq.rails c).state
    if q.binding then st != 5 else st != 1

/-- A sequence goes on to its next group, or ends: true where it has ended. -/
def advanceRun (s : State) (q : SeqRun) : State × Bool :=
  let (s, nx) := if q.binding then takeBind s q q.groups else takeCast s q q.groups
  match nx with
  | some q' => (setRun s q', false)
  | none =>
    if q.kind == .adopt && q.off then
      -- R243: then the cast-on of the listed channels that are off
      let (s, nx) := takeCast s { q with off := false } (castGroups s.img.rails)
      match nx with
      | some q' => (setRun s q', false)
      | none => (endRun s q, true)
    else (endRun s q, true)

/-- R228, R229, R239: a tray cast-on starts: from OFF at once, from INPUT_OFF once the input has settled. -/
def castFrom (s : State) (q : SeqRun) : State :=
  let (s, nx) := takeCast (setSeqState (openRun s q) 1) q (castGroups s.img.rails)
  match nx with
  | some q' => setRun s { q' with start := s.now }
  | none => endRun s q

/-- R239: TRAY_INPUT_OFF is released and the settling time starts. -/
def releaseInput (s : State) : State :=
  let s := traceSeq (s.wr R.SEQ_HOLD.input_off 0) 0 0xE
  { s with seq := { s.seq with settle := some (s.now + 1000 * s.rd R.SEQ_CFG.input_settle) } }

/-- A tray cast-on from OFF or INPUT_OFF. -/
def startTrayOn (s : State) : State :=
  if s.seq.state = 4 then releaseInput s else castFrom s { kind := .trayOn }

/-- R239, R243: the adoption of the table in force starts, as one tray sequence: channels that it does not list bind off, then those it lists
that are off cast on. From INPUT_OFF, where no channel is enabled, it is a cast-on once the input has settled. -/
def startAdopt (s : State) : State :=
  let s := { s with seq := { s.seq with adoptWaits := false } }
  if s.seq.state = 4 then releaseInput s
  else
    let q : SeqRun := { kind := .adopt, groups := goneGroups s, off := true, acted := true, start := s.now }
    (advanceRun (openRun (setSeqState s 1) q) q).1

/-- R240: a slot cast-on starts. -/
def startSlotsOn (s : State) (slots : Nat) : State :=
  let q : SeqRun := { kind := .slotsOn, slots := slots }
  let s := openRun { s with seq := { s.seq with cut := setMinus s.seq.cut slots } } q
  let (s, nx) := takeCast s q (groupsWithin (slotChannels s slots) (castGroups s.img.rails))
  match nx with
  | some q' => setRun s { q' with start := s.now }
  | none => endRun s q

/-- R242: whether a held order's turn may come: held orders do not lapse, and a slot cast-on waits until the tray is ON (R240). -/
def heldReady (s : State) (h : Bool × Bool × Nat) : Bool := ! (h.1 && ! h.2.1) || s.seq.state == 2

/-- R242: held orders run in arrival order once no sequence runs, an adoption before them. A tray cast-on of a tray that is on, and a slot bind-off
of a tray that is off, have nothing left to do. `n` bounds the orders looked at. -/
def runHeld (n : Nat) (s : State) : State := match n with
  | 0 => s
  | k + 1 =>
    if s.seq.run.isSome || s.seq.settle.isSome then s
    else if s.seq.adoptWaits then runHeld k (startAdopt s)
    else match s.seq.held.find? (heldReady s) with
      | none => s
      | some (on, tray, slots) =>
        let s := { s with seq := { s.seq with held := s.seq.held.erase (on, tray, slots) } }
        let s := if tray then (if on ∧ (s.seq.state = 0 ∨ s.seq.state = 4) then startTrayOn s else s)
          else if s.seq.state = 2 then (if on then startSlotsOn s slots else startSlotsOff s slots)
          else s
        runHeld k s

/-- The running sequence goes on as far as it can: past groups that are resolved, and into held orders. -/
def pushRun (s : State) : State := match s.seq.run with
  | none => s
  | some q =>
    if groupResolved s q then
      let (s, ended) := advanceRun s q
      if ended then
        let s := if q.leaving = 0 then s
          else { s with seq := { s.seq with held := (false, false, q.leaving) :: s.seq.held } }
        runHeld (s.seq.held.length + 2) s
      else s
    else s

/-- R242: held cast-ons are dropped where an off order covers their scope; a tray order covers everything. -/
def dropHeldOn (s : State) (tray : Bool) (slots : Nat) : State :=
  let keep (h : Bool × Bool × Nat) : Option (Bool × Bool × Nat) :=
    if ¬ h.1 then some h
    else if tray then none
    else if h.2.1 then some h
    else if setMinus h.2.2 slots = 0 then none else some (h.1, h.2.1, setMinus h.2.2 slots)
  { s with seq := { s.seq with held := s.seq.held.filterMap keep, adoptWaits := s.seq.adoptWaits && ! tray } }

/-- An order is held (R242). -/
def holdOrder (s : State) (on tray : Bool) (slots : Nat) : State :=
  { s with seq := { s.seq with held := s.seq.held ++ [(on, tray, slots)] } }

/-- R228, R235, R242: a tray bind-off is ordered. -/
def orderTrayOff (s : State) (forceInput : Bool) : State :=
  let s := dropHeldOn s true 0xFF
  if s.seq.state = 3 then
    { s with seq := { s.seq with run := s.seq.run.map fun q => { q with forceInput := q.forceInput || forceInput } } }
  else startTrayOff { s with seq := { s.seq with held := [], run := none } } forceInput

/-- R240, R242: a slot bind-off is ordered. -/
def orderSlotsOff (s : State) (slots : Nat) : State :=
  let s := dropHeldOn s false slots
  match s.seq.run with
  | none => startSlotsOff s slots
  | some q => match q.kind with
    | .trayOff => s
    | .slotsOn =>
      let mine := q.slots &&& slots
      let chans := slotChannels s mine
      -- R242: those slots leave the cast-on at once, and are bound off when it ends
      let s := assertPerst s mine
      let s := setRun s { q with slots := setMinus q.slots mine, leaving := setUnion q.leaving mine,
                                 groups := groupsWithin (setMinus (2 ^ 64 - 1) chans) q.groups,
                                 current := q.current.filter fun c => ! chans.testBit c }
      let s := s.wr R.SEQ_STATUS.scope (setMinus q.slots mine)
      let other := setMinus slots mine
      pushRun (if other = 0 then s else holdOrder s false false other)
    | _ => holdOrder s false false slots

/-- R240, R242: a slot cast-on is ordered. -/
def orderSlotsOn (s : State) (slots : Nat) : State := match s.seq.run with
  | none => startSlotsOn s slots
  | some _ => holdOrder s true false slots

/-- R228: whether a tray cast-on may be ordered in the present state. -/
def trayOnAllowed (s : State) : Bool := s.seq.verified && (s.seq.state = 0 || s.seq.state = 3 || s.seq.state = 4)

/-- R228: whether a tray bind-off may be ordered. -/
def trayOffAllowed (s : State) : Bool := s.seq.state = 1 || s.seq.state = 2 || s.seq.state = 3

/-- R8, R239: an order to turn the tray off while its input settles: the cast-on that waits is dropped, and TRAY_INPUT_OFF is asserted again, as
INPUT_OFF has it (DESIGN CHOICE, log 77). -/
def dropSettling (s : State) : State :=
  if s.seq.settle.isNone then s
  else traceSeq ({ s with seq := { s.seq with settle := none } }.wr R.SEQ_HOLD.input_off 1) 0 0xD

/-- R228, R240, R242: whether a slot order may be given. -/
def slotsAllowed (s : State) : Bool := s.seq.state = 1 || s.seq.state = 2 || s.seq.state = 3

/-- R228, R239, R242: a tray cast-on is ordered: during a bind-off it is held, and while the input settles one is under way. -/
def orderTrayOn (s : State) : State :=
  if s.seq.state = 3 then holdOrder s true true 0xFF
  else if s.seq.settle.isSome then s
  else runHeld (s.seq.held.length + 1) (startTrayOn s)

/-- R247: an order through SEQ_CTRL: by Steward alone, and only where R228 allows it. -/
def seqOrder (s : State) (a : Agent) (allowed : Bool) (act : State → State) : State :=
  if a ≠ .steward then s.deny a
  else if allowed then act (s.answer .ok 0 0)
  else s.answer .invalid 0 0

/-- TRAY_CAST_ON. -/
def trayCastOn (a : Agent) (s : State) : State := seqOrder s a (trayOnAllowed s) orderTrayOn

/-- TRAY_BIND_OFF. -/
def trayBindOff (a : Agent) (s : State) : State := seqOrder s a (trayOffAllowed s) fun s => orderTrayOff s false

/-- SLOT_CAST_ON. During a tray bind-off the order is held (R242). -/
def slotCastOn (a : Agent) (slots : Nat) (s : State) : State :=
  seqOrder s a (slotsAllowed s) fun s => if slots % 256 = 0 then s else orderSlotsOn s (slots % 256)

/-- SLOT_BIND_OFF. -/
def slotBindOff (a : Agent) (slots : Nat) (s : State) : State :=
  seqOrder s a (slotsAllowed s) fun s => if slots % 256 = 0 then s else orderSlotsOff s (slots % 256)

/-! ## Cast-on -/

/-- R229: CAST_ON_GROUP_ENABLE: the group's delay has passed, and the enables of its entries rise together. An entry that has to be skipped by
now is skipped. -/
def castOnGroupEnable (s : State) : State := match s.seq.run with
  | none => s
  | some q =>
    if q.acted ∨ q.off ∨ q.kind = .trayOff ∨ q.kind = .slotsOff ∨ s.now < q.at_ then s
    else
      let late := q.current.filter (castResolved s (q.kind == .adopt))
      let s := late.foldl (init := s) fun s c => match s.railOf c with
        | some r => s.modRail c fun x => { x with skipped := railSkipped s r }
        | none => s
      let live := q.current.filter fun c => ! late.contains c
      let s := live.foldl (init := s) fun s c =>
        let s := setEnable s c true
        let s := s.modRail c fun x =>
          { x with state := 1, chatter := 0, enableAt := s.now, rise := 0, faulted := false,
                   window := if s.seq.pg.testBit c then some s.now else none }
        let s := match s.railOf c with
          | some r => if r.owner < 8 ∧ r.role = 0 then
              -- R249: k_s is 1.0 when the slot is cast on
              { s with pwr := { s.pwr with slots := tmod s.pwr.slots r.owner fun x => { x with k := 1 } } }.wr (R.PWR_ACC.scale r.owner) 0x1000
              else s
          | none => s
        { s with seq := { s.seq with fault := setBit s.seq.fault c false, good := setBit s.seq.good c false } }
      pushRun (setRun s { q with acted := true, current := live })

/-- R230, R231, R232: a rail is flagged in cast-on, NOT_GOOD or CHATTER, and is resolved. -/
def flagRail (s : State) (r : RailCfg) (chatter : Bool) : State :=
  let c := r.channel
  let s := traceSeq (s.modRail c fun x => { x with state := if chatter then 4 else 3, window := none }) c (if chatter then 7 else 6)
  let s := { s with seq := { s.seq with notGood := setBit s.seq.notGood c (! chatter), chatter := setBit s.seq.chatter c chatter } }
  let s := railRecord s r (if chatter then 2 else 1)
  let s := if r.onFlag then setEnable s c false else s
  let s := if r.owner < 8 ∧ perstAsserted s r.owner = false then assertPerst s (2 ^ r.owner) else s
  pushRun (refreshHolds s)

/-! ## Fans and the actuator rail (R296) -/

/-- A fan's state as COOL_FAN codes it (R311). -/
def fanState (s : State) (n : Nat) : Nat := s.rd (R.COOL_FAN.state n)

/-- Whether a fan is fitted. -/
def fanFitted (s : State) (n : Nat) : Bool := s.img.plant.fans.testBit n

/-- R296: a fan starts, at 100%. -/
def startFan (s : State) (n : Nat) : State :=
  let s := { s with cool := { s.cool with fans := tmod s.cool.fans n fun x =>
    { x with startAt := some s.now, kicking := false, missed := 0, normalCurrent := true, goneSince := none } } }
  (((s.wr (R.COOL_FAN.state n) 2).wr (R.COOL_FAN.reason n) 0).wr (R.COOL_FAN.kicks n) 0).wr (R.COOL_FAN.duty n) 100

/-- R296: when the 12 V actuator rail becomes good every fitted fan starts, but for one whose failure is latched (R298). -/
def startFans (s : State) (r : RailCfg) : State :=
  if r.owner = 11 ∧ r.role = 0 then
    ((List.range 8).filter fun n => fanFitted s n && fanState s n != 4).foldl startFan s
  else s

/-- R230: RAIL_GOOD: the debounce window of a rail awaiting good has run out within its timeout. -/
def railGood (c : Nat) (s : State) : State :=
  match s.railOf c, (tget s.seq.rails c).window with
  | some r, some w =>
    let x := tget s.seq.rails c
    if x.state = 1 ∧ w + r.debounce ≤ s.now ∧ w + r.debounce ≤ x.enableAt + r.timeout then
      let s := s.modRail c fun x =>
        { x with state := 2, window := none, lowAt := none, rise := min 0xFFFF ((w + r.debounce - x.enableAt) / 10) }
      let s := { s with seq := { s.seq with
        good := setBit s.seq.good c true, notGood := setBit s.seq.notGood c false, chatter := setBit s.seq.chatter c false,
        notFallen := setBit s.seq.notFallen c false, faultHold := setBit s.seq.faultHold c false } }
      pushRun (refreshHolds (startFans (traceSeq s c 5) r))
    else s
  | _, _ => s

/-- Whether the debounce window of a rail awaiting good ran out within the rail's timeout (R230). -/
def debounced (x : Rail) (r : RailCfg) (now : Nat) : Bool := match x.window with
  | none => false
  | some w => decide (w + r.debounce ≤ now ∧ w + r.debounce ≤ x.enableAt + r.timeout)

/-- R230: RAIL_NOT_GOOD: the timeout of a rail awaiting good has expired before the rail is good. -/
def railNotGood (c : Nat) (s : State) : State := match s.railOf c with
  | none => s
  | some r =>
    let x := tget s.seq.rails c
    if x.state = 1 ∧ x.enableAt + r.timeout ≤ s.now ∧ debounced x r s.now = false then flagRail s r false else s

/-! ## Rail cuts and faults -/

/-- R241: a rail cut of a set of slots: their enables drop at once, their resets are asserted, and their rails leave the running
sequence as skipped. -/
def cutSlots (s : State) (slots : Nat) : State :=
  let chans := slotChannels s slots
  let s := assertPerst s slots
  let s := (s.img.rails.map RailCfg.channel).foldl (init := s) fun s c =>
    if chans.testBit c then
      let s := setEnable s c false
      traceSeq (s.modRail c fun x => { x with state := 0, window := none, skipped := s.seq.run.isSome || x.skipped }) c 0xA
    else s
  let s := { s with seq := { s.seq with good := setMinus s.seq.good chans, cut := setUnion s.seq.cut slots } }
  let s := { s with seq := { s.seq with run := s.seq.run.map fun q =>
    { q with groups := groupsWithin (setMinus (2 ^ 64 - 1) chans) q.groups,
             current := q.current.filter fun c => ! chans.testBit c } } }
  let s := seqSummary s 4 chans slots false 0xFF
  pushRun s

/-- R240, R244: the slot bind-offs of fault action 2, which Steward orders; while it does not run they wait for it. -/
def orderFaultOff (s : State) : State :=
  let slots := s.seq.faultOff
  if s.procUp 0 = false ∨ slots = 0 then s
  else
    let s := { s with seq := { s.seq with faultOff := 0 } }
    if slotsAllowed s then orderSlotsOff s slots else s

/-- R234: the fault action of a rail. -/
def faultAction (s : State) (r : RailCfg) : State :=
  let act := r.faultAction
  if act = 0 then s
  else if act = 3 then orderTrayOff s false
  else if act = 4 then orderTrayOff s true
  else if r.owner < 8 then
    let s := assertPerst s (2 ^ r.owner)
    if act = 1 then cutSlots s (2 ^ r.owner)
    else orderFaultOff { s with seq := { s.seq with faultOff := setBit s.seq.faultOff r.owner true } }
  else if r.owner ≤ 10 then
    let s := setEnable s r.channel false
    let s := s.modRail r.channel fun x => { x with state := 0 }
    let s := { s with seq := { s.seq with good := setBit s.seq.good r.channel false,
                                          faultHold := setBit s.seq.faultHold r.channel true } }
    refreshHolds s
  else s

/-- R234: a rail fault is declared: counted, traced, recorded, and its action taken. A rail that a bind-off covers is traced only. -/
def declareFault (s : State) (r : RailCfg) : State :=
  let s := traceSeq (s.modRail r.channel fun x => { x with faulted := true }) r.channel 0xC
  if bindingOff s r then s
  else
    let s := { s with seq := { s.seq with fault := setBit s.seq.fault r.channel true } }
    let s := railRecord (s.bump R.SEQ_FAULT_COUNT.c) r 4
    let s := seqSummary s 5 (2 ^ r.channel) (if r.owner < 8 then 2 ^ r.owner else 0) (railDies r != []) r.channel
    faultAction s r

/-- Whether a rail is watched: from good until its bind-off starts (R234). -/
def railWatched (s : State) (r : RailCfg) : Bool := (tget s.seq.rails r.channel).state == 2 && ! bindingOff s r

/-- R234: RAIL_FAULT: RAIL_PG of a watched rail has stayed low for more than 2 ms. A rail that a bind-off covers is not watched, but where the
bind-off was ordered in this microsecond its fault is traced. -/
def railFault (c : Nat) (s : State) : State := match s.railOf c, (tget s.seq.rails c).lowAt with
  | some r, some t =>
    let met : Bool := (tget s.seq.rails c).state == 2 && s.seq.run.any fun q => q.start == s.now
    if (railWatched s r = true ∨ met = true) ∧ ¬ s.seq.pg.testBit c ∧ ¬ (tget s.seq.rails c).faulted ∧ t + 2000 < s.now then declareFault s r
    else s
  | _, _ => s

/-- R230: a sample of a rail awaiting good: a rise starts a debounce window, a drop in one ends it and counts as chatter. -/
def sampleAwaiting (s : State) (r : RailCfg) (high : Bool) : State :=
  let c := r.channel
  if high then traceSeq (s.modRail c fun x => { x with window := some s.now }) c 3
  else
    let x := tget s.seq.rails c
    let s := s.modRail c fun x => { x with window := none, chatter := if x.window.isSome then min 16 (x.chatter + 1) else x.chatter }
    let s := traceSeq s c 4
    if x.window.isSome ∧ 16 ≤ (tget s.seq.rails c).chatter then flagRail s r true else s

/-- R234: a sample of a good rail. A low of at most 2 ms that ends is a glitch. -/
def sampleGood (s : State) (r : RailCfg) (high : Bool) (was : Option Nat) : State :=
  let c := r.channel
  let faulted := (tget s.seq.rails c).faulted
  let s := traceSeq s c (if high then 3 else 4)
  if ¬ high ∨ ¬ railWatched s r then s
  else match was with
    | none => s
    | some t =>
      if s.now ≤ t + 2000 then traceSeq (s.bump R.SEQ_GLITCH_COUNT.c) c 0xB
      else if faulted then s
      else declareFault s r

/-- RAIL_PG_CHANGE (R225, R230, R231, R234): RAIL_PG is sampled at a new level. -/
def railPgChange (c : Nat) (high : Bool) (s : State) : State :=
  if 64 ≤ c ∨ s.seq.pg.testBit c = high then s
  else
    let was := (tget s.seq.rails c).lowAt
    let s := { s with seq := { s.seq with pg := setBit s.seq.pg c high } }
    let s := s.modRail c fun x => { x with lowAt := if high then none else some s.now }
    let st := (tget s.seq.rails c).state
    match s.railOf c with
    | none => s
    | some r =>
      let s := if st = 1 then sampleAwaiting s r high
        else if st = 2 then sampleGood s r high was
        else if st = 5 then traceSeq s c (if high then 3 else 4) else s
      if high then s.modRail c fun x => { x with faulted := false } else s

/-- R241, R503: ACC_REMOVED: a slot's ACC_PRSNT_N has gone high. Its enabled rails are cut. -/
def accRemoved (slot : Nat) (s : State) : State :=
  if 8 ≤ slot ∨ ¬ s.accPresent slot then s
  else
    let s := { s with seq := { s.seq with present := setBit s.seq.present slot false },
                      lnk := { s.lnk with identityRead := setBit s.lnk.identityRead slot false } }
    if slotOn s slot then cutSlots s (2 ^ slot) else refreshLinks s

/-! ## Bind-off -/

/-- R235, R236: BIND_OFF_GROUP_DROP: 1 ms after the resets the first group's enables drop. -/
def bindOffGroupDrop (s : State) : State := match s.seq.run with
  | none => s
  | some q =>
    if q.acted ∨ ¬ (q.kind = .trayOff ∨ q.kind = .slotsOff) ∨ s.now < q.at_ then s
    else pushRun (setRun s { q with acted := true, current := [] })

/-- R237: RAIL_VOUT_READ: a READ_VOUT from the Power processor, while it runs (R244). -/
def railVoutRead (c mv : Nat) (s : State) : State :=
  if 64 ≤ c ∨ ¬ s.procUp 1 then s
  else { s with seq := { s.seq with vout := tput s.seq.vout c (mv % 65536) } }.modRail c fun x => { x with voutAt := some s.now }

/-- R237: RAIL_FALLEN: a falling rail counts as fallen. -/
def railFallen (c : Nat) (s : State) : State := match s.railOf c with
  | none => s
  | some r =>
    if (tget s.seq.rails c).state = 5 ∧ railDown s r then
      pushRun (traceSeq (s.modRail c fun x => { x with state := 6 }) c 8)
    else s

/-- R237: RAIL_NOT_FALLEN: a falling rail has not fallen within its timeout; bind-off goes on. -/
def railNotFallen (c : Nat) (s : State) : State := match s.railOf c with
  | none => s
  | some r =>
    let x := tget s.seq.rails c
    if x.state = 5 ∧ x.dropAt + r.timeout ≤ s.now ∧ ¬ railDown s r then
      pushRun (refreshHolds (flagNotFallen s r))
    else s

/-- R233: PERST_RELEASE: the releases that are due are made, of the slots that qualify. -/
def perstRelease (s : State) : State :=
  let due := s.seq.perst.filter fun p => p.1 ≤ s.now
  let slots := due.foldl (fun w p => setUnion w p.2) 0
  let s := { s with seq := { s.seq with perst := s.seq.perst.filter fun p => s.now < p.1 } }
  let go := perstSlots s slots
  refreshLinks (s.wr R.SEQ_HOLD.slot_reset (setMinus (s.rd R.SEQ_HOLD.slot_reset) go))

/-- R239: INPUT_SETTLE_EXPIRE: the 54 V input has settled, and cast-on starts from the first group. -/
def inputSettleExpire (s : State) : State := match s.seq.settle with
  | none => s
  | some t =>
    if s.now < t then s
    else runHeld (s.seq.held.length + 1) (castFrom { s with seq := { s.seq with settle := none } } { kind := .trayOn })

/-- R242, R243: a verified table is adopted while the rails are held; while a sequence runs the adoption waits for its end. A settling input
goes on to a cast-on by the new table. -/
def adoptTable (s : State) (old : List RailCfg) : State :=
  let listed := listedSet s.img.rails
  let s := { s with seq := { s.seq with oldRails := old.filter fun r => ! listed.testBit r.channel } }
  if s.seq.settle.isSome then s
  else if s.seq.run.isSome then { s with seq := { s.seq with adoptWaits := true } }
  else runHeld (s.seq.held.length + 2) (startAdopt s)

/-- A slot's accelerator counts as present (R503). -/
def setPresent (s : State) (slot : Nat) : State := { s with seq := { s.seq with present := setBit s.seq.present slot true } }
/-- ACC_REMOVED. -/
def execAccRemoved (slot : Nat) (s : State) : Host.Outcome State Fault Refusal := .next (accRemoved slot s)
/-- TRAY_CAST_ON. -/
def execTrayCastOn (agent : Agent) (s : State) : Host.Outcome State Fault Refusal := .next (trayCastOn agent s)
/-- TRAY_BIND_OFF. -/
def execTrayBindOff (agent : Agent) (s : State) : Host.Outcome State Fault Refusal := .next (trayBindOff agent s)
/-- SLOT_CAST_ON. -/
def execSlotCastOn (agent : Agent) (slots : Nat) (s : State) : Host.Outcome State Fault Refusal := .next (slotCastOn agent slots s)
/-- SLOT_BIND_OFF. -/
def execSlotBindOff (agent : Agent) (slots : Nat) (s : State) : Host.Outcome State Fault Refusal :=
  .next (slotBindOff agent slots s)
/-- CAST_ON_GROUP_ENABLE. -/
def execCastOnGroupEnable (s : State) : Host.Outcome State Fault Refusal := .next (castOnGroupEnable s)
/-- RAIL_GOOD. -/
def execRailGood (channel : Nat) (s : State) : Host.Outcome State Fault Refusal := .next (railGood channel s)
/-- RAIL_NOT_GOOD. -/
def execRailNotGood (channel : Nat) (s : State) : Host.Outcome State Fault Refusal := .next (railNotGood channel s)
/-- PERST_RELEASE. -/
def execPerstRelease (s : State) : Host.Outcome State Fault Refusal := .next (perstRelease s)
/-- BIND_OFF_GROUP_DROP. -/
def execBindOffGroupDrop (s : State) : Host.Outcome State Fault Refusal := .next (bindOffGroupDrop s)
/-- RAIL_VOUT_READ. -/
def execRailVoutRead (channel mv : Nat) (s : State) : Host.Outcome State Fault Refusal := .next (railVoutRead channel mv s)
/-- RAIL_FALLEN. -/
def execRailFallen (channel : Nat) (s : State) : Host.Outcome State Fault Refusal := .next (railFallen channel s)
/-- RAIL_NOT_FALLEN. -/
def execRailNotFallen (channel : Nat) (s : State) : Host.Outcome State Fault Refusal := .next (railNotFallen channel s)
/-- INPUT_SETTLE_EXPIRE. -/
def execInputSettleExpire (s : State) : Host.Outcome State Fault Refusal := .next (inputSettleExpire s)

end Sys2Proof.Machine
end

