-- ==== Sys2Proof/Machine/Power.lean ====
section
/-! DEFINITION. Power estimation, caps, the group gauge, duty, ramps and energy (R248 to R275). Powers are exact rational numbers in
W; a register shows the whole watts of one. -/

namespace Sys2Proof.Machine

/-! ## Plain questions -/

/-- The whole part of a power that is not negative. -/
def wholeW (r : Rat) : Nat := r.floor.toNat

/-- A number of watts as a field of `n` bits holds it. -/
def shownW (n : Nat) (r : Rat) : Nat := min (2 ^ n - 1) (wholeW r)

/-- The sum of a list of powers. -/
def sumW (l : List Rat) : Rat := l.foldl (· + ·) 0

/-- The value of a finite number; one that is not finite has no power stated for it and takes a free value (log 5). -/
def Num.toRat (x : Num) (w : Nat) : Rat := match x with
  | .fin neg m e =>
    let r : Rat := if 0 ≤ e then ((m * 2 ^ e.toNat : Nat) : Rat) else (m : Rat) / ((2 ^ (-e).toNat : Nat) : Rat)
    if neg then -r else r
  | _ => (Config.freeWord w : Rat)

/-- A coefficient of the identity memory (R219, R248). -/
def coeffValue (w : Nat) : Rat := (fp32.decode w).toRat w

/-- The gauge in force. -/
def State.gauge (s : State) : Nat := s.rd R.PWR_GAUGE.gauge

/-- What the estimator holds of a slot. -/
def State.slotPower (s : State) (slot : Nat) : SlotPower := tget s.pwr.slots slot

/-- Changes what the estimator holds of a slot. -/
def State.modSlotPower (s : State) (slot : Nat) (f : SlotPower → SlotPower) : State :=
  { s with pwr := { s.pwr with slots := tmod s.pwr.slots slot f } }

/-- A slot's gauge table entry at a level (R252). -/
def State.entryAt (s : State) (slot level : Nat) : GaugeEntry := (s.slotPower slot).table.getD level {}

/-- The slots with an accelerator present. -/
def State.presentSlots (s : State) : List Nat := (List.range 8).filter s.accPresent

/-- The admitted slots. -/
def State.admittedSlots (s : State) : List Nat := (List.range 8).filter s.accAdmitted

/-- A slot's duty in eighths (R265). -/
def State.duty (s : State) (slot : Nat) : Nat := bits (s.rd R.PWR_DUTY.duty) (4 * slot + 3) (4 * slot)

/-- The estimated period in ns. -/
def State.periodNs (s : State) : Nat := s.cad.est * 16

/-! ## The estimator -/

/-- R250: whether a slot takes the substitute: its activity is lost, or its die is held in reset while its rails are up. -/
def takesSubstitute (s : State) (slot : Nat) : Bool :=
  slotOn s slot && (if s.dieUp (slot / 4) then s.linkState slot == 3 && (tget s.lnk.links slot).activityLost else true)

/-- R250, R251: the power of a slot that enters the tray estimate now. -/
def slotNow (s : State) (slot : Nat) : Rat :=
  if ¬ slotOn s slot then 0
  else if takesSubstitute s slot then ((s.entryAt slot s.gauge).pmax : Rat) * s.duty slot / 8
  else if s.linkState slot = 3 then (s.slotPower slot).p
  else 0

/-- R251: a die's part of the hub estimate: its governor's estimate, or for an absent die its regulators' last reading, or 300 W
where that is older than 100 ms. -/
def dieNow (s : State) (d : Nat) : Rat :=
  if s.dieUp d then ((tget s.sup.dies d).estimate : Rat) / 1000
  else match tfind s.pwr.dieRead d with
    | some (mw, t) => if s.now ≤ t + 100000 then (mw : Rat) / 1000 else 300
    | none => 300

/-- R251: the hub estimate. -/
def hubNow (s : State) : Rat := dieNow s 0 + dieNow s 1

/-- R273: a slot's energy grows by p × dt, with the fraction below 1 µJ carried forward, and its partition's with it. -/
def addSlotEnergy (s : State) (slot : Nat) (uj : Rat) : State :=
  let r := (s.slotPower slot).frac + uj
  let whole := wholeW r
  let s := s.modSlotPower slot fun x => { x with frac := r - whole }
  (s.addWide (R.PWR_ENERGY_LO.count (8 + slot)) whole).addWide (R.PWR_ENERGY_LO.count (s.partOf slot)) whole

/-- R248, R253, R273: an ACTIVITY message. The first after the link came UP only sets the reference counts. -/
def activityPower (slot gauge : Nat) (counters : List Nat) (s : State) : State :=
  let x := s.slotPower slot
  let now := s.groupNow
  let s := s.modSlotPower slot fun x =>
    { x with counters := counters, stamp := some now, reported := gauge, differs := gauge != s.gauge,
             mismatchNoted := x.mismatchNoted && gauge != s.gauge }
  match x.stamp with
  | none => s
  | some t0 =>
    if now ≤ t0 then s
    else
      let dt : Rat := ((now - t0 : Nat) : Rat) / 1000
      let e := s.entryAt slot s.gauge
      let v : Rat := (e.v : Rat) / (s.entryAt slot 48).v
      let work := sumW ((List.range 16).map fun i =>
        coeffValue (x.coeff.getD i 0) * (((counters.getD i 0 + 2 ^ 32 - x.counters.getD i 0 % 2 ^ 32) % 2 ^ 32 : Nat) : Rat) / dt)
      let p := x.k * (e.idle + v * v * work)
      let s := s.modSlotPower slot fun x => { x with p := p }
      addSlotEnergy s slot (p * dt)

/-- R249: KS_CALIBRATE: k_s moves towards the regulators' reading; a failed read or less than 50 W leaves it. -/
def ksCalibrate (slot : Nat) (pout : Option Nat) (s : State) : State :=
  if 8 ≤ slot ∨ ¬ s.procUp 1 then s
  else
    let x := s.slotPower slot
    let e : Rat := if x.n = 0 then 0 else x.sum / x.n
    let s := s.modSlotPower slot fun x => { x with sum := 0, n := 0 }
    match pout with
    | none => s
    | some mw =>
      if e < 50 then s
      else
        let k := x.k + (x.k * ((mw : Rat) / 1000) / e - x.k) / 8
        let k := if k < 1 / 2 then 1 / 2 else if 2 < k then 2 else k
        (s.modSlotPower slot fun x => { x with k := k }).wr (R.PWR_ACC.scale slot) (wholeW (k * 4096))

/-- R251: AUX_UPDATE: the auxiliary estimate moves towards what READ_PIN leaves; a failed read holds it. -/
def auxUpdate (pin : Option Nat) (s : State) : State := match pin with
  | none => s
  | some mw =>
    if ¬ s.procUp 1 then s
    else
      let floor : Rat := (s.rd R.PWR_SHARE_CFG.aux_min : Rat)
      let left : Rat := (mw : Rat) / 1000 - sumW ((List.range 8).map (slotNow s)) - hubNow s
      let aux := s.pwr.aux + ((if left < floor then floor else left) - s.pwr.aux) / 8
      { s with pwr := { s.pwr with aux := aux } }.wr R.PWR_TRAY_EST.aux (shownW 16 aux)

/-- R273: the hub's energy over one tray-estimate interval of 2 µs. -/
def addHubEnergy (s : State) (uj : Rat) : State :=
  let r := s.pwr.hubFrac + uj
  let whole := wholeW r
  { s with pwr := { s.pwr with hubFrac := r - whole, hubEnergy := s.pwr.hubEnergy + whole } }.addWide (R.PWR_ENERGY_LO.count 16) whole

/-- R250, R251, R273: TRAY_ESTIMATE: every 2 µs the tray estimate is refreshed, and slots on the substitute and the hub gain their
energy. -/
def trayEstimate (s : State) : State :=
  let now := (List.range 8).map (slotNow s)
  let subs := (List.range 8).filter (takesSubstitute s)
  let hub := hubNow s
  let a := s.pwr.acc
  let acc : PowerBucket :=
    { n := a.n + 1, tray := a.tray + sumW now + hub + s.pwr.aux, hub := a.hub + hub, aux := a.aux + s.pwr.aux,
      slots := (List.range 8).map fun i => a.slots.getD i 0 + now.getD i 0 }
  let s := { s with pwr := { s.pwr with acc := acc } }
  let s := (List.range 8).foldl (init := s) fun s i =>
    let s := s.modSlotPower i fun x => { x with sum := x.sum + now.getD i 0, n := x.n + 1 }
    let s := if subs.contains i then addSlotEnergy s i (now.getD i 0 * 2) else s
    (s.wr (R.PWR_ACC.substitute i) (b2n (subs.contains i))).wr (R.PWR_ACC.activity_lost i) (b2n (tget s.lnk.links i).activityLost)
  let s := s.wr R.PWR_STATUS.substitute (b2n (subs != []))
  (addHubEnergy s (hub * 2)).wr R.PWR_HUB.estimate (shownW 10 hub)

/-! ## Caps -/

/-- R255: the sources of the tray cap by code; one that has set nothing has no limit. -/
def capSources (s : State) : List (Nat × Nat) :=
  let lim (v code : Nat) : List (Nat × Nat) := if v = 0xFFFF then [] else [(v, code)]
  [(s.rd R.PWR_BUDGET.tray_max, 0), (s.rd R.PWR_BUDGET.budget, 1)] ++ lim (s.rd R.PWR_CAPS.rack_manager) 2 ++ lim (s.rd R.PWR_CAPS.host) 3

/-- The lowest source; the lower code wins a tie. -/
def lowestCap (l : List (Nat × Nat)) : Nat × Nat := match l with
  | [] => (0xFFFF, 0)
  | x :: r => r.foldl (fun b c => if c.1 < b.1 then c else b) x

/-- R255: whether a source has set the tray's cap: before an image is verified no source has, and there is no limit (log 64). -/
def trayCapped (s : State) : Bool := s.rd R.PWR_CAP_EFF.cap != 0

/-- R257: the hub allowance. -/
def allowanceOf (s : State) : Nat :=
  if trayCapped s = false then 600 else
  let z := (((s.rd R.PWR_CAP_EFF.cap : Rat) - s.pwr.aux) * (s.rd R.PWR_SHARE_CFG.hub_weight : Rat) / 256).floor
  min 600 (max (s.rd R.PWR_SHARE_CFG.hub_min) z.toNat)

/-- HUB_ALLOWANCE: recomputed every 1 ms while the Power processor runs (R257). -/
def hubAllowance (s : State) : State := if s.procUp 1 then s.wr R.PWR_HUB.allowance (allowanceOf s) else s

/-- The effective caps after a change of a source (R255, R256): the tray's, each partition's as the minimum of its two sources, and
the allowance. -/
def refreshCaps (s : State) : State :=
  let (cap, src) := lowestCap (capSources s)
  let s := (s.wr R.PWR_CAP_EFF.cap cap).wr R.PWR_CAP_EFF.source src
  let s := (List.range 8).foldl (init := s) fun s p =>
    s.wr (R.PWR_PART.cap p) (min (tgetD s.flash.settings.partRm p 0xFFFF) (tgetD s.flash.settings.partHost p 0xFFFF))
  s.wr R.PWR_HUB.allowance (allowanceOf s)

/-- A partition's cap, where it has one. -/
def partCap (s : State) (p : Nat) : Option Nat :=
  let v := s.rd (R.PWR_PART.cap p)
  if v = 0xFFFF then none else some v

/-- The slots of a partition. -/
def partSlots (s : State) (p : Nat) : List Nat := (List.range 8).filter fun i => s.partOf i = p

/-- Whether a partition's average exceeds its cap. -/
def partOver (s : State) (p : Nat) : Bool := match partCap s p with
  | none => false
  | some c => decide ((c : Rat) < s.pwr.partAvg.getD p 0)

/-- Whether the tray's average exceeds the effective cap. -/
def trayOver (s : State) : Bool := trayCapped s && decide ((s.rd R.PWR_CAP_EFF.cap : Rat) < s.pwr.trayAvg)

/-! ## Prediction -/

/-- The values of R258: those of the peak interval, or of the present where no average has been formed. -/
def peakOf (s : State) : PowerPeak :=
  let now : PowerPeak :=
    { avg := s.pwr.trayAvg, slots := (List.range 8).map (slotNow s), duties := (List.range 8).map s.duty, gauge := s.gauge,
      hub := hubNow s, aux := s.pwr.aux, parts := s.pwr.partHub }
  match s.pwr.peak, s.pwr.peakPrev with
  | some a, some b => if a.avg < b.avg then b else a
  | some a, none => a
  | none, some b => b
  | none, none => now

/-- R258: u_s, a slot's power with its duty removed. -/
def undutied (s : State) (k : PowerPeak) (slot : Nat) : Rat :=
  let idle : Rat := ((s.entryAt slot k.gauge).idle : Rat)
  idle + (k.slots.getD slot 0 - idle) * 8 / (max 1 (k.duties.getD slot 8) : Nat)

/-- R258: a slot's predicted power at a level. -/
def slotAt (s : State) (k : PowerPeak) (slot level : Nat) : Rat :=
  undutied s k slot * (s.entryAt slot level).pmax / (s.entryAt slot k.gauge).pmax

/-- R258: the tray's predicted power at a level. -/
def predicted (s : State) (k : PowerPeak) (level : Nat) : Rat :=
  sumW (s.presentSlots.map fun i => slotAt s k i level) + k.hub + k.aux

/-- R258: whether a level fits the effective cap and every partition's cap. -/
def levelFits (s : State) (k : PowerPeak) (level : Nat) : Bool :=
  decide (predicted s k level ≤ (s.rd R.PWR_CAP_EFF.cap : Rat)) &&
  (List.range 8).all fun p => match partCap s p with
    | none => true
    | some c => decide (sumW ((s.presentSlots.filter fun i => s.partOf i = p).map fun i => slotAt s k i level) + k.parts.getD p 0 ≤ (c : Rat))

/-- R258: cap_level, none where it is below zero. -/
def capLevel (s : State) : Option Nat := ((List.range 64).reverse.filter (levelFits s (peakOf s))).head?

/-- PWR_GAUGE shows cap_level as the Power processor has it (R258, R276). -/
def showCapLevel (s : State) : State :=
  let cl := capLevel s
  (s.wr R.PWR_GAUGE.cap_level (cl.getD 0)).wr R.PWR_GAUGE.below_zero (b2n cl.isNone)

/-! ## The gauge request and the GAUGE record -/

/-- R259, R260, R261: the member's request and whether a pin is overridden. -/
def gaugeRequest (s : State) : Nat :=
  let g := s.gauge
  if s.rd (R.FW_PROC.state 1) = 3 then 0
  else if ¬ s.procUp 1 then min (s.rd R.PWR_GAUGE.request) g
  else
    let req := min (min (g + 1) ((capLevel s).getD 0)) (min (s.rd R.COOL_THERMAL.ceiling) 63)
    if s.on R.PWR_FIX.enabled then min req (s.rd R.PWR_FIX.pin)
    else
      let fits := decide (predicted s (peakOf s) (min 63 (g + 1)) ≤
        (s.rd R.PWR_CAP_EFF.cap : Rat) * ((100 - s.rd R.PWR_GAUGE_CFG.raise_margin : Nat) : Rat) / 100)
      let held := match s.pwr.sinceCut with
        | none => false
        | some n => decide (n < s.rd R.PWR_GAUGE_CFG.raise_holdoff)
      if fits && ! held && ! s.cad.stalled then req else min req g

/-- R260: whether cap_level or the thermal ceiling is below the pin of fixed-gauge mode. -/
def pinExceeds (s : State) : Bool :=
  let pin := s.rd R.PWR_FIX.pin
  (match capLevel s with
    | none => true
    | some l => decide (l < pin)) || decide (s.rd R.COOL_THERMAL.ceiling < pin)

/-- R260: the pin is overridden once cap_level or the thermal ceiling is below it; each time it becomes so is counted and recorded. -/
def refreshPin (s : State) : State :=
  if ¬ s.on R.PWR_FIX.enabled ∨ ¬ s.procUp 1 ∨ s.on R.PWR_STATUS.fixed_broken = true ∨ pinExceeds s = false then s
  else
    let s := s.wr R.PWR_STATUS.fixed_broken 1
    let s := (s.bump R.PWR_BROKEN_COUNT.c).wr R.PWR_STATUS.broken_seen 1
    s.event 0x0006 0x0001 (atByte 0 (s.rd R.PWR_FIX.pin) + atByte 1 ((capLevel s).getD 0xFF) + atByte 2 (s.rd R.COOL_THERMAL.ceiling))

/-- R260: at a GAUGE row the flag clears where both cap_level and the thermal ceiling allow the pin. -/
def pinAtGauge (s : State) : State :=
  if s.procUp 1 && ! pinExceeds s then s.wr R.PWR_STATUS.fixed_broken 0 else refreshPin s

/-- The number of hubs of a GAUGE row's set (R262): one more than the highest hub its active copy holds. -/
def gaugeHubs (s : State) (set : Nat) : Nat := maxOr0 ((members (tget s.pat.msets set).active 8192).map (· + 1))

/-- R262, R263: this hub's contribution to a GAUGE row over `hubs` hubs. -/
def gaugeRecord (s : State) (hubs req : Nat) : List Nat :=
  let flag (b : Bool) : Nat := if b then 0 else 0xFF
  let t := s.tree
  let isMaster := trayIsMaster t
  let joins := ! s.pat.joined.testBit t.index && (s.gt.state == 2 || s.gt.state == 4)
  let head := [req] ++ (if isMaster then bytesOf 6 s.cad.step else List.replicate 6 0xFF) ++
    [flag (s.on R.PWR_STATUS.lagging), flag (s.gt.state == 3), flag (s.on R.PWR_STATUS.unmet), flag (s.on R.PWR_STATUS.fixed_broken)] ++
    List.replicate 53 0xFF
  let own := [255 - s.pat.putAdmit % 256, 255 - s.pat.putExpel % 256, 255 - b2n joins, req]
  head ++ (List.range hubs).flatMap fun h => if h = t.index then own else List.replicate 4 0xFF

/-- R259, R262: the trigger of a GAUGE row: the request is formed and the contribution built. -/
def gaugeTrigger (s : State) (set : Nat) : State :=
  let s := pinAtGauge s
  let req := gaugeRequest s
  let s := showCapLevel s
  let s := { s with pwr := { s.pwr with record := gaugeRecord s (gaugeHubs s set) req },
                    pat := { s.pat with listedAdmit := s.pat.putAdmit, listedExpel := s.pat.putExpel } }
  s.wr R.PWR_GAUGE.request req

/-- R254: the Power processor writes v of a level to a slot's core rail, while it runs. -/
def writeCore (s : State) (level slot : Nat) : State :=
  if ¬ s.procUp 1 then s
  else (s.modSlotPower slot fun x => { x with want := some level }).emit (.coreVoltage slot (s.entryAt slot level).v)

/-- The admissions, expulsions, joins and leaves that a GAUGE record announces (R262, R263), and the master's step number. A result without the
master's contribution holds 0xFF in bytes 1 to 6, for which no rule gives a number; they are taken as they stand, 2^48 − 1, so that the next
step is 0 (R45; DESIGN CHOICE, log 70). -/
def announced (hubs : Nat) (set : Nat) (rec : List Nat) : Announce :=
  let at_ (i : Nat) : Nat := 255 - rec.getD i 0xFF % 256
  let hs := List.range hubs
  let lost := hs.filter fun h => set.testBit h && rec.getD (67 + 4 * h) 0xFF == 0xFF
  { admits := hs.flatMap fun h => (members (at_ (64 + 4 * h)) 8).map (8 * h + ·),
    expel := hs.flatMap fun h => (members (at_ (65 + 4 * h)) 8).map (8 * h + ·),
    join := hs.filter fun h => (at_ (66 + 4 * h)).testBit 0,
    leave := (hs.filter fun h => (at_ (66 + 4 * h)).testBit 1) ++ lost,
    master := ofBytes ((rec.drop 1).take 6) }

/-- R254, R262, R263: the group's result of a GAUGE row over set `set`: the bytewise minimum of this hub's contribution and the
others'. A raise is written at once; announcements carried leave Steward's list. -/
def takeGaugeResult (s : State) (set : Nat) (others : List Nat) : State :=
  let hubs := gaugeHubs s set
  let res := s.pwr.record.zipIdx.map fun b => min b.1 (others.getD b.2 0xFF)
  let act := (tget s.pat.msets set).active
  let ann := announced hubs act res
  let lost := (List.range hubs).any fun h => act.testBit h && res.getD (67 + 4 * h) 0xFF == 0xFF
  let g := res.getD 0 0 % 64
  let s := { s with pwr := { s.pwr with result := some res },
                    pat := { s.pat with announce := some ann, putAdmit := setMinus s.pat.putAdmit s.pat.listedAdmit,
                                        putExpel := setMinus s.pat.putExpel s.pat.listedExpel } }
  let s := ((s.wr R.PWR_GAUGE.result g).wr R.PWR_GAUGE.result_valid 1).wr R.PWR_STATUS.partial (b2n lost)
  let s : State := if lost then s.event 0x0005 s.seqUnit (atByte 0 s.cad.step) else s
  if s.gauge < g ∧ ¬ s.pwr.gaugeHeld ∧ s.gt.state ≠ 3 then s.admittedSlots.foldl (fun s i => writeCore s g i) s else s

/-- R69: whether the gauge is held, looked at at a boundary: from HOLDOVER until the first boundary after LOCKED. -/
def heldAtBoundary (s : State) : Bool :=
  if s.gt.state = 3 then true else if s.gt.state = 2 ∨ s.gt.state = 4 then false else s.pwr.gaugeHeld && ! s.pwr.holdEnds

/-- R254: the slots whose confirmed level is below the gauge are held slow; LAGGING is set while any is. -/
def unconfirmed (s : State) (slot : Nat) : Bool := match (s.slotPower slot).confirmed with
  | none => true
  | some l => decide (l < s.gauge)

/-- LAGGING is entered (R254, R266): once counted while it lasts. -/
def enterLagging (s : State) : State :=
  if s.on R.PWR_STATUS.lagging then s
  else ((s.bump R.PWR_LAGGING_COUNT.c).wr R.PWR_STATUS.lagging 1).wr R.PWR_STATUS.lagging_seen 1

/-- R267: LAGGING clears once every slot's duty is 8/8 and no slot is held slow. -/
def clearLagging (s : State) : State :=
  if s.pwr.slowHold = 0 ∧ s.rd R.PWR_DUTY.duty = 0x88888888 then s.wr R.PWR_STATUS.lagging 0 else s

/-- R265: the duty a slot is to have: the lowest of its cap, ramp and guard duties. -/
def wantedDuty (s : State) (slot : Nat) : Nat :=
  let x := s.slotPower slot
  min (min x.capDuty x.guardDuty) (if s.accPresent slot then s.pwr.dRamp else 8)

/-- The duty register with each slot's duty `f`. -/
def dutyWord (f : Nat → Nat) : Nat := total ((List.range 8).map fun i => f i % 16 * 16 ^ i)

/-- R265: duties fall at once to what is wanted; a rise waits for the slow period. -/
def refreshDuty (s : State) : State :=
  let s := s.wr R.PWR_DUTY.duty (dutyWord fun i => min (s.duty i) (wantedDuty s i))
  let s := s.wr R.PWR_STATUS.guard (b2n ((List.range 8).any fun i => (s.slotPower i).guardDuty < 8))
  clearLagging (s.wr R.PWR_STATUS.ramp (b2n (s.pwr.ramp.isSome || s.pwr.dRamp < 8)))

/-- R265: SLOW_PERIOD: at a period's end each slot's duty may rise by one eighth. -/
def slowPeriod (s : State) : State :=
  if s.now < s.pwr.slowAt + 10 * s.rd R.PWR_THROTTLE_CFG.slow_period then s
  else
    let s := { s with pwr := { s.pwr with slowAt := s.now } }
    refreshDuty (s.wr R.PWR_DUTY.duty (dutyWord fun i => min (s.duty i + 1) (max (s.duty i) (wantedDuty s i))))

/-- R264, R267: GAUGE_APPLY: 20 µs after the step mark's effective tick the gauge is applied. -/
def gaugeApply (s : State) : State := match s.pwr.applyAt with
  | none => s
  | some (t, g) =>
    if s.groupNow < t then s
    else
      let old := s.gauge
      let s := { s with pwr := { s.pwr with applyAt := none, appliedAt := s.groupNow,
                                            cutAt := if g < old then some (s.groupNow + 50000) else s.pwr.cutAt,
                                            sinceCut := if g < old then some 0 else s.pwr.sinceCut } }
      let s := s.wr R.PWR_GAUGE.gauge g
      let s := (List.range 8).foldl (init := s) fun s i => s.modSlotPower i fun x => { x with differs := x.stamp.isSome && x.reported != g }
      let s := s.admittedSlots.foldl (init := s) fun s i =>
        if g < old ∨ (s.slotPower i).want = some g then s else writeCore s g i
      let hold := ofMembers (s.admittedSlots.filter (unconfirmed s))
      let s := { s with pwr := { s.pwr with slowHold := hold } }
      let s := if hold = 0 then s else enterLagging s
      let fits := match capLevel s with
        | none => false
        | some l => decide (g ≤ l)
      let s := if fits then (List.range 8).foldl (init := s) fun s i => s.modSlotPower i fun x => { x with capDuty := 8 } else s
      refreshDuty s

/-- R254: VOLTAGE_CUT_WRITE: 50 µs after a cut was applied the lower voltages are written. -/
def voltageCutWrite (s : State) : State := match s.pwr.cutAt with
  | none => s
  | some t =>
    if s.groupNow < t ∨ ¬ s.procUp 1 then s
    else s.admittedSlots.foldl (fun s i => writeCore s s.gauge i) { s with pwr := { s.pwr with cutAt := none } }

/-- R254: VOLTAGE_CONFIRM: a read-back within 10 mV of the level written confirms it, and ends the slot's hold where it is at or above
the gauge in force. -/
def voltageConfirm (slot mv : Nat) (s : State) : State := match (s.slotPower slot).want with
  | none => s
  | some l =>
    let v := (s.entryAt slot l).v
    if ¬ s.procUp 1 ∨ mv + 10 < v ∨ v + 10 < mv then s
    else
      let s := s.modSlotPower slot fun x => { x with confirmed := some l }
      let s := if l < s.gauge then s else { s with pwr := { s.pwr with slowHold := setBit s.pwr.slowHold slot false } }
      clearLagging s

/-- R254, R256: on resuming, the Power processor writes v of the gauge in force to every admitted slot, and restores the caps. -/
def powerResumes (s : State) : State :=
  let s := s.admittedSlots.foldl (fun s i => writeCore s s.gauge i) s
  let s := (List.range 8).foldl (init := s) fun s i =>
    s.modSlotPower i fun x => { x with capDuty := min x.capDuty x.guardDuty, guardDuty := 8 }
  refreshDuty (refreshCaps { s with pwr := { s.pwr with guardExcess := none, guardBelow := none } })

/-- R253: GAUGE_MISMATCH: a reported gauge that still differs 100 µs after the application is recorded, once. -/
def gaugeMismatch (slot : Nat) (s : State) : State :=
  let x := s.slotPower slot
  if x.stamp.isSome ∧ x.differs ∧ ¬ x.mismatchNoted ∧ s.pwr.appliedAt + 100000 < s.groupNow then
    (s.modSlotPower slot fun x => { x with mismatchNoted := true }).err (0x3000 + slot) 0 0x0B 2
      (atByte 0 3 + atByte 1 x.reported + atByte 2 s.gauge)
  else s

/-! ## Averages and throttling -/

/-- A bucket's sum over a list of buckets. -/
def bucketSum (l : List PowerBucket) (f : PowerBucket → Rat) : Rat := sumW (l.map f)

/-- R258: the values of the interval that ends now, where its average is the highest of the step. -/
def notePeak (s : State) (slots : List Rat) (hub aux : Rat) : State :=
  let k : PowerPeak := { avg := s.pwr.trayAvg, slots := slots, duties := (List.range 8).map s.duty, gauge := s.gauge, hub := hub, aux := aux,
                         parts := s.pwr.partHub }
  match s.pwr.peak with
  | none => { s with pwr := { s.pwr with peak := some k } }
  | some p => if p.avg < k.avg then { s with pwr := { s.pwr with peak := some k } } else s

/-- Whether the current step's GAUGE row has not yet triggered (R266): some running die's list still has one to come. -/
def gaugeRowToCome (s : State) : Bool := match s.activePattern with
  | none => false
  | some p =>
    let ahead (d : Nat) (rows : List (List Nat)) : Bool :=
      s.dieUp d && (rows.zipIdx.any fun r => bits (r.1.getD 0 0) 3 0 == 8 && decide ((tget s.pat.seqs d).next ≤ r.2))
    ahead 0 p.rows0 || ahead 1 p.rows1

/-- R266: the predicted time from now, in ns, until a new request can be applied. -/
def applyDelay (s : State) : Nat :=
  let mark := max s.groupNow (s.cad.lastStamp + s.periodNs) - s.groupNow
  (if gaugeRowToCome s then mark else mark + s.periodNs) + 20000

/-- R266: the highest duty at which the power of a set of slots fits a limit; 1/8 where none does. -/
def fittingDuty (s : State) (slots : List Nat) (limit extra : Rat) : Nat :=
  let k := peakOf s
  let at_ (d : Nat) : Rat := sumW (slots.map fun i =>
    let idle : Rat := ((s.entryAt i k.gauge).idle : Rat)
    idle + (undutied s k i - idle) * (d : Rat) / 8) + extra
  (([8, 7, 6, 5, 4, 3, 2, 1].filter fun d => decide (at_ d ≤ limit)).head?).getD 1

/-- The cap duty of a set of slots falls to `d`. -/
def lowerCapDuty (s : State) (slots : List Nat) (d : Nat) : State :=
  slots.foldl (fun s i => s.modSlotPower i fun x => { x with capDuty := min x.capDuty d }) s

/-- R268: cap_level is below zero while the gauge in force is 0. -/
def belowFloor (s : State) : Bool := (capLevel s).isNone && s.gauge == 0

/-- Cap duties of the slots under an excess step down by one eighth. -/
def stepDown (s : State) (slots : List Nat) : State :=
  slots.foldl (fun s i => s.modSlotPower i fun x => { x with capDuty := max 1 (x.capDuty - 1) }) s

/-- The keys of the caps now exceeded: partitions by number, the tray as 8. -/
def exceeded (s : State) : List Nat := (List.range 9).filter fun k => if k = 8 then trayOver s else partOver s k

/-- R266, R268: the member throttles its own accelerators for every cap exceeded. -/
def throttle (s : State) : State :=
  let k := peakOf s
  let s := if ¬ trayOver s then s
    else if belowFloor s then stepDown s s.presentSlots
    else lowerCapDuty s s.presentSlots (fittingDuty s s.presentSlots (s.rd R.PWR_CAP_EFF.cap : Rat) (k.hub + k.aux))
  let s := (List.range 8).foldl (init := s) fun s p => match partCap s p with
    | none => s
    | some c =>
      if partOver s p then
        let l := s.presentSlots.filter fun i => s.partOf i = p
        lowerCapDuty s l (fittingDuty s l (c : Rat) (k.parts.getD p 0))
      else s
  refreshDuty (enterLagging { s with pwr := { s.pwr with dutyAt := s.now, throttled := ofMembers (exceeded s) } })

/-- R266: the excesses are looked at; each that begins now, or stands when a cap is lowered, is throttled where its case holds. -/
def lookAtExcess (s : State) (lowered : Bool) : State :=
  if ¬ s.procUp 1 then s
  else
    let now := exceeded s
    let fresh := now.filter fun k => (tfind s.pwr.excess k).isNone
    let start (k : Nat) : Nat := tgetD s.pwr.excess k s.now
    let s := { s with pwr := { s.pwr with excess := now.foldl (fun t k => tput t k (start k)) [],
                                          throttled := s.pwr.throttled &&& ofMembers now } }
    let hold := 1000 * s.rd R.PWR_THROTTLE_CFG.hold
    let late := now.any fun k =>
      decide (hold * 1000 < applyDelay s + 1000 * (s.now - start k)) || s.cad.stalled || s.gt.state == 3 || (k == 8 && belowFloor s)
    if (fresh ≠ [] ∨ (lowered ∧ now ≠ [])) ∧ late = true then throttle s else s

/-- R251, R256: AVERAGE_REFRESH: every 100 µs the 1 ms averages are refreshed and compared with the caps. -/
def averageRefresh (s : State) : State :=
  if s.pwr.acc.n = 0 then s
  else
    let bs := (s.pwr.acc :: s.pwr.buckets).take 10
    let n : Rat := ((total (bs.map PowerBucket.n) : Nat) : Rat)
    let slots := (List.range 8).map fun i => bucketSum bs (fun b => b.slots.getD i 0) / n
    let hub := bucketSum bs PowerBucket.hub / n
    let aux := bucketSum bs PowerBucket.aux / n
    let parts := (List.range 8).map fun p => sumW ((partSlots s p).map fun i => slots.getD i 0) + s.pwr.partHub.getD p 0
    let s := { s with pwr := { s.pwr with acc := {}, buckets := bs, trayAvg := bucketSum bs PowerBucket.tray / n, partAvg := parts } }
    let s := s.wr R.PWR_TRAY_EST.tray (shownW 16 s.pwr.trayAvg)
    let s := (List.range 8).foldl (init := s) fun s i =>
      (s.wr (R.PWR_ACC.estimate i) (shownW 16 (slots.getD i 0))).wr (R.PWR_PART.estimate i) (shownW 16 (parts.getD i 0))
    let s := notePeak s slots hub aux
    lookAtExcess (if s.procUp 1 then showCapLevel s else s) false

/-- R266: THROTTLE_HOLD_EXPIRE: an excess that has not been throttled has lasted the hold time. -/
def throttleHoldExpire (s : State) : State :=
  let hold := 1000 * s.rd R.PWR_THROTTLE_CFG.hold
  if s.procUp 1 ∧ (exceeded s).any (fun k => match tfind s.pwr.excess k with
      | some t => decide (t + hold ≤ s.now) && ! s.pwr.throttled.testBit k
      | none => false) then throttle s else s

/-- Whether an average stays at least 5% below its cap, for a slot: the tray's and its partition's (R267). -/
def wellBelow (s : State) (slot : Nat) : Bool :=
  (! trayCapped s || decide (s.pwr.trayAvg * 100 ≤ (s.rd R.PWR_CAP_EFF.cap : Rat) * 95)) &&
  (match partCap s (s.partOf slot) with
    | none => true
    | some c => decide (s.pwr.partAvg.getD (s.partOf slot) 0 * 100 ≤ (c : Rat) * 95))

/-- Whether an excess has stood for 1 ms (R267). -/
def overFor1ms (s : State) (key : Nat) : Bool := match tfind s.pwr.excess key with
  | some t => decide (t + 1000 ≤ s.now)
  | none => false

/-- R267, R268: CAP_DUTY_STEP: each 1 ms over a cap lowers the cap duties under it by one eighth; each 10 ms well below raises them. -/
def capDutyStep (s : State) : State :=
  if ¬ s.procUp 1 ∨ s.now < s.pwr.dutyAt + 1000 then s
  else
    let tray := trayOver s && overFor1ms s 8
    let excess := s.presentSlots.filter fun i =>
      (tray || (partOver s (s.partOf i) && overFor1ms s (s.partOf i))) && decide (1 < (s.slotPower i).capDuty) &&
        (decide ((s.slotPower i).capDuty < 8) || (tray && belowFloor s))
    if excess ≠ [] then
      let s := { s with pwr := { s.pwr with dutyAt := s.now, belowSince := s.pwr.belowSince.filter fun x => ! excess.contains x.1 } }
      refreshDuty (enterLagging (stepDown s excess))
    else
      let s := if trayOver s then s else (s.wr R.PWR_STATUS.unmet 0).wr R.PWR_UNMET.shortfall 0
      let low := (List.range 8).filter fun i => decide ((s.slotPower i).capDuty < 8) && wellBelow s i
      let since (i : Nat) : Nat := tgetD s.pwr.belowSince i s.now
      let rise := low.filter fun i => decide (since i + 10000 ≤ s.now)
      let s := { s with pwr := { s.pwr with belowSince := low.map fun i => (i, if rise.contains i then s.now else since i) } }
      if rise = [] then s
      else refreshDuty (rise.foldl (fun s i => s.modSlotPower i fun x => { x with capDuty := min 8 (x.capDuty + 1) }) s)

/-- R268, R405: CAP_UNMET: every present slot has stood at 1/8 for the 1 ms of the average, and it still exceeds the cap. It is reported
then and every 100 ms while it lasts. -/
def capUnmet (s : State) : State :=
  let due : Bool := match s.pwr.unmetAt with
    | none => true
    | some t => ! s.on R.PWR_STATUS.unmet || decide (t + 100000 ≤ s.now)
  if s.procUp 1 ∧ trayOver s ∧ s.presentSlots ≠ [] ∧ s.pwr.dutyAt + 1000 ≤ s.now ∧ (s.presentSlots.all fun i => (s.slotPower i).capDuty == 1) ∧ due = true then
    let short := max 1 (wholeW (s.pwr.trayAvg - (s.rd R.PWR_CAP_EFF.cap : Rat)))
    let s := { s with pwr := { s.pwr with unmetAt := some s.now } }
    let s := ((s.bump R.PWR_UNMET_COUNT.c).wr R.PWR_STATUS.unmet 1).wr R.PWR_STATUS.unmet_seen 1
    let s := s.wr R.PWR_UNMET.shortfall (min 0xFFFF short)
    s.notify 0x080 (bytesOf 4 short ++ bytesOf 2 (s.rd R.PWR_CAP_EFF.cap) ++ [s.rd R.PWR_CAP_EFF.source])
  else s

/-- R269: GUARD_DUTY_STEP: while the Power processor is out, the hardware guard steps the guard duty. -/
def guardDutyStep (s : State) : State :=
  let st := s.rd (R.FW_PROC.state 1)
  if (st ≠ 2 ∧ st ≠ 3) ∨ s.now < s.pwr.guardAt + 1000 then s
  else
    let s := { s with pwr := { s.pwr with guardAt := s.now } }
    if trayOver s then
      let t := s.pwr.guardExcess.getD (tgetD s.pwr.excess 8 s.now)
      let s := { s with pwr := { s.pwr with guardExcess := some t, guardBelow := none } }
      if s.now < t + 1000 * s.rd R.PWR_THROTTLE_CFG.hold then s
      else refreshDuty (s.presentSlots.foldl (fun s i => s.modSlotPower i fun x => { x with guardDuty := max 1 (x.guardDuty - 1) }) s)
    else if trayCapped s = false ∨ s.pwr.trayAvg * 100 ≤ (s.rd R.PWR_CAP_EFF.cap : Rat) * 95 then
      let t := s.pwr.guardBelow.getD s.now
      if s.now < t + 10000 then { s with pwr := { s.pwr with guardExcess := none, guardBelow := some t } }
      else
        let s := { s with pwr := { s.pwr with guardExcess := none, guardBelow := some s.now } }
        refreshDuty ((List.range 8).foldl (init := s) fun s i => s.modSlotPower i fun x => { x with guardDuty := min 8 (x.guardDuty + 1) })
    else { s with pwr := { s.pwr with guardExcess := none, guardBelow := none } }

/-! ## POWER rows, hints and ramps -/

/-- The page of the last PMBus write, after a write record (R435). -/
def pageAfter (page : Option Nat) (w : WriteRec) : Option Nat := if w.avs then page else some w.page

/-- The writes of a profile from its `from`th record on. Each PMBus write whose page differs from the one before it follows a PAGE write, PMBus
command 00H (R435; PRESUMED, log 83). -/
def profileWrites (s : State) (profile from_ n : Nat) : State := match s.img.profiles[profile]? with
  | none => s
  | some p =>
    let before := ((s.img.writes.drop p.first).take from_).foldl pageAfter none
    (((s.img.writes.drop (p.first + from_)).take n).foldl (init := (s, before)) fun (x : State × Option Nat) w =>
      let s := if w.avs || x.2 == some w.page then x.1
        else x.1.emit (.regWrite { w with command := 0, length := 1, data := w.page })
      (s.emit (.regWrite w), pageAfter x.2 w)).1

/-- R270, R435: the prepare writes of a profile, with its release writes pending at an angle. -/
def prePosition (s : State) (profile release : Nat) : State := match s.img.profiles[profile]? with
  | none => s
  | some p =>
    let s := profileWrites s profile 0 p.prepare
    { s with pwr := { s.pwr with releases := s.pwr.releases ++ [(profile, release)] } }

/-- The release writes of a profile. -/
def releaseWrites (s : State) (profile : Nat) : State := match s.img.profiles[profile]? with
  | none => s
  | some p => profileWrites s profile p.prepare p.release

/-- R272: a ramp window starts, or merges into the one that is open: the later end, the lower slope. -/
def startRamp (s : State) (lenNs slope : Nat) : State :=
  let e := s.groupNow + lenNs
  let w : RampWindow := match s.pwr.ramp with
    | none => { endAt := e, slope := slope, c := sumW ((List.range 8).map (slotNow s)) }
    | some q => { q with endAt := max q.endAt e, slope := min q.slope slope }
  refreshDuty { s with pwr := { s.pwr with ramp := some w } }

/-- R284: a coolant load is scheduled. -/
def scheduleLoad (s : State) (slots watts lenNs : Nat) : State :=
  { s with cool := { s.cool with loads := s.cool.loads ++ [{ slots := slots, watts := watts, start := s.groupNow, len := lenNs }] } }

/-- A duration of R270 in ns: units of 1/4,096 of the estimated period. -/
def durationNs (s : State) (d : Nat) : Nat := d * s.periodNs / 4096

/-- R270: the action of a POWER row, where the Power processor runs and the cadence is not stalled (R78, R271). -/
def powerRow (s : State) (action profile watts duration slope : Nat) : State :=
  if s.cad.stalled ∨ ¬ s.procUp 1 then s
  else
    let s := if action = 0 ∨ action = 3 then prePosition s profile (s.cad.angle + 16 * duration) else s
    let s := if action = 1 ∨ action = 3 then
      startRamp s (durationNs s duration) (if slope = 0 then s.rd R.PWR_RAMP_CFG.slope else slope) else s
    if action = 2 ∨ action = 3 then scheduleLoad s (ofMembers s.admittedSlots) watts (durationNs s duration) else s

/-- R271: what a hint has come due to do at the present angle; true while something of it is still to come. -/
def hintDue (s : State) (h : HintWait) : State × Option HintWait :=
  let a := s.cad.angle
  let s1 := if ! h.positioned && decide (h.lead ≤ a) then prePosition s s.img.hintProfile (h.angle + 16 * h.duration) else s
  let pos := h.positioned || decide (h.lead ≤ a)
  if h.angle ≤ a then
    (scheduleLoad (startRamp s1 (durationNs s1 h.duration) (s1.rd R.PWR_RAMP_CFG.slope)) (2 ^ h.slot) h.watts (durationNs s1 h.duration), none)
  else (s1, some { h with positioned := pos })

/-- The hints' parts that have come due. -/
def hintsDue (s : State) : State :=
  let hs := s.pwr.hints
  hs.foldl (init := { s with pwr := { s.pwr with hints := [] } }) fun s h =>
    match hintDue s h with
    | (s, none) => s
    | (s, some h) => { s with pwr := { s.pwr with hints := s.pwr.hints ++ [h] } }

/-- R271: HINT from an admitted accelerator. -/
def hintMessage (slot angle watts duration tag : Nat) (s : State) : State :=
  if ¬ s.marksHeard slot then s
  else if tag % 65536 ≠ s.cad.step % 65536 ∨ 8 ≤ (s.slotPower slot).hints then s.bump R.PWR_HINT_DROP.c
  else
    let s := s.modSlotPower slot fun x => { x with hints := x.hints + 1 }
    if s.cad.stalled ∨ ¬ s.procUp 1 then s
    else
      let lead := if s.periodNs = 0 then 0 else s.rd R.PWR_RAMP_CFG.lead * 10000 * 65536 / s.periodNs
      let h : HintWait := { slot := slot, angle := angle % 65536, lead := angle % 65536 - lead, watts := watts, duration := duration }
      hintsDue { s with pwr := { s.pwr with hints := s.pwr.hints ++ [h] } }

/-- R270, R271: POWER_RELEASE_WRITES: the release writes whose angle has been reached are issued, and hints act that have come due.
While the cadence is stalled nothing is. -/
def powerReleaseWrites (s : State) : State :=
  if s.cad.stalled then s
  else
    let s := hintsDue s
    let due := s.pwr.releases.filter fun r => r.2 ≤ s.cad.angle
    let s := { s with pwr := { s.pwr with releases := s.pwr.releases.filter fun r => s.cad.angle < r.2 } }
    due.foldl (fun s r => releaseWrites s r.1) s

/-- R272: RAMP_WINDOW_END: the window ends, at its end or at a stall (R271); then d_ramp rises one eighth every 10 µs to 8. -/
def rampWindowEnd (s : State) : State := match s.pwr.ramp with
  | some w => if w.endAt ≤ s.groupNow ∨ s.cad.stalled then
      refreshDuty { s with pwr := { s.pwr with ramp := none, rampAt := s.groupNow } } else s
  | none =>
    if s.pwr.dRamp < 8 ∧ s.pwr.rampAt + 10000 ≤ s.groupNow then
      refreshDuty { s with pwr := { s.pwr with dRamp := s.pwr.dRamp + 1, rampAt := s.groupNow } }
    else s

/-- R272: RAMP_LIMITER_TICK: every 2 µs of an open window c rises by the slope and d_ramp is adjusted. -/
def rampLimiterTick (s : State) : State := match s.pwr.ramp with
  | none => s
  | some w =>
    if w.endAt ≤ s.groupNow ∨ s.cad.stalled then rampWindowEnd s
    else
      let c : Rat := w.c + (w.slope : Rat) / 500
      let a := sumW ((List.range 8).map (slotNow s))
      let s := { s with pwr := { s.pwr with ramp := some { w with c := c } } }
      if c + 50 < a then
        (if s.pwr.dRamp ≤ 1 then s else refreshDuty { s with pwr := { s.pwr with dRamp := s.pwr.dRamp - 1, rampAt := s.groupNow } })
      else if a < c - 50 ∧ s.pwr.dRamp < 8 ∧ s.pwr.rampAt + 10000 ≤ s.groupNow then
        refreshDuty { s with pwr := { s.pwr with dRamp := s.pwr.dRamp + 1, rampAt := s.groupNow } }
      else s

/-- What a step mark does to power (R69, R258, R259, R264, R270): the gauge to apply is fixed, pending releases are issued, the peak
rolls over. It answers the gauge that BOUNDARY carries. -/
def powerStepMark (s : State) : State × Nat :=
  let s := s.pwr.releases.foldl (fun s r => releaseWrites s r.1) s
  let held := heldAtBoundary s
  let g := match s.pwr.result with
    | some r => if held then s.gauge else r.getD 0 0 % 64
    | none => s.gauge
  let clear (x : SlotPower) : SlotPower := { x with hints := 0 }
  let s := { s with pwr := { s.pwr with
    releases := [], hints := [], gaugeHeld := held, holdEnds := held && s.pwr.holdEnds, result := none, applyAt := some (s.groupNow + 20000, g),
    sinceCut := s.pwr.sinceCut.map (· + 1), peakPrev := s.pwr.peak, peak := none,
    slots := s.pwr.slots.map fun x => (x.1, clear x.2) } }
  (s, g)

/-! ## Energy -/

/-- R274: the partition with the largest count, the lowest number on a tie. -/
def largestPart (w : List Nat) : Nat :=
  (w.zipIdx.foldl (init := (0, 0)) fun b x => if b.2 < x.1 then (x.2, x.1) else b).1

/-- The data bytes that have crossed an accelerator link. -/
def linkTotal (k : Link) : Nat := k.plannedSent + k.plannedRecv + k.openSent + k.openRecv

/-- R273, R274: ENERGY_ATTRIBUTE: every 1 ms the hub's energy is divided among the partitions in proportion to their counts. -/
def energyAttribute (s : State) : State :=
  let e := wholeW s.pwr.hubEnergy
  let moved (l : Nat) : Nat :=
    let c := linkTotal (tget s.lnk.links l)
    if c < tget s.pwr.linkBytes l then c else c - tget s.pwr.linkBytes l
  let counts := (List.range 8).map fun p => tget s.pwr.partBytes p + total ((partSlots s p).map moved)
  let live := (List.range 8).map fun p => if (partSlots s p).any (slotOn s) then 1 else 0
  let w := if total counts = 0 then live else counts
  let t := total w
  let s := { s with pwr := { s.pwr with hubEnergy := s.pwr.hubEnergy - e, partBytes := [],
                                        linkBytes := (List.range 8).map fun l => (l, linkTotal (tget s.lnk.links l)) } }
  if t = 0 then { s with pwr := { s.pwr with partHub := [] } }
  else
    let shares := w.map fun c => e * c / t
    let big := largestPart w
    let shares := shares.zipIdx.map fun x => if x.2 = big then x.1 + (e - total shares) else x.1
    let s := { s with pwr := { s.pwr with partHub := shares.map fun (x : Nat) => (x : Rat) / 1000 } }
    shares.zipIdx.foldl (fun s x => s.addWide (R.PWR_ENERGY_LO.count x.2) x.1) s

/-- R252, R435: the first level at which a gauge table breaks its conditions. -/
def badLevel (t : List GaugeEntry) : Option Nat :=
  (List.range 64).find? fun l =>
    let e := t.getD l {}
    let p := if l = 0 then e else t.getD (l - 1) {}
    e.f == 0 || e.v == 0 || e.idle == 0 || e.pmax == 0 || e.f < p.f || e.v < p.v || e.pmax < p.pmax || e.pmax ≤ e.idle

/-- R435: the first level at which a gauge table lies above the gauge plan. -/
def abovePlan (s : State) (t : List GaugeEntry) : Option Nat :=
  (List.range 64).find? fun l =>
    let lim := s.img.gaugePlan.getD l 0xFFFF
    lim != 0xFFFF && decide (lim < (t.getD l {}).pmax)

/-- R252, R435: whether a slot's gauge table lets its accelerator be put forward. -/
def tableAllows (s : State) (slot : Nat) : Bool :=
  let t := (s.slotPower slot).table
  (badLevel t).isNone && (abovePlan s t).isNone

/-- R219, R248, R252, R435: the estimator takes what a slot's identity memory gives; a table that is refused is recorded. -/
def takePowerTable (s : State) (slot : Nat) (m : IdentityMem) : State :=
  let s := s.modSlotPower slot fun x => { x with table := m.gauge, coeff := m.coeff }
  match badLevel m.gauge with
  | some l => s.err (0x3000 + slot) 0 0x0B 2 (atByte 0 1 + atByte 1 l)
  | none => match abovePlan s m.gauge with
    | some l => s.err (0x3000 + slot) 0 0x0B 2 (atByte 0 2 + atByte 1 l)
    | none => s

/-- KS_CALIBRATE. -/
def execKsCalibrate (slot : Nat) (pout : Option Nat) (s : State) : Host.Outcome State Fault Refusal :=
  .next (ksCalibrate slot pout s)
/-- AUX_UPDATE. -/
def execAuxUpdate (pin : Option Nat) (s : State) : Host.Outcome State Fault Refusal := .next (auxUpdate pin s)
/-- TRAY_ESTIMATE. -/
def execTrayEstimate (s : State) : Host.Outcome State Fault Refusal := .next (trayEstimate s)
/-- AVERAGE_REFRESH. -/
def execAverageRefresh (s : State) : Host.Outcome State Fault Refusal := .next (averageRefresh s)
/-- THROTTLE_HOLD_EXPIRE. -/
def execThrottleHoldExpire (s : State) : Host.Outcome State Fault Refusal := .next (throttleHoldExpire s)
/-- CAP_DUTY_STEP. -/
def execCapDutyStep (s : State) : Host.Outcome State Fault Refusal := .next (capDutyStep s)
/-- CAP_UNMET. -/
def execCapUnmet (s : State) : Host.Outcome State Fault Refusal := .next (capUnmet s)
/-- GUARD_DUTY_STEP. -/
def execGuardDutyStep (s : State) : Host.Outcome State Fault Refusal := .next (guardDutyStep s)
/-- VOLTAGE_CUT_WRITE. -/
def execVoltageCutWrite (s : State) : Host.Outcome State Fault Refusal := .next (voltageCutWrite s)
/-- VOLTAGE_CONFIRM. -/
def execVoltageConfirm (slot mv : Nat) (s : State) : Host.Outcome State Fault Refusal := .next (voltageConfirm slot mv s)
/-- GAUGE_MISMATCH. -/
def execGaugeMismatch (slot : Nat) (s : State) : Host.Outcome State Fault Refusal := .next (gaugeMismatch slot s)
/-- HUB_ALLOWANCE. -/
def execHubAllowance (s : State) : Host.Outcome State Fault Refusal := .next (hubAllowance s)
/-- POWER_RELEASE_WRITES. -/
def execPowerReleaseWrites (s : State) : Host.Outcome State Fault Refusal := .next (powerReleaseWrites s)
/-- RAMP_LIMITER_TICK. -/
def execRampLimiterTick (s : State) : Host.Outcome State Fault Refusal := .next (rampLimiterTick s)
/-- RAMP_WINDOW_END. -/
def execRampWindowEnd (s : State) : Host.Outcome State Fault Refusal := .next (rampWindowEnd s)
/-- ENERGY_ATTRIBUTE. -/
def execEnergyAttribute (s : State) : Host.Outcome State Fault Refusal := .next (energyAttribute s)
/-- GAUGE_APPLY. -/
def execGaugeApply (s : State) : Host.Outcome State Fault Refusal := .next (gaugeApply s)
/-- SLOW_PERIOD. -/
def execSlowPeriod (s : State) : Host.Outcome State Fault Refusal := .next (slowPeriod s)

end Sys2Proof.Machine
end

