-- ==== Sys2Proof/Machine/Shares.lean ====
section
/-! DEFINITION. The token buckets of open traffic (R19, R189): links, pools and the bridge. Resource 2k is the receive direction of link k
and 2k + 1 its transmit direction; 32 and above are the pools, HBM then LPDDR5X for each die; 48 and 49 are the bridge, from H0 to H1 and
back. -/

namespace Sys2Proof.Machine

/-- The share in force on a link or pool, in percent, as applied on its die (R25, R27, R81). -/
def resourceShare (s : State) (x : Nat) : Nat :=
  if x < 32 then s.rd (R.MEM_SHARE.link_applied (linkDie (x / 2))) else s.rd (R.MEM_SHARE.pool_applied ((x - 32) / 2))

/-- Whether a row in flight carries traffic over the bridge (R74). -/
def usesBridge (f : Flight) : Bool := (f.words.getD 3 0).testBit 24

/-- R19: the bandwidth of one direction of the bridge that the rows in flight leave free, in bytes a microsecond: all of its 2.4 TB/s, or what
a row leaves that carries traffic over it, which no rule gives and the row does not say. -/
def bridgeFree (s : State) (x : Nat) : Nat :=
  (s.pat.flights.filter usesBridge).foldl (fun n f => min n (Config.bridgeLeft x f.words)) 2400000

/-- What a resource's bucket fills by in one ns, in thousandths of a byte (R189): its share of 376 GB/s of an accelerator link, 94 GB/s of a
Sotin port, 3,686.4 GB/s of an HBM pool or 307.2 GB/s of an LPDDR5X pool. -/
def fillRate (s : State) (x : Nat) : Nat :=
  if 48 ≤ x then bridgeFree s x
  else
    let share := resourceShare s x
    if x < 16 then 3760 * share else if x < 32 then 940 * share
    else if x % 2 = 0 then 36864 * share else 3072 * share

/-- Thousandths of a byte spent from a resource's bucket and not yet refilled. -/
def spentNow (s : State) (x : Nat) : Nat :=
  let p := tget s.mem.spent x
  p.1 - fillRate s x * (s.gt.time - p.2)

/-- Every bucket filled up to now, before what fills it changes (R189). -/
def settleBuckets (s : State) : State :=
  { s with mem := { s.mem with spent := s.mem.spent.map fun p => (p.1, spentNow s p.1, s.gt.time) } }

/-- Whether the die that a resource belongs to carries traffic; the bridge needs both. -/
def resourceUp (s : State) (x : Nat) : Bool :=
  if 48 ≤ x then s.carries 0 && s.carries 1 else s.carries (if x < 32 then linkDie (x / 2) else (x - 32) / 2)

/-- R189: whether a resource has tokens for a charge; one that does not fill has none. A resource of a die that carries no traffic takes no
part: what is asked of it is answered without it (R40). -/
def hasTokens (s : State) (c : Nat × Nat) : Bool :=
  ! resourceUp s c.1 || fillRate s c.1 != 0 && decide (spentNow s c.1 + c.2 * 1000 ≤ 4096 * 1000)

/-- A charge taken from its resource's bucket. -/
def spend (s : State) (c : Nat × Nat) : State :=
  { s with mem := { s.mem with spent := tput s.mem.spent c.1 (spentNow s c.1 + c.2 * 1000, s.gt.time) } }

end Sys2Proof.Machine
end

