-- ==== Sys2Proof/Machine/Governor.lean ====
section
/-! DEFINITION. The hub governor and the two controls it shares with the thermal throttle (R22 to R28, R291). -/

namespace Sys2Proof.Machine

/-- A die's thermal factor in percent (R291), as COOL_HUB_THR holds it. -/
def thermalFactor (s : State) (d : Nat) : Nat := s.rd (if d = 0 then R.COOL_HUB_THR.h0_factor else R.COOL_HUB_THR.h1_factor)

/-- R25, R27, R291: the open-window share applied, in percent, for a share in force: the lower of the governor's and the thermal
value. The floor of 2% lifts no share above the one in force. -/
def appliedShare (s : State) (d share : Nat) : Nat :=
  let cut := (tget s.sup.dies d).shareCut
  let gov := if share ≤ 2 then share else max 2 (share - cut)
  min gov (max 2 (share * thermalFactor s d / 100))

/-- R25, R27, R291: the MAC-array issue rate in sixteenths. -/
def issueRate (s : State) (d : Nat) : Nat :=
  min (max 4 (16 - (tget s.sup.dies d).issueCut)) (max 4 (16 * thermalFactor s d / 100))

/-- MEM_SHARE shows the shares in force and applied (R25, R81). -/
def refreshShares (s : State) (d : Nat) : State :=
  if ¬ s.dieUp d then s
  else
    let (link, pool) := tgetD s.mem.shares d (20, 20)
    let s := ((settleBuckets s).wr (R.MEM_SHARE.link_share d) link).wr (R.MEM_SHARE.pool_share d) pool
    (s.wr (R.MEM_SHARE.link_applied d) (appliedShare s d link)).wr (R.MEM_SHARE.pool_applied d) (appliedShare s d pool)

/-- R24: half of the governor limit, in mW. -/
def halfLimit (s : State) : Nat := min 600 (s.rd R.PWR_HUB.allowance) * 500

/-- Whether both controls of a die stand at their floors (R25, R28). -/
def atFloors (s : State) (d : Nat) : Bool :=
  let (link, pool) := tgetD s.mem.shares d (20, 20)
  decide (max link pool - 2 ≤ (tget s.sup.dies d).shareCut) && decide (12 ≤ (tget s.sup.dies d).issueCut)

/-- R23: a die's estimate in mW: its half of the warden's 6 W and what its activity counters give. -/
def dieEstimate (x : Die) (activity : List Nat) : Nat :=
  3000 + total (activity.zipIdx.map fun a => a.1 * x.coeff.getD a.2 0) * x.scale / 65536

/-- R23, R25, R26, R28: GOVERNOR_ESTIMATE: each 1 µs the estimate is taken, and while it is over the die's half of the limit the first
control that is not at its floor steps down. -/
def governorEstimate (d : Nat) (activity : List Nat) (s : State) : State :=
  if ¬ s.dieUp d then s
  else
    let e := dieEstimate (tget s.sup.dies d) activity
    let half := halfLimit s
    let s := s.modDie d fun x => { x with estimate := e }
    if half < e then
      let (link, pool) := tgetD s.mem.shares d (20, 20)
      let shareFree := decide ((tget s.sup.dies d).shareCut < max link pool - 2)
      let s := s.modDie d fun x =>
        { x with shareCut := if shareFree then x.shareCut + 2 else x.shareCut,
                 issueCut := if shareFree then x.issueCut else min 12 (x.issueCut + 1), underSince := none, marginSince := none }
      let floors := atFloors s d
      let s := s.modDie d fun x =>
        { x with overSince := if floors then some (x.overSince.getD s.now) else none }
      refreshShares s d
    else s.modDie d fun x =>
      { x with overSince := none, underSince := some (x.underSince.getD s.now),
               marginSince := if e + 6000 ≤ half then some (x.marginSince.getD s.now) else none }

/-- R23: GOVERNOR_RESCALE: every 10 ms the Power processor rescales the coefficients to the regulators' reading in mW. -/
def governorRescale (d measured : Nat) (s : State) : State :=
  if 2 ≤ d ∨ ¬ s.procUp 1 then s
  else
    let s := { s with pwr := { s.pwr with dieRead := tput s.pwr.dieRead d (measured, s.now) } }
    let x := tget s.sup.dies d
    if s.dieUp d ∧ 3000 < x.estimate then
      s.modDie d fun x => { x with scale := x.scale * (measured - 3000) / (x.estimate - 3000) }
    else s

/-- R26: GOVERNOR_RELEASE: once the estimate has stayed 6 W below for 100 µs, one step is released every 10 µs, the issue rate
first. -/
def governorRelease (d : Nat) (s : State) : State :=
  let x := tget s.sup.dies d
  match x.marginSince with
  | none => s
  | some t =>
    if ¬ s.dieUp d ∨ s.now < t + 100 ∨ s.now < x.lastRelease + 10 ∨ (x.issueCut = 0 ∧ x.shareCut = 0) then s
    else
      let s := s.modDie d fun x =>
        { x with lastRelease := s.now, issueCut := x.issueCut - 1, shareCut := if x.issueCut = 0 then x.shareCut - 2 else x.shareCut }
      refreshShares s d

/-- R28: PACKAGE_LIMIT_UNMET: a die over its half for 100 µs with both controls at their floors, recorded once. R28 names no unit: the record
carries the die's crossbar (DESIGN CHOICE, log 71). -/
def packageLimitUnmet (d : Nat) (s : State) : State :=
  let x := tget s.sup.dies d
  match x.overSince with
  | none => s
  | some t =>
    if ¬ s.dieUp d ∨ x.unmet ∨ s.now < t + 100 then s
    else (s.modDie d fun x => { x with unmet := true }).err (0x1000 * (d + 1) + 0xC0) 0 0x0B 2 0

/-- R28: PACKAGE_LIMIT_CLEAR: the estimate has stayed under the limit for 1 ms. -/
def packageLimitClear (d : Nat) (s : State) : State :=
  let x := tget s.sup.dies d
  match x.underSince with
  | none => s
  | some t => if x.unmet ∧ t + 1000 ≤ s.now then s.modDie d fun x => { x with unmet := false } else s

/-- GOVERNOR_ESTIMATE. -/
def execGovernorEstimate (die : Nat) (activity : List Nat) (s : State) : Host.Outcome State Fault Refusal :=
  .next (governorEstimate die activity s)
/-- GOVERNOR_RESCALE. -/
def execGovernorRescale (die measured : Nat) (s : State) : Host.Outcome State Fault Refusal := .next (governorRescale die measured s)
/-- GOVERNOR_RELEASE. -/
def execGovernorRelease (die : Nat) (s : State) : Host.Outcome State Fault Refusal := .next (governorRelease die s)
/-- PACKAGE_LIMIT_UNMET. -/
def execPackageLimitUnmet (die : Nat) (s : State) : Host.Outcome State Fault Refusal := .next (packageLimitUnmet die s)
/-- PACKAGE_LIMIT_CLEAR. -/
def execPackageLimitClear (die : Nat) (s : State) : Host.Outcome State Fault Refusal := .next (packageLimitClear die s)

end Sys2Proof.Machine
end

