-- ==== Sys2Proof/Machine/Cooling.lean ====
section
/-! DEFINITION. Cooling: sensors, the surrogate, control laws, the floor engine, heat throttling, trips, fans, pumps and valves (R277 to
R300). Temperatures are in units of 0.125 °C. -/

namespace Sys2Proof.Machine

/-! ## Readings -/

/-- A register field read as two's complement. -/
def State.rdSigned (s : State) (f : Fld) : Int := toSigned f.w (s.rd f)

/-- Whether a thermistor is fitted (R277). -/
def tempFitted (s : State) (n : Nat) : Bool := s.img.plant.temps.testBit n

/-- The last prediction of output `k` of the surrogate, where the model has run (R439). -/
def predictedOut (s : State) (k : Nat) : Option Rat :=
  if s.cool.predicted = [] then none else let w := s.cool.predicted.getD k 0; some ((fp32.decode w).toRat w)

/-- A prediction as a temperature. -/
def predictedTemp (s : State) (k : Nat) : Option Int := (predictedOut s k).map fun r => (r * 8).floor

/-- R279, R281: the temperature control uses for a TEMP_SNS. -/
def controlTemp (s : State) (n : Nat) : Int :=
  let v := s.rdSigned (R.COOL_TEMP.value n)
  match predictedTemp s (10 + n) with
  | none => v
  | some p => if s.on (R.COOL_TEMP.failed n) then p else if s.on (R.COOL_TEMP.suspect n) then max v p else v

/-- R281: the flow control uses for a branch, in 10 mL/min. -/
def controlFlow (s : State) (n : Nat) : Int :=
  let v : Int := (s.rd (R.COOL_FLOW.value n) : Int)
  match predictedOut s (26 + n) with
  | none => v
  | some p => if s.on (R.COOL_FLOW.suspect n) then min v (p * 100).floor else v

/-- Changes what is held of a sensor input: TEMP_SNS 0 to 15, FLOW_PLS 16 to 23. -/
def State.modSensor (s : State) (n : Nat) (f : Sensor → Sensor) : State :=
  { s with cool := { s.cool with sensors := tmod s.cool.sensors n f } }

/-- R279: THERMISTOR_SAMPLE. -/
def thermistorSample (n value : Nat) (s : State) : State :=
  if 16 ≤ n ∨ ¬ tempFitted s n then s
  else
    let s := s.wr (R.COOL_TEMP.value n) (value % 65536)
    let v := toSigned 16 value
    if v < -320 ∨ 1200 < v then (s.wr (R.COOL_TEMP.failed n) 1).modSensor n fun x => { x with inRangeSince := none }
    else if ¬ s.on (R.COOL_TEMP.failed n) then s
    else
      let t := (tget s.cool.sensors n).inRangeSince.getD s.now
      if t + 10000000 ≤ s.now then (s.wr (R.COOL_TEMP.failed n) 0).modSensor n fun x => { x with inRangeSince := none }
      else s.modSensor n fun x => { x with inRangeSince := some t }

/-- R278: ACC_TEMP_READ: after three failed reads in a row the slot takes the surrogate's prediction plus 2 °C, or its last reading plus
2 °C where there is no surrogate (log 41). -/
def accTempRead (slot : Nat) (temp : Option Nat) (s : State) : State :=
  if 8 ≤ slot ∨ ¬ s.procUp 2 ∨ ¬ slotOn s slot then s
  else match temp with
    | some t =>
      let s := { s with cool := { s.cool with readFails := tdel s.cool.readFails slot } }
      (s.wr (R.COOL_ACC.temp slot) t).wr (R.COOL_ACC.read_fail slot) 0
    | none =>
      let n := tget s.cool.readFails slot + 1
      let fresh := n = 3
      let s := { s with cool := { s.cool with readFails := tput s.cool.readFails slot (min 3 n) } }
      if n < 3 then s
      else
        let s := s.wr (R.COOL_ACC.read_fail slot) 1
        match predictedTemp s slot with
        | some p => s.wr (R.COOL_ACC.temp slot) (ofSigned 16 (p + 16))
        | none => if fresh then s.wr (R.COOL_ACC.temp slot) (ofSigned 16 (s.rdSigned (R.COOL_ACC.temp slot) + 16)) else s

/-! ## The floor engine and the pins -/

/-- Whether any kiln trip is active. -/
def anyKiln (s : State) : Bool := s.on R.COOL_KILN.h0_trip || s.on R.COOL_KILN.h1_trip

/-- Whether a die's kiln trip is active. -/
def kilnActive (s : State) (d : Nat) : Bool := s.on (if d = 0 then R.COOL_KILN.h0_trip else R.COOL_KILN.h1_trip)

/-- The cooling table's top breakpoint. -/
def topBreakpoint (s : State) : Int := match s.img.plant.table.getLast? with
  | some r => r.breakpoint * 8
  | none => 0

/-- R287: the floor input, none where nothing is read. -/
def floorInput (s : State) : Option Int :=
  let dts := (if s.dieUp 0 then [s.rdSigned R.MON_DTS_H0.temp] else []) ++ (if s.dieUp 1 then [s.rdSigned R.MON_DTS_H1.temp] else [])
  let temps := ((List.range 16).filter fun n => tempFitted s n && ! s.on (R.COOL_TEMP.failed n)).map fun n =>
    controlTemp s n + s.img.plant.offsets.getD n 0 * 8
  let all := dts ++ temps ++ (if anyKiln s then [topBreakpoint s] else [])
  match all with
  | [] => none
  | x :: r => some (r.foldl max x)

/-- R287: the row of the cooling table that a floor input reaches. -/
def coolRowAt (s : State) (f : Option Int) : CoolRow :=
  let t := s.img.plant.table
  match f with
  | none => t.headD {}
  | some v => (t.foldl (init := t.headD {}) fun best r => if r.breakpoint * 8 ≤ v then r else best)

/-- R287: the row whose floor minima are in force: until an image has been verified every minimum is 100%. -/
def floorRow (s : State) : CoolRow := if s.rd R.CFG_STATUS.state = 1 then coolRowAt s s.cool.f else {}

/-- Whether any fitted fan is stalled or failed. -/
def fanTrouble (s : State) : Bool := (List.range 8).any fun n => fanFitted s n && (fanState s n == 3 || fanState s n == 4)

/-- Whether a pump is failed. -/
def pumpFailed (s : State) (n : Nat) : Bool := s.rd (R.COOL_PUMP.state n) == 4

/-- R288, R296 to R299: the duty at a fan's pin. -/
def fanPin (s : State) (n : Nat) : Nat :=
  let x := tget s.cool.fans n
  let st := fanState s n
  if ¬ fanFitted s n then 0
  else if x.kicking ∨ st = 2 then 100
  else if st = 4 then (if s.rd (R.COOL_FAN.reason n) = 3 then 100 else 0)
  else if st = 3 then 0
  else if fanTrouble s ∨ s.on R.COOL_STATUS.no_pump then 100
  else max s.cool.fanCmd (floorRow s).floorFan

/-- R288, R299: the duty at a pump's pin. A failed pump is not driven (log 42). -/
def pumpPin (s : State) (n : Nat) : Nat :=
  if ¬ s.img.plant.pumps.testBit n ∨ pumpFailed s n then 0
  else if pumpFailed s (1 - n) ∨ s.now < (tget s.cool.pumps n).startUntil then 100
  else max s.cool.pumpCmd (floorRow s).floorPump

/-- R288, R295, R300: the opening at a valve's pin. -/
def valvePin (s : State) (n : Nat) : Nat :=
  if s.on (R.COOL_VALVE.flagged n) ∨ s.now < tget s.cool.openUntil n then 100
  else max (tgetD s.cool.valveCmd n 100) (floorRow s).floorValve

/-- A fan that is off and whose law drives it starts. -/
def wakeFans (s : State) : State :=
  (List.range 8).foldl (init := s) fun s n => if fanFitted s n ∧ fanState s n = 0 ∧ 0 < fanPin s n then startFan s n else s

/-- The pins follow the commands, the floor minimums and the failure actions (R288). -/
def drivePins (s : State) : State :=
  let s := wakeFans s
  let row := floorRow s
  let s := (List.range 8).foldl (init := s) fun s n =>
    (s.wr (R.COOL_FAN.duty n) (fanPin s n)).wr (R.COOL_VALVE.command n) (valvePin s n)
  let s := [0, 1].foldl (init := s) fun s n =>
    let p := pumpPin s n
    (s.wr (R.COOL_PUMP.duty n) p).wr (R.COOL_PUMP.state n) (if pumpFailed s n then 4 else if p = 0 then 0 else 1)
  let raising := decide (s.cool.fanCmd < row.floorFan) || decide (s.cool.pumpCmd < row.floorPump) ||
    (List.range 8).any fun n => decide (tgetD s.cool.valveCmd n 100 < row.floorValve)
  s.wr R.COOL_STATUS.floor_raising (b2n raising)

/-- What COOL_STATUS shows of failures. -/
def refreshCoolFlags (s : State) : State :=
  let s := s.wr R.COOL_STATUS.fan_failed (b2n (fanTrouble s))
  let s := s.wr R.COOL_STATUS.pump_failed (b2n (pumpFailed s 0 || pumpFailed s 1))
  let s := s.wr R.COOL_STATUS.valve_flagged (b2n ((List.range 8).any fun n => s.on (R.COOL_VALVE.flagged n)))
  let s := s.wr R.COOL_STATUS.no_pump (b2n (pumpFailed s 0 && pumpFailed s 1))
  let s := s.wr R.COOL_STATUS.suspect (b2n ((List.range 16).any (fun n => s.on (R.COOL_TEMP.suspect n)) ||
    (List.range 8).any fun n => s.on (R.COOL_FLOW.suspect n)))
  if s.on R.COOL_STATUS.no_pump then drivePins (s.wr R.COOL_THERMAL.ceiling 0) else drivePins s

/-- R290: the ceiling while the Cooling processor is halted: its last value, but 0 while the floor input is at or above the top breakpoint, and
while no pump runs. -/
def haltedCeiling (s : State) (hot : Bool) : State :=
  let held := s.cool.heldCeiling.getD (s.rd R.COOL_THERMAL.ceiling)
  let s := { s with cool := { s.cool with heldCeiling := if hot then some held else none } }
  s.wr R.COOL_THERMAL.ceiling (if hot || s.on R.COOL_STATUS.no_pump then 0 else held)

/-- R287, R288, R290: FLOOR_TICK: every 1 ms the floor input is formed and the actuators raised to the minimums. -/
def floorTick (s : State) : State :=
  let s := { s with cool := { s.cool with f := floorInput s } }
  let hot := match s.cool.f with
    | some v => s.img.plant.table ≠ [] && decide (topBreakpoint s ≤ v)
    | none => false
  drivePins (if s.rd (R.FW_PROC.state 2) = 3 then haltedCeiling s hot else s)

/-! ## Modes -/

/-- R286: the mode whose conditions hold: 0 MODEL, 1 TABLE, 2 FLOOR. -/
def wantedMode (s : State) : Nat :=
  if ¬ s.procUp 2 ∨ s.rd R.CFG_STATUS.state ≠ 1 then 2
  else if s.on R.MGT_STATUS.alone ∨ s.img.surrogate.isNone ∨ s.on R.COOL_STATUS.implausible then 1
  else 0

/-- The reason shown in TABLE: no weights before an implausible model before silence (log 41). -/
def tableReason (s : State) : Nat :=
  if s.img.surrogate.isNone then 2 else if s.on R.COOL_STATUS.implausible then 3 else 1

/-- R286: a mode is entered. TABLE is left only at a control period. -/
def setMode (s : State) (period : Bool) : State :=
  let m := wantedMode s
  let old := s.rd R.COOL_STATUS.mode
  let m := if old = 1 ∧ m = 0 ∧ ¬ period then 1 else m
  (s.wr R.COOL_STATUS.mode m).wr R.COOL_STATUS.table_reason (if m = 1 ∧ wantedMode s = 1 then tableReason s else 0)

/-- R282: the mark of an implausible model is removed, and checks and MODEL mode resume. -/
def clearImplausible (s : State) : State := setMode (s.wr R.COOL_STATUS.implausible 0) false

/-- MODEL_RESUME: 10 minutes after the mark (R282). -/
def modelResume (s : State) : State :=
  if s.on R.COOL_STATUS.implausible ∧ s.cool.implausibleAt + 600000000 ≤ s.now then clearImplausible s else s

/-! ## The surrogate -/

/-- A rational number as an FP32 value, rounded to the nearest. -/
def fp32OfRat (r : Rat) : Num := fp32.op (Num.div (.fin (decide (r < 0)) r.num.natAbs 0) (.fin false r.den 0))

/-- The FP32 word of a value. -/
def fp32Word (x : Num) : Nat := (fp32.convert .nearest x).code

/-- R438: a sum of products of BF16 weights with FP32 activations, in FP32 in ascending index, onto `acc`. -/
def surrogateDot (acc : Num) (w : List Nat) (x : List Num) : Num :=
  (w.zip x).foldl (fun a p => fp32.op (a.add (fp32.op ((bf16.decode p.1).mul p.2)))) acc

/-- Row `j` of a row-major matrix of `n` columns. -/
def matRow (m : List Nat) (n j : Nat) : List Nat := (m.drop (n * j)).take n

/-- R438: one step: the new hidden layer and the outputs, as FP32 words. -/
def surrogateStep (q : Surrogate) (input : List Num) (h : List Nat) : List Nat × List Nat :=
  let dec (w : Nat) : Num := fp32.decode w
  let x := input.zipIdx.map fun p =>
    fp32.op ((fp32.op (p.1.add (dec (q.offset.getD p.2 0)).negate)).mul (dec (q.scale.getD p.2 0)))
  let hv := h.map dec
  let h' := (List.range q.nh).map fun j =>
    let a := surrogateDot .zero (matRow q.wx 41 j) x
    let a := surrogateDot a (matRow q.wh q.nh j) hv
    Config.tanh32 (fp32Word (fp32.op (a.add (dec (q.b.getD j 0))))) % 2 ^ 32
  let hd := h'.map dec
  let y := (List.range 35).map fun k =>
    let a := surrogateDot .zero (matRow q.wy q.nh k) hd
    let y := fp32.op (a.add (dec (q.c.getD k 0)))
    fp32Word (fp32.op ((fp32.op (y.mul (dec (q.outScale.getD k 0)))).add (dec (q.outOffset.getD k 0))))
  (h', y)

/-- R284: the mean added load of a slot over the next 200 ms. -/
def scheduledLoad (s : State) (slot : Nat) : Rat :=
  sumW (s.cool.loads.map fun l =>
    if ¬ l.slots.testBit slot then 0
    else
      let a := max s.groupNow l.start
      let b := min (s.groupNow + 200000000) (l.start + l.len)
      (l.watts : Rat) / (max 1 (popcount l.slots 8) : Nat) * ((b - a : Nat) : Rat) / 200000000)

/-- R439: the 41 inputs, with the valve positions given. Temperatures in °C, pressures in kPa, positions in percent, speeds in
revolutions per minute (log 43). An input of an unfitted unit is 0. -/
def surrogateInputs (s : State) (valves : List Rat) : List Rat :=
  let temp (n : Nat) : Rat := if tempFitted s n then (controlTemp s n : Rat) / 8 else 0
  (List.range 8).map (slotNow s) ++ [dieNow s 0, dieNow s 1, s.pwr.aux, temp s.img.plant.supply] ++
  [0, 1].map (fun n => if s.img.plant.presses.testBit n then (s.rd (R.COOL_PRESS.kpa n) : Rat) else 0) ++ valves ++
  [0, 1].map (fun n => (s.rd (R.COOL_PUMP.rpm n) : Rat)) ++
  (List.range 8).map (fun n => if fanFitted s n then (s.rd (R.COOL_FAN.rpm n) : Rat) else 0) ++
  [temp s.img.plant.inlet] ++ (List.range 8).map (scheduledLoad s)

/-- The valve positions as read. -/
def valvePositions (s : State) : List Rat := (List.range 8).map fun n => (s.rd (R.COOL_VALVE.position n) : Rat)

/-- A sensor's suspect mark. -/
def suspectFld (n : Nat) : Fld := if n < 16 then R.COOL_TEMP.suspect n else R.COOL_FLOW.suspect (n - 16)

/-- R281: the comparison of one input's reading with its prediction, which departs, agrees or neither. -/
def compareSensor (s : State) (n : Nat) (departs agrees : Bool) : State :=
  let x := tget s.cool.sensors n
  if s.on (suspectFld n) then
    if ¬ agrees then s.modSensor n fun y => { y with agreeSince := none }
    else
      let t := x.agreeSince.getD s.now
      if t + 60000000 ≤ s.now then (s.wr (suspectFld n) 0).modSensor n fun y => { y with agreeSince := none, departSince := none }
      else s.modSensor n fun y => { y with agreeSince := some t }
  else if ¬ departs then s.modSensor n fun y => { y with departSince := none }
  else
    let t := x.departSince.getD s.now
    if t + 2000000 ≤ s.now then
      ((s.wr (suspectFld n) 1).bump R.COOL_SUSPECT_COUNT.c).modSensor n fun y => { y with agreeSince := none }
    else s.modSensor n fun y => { y with departSince := some t }

/-- R281: every fitted reading is compared with its prediction. -/
def compareAll (s : State) : State :=
  let temp (s : State) (n : Nat) : State := match predictedTemp s (10 + n) with
    | none => s
    | some p =>
      let d := (s.rdSigned (R.COOL_TEMP.value n) - p).natAbs
      if tempFitted s n then compareSensor s n (decide (48 < d)) (decide (d ≤ 24)) else s
  let flow (s : State) (n : Nat) : State := match predictedOut s (26 + n) with
    | none => s
    | some p =>
      let v : Rat := (s.rd (R.COOL_FLOW.value n) : Rat) / 100
      let d : Rat := if v < p then p - v else v - p
      if s.img.plant.flows.testBit n then compareSensor s (16 + n) (decide (p < d * 4)) (decide (d * 8 ≤ p)) else s
  (List.range 8).foldl flow ((List.range 16).foldl temp s)

/-- R282: four suspect sensors at once mark the model implausible. -/
def checkPlausible (s : State) : State :=
  let n := ((List.range 24).filter fun n => s.on (suspectFld n)).length
  if n < 4 then s
  else
    let s := (List.range 24).foldl (fun s n => s.wr (suspectFld n) 0) s
    let fresh (x : Sensor) : Sensor := { x with departSince := none, agreeSince := none }
    let s := { s with cool := { s.cool with sensors := s.cool.sensors.map fun (x : Nat × Sensor) => (x.1, fresh x.2), implausibleAt := s.now } }
    (setMode (s.wr R.COOL_STATUS.implausible 1) false).err 0x0013 0 0x0C 3 0

/-- R280, R281, R282: SURROGATE_TICK: the inputs are latched, the model steps and its predictions are compared. -/
def surrogateTick (flows presses : List Nat) (s : State) : State :=
  let s := (List.range 8).foldl (init := s) fun s n =>
    if s.img.plant.flows.testBit n then s.wr (R.COOL_FLOW.value n) (min 65535 (flows.getD n 0)) else s
  let s := [0, 1].foldl (init := s) fun s n =>
    if s.img.plant.presses.testBit n then s.wr (R.COOL_PRESS.kpa n) (min 65535 (presses.getD n 0)) else s
  let s := { s with cool := { s.cool with loads := s.cool.loads.filter fun l => s.groupNow < l.start + l.len } }
  match s.img.surrogate with
  | none => s
  | some q =>
    if ¬ s.on R.PWR_DOMAIN_W.w0_on then s
    else
      let h := if s.cool.h.length = q.nh then s.cool.h else List.replicate q.nh 0
      let (h', y) := surrogateStep q ((surrogateInputs s (valvePositions s)).map fp32OfRat) h
      let s := { s with cool := { s.cool with h := h', predicted := y, ticks := s.cool.ticks + 1 } }
      if s.procUp 2 ∧ ¬ s.on R.COOL_STATUS.implausible then refreshCoolFlags (checkPlausible (compareAll s)) else s

/-! ## Control laws -/

/-- R283: the cost of `n` further ticks of a rollout from a hidden layer with fixed inputs: the excess heat of the admitted slots. -/
def rolloutHeat (s : State) (q : Surrogate) (input : List Num) (n : Nat) (h : List Nat) : Rat := match n with
  | 0 => 0
  | k + 1 =>
    let (h', y) := surrogateStep q input h
    let m := (fp32.decode q.margin).toRat q.margin
    let heat := sumW (s.admittedSlots.map fun i =>
      let w := y.getD i 0
      let x := (fp32.decode w).toRat w - ((s.rd (R.COOL_ACC.target i) : Rat) - m)
      if 0 < x then x * x else 0)
    heat + rolloutHeat s q input k h'

/-- R283: the cost of a candidate opening of one valve. -/
def valveCost (s : State) (q : Surrogate) (slot cand : Nat) : Rat :=
  let pos := (List.range 8).map fun n => if n = slot then (cand : Rat) else ((tgetD s.cool.valveCmd n 100 : Nat) : Rat)
  let present : Rat := (s.rd (R.COOL_VALVE.position slot) : Rat)
  let dv : Rat := (cand : Rat) - present
  (fp32.decode q.wt).toRat q.wt * rolloutHeat s q ((surrogateInputs s pos).map fp32OfRat) 200 s.cool.h +
  (fp32.decode q.wv).toRat q.wv * dv * dv

/-- R283: the five candidates, the most open first. -/
def valveCandidates (present : Nat) : List Nat :=
  [min 100 (present + 8), min 100 (present + 2), min 100 present, present - 2, present - 8]

/-- The candidate of least cost; of equal ones the first. -/
def leastCost (f : Nat → Rat) (l : List Nat) : Nat := match l with
  | [] => 100
  | x :: r => (r.foldl (init := (x, f x)) fun b c => let v := f c; if v < b.2 then (c, v) else b).1

/-- R283, R286: VALVE_CONTROL: every 10 ms the valves are set, by prediction in MODEL mode and from the cooling table in TABLE mode. -/
def valveControl (s : State) : State :=
  let s := setMode s true
  if s.rd R.COOL_STATUS.mode = 2 then drivePins s
  else match s.rd R.COOL_STATUS.mode, s.img.surrogate with
    | 0, some q =>
      drivePins ((List.range 8).foldl (init := s) fun s n =>
        if s.on (R.COOL_VALVE.flagged n) then { s with cool := { s.cool with valveCmd := tput s.cool.valveCmd n 100 } }
        else
          let c := leastCost (valveCost s q n) (valveCandidates (s.rd (R.COOL_VALVE.position n)))
          { s with cool := { s.cool with valveCmd := tput s.cool.valveCmd n c } })
    | _, _ =>
      let v := (coolRowAt s s.cool.f).valve
      drivePins { s with cool := { s.cool with valveCmd := (List.range 8).map fun n => (n, v) } }

/-- R285: the residual heat in W: the tray estimate less what the liquid removes. -/
def residualHeat (s : State) : Rat :=
  let flow : Int := ((List.range 8).filter fun n => s.img.plant.flows.testBit n).foldl (fun a n => a + controlFlow s n) 0
  let dt := controlTemp s s.img.plant.return_ - controlTemp s s.img.plant.supply
  s.pwr.trayAvg - (flow : Rat) * (dt : Rat) * (s.img.plant.heatCap : Rat) / 65536

/-- R285: the fan duty that the residual-air table gives for a heat, at least 20%. -/
def residualFan (s : State) (heat : Rat) : Nat :=
  max 20 (s.img.plant.residual.foldl (init := 20) fun best r => if (r.1 : Rat) ≤ heat then r.2 else best)

/-- R285, R286: PUMP_FAN_CONTROL: every 10 ms, by the pumps' law and the residual-air table, or from the cooling table. -/
def pumpFanControl (s : State) : State :=
  let s := setMode s true
  let m := s.rd R.COOL_STATUS.mode
  if m = 2 then drivePins s
  else if m = 1 then
    let r := coolRowAt s s.cool.f
    drivePins { s with cool := { s.cool with pumpCmd := r.pump, fanCmd := r.fan } }
  else
    let e : Int := (s.img.plant.setpoint : Int) - ((s.rd (R.COOL_PRESS.kpa 0) : Int) - (s.rd (R.COOL_PRESS.kpa 1) : Int))
    let i := s.cool.integral + e
    let duty := (clampInt 30 100 ((Config.pumpP * e + Config.pumpI * i) / 1000)).toNat
    drivePins { s with cool := { s.cool with integral := i, pumpCmd := duty, fanCmd := residualFan s (residualHeat s) } }

/-! ## Throttling for heat -/

/-- R289: THERMAL_CEILING. -/
def thermalCeiling (s : State) : State :=
  if ¬ s.procUp 2 then s
  else
    let s := { s with cool := { s.cool with heldCeiling := none } }
    let x (i : Nat) : Int := s.rdSigned (R.COOL_ACC.temp i) - 8 * (s.rd (R.COOL_ACC.target i) : Int)
    let worst := s.admittedSlots.foldl (init := (none : Option (Nat × Int))) fun b i => match b with
      | none => some (i, x i)
      | some (_, v) => if v < x i then some (i, x i) else b
    match worst with
    | none => s.wr R.COOL_THERMAL.ceiling (if s.on R.COOL_STATUS.no_pump then 0 else 63)
    | some (i, v) =>
      let c := if v ≤ 0 then 63 else s.gauge - (v / 4).toNat
      ((s.wr R.COOL_THERMAL.ceiling (if s.on R.COOL_STATUS.no_pump then 0 else c)).wr R.COOL_THERMAL.slot i).wr
        R.COOL_THERMAL.excess (ofSigned 16 v)

/-- R291: whether level `m` of the hub excess may stand at temperature `t`: it falls only 0.5 °C below its threshold. -/
def excessHolds (target : Int) (t : Int) (m : Nat) : Bool := decide (target + 8 * ((m : Int) - 1) - 4 < t)

/-- R291: the next n: what the reading calls for, or the level held. -/
def nextExcess (target t : Int) (old : Nat) : Nat :=
  let need := if t ≤ target then 0 else ((t - target + 7) / 8).toNat
  let held := maxOr0 ((List.range (old + 1)).filter fun m => m = 0 || excessHolds target t m)
  min 20 (max need held)

/-- The hottest of a die's readings and its index. -/
def hottest (temps : List Nat) : Option (Nat × Int) :=
  temps.zipIdx.foldl (init := none) fun b p => match b with
    | none => some (p.2, toSigned 16 p.1)
    | some (_, v) => if v < toSigned 16 p.1 then some (p.2, toSigned 16 p.1) else b

/-- R291, R292, R307: HUB_THERMAL_THROTTLE: every 100 µs a die's DTS are read, and its factor acts on the two controls of R25. -/
def hubThermalThrottle (d : Nat) (temps : List Nat) (s : State) : State :=
  if ¬ s.dieUp d then s
  else match hottest (temps.take 48) with
    | none => s
    | some (i, t) =>
      let (tf, xf) := if d = 0 then (R.MON_DTS_H0.temp, R.MON_DTS_H0.index) else (R.MON_DTS_H1.temp, R.MON_DTS_H1.index)
      let (nf, ff) := if d = 0 then (R.COOL_HUB_THR.h0_excess, R.COOL_HUB_THR.h0_factor)
        else (R.COOL_HUB_THR.h1_excess, R.COOL_HUB_THR.h1_factor)
      let s := (s.wr tf (ofSigned 16 t)).wr xf i
      let s := { s with mon := { s.mon with
        readings := (temps.take 48).zipIdx.foldl (fun (r : Tab Nat) (p : Nat × Nat) => tput r (d * 256 + p.2) (p.1 % 65536)) s.mon.readings } }
      let n := nextExcess (8 * (s.img.plant.hubTarget : Int)) t (s.rd nf)
      let s := (s.wr nf n).wr ff (100 - 5 * n)
      let s := if 840 < t then
          { s with cool := { s.cool with overSince := tput s.cool.overSince d (tgetD s.cool.overSince d s.now) } }
        else { s with cool := { s.cool with overSince := tdel s.cool.overSince d, overNoted := setBit s.cool.overNoted d false } }
      refreshShares s d

/-- R292: OVER_JUNCTION: a die's hottest reading has stayed above 105 °C for 1 s. -/
def overJunction (d : Nat) (s : State) : State := match tfind s.cool.overSince d with
  | none => s
  | some t =>
    if ¬ s.dieUp d ∨ s.now < t + 1000000 ∨ s.cool.overNoted.testBit d then s
    else
      let s := { s with cool := { s.cool with overNoted := setBit s.cool.overNoted d true } }
      let i := s.rd (if d = 0 then R.MON_DTS_H0.index else R.MON_DTS_H1.index)
      (s.wr R.COOL_STATUS.over_junction 1).err (0x1000 * (d + 1) + 0x70 + i) 0 0x0C 3 0

/-! ## Trips -/

/-- R293, R511: KILN_TRIP: the die's clocks stop and its domains go off; it counts as held in reset. -/
def kilnTrip (d sensors : Nat) (s : State) : State :=
  if 2 ≤ d ∨ sensors % 4 = 0 then s
  else
    let s := { s with cool := { s.cool with kilnLow := tdel s.cool.kilnLow d } }
    let (tf, sf) := if d = 0 then (R.COOL_KILN.h0_trip, R.COOL_KILN.h0_sensor) else (R.COOL_KILN.h1_trip, R.COOL_KILN.h1_sensor)
    if s.on tf then s.wr sf (setUnion (s.rd sf) (sensors % 4))
    else
      let s := (s.wr tf 1).wr sf (sensors % 4)
      let s := (s.wr (R.PWR_DOMAIN_H.on d) 0).wr (R.PWR_DOMAIN_H.pending d) 0
      let s := holdDie s d 3
      let s := s.modDie d fun x => { x with starting := [], offPending := 0 }
      let s := s.bump R.COOL_KILN_COUNT.c
      let unit := 0x1000 * (d + 1) + (if sensors.testBit 0 then 0xA0 else 0xA1)
      let s := s.event 0x000A unit (atByte 0 d + atByte 1 (sensors % 4))
      s.err unit 0 0x0C 3 0

/-- R294: KILN_TRIP_CLEAR: the two sensors of a tripped die are read; once both have read below 100 °C for 1 s the trip ends. The die stays in reset
until Steward releases it. -/
def kilnTripClear (d sensorA sensorB : Nat) (s : State) : State :=
  if 2 ≤ d ∨ ¬ kilnActive s d then s
  else if 800 ≤ toSigned 16 sensorA ∨ 800 ≤ toSigned 16 sensorB then { s with cool := { s.cool with kilnLow := tdel s.cool.kilnLow d } }
  else if s.now < tgetD s.cool.kilnLow d s.now + 1000000 then
    { s with cool := { s.cool with kilnLow := tput s.cool.kilnLow d (tgetD s.cool.kilnLow d s.now) } }
  else
    let s := { s with cool := { s.cool with kilnLow := tdel s.cool.kilnLow d } }
    let s := s.wr (if d = 0 then R.COOL_KILN.h0_trip else R.COOL_KILN.h1_trip) 0
    s.modDie d fun x => { x with holds := setBit x.holds 3 false }

/-- R241, R295: ACC_THERMTRIP: the slot's rails are cut and its valve opened for 60 s. -/
def accThermtrip (slot : Nat) (s : State) : State :=
  if 8 ≤ slot ∨ ¬ slotOn s slot then s
  else
    let s := cutSlots { s with pin := { s.pin with thermtrip := setBit s.pin.thermtrip slot true } } (2 ^ slot)
    let s := { s with cool := { s.cool with openUntil := tput s.cool.openUntil slot (s.now + 60000000) } }
    let s := (s.bump R.COOL_THERMTRIP_COUNT.c).wr R.COOL_STATUS.thermtrip_seen 1
    let s := (s.event 0x000B (0x3000 + slot) (atByte 0 slot)).err (0x3000 + slot) 0 0x0C 3 0
    drivePins s

/-- R295: THERMTRIP_VALVE_EXPIRE. -/
def thermtripValveExpire (slot : Nat) (s : State) : State := match tfind s.cool.openUntil slot with
  | none => s
  | some t =>
    if s.now < t then s
    else drivePins { s with cool := { s.cool with openUntil := tdel s.cool.openUntil slot },
                            pin := { s.pin with thermtrip := setBit s.pin.thermtrip slot false } }

/-! ## Fans, pumps and valves -/

/-- Changes what is held of a fan. -/
def modFan (s : State) (n : Nat) (f : Fan → Fan) : State := { s with cool := { s.cool with fans := tmod s.cool.fans n f } }

/-- Changes what is held of a pump. -/
def modPump (s : State) (n : Nat) (f : Pump → Pump) : State := { s with cool := { s.cool with pumps := tmod s.cool.pumps n f } }

/-- R297, R298: a fan is failed, with its reason. -/
def failFan (s : State) (n reason : Nat) : State :=
  let s := modFan s n fun x => { x with startAt := none, kicking := false, goneSince := none }
  let s := (s.wr (R.COOL_FAN.state n) 4).wr (R.COOL_FAN.reason n) reason
  refreshCoolFlags ((s.bump R.COOL_FAN_FAIL_COUNT.c).err (0x7000 + n) 0 0x0C 3 0)

/-- A fan that turns: it runs on its law. -/
def runFan (s : State) (n : Nat) : State :=
  let s := modFan s n fun x => { x with startAt := none, kicking := false, missed := 0, normalCurrent := true }
  refreshCoolFlags (((s.wr (R.COOL_FAN.state n) 1).wr (R.COOL_FAN.reason n) 0).wr (R.COOL_FAN.present n) 1)

/-- R296: FAN_START_TIMEOUT: 4 s into a start or a kick: with pulses the fan runs, without them it is stalled; the fifth kick without
pulses fails it. -/
def fanStartTimeout (n : Nat) (pulses : Bool) (s : State) : State :=
  if 8 ≤ n then s
  else match (tget s.cool.fans n).startAt with
    | none => s
    | some t =>
      if pulses then runFan s n
      else if s.now < t + 4000000 then s
      else if (tget s.cool.fans n).kicking then
        let s := modFan s n fun x => { x with startAt := none, kicking := false }
        if 5 ≤ s.rd (R.COOL_FAN.kicks n) then failFan s n 1 else refreshCoolFlags s
      else
        let s := modFan s n fun x => { x with startAt := none, kickAt := s.now }
        refreshCoolFlags ((s.wr (R.COOL_FAN.state n) 3).wr (R.COOL_FAN.reason n) 1)

/-- R296: FAN_KICK: every 30 s a stalled fan is kicked: it is driven at 100% for 4 s, whose end FAN_START_TIMEOUT is. A kick that brings pulses
returns the fan to its law. -/
def fanKick (n : Nat) (pulses : Bool) (s : State) : State :=
  let x := tget s.cool.fans n
  if 8 ≤ n ∨ fanState s n ≠ 3 ∨ x.kicking = true ∨ s.now < x.kickAt + 30000000 then s
  else
    let s := s.wr (R.COOL_FAN.kicks n) (s.rd (R.COOL_FAN.kicks n) + 1)
    let s := modFan s n fun x => { x with startAt := some s.now, kicking := true, kickAt := s.now }
    if pulses then runFan s n else drivePins s

/-- The current lies in the fan's normal band (R297). -/
def normalCurrent (s : State) (n current : Nat) : Bool :=
  let (lo, hi) := s.img.plant.bands.getD n (100, 2500)
  decide (lo ≤ current) && decide (current ≤ hi)

/-- R297: one fan's window. -/
def fanWindow (s : State) (n rpm current : Nat) : State :=
  let s := s.wr (R.COOL_FAN.rpm n) (min 65535 rpm)
  if ¬ fanFitted s n ∨ fanState s n ≠ 1 then s
  else if 0 < rpm ∨ s.rd (R.COOL_FAN.duty n) < 20 then modFan s n fun x => { x with missed := 0, normalCurrent := true }
  else
    let x := tget s.cool.fans n
    let ok := x.normalCurrent && normalCurrent s n current
    if x.missed < 2 then modFan s n fun x => { x with missed := x.missed + 1, normalCurrent := ok }
    else failFan (modFan s n fun x => { x with missed := 0, normalCurrent := true }) n (if ok then 3 else 2)

/-- R299: a pump is failed. -/
def failPump (s : State) (n : Nat) : State :=
  let s := modPump s n fun _ => {}
  let both := pumpFailed s (1 - n)
  let s := ((s.wr (R.COOL_PUMP.state n) 4).bump R.COOL_PUMP_FAIL_COUNT.c)
  refreshCoolFlags (if both then s.err (0x7010 + n) 0 0x0C 3 0 else s)

/-- R299: one pump's window. A speed below half of the configured speed for its duty starts or keeps the slow count. -/
def pumpWindow (s : State) (n rpm : Nat) : State :=
  let s := s.wr (R.COOL_PUMP.rpm n) (min 65535 rpm)
  let duty := s.rd (R.COOL_PUMP.duty n)
  if duty = 0 ∨ pumpFailed s n then modPump s n fun x => { x with missed := 0, slowSince := none }
  else
    let slow := decide (rpm * 200 < s.img.plant.pumpRpm.getD n 0 * duty)
    let x := tget s.cool.pumps n
    let s := modPump s n fun x =>
      { x with missed := if rpm = 0 then x.missed + 1 else 0, slowSince := if slow then some (x.slowSince.getD s.now) else none }
    if rpm = 0 ∧ 2 ≤ x.missed then failPump s n else s

/-- TACH_WINDOW (R297, R299). -/
def tachWindow (rpm current pumpRpm : List Nat) (s : State) : State :=
  let s := (List.range 8).foldl (fun s n => fanWindow s n (rpm.getD n 0) (current.getD n 0)) s
  [0, 1].foldl (fun s n => pumpWindow s n (pumpRpm.getD n 0)) s

/-- PUMP_SPEED_FAIL (R299): a pump has been slow for 5 s. -/
def pumpSpeedFail (n : Nat) (s : State) : State := match (tget s.cool.pumps n).slowSince with
  | none => s
  | some t => if 2 ≤ n ∨ pumpFailed s n ∨ s.now < t + 5000000 then s else failPump s n

/-- R298: FAN_PROBE: every 1 s a failed fan that is not driven is probed; 2 s without current lose its presence, and its return starts
it. -/
def fanProbe (n current : Nat) (s : State) : State :=
  if 8 ≤ n ∨ fanState s n ≠ 4 ∨ s.rd (R.COOL_FAN.duty n) ≠ 0 then s
  else if 50 < current then
    let back := ! s.on (R.COOL_FAN.present n)
    let s := modFan (s.wr (R.COOL_FAN.present n) 1) n fun x => { x with goneSince := none }
    if back then refreshCoolFlags (startFan s n) else s
  else
    let t := (tget s.cool.fans n).goneSince.getD s.now
    let s := modFan s n fun x => { x with goneSince := some t }
    if t + 2000000 ≤ s.now then s.wr (R.COOL_FAN.present n) 0 else s

/-- R300: VALVE_FLAG: VALVE_POS is read; a valve that has disagreed by more than 10 points for 2 s is flagged and opened. -/
def valveFlag (n position : Nat) (s : State) : State :=
  if 8 ≤ n then s
  else
    let p := min 100 position
    let s := s.wr (R.COOL_VALVE.position n) p
    let c := s.rd (R.COOL_VALVE.command n)
    if (c ≤ p + 10 ∧ p ≤ c + 10) ∨ s.on (R.COOL_VALVE.flagged n) then
      { s with cool := { s.cool with valveWrong := tdel s.cool.valveWrong n } }
    else
      let t := tgetD s.cool.valveWrong n s.now
      if t + 2000000 ≤ s.now then
        let s := { s with cool := { s.cool with valveWrong := tdel s.cool.valveWrong n } }
        let s := (s.wr (R.COOL_VALVE.flagged n) 1).bump R.COOL_VALVE_FLAG_COUNT.c
        refreshCoolFlags (s.err (0x7020 + n) 0 0x0C 3 0)
      else { s with cool := { s.cool with valveWrong := tput s.cool.valveWrong n t } }

/-! ## Clears -/

/-- R298: a fan's failure is cleared, and the fan started. -/
def clearFan (s : State) (n : Nat) : State := if fanState s n = 4 then refreshCoolFlags (startFan s n) else s

/-- R299: a pump's failure is cleared, and the pump started at 100% for 4 s. -/
def clearPump (s : State) (n : Nat) : State :=
  if ¬ pumpFailed s n then s
  else refreshCoolFlags (modPump (s.wr (R.COOL_PUMP.state n) 0) n fun _ => { startUntil := s.now + 4000000 })

/-- R300: a valve's flag is cleared. -/
def clearValve (s : State) (n : Nat) : State :=
  refreshCoolFlags { s.wr (R.COOL_VALVE.flagged n) 0 with cool := { s.cool with valveWrong := tdel s.cool.valveWrong n } }

/-- R311: a write of COOL_CLEAR: Steward alone. -/
def coolClear (s : State) (a : Agent) (f : State → State) : State :=
  if a = .steward then f (s.answer .ok 0 0) else s.deny a

/-- R311: what a write of COOL_CLEAR with `v` clears. -/
def clearCooling (s : State) (v : Nat) : State :=
  let s := (members (bits v 7 0) 8).foldl clearFan s
  let s := (members (bits v 9 8) 2).foldl clearPump s
  let s := (members (bits v 17 10) 8).foldl clearValve s
  if v.testBit 18 then clearImplausible s else s

/-- COOL_CLEAR_FAN. -/
def coolClearFan (a : Agent) (fans : Nat) (s : State) : State := coolClear s a fun s => (members fans 8).foldl clearFan s
/-- COOL_CLEAR_PUMP. -/
def coolClearPump (a : Agent) (pumps : Nat) (s : State) : State := coolClear s a fun s => (members pumps 2).foldl clearPump s
/-- COOL_CLEAR_VALVE. -/
def coolClearValve (a : Agent) (valves : Nat) (s : State) : State := coolClear s a fun s => (members valves 8).foldl clearValve s
/-- COOL_CLEAR_MODEL. -/
def coolClearModel (a : Agent) (s : State) : State := coolClear s a clearImplausible

/-- ACC_TEMP_READ. -/
def execAccTempRead (slot : Nat) (temp : Option Nat) (s : State) : Host.Outcome State Fault Refusal :=
  .next (accTempRead slot temp s)
/-- THERMISTOR_SAMPLE. -/
def execThermistorSample (n value : Nat) (s : State) : Host.Outcome State Fault Refusal := .next (thermistorSample n value s)
/-- SURROGATE_TICK. -/
def execSurrogateTick (flows presses : List Nat) (s : State) : Host.Outcome State Fault Refusal :=
  .next (surrogateTick flows presses s)
/-- MODEL_RESUME. -/
def execModelResume (s : State) : Host.Outcome State Fault Refusal := .next (modelResume s)
/-- VALVE_CONTROL. -/
def execValveControl (s : State) : Host.Outcome State Fault Refusal := .next (valveControl s)
/-- PUMP_FAN_CONTROL. -/
def execPumpFanControl (s : State) : Host.Outcome State Fault Refusal := .next (pumpFanControl s)
/-- FAN_START_TIMEOUT. -/
def execFanStartTimeout (fan : Nat) (pulses : Bool) (s : State) : Host.Outcome State Fault Refusal :=
  .next (fanStartTimeout fan pulses s)
/-- FAN_KICK. -/
def execFanKick (fan : Nat) (pulses : Bool) (s : State) : Host.Outcome State Fault Refusal := .next (fanKick fan pulses s)
/-- TACH_WINDOW. -/
def execTachWindow (rpm current pumpRpm : List Nat) (s : State) : Host.Outcome State Fault Refusal :=
  .next (tachWindow rpm current pumpRpm s)
/-- PUMP_SPEED_FAIL. -/
def execPumpSpeedFail (pump : Nat) (s : State) : Host.Outcome State Fault Refusal := .next (pumpSpeedFail pump s)
/-- FAN_PROBE. -/
def execFanProbe (fan current : Nat) (s : State) : Host.Outcome State Fault Refusal := .next (fanProbe fan current s)
/-- VALVE_FLAG. -/
def execValveFlag (valve position : Nat) (s : State) : Host.Outcome State Fault Refusal := .next (valveFlag valve position s)
/-- FLOOR_TICK. -/
def execFloorTick (s : State) : Host.Outcome State Fault Refusal := .next (floorTick s)
/-- THERMAL_CEILING. -/
def execThermalCeiling (s : State) : Host.Outcome State Fault Refusal := .next (thermalCeiling s)
/-- HUB_THERMAL_THROTTLE. -/
def execHubThermalThrottle (die : Nat) (temps : List Nat) (s : State) : Host.Outcome State Fault Refusal :=
  .next (hubThermalThrottle die temps s)
/-- OVER_JUNCTION. -/
def execOverJunction (die : Nat) (s : State) : Host.Outcome State Fault Refusal := .next (overJunction die s)
/-- KILN_TRIP_CLEAR. -/
def execKilnTripClear (reading : KilnReading) (s : State) : Host.Outcome State Fault Refusal :=
  .next (kilnTripClear reading.die reading.sensorA reading.sensorB s)
/-- ACC_THERMTRIP. -/
def execAccThermtrip (slot : Nat) (s : State) : Host.Outcome State Fault Refusal := .next (accThermtrip slot s)
/-- THERMTRIP_VALVE_EXPIRE. -/
def execThermtripValveExpire (slot : Nat) (s : State) : Host.Outcome State Fault Refusal := .next (thermtripValveExpire slot s)
/-- COOL_CLEAR_FAN. -/
def execCoolClearFan (agent : Agent) (fans : Nat) (s : State) : Host.Outcome State Fault Refusal :=
  .next (coolClearFan agent fans s)
/-- COOL_CLEAR_PUMP. -/
def execCoolClearPump (agent : Agent) (pumps : Nat) (s : State) : Host.Outcome State Fault Refusal :=
  .next (coolClearPump agent pumps s)
/-- COOL_CLEAR_VALVE. -/
def execCoolClearValve (agent : Agent) (valves : Nat) (s : State) : Host.Outcome State Fault Refusal :=
  .next (coolClearValve agent valves s)
/-- COOL_CLEAR_MODEL. -/
def execCoolClearModel (agent : Agent) (s : State) : Host.Outcome State Fault Refusal := .next (coolClearModel agent s)

end Sys2Proof.Machine
end

