-- ==== Sys2Proof/Machine/Firmware.lean ====
section
/-! DEFINITION. Firmware processors: watchdogs, crashes, restarts and revival (R366 to R375, R387). -/

namespace Sys2Proof.Machine

/-- The unit identifier of processor `p` (R366). -/
def procUnit (p : Nat) : Nat := if p < 4 then p else if p < 6 then 0x1060 + (p - 4) else 0x2060 + (p - 6)

/-- R453: in AWAITING the loader holds Power, Cooling and Recorder in reset, without the limits of R372; a processor that debug holds is
held likewise (R486). -/
def heldByLoader (s : State) (p : Nat) : Bool :=
  (s.rd R.UPD_STATUS.loader == 2 && decide (1 ≤ p) && decide (p < 4)) || (tget s.fw.procs p).debugHalt

/-- R461: what follows when processor `p` has resumed from its restart by an activation, or has halted within it: the event of a WARDEN
activation with Steward, the next restart with a link-and-queue processor. -/
def activationStep (s : State) (p : Nat) : State := match s.upd.act with
  | none => s
  | some (flags, next) =>
    if p = 0 ∧ flags ≠ 0 then
      ({ s with upd := { s.upd with act := if next < 8 then some (0, next) else none } }).event 0x0103 0 (atByte 0 flags)
    else if 4 ≤ p ∧ p + 1 = next then nextActivation s else s

/-- R371, R372, R374: a crash of processor `p`. The third within 600 s halts it. -/
def crash (s : State) (p cause pc : Nat) : State :=
  let s := s.modProc p fun q => { q with crashes := s.now :: recentCrashes s p }
  let s := s.bump (R.FW_CRASH.c p)
  let n := (recentCrashes s p).length
  let s := s.wr (R.FW_PROC.window p) (min 3 n)
  let s := s.wr R.FW_LAST_CRASH.valid 1
  let s := s.wr R.FW_LAST_CRASH.cause cause
  let s := s.wr R.FW_LAST_CRASH.processor p
  let s := s.wr R.FW_LAST_CRASH.pc pc
  -- R421: a crash of the Recorder loses its open runs
  let s : State := if p = 3 then { s with rcd := { s.rcd with runs := [] } } else s
  let s := beginRestart s p cause pc s.now
  if n < 3 then s else
  let s := (s.wr (R.FW_PROC.state p) 3).wr R.FW_STATUS.restarting (setBit (s.rd R.FW_STATUS.restarting) p false)
  let s := s.wr R.FW_STATUS.halted (setBit (s.rd R.FW_STATUS.halted) p true)
  let s := dutiesHalt s p
  activationStep (s.err (procUnit p) 0 0x0F 3 0) p

/-- R370: the watchdog of a running processor has not been kicked for its timeout. -/
def watchdogExpire (p pc : Nat) (s : State) : State :=
  let q := tget s.fw.procs p
  if 8 ≤ p ∨ s.rd (R.FW_PROC.state p) ≠ 1 ∨ ¬ q.armed ∨ q.debugHalt ∨ procAbsent s p
      ∨ s.now < q.kickedAt + s.rd (R.FW_PROC.timeout p) * 1000 then s
  else crash { s with fw := { s.fw with lastExpiry := tput s.fw.lastExpiry p s.now } } p 1 pc

/-- The processor index of an agent. -/
def agentProc (a : Agent) : Option Nat := match a with
  | .steward => some 0
  | .proc p => if p < 4 then some p else none
  | .lq p => if 4 ≤ p ∧ p < 8 then some p else none
  | .host => none
  | .window => none

/-- R370: a processor kicks its own watchdog; a kick by any other agent is answered DENIED. -/
def watchdogKick (agent : Agent) (mask : Nat) (s : State) : State :=
  match agentProc agent with
  | none => s.deny agent
  | some p =>
    if setMinus (mask % 256) (1 <<< p) ≠ 0 then s.answer .denied 0 0
    else if mask.testBit p then (s.modProc p fun q => { q with kickedAt := s.now }).answer .ok 0 0
    else s.answer .ok 0 0

/-- R371, R318: a trap, or an uncorrectable word in the processor's memory. -/
def processorTrap (p pc : Nat) (word : Option Nat) (s : State) : State :=
  if 8 ≤ p ∨ s.rd (R.FW_PROC.state p) ≠ 1 ∨ procAbsent s p then s else
  match word with
  | none => crash s p 3 pc
  | some w =>
    let s := (s.bump R.ERR_UE_COUNT.c).wr R.ERR_STATUS.ue 1
    let s := s.err (if p < 4 then 0x0020 else procUnit p) 0 0x03 2
      (atByte 0 (w % 2 ^ 32) + atByte 4 (if p < 4 then 3 else 4) + atByte 5 1 + atByte 6 0xFFFF)
    crash s p 2 pc

/-- R372 at 20 ms: the processor is released. Where the code copy held an uncorrectable word it is rewritten from flash first
(R368). -/
def processorRelease (p : Nat) (copyBad : Bool) (s : State) : State :=
  if 8 ≤ p ∨ s.rd (R.FW_PROC.state p) ≠ 2 ∨ heldByLoader s p ∨ s.now < (tget s.fw.procs p).restartAt + 20000 then s else
  let s := s.modProc p fun q => { q with released := true }
  if copyBad then s.emit (.codeRewritten p) else s

/-- R372: duties resume, the watchdog is armed, BUSY answers end and a cask record is written. -/
def dutiesResumed (p : Nat) (s : State) : State :=
  if 8 ≤ p ∨ s.rd (R.FW_PROC.state p) ≠ 2 ∨ heldByLoader s p ∨ ¬ (tget s.fw.procs p).released
      ∨ procAbsent s p then s else
  let s := s.modProc p fun q => { q with armed := true, kickedAt := s.now, released := false }
  let s := s.wr (R.FW_PROC.state p) 1
  let s := s.wr R.FW_STATUS.restarting (setBit (s.rd R.FW_STATUS.restarting) p false)
  let s := dutiesReturn s p
  let s := if p = 0 then orderFaultOff s else s
  activationStep (s.event 0x0007 (procUnit p) (atByte 0 p + atByte 1 (s.rd (R.FW_PROC.last_cause p)))) p

/-- R371, R372: duties not resumed 200 ms into a restart are a further crash. -/
def restartTimeout (p : Nat) (s : State) : State :=
  if 8 ≤ p ∨ s.rd (R.FW_PROC.state p) ≠ 2 ∨ heldByLoader s p ∨ s.now < (tget s.fw.procs p).restartAt + 200000 then s else crash s p 4 0

/-- R374: a halted processor is revived: its crash count is cleared and a restart starts at time 1 of R372. One of an absent die is no
longer halted and starts when its die is released (R367; DEDUCED, log 83). -/
def revive (s : State) (p : Nat) : State :=
  if 8 ≤ p ∨ s.rd (R.FW_PROC.state p) ≠ 3 then s else
  let s := s.modProc p fun q => { q with crashes := [], restartAt := s.now - 1000, released := false }
  let s := (s.wr (R.FW_PROC.window p) 0).wr (R.FW_PROC.state p) 2
  let s := s.wr R.FW_STATUS.halted (setBit (s.rd R.FW_STATUS.halted) p false)
  if procAbsent s p then s.wr (R.FW_PROC.state p) 0 else
  let s := s.wr R.FW_STATUS.restarting (setBit (s.rd R.FW_STATUS.restarting) p true)
  dutiesUnhalt s p

/-- R374, R387: Steward writes FW_CTRL.revive. -/
def processorRevive (agent : Agent) (mask : Nat) (s : State) : State :=
  if agent ≠ .steward then s.deny agent else ((members mask 8).foldl revive s).answer .ok 0 0

/-- R387: an ordered restart of a running processor, which is not a crash. -/
def orderRestart (s : State) (p : Nat) : State :=
  if s.rd (R.FW_PROC.state p) ≠ 1 ∨ procAbsent s p then s else beginRestart s p 5 0 s.now

/-- R387: Steward writes FW_CTRL.restart. -/
def processorRestartOrder (agent : Agent) (mask : Nat) (s : State) : State :=
  if agent ≠ .steward then s.deny agent else ((members mask 8).foldl orderRestart s).answer .ok 0 0

/-- WATCHDOG_EXPIRE. -/
def execWatchdogExpire (p pc : Nat) (s : State) : Host.Outcome State Fault Refusal := .next (watchdogExpire p pc s)
/-- WATCHDOG_KICK. -/
def execWatchdogKick (agent : Agent) (mask : Nat) (s : State) : Host.Outcome State Fault Refusal :=
  .next (watchdogKick agent mask s)
/-- PROCESSOR_TRAP. -/
def execProcessorTrap (p pc : Nat) (word : Option Nat) (s : State) : Host.Outcome State Fault Refusal :=
  .next (processorTrap p pc word s)
/-- PROCESSOR_RELEASE. -/
def execProcessorRelease (p : Nat) (copyBad : Bool) (s : State) : Host.Outcome State Fault Refusal :=
  .next (processorRelease p copyBad s)
/-- DUTIES_RESUMED. -/
def execDutiesResumed (p : Nat) (s : State) : Host.Outcome State Fault Refusal := .next (dutiesResumed p s)
/-- RESTART_TIMEOUT. -/
def execRestartTimeout (p : Nat) (s : State) : Host.Outcome State Fault Refusal := .next (restartTimeout p s)
/-- PROCESSOR_REVIVE. -/
def execProcessorRevive (agent : Agent) (mask : Nat) (s : State) : Host.Outcome State Fault Refusal :=
  .next (processorRevive agent mask s)
/-- PROCESSOR_RESTART_ORDER. -/
def execProcessorRestartOrder (agent : Agent) (mask : Nat) (s : State) : Host.Outcome State Fault Refusal :=
  .next (processorRestartOrder agent mask s)

end Sys2Proof.Machine
end

