-- ==== Sys2Proof/Machine/GroupTime.lean ====
section
/-! DEFINITION. Group time: exchanges, rate and states (R58 to R69, R214). States are coded as CAD_GT_STATUS.state: 0 ACQUIRE,
1 TRACKING, 2 LOCKED, 3 HOLDOVER, 4 MASTER. -/

namespace Sys2Proof.Machine

/-- R69: entry to HOLDOVER is recorded in the cask. -/
def enterHoldover (s : State) : State :=
  let s := { s with gt := { s.gt with state := 3, holdStart := s.gt.time, holdMs := 0, holdRun := 0, lockedRun := 0 },
                    pwr := { s.pwr with gaugeHeld := true, holdEnds := false } }
  s.event 0x0003 s.seqUnit 0

/-- R63, R69: HOLDOVER is left for TRACKING, with its length recorded. -/
def leaveHoldover (s : State) : State :=
  let ms := min (2 ^ 32 - 1) ((s.gt.time - s.gt.holdStart) / 1000000)
  let s := { s with gt := { s.gt with state := 1, holdMs := ms, lockedRun := 0 } }
  s.event 0x0004 s.seqUnit (atByte 0 ms)

/-- R63, R69: LOCKED is entered: a gauge held since HOLDOVER is let go at the next boundary. -/
def enterLocked (s : State) : State := { s with gt := { s.gt with state := 2 }, pwr := { s.pwr with holdEnds := true } }

/-- The upstream port in use (R63): the configured secondary while it is in use, else the primary. -/
def upstreamPort (s : State) : Nat :=
  if s.gt.secondary then s.tree.secondary else s.tree.primary

/-- R220: whether a port carries time messages: not SP7 in host-port mode. -/
def timePort (s : State) (port : Nat) : Bool := ! (port == 7 && s.hostPortMode)

/-- R61: TIME_REQUEST goes out every 1 ms on the upstream port, at a moment within the tick that is a free value (log 3); while the secondary is in use the primary is tried
too, so that R63's return can be counted (log 24). A request that its port cannot carry, because the link is not UP, is one whose reply is
missed. The counter is kept on H0 (R59). -/
def timeRequestSend (s : State) : State :=
  if ¬ s.dieUp 0 ∨ s.gt.state = 4 ∨ s.gt.time < s.gt.lastSend + 1000000 then s else
  let seq := (s.gt.sequence + 1) % 2 ^ 16
  let ports := if s.gt.secondary then [s.tree.secondary, s.tree.primary] else [s.tree.primary]
  let ns := Config.freeWord s.freeCtr % 32
  let s := { s with gt := { s.gt with sequence := seq, lastSend := s.gt.time } }.drawFree
  ports.foldl (init := s) fun s p =>
    let s := { s with gt := { s.gt with inFlight := tput s.gt.inFlight p (s.gt.time + ns, seq) } }
    if s.portUp p ∧ timePort s p then s.send (.control (8 + p) 0x20 seq [s.tree.hub]) else s

/-- R61, R214: an upstream hub answers TIME_REQUEST, stamped t2, with a TIME_REPLY stamped t3. A message with a replayed flit is discarded, and
SP7 in host-port mode answers none (R220). -/
def answerTime (s : State) (port sequence : Nat) (replayed : Bool) (t2 t3 : Nat) : State :=
  if replayed ∨ ¬ s.portUp port ∨ ¬ timePort s port then s
  else s.send (.control (8 + port) 0x21 sequence [s.tree.hub + s.gt.state * 2 ^ 18, s.tree.master,
    bits t2 31 0, bits t2 63 32, bits t3 31 0, bits t3 63 32])

/-- TIME_REQUEST, received `ns` after the last tick; the reply leaves `turn` later. -/
def timeRequest (port sequence _hub : Nat) (replayed : Bool) (ns turn : Nat) (s : State) : State :=
  answerTime s port sequence replayed (s.gt.time + ns) (s.gt.time + ns + turn)

/-- R62, R63: a missed reply. Three in a row on the primary move the exchange to the secondary. A member in HOLDOVER then runs at the freq of
its last valid reply. A miss on the port in use ends the runs of consecutive replies. -/
def missedReply (s : State) (port : Nat) : State :=
  let g := { s.gt with inFlight := tdel s.gt.inFlight port }
  if port = upstreamPort s then
    let g := { g with lockRun := 0, lockedRun := 0, holdRun := 0, rate := if g.state = 3 then g.freq else g.rate }
    let n := g.missed + 1
    if ¬ g.secondary ∧ 3 ≤ n ∧ s.tree.secondaryValid then { s with gt := { g with missed := 0, secondary := true, primaryRun := 0 } }
    else { s with gt := { g with missed := n } }
  else { s with gt := { g with primaryRun := 0 } }

/-- R62: the rate after a valid reply, with the offset in units of 0.125 ns and rates in ppb; offset × 1000 / 8 is rounded down (DESIGN CHOICE,
log 70). -/
def servo (g : GroupTime) (offset : Int) : GroupTime :=
  let freq := clampInt (-100000) 100000 (g.freq - offset * 1000 / 64)
  { g with freq := freq, rate := clampInt (-100000) 100000 (freq - offset * 125) }

/-- R62, R63: the upstream states that a reply may report for a member in state `st`: LOCKED and MASTER; TRACKING where it takes a LOCKED
member to TRACKING; HOLDOVER where it takes the member there or keeps it there. -/
def upstreamAllowed (st up : Nat) : Bool :=
  up == 2 || up == 4 || (up == 1 && st == 2) || (up == 3 && (st == 1 || st == 2 || st == 3))

/-- R63: the first valid reply ends ACQUIRE: group time takes the offset in one step, in whole ns rounded down, and the send and reply times
move with it. That reply sets no rate (DESIGN CHOICE, log 70). -/
def acquireStep (g : GroupTime) (offset : Int) : GroupTime :=
  let shift (t : Nat) : Nat := ((t : Int) - offset / 8).toNat % 2 ^ 64
  { g with time := shift g.time, lastSend := shift g.lastSend, lastValid := shift g.time, state := 1 }

/-- R63: what a valid reply from an upstream in state `up` does to the member's state. -/
def validReply (s : State) (offset delay : Int) (up : Nat) : State :=
  let lm := up = 2 ∨ up = 4
  let near := offset.natAbs ≤ 32
  let g := { s.gt with offset := offset, delay := delay, missed := 0, lastValid := s.gt.time,
                       lockRun := if near then min 255 (s.gt.lockRun + 1) else 0,
                       lockedRun := if near ∧ lm then s.gt.lockedRun + 1 else 0 }
  match g.state with
  | 0 => { s with gt := acquireStep g offset }
  | 1 =>
    let s := { s with gt := servo g offset }
    if up = 3 then enterHoldover s
    else if 8 ≤ g.lockedRun then enterLocked s else s
  | 2 =>
    let s := { s with gt := servo g offset }
    if up = 3 then enterHoldover s
    else if 128 < offset.natAbs ∨ up = 1 then { s with gt := { s.gt with state := 1, lockedRun := 0 } } else s
  | 3 =>
    let s := { s with gt := { servo g offset with holdRun := if lm then g.holdRun + 1 else 0 } }
    if 8 ≤ s.gt.holdRun then leaveHoldover s else s
  | _ => { s with gt := g }

/-- R61, R62: TIME_REPLY, stamped t4. It is valid when it answers an exchange in flight within 100 µs, names the
configured master and reports an upstream state that the member's own allows. A LOCKED member whose upstream reports ACQUIRE goes back to
TRACKING. The counter is kept on H0 (R59). -/
def takeTimeReply (s : State) (port sequence up master t2 t3 : Nat) (replayed : Bool) (t4 : Nat) : State :=
  match tfind s.gt.inFlight port with
  | none => s
  | some (t1, seq) =>
    if seq ≠ sequence ∨ ¬ s.dieUp 0 ∨ ¬ timePort s port then s else
    if replayed ∨ t1 + 100000 < t4 ∨ master ≠ s.tree.master ∨ ! upstreamAllowed s.gt.state up then
      let s := missedReply s port
      if up = 0 ∧ s.gt.state = 2 ∧ ¬ replayed ∧ master = s.tree.master then { s with gt := { s.gt with state := 1 } } else s
    else
      let asym := toSigned 32 (s.rd (R.LNK_ASYM.asym (port / 4) (port % 4)))
      let offset := (((t1 : Int) - t2) + ((t4 : Int) - t3)) * 4 - asym
      let delay := (((t4 : Int) - t1) - ((t3 : Int) - t2)) * 4
      let s := { s with gt := { s.gt with inFlight := tdel s.gt.inFlight port } }
      if port ≠ upstreamPort s then
        let n := s.gt.primaryRun + 1
        if 8 ≤ n then { s with gt := { s.gt with primaryRun := 0, secondary := false, missed := 0 } }
        else { s with gt := { s.gt with primaryRun := n } }
      else validReply s offset delay up

/-- TIME_REPLY, received `ns` after the last tick. -/
def timeReply (port sequence _hub up master t2 t3 : Nat) (replayed : Bool) (ns : Nat) (s : State) : State :=
  takeTimeReply s port sequence up master t2 t3 replayed (s.gt.time + ns)

/-- R62: no reply within 100 µs of the request. -/
def timeReplyMissed (port : Nat) (s : State) : State :=
  match tfind s.gt.inFlight port with
  | none => s
  | some (t1, _) => if s.gt.time < t1 + 100000 ∨ ¬ s.dieUp 0 then s else missedReply s port

/-- R63: 10 ms without a valid reply move a TRACKING or LOCKED member to HOLDOVER, at its last freq. -/
def gtHoldover (s : State) : State :=
  if (s.gt.state = 1 ∨ s.gt.state = 2) ∧ s.gt.lastValid + 10000000 ≤ s.gt.time ∧ s.dieUp 0 then
    enterHoldover { s with gt := { s.gt with rate := s.gt.freq } }
  else s

/-- TIME_REQUEST_SEND. -/
def execTimeRequestSend (s : State) : Host.Outcome State Fault Refusal := .next (timeRequestSend s)
/-- TIME_REQUEST. -/
def execTimeRequest (port sequence hub : Nat) (arrival : RequestArrival) (s : State) : Host.Outcome State Fault Refusal :=
  .next (timeRequest port sequence hub arrival.replayed arrival.ns arrival.turn s)
/-- TIME_REPLY. -/
def execTimeReply (port sequence hub up master t2 t3 : Nat) (arrival : Arrival) (s : State) : Host.Outcome State Fault Refusal :=
  .next (timeReply port sequence hub up master t2 t3 arrival.replayed arrival.ns s)
/-- TIME_REPLY_MISSED. -/
def execTimeReplyMissed (port : Nat) (s : State) : Host.Outcome State Fault Refusal := .next (timeReplyMissed port s)
/-- GT_HOLDOVER. -/
def execGtHoldover (s : State) : Host.Outcome State Fault Refusal := .next (gtHoldover s)

end Sys2Proof.Machine
end

