-- ==== Sys2Proof/Machine/Leak.lean ====
section
/-! DEFINITION. Leak guarding (R301 to R305). -/

namespace Sys2Proof.Machine

/-- R301: a loop's state as LEAK_LOOP_n.state codes it, by its resistance in ohms. -/
def loopState (ohms : Nat) : Nat :=
  if ohms < 100 then 3
  else if ohms < 2000 then 1
  else if ohms < 8000 then 4
  else if ohms ≤ 12000 then 0
  else if ohms ≤ 100000 then 4
  else 2

/-- A time table in which `i` keeps its earliest time while a condition holds, and is not listed otherwise. -/
def holdSince (t : Tab Nat) (i now : Nat) (b : Bool) : Tab Nat := if b then tput t i (tgetD t i now) else tdel t i

/-- The zone numbered `z` (R302). -/
def zoneOf (s : State) (z : Nat) : LeakZone := s.img.plant.zones.getD z {}

/-- R407: an off record for the partitions of a set, which replaces a record of host or none only. -/
def writeOff (s : State) (parts by_ : Nat) : State :=
  let old := s.rd R.MGT_PART_OFF.off_by
  let v := (members parts 8).foldl (init := old) fun (w : Nat) p =>
    if bits old (2 * p + 1) (2 * p) % 2 = 1 then w else w - bits old (2 * p + 1) (2 * p) * 4 ^ p + by_ * 4 ^ p
  let s := s.wr R.MGT_PART_OFF.off_by v
  { s with flash := { s.flash with settings := { s.flash.settings with offBy := v } } }

/-- The partitions of a set of slots. -/
def partsOf (s : State) (slots : Nat) : Nat := ofMembers ((members slots 8).map s.partOf)

/-- A zone's marks in LEAK_STATUS and LEAK_ZONE. -/
def setWet (s : State) (z : Nat) (b : Bool) : State :=
  (s.wr R.LEAK_STATUS.wet (setBit (s.rd R.LEAK_STATUS.wet) z b)).wr (R.LEAK_ZONE.wet z) (b2n b)

/-- A zone's unguarded mark. -/
def setUnguarded (s : State) (z : Nat) (b : Bool) : State :=
  (s.wr R.LEAK_STATUS.unguarded (setBit (s.rd R.LEAK_STATUS.unguarded) z b)).wr (R.LEAK_ZONE.unguarded z) (b2n b)

/-- R301, R303: one loop's sample. -/
def sampleLoop (s : State) (p : Nat × Nat) : State :=
  let (ohms, n) := p
  let st := loopState ohms
  let s := (s.wr (R.LEAK_LOOP.ohms n) (min 0xFFFF (ohms / 10))).wr (R.LEAK_LOOP.state n) st
  let k := s.leak
  { s with leak := { k with
    wetRun := tput k.wetRun n (if st = 1 then tgetD k.wetRun n 0 + 1 else 0),
    brokenSince := holdSince k.brokenSince n s.now (st == 2 || st == 3),
    bandSince := holdSince k.bandSince n s.now (st == 4),
    drySince := holdSince k.drySince n s.now (st == 0) } }

/-- R303: a zone turns wet: ISO_VALVE is asserted and the event raised to Steward in the same microsecond. -/
def turnWet (s : State) (z loop : Nat) : State :=
  let q := zoneOf s z
  let s := (setWet s z true).bump R.LEAK_WET_COUNT.c
  let s := if q.iso = 0 then s else s.wr (R.COOL_ISO.closed (q.iso - 1)) 1
  { s with leak := { s.leak with orders := setBit s.leak.orders z true, ordered := setBit s.leak.ordered z false,
                                 wetLoop := tput s.leak.wetLoop z loop } }

/-- R303: a zone with a loop that has decoded wet on four samples in a row. -/
def lookWet (s : State) (z : Nat) : State :=
  if (s.rd R.LEAK_STATUS.wet).testBit z then s
  else match (members (zoneOf s z).loops 16).find? fun n => 4 ≤ tgetD s.leak.wetRun n 0 with
    | none => s
    | some n => turnWet s z n

/-- R301, R303: LEAK_SAMPLE: the fitted loops' resistances, the first loops of the front end. -/
def leakSample (ohms : List Nat) (s : State) : State :=
  let s := (ohms.take (min 16 s.img.plant.loops)).zipIdx.foldl sampleLoop s
  (List.range (min 8 s.img.plant.zones.length)).foldl lookWet s

/-- R303: the slot bind-off of a wet zone's slots, where the sequencer's state allows the order (R228). -/
def wetBindOff (s : State) (z : Nat) : State :=
  let slots := (zoneOf s z).slots % 256
  if (s.leak.ordered.testBit z) = true ∨ slots = 0 ∨ slotsAllowed s = false then s else orderSlotsOff s slots

/-- R303: WET_ZONE_ORDER: Steward orders the bind-off, records the partitions as turned off by the T8 and raises the alarm. While Steward
is halted the floor engine gives the order, and Steward's own steps wait for it to resume. -/
def wetZoneOrder (z : Nat) (s : State) : State :=
  if ¬ s.leak.orders.testBit z then s
  else if s.procUp 0 then
    let q := zoneOf s z
    let s := wetBindOff s z
    let s := writeOff s (partsOf s q.slots) 3
    let s := { s with leak := { s.leak with orders := setBit s.leak.orders z false, ordered := setBit s.leak.ordered z false } }
    let wet := ofMembers ((members q.loops 16).filter fun n => s.rd (R.LEAK_LOOP.state n) = 1)
    s.err (0x6030 + tgetD s.leak.wetLoop z 0) 0 0x0D 3 (atByte 0 1 + atByte 1 z + atByte 2 wet + atByte 4 (q.slots % 256))
  else if s.rd (R.FW_PROC.state 0) = 3 then
    let s := wetBindOff s z
    { s with leak := { s.leak with ordered := setBit s.leak.ordered z true } }
  else s

/-- R305: the loop of a zone that leaves it unguarded now. -/
def unguardedBy (s : State) (z : Nat) : Option Nat :=
  let past (t : Tab Nat) (n dur : Nat) : Bool := match tfind t n with
    | some since => decide (since + dur ≤ s.now)
    | none => false
  (members (zoneOf s z).loops 16).find? fun n => past s.leak.brokenSince n 100000 || past s.leak.bandSince n 1000000

/-- R305: ZONE_UNGUARDED. -/
def zoneUnguarded (z : Nat) (s : State) : State :=
  if 8 ≤ z ∨ (s.rd R.LEAK_STATUS.unguarded).testBit z = true then s
  else match unguardedBy s z with
    | none => s
    | some n =>
      let s := (setUnguarded s z true).bump R.LEAK_UNGUARD_COUNT.c
      s.err (0x6030 + n) 0 0x0D 3
        (atByte 0 2 + atByte 1 z + atByte 2 (s.rd (R.LEAK_LOOP.state n)) + atByte 4 (s.rd (R.LEAK_LOOP.ohms n)))

/-- R305: ZONE_UNGUARD_CLEAR: every loop of the zone has decoded dry for 1 s. -/
def zoneUnguardClear (z : Nat) (s : State) : State :=
  let dry (n : Nat) : Bool := match tfind s.leak.drySince n with
    | some since => decide (since + 1000000 ≤ s.now)
    | none => false
  if z < 8 ∧ (s.rd R.LEAK_STATUS.unguarded).testBit z = true ∧ (members (zoneOf s z).loops 16).all dry = true then
    setUnguarded s z false
  else s

/-- Whether every loop of a zone decodes dry. -/
def zoneDry (s : State) (z : Nat) : Bool := (members (zoneOf s z).loops 16).all fun n => s.rd (R.LEAK_LOOP.state n) == 0

/-- R304: a wet zone is cleared and its isolation valve opens, unless another wet zone names the same valve. -/
def clearWet (s : State) (z : Nat) : State :=
  let iso := (zoneOf s z).iso
  let s := setWet s z false
  let others := (members (s.rd R.LEAK_STATUS.wet) 8).any fun y => (zoneOf s y).iso == iso
  if iso = 0 ∨ others = true then s else s.wr (R.COOL_ISO.closed (iso - 1)) 0

/-- R304: LEAK_CLEAR_WRITE. Zones whose loops are all dry are cleared; one that is not stays wet and the write is answered INVALID. -/
def leakClearWrite (agent : Agent) (zones : Nat) (s : State) : State :=
  if agent ≠ .steward then s.deny agent
  else
    let wet := (members zones 8).filter fun z => (s.rd R.LEAK_STATUS.wet).testBit z
    let s := (wet.filter (zoneDry s)).foldl clearWet s
    s.answer (if wet.all (zoneDry s) then .ok else .invalid) 0 0

/-- LEAK_SAMPLE. -/
def execLeakSample (ohms : List Nat) (s : State) : Host.Outcome State Fault Refusal := .next (leakSample ohms s)
/-- WET_ZONE_ORDER. -/
def execWetZoneOrder (zone : Nat) (s : State) : Host.Outcome State Fault Refusal := .next (wetZoneOrder zone s)
/-- ZONE_UNGUARDED. -/
def execZoneUnguarded (zone : Nat) (s : State) : Host.Outcome State Fault Refusal := .next (zoneUnguarded zone s)
/-- ZONE_UNGUARD_CLEAR. -/
def execZoneUnguardClear (zone : Nat) (s : State) : Host.Outcome State Fault Refusal := .next (zoneUnguardClear zone s)
/-- LEAK_CLEAR_WRITE. -/
def execLeakClearWrite (agent : Agent) (zones : Nat) (s : State) : Host.Outcome State Fault Refusal :=
  .next (leakClearWrite agent zones s)

end Sys2Proof.Machine
end

