-- ==== Sys2Proof/Machine/Sdc.lean ====
section
/-! DEFINITION. Swatches, readmission and votes on digests (R345 to R348, R356 to R363). -/

namespace Sys2Proof.Machine

/-! ## Starting and ending swatches -/

/-- R350, R363: after an accelerator swatch ACC_PERST_N is released after SEQ_CFG.perst_delay. -/
def releaseSwatched (s : State) (n : Nat) : State := if isTile n then s else schedulePerst s (1 <<< (n - 128))

/-- A swatch ends, and an accelerator's reset is scheduled for release. -/
def endSwatch (s : State) (n result failBits : Nat) (keep : Bool) : State := releaseSwatched (finishSwatch s n result failBits keep) n

/-- Whether a swatch of unit `n` could begin now: one tile swatch at a time on each die, which runs (R356), and an accelerator's with its rails up
(R357). -/
def swatchFree (s : State) (n : Nat) : Bool :=
  if isTile n then s.dieUp (n / 64) && (tileUnderSwatch s (n / 64)).isNone else slotOn s (n - 128)

/-- R357: whether a slot's test-port description is in order and its pattern set stands in the test store. -/
def testPortOk (s : State) (slot : Nat) : Bool :=
  let p := (tget s.lnk.identity slot).test
  s.sdc.sets.contains p.set && decide (1 ≤ p.tck) && decide (p.tck ≤ 1000) && decide (1 ≤ p.limit) && decide (p.limit ≤ 6000) &&
    decide (p.flags < 2) && p.reserved == 0

/-- R356, R357: a swatch starts. An accelerator's reset is asserted; with a description that is not valid it fails at once. -/
def startSwatch (s : State) (n : Nat) : State :=
  let s := if isTile n then s else assertPerst s (1 <<< (n - 128))
  let s := modUnit s n fun u => { u with waiting := false, running := some s.now }
  if isTile n then s
  else
    let slot := n - 128
    if testPortOk s slot then s else endSwatch s n 2 0 false

/-- A swatch that waits starts once nothing stands in its way. -/
def tryStart (s : State) (n : Nat) : State :=
  if (unitLive s n).waiting ∧ (unitLive s n).running.isNone ∧ swatchFree s n then startSwatch s n else s

/-- The next waiting tile of a die that is fenced starts. -/
def startNextTile (s : State) (d : Nat) : State :=
  match (List.range 64).find? fun t => (unitLive s (64 * d + t)).waiting && tileFenced s (64 * d + t) with
  | some t => tryStart s (64 * d + t)
  | none => s

/-- R358: a swatch of a unit is ordered: at once where it is fenced, failed or not admitted; a tile in service waits for the next step
mark, and an accelerator in service for its expulsion. -/
def orderSwatch (s : State) (n : Nat) : State :=
  let s := modUnit s n fun u => { u with waiting := true }
  if isTile n then
    (if tileFenced s n then tryStart s n else s)
  else if ¬ s.accPresent (n - 128) then modUnit s n fun u => { u with waiting := false }
  else if s.accAdmitted (n - 128) then (expelSlot s (n - 128)).bump R.SDC_EXPEL_COUNT.c
  else tryStart s n

/-- R358, R361, R365: the answer to an order: RETRY while the unit is under swatch. -/
def swatchAnswer (s : State) (n : Nat) : Resp := if (unitLive s n).running.isSome then .retry else .ok

/-- SWATCH_ORDER: SDC_SWATCH_CTRL is written (R358, R365). -/
def swatchOrder (agent : Agent) (run : Bool) (index : Nat) (s : State) : State :=
  if agent ≠ .steward then s.deny agent
  else if 135 < index then s.answer .invalid 0 0
  else if ! run then s.answer .ok 0 0
  else match swatchAnswer s index with
    | .retry => s.answer .retry 0 0
    | a => (orderSwatch s index).answer a 0 0

/-- R358: whether a unit is idle: a tile that the active pattern's masks do not name, or an accelerator present and not admitted. -/
def unitIdle (s : State) (n : Nat) : Bool :=
  if isTile n then
    match s.activePattern with
    | some p => s.dieUp (n / 64) && ! (if n < 64 then p.tiles0 else p.tiles1).testBit (n % 64)
    | none => s.dieUp (n / 64)
  else s.accPresent (n - 128) && ! s.accAdmitted (n - 128)

/-- R358, R359: SWATCH_DUE: with SDC_CFG.auto a due unit that is idle is swatched. A tile not yet fenced is fenced for it. -/
def swatchDue (unit : Nat) (s : State) : State :=
  if 136 ≤ unit ∨ ¬ unitDue s unit 1 ∨ ¬ s.on R.SDC_CFG.auto ∨ ¬ unitIdle s unit ∨ (unitLive s unit).running.isSome
      ∨ ¬ swatchFree s unit then s
  else
    let s := if isTile unit ∧ ! tileFenced s unit then
        modUnit (fenceTile s unit) unit fun u => { u with forSwatch := ! (unitKept s unit).failed }
      else s
    startSwatch s unit

/-- R357: whether the duration limit of an accelerator's swatch has run out. -/
def swatchLate (s : State) (unit : Nat) : Bool := match (unitLive s unit).running with
  | some t => ! isTile unit && decide (t + (tget s.lnk.identity (unit - 128)).test.limit * 10000 ≤ s.now)
  | none => false

/-- R360: SWATCH_END: a swatch ends with its signature, or is aborted by its duration limit (R357). An uncorrectable word of the tile
SRAM fails it (R356). -/
def swatchEnd (unit : Nat) (aborted signatureOk sramBad : Bool) (failBits : Nat) (s : State) : State :=
  if (unitLive s unit).running.isNone ∨ (isTile unit = false ∧ aborted ≠ swatchLate s unit) then s
  else
    let s := endSwatch s unit (if aborted then 3 else if signatureOk ∧ ! sramBad then 1 else 2) failBits false
    if isTile unit then startNextTile s (unit / 64) else s

/-! ## Step marks -/

/-- R362: readmissions at a step mark, before the new pattern is checked: a tile that passed, or one that ADMIT named. -/
def readmitTiles (s : State) : State :=
  (List.range 128).foldl (init := s) fun s n =>
    if ¬ (unitLive s n).readmit then s
    else
      let failed := (unitKept s n).failed
      let s := modUnit s n fun u => { u with readmit := false, forSwatch := false, passed := false }
      let s := modKept s n fun k => { k with failed := false }
      unfenceTile (if failed then setLevel s n 2 else s) n

/-- R358: at a step mark a tile in service whose swatch waits is fenced and its swatch starts. -/
def fenceForSwatch (s : State) : State :=
  (List.range 128).foldl (init := s) fun s n =>
    if (unitLive s n).waiting ∧ ! tileFenced s n ∧ s.dieUp (n / 64) then
      tryStart (modUnit (fenceTile s n) n fun u => { u with forSwatch := true }) n
    else s

/-- R358: an accelerator's waiting swatch starts once its expulsion has taken effect. -/
def startExpelled (s : State) : State :=
  (List.range 8).foldl (init := s) fun s i =>
    if (unitLive s (128 + i)).waiting ∧ ! s.accAdmitted i then tryStart s (128 + i) else s

/-- R350: a new serial number in a slot resets the unit's level, history and pass count. -/
def takeSerial (s : State) (slot serial : Nat) : State :=
  if (unitKept s (128 + slot)).serial = serial then s
  else modUnit (modKept s (128 + slot) fun _ => { serial := serial }) (128 + slot) fun u => { u with history := [], passed := false, held := false }

/-! ## Votes -/

/-- A vote's outcome (R346): its verdict, whether a digest is missing, the shards with a finding, the replicas that dissent and those in
doubt, the first such shard with its majority, and for each finding its kind (1 dissent, 2 no majority, 3 two replicas differ), member
index, and whether it is only a missing digest. -/
structure Vote where
  verdict : Nat := 0
  missing : Bool := false
  shards : Nat := 0
  odd : Nat := 0
  doubted : Nat := 0
  first : Option Nat := none
  majority : Nat := 0
  found : List (Nat × Nat × Bool) := []
deriving Inhabited

/-- A digest that did not arrive (R135). -/
def missingDigest : Nat := 2 ^ 128 - 1

/-- The majority of a shard's digests (R345). A digest that did not arrive is no value that a replica holds (DEDUCED, log 80). -/
def shardMajority (l : List Nat) : Option Nat :=
  l.find? fun x => x != missingDigest && decide (l.length < 2 * (l.filter (· == x)).length)

/-- R345, R347: one shard's vote: the kind of each replica's finding. -/
def shardVote (l : List Nat) : List (Nat × Nat) :=
  match shardMajority l with
  | some m => (l.zipIdx.filter fun d => d.1 != m || d.1 == missingDigest).map fun d => (1, d.2)
  | none =>
    if l.length = 2 then (if l.contains missingDigest then (l.zipIdx.filter fun d => d.1 == missingDigest).map fun d => (1, d.2)
      else l.zipIdx.map fun d => (3, d.2))
    else l.zipIdx.map fun d => if d.1 = missingDigest then (1, d.2) else (2, d.2)

/-- R345, R346: the vote on a table of `r` replicas of `p` shards, in replica-major order. -/
def takeVote (table : List Nat) (r p : Nat) : Vote :=
  let shard (j : Nat) : List Nat := (List.range r).map fun k => table.getD (k * p + j) missingDigest
  let found := (List.range p).map fun j => (j, shardVote (shard j))
  let bad := found.filter fun f => ! f.2.isEmpty
  let kinds := bad.flatMap fun f => f.2.map (·.1)
  let pick (k : Nat → Bool) : Nat := ofMembers (bad.flatMap fun f => (f.2.filter fun x => k x.1).map (·.2))
  { verdict := if kinds.contains 3 then 3 else if kinds.contains 2 then 2 else if kinds.contains 1 then 1 else 0
    missing := table.contains missingDigest
    shards := bad.length
    odd := pick (· == 1)
    doubted := pick fun k => k == 2 || k == 3
    first := bad.head?.map (·.1)
    majority := match bad.head? with
      | some f => (shardMajority (shard f.1)).getD 0
      | none => 0
    found := bad.flatMap fun f => f.2.map fun x => (x.1, x.2 * p + f.1, table.getD (x.2 * p + f.1) missingDigest == missingDigest) }

/-- The 64 bytes of a vote outcome (R346). -/
def voteBytes (v : Vote) (step r p : Nat) : List Nat :=
  let l := bytesOf 60 (atByte 0 step + atByte 6 v.verdict + atByte 7 (b2n v.missing) + atByte 8 r + atByte 10 p + atByte 12 v.shards +
    atByte 16 v.odd + atByte 24 v.doubted + atByte 32 (v.first.getD 0xFFFFFFFF) + atByte 36 v.majority)
  l ++ bytesOf 4 (crc32c l)

/-- R347, R348: the action on one finding at one of this hub's slots, in replica `k` of shard `j`. With two replicas, a shard with a
missing digest changes nothing. -/
def actOnVote (s : State) (two : Bool) (slot kind k j : Nat) (onlyMissing : Bool) : State :=
  let n := 128 + slot
  if two ∧ kind = 1 then s
  else
    let s := s.bump R.SDC_DISSENT_COUNT.c
    let s := if kind = 1 ∧ ! onlyMissing then addHistory s n else s
    let s := if onlyMissing then s else setLevel s n 2
    let s := if kind = 1 ∧ ! onlyMissing then modUnit s n fun u => { u with held := true } else s
    let s := if kind = 1 then ((expelSlot s slot).bump R.SDC_EXPEL_COUNT.c).wr R.SDC_STATUS.expelled 1
      else s.wr R.SDC_STATUS.doubted 1
    let s := if kind = 1 ∧ ! onlyMissing ∧ 3 ≤ historyCount s n then
        unitRecord (((modKept s n fun q => { q with failed := true }).bump R.SDC_PERMANENT_COUNT.c).wr R.SDC_STATUS.permanent 1) n 10 0 0
      else s
    unitRecord s n kind k j

/-- R347, R348: the vote's counts, registers and actions; `slotOf` gives the slot on this hub of a member. -/
def actVote (s : State) (v : Vote) (r p step : Nat) (slotOf : Nat → Option Nat) : State :=
  let s := s.bump R.SDC_VOTE_COUNT.c
  let mine := v.found.filterMap fun f => (slotOf f.2.1).map fun slot => (slot, f)
  let s := if v.verdict = 0 then s
    else
      let s := (((s.wr R.SDC_LAST_VOTE.valid 1).wr R.SDC_LAST_VOTE.verdict v.verdict).wr R.SDC_LAST_VOTE.missing (b2n v.missing)).wr
        R.SDC_LAST_VOTE.slots (ofMembers (mine.map (·.1)))
      (s.wr R.SDC_LAST_VOTE.shards (min 0xFFFF v.shards)).wr R.SDC_LAST_VOTE_STEP.step_lo step
  mine.foldl (init := s) fun s m => actOnVote s (r == 2) m.1 m.2.1 (m.2.2.1 / p) (m.2.2.1 % p) m.2.2.2

/-- SWATCH_ORDER. -/
def execSwatchOrder (agent : Agent) (run : Bool) (index : Nat) (s : State) : Host.Outcome State Fault Refusal :=
  .next (swatchOrder agent run index s)
/-- SWATCH_DUE. -/
def execSwatchDue (unit : Nat) (s : State) : Host.Outcome State Fault Refusal := .next (swatchDue unit s)
/-- SWATCH_END. -/
def execSwatchEnd (unit : Nat) (aborted signatureOk sramBad : Bool) (failBits : Nat) (s : State) : Host.Outcome State Fault Refusal :=
  .next (swatchEnd unit aborted signatureOk sramBad failBits s)

end Sys2Proof.Machine
end

