-- ==== Sys2Proof/Machine/Storage.lean ====
section
/-! DEFINITION. How the storage codes lay out and mark what they protect (R314 to R316). -/

namespace Sys2Proof.Machine

/-! ## Marks of POISON (R315) -/

/-- R315: the check byte of a SECDED word as it is stored: inverted where the word is marked. -/
def storedSecded (marked : Bool) (word : Nat) : Nat :=
  let c := Config.secdedByte word % 256
  if marked then 255 - c else c

/-- R315: what the four check symbols of a marked granule are XORed with. -/
def granuleMark : List Nat := [0x5A, 0xA5, 0x5A, 0xA5]

/-- R314, R315: the four check symbols of an HBM3E granule of 64 data symbols as they are stored. -/
def storedGranule (marked : Bool) (data : List Nat) : List Nat :=
  let code := (List.range 4).map fun i => Config.outerSymbol data i % 256
  if marked then code.zipWith (· ^^^ ·) granuleMark else code

/-! ## Raw channel memory (R316) -/

/-- R316: the raw byte of a channel at which data line `q` of it begins. -/
def rawLine (q : Nat) : Nat := q / 7 * 2048 + q % 7 * 256

/-- R316: the raw byte at which the check line of data line `q` begins. -/
def rawCheckLine (q : Nat) : Nat := q / 7 * 2048 + 1792

/-- R316: the raw byte at which the check symbols of data line `q` begin: 16 of its lower half-line, then 16 of its upper. -/
def rawSymbols (q : Nat) : Nat := rawCheckLine q + q % 7 * 32

/-- R316: the raw byte of copy `i` of the poison bits of data line `q`'s group; the line's bit is bit `q % 7`. -/
def rawPoison (q i : Nat) : Nat := rawCheckLine q + 224 + i

/-- R171 the other way: data line `q` of channel `c`, as a local offset divided by 256. -/
def channelLine (c q : Nat) : Nat := 0x280000000000 / 256 + q * 16 + c

/-- The poison bits of a group of a channel: bit `k` for line `k` (R316). -/
def poisonBits (m : MemState) (c g : Nat) : Nat :=
  total ((List.range 7).map fun k => if m.isMarked (channelLine c (7 * g + k)) then 2 ^ k else 0)

/-- The data bytes of half `h` of data line `q` of a channel as they are stored; those of a marked line are undefined (R315). -/
def storedHalf (m : MemState) (c q h : Nat) : List Nat :=
  let at_ := channelLine c q * 256 + 128 * h
  if m.isMarked (channelLine c q) then (List.range 128).map fun i => Config.markedByte (at_ + i) % 256
  else Memory.readBytes m.pool at_ 128

/-- R316: raw byte `a` of channel `c`: a byte of a data line, or in the group's check line a check symbol, a copy of the poison bits or
zero. -/
def rawByte (m : MemState) (c a : Nat) : Nat :=
  let g := a / 2048
  let b := a % 2048
  if b < 1792 then (storedHalf m c (7 * g + b / 256) (b % 256 / 128)).getD (b % 128) 0
  else
    let k := b - 1792
    if k < 224 then Config.outerSymbol (storedHalf m c (7 * g + k / 32) (k % 32 / 16)) (k % 16) % 256
    else if k < 227 then poisonBits m c g
    else 0

/-- R316: whether the check line says that data line `q` of channel `c` is marked: two of the three copies have its bit. -/
def rawMarked (m : MemState) (c q : Nat) : Bool :=
  decide (2 ≤ ((List.range 3).filter fun i => (rawByte m c (rawPoison q i)).testBit (q % 7)).length)

end Sys2Proof.Machine
end

