-- ==== Sys2Proof/Machine/Integrity.lean ====
section
/-! DEFINITION. Checks, POISON and containment (R314 to R337). -/

namespace Sys2Proof.Machine

/-! ## Error counts and records -/

/-- The unit identifier of a memory unit (R21). -/
def memIdent (unit : Nat) : Nat := 0x5000 + unit

/-- The class of a memory unit's errors (R338). -/
def memClass (unit : Nat) : Nat := if unit < 16 then 0x01 else 0x02

/-- The global address of a pool line. -/
def lineAddress (s : State) (line : Nat) : Nat := s.img.tray.hub * 2 ^ 46 + line * 256

/-- R339: the detail of a memory error: the line, the kind, the symbols corrected and the first one. -/
def memDetail (s : State) (line kind symbols first : Nat) : Nat :=
  atByte 0 (lineAddress s line) + atByte 8 kind + atByte 9 (symbols % 256) + atByte 10 (first % 65536)

/-- The hour of operating time. -/
def operatingHour (s : State) : Nat := s.rd R.REC_SECONDS.seconds / 3600

/-- R317: a corrected error of a pool line, found in operation `op` (R338): counted, to be written back, and recorded at most once an hour for the
line. -/
def correctedError (s : State) (op line symbols first : Nat) : State :=
  let unit := (homeOf (line * 256)).unit
  let s := (s.bump R.ERR_CE_COUNT.c).wr R.ERR_STATUS.ce 1
  let s := modMemStat s unit fun m => { m with corrected := m.corrected + 1 }
  let s := { s with mem := { s.mem with writeback := s.mem.writeback ++ [(line, s.now)] } }
  if tfind s.itg.ceRecorded line ≠ some (operatingHour s) then
    { s with itg := { s.itg with ceRecorded := tput s.itg.ceRecorded line (operatingHour s) } }.err (memIdent unit) op (memClass unit) 1
      (memDetail s line 1 symbols first)
  else s

/-- R317: corrections that a stack's on-die ECC reports are counted in its memory record alone. -/
def innerCorrected (s : State) (line n : Nat) : State :=
  let unit := (homeOf (line * 256)).unit
  if unit < 16 then modMemStat s unit fun m => { m with corrected := m.corrected + n } else s

/-- R317: CORRECTION_WRITEBACK: the corrected line is written back. The pool's contents are already the corrected data. -/
def correctionWriteback (line : Nat) (s : State) : State :=
  { s with mem := { s.mem with writeback := s.mem.writeback.filter fun p => p.1 != line } }

/-! ## Containment -/

/-- R332, R337: native containment: both dies enter reset with their memory in self-refresh; a third within 10 minutes latches. While
one is in progress a further error is absorbed (R336). -/
def nativeContain (s : State) (cls unit : Nat) : State :=
  if s.itg.containAt.isSome ∨ s.on R.ERR_STATUS.hub_latched = true then s
  else
    let step := s.cad.step
    let recent := s.now :: s.itg.contained.filter fun t => s.now < t + 600000000
    let latch := decide (3 ≤ recent.length)
    let s := (s.bump R.ERR_CONTAIN_COUNT.c).wr R.ERR_STATUS.containing 1
    let s := ((s.wr R.ERR_CONTAIN.valid 1).wr R.ERR_CONTAIN.kind (if latch then 3 else 1)).wr R.ERR_CONTAIN.cause cls
    let s := (s.wr R.ERR_CONTAIN.partition 0).wr R.ERR_CONTAIN.step step
    let up := ofMembers ((List.range 16).filter fun l => s.linkState l == 3)
    let s := { s with itg := { s.itg with containAt := some s.now, containLinks := up, contained := recent, selfRefresh := 0xFFFF003F } }
    let s := if s.dieUp 0 then resetDie s 0 else s
    let s := if s.dieUp 1 then resetDie s 1 else s
    let s := s.err unit 0x4004 0x14 5 (atByte 0 1 + atByte 2 cls + atByte 8 step)
    if latch then (s.wr R.ERR_STATUS.hub_latched 1).err unit 0x4004 0x14 3 (atByte 0 3 + atByte 2 cls + atByte 8 step) else s

/-- The partition that alone may write the unit of a pool line (R334, R335). -/
def lineOwner (s : State) (line : Nat) : Option Nat := (List.range 8).find? fun p => partitionAllows s p (line * 256) 1

/-- The slots of a partition. -/
def partSlotSet (s : State) (p : Nat) : Nat := ofMembers ((List.range 8).filter fun i => s.partOf i = p)

/-- The tiles assigned to a partition, as units. -/
def partTiles (s : State) (p : Nat) : List Nat := (List.range 128).filter fun t => tfind s.img.tileOwner t == some p

/-- Whether a request's source belongs to a partition of this tray. -/
def sourceOfPart (s : State) (p : Nat) (src : Source) : Bool := src.kind == 0 && s.partOf src.slot == p

/-- R335: a partition reset up to the writing of its region: its slots' resets, its requests, and its tiles, which are released after a
passing swatch. A third within 10 minutes turns the partition off (R337). -/
def partitionReset (s : State) (p cls unit : Nat) : State :=
  if s.itg.partitionsResetting.testBit p then s
  else
    let step := s.cad.step
    let recent := (p, s.now) :: s.itg.partitionResets.filter fun r => s.now < r.2 + 600000000
    let s := (s.bump R.ERR_CONTAIN_COUNT.c).wr R.ERR_STATUS.part_resetting 1
    let s := ((s.wr R.ERR_CONTAIN.valid 1).wr R.ERR_CONTAIN.kind 2).wr R.ERR_CONTAIN.cause cls
    let s := (s.wr R.ERR_CONTAIN.partition p).wr R.ERR_CONTAIN.step step
    let s := { s with itg := { s.itg with partitionsResetting := setBit s.itg.partitionsResetting p true, partitionResets := recent } }
    let s := assertPerst s (partSlotSet s p)
    let s := (s.mem.ctxs.filter fun c => sourceOfPart s p c.req.src).foldl timeoutCtx s
    let keep (w : Nat × List Waiting) : Nat × List Waiting := (w.1, w.2.filter fun (x : Waiting) => ! sourceOfPart s p x.req.src)
    let s := { s with mem := { s.mem with waiting := s.mem.waiting.map keep } }
    let s := (partTiles s p).foldl (init := s) fun s t =>
      modUnit (fenceTile s t) t fun u => { u with forSwatch := true, waiting := true }
    let s := s.err unit 0x4004 0x14 5 (atByte 0 2 + atByte 1 p + atByte 2 cls + atByte 8 step)
    if 3 ≤ (recent.filter fun r => r.1 = p).length then writeOff s (1 <<< p) 3 else s

/-- R331, R335: an uncorrectable error leads to containment: of partition `owner` alone in the forerunner's mode. -/
def contain (s : State) (cls unit : Nat) (owner : Option Nat) : State :=
  if s.on R.ERR_CFG.t4_mode then
    match owner with
    | some p => if s.itg.containAt.isSome then s else partitionReset s p cls unit
    | none => nativeContain s cls unit
  else nativeContain s cls unit

/-- R318: an uncorrectable error of a pool line, found in operation `op` (R338): counted, recorded and the line marked. Where its finder consumes
the data, containment follows. -/
def poolUncorrectable (s : State) (op line first : Nat) (scrub : Bool) : State :=
  let unit := (homeOf (line * 256)).unit
  let s := (s.bump R.ERR_UE_COUNT.c).wr R.ERR_STATUS.ue 1
  let s := modMemStat s unit fun m => { m with uncorrectable := m.uncorrectable + 1 }
  let s := markPoison s line
  let s := s.err (memIdent unit) op (memClass unit) 4 (memDetail s line (if scrub then 3 else 2) 0 first)
  if scrub then s else contain s (memClass unit) (memIdent unit) (lineOwner s line)

/-- The partition to which a tile of a die is assigned. -/
def tileOwnerOf (s : State) (d tile : Nat) : Option Nat := tfind s.img.tileOwner (64 * d + tile)

/-- R318: an uncorrectable word of structure `structure_` (R339: 0 tile SRAM, 1 descriptor store) of a die. -/
def sramUncorrectable (s : State) (op d tile word structure_ : Nat) : State :=
  let unit := if structure_ = 0 then 0x1000 * (d + 1) + tile else 0x1000 * (d + 1) + 0xD0
  let s := (s.bump R.ERR_UE_COUNT.c).wr R.ERR_STATUS.ue 1
  let s := s.bump R.ERR_POISON_COUNT.c
  let s := s.err unit op 0x03 4 (atByte 0 (word % 2 ^ 32) + atByte 4 structure_ + atByte 5 1 + atByte 6 0xFFFF)
  let s := if structure_ = 0 then unitFault s (64 * d + tile) 0x03 false else s
  contain s 0x03 unit (if structure_ = 0 then tileOwnerOf s d tile else none)

/-- R317, R339: a corrected word of structure `structure_` of a die, at bit `b`: counted, and recorded at most once an hour for the word. -/
def wordCorrected (s : State) (op d word structure_ b : Nat) : State :=
  let s := (s.bump R.ERR_CE_COUNT.c).wr R.ERR_STATUS.ce 1
  let key := 2 ^ 48 + structure_ * 2 ^ 40 + d * 2 ^ 32 + word
  if tfind s.itg.ceRecorded key = some (operatingHour s) then s
  else { s with itg := { s.itg with ceRecorded := tput s.itg.ceRecorded key (operatingHour s) } }.err (0x1000 * (d + 1) + 0xD0) op 0x03 1
    (atByte 0 (word % 2 ^ 32) + atByte 4 structure_ + atByte 6 b)

/-- R324: a parity mismatch on a transfer: path, tile, row and pattern as R339 lays them out. -/
def parityMismatch (s : State) (op d tile path row pattern : Nat) : State :=
  let s := (s.bump R.ERR_PARITY_COUNT.c).wr R.ERR_STATUS.parity 1
  let s := s.err (0x1000 * (d + 1) + tile) op 0x04 4 (atByte 0 path + atByte 1 tile + atByte 2 row + atByte 4 pattern)
  unitFault s (64 * d + tile) 0x04 false

/-- R324: `n` resends of bridge transfers within 1 ms: more than 16 count as an uncorrectable error of the hub's own memory. -/
def bridgeResend (s : State) (op d n : Nat) : State :=
  let s := { s with itg := { s.itg with bridgeResends := s.itg.bridgeResends + n } }
  if n ≤ 16 then s
  else
    let unit := 0x1000 * (d + 1) + 0xB0
    let s := (s.bump R.ERR_UE_COUNT.c).wr R.ERR_STATUS.ue 1
    let s := s.err unit op 0x04 4 (atByte 0 1)
    contain s 0x04 unit none

/-- R325, R326: a residue, rounding or slice-core check fails: engine, core or tile, and element as R339 lays them out. -/
def residueFailure (s : State) (op d tile engine core element : Nat) : State :=
  let s := (s.bump R.ERR_RESIDUE_COUNT.c).wr R.ERR_STATUS.residue 1
  let unit := 0x1000 * (d + 1) + (if engine = 2 then 0x800 + core else tile)
  let s := s.err unit op 0x05 4 (atByte 0 engine + atByte 1 core + atByte 4 (element % 2 ^ 32))
  unitFault s (64 * d + tile) 0x05 true

/-- R319: SCRUB_READ: the scrubber reads a line; progress shows in ERR_SCRUB_STATUS. A line marked POISON is left marked. -/
def scrubRead (line : Nat) (check : MemCheck) (s : State) : State :=
  let off := line * 256
  if ¬ s.on R.ERR_CFG.scrub_en ∨ ¬ inPool off ∨ ¬ s.dieUp (homeOf off).die then s
  else
    let s :=
      if off < 0x280000000000 then s.wr R.ERR_SCRUB_STATUS.hbm ((off + 256 - 0x200000000000) * 100 / 0x3200000000)
      else s.wr R.ERR_SCRUB_STATUS.lpddr ((off + 256 - 0x280000000000) * 100 / 0xE000000000)
    let s :=
      if s.rd R.ERR_SCRUB_STATUS.hbm = 100 ∧ s.rd R.ERR_SCRUB_STATUS.lpddr = 100 then
        ((s.wr R.ERR_SCRUB_STATUS.hbm 0).wr R.ERR_SCRUB_STATUS.lpddr 0).wr R.ERR_SCRUB_STATUS.passes
          (min 0xFFFF (s.rd R.ERR_SCRUB_STATUS.passes + 1))
      else s
    if s.mem.isMarked line then s
    else match check with
      | .inner n => innerCorrected s line n
      | .corrected n f => correctedError s 0x4000 line n f
      | .uncorrectable _ f => poolUncorrectable s 0x4000 line f true
      | _ => s

/-! ## Release -/

/-- R335: PARTITION_WIPE_COMPLETE: the region of partition `p` has been written with zero and its marks cleared; its tiles await their
swatches and its slots their reset release. -/
def partitionWipeComplete (p : Nat) (s : State) : State :=
  if ¬ s.itg.partitionsResetting.testBit p ∨ ¬ s.anyDieUp then s
  else
    let mine (off : Nat) : Bool := partitionAllows s p off 1
    let s := { s with mem := { s.mem with
      pool := s.mem.pool.filter fun c => ! mine c.1, marked := s.mem.marked.filter fun l => ! mine (l * 256) } }
    let s := { s with itg := { s.itg with partitionsResetting := setBit s.itg.partitionsResetting p false } }
    let s := s.wr R.ERR_STATUS.part_resetting (b2n (s.itg.partitionsResetting != 0))
    let s := startNextTile (startNextTile s 0) 1
    schedulePerst s (partSlotSet s p)

/-- Whether a link that was UP at the containment is still on its way back: it trains, waits out a DOWN, or waits for a peer that
is there. -/
def linkComing (s : State) (l : Nat) : Bool :=
  let st := s.linkState l
  s.itg.containLinks.testBit l && (st == 2 || st == 4 || (st == 1 && (if l < 8 then s.accPresent l else (tfind s.img.ports (l - 8)).isSome)))

/-- R332: ERR_STATUS.containing falls once the memory is retrained and the links that were UP are UP again. -/
def containOver (s : State) : State :=
  if s.itg.containAt.isNone ∨ ¬ s.anyDieUp ∨ s.itg.selfRefresh ≠ 0 ∨ ((List.range 16).any (linkComing s)) = true then s
  else { s with itg := { s.itg with containAt := none } }.wr R.ERR_STATUS.containing 0

/-- R332: MEMORY_RETRAIN_COMPLETE: stacks and channels have left self-refresh and their PHYs are retrained. -/
def memoryRetrainComplete (s : State) : State :=
  if s.anyDieUp ∧ s.itg.selfRefresh ≠ 0 then containOver { s with itg := { s.itg with selfRefresh := 0 } } else s

/-- R337: ERR_CTRL.release is written: the hold of both dies ends, and they may be released. -/
def hubLatchRelease (agent : Agent) (s : State) : State :=
  if agent ≠ .steward then s.deny agent
  else (s.wr R.ERR_STATUS.hub_latched 0).answer .ok 0 0

/-! ## Cross-check -/

/-- R327: a cross-check failure: counted, and recorded as an alarm. -/
def crossFailure (s : State) (d item warden hub : Nat) : State :=
  let s := (s.bump R.ERR_CROSS_COUNT.c).wr R.ERR_STATUS.cross 1
  s.err (0x1000 * (d + 1) + 0xC0) 0 0x13 3 (atByte 0 item + atByte 4 (warden % 2 ^ 32) + atByte 8 (hub % 2 ^ 32))

/-- The die that sends the report: H0, or H1 while H0 is held in reset (R327). -/
def reportDie (s : State) : Nat := if s.dieUp 0 then 0 else 1

/-- R327: CROSS_CHECK_REPORT: the hub's step, gauge and domains against the warden's. A mismatch over two reports is a failure. -/
def crossCheckReport (step gauge domains0 domains1 : Nat) (s : State) : State :=
  if ¬ s.anyDieUp ∨ ¬ s.on R.ERR_CFG.cross_en then s
  else
    let d := reportDie s
    let w0 := s.rd (R.PWR_DOMAIN_H.on 0)
    let w1 := s.rd (R.PWR_DOMAIN_H.on 1)
    let bad : Option (Nat × Nat × Nat) :=
      if s.rd R.PWR_GAUGE.gauge ≠ gauge then some (0, s.rd R.PWR_GAUGE.gauge, gauge)
      else if w0 ≠ domains0 then some (1, w0, domains0)
      else if w1 ≠ domains1 then some (1, w1, domains1)
      else if s.cad.step ≠ step then some (2, s.cad.step, step)
      else none
    let s := { s with itg := { s.itg with reportAt := s.now, crossFailed := false } }
    match bad with
    | none => { s with itg := { s.itg with crossBad := 0 } }
    | some (item, w, h) =>
      let n := if s.itg.crossItem = item then s.itg.crossBad + 1 else 1
      let s := { s with itg := { s.itg with crossBad := n, crossItem := item } }
      if n = 2 then crossFailure s d item w h else s

/-- R327: CROSS_CHECK_MISSING: no report for 10 ms from a released die. -/
def crossCheckMissing (s : State) : State :=
  let d := reportDie s
  let since := max s.itg.reportAt (tget s.sup.dies d).releasedAt
  if ¬ s.anyDieUp ∨ ¬ s.on R.ERR_CFG.cross_en ∨ s.itg.crossFailed = true ∨ s.now < since + 10000 then s
  else crossFailure { s with itg := { s.itg with crossFailed := true } } d 3 0 0

/-- CROSS_CHECK_REPORT. -/
def execCrossCheckReport (step gauge domains0 domains1 : Nat) (s : State) : Host.Outcome State Fault Refusal :=
  .next (crossCheckReport step gauge domains0 domains1 s)
/-- CROSS_CHECK_MISSING. -/
def execCrossCheckMissing (s : State) : Host.Outcome State Fault Refusal := .next (crossCheckMissing s)
/-- MEMORY_RETRAIN_COMPLETE. -/
def execMemoryRetrainComplete (s : State) : Host.Outcome State Fault Refusal := .next (memoryRetrainComplete s)
/-- PARTITION_WIPE_COMPLETE. -/
def execPartitionWipeComplete (part : Nat) (s : State) : Host.Outcome State Fault Refusal := .next (partitionWipeComplete part s)
/-- HUB_LATCH_RELEASE. -/
def execHubLatchRelease (agent : Agent) (s : State) : Host.Outcome State Fault Refusal := .next (hubLatchRelease agent s)
/-- CORRECTION_WRITEBACK. -/
def execCorrectionWriteback (line : Nat) (s : State) : Host.Outcome State Fault Refusal := .next (correctionWriteback line s)
/-- SCRUB_READ. -/
def execScrubRead (line : Nat) (check : MemCheck) (s : State) : Host.Outcome State Fault Refusal := .next (scrubRead line check s)

end Sys2Proof.Machine
end

