-- ==== Sys2Proof/Machine/OpenTraffic.lean ====
section
/-! DEFINITION. Open traffic: entry checks, queues, the dispatcher, timeouts and responses (R168 to R195). -/

namespace Sys2Proof.Machine

/-! ## Entry -/

/-- R174: whether an operation's size and alignment are allowed at address `a`. -/
def sizeOk (op : OpenOp) (a n : Nat) : Bool :=
  let small := [4, 8, 16, 32, 64, 128, 256]
  match op with
  | .read => small.contains n && a % n == 0
  | .write => small.contains n && a % n == 0
  | .writeMasked => n == 256 && a % 256 == 0
  | .readBulk => decide (512 ≤ n) && decide (n ≤ 4096) && n % 256 == 0 && a % 256 == 0 && a / 4096 == (a + n - 1) / 4096
  | .writeBulk => decide (512 ≤ n) && decide (n ≤ 4096) && n % 256 == 0 && a % 256 == 0 && a / 4096 == (a + n - 1) / 4096
  | .cas => [4, 8, 16].contains n && a % n == 0
  | .fence => true
  | _ => [4, 8].contains n && a % n == 0

/-- R168: whether a region accepts an operation. The management window takes READ and WRITE of 4 bytes. -/
def regionAccepts (r : Region) (op : OpenOp) (n : Nat) : Bool := match r with
  | .window _ => true
  | .hbm => true
  | .lpddr => true
  | .telemetry => op == .read || op == .readBulk
  | .registers => (op == .read || op == .write) && n == 4
  | .reserved => false

/-- R185: the stamp of a request, by the link it enters. -/
def stampOf (s : State) (h : OpenHdr) : Source :=
  if h.link < 8 then { kind := 0, slot := h.link, hub := s.tree.hub }
  else if h.link = 15 ∧ s.hostPortMode then { kind := 1, slot := 0, hub := s.tree.hub }
  else { h.stamp with kind := if h.stamp.kind = 1 then 1 else 2 }

/-- R190: whether a source may use a queue. -/
def queueAllows (q : QueueCfg) (src : Source) : Bool := match src.kind with
  | 0 => q.slots.testBit src.slot
  | 1 => q.host
  | _ => q.remote

/-- R169, R195: whether an address and an operation are in order, whichever hub they name. -/
def addressOk (s : State) (r : OpenReq) : Bool :=
  let hub := r.hdr.addr / 2 ^ 46
  let off := r.hdr.addr % 2 ^ 46
  decide (hub ≤ 249999) && (hub == s.tree.hub || (s.openPath hub).isSome) && sizeOk r.op off r.hdr.size && regionOf off != .reserved &&
  regionOf (off + r.hdr.size - 1) == regionOf off && regionAccepts (regionOf off) r.op r.hdr.size &&
  (regionOf off != .registers || inRegBlock (off - 0x3F0000000000))

/-- R169: the INVALID cases found on entry. -/
def entryInvalid (s : State) (r : OpenReq) : Bool :=
  ! queueAllows (tget s.mem.queues r.hdr.queue) r.src || (r.op != .fence && ! addressOk s r)

/-- The link-and-queue processor that serves a queue (R190). -/
def queueProc (q : Nat) : Nat := 4 + q / 64

/-- R195: what is found on entry, in the order INVALID, BUSY, RETRY. -/
def entryCheck (s : State) (r : OpenReq) : Option Resp :=
  let q := r.hdr.queue
  let die := q / 128
  if entryInvalid s r then some .invalid
  else if ¬ s.carries die ∨ ¬ s.domainOn die 26 then some .retry
  else if s.rd (R.FW_PROC.state (queueProc q)) = 2 ∨ s.rd (R.FW_PROC.state (queueProc q)) = 3 then some .busy
  else if r.src.kind = 0 ∧ ¬ s.accServed r.src.slot then some .retry
  else if (tget s.mem.queues q).depth ≤ (tget s.mem.waiting q).length then some .retry
  else none

/-! ## Charges and the crossbar -/

/-- The bytes of a request that lie in lines homed on die `d` of a pool (R171). -/
def bytesOnDie (off n d : Nat) : Nat :=
  total (((linesOf off n).filter fun l => (homeOf (l * 256)).die = d).map fun l => min (off + n) ((l + 1) * 256) - max off (l * 256))

/-- R19, R190: what crosses the bridge from die `a` to die `b` and back. -/
def bridgeCharges (a b there back : Nat) : List (Nat × Nat) :=
  if a = b then [] else [(48 + a, there), (48 + b, back)]

/-- The charges on both directions of a link of what goes out on it and what comes back. -/
def linkCharges (l out back : Nat) : List (Nat × Nat) := [(2 * l + 1, out), (2 * l, back)]

/-- The resources an open request needs, each with its charge in bytes (R189): the two directions of its entry link, those of a target
accelerator's or egress link, the pools of its home dies, and the bridge where it crosses it on its way to the die that serves its queue and
on to its target (R19, R190). -/
def charges (s : State) (r : OpenReq) : List (Nat × Nat) :=
  let n := if r.op = .fence then 64 else r.hdr.size
  let inn := if opClass r.op = 1 ∨ opClass r.op = 2 then n else 64
  let out := if opClass r.op = 0 ∨ opClass r.op = 2 then n else 64
  let l := r.hdr.link
  let d := s.servingDie r
  let off := r.hdr.addr % 2 ^ 46
  let entry := [(2 * l, inn), (2 * l + 1, out)] ++ bridgeCharges (linkDie l) d inn out
  let onward (t : Nat) : List (Nat × Nat) := linkCharges t inn out ++ bridgeCharges d (linkDie t) inn out
  let pool (k : Nat) : List (Nat × Nat) := [0, 1].flatMap fun h =>
    let b := bytesOnDie off n h
    if b = 0 then [] else (32 + 2 * h + k, b) :: bridgeCharges d h (if inn = 64 then 64 else b) (if out = 64 then 64 else b)
  if r.op = .fence then entry
  else if r.hdr.addr / 2 ^ 46 ≠ s.tree.hub then
    match s.openPath (r.hdr.addr / 2 ^ 46) with
    | some p => entry ++ onward (8 + p.egress)
    | none => entry
  else match regionOf off with
    | .window t => entry ++ onward t
    | .hbm => entry ++ pool 0
    | .lpddr => entry ++ pool 1
    | _ => entry

/-- R170: the crossbar forwards what does not enter this hub, within the open share of its ports: at once, or in its turn once there are
tokens. -/
def forwardOn (s : State) (c : Crossing) : State :=
  if (s.mem.crossing.any fun x => x.link == c.link) || ! c.charges.all (hasTokens s) then
    { s with mem := { s.mem with crossing := s.mem.crossing ++ [c] } }
  else (c.charges.foldl spend s).send c.out true

/-- What waits in the crossbar is tried again, in order. -/
def drainCrossing (s : State) : State :=
  s.mem.crossing.foldl forwardOn { s with mem := { s.mem with crossing := [] } }

/-- Whether a request only passes through this hub: it came from another and names another (R170). -/
def passesThrough (s : State) (r : OpenReq) : Bool :=
  decide (8 ≤ r.hdr.link) && ! (r.hdr.link == 15 && s.hostPortMode) && r.op != .fence && r.hdr.addr / 2 ^ 46 != s.tree.hub

/-- The bytes of data that a request carries. -/
def requestData (r : OpenReq) : Nat := if opClass r.op = 1 ∨ opClass r.op = 2 then r.data.length else 0

/-- R170, R195: a request of another hub for another hub: an INVALID one is answered, any other goes on along this hub's own table, and
what comes back goes the way it came. -/
def passOn (s : State) (r : OpenReq) : State :=
  if ! addressOk s r then answerOpen s r .invalid [] false
  else match s.openPath (r.hdr.addr / 2 ^ 46) with
    | none => s
    | some p =>
      let l := 8 + p.egress
      let c : Context := { id := s.mem.nextId, req := r, die := linkDie r.hdr.link, at_ := s.gt.time, link := some l }
      let n := r.hdr.size
      let inn := if opClass r.op = 1 ∨ opClass r.op = 2 then n else 64
      let out := if opClass r.op = 0 ∨ opClass r.op = 2 then n else 64
      let s := { s with mem := { s.mem with nextId := s.mem.nextId + 1, transit := s.mem.transit ++ [c] } }
      let s := s.modLink l fun k => { k with openSent := (k.openSent + requestData r) % 2 ^ 64 }
      forwardOn s { link := l, out := .openForward l c.id r,
                    charges := [(2 * r.hdr.link, inn), (2 * r.hdr.link + 1, out)] ++ linkCharges l inn out ++
                      bridgeCharges (linkDie r.hdr.link) (linkDie l) inn out }

/-- R190, R193: a request waits in its queue. -/
def joinQueue (s : State) (r : OpenReq) : State :=
  let w : Waiting := { id := s.mem.nextId, req := r, at_ := s.gt.time }
  let q := r.hdr.queue
  let s := { s with mem := { s.mem with nextId := s.mem.nextId + 1, waiting := tput s.mem.waiting q (tget s.mem.waiting q ++ [w]) } }
  s.wrDies (fun d => R.MEM_QUEUE.waiting d q) (tget s.mem.waiting q).length

/-- An open request enters the hub (R174, R185, R190, R193, R195): it is stamped and checked, and it is answered at once or
waits in its queue, or passes through. A request to a die that is not running reaches no hub (R508). -/
def enterOpen (r : OpenReq) (s : State) : State :=
  if 16 ≤ r.hdr.link ∨ s.linkState r.hdr.link ≠ 3 then s else
  let r := { r with src := stampOf s r.hdr }
  let s := s.modLink r.hdr.link fun k => { k with openRecv := (k.openRecv + r.data.length) % 2 ^ 64 }
  if passesThrough s r then passOn s r
  else match entryCheck s r with
    | some a =>
      let s := if a = .retry ∧ (tget s.mem.queues r.hdr.queue).depth ≤ (tget s.mem.waiting r.hdr.queue).length
        then s.wr (R.MEM_STATUS.queue_full (s.servingDie r)) 1 else s
      answerOpen s r a [] false
    | none => joinQueue s r

/-! ## The dispatcher -/

/-- The contexts a queue holds. -/
def ctxCount (s : State) (q : Nat) : Nat := (s.mem.ctxs.filter fun c => c.req.hdr.queue = q).length

/-- The contexts in use on a die. -/
def dieCtxCount (s : State) (d : Nat) : Nat := (s.mem.ctxs.filter fun c => c.die = d).length

/-- Whether an earlier operation of the same source on the same queue has not been performed (R179). -/
def earlierPending (s : State) (id : Nat) (r : OpenReq) : Bool :=
  (s.mem.ctxs.any fun c => decide (c.id < id) && c.req.src == r.src && c.req.hdr.queue == r.hdr.queue) ||
  ((tget s.mem.waiting r.hdr.queue).any fun w => decide (w.id < id) && w.req.src == r.src)

/-- The cost of a request in deficit round robin (R191). -/
def costOf (r : OpenReq) : Nat := if r.op = .fence then 64 else r.hdr.size

/-- R191: whether queue `q` is eligible, with its head request. -/
def eligible (s : State) (q : Nat) : Option Waiting :=
  let cfg := tget s.mem.queues q
  match tget s.mem.waiting q with
  | [] => none
  | w :: _ =>
    if cfg.maxCtx ≤ ctxCount s q then none
    else if cfg.allowance ≠ 0 ∧ cfg.allowance ≤ tget s.mem.used q then none
    else if ! (charges s w.req).all (hasTokens s) then none
    else if w.req.hdr.ordered ∧ earlierPending s w.id w.req then none
    else some w

/-- R191: weighted deficit round robin over die `d`'s queues, with at most `fuel` visits: a queue whose turn comes gains its weight times 256
bytes once, and is served while its deficit covers its head's cost. Answers the queue, where the turn then stands, and the deficits. -/
def roundRobin (s : State) (d : Nat) (fuel turn : Nat) (granted : Bool) (deficit : Tab Nat) : Option (Nat × (Nat × Bool) × Tab Nat) :=
  match fuel with
  | 0 => none
  | k + 1 =>
    let q := d * 128 + turn % 128
    match eligible s q with
    | none => roundRobin s d k (turn + 1) false (if (tget s.mem.waiting q).isEmpty then tdel deficit q else deficit)
    | some w =>
      let have_ := tget deficit q + (if granted then 0 else (tget s.mem.queues q).weight * 256)
      if costOf w.req ≤ have_ then some (q, (turn % 128, true), tput deficit q (have_ - costOf w.req))
      else roundRobin s d k (turn + 1) false (tput deficit q have_)

/-- The queue the dispatcher of die `d` serves next (R191): first a queue below its minimum of contexts, then by deficit round
robin. Answers the queue, where the turn then stands, and the deficits. -/
def nextQueue (s : State) (d : Nat) : Option (Nat × (Nat × Bool) × Tab Nat) :=
  let qs := (List.range 128).map (d * 128 + ·)
  let turn := tget s.mem.turn d
  match qs.find? fun q => (eligible s q).isSome && decide (ctxCount s q < (tget s.mem.queues q).minCtx) with
  | some q => some (q, turn, s.mem.deficit)
  | none =>
    if qs.any fun q => (eligible s q).isSome then roundRobin s d (128 * 18) turn.1 turn.2 s.mem.deficit else none

/-- Where a dispatched request leaves this hub's pools: the accelerator's link or the egress port (R170, R176). -/
def dispatchLink (s : State) (r : OpenReq) : Option Nat :=
  if r.op = .fence then none
  else if r.hdr.addr / 2 ^ 46 ≠ s.tree.hub then (s.openPath (r.hdr.addr / 2 ^ 46)).map fun p => 8 + p.egress
  else match regionOf (r.hdr.addr % 2 ^ 46) with
    | .window t => some t
    | _ => none

/-- R187: whether some valid guard entry covers the unit and grants `perm` (0 read, 1 write, 2 atomic) to the source. -/
def guardAllows (s : State) (src : Source) (off perm : Nat) : Bool :=
  s.mem.guards.any fun g =>
    decide (g.base ≤ off / 65536) && decide (off / 65536 ≤ g.limit) &&
    (match src.kind with
     | 0 => g.part.testBit (3 * s.partOf src.slot + perm)
     | 1 => g.host.testBit perm
     | _ => g.remote.testBit perm && decide (g.hubLo ≤ src.hub) && decide (src.hub ≤ g.hubHi) &&
         g.remoteParts.testBit src.slot)

/-- The response to an operation on an accelerator window, found at its target (R169, R176, R187), or `none` where it is
forwarded. -/
def windowTarget (s : State) (r : OpenReq) (t : Nat) : Option Resp :=
  let off := r.hdr.addr % 2 ^ 46
  let base := t * 0x040000000000
  if ¬ s.accPresent t then some .invalid
  else if (tget s.lnk.identity t).windowSize < off - base + r.hdr.size then some .invalid
  else if ! guardAllows s r.src off (opClass r.op) then some .denied
  else if ¬ s.accServed t then some .retry
  else none

/-- R185, R187: the identity that a request carries to another hub: a local accelerator's is this hub's number and its partition's. -/
def remoteStamp (s : State) (x : Source) : Source :=
  if x.kind = 0 then { kind := 2, slot := s.partOf x.slot, hub := s.tree.hub } else x

/-- A dispatched request goes out on its link: to an accelerator unchanged (R176), to another hub with its stamp (R185). -/
def sendRequest (s : State) (l id : Nat) (r : OpenReq) : State :=
  (s.modLink l fun k => { k with openSent := (k.openSent + requestData r) % 2 ^ 64 }).send
    (.openForward l id (if l < 8 then r else { r with src := remoteStamp s r.src }))

/-- The head of queue `q` of die `d` takes a free context, and its resources are charged (R189, R191). -/
def takeContext (s : State) (d q : Nat) (turn : Nat × Bool) (deficit : Tab Nat) (w : Waiting) (rest : List Waiting) : State :=
  let s := (charges s w.req).foldl spend s
  let c : Context := { id := w.id, req := w.req, die := d, at_ := w.at_, link := dispatchLink s w.req }
  let s := { s with mem := { s.mem with
    waiting := tput s.mem.waiting q rest, ctxs := s.mem.ctxs ++ [c], deficit := deficit,
    turn := tput s.mem.turn d turn, used := tput s.mem.used q (tget s.mem.used q + costOf w.req) } }
  let s := s.wrDies (fun d => R.MEM_QUEUE.waiting d q) rest.length
  let cfg := tget s.mem.queues q
  let s := if cfg.allowance ≠ 0 ∧ cfg.allowance ≤ tget s.mem.used q
    then s.wrDies (fun d => R.MEM_QUEUE.allowance_used d q) 1 else s
  let n := dieCtxCount s d
  let s := s.wr (R.MEM_CTX.used d) n
  if s.rd (R.MEM_CTX.peak d) < n then s.wr (R.MEM_CTX.peak d) n else s

/-- OPEN_DISPATCH (R170, R191): what waits in the crossbar goes on, and the head of the chosen queue takes a free context. An operation on an
accelerator window is checked at its target and forwarded over the link unchanged; one for another hub leaves by its open path. -/
def openDispatch (d : Nat) (s : State) : State :=
  if 2 ≤ d ∨ ¬ s.carries d then s else
  let s := drainCrossing s
  if 8192 ≤ dieCtxCount s d then s else
  match nextQueue s d with
  | none => s
  | some (q, turn, deficit) =>
    match tget s.mem.waiting q with
    | [] => s
    | w :: rest =>
      let link := dispatchLink s w.req
      let s := takeContext s d q turn deficit w rest
      match link with
      | none => s
      | some l =>
        if l < 8 then match windowTarget s w.req l with
          | some a => finishOpen s w.id a [] false
          | none => sendRequest s l w.id w.req
        else sendRequest s l w.id w.req

/-! ## Responses and timeouts -/

/-- ACC_OPEN_RESPONSE (R176, R178): the accelerator's response performs the operation and frees the context; one for a context
already freed is discarded. -/
def accOpenResponse (id : Nat) (resp : Resp) (data : List Nat) (hint : Nat) (s : State) : State :=
  match ctxOf s id with
  | none => s
  | some c => match c.link with
    | some l => if l < 8 then finishOpenHint (s.openIn l data.length) id resp data false hint else s
    | none => s

/-- R170: a response to a request that passed through goes back the way it came. -/
def passBack (s : State) (id : Nat) (resp : Resp) (data : List Nat) (hint : Nat) (unknown : Bool) : State :=
  match s.mem.transit.find? fun c => c.id = id with
  | none => s
  | some c =>
    let s := { s with mem := { s.mem with transit := s.mem.transit.filter fun x => x.id != id } }
    let s := match c.link with
      | some l => s.openIn l data.length
      | none => s
    (s.modLink c.req.hdr.link fun k => { k with openSent := (k.openSent + data.length) % 2 ^ 64 }).send
      (.openAnswer c.req.hdr.link c.req.hdr.tag resp data hint unknown) true

/-- RESPONSE (R208): a response from a remote hub completes its request and is passed to the requester; one whose request has
timed out is discarded. -/
def openResponse (id : Nat) (resp : Resp) (data : List Nat) (hint : Nat) (unknown : Bool) (s : State) : State :=
  match ctxOf s id with
  | none => passBack s id resp data hint unknown
  | some c => match c.link with
    | some l => if 8 ≤ l then finishOpenHint (s.openIn l data.length) id resp data unknown hint else s
    | none => s

/-- OPEN_TIMEOUT (R192, R194): a request timed from its acceptance. One not dispatched, and a dispatched read or FENCE, is answered RETRY; a
dispatched write or atomic POISON with the outcome unknown. The queue's link-and-queue processor completes a context, if it runs. Of a request
that passed through, its own hub answers: this one only forgets it. -/
def openTimeout (id : Nat) (s : State) : State :=
  let due (at_ die : Nat) : Bool := decide (at_ + s.rd (R.MEM_OPEN_CFG.timeout die) * 100000 ≤ s.gt.time)
  match ctxOf s id with
  | some c =>
    if ! due c.at_ c.die ∨ s.procUp (queueProc c.req.hdr.queue) = false then s else
    let s := (s.bump (R.MEM_TIMEOUT_COUNT.c c.die)).wr (R.MEM_STATUS.timeout c.die) 1
    timeoutCtx s c
  | none =>
    match s.mem.transit.find? fun c => c.id = id with
    | some c => if due c.at_ c.die then { s with mem := { s.mem with transit := s.mem.transit.filter fun x => x.id != id } } else s
    | none =>
    match (List.range 256).find? fun q => (tget s.mem.waiting q).any fun w => w.id = id with
    | none => s
    | some q =>
      match (tget s.mem.waiting q).find? fun w => w.id = id with
      | none => s
      | some w =>
        let d := q / 128
        if ! due w.at_ d then s else
        let s := { s with mem := { s.mem with waiting := tput s.mem.waiting q ((tget s.mem.waiting q).filter fun w => w.id != id) } }
        let s := s.wrDies (fun d => R.MEM_QUEUE.waiting d q) (tget s.mem.waiting q).length
        let s := (s.bump (R.MEM_TIMEOUT_COUNT.c d)).wr (R.MEM_STATUS.timeout d) 1
        answerOpen s w.req .retry [] false

/-- MEM_OPEN_CFG (R199): a write within range sets both copies; one out of range is ignored and answered INVALID. -/
def memOpenCfgWrite (agent : Agent) (die timeout hint : Nat) (s : State) : State :=
  s.gateDie agent die fun s => s.hostGate agent fun s =>
    if timeout < 1 ∨ 1000 < timeout ∨ hint < 1 ∨ 1000 < hint then s.answer .invalid 0 0
    else
      let s := s.onDies fun d s => (s.wr (R.MEM_OPEN_CFG.timeout d) timeout).wr (R.MEM_OPEN_CFG.retry_hint d) hint
      s.answer .ok 0 0

/-- READ. -/
def execRead (h : OpenHdr) (s : State) : Host.Outcome State Fault Refusal := .next (enterOpen { op := .read, hdr := h } s)
/-- WRITE. -/
def execWrite (h : OpenHdr) (data : List Nat) (s : State) : Host.Outcome State Fault Refusal :=
  .next (enterOpen { op := .write, hdr := h, data := data } s)
/-- WRITE_MASKED. -/
def execWriteMasked (h : OpenHdr) (mask : Nat) (data : List Nat) (s : State) : Host.Outcome State Fault Refusal :=
  .next (enterOpen { op := .writeMasked, hdr := h, mask := mask, data := data } s)
/-- READ_BULK. -/
def execReadBulk (h : OpenHdr) (s : State) : Host.Outcome State Fault Refusal :=
  .next (enterOpen { op := .readBulk, hdr := h } s)
/-- WRITE_BULK. -/
def execWriteBulk (h : OpenHdr) (data : List Nat) (s : State) : Host.Outcome State Fault Refusal :=
  .next (enterOpen { op := .writeBulk, hdr := h, data := data } s)
/-- SWAP. -/
def execSwap (h : OpenHdr) (v : List Nat) (s : State) : Host.Outcome State Fault Refusal :=
  .next (enterOpen { op := .swap, hdr := h, data := v } s)
/-- CAS. -/
def execCas (h : OpenHdr) (c v : List Nat) (s : State) : Host.Outcome State Fault Refusal :=
  .next (enterOpen { op := .cas, hdr := h, data := v, compare := c } s)
/-- FETCH_ADD. -/
def execFetchAdd (h : OpenHdr) (v : List Nat) (s : State) : Host.Outcome State Fault Refusal :=
  .next (enterOpen { op := .fetchAdd, hdr := h, data := v } s)
/-- FETCH_AND. -/
def execFetchAnd (h : OpenHdr) (v : List Nat) (s : State) : Host.Outcome State Fault Refusal :=
  .next (enterOpen { op := .fetchAnd, hdr := h, data := v } s)
/-- FETCH_OR. -/
def execFetchOr (h : OpenHdr) (v : List Nat) (s : State) : Host.Outcome State Fault Refusal :=
  .next (enterOpen { op := .fetchOr, hdr := h, data := v } s)
/-- FETCH_XOR. -/
def execFetchXor (h : OpenHdr) (v : List Nat) (s : State) : Host.Outcome State Fault Refusal :=
  .next (enterOpen { op := .fetchXor, hdr := h, data := v } s)
/-- FETCH_MIN. -/
def execFetchMin (h : OpenHdr) (v : List Nat) (s : State) : Host.Outcome State Fault Refusal :=
  .next (enterOpen { op := .fetchMin, hdr := h, data := v } s)
/-- FETCH_MAX. -/
def execFetchMax (h : OpenHdr) (v : List Nat) (s : State) : Host.Outcome State Fault Refusal :=
  .next (enterOpen { op := .fetchMax, hdr := h, data := v } s)
/-- FETCH_UMIN. -/
def execFetchUmin (h : OpenHdr) (v : List Nat) (s : State) : Host.Outcome State Fault Refusal :=
  .next (enterOpen { op := .fetchUmin, hdr := h, data := v } s)
/-- FETCH_UMAX. -/
def execFetchUmax (h : OpenHdr) (v : List Nat) (s : State) : Host.Outcome State Fault Refusal :=
  .next (enterOpen { op := .fetchUmax, hdr := h, data := v } s)
/-- FENCE. -/
def execFence (h : OpenHdr) (s : State) : Host.Outcome State Fault Refusal := .next (enterOpen { op := .fence, hdr := h } s)
/-- OPEN_DISPATCH. -/
def execOpenDispatch (d : Nat) (s : State) : Host.Outcome State Fault Refusal := .next (openDispatch d s)
/-- ACC_OPEN_RESPONSE. -/
def execAccOpenResponse (id : Nat) (resp : Resp) (data : List Nat) (hint : Nat) (s : State) :
    Host.Outcome State Fault Refusal := .next (accOpenResponse id resp data hint s)
/-- RESPONSE. -/
def execResponse (id : Nat) (resp : Resp) (data : List Nat) (hint : Nat) (unknown : Bool) (s : State) :
    Host.Outcome State Fault Refusal := .next (openResponse id resp data hint unknown s)
/-- OPEN_TIMEOUT. -/
def execOpenTimeout (id : Nat) (s : State) : Host.Outcome State Fault Refusal := .next (openTimeout id s)
/-- MEM_OPEN_CFG_WRITE. -/
def execMemOpenCfgWrite (agent : Agent) (die timeout hint : Nat) (s : State) : Host.Outcome State Fault Refusal :=
  .next (memOpenCfgWrite agent die timeout hint s)

end Sys2Proof.Machine
end

