-- ==== Sys2Proof/Machine/Links.lean ====
section
/-! DEFINITION. Accelerator links and Sotin links: replay, training, link states, identity memories, modules and management messages
(R200 to R224).
Link numbers are the unit numbers of R21: 0 to 7 are AL0 to AL7, 8 to 15 are SP0 to SP7. -/

namespace Sys2Proof.Machine

/-! ## Flits -/

/-- R203: an ack frees the flits up to it from the replay store. -/
def ackStore (store : List StoredFlit) (ack : Nat) : List StoredFlit :=
  match store.findIdx? fun e => e.seq = ack with
  | some i => store.drop (i + 1)
  | none => store

/-- R203: every flit of the replay store goes out again, with replay 1. -/
def replayStore (s : State) (l : Nat) : State :=
  let s := s.modLink l fun k =>
    { k with lastSent := s.now, store := k.store.map fun (e : StoredFlit) => { e with resends := e.resends + 1 } }
  (tget s.lnk.links l).store.foldl (fun s e => emitFlit s l true e) (s.bump (R.LNK_REPLAY.c (linkDie l) (linkIdx l)))

/-- R203, R206: the ack, nak and credit of a header. The first nak for each value of ack resends the store; a nak that finds a flit
resent 8 times and still not accepted takes the link DOWN with cause 0x3. -/
def headerFields (s : State) (l h : Nat) (sequenced : Bool) : State :=
  let ack := bits h 15 4
  let s := s.modLink l fun k =>
    let store := ackStore k.store ack
    { k with store := store, nakActed := if store.length = k.store.length then k.nakActed else none,
             credit := if sequenced ∧ h % 2 = 1 then tmod k.credit (bits h 2 1) (· + 32) else k.credit }
  if ¬ h.testBit 3 then s
  else
    let k := tget s.lnk.links l
    if k.store.any fun e => decide (8 ≤ e.resends) then linkDown s l 3 0
    else if k.nakActed = some ack then s
    else replayStore (s.modLink l fun k => { k with nakActed := some ack }) l

/-- R203: a discarded flit sets nak until the replay comes. -/
def discardFlit (s : State) (l : Nat) : State := s.modLink l fun k => { k with nakSent := true }

/-- R206: an uncorrectable codeword is counted; more than 64 within 1 ms take the link DOWN with cause 0x2. -/
def uncorrectableCodeword (s : State) (l : Nat) : State :=
  let s := s.bump (R.LNK_FEC_UNCORR.c (linkDie l) (linkIdx l))
  let s := s.modLink l fun k => { k with uncorr := s.now :: k.uncorr.filter fun t => s.now < t + 1000 }
  if 64 < (tget s.lnk.links l).uncorr.length then linkDown s l 2 0 else discardFlit s l

/-- R205: a transmitter that has sent no sequenced flit for 2 µs sends a zero one, which the replay store holds. -/
def keepaliveFlit (l : Nat) (s : State) : State :=
  if 16 ≤ l ∨ s.linkState l ≠ 3 then s else
  let k := tget s.lnk.links l
  if s.now < k.lastSent + 2 then s else zeroFlit s l

/-! ## Down, hold-off, training -/

/-- R216 cause 0x1. -/
def laneSignalLoss (l lane : Nat) (s : State) : State :=
  if 16 ≤ l ∨ s.linkState l ≠ 3 then s else linkDown s l 1 lane

/-- R216 cause 0x4: no sequenced flit accepted for 10 µs. -/
def linkSilenceTimeout (l : Nat) (s : State) : State :=
  if 16 ≤ l ∨ s.linkState l ≠ 3 ∨ s.now < (tget s.lnk.links l).lastFlit + 10 then s else linkDown s l 4 0

/-- R215: DOWN is left for WAIT after its hold-off of 100 ms. -/
def linkHoldoffExpire (l : Nat) (s : State) : State :=
  if 16 ≤ l ∨ s.linkState l ≠ 4 ∨ s.now < (tget s.lnk.links l).downAt + 100000 then s else s.setLinkState l 1

/-- R222: whether a module is in ModuleReady, which CMIS codes 3 (PRESUMED, log 76). -/
def moduleReady (m : ModuleRead) : Bool := m.state == 3

/-- R222: a module fault or a lane flag. -/
def moduleFlag (m : ModuleRead) : Bool := m.fault || m.los != 0 || m.lol != 0

/-- R222: whether a module's power class exceeds what its port allows. -/
def moduleRefused (cfg : PortCfg) (m : ModuleRead) : Bool := m.present && ! m.passive && decide (cfg.maxPowerClass < m.powerClass)

/-- R215: whether the peer of a link in WAIT is ready: the accelerator present with a valid identity memory, or the Sotin port's
module ready or absent by configuration (R222). -/
def peerReady (s : State) (l : Nat) : Bool :=
  if l < 8 then s.accPresent l && s.lnk.identityRead.testBit l && identityValid (tget s.lnk.identity l)
  else
    let cfg := tget s.img.ports (l - 8)
    let m := tget s.lnk.modules (l - 8)
    if cfg.pluggable then m.present && (m.passive || (moduleReady m && ! moduleRefused cfg m && m.active && m.app == cfg.appCode))
    else true

/-- The link-and-queue processor that trains a link (R366): of its die, 0 for accelerator links and 1 for Sotin ports. -/
def trainerOf (l : Nat) : Nat := 4 + 2 * linkDie l + (if l < 8 then 0 else 1)

/-- R215: WAIT to TRAIN when the processor runs and the peer is ready. -/
def linkTrainStart (l : Nat) (s : State) : State :=
  if 16 ≤ l ∨ s.linkState l ≠ 1 ∨ ¬ s.procUp (trainerOf l) ∨ ¬ peerReady s l then s else
  let a := R.LNK_STATE.attempts (linkDie l) (linkIdx l)
  let s := s.wr a (min 255 (s.rd a + 1))
  let s := s.modLink l fun k => { k with trainAt := s.now, trainStep := 1, stepAt := s.now }
  s.setLinkState l 2

/-- The limit of a training step in µs (R215). -/
def trainLimit (step : Nat) : Nat := match step with
  | 1 => 20000
  | 2 => 250000
  | 3 => 20000
  | 4 => 1000
  | 5 => 10000
  | 6 => 10000
  | _ => 1000

/-- R445: milestone 6: memory has been trained, and no link is training or in WAIT with its peer ready, so the attempts have ended (log 64). -/
def lookTrained (s : State) : State :=
  if s.rd (R.CFG_MILESTONE.ms 5) ≠ 0xFFFFFFFF ∧
      (List.range 16).all fun l => s.linkState l != 2 && (s.linkState l != 1 || ! peerReady s l) then milestone s 6
  else s

/-- R215: a link that finishes training enters UP, not admitted, with its sequence numbers and credits at their initial
values. -/
def linkUp (s : State) (l : Nat) : State :=
  let c0 := if l < 8 then 1024 else 2048
  let s := s.modLink l fun k =>
    { k with upAt := s.now, lastFlit := s.now, lastSent := s.now, txSeq := 0, rxSeq := 0, store := [], nakSent := false,
             nakActed := none, credit := [(0, c0), (1, 512), (2, 512)], owed := [], uncorr := [], ctlPart := [], ctlAt := 0,
             ctlReplay := false, pktPart := [], control := [], queue := [], turn := 2, lastTransit := false, activityAt := s.now,
             planned := false, trainStep := 0 }
  let s := s.wr (R.LNK_STATE.attempts (linkDie l) (linkIdx l)) 0
  let s := if l < 8 then s.modSlotPower l fun x => { x with stamp := none } else s
  lookTrained (containOver (s.setLinkState l 3))

/-- The lanes of a link (R201). -/
def linkLanes (l : Nat) : Nat := if l < 8 then 16 else 4

/-- R210, R217: a Sotin port's own PEER_ID as training step 6 begins: hub, latencies and cadence master. Flits are numbered from step 7 on, so it
goes out beside them (log 74). -/
def sendPeerId (s : State) (l : Nat) : State :=
  let k := tget s.lnk.links l
  s.emit (.control l 0x22 (l - 8 + 8 * 1) [s.tree.hub, k.latTx % 2 ^ 16 + 2 ^ 16 * (k.latRx % 2 ^ 16), s.tree.master, 0])

/-- R201, R215: the current training step ends within its limit and the next starts; steps 5 and 6 are the Sotin ports' only,
and step 6 ends with a PEER_ID that passes its check. Step 3 accepts lanes in order or reversed as a whole, with any polarity; any other
order fails the training. -/
def trainStepComplete (l : Nat) (order : List Nat) (polarity latTx latRx : Nat) (s : State) : State :=
  if 16 ≤ l ∨ s.linkState l ≠ 2 then s else
  let k := tget s.lnk.links l
  let straight := List.range (linkLanes l)
  if k.stepAt + trainLimit k.trainStep < s.now ∨ k.trainAt + 500000 < s.now then s
  else if k.trainStep = 3 ∧ order ≠ straight ∧ order ≠ straight.reverse then lookTrained (linkDown s l 8 0)
  else
    let s := if k.trainStep = 3 then
        (s.wr (R.LNK_STATE.reversed (linkDie l) (linkIdx l)) (b2n (order != straight))).modLink l fun k =>
          { k with polarity := polarity % 2 ^ linkLanes l }
      else if k.trainStep = 5 then s.modLink l fun k => { k with latTx := latTx, latRx := latRx }
      else s
    if k.trainStep = 6 then s
    else if k.trainStep = 7 then linkUp s l
    else
      let next := if k.trainStep = 4 ∧ l < 8 then 7 else k.trainStep + 1
      let s := s.modLink l fun k => { k with trainStep := next, stepAt := s.now }
      if next = 6 then sendPeerId s l else s

/-- R215 cause 0x8: a step or the whole attempt exceeds its limit. -/
def trainTimeout (l : Nat) (s : State) : State :=
  if 16 ≤ l ∨ s.linkState l ≠ 2 then s else
  let k := tget s.lnk.links l
  if k.stepAt + trainLimit k.trainStep < s.now ∨ k.trainAt + 500000 < s.now then lookTrained (linkDown s l 8 0) else s

/-- R217, R220: step 6 checks the peer's hub number and port against the image's, its kind, and a hub's cadence master; the asymmetry is
computed. A failed check takes the link DOWN with cause 0x7. -/
def peerId (port hub peerPort kind txPeer rxPeer master : Nat) (s : State) : State :=
  let l := 8 + port
  let k := tget s.lnk.links l
  if 8 ≤ port ∨ s.linkState l ≠ 2 ∨ k.trainStep ≠ 6 then s else
  let d := linkDie l
  let i := linkIdx l
  let cfg := tget s.img.ports port
  let host := port = 7 ∧ s.hostPortMode
  let ok := hub = cfg.peerHub ∧ peerPort = cfg.peerPort ∧ (if host then kind = 2 else kind = 1 ∧ master = s.tree.master)
  if ¬ ok then lookTrained (linkDown s l 7 0)
  else
    let s := s.wr (R.LNK_PEER.kind d i) kind
    let s := s.wr (R.LNK_PEER.port d i) peerPort
    let s := s.wr (R.LNK_PEER.hub d i) hub
    let asym := (((txPeer : Int) + k.latRx) - ((k.latTx : Int) + rxPeer)) / 2
    let s := s.wr (R.LNK_ASYM.asym d (i - 4)) (ofSigned 32 asym)
    s.modLink l fun k => { k with trainStep := 7, stepAt := s.now }

/-- R224: LNK_CTRL.retrain: links of a die in UP go DOWN with cause 0x9. -/
def retrainLinks (s : State) (die mask : Nat) : State :=
  (members mask 8).foldl (init := s) fun s i => if s.linkState (linkOf die i) = 3 then linkDown s (linkOf die i) 9 0 else s

/-- R224: LNK_CTRL.retrain takes the named links DOWN with cause 0x9. Steward alone may write LNK_CTRL. -/
def linkRetrain (agent : Agent) (die mask : Nat) (s : State) : State :=
  s.gateDie agent die fun s =>
    if agent ≠ .steward then s.answer .denied 0 0 else (retrainLinks s die mask).answer .ok 0 0

/-- R215: a LATCHED link goes to WAIT with its count of DOWN entries emptied; a link that went OFF from LATCHED will go to WAIT
when its condition clears; any other link is left as it is. -/
def clearLatchedLink (s : State) (l : Nat) : State :=
  if s.linkState l = 5 then (s.modLink l fun k => { k with downs := [], latchHeld := false }).setLinkState l 1
  else if s.linkState l = 0 ∧ (tget s.lnk.links l).latchHeld then s.modLink l fun k => { k with downs := [], latchHeld := false }
  else s

/-- R224: LNK_CTRL.clear: the named links of a die. -/
def clearLinks (s : State) (die mask : Nat) : State := (members mask 8).foldl (fun s i => clearLatchedLink s (linkOf die i)) s

/-- R224: LNK_CTRL.clear. -/
def linkClear (agent : Agent) (die mask : Nat) (s : State) : State :=
  s.gateDie agent die fun s =>
    if agent ≠ .steward then s.answer .denied 0 0 else (clearLinks s die mask).answer .ok 0 0

/-! ## Presence, identity and modules -/

/-- R503, R215: ACC_PRSNT_N low for 100 ms counts as presence. A LATCHED link whose peer's presence was lost and is regained
goes to WAIT. -/
def accPresentEvent (slot : Nat) (s : State) : State :=
  if 8 ≤ slot ∨ s.accPresent slot then s else
  let s := { s with seq := { s.seq with present := setBit s.seq.present slot true } }
  let d := slot / 4
  if ¬ s.dieUp d then s.modLink slot fun k => { k with downs := [], latchHeld := false } else clearLatchedLink s slot

/-- R219, R252, R350: what a valid identity memory gives: the gauge table, the coefficients and the serial number. -/
def takeIdentity (s : State) (slot : Nat) (m : IdentityMem) : State := takeSerial (takePowerTable s slot m) slot m.serial

/-- R218, R252, R347, R363, R435: whether an accelerator may be put forward for admission. -/
def mayAdmit (s : State) (slot : Nat) : Bool :=
  let u := unitLive s (128 + slot)
  ! slotFlagged s slot && s.lnk.identityRead.testBit slot && identityValid (tget s.lnk.identity slot) && tableAllows s slot &&
  ! (unitKept s (128 + slot)).failed && ! u.held && ! u.waiting && u.running.isNone

/-- An accelerator is put forward for admission in the hub's next GAUGE row (R218). -/
def putForward (s : State) (slot : Nat) : State :=
  { s with pat := { s.pat with putAdmit := setBit s.pat.putAdmit slot true } }

/-- AUTO_ADMIT: a link has been UP for LNK_CFG.admit_delay (R218). Steward puts the accelerator forward (R366, R373). -/
def autoAdmit (slot : Nat) (s : State) : State :=
  let d := slot / 4
  let i := slot % 4
  if 8 ≤ slot ∨ ¬ s.procUp 0 ∨ s.linkState slot ≠ 3 ∨ s.accAdmitted slot = true ∨ ¬ s.on (R.LNK_CFG.auto_admit d i) ∨
      s.now < (tget s.lnk.links slot).upAt + s.rd (R.LNK_CFG.admit_delay d i) * 100000 ∨ mayAdmit s slot = false then s
  else putForward s slot

/-- HINT (R210, R212, R271). -/
def hint (slot angle watts duration tag : Nat) (s : State) : State := hintMessage slot angle watts duration tag s

/-- ACTIVITY (R211, R212, R248; R9, R223 its count): taken from an accelerator whose link is UP, admitted or not. -/
def activity (slot gauge : Nat) (_slow : Bool) (_tag : Nat) (counters : List Nat) (s : State) : State :=
  if 8 ≤ slot ∨ s.linkState slot ≠ 3 then s
  else
    let s := s.modLink slot fun k => { k with activityCount := min (2 ^ 32 - 1) (k.activityCount + 1), activityAt := s.now, activityLost := false }
    activityPower slot gauge counters s

/-- ACTIVITY_LOST: none has arrived for 10 µs (R212). -/
def activityLost (slot : Nat) (s : State) : State :=
  if 8 ≤ slot ∨ s.linkState slot ≠ 3 ∨ s.now < (tget s.lnk.links slot).activityAt + 10 then s
  else s.modLink slot fun k => { k with activityLost := true }

/-- R219: a field of an identity memory: `n` bytes at an offset, zeros where none were read (log 74). -/
def identityField (b : List Nat) (o n : Nat) : Nat := ofBytes ((b.drop o).take n)

/-- R219, R252, R357: what the bytes of an identity memory say. The check covers the content but for its own four bytes. -/
def decodeIdentity (b : List Nat) : IdentityMem :=
  let f := identityField b
  let n := f 0x06 2
  let content := b.take n
  let act := f 0x2A 2
  let gauge := f 0x2C 2
  let test := f 0x2E 2
  { magic := f 0 4, version := f 4 2, length := n,
    checkOk := decide (64 ≤ n) && decide (n ≤ b.length) && crc32c (content.take 0x3C ++ content.drop 0x40) == f 0x3C 4,
    model := f 0x08 16, serial := f 0x18 8, windowSize := f 0x20 8, lanes := f 0x28 1,
    coeff := (List.range 16).map fun i => f (act + 4 * i) 4,
    gauge := (List.range 64).map fun i =>
      { f := f (gauge + 8 * i) 2, v := f (gauge + 8 * i + 2) 2, idle := f (gauge + 8 * i + 4) 2, pmax := f (gauge + 8 * i + 6) 2 },
    test := { set := f test 4, tck := f (test + 4) 2, limit := f (test + 6) 2, flags := f (test + 8) 1, reserved := f (test + 9) 7 } }

/-- R219, R252, R350: the T8 reads a present slot's identity memory; an invalid one leaves the link in WAIT. The gauge table is
checked and the unit's history is taken up. It is Steward that reads (R366). -/
def identityReadEvent (slot : Nat) (bytes : List Nat) (s : State) : State :=
  let mem := decodeIdentity bytes
  if 8 ≤ slot ∨ ¬ s.accPresent slot ∨ ¬ s.procUp 0 then s else
  let s := { s with lnk := { s.lnk with identity := tput s.lnk.identity slot mem,
                                        identityRead := setBit s.lnk.identityRead slot true } }
  if ¬ identityValid mem then s else takeIdentity s slot mem

/-- R222: what Steward's poll of a module leaves in LNK_MODULE. -/
def recordModule (s : State) (port : Nat) (m : ModuleRead) : State :=
  let d := port / 4
  let i := port % 4
  let s := { s with lnk := { s.lnk with modules := tput s.lnk.modules port m } }
  let s := s.wr (R.LNK_MODULE.present d i) (b2n m.present)
  let s := s.wr (R.LNK_MODULE.passive d i) (b2n (m.present && m.passive))
  let s := s.wr (R.LNK_MODULE.power_class d i) (if m.present then m.powerClass else 0)
  let s := s.wr (R.LNK_MODULE.cmis_state d i) (if m.present then m.state else 0)
  let s := s.wr (R.LNK_MODULE.fault d i) (b2n (m.present && moduleFlag m))
  let s := s.wr (R.LNK_MODULE.temp d i) (if m.present then m.temp else 0)
  let s := s.wr (R.LNK_MODULE.refused d i) (b2n (moduleRefused (tget s.img.ports port) m))
  s.wr (R.LNK_STATE.present d (4 + i)) (b2n m.present)

/-- R222: Steward takes a module that its port allows from ModuleLowPwr (CMIS code 1: PRESUMED, log 76) to ModuleReady, selects there the one
application code that the image names, and activates its data path. A refused module stays in ModuleLowPwr, and a passive cable has
nothing to manage. -/
def steerModule (s : State) (port : Nat) (m : ModuleRead) : State :=
  let cfg := tget s.img.ports port
  if ! m.present || m.passive || moduleRefused cfg m then s
  else if m.state = 1 then s.emit (.moduleOrder port .powerUp)
  else if moduleReady m = false then s
  else if m.app ≠ cfg.appCode then (s.emit (.moduleOrder port (.selectApp cfg.appCode))).emit (.moduleOrder port .activate)
  else if m.active then s
  else s.emit (.moduleOrder port .activate)

/-- R222: presence is looked for at address 0x50 every 500 ms. Removal takes the link DOWN; a module that returns to a LATCHED
port clears the latch (R215). -/
def modulePresencePoll (port : Nat) (m : ModuleRead) (s : State) : State :=
  if 8 ≤ port ∨ ¬ (tget s.img.ports port).pluggable ∨ ¬ s.procUp 0 ∨ ¬ s.dieUp (port / 4) then s else
  let l := 8 + port
  let was := (tget s.lnk.modules port).present
  let s := steerModule (recordModule s port m) port m
  if was ∧ ¬ m.present then (if s.linkState l = 3 ∨ s.linkState l = 2 then linkDown s l 6 0 else s)
  else if ¬ was ∧ m.present then clearLatchedLink s l
  else s

/-- R222: the flags are read every 100 ms. A module fault, a lane flag or the loss of ModuleReady takes an UP link DOWN with cause
0x6. -/
def moduleFlagPoll (port : Nat) (m : ModuleRead) (s : State) : State :=
  if 8 ≤ port ∨ ¬ (tget s.img.ports port).pluggable ∨ ¬ s.procUp 0 ∨ ¬ s.dieUp (port / 4)
      ∨ ¬ (tget s.lnk.modules port).present then s else
  let l := 8 + port
  let s := steerModule (recordModule s port m) port m
  if s.linkState l = 3 ∧ (moduleFlag m = true ∨ (m.passive = false ∧ moduleReady m = false)) then linkDown s l 6 0 else s

/-! ## Management packets -/

/-- R221: a management message goes on over the open path of its hub, within the open share of the ports it crosses (R189). -/
def mgmtForwardOn (s : State) (l : Nat) (isReq : Bool) (hub tag : Nat) (payload : List Nat) : State :=
  let on (t : Nat) : State :=
    let n := 4 * (3 + payload.length)
    forwardOn s { link := t, out := .mgmtForward t isReq hub tag payload, charges := [(2 * l, n), (2 * t + 1, n)] ++
      bridgeCharges (linkDie l) (linkDie t) n 0 }
  if hub = s.tree.hub then (if s.hostPortMode then on 15 else s)
  else match s.openPath hub with
    | none => s
    | some p => on (8 + p.egress)

/-- R208, R221: whether a management message has the 1 to 1,100 payload words it may have. -/
def mgmtLength (payload : List Nat) : Bool := decide (1 ≤ payload.length) && decide (payload.length ≤ 1100)

/-- R221, R390: an MGMT_REQ for this hub is delivered, one for another goes on over its open path. A message from an accelerator link is discarded
and LNK_CTL_REJECT advances; what another hub forwards came in through the host port of a bridge hub. -/
def mgmtReq (l hub tag : Nat) (payload : List Nat) (s : State) : State :=
  if 16 ≤ l ∨ s.linkState l ≠ 3 then s
  else if mgmtLength payload = false then linkDown s l 5 0
  else if l < 8 then s.bump (R.LNK_CTL_REJECT.c (linkDie l))
  else if hub = s.tree.hub then s.emit (.mgmtDelivered hub tag payload)
  else mgmtForwardOn s l true hub tag payload

/-- R221: an MGMT_RESP is forwarded over the open path towards the bridge hub, where the host port takes it. -/
def mgmtResp (l hub tag : Nat) (payload : List Nat) (s : State) : State :=
  if 16 ≤ l ∨ s.linkState l ≠ 3 then s
  else if mgmtLength payload = false then linkDown s l 5 0
  else if l < 8 then s.bump (R.LNK_CTL_REJECT.c (linkDie l))
  else mgmtForwardOn s l false hub tag payload

/-- KEEPALIVE_FLIT. -/
def execKeepaliveFlit (l : Nat) (s : State) : Host.Outcome State Fault Refusal := .next (keepaliveFlit l s)
/-- LANE_SIGNAL_LOSS. -/
def execLaneSignalLoss (l lane : Nat) (s : State) : Host.Outcome State Fault Refusal := .next (laneSignalLoss l lane s)
/-- LINK_SILENCE_TIMEOUT. -/
def execLinkSilenceTimeout (l : Nat) (s : State) : Host.Outcome State Fault Refusal := .next (linkSilenceTimeout l s)
/-- LINK_HOLDOFF_EXPIRE. -/
def execLinkHoldoffExpire (l : Nat) (s : State) : Host.Outcome State Fault Refusal := .next (linkHoldoffExpire l s)
/-- LINK_TRAIN_START. -/
def execLinkTrainStart (l : Nat) (s : State) : Host.Outcome State Fault Refusal := .next (linkTrainStart l s)
/-- TRAIN_STEP_COMPLETE. -/
def execTrainStepComplete (l : Nat) (found : TrainFound) (s : State) : Host.Outcome State Fault Refusal :=
  .next (trainStepComplete l found.order found.polarity found.latTx found.latRx s)
/-- TRAIN_TIMEOUT. -/
def execTrainTimeout (l : Nat) (s : State) : Host.Outcome State Fault Refusal := .next (trainTimeout l s)
/-- PEER_ID. The bits that R210 calls zero are not looked at (DESIGN CHOICE, log 74). -/
def execPeerId (port hub peerPort kind txPeer rxPeer master _spare _word4 : Nat) (s : State) : Host.Outcome State Fault Refusal :=
  .next (peerId port hub peerPort kind txPeer rxPeer master s)
/-- LINK_RETRAIN. -/
def execLinkRetrain (agent : Agent) (die mask : Nat) (s : State) : Host.Outcome State Fault Refusal :=
  .next (linkRetrain agent die mask s)
/-- LINK_CLEAR. -/
def execLinkClear (agent : Agent) (die mask : Nat) (s : State) : Host.Outcome State Fault Refusal :=
  .next (linkClear agent die mask s)
/-- ACC_PRESENT. -/
def execAccPresent (slot : Nat) (s : State) : Host.Outcome State Fault Refusal := .next (accPresentEvent slot s)
/-- IDENTITY_READ. -/
def execIdentityRead (slot : Nat) (bytes : List Nat) (s : State) : Host.Outcome State Fault Refusal :=
  .next (identityReadEvent slot bytes s)
/-- MODULE_PRESENCE_POLL. -/
def execModulePresencePoll (port : Nat) (m : ModuleRead) (s : State) : Host.Outcome State Fault Refusal :=
  .next (modulePresencePoll port m s)
/-- MODULE_FLAG_POLL. -/
def execModuleFlagPoll (port : Nat) (m : ModuleRead) (s : State) : Host.Outcome State Fault Refusal :=
  .next (moduleFlagPoll port m s)
/-- MGMT_REQ. -/
def execMgmtReq (l hub tag : Nat) (payload : List Nat) (s : State) : Host.Outcome State Fault Refusal :=
  .next (mgmtReq l hub tag payload s)
/-- MGMT_RESP. -/
def execMgmtResp (l hub tag : Nat) (payload : List Nat) (s : State) : Host.Outcome State Fault Refusal :=
  .next (mgmtResp l hub tag payload s)

/-- HINT. -/
def execHint (slot angle watts duration tag : Nat) (s : State) : Host.Outcome State Fault Refusal :=
  .next (hint slot angle watts duration tag s)
/-- ACTIVITY. -/
def execActivity (slot gauge : Nat) (slow : Bool) (tag : Nat) (counters : List Nat) (s : State) : Host.Outcome State Fault Refusal :=
  .next (activity slot gauge slow tag counters s)
/-- ACTIVITY_LOST. -/
def execActivityLost (slot : Nat) (s : State) : Host.Outcome State Fault Refusal := .next (activityLost slot s)
/-- AUTO_ADMIT. -/
def execAutoAdmit (slot : Nat) (s : State) : Host.Outcome State Fault Refusal := .next (autoAdmit slot s)

end Sys2Proof.Machine
end

