-- ==== Sys2Proof/Machine/Recorder.lean ====
section
/-! DEFINITION. The cask event recorder (chapter "The cask event recorder"): writing, erasing, runs, time stamps, the scan and
the end of a freeze. -/

namespace Sys2Proof.Machine

/-- The cask header slot for block sequence `q` (R413, R422). -/
def caskHeader (s : State) (kind q : Nat) : CaskSlot :=
  { kind := kind, part := 0, arg := 1, seconds := s.rd R.REC_SECONDS.seconds, cycles := s.rd R.REC_CYCLES.cycles, arg2 := 0,
    payload := atByte 0 q + atByte 4 (s.rd R.REC_SUPPRESSED.count) + atByte 8 (s.rd R.REC_WRITTEN.count) }

/-- Opens the erased block of sequence `q`: its header goes to slot 0, the write position to slot 1, and the erase of the
next block starts unless a freeze withholds it (R411, R425). -/
def openBlock (s : State) (q : Nat) : State :=
  let s := { s with flash := { s.flash with cask := tput s.flash.cask (q % 256 * 2048) (.slot (caskHeader s 0x7E q)) },
                    rcd := { s.rcd with erased := none } }
  let s := s.wr R.REC_HEAD.position (q * 2048 + 1)
  startErase s ((q + 1) % 2 ^ 32)

/-- Makes a block open at the write position for a record of `n` slots, or answers `none` while no erased block lies
ahead. A record that does not fit starts in the next block, and the slots it skips stay empty (R418). -/
def roomFor (s : State) (n : Nat) : Option State :=
  let pos := s.rd R.REC_HEAD.position
  let idx := pos % 2048
  if idx ≠ 0 ∧ idx + n ≤ 2048 then some s
  else
    let q := if idx = 0 then pos / 2048 else (pos / 2048 + 1) % 2 ^ 21
    match s.rcd.erased with
    | some e => if e % 2 ^ 21 = q then some (openBlock s e) else none
    | none => none

/-- The parts of a record as slots (R413 to R416, R421). -/
def slotsOf (s : State) (r : CaskRec) : List CaskSlot :=
  let mk (kind part n arg arg2 payload : Nat) : CaskSlot :=
    { kind := kind, part := part + 4 * (n - 1), arg := arg, seconds := r.seconds, cycles := r.cycles, arg2 := arg2,
      payload := payload }
  match r.body with
  | .error e =>
    [mk 0x01 0 3 0 e.severity (atByte 0 e.unit + atByte 2 e.operation + atByte 4 e.groupTime + atByte 12 e.temp +
        atByte 14 e.millivolts),
     mk 0x01 1 3 0 e.cls e.detail,
     mk 0x01 2 3 0 0 (atByte 0 e.sequence + atByte 4 e.step)]
  | .summary q =>
    [mk 0x02 0 2 0 q.kind (atByte 0 q.notGood + atByte 8 q.chatter),
     mk 0x02 1 2 0 0 (atByte 0 q.notFallen + atByte 8 q.slots + atByte 9 (popcount q.notGood 64) +
        atByte 10 (popcount q.chatter 64) + atByte 11 (popcount q.notFallen 64) +
        atByte 12 (b2n q.inputOff + 2 * b2n q.hubScope) + atByte 13 q.channel)]
  | .event code unit data => [mk 0x03 0 1 code 0 (atByte 0 unit + atByte 2 data)]
  | .rpt count pos first last excess =>
    [mk 0x08 0 1 count 0 (atByte 0 pos + atByte 4 first + atByte 8 last + atByte 12 excess)]
  | .snapshot => [caskHeader s 0x7F (s.rd R.REC_HEAD.position / 2048)]

/-- Programs slots from position `pos` until `fail`, which is left torn. -/
def programSlots (cask : Tab CaskCell) (pos : Nat) (l : List CaskSlot) (fail : Option Nat) : Tab CaskCell :=
  match l with
  | [] => cask
  | c :: r =>
    let at_ := pos % (256 * 2048)
    match fail with
    | some 0 => tput cask at_ .torn
    | some (k + 1) => programSlots (tput cask at_ (.slot c)) (pos + 1) r (some k)
    | none => programSlots (tput cask at_ (.slot c)) (pos + 1) r none

/-- A written first occurrence gives its run, open or waiting as a repeat record, its position (R421). -/
def notePosition (s : State) (run pos : Nat) : State :=
  if run = 0 then s else
  { s with rcd := { s.rcd with
      runs := s.rcd.runs.map fun r => if r.id = run ∧ r.pos = none then { r with pos := some pos } else r
      queue := s.rcd.queue.map fun q => match q.body with
        | .rpt c _ f l e => if q.run = run then { q with body := .rpt c pos f l e, run := 0 } else q
        | _ => q } }

/-- Whether the record is the first occurrence of a run and not its repeat record. -/
def firstOccurrence (r : CaskRec) : Bool := match r.body with
  | .rpt .. => false
  | _ => true

/-- R418, R419: the record at the head of the queue is programmed in consecutive slots from the write position. A slot
whose program fails is left torn, and the whole record is written again from the next free slot. Nothing is written while
the Recorder does not run, during the scan, or while no block is open and none erased. -/
def caskWrite (fail : Option Nat) (s : State) : State :=
  if ¬ s.procUp 3 ∨ s.on R.REC_STATUS.scanning then s else
  match s.rcd.queue with
  | [] => s
  | r :: rest =>
    let n := (slotsOf s r).length
    match roomFor s n with
    | none => s
    | some s =>
      let l := slotsOf s r
      let pos := s.rd R.REC_HEAD.position
      let bad := match fail with
        | some k => decide (k < n)
        | none => false
      if bad then
        let k := fail.getD 0
        let s := { s with flash := { s.flash with cask := programSlots s.flash.cask pos l fail } }
        let s := s.wr R.REC_HEAD.position (pos + k + 1)
        (s.bump R.REC_WRITE_FAIL_COUNT.c).wr R.REC_STATUS.write_fail 1
      else
        let s := { s with flash := { s.flash with cask := programSlots s.flash.cask pos l none },
                          rcd := { s.rcd with queue := rest } }
        let s := s.wr R.REC_HEAD.position (pos + n)
        let s := s.wr R.REC_WRITTEN.count (min (2 ^ 32 - 1) (s.rd R.REC_WRITTEN.count + 1))
        let s := if firstOccurrence r then notePosition s r.run pos else s
        let s := s.wr R.REC_PENDING.count rest.length
        if s.rcd.dropped = 0 then s
        else
          let n := s.rcd.dropped
          let s := { s with rcd := { s.rcd with dropped := 0 } }
          s.event 0x000C 0x0003 (min n (2 ^ 32 - 1))

/-- R411, R419: the erase of the block ahead ends. A block whose erase fails is skipped in place: its sequence is consumed and
the block after it is erased in its turn. -/
def blockEraseComplete (ok : Bool) (s : State) : State :=
  match s.rcd.erasing with
  | none => s
  | some q =>
    let b := q % 256
    if ok then
      let keep := s.flash.cask.filter fun c => c.1 / 2048 != b
      { s with flash := { s.flash with cask := keep }, rcd := { s.rcd with erasing := none, erased := some q } }
    else
      let torn : Tab CaskCell := s.flash.cask.filter (fun c => decide (c.1 < b * 2048)) ++
        (List.range 2048).map (fun i => (b * 2048 + i, CaskCell.torn)) ++ s.flash.cask.filter fun c => decide (b * 2048 + 2048 ≤ c.1)
      let s : State := { s with flash := { s.flash with cask := torn }, rcd := { s.rcd with erasing := none } }
      let s := (s.bump R.REC_WRITE_FAIL_COUNT.c).wr R.REC_STATUS.write_fail 1
      let s := if s.rd R.REC_HEAD.position % 2048 = 0 then s.wr R.REC_HEAD.position ((q + 1) * 2048) else s
      startErase s ((q + 1) % 2 ^ 32)

/-- R421: a run's window expires: it has not been repeated for REC_CFG.repeat_window seconds. -/
def runClose (run : Nat) (s : State) : State :=
  match s.rcd.runs.find? fun r => r.id = run with
  | none => s
  | some r =>
    if s.rd R.REC_SECONDS.seconds < r.last + s.rd R.REC_CFG.repeat_window then s else closeRun s r

/-- R422: a header snapshot is queued every 600 operating seconds. -/
def headerSnapshot (s : State) : State :=
  if s.rd R.REC_SECONDS.seconds < s.rcd.snapshotAt + 600 then s
  else
    let s := { s with rcd := { s.rcd with snapshotAt := s.rd R.REC_SECONDS.seconds } }
    s.enqueue .snapshot 0

/-- Whether block sequence `a` is newer than `b`, modulo 2^32 (R412). -/
def seqNewer (a b : Nat) : Bool := let d := (a + 2 ^ 32 - b % 2 ^ 32) % 2 ^ 32; d ≠ 0 ∧ d < 2 ^ 31

/-- The newest valid block header of the cask: its block sequence (R424). -/
def newestBlock (cask : Tab CaskCell) : Option Nat :=
  cask.foldl (init := none) fun best c => match c.2 with
    | .slot h =>
      if c.1 % 2048 = 0 ∧ h.kind = 0x7E then
        let q := h.payload % 2 ^ 32
        match best with
        | none => some q
        | some b => if seqNewer q b then some q else some b
      else best
    | .torn => best

/-- The oldest valid block header of the cask: its block sequence. -/
def oldestBlock (cask : Tab CaskCell) : Option Nat :=
  cask.foldl (init := none) fun best c => match c.2 with
    | .slot h =>
      if c.1 % 2048 = 0 ∧ h.kind = 0x7E then
        let q := h.payload % 2 ^ 32
        match best with
        | none => some q
        | some b => if seqNewer b q then some q else some b
      else best
    | .torn => best

/-- The cell at a cask position (R412). -/
def cellAt (cask : Tab CaskCell) (p : Nat) : Option CaskCell := tfind cask (p % 524288)

/-- The parts `k` to `n - 1` that stand in order after the first, `none` where one is torn, missing or mis-numbered (R423). -/
def partsFrom (cask : Tab CaskCell) (p kind n k : Nat) : Option (List CaskSlot) := match n with
  | 0 => some []
  | j + 1 => match cellAt cask (p + k) with
    | some (.slot c) =>
      if c.kind = kind ∧ c.part % 4 = k ∧ c.part / 4 = j + k then (partsFrom cask p kind j (k + 1)).map (c :: ·) else none
    | _ => none

/-- How many slots a torn record occupies after its first (R423): torn ones and those that carry its next parts. -/
def tornTail (cask : Tab CaskCell) (p n k : Nat) : Nat := match n with
  | 0 => 0
  | j + 1 => match cellAt cask p with
    | some (.slot c) => if c.part % 4 = k ∧ 1 ≤ k then 1 + tornTail cask (p + 1) j (k + 1) else 0
    | _ => 0

/-- R423, R426: the slots from `p` to before `last`: the position after the last examined, the valid slots, the torn records. -/
def readSlots (cask : Tab CaskCell) (fuel p last : Nat) (got : List CaskSlot) (torn : Nat) : Nat × List CaskSlot × Nat := match fuel with
  | 0 => (p, got, torn)
  | f + 1 =>
    if last ≤ p then (p, got, torn)
    else match cellAt cask p with
      | none => readSlots cask f (p + 1) last got torn
      | some .torn => match cellAt cask (p + 1) with
        | some (.slot c) => readSlots cask f (p + 1 + tornTail cask (p + 1) 3 (c.part % 4)) last got (torn + 1)
        | _ => readSlots cask f (p + 1) last got (torn + 1)
      | some (.slot c) =>
        let n := c.part / 4 % 4 + 1
        if 16 ≤ c.part ∨ c.part % 4 ≠ 0 then readSlots cask f (p + 1 + tornTail cask (p + 1) 3 (c.part % 4 + 1)) last got (torn + 1)
        else if last < p + n then (p, got, torn)
        else match partsFrom cask p c.kind (n - 1) 1 with
          | some l => readSlots cask f (p + n) last (got ++ c :: l) torn
          | none => readSlots cask f (p + 1 + tornTail cask (p + 1) (n - 1) 1) last got (torn + 1)

/-- The highest value of a field over the valid slots. -/
def caskMax (f : CaskSlot → Nat) (cask : Tab CaskCell) : Nat :=
  cask.foldl (init := 0) fun m c => match c.2 with
    | .slot h => max m (f h)
    | .torn => m

/-- Whether any slot of the cask is valid. -/
def caskHasSlot (cask : Tab CaskCell) : Bool := cask.any fun c => match c.2 with
  | .slot _ => true
  | .torn => false

/-- R422, R424: the newest valid block header or snapshot, by its block sequence and its place in the block. -/
def newestHeader (cask : Tab CaskCell) : Option CaskSlot :=
  cask.foldl (init := none) fun best c => match c.2 with
    | .slot h =>
      if h.kind = 0x7E ∨ h.kind = 0x7F then match best with
        | none => some h
        | some b => if seqNewer (b.payload % 2 ^ 32) (h.payload % 2 ^ 32) then some b else some h
      else best
    | .torn => best

/-- R422: the cask header: the newest header with its count fields replaced by the live values. -/
def liveHeader (s : State) : CaskSlot :=
  match newestHeader s.flash.cask with
  | none => caskHeader s 0x7E (s.rd R.REC_HEAD.position / 2048)
  | some h => { h with payload := h.payload % 2 ^ 32 + atByte 4 (s.rd R.REC_SUPPRESSED.count) + atByte 8 (s.rd R.REC_WRITTEN.count) }

/-- The faults that error records name (R354): observed unit and operating second, from the valid slots in their order. Classes 0x03 to
0x06 are faults of their unit; of class 0x10, a dissent and a failed swatch are. -/
def caskFaults (l : List CaskSlot) : List (Nat × Nat) := match l with
  | a :: b :: rest =>
    let here := if a.kind ≠ 0x01 ∨ a.part % 4 ≠ 0 then none
      else if (3 ≤ b.arg2 ∧ b.arg2 ≤ 6) ∨ (b.arg2 = 0x10 ∧ (b.payload % 256 = 1 ∨ b.payload % 256 = 5)) then
        (unitOfIdent (a.payload % 65536)).map fun n => (n, a.seconds)
      else none
    here.toList ++ caskFaults (b :: rest)
  | _ => []

/-- A unit's history from the cask: its three newest faults, newest first. -/
def newestThree (l : List Nat) : List Nat := ((l.mergeSort fun a b => decide (b ≤ a))).take 3

/-- R354: the Recorder rebuilds each unit's history from the valid records of the cask. -/
def rebuildHistory (s : State) (l : List CaskSlot) : State :=
  let faults := caskFaults l
  (faults.map (·.1)).eraseDups.foldl (init := s) fun s n =>
    modUnit s n fun u => { u with history := newestThree ((faults.filter fun f => f.1 = n).map (·.2)) }

/-- The last slot of physical block `b` that is not empty (R424). -/
def lastFilled (cask : Tab CaskCell) (b : Nat) : Nat :=
  cask.foldl (init := 0) fun m c => if c.1 / 2048 = b then max m (c.1 % 2048) else m

/-- R423, R424: the whole cask read from its oldest block to the write position: the valid slots in order and the torn records. -/
def readCask (cask : Tab CaskCell) : Nat × List CaskSlot × Nat :=
  match newestBlock cask, oldestBlock cask with
  | some q, some o =>
    let n := (q + 2 ^ 32 - o % 2 ^ 32) % 2 ^ 32 * 2048 + lastFilled cask (q % 256) + 1
    readSlots cask n (o % 256 * 2048) (o % 256 * 2048 + n) [] 0
  | _, _ => (0, [], 0)

/-- R424, R417: the scan recovers the write position, the time stamps, the counts and the unit history. A cask with no valid
block header is blank: blocks 0 and 1 are erased and block 0 is opened with block sequence 0. The scan is followed by a
warden-start event and a header snapshot. -/
def caskScan (s : State) : State :=
  if ¬ s.on R.REC_STATUS.scanning ∨ ¬ s.procUp 3 then s else
  let cask := s.flash.cask
  let (_, valid, torn) := readCask cask
  let s := if torn = 0 then s else (s.bumpN R.REC_TORN_COUNT.c torn).wr R.REC_STATUS.torn 1
  let s : State := match newestBlock cask with
    | none =>
      let s := { s with flash := { s.flash with cask := [] }, rcd := { s.rcd with erased := some 0, erasing := none } }
      let s := s.wr R.REC_STATUS.blank 1
      let s := s.wr R.REC_OLDEST.position 0
      let s := openBlock s 0
      let s := { s with rcd := { s.rcd with erasing := none, erased := some 1 } }
      (s.wr R.REC_SECONDS.seconds 0).wr R.REC_CYCLES.cycles 1
    | some q =>
      let b := q % 256
      let s := s.wr R.REC_HEAD.position (q * 2048 + lastFilled cask b + 1)
      let old := match oldestBlock cask with
        | none => q
        | some o => o
      let s := s.wr R.REC_OLDEST.position (old * 2048)
      let secs := min (2 ^ 32 - 1) (caskMax CaskSlot.seconds cask + s.rd R.REC_SECONDS.seconds)
      let s := s.wr R.REC_SECONDS.seconds secs
      let s := s.wr R.REC_CYCLES.cycles (min (2 ^ 24 - 1) (caskMax CaskSlot.cycles cask + 1))
      let s : State := match newestHeader cask with
        | none => s
        | some h => (s.wr R.REC_SUPPRESSED.count (h.payload / 2 ^ 32 % 2 ^ 32)).wr R.REC_WRITTEN.count
            (h.payload / 2 ^ 64 % 2 ^ 32)
      startErase s ((q + 1) % 2 ^ 32)
  let s := rebuildHistory s valid
  let s := s.wr R.REC_STATUS.scanning 0
  let waiting := s.rcd.queue
  let s := { s with rcd := { s.rcd with queue := [], snapshotAt := s.rd R.REC_SECONDS.seconds } }
  let s := s.event 0x0001 0x0003 s.sup.resetSource
  let s := s.enqueue .snapshot 0
  s.requeue waiting

/-- R425: a freeze ends REC_CFG.freeze_max seconds after it began. -/
def freezeExpire (s : State) : State :=
  if s.on R.REC_STATUS.frozen ∧ s.rcd.freezeAt + s.rd R.REC_CFG.freeze_max * 1000000 ≤ s.now then releaseFreeze s else s

/-- R417: operating seconds advance by one while the warden runs, and saturate. -/
def operatingSecond (s : State) : State :=
  if ¬ s.sup.wardenOn then s else
  s.wr R.REC_SECONDS.seconds (min (2 ^ 32 - 1) (s.rd R.REC_SECONDS.seconds + 1))

/-- CASK_WRITE. -/
def execCaskWrite (fail : Option Nat) (s : State) : Host.Outcome State Fault Refusal := .next (caskWrite fail s)
/-- BLOCK_ERASE_COMPLETE. -/
def execBlockEraseComplete (ok : Bool) (s : State) : Host.Outcome State Fault Refusal := .next (blockEraseComplete ok s)
/-- RUN_CLOSE. -/
def execRunClose (run : Nat) (s : State) : Host.Outcome State Fault Refusal := .next (runClose run s)
/-- HEADER_SNAPSHOT. -/
def execHeaderSnapshot (s : State) : Host.Outcome State Fault Refusal := .next (headerSnapshot s)
/-- CASK_SCAN. -/
def execCaskScan (s : State) : Host.Outcome State Fault Refusal := .next (caskScan s)
/-- FREEZE_EXPIRE. -/
def execFreezeExpire (s : State) : Host.Outcome State Fault Refusal := .next (freezeExpire s)
/-- OPERATING_SECOND. -/
def execOperatingSecond (s : State) : Host.Outcome State Fault Refusal := .next (operatingSecond s)

end Sys2Proof.Machine
end

