-- ==== Sys2Proof/Machine/RegFile.lean ====
section
/-! DEFINITION. Registers by their offset in the management window, and the loads that the image makes (R11, R12, R433, R434). -/

namespace Sys2Proof.Machine

/-- The block that holds a management offset: where it begins, and its rows. -/
def blockAt (off : Nat) : Option (Nat × List RegRow) :=
  regBlocks.findSome? fun b =>
    if b.2.1 then
      (if off / 0x10000 = (0x1000000 + b.1) / 0x10000 then some (0x1000000 + b.1, b.2.2)
       else if off / 0x10000 = (0x2000000 + b.1) / 0x10000 then some (0x2000000 + b.1, b.2.2) else none)
    else if off / 0x10000 = b.1 / 0x10000 then some (b.1, b.2.2) else none

/-- Whether a register row holds the register at block offset `o`. -/
def RegRow.holds (r : RegRow) (o : Nat) : Bool :=
  decide (r.off ≤ o) && decide (r.stride ≠ 0) && (o - r.off) % r.stride == 0 && decide ((o - r.off) / r.stride < r.count)

/-- The register at a management offset: its block's beginning, its row, and its index there. -/
def regAt (off : Nat) : Option (Nat × RegRow × Nat) := match blockAt off with
  | none => none
  | some (base, rows) => (rows.find? fun r => r.holds (off - base)).map fun r => (base, r, (off - base - r.off) / r.stride)

/-- The fields of the register at a management offset. -/
def fieldsAt (off : Nat) : List FDesc := match regAt off with
  | some (_, r, _) => r.fields
  | none => []

/-- A field of the register at offset `off`. -/
def FDesc.fld (f : FDesc) (off : Nat) : Fld := ⟨off * 32 + f.lo, f.hi + 1 - f.lo, f.rst⟩

/-- The field's part of a register value. -/
def FDesc.of (f : FDesc) (v : Nat) : Nat := bits v f.hi f.lo

/-- The value of the register at an offset as the field file holds it. -/
def State.regValue (s : State) (off : Nat) : Nat := total ((fieldsAt off).map fun f => 2 ^ f.lo * s.rd (f.fld off))

/-- The bits that a register's fields cover. -/
def fieldBits (l : List FDesc) : Nat := l.foldl (fun w f => w ||| (2 ^ (f.hi + 1) - 2 ^ f.lo)) 0

/-- The die whose block holds an offset. -/
def offDie (off : Nat) : Option Nat := match off / 0x1000000 with
  | 1 => some 0
  | 2 => some 1
  | _ => none

/-- R434: whether a hub register, by its block offset, reads alike on both dies. -/
def mirrored (o : Nat) : Bool :=
  [0x50004, 0x5000C, 0x10018, 0x10058, 0x4000C, 0x20020, 0x20024, 0x30004].contains o ||
  (decide (0x50100 ≤ o) && decide (o < 0x50900)) || (decide (0x51000 ≤ o) && decide (o < 0x51400)) ||
  (decide (0x20100 ≤ o) && decide (o < 0x20200))

/-- R433: the loadable fields of one register take a load's value. -/
def loadReg (s : State) (off v : Nat) : State :=
  (fieldsAt off).foldl (init := s) fun s f => if f.load.isSome then s.wr (f.fld off) (f.of v) else s

/-- R434: whether a load reaches the warden, or die `d`. -/
def loadFor (d : Option Nat) (off : Nat) : Bool := match offDie off, d with
  | none, none => true
  | some k, some d => k == d || mirrored (off % 0x1000000)
  | _, _ => false

/-- R434: the loads of the warden, or of one hub die, in list order. -/
def applyLoads (s : State) (loads : List (Nat × Nat)) (d : Option Nat) : State :=
  loads.foldl (init := s) fun s l =>
    if loadFor d l.1 then
      match d with
      | none => loadReg s l.1 l.2
      | some d => loadReg s (0x1000000 * (d + 1) + l.1 % 0x1000000) l.2
    else s

/-- PIN_BUS_CFG.pmbus: no master's clock is coded 0b11, which is reserved. -/
def pmbusClocksOk (off v : Nat) : Bool := off != 0x40000C || (List.range 4).all fun i => bits v (2 * i + 1) (2 * i) != 3

/-- R434: why one load is refused: no loadable field, a field that the image does not load away from its Reset value, a field outside its
range, or bits that no field covers. A code that a field reserves counts as outside its range (DEDUCED, log 64). -/
def loadOk (l : Nat × Nat) : Bool :=
  let fs := fieldsAt l.1
  (fs.any fun f => f.load.isSome) && setMinus l.2 (fieldBits fs) == 0 && pmbusClocksOk l.1 l.2 &&
  fs.all fun f => match f.load with
    | some r => decide (r.1 ≤ f.of l.2) && decide (f.of l.2 ≤ r.2)
    | none => f.of l.2 == f.rst

/-- R434: two loads of one register that reads alike on both dies must agree. -/
def loadsAgree (loads : List (Nat × Nat)) (l : Nat × Nat) : Bool :=
  (offDie l.1).isNone || ! mirrored (l.1 % 0x1000000) ||
  loads.all fun k => (offDie k.1).isNone || k.1 % 0x1000000 != l.1 % 0x1000000 || k.2 == l.2

end Sys2Proof.Machine
end

