-- ==== Sys2Proof/Machine/RowCheck.lean ====
section
/-! DEFINITION. The fields of a row and the checks made before it triggers (R72 to R77, R86, R101, R102, and the conditions that
each kind places on its fields, descriptors and sets). -/

namespace Sys2Proof.Machine

/-! ## Fields -/

/-- Bits `hi:lo` of word `i` of a row. -/
def rowField (ws : List Nat) (i hi lo : Nat) : Nat := bits (ws.getD i 0) hi lo

/-- The kind of a row (R76). -/
def rowKind (ws : List Nat) : Nat := rowField ws 0 3 0
/-- The op of a COLLECTIVE or ARRAY row. -/
def rowOp (ws : List Nat) : Nat := rowField ws 4 3 0
/-- The level of a COLLECTIVE or FUSED row. -/
def rowLevel (ws : List Nat) : Nat := rowField ws 4 5 4
/-- The combination of a COLLECTIVE or FUSED row. -/
def rowCombine (ws : List Nat) : Nat := rowField ws 4 14 12
/-- The wire format. -/
def rowWire (ws : List Nat) : Nat := rowField ws 4 21 16
/-- The result format. -/
def rowResult (ws : List Nat) : Nat := rowField ws 4 27 22
/-- The rounding of a COLLECTIVE or FUSED row. -/
def rowRounding (ws : List Nat) : Nat := rowField ws 4 29 28
/-- The tiles of a row's mask (R74). -/
def rowTiles (ws : List Nat) : Nat := ws.getD 12 0 + 2 ^ 32 * ws.getD 13 0
/-- The seed. -/
def rowSeed (ws : List Nat) : Nat := ws.getD 14 0
/-- The links a row holds (R74). -/
def rowLinks (ws : List Nat) : Nat := rowField ws 3 23 16

/-- The route index of a row that names one. -/
def rowRoute (ws : List Nat) : Nat := match rowKind ws with
  | 0x2 => rowField ws 6 15 0
  | 0x5 => rowField ws 8 15 0
  | 0x6 => rowField ws 6 15 0
  | 0x8 => rowField ws 5 15 0
  | _ => 0

/-- The membership set a row names, for the kinds that name one. -/
def rowSet (ws : List Nat) : Option Nat := match rowKind ws with
  | 0x2 => some (rowField ws 4 11 6)
  | 0x5 => some (rowField ws 4 11 6)
  | 0x6 => some (rowField ws 4 5 0)
  | 0x8 => some (rowField ws 4 5 0)
  | _ => none

/-- Die `d`'s rows of a pattern. -/
def rowsOf (p : Sys2Proof.Pattern) (d : Nat) : List (List Nat) := if d = 0 then p.rows0 else p.rows1

/-- Whether a pattern uses die `d` (R72). -/
def usesDie (p : Sys2Proof.Pattern) (d : Nat) : Bool := ! (if d = 0 then p.rows0 else p.rows1).isEmpty

/-! ## Form -/

/-- Bits that a word may have set. -/
def low (n : Nat) : Nat := 2 ^ n - 1

/-- For each of W4 to W11, the bits that a row's kind and op use (R77). -/
def bodyMask (ws : List Nat) : List Nat :=
  match rowKind ws with
  | 0x2 =>
    let halo := rowOp ws = 5
    [0x3FFF7FFF, low 24, low 16 + (if rowOp ws = 3 then low 16 * 2 ^ 16 else 0), if halo then low 14 else 0, 0, 0, 0, 0]
  | 0x3 => [low 28, low 24, low 24, 0, 0, 0, 0, 0]
  | 0x4 => [low 12, low 24, low 24, low 12, 0, 0, 0, 0]
  | 0x5 => [0x3FFF7FF0, low 24, low 24, low 24, low 16, 0, 0, 0]
  | 0x6 => [low 18, low 24, low 16, 0, 0, 0, 0, 0]
  | 0x7 => [low 32, low 32, 0, 0, 0, 0, 0, 0]
  | 0x8 => [low 6, low 16, 0, 0, 0, 0, 0, 0]
  | 0x9 => [low 16, 0, 0, 0, 0, 0, 0, 0]
  | 0xA => [low 16, 0, 0, 0, 0, 0, 0, 0]
  | _ => [0, 0, 0, 0, 0, 0, 0, 0]

/-- Whether a kind may use links and bridge, tiles, and the seed (R76). -/
def kindUses (k : Nat) : Bool × Bool × Bool :=
  if k = 2 ∨ k = 5 then (true, true, true)
  else if k = 3 ∨ k = 4 then (false, true, true)
  else if k = 6 ∨ k = 8 then (true, true, false)
  else (false, false, false)

/-- R76, R77: whether a reserved field, or one that the kind does not use, is not zero. A tray-level row must give route 0, except
a halo exchange (R117). -/
def reservedSet (ws : List Nat) : Bool :=
  let k := rowKind ws
  let u := kindUses k
  (ws.getD 0 0).testBit 11 || rowField ws 0 31 24 != 0 || rowField ws 1 31 24 != 0 || rowField ws 2 31 24 != 0 ||
  rowField ws 3 31 25 != 0 ||
  (! u.1 && rowField ws 3 24 16 != 0) || (! u.2.1 && (ws.getD 12 0 != 0 || ws.getD 13 0 != 0)) || (! u.2.2 && rowSeed ws != 0) ||
  ((bodyMask ws).zipIdx.any fun m => setMinus (ws.getD (4 + m.2) 0) m.1 != 0) ||
  ((k = 2 || k = 5) && rowLevel ws == 0 && rowRoute ws != 0 && ! (k == 2 && rowOp ws == 5))

/-- R115, R151: whether a summing row's wire format and rounding are codes it may hold. -/
def sumFormatOk (wire rounding : Nat) : Bool := (windowOf wire).isSome || (wire == 0x01 && rounding != 2)

/-- R152: whether a MAC array takes a pair of input formats. -/
def arrayInputs (a b : Nat) : Bool :=
  let ok (c : Nat) : Bool := [0x03, 0x04, 0x05, 0x06, 0x10, 0x11, 0x12, 0x13, 0x14, 0x15].contains c
  (a == 0x20 && b == 0x20) || (ok a && ok b)

/-- R153, R154, R162: whether an ARRAY row's codes go together. -/
def arrayCodesOk (ws : List Nat) : Bool :=
  let op := rowOp ws
  let a := rowField ws 4 9 4
  let b := rowField ws 4 15 10
  let c := rowField ws 4 21 16
  let rounding := rowField ws 4 23 22
  let rank := rowField ws 4 27 25
  let r := rowField ws 6 23 12
  let checksum := rowField ws 4 24 24 = 1
  decide (rounding < 3) && decide (rank < 5) && (op == 2 || r == 0) &&
  (match op with
   | 0 => rank == 0 && arrayInputs a b && (if a == 0x20 then c == 0x22 else [0x02, 0x03, 0x04].contains c)
   | 1 => rank == 0 && arrayInputs a b && (if a == 0x20 then c == 0x22 else [0x02, 0x03, 0x04].contains c)
   | 2 => rounding == 0 && [0x02, 0x03, 0x04].contains a && b == 0x02 && c == 0x02
   | 3 => a == 0x02 && b == 0x02 && [0x02, 0x03, 0x04].contains c
   | 4 => rounding == 0 && a == 0x02 && b == 0x02 && c == 0x02 && (! checksum || decide (3 ≤ popcount (rowTiles ws) 64))
   | _ => false)

/-- Whether a COLLECTIVE or FUSED row's codes lie in their ranges. A reduction takes no MX wire format, whatever it combines: R115 names the
operations that do (DEDUCED, log 73). -/
def collectiveCodesOk (ws : List Nat) (fused : Bool) : Bool :=
  let op := rowOp ws
  let sums := fused || op == 0 || op == 1
  (fused || decide (op < 6)) && decide (rowLevel ws < 3) && decide (rowCombine ws < 3) && decide (rowRounding ws < 3) &&
  (fmtOf (rowWire ws)).isSome && (fmtOf (rowResult ws)).isSome && decide (rowField ws 7 1 0 < 3 ∨ fused) &&
  (! (sums && rowCombine ws == 0) || sumFormatOk (rowWire ws) (rowRounding ws)) && ! (sums && isMx (rowWire ws))

/-- R116, R117, R123: whether a row's route is one that it may name: a halo exchange's has one strand of pair exchanges, which at tray level
name two slots, or above it of hall exchanges too; an FP64 sum's reduces by chains alone. An index at or beyond the table is not checked
otherwise, and the row then runs with a route of no stages (DESIGN CHOICE, log 73). -/
def routeFits (s : State) (ws : List Nat) : Bool :=
  let r := tget s.pat.routes (rowRoute ws)
  let all := r.stages0 ++ r.stages1
  if rowKind ws = 2 ∧ rowOp ws = 5 then
    r.strands == 1 && ! all.isEmpty && all.all fun g =>
      if rowLevel ws = 0 then g.kind == 2 && decide (g.peer < 64) else g.kind == 2 || g.kind == 5
  else if rowLevel ws ≠ 0 ∧ rowCombine ws = 0 ∧ rowWire ws = 0x01 ∧ (rowKind ws = 5 ∨ rowOp ws < 2) then
    all.all fun g => g.kind == 3 || g.kind == 4
  else true

/-- R101: whether every field lies in its range and holds no reserved code (reason 0x6), dependencies are earlier rows, and sets
lie in the header's mask. `profiles` is the profile count of R270. -/
def fieldsOk (s : State) (p : Sys2Proof.Pattern) (ws : List Nat) (i profiles : Nat) : Bool :=
  let dep (x : Nat) : Bool := x == 0xFFF || decide (x < i)
  dep (rowField ws 2 11 0) && dep (rowField ws 2 23 12) &&
  (match rowSet ws with
   | some k => p.msets.testBit k
   | none => true) &&
  (match rowKind ws with
   | 0x1 => rowField ws 0 9 9 == 1
   | 0x2 => collectiveCodesOk ws false && routeFits s ws
   | 0x3 => arrayCodesOk ws
   | 0x4 => decide (rowField ws 4 11 0 < s.img.slices.length)
   | 0x5 => collectiveCodesOk ws true && routeFits s ws && (s.img.slices.getD (rowField ws 7 11 0) default).kind != 0
   | 0x6 => decide (rowField ws 4 17 12 ≤ rowField ws 4 11 6)
   | 0x7 => decide (rowField ws 4 3 0 < 4) && (rowField ws 4 3 0 == 1 || rowField ws 4 3 0 == 2 || decide (rowField ws 4 15 4 < profiles))
   | 0xA => decide (rowField ws 4 7 0 ≤ 100) && decide (rowField ws 4 15 8 ≤ 100)
   | _ => true)

/-! ## Descriptors and sets -/

/-- An active descriptor. -/
def descOf (s : State) (i : Nat) : Desc := tget s.pat.descs i

/-- An active set. -/
def setOf (s : State) (i : Nat) : MSet := tget s.pat.msets i

/-- The ranks, or hub indexes, of an active copy, in ascending order. -/
def setRanks (m : MSet) : List Nat := members m.active (Nat.log2 m.active + 1)

/-- The ranks of an accelerator-granular set that belong to this hub (R105). -/
def localRanks (s : State) (m : MSet) : List Nat := (setRanks m).filter fun r => r / 8 = s.img.tray.index

/-- The ranks over which M counts: this hub's at tray level, else the set's (R105, R108). -/
def levelRanks (s : State) (m : MSet) (level : Nat) : List Nat := if level = 0 then localRanks s m else setRanks m

/-- Whether a rank takes part in this step (R92). -/
def rankEffective (s : State) (r : Nat) : Bool := s.pat.admitted.testBit r && s.pat.joined.testBit (r / 8)

/-- Whether a rank, or a hub of a hub-granular set, is in a row's effective membership (R92). -/
def memberLive (s : State) (m : MSet) (r : Nat) : Bool := if m.hub then s.pat.joined.testBit r else rankEffective s r

/-- R101, R108: whether a row of a set at a level has no members: its active copy or its effective membership is empty. -/
def noMembers (s : State) (m : MSet) (level : Nat) : Bool := ! (levelRanks s m level).any (memberLive s m)

/-- R140: the conditions on an MX operand. -/
def mxShapeOk (d : Desc) : Bool :=
  ! isMx d.format || (if d.rows = 0 then d.count % 32 == 0 else d.cols % 32 == 0 && d.ld % 32 == 0)

/-- Whether a descriptor may be used at all, in a mode. -/
def descUsable (d : Desc) (mode : Nat) : Bool :=
  d.valid && d.mode == mode && d.count != 0 && (fmtOf d.format).isSome && mxShapeOk d

/-- Whether an absolute descriptor names this hub's pool with its whole extent (R182). -/
def inOwnPool (s : State) (d : Desc) : Bool :=
  d.base / 2 ^ 46 == s.tree.hub && inPool (d.base % 2 ^ 46) && inPool (d.base % 2 ^ 46 + extentBytes d - 1)

/-- R106: whether an absolute descriptor lies in the pools of the hub that resolves it, with its whole extent. -/
def inResolvedPool (d : Desc) : Bool := inPool (d.base % 2 ^ 46) && inPool (d.base % 2 ^ 46 + extentBytes d - 1)

/-- Whether two operands' extents overlap at one member (R110), an absolute base resolved on this hub (R106). -/
def overlaps (a b : Desc) : Bool :=
  let x := a.base % 2 ^ 46
  let y := b.base % 2 ^ 46
  decide (x < y + extentBytes b) && decide (y < x + extentBytes a)

/-- R110: whether dst is src: the same place and the same extent. -/
def sameExtent (a b : Desc) : Bool := a.base % 2 ^ 46 == b.base % 2 ^ 46 && extentBytes a == extentBytes b

/-- The stages of a route that pair faces (R123). -/
def faceStages (r : Route) : List Stage := r.stages0.filter fun g => g.kind = 2 ∨ g.kind = 5

/-- R163: the count a face has after its transform, or none where it may not be transformed. -/
def faceAfter (d : Desc) (transform : Nat) : Option Nat :=
  let rest (x : Nat) : Option Nat := if x % 2 = 1 then some ((x + 1) / 2) else none
  let prol (x : Nat) : Nat := 2 * x - 1
  match transform with
  | 0 => some d.count
  | 1 => if d.rows = 0 then rest d.count else match rest d.rows, rest d.cols with
    | some a, some b => some (a * b)
    | _, _ => none
  | _ => if d.rows = 0 then some (prol d.count) else some (prol d.rows * prol d.cols)

/-- R106, R110, R111, R124, R163: whether a halo row's faces and its operator's coefficients fit. No face's destination meets a source; the
operator is read from this hub's pool. -/
def halosOk (s : State) (ws : List Nat) (mode : Nat) (empty : Bool) : Bool :=
  let t := rowField ws 7 1 0
  let src := rowField ws 5 11 0
  let dst := rowField ws 5 23 12
  let op := descOf s (rowField ws 7 13 2)
  let route := tget s.pat.routes (rowRoute ws)
  (faceStages route).all fun g =>
    let a := descOf s (src + g.face)
    let b := descOf s (dst + g.face)
    descUsable a mode && descUsable b mode && ((faceStages route).all fun h => ! overlaps a (descOf s (dst + h.face))) &&
    (mode == 0 || a.format == rowWire ws) && b.format == rowResult ws && (empty || faceAfter a t == some b.count) &&
    (t == 0 || (descUsable op 0 && op.format == 0x02 && (empty || op.count == (if a.rows = 0 then 3 else 9))))

/-- R105 to R111: whether a COLLECTIVE row's set and descriptors are valid for it. -/
def collectiveValid (s : State) (ws : List Nat) : Bool :=
  let m := setOf s (rowField ws 4 11 6)
  let level := rowLevel ws
  let op := rowOp ws
  if level = 0 ∧ m.hub then false
  else
    let mode := if m.hub then 0 else 1
    let empty := noMembers s m level
    if op = 5 then halosOk s ws mode empty
    else
      let a := descOf s (rowField ws 5 11 0)
      let b := descOf s (rowField ws 5 23 12)
      let ranks := levelRanks s m level
      let M := ranks.length
      descUsable a mode && descUsable b mode &&
      (m.hub || a.format == rowWire ws) && b.format == rowResult ws &&
      (! overlaps a b || ((op == 0 || op == 3) && sameExtent a b)) &&
      (empty || (match op with
        | 0 => b.count == a.count
        | 1 => a.count % M == 0 && b.count == a.count / M
        | 2 => b.count == a.count * M
        | 3 => b.count == a.count && ranks.contains (rowField ws 6 31 16)
        | _ => a.count % M == 0 && b.count == a.count))

/-- The ranks of R153 by the row's rank field. -/
def rankOfField (x : Nat) : Nat := 4 * 2 ^ x

/-- Whether a matrix descriptor has `m` rows and `n` columns (R153). -/
def isMatrix (d : Desc) (m n : Nat) : Bool := d.rows == m && d.cols == n && d.count == m * n && (d.ld == 0 || decide (n ≤ d.ld))

/-- R153: whether an ARRAY row's descriptors have the shapes and formats of its op. -/
def arrayValid (s : State) (ws : List Nat) : Bool :=
  let a := descOf s (rowField ws 5 11 0)
  let b := descOf s (rowField ws 5 23 12)
  let c := descOf s (rowField ws 6 11 0)
  let r := descOf s (rowField ws 6 23 12)
  let rank := rankOfField (rowField ws 4 27 25)
  descUsable a 0 && descUsable b 0 && descUsable c 0 &&
  a.format == rowField ws 4 9 4 && b.format == rowField ws 4 15 10 && c.format == rowField ws 4 21 16 &&
  (match rowOp ws with
   | 2 => isMatrix a a.rows a.cols && isMatrix b rank a.cols && c.count == a.rows * rank + a.cols && c.ld == 0 &&
       c.rows == a.rows && c.cols == rank && descUsable r 0 && r.format == 0x02 && isMatrix r a.rows a.cols
   | 3 => isMatrix a a.rows rank && isMatrix b rank b.cols && isMatrix c a.rows b.cols
   | 4 => isMatrix b rank b.cols && a.count == a.rows * rank + b.cols && a.cols == rank && a.ld == 0 &&
       rowField ws 6 11 0 == rowField ws 5 23 12
   | _ => isMatrix a a.rows a.cols && isMatrix b b.rows a.cols && isMatrix c a.rows b.rows)

/-- The selectors that a sequence's loads and stores use (R436). -/
def selectorsOf (q : SliceSeq) : List Nat :=
  (q.ops.filter fun o => o % 256 = 0x01 ∨ o % 256 = 0x02).map fun o => bits o 31 28

/-- Whether a sequence reads the parameter block (R436). -/
def usesParams (q : SliceSeq) : Bool :=
  q.ops.any fun o => o % 256 == 0x03 || o % 256 == 0x1B || o % 256 == 0x5B || (o % 256 == 0x01 && bits o 31 28 == 4)

/-- R182: whether a SLICE row's descriptors are valid for it: d0 in this hub's pool, and each operand that the sequence uses. -/
def sliceValid (s : State) (ws : List Nat) : Bool :=
  let q := s.img.slices.getD (rowField ws 4 11 0) default
  let d (k : Nat) : Desc := descOf s (match k with
    | 0 => rowField ws 5 11 0
    | 1 => rowField ws 5 23 12
    | 2 => rowField ws 6 11 0
    | 3 => rowField ws 6 23 12
    | _ => rowField ws 7 11 0)
  descUsable (d 0) 0 && inOwnPool s (d 0) &&
  ((selectorsOf q).all fun k => decide (k < 5) && descUsable (d k) 0 && inOwnPool s (d k)) &&
  (! usesParams q || (descUsable (d 4) 0 && inOwnPool s (d 4)))

/-- R106, R126 to R129: whether a FUSED row's set and descriptors are valid for it. With a hub-granular set its weights go to the hubs' pools,
in absolute mode as R106 requires of every descriptor. -/
def fusedValid (s : State) (ws : List Nat) : Bool :=
  let m := setOf s (rowField ws 4 11 6)
  let mode := if m.hub then 0 else 1
  let grad := descOf s (rowField ws 5 11 0)
  let out := descOf s (rowField ws 5 23 12)
  let st := descOf s (rowField ws 6 11 0)
  let master := descOf s (rowField ws 6 23 12)
  let params := descOf s (rowField ws 7 23 12)
  let q := s.img.slices.getD (rowField ws 7 11 0) default
  ! (rowLevel ws = 0 ∧ m.hub) && descUsable grad mode && descUsable out mode && (m.hub || grad.format == rowWire ws) &&
  out.format == rowResult ws && (noMembers s m (rowLevel ws) || out.count == grad.count) &&
  descUsable master 0 && master.format == 0x02 && inResolvedPool master &&
  descUsable st 0 && inResolvedPool st && st.format == 0x02 && st.count == (master.count + 63) / 64 * 64 * q.stateWords &&
  descUsable params 0 && inResolvedPool params && decide (256 ≤ extentBytes params)

/-- R134, R344: whether a DIGEST row's set and descriptors are valid for it. -/
def digestValid (s : State) (ws : List Nat) : Bool :=
  let m := setOf s (rowField ws 4 5 0)
  let a := descOf s (rowField ws 5 11 0)
  let r := descOf s (rowField ws 5 23 12)
  ! m.hub && descUsable a 1 && a.format == 0x23 && a.count == 16 && r.valid && r.mode == 0 && r.format == 0x23 &&
  r.count == 64 + 16 * r.rows * r.cols && inPool (r.base % 2 ^ 46) &&
  decide (2 ≤ r.rows) && decide (r.rows ≤ 64) && decide (1 ≤ r.cols) && decide (r.cols ≤ 32768) &&
  decide (r.rows * r.cols ≤ 65536) && (setRanks m).length == r.rows * r.cols

/-- R101: whether the sets and descriptors a row names are valid for it at trigger. -/
def namesValid (s : State) (ws : List Nat) : Bool := match rowKind ws with
  | 0x2 => collectiveValid s ws
  | 0x3 => arrayValid s ws
  | 0x4 => sliceValid s ws
  | 0x5 => fusedValid s ws
  | 0x6 => digestValid s ws
  | 0x8 => (setOf s (rowField ws 4 5 0)).hub
  | _ => true

/-- The bytes of a row's words W0 to W14, which its check covers (R75). -/
def rowBytes60 (ws : List Nat) : List Nat := (ws.take 15).flatMap (bytesOf 4)

/-- R101, R102: the reason of the first check that a row fails. -/
def malformedReason (s : State) (p : Sys2Proof.Pattern) (ws : List Nat) (i profiles : Nat) (storeBad : Bool) : Option Nat :=
  if storeBad then some 0x2
  else if crc32c (rowBytes60 ws) ≠ ws.getD 15 0 then some 0x1
  else if 0xC ≤ rowKind ws ∨ rowField ws 0 7 4 ≠ 1 then some 0x3
  else if rowField ws 0 23 12 ≠ i then some 0x4
  else if reservedSet ws then some 0x5
  else if ! fieldsOk s p ws i profiles then some 0x6
  else if ! namesValid s ws then some 0x7
  else none

end Sys2Proof.Machine
end

