-- ==== Sys2Proof/Machine/Selection.lean ====
section
/-! DEFINITION. Which pattern runs, and what a step mark does (R44, R45, R48, R49, R57, R92 to R99, R192, R213, R446). -/

namespace Sys2Proof.Machine

/-! ## Selection -/

/-- The domains of die `d` in a pattern's masks. -/
def patternDomains (p : Sys2Proof.Pattern) (d : Nat) : Nat := if d = 0 then p.domains0 else p.domains1

/-- The tiles of die `d` in a pattern's masks. -/
def patternTiles (p : Sys2Proof.Pattern) (d : Nat) : Nat := if d = 0 then p.tiles0 else p.tiles1

/-- R98 on one die: a fenced tile, a domain that is off, or a used die that is held or whose kiln trip is active. -/
def dieRefuses (s : State) (p : Sys2Proof.Pattern) (d : Nat) : Bool :=
  patternTiles p d &&& tget s.mem.fenced d != 0 || setMinus (patternDomains p d) (s.rd (R.PWR_DOMAIN_H.on d)) != 0 ||
  (usesDie p d && (kilnActive s d || ! s.dieUp d))

/-- R98: whether pattern `n` is refused at selection. -/
def refused (s : State) (n : Nat) : Bool := match tfind s.pat.lib n with
  | none => true
  | some p => dieRefuses s p 0 || dieRefuses s p 1

/-- R102: PAT_ERROR of one die. -/
def patErrorOn (d pattern reason row : Nat) (s : State) : State :=
  (((s.wr (R.PAT_ERROR.valid d) 1).wr (R.PAT_ERROR.pattern d) pattern).wr (R.PAT_ERROR.reason d) reason).wr (R.PAT_ERROR.row d) row

/-- R98, R509: a refusal is shown in PAT_ERROR and recorded. -/
def refusePattern (s : State) (n : Nat) : State :=
  let s := s.onDies fun d s => patErrorOn d n 0x9 0 s
  s.err s.seqUnit 0 0x08 2 (atByte 0 2 + atByte 1 9 + atByte 4 n + atByte 5 0xFF)

/-- PAT_STATUS.state in each running die. -/
def setSeqAll (s : State) (v : Nat) : State := s.wrDies R.PAT_STATUS.state v

/-- The die whose PAT block leads: H0, or H1 while H0 does not run. -/
def leadDie (s : State) : Nat := if s.dieUp 0 then 0 else 1

/-- The leading sequencer's state: 0 EMPTY, 1 RUNNING, 2 STOPPED, 3 REFUSED; STOPPED where either die has stopped. -/
def seqMode (s : State) : Nat :=
  let a := s.rd (R.PAT_STATUS.state (leadDie s))
  if (s.dieUp 0 ∧ s.rd (R.PAT_STATUS.state 0) = 2) ∨ (s.dieUp 1 ∧ s.rd (R.PAT_STATUS.state 1) = 2) then 2 else a

/-- R95: taking a selection clears PAT_NEXT.valid. -/
def clearNext (s : State) : State := s.wrDies R.PAT_NEXT.valid 0

/-- R99: pattern `n` is checked at acceptance; one that passes starts with a forced step mark at the next tick. -/
def acceptPattern (s : State) (n : Nat) : State :=
  let s := clearNext s
  if refused s n then refusePattern s n else { s with pat := { s.pat with forced := some (n, s.gt.time) } }

/-- R97, R99: Steward writes PAT_NEXT and PAT_NEXT_STEP of the running dies. -/
def writeNext (valid atStep : Bool) (pattern stepLo : Nat) (s : State) : State :=
  let s := s.onDies fun d s =>
    (((s.wr (R.PAT_NEXT.valid d) (b2n valid)).wr (R.PAT_NEXT.at_step d) (b2n atStep)).wr (R.PAT_NEXT.pattern d) pattern).wr
      (R.PAT_NEXT_STEP.step_lo d) stepLo
  let s := { s with pat := { s.pat with nextAt := s.gt.time } }
  if valid ∧ (seqMode s = 0 ∨ seqMode s = 3) then acceptPattern s (pattern % 256) else s

/-- R97, R99: PAT_NEXT_WRITE. -/
def patNextWrite (agent : Agent) (valid atStep : Bool) (pattern stepLo : Nat) (s : State) : State :=
  if ¬ s.anyDieUp then s.reach agent fun s => s.answer .retry 0 10
  else if agent ≠ .steward then s.answer .denied 0 0
  else (writeNext valid atStep pattern stepLo s).answer .ok 0 0

/-- R95, R96: whether the pending selection is taken at the step mark that begins step `step`, and whether late. -/
def nextDue (s : State) (step : Nat) : Option Bool :=
  let d := leadDie s
  if ¬ s.on (R.PAT_NEXT.valid d) ∨ s.gt.time < s.pat.nextAt + 1000 then none
  else if ¬ s.on (R.PAT_NEXT.at_step d) then some false
  else
    let behind := (step + 2 ^ 32 - s.rd (R.PAT_NEXT_STEP.step_lo d) % 2 ^ 32) % 2 ^ 32
    if behind = 0 then some false else if behind < 2 ^ 31 then some true else none

/-- R95: the pattern that the active one gives for the next step. -/
def successorOf (s : State) : Option Nat := match s.activePattern with
  | some p => if p.successorValid then some p.successor else s.pat.active
  | none => s.pat.active

/-- R95, R96, R98: the pattern latched at a step mark; `none` where the sequencers enter REFUSED. -/
def latchPattern (s : State) (step : Nat) : State × Option Nat :=
  let (s, sel) : State × Option Nat := match nextDue s step with
    | some late =>
      let n := s.rd (R.PAT_NEXT.pattern (leadDie s))
      let s := if late then s.wrDies R.PAT_STATUS.select_late 1 else s
      (clearNext s, some n)
    | none => (s, successorOf s)
  match sel with
  | none => (s, none)
  | some n =>
    if ! refused s n then (s, some n)
    else
      let s := refusePattern s n
      match s.pat.active with
      | some a => if refused s a then (s, none) else (s, some a)
      | none => (s, none)

/-! ## The tracker at a step mark -/

/-- R46, R48, R49, R57: the tracker takes a step mark with a stamp. `forced` is treated as the end of a stall (R99). The second part says
that the measured period was clamped. -/
def Cadence.mark (c : Cadence) (stamp nominal : Nat) (changed forced : Bool) : Cadence × Bool :=
  let first := ! c.started
  let raw := (stamp - c.lastStamp) / 16
  let p := clampNat 3125 3750000000 raw
  let seed := changed || first
  let stall := c.stalled || forced
  let est := if seed then nominal else if stall then c.est
    else if c.reseed then p else ((c.est : Int) + (((p : Int) - c.est).fdiv 4)).toNat
  ({ c with est := est, last := if first then c.last else p, lastStamp := stamp, phase := 0, inc := 2 ^ 49 / est, corr := 0, held := false,
            stalled := false, started := true, seeded := seed, reseed := ! seed && stall, step := (c.step + 1) % 2 ^ 48,
            markStamp := none, senders := [], taken := 0, effective := 0, takes := [], stallEnded := c.stalled, renumbered := false },
   ! first && raw != p)

/-! ## Membership -/

/-- R46, R48, R49: every tracker takes a step mark. A die's own tracker is given up once it is the hub's. -/
def markTrackers (s : State) (stamp nominal : Nat) (changed forced : Bool) : State :=
  let late (d : Nat) : Bool := ((s.cadOf d).mark stamp nominal changed forced).2
  let s := s.onDies fun d f => if late d then f.wr (R.CAD_STATUS.out_of_range d) 1 else f
  let hub := (s.cad.mark stamp nominal changed forced).1
  let go (o : Nat × Cadence) : Nat × Cadence := (o.1, hub.tracked (o.2.mark stamp nominal changed forced).1)
  { s with cad := hub, own := (s.own.map go).filter fun o => o.2 != hub }

/-- R92, R93: what the last GAUGE result announced is applied to the admitted record. -/
def applyAnnounce (s : State) (a : Announce) : State :=
  let set (w : Nat) (l : List Nat) (b : Bool) : Nat := l.foldl (fun w i => setBit w i b) w
  let joined := set (set s.pat.joined a.join true) a.leave false
  let adm := set (set s.pat.admitted a.admits true) a.expel false
  let adm := a.leave.foldl (fun w h => (List.range 8).foldl (fun w i => setBit w (8 * h + i) false) w) adm
  let mine := a.admits.filterMap fun r => if r / 8 = s.img.tray.index ∧ s.linkState (r % 8) = 3 ∧ s.pat.putExpel.testBit (r % 8) = false then some (r % 8) else none
  { s with pat := { s.pat with joined := joined, admitted := adm, announce := none, accFenced := set s.pat.accFenced mine false } }

/-- R93: every pending copy becomes active. -/
def activateSets (s : State) : State :=
  let take (m : Nat × MSet) : Nat × MSet := (m.1, { m.2 with active := m.2.pending })
  { s with pat := { s.pat with msets := s.pat.msets.map take } }

/-- LNK_STATE.admitted of this hub's accelerators. -/
def showAdmitted (s : State) : State :=
  (List.range 8).foldl (init := s) fun s i =>
    if s.dieUp (i / 4) then s.wr (R.LNK_STATE.admitted (i / 4) (i % 4)) (b2n (s.accServed i)) else s

/-- R93: a pending copy of a set is written by Steward; the change takes effect at the next step mark. -/
def msetPendingWrite (agent : Agent) (set bitmap : Nat) (s : State) : State :=
  if ¬ s.anyDieUp then s.reach agent fun s => s.answer .retry 0 10
  else if agent ≠ .steward then s.answer .denied 0 0
  else if 64 ≤ set then s.answer .invalid 0 0
  else { s with pat := { s.pat with msets := tmod s.pat.msets set fun m => { m with pending := bitmap % 2 ^ 65536 } } }.answer .ok 0 0

/-! ## Domains -/

/-- Domains of a die are switched off (R31, R32): the links that they serve go OFF. -/
def switchOff (s : State) (d set : Nat) : State :=
  let s := s.wr (R.PWR_DOMAIN_H.on d) (setMinus (s.rd (R.PWR_DOMAIN_H.on d)) set)
  let s := s.modDie d fun x => { x with offPending := setMinus x.offPending set }
  refreshLinks (s.wr (R.PWR_DOMAIN_H.pending d) (b2n ((tget s.sup.dies d).offPending != 0)))

/-- R32, R94: at a step boundary the pending switch-offs that the new pattern does not use are made. -/
def boundaryDomains (s : State) (p : Option Sys2Proof.Pattern) : State :=
  [0, 1].foldl (init := s) fun s d =>
    let used := match p with
      | some p => patternDomains p d
      | none => 0
    let off := setMinus (tget s.sup.dies d).offPending used
    if off = 0 then s else switchOff s d off

/-! ## What follows a step mark -/

/-- R192: each running link-and-queue processor zeroes the deficit counters and renews the allowances of its queues, and nothing of the
round carries over. -/
def renewQueues (s : State) : State :=
  let stays (w : Nat × Nat) : Bool := ! s.procUp (4 + w.1 / 64)
  let held (w : Nat × Nat × Bool) : Bool := ! s.procUp (4 + 2 * w.1 + w.2.1 / 64)
  let renewed := (s.mem.used.filter fun w => ! stays w).map Prod.fst
  let s := renewed.foldl (fun s q => s.wrDies (fun d => R.MEM_QUEUE.allowance_used d q) 0) s
  { s with mem := { s.mem with deficit := s.mem.deficit.filter stays, used := s.mem.used.filter stays, turn := s.mem.turn.filter held } }

/-- R218: Sotin links that are UP carry planned traffic from this step mark. -/
def openPlanned (s : State) : State :=
  (List.range 8).foldl (init := s) fun s p => if s.portUp p then s.modLink (8 + p) fun k => { k with planned := true } else s

/-- R210, R213: BOUNDARY on every accelerator link that is UP. -/
def sendBoundary (s : State) (pattern gauge stamp : Nat) : State :=
  (List.range 8).foldl (init := s) fun s i =>
    if s.linkState i ≠ 3 then s
    else
      let a := s.accServed i
      s.send (.control i 0x10 (b2n a + 2 * b2n (! a) + 4 * b2n s.cad.stallEnded + 8 * b2n s.cad.renumbered)
        [s.cad.step % 2 ^ 32, s.cad.step / 2 ^ 32 + 2 ^ 16 * (pattern % 256) + 2 ^ 24 * (gauge % 64), stamp % 2 ^ 32])

/-- R333: Steward's mirror of the active descriptors, sets and pattern. -/
def takeMirror (s : State) : State :=
  { s with pat := { s.pat with mirror := { descs := s.pat.descs, msets := s.pat.msets, pattern := s.pat.active } } }

/-- R446: whether every slot has settled. -/
def slotsSettled (s : State) : Bool :=
  (List.range 8).all fun i =>
    ! s.accPresent i || slotFlagged s i || s.accAdmitted i || s.linkState i == 4 || s.linkState i == 5

/-- R446: CFG_STATUS.ready, once reached, stays; milestone 7 is its time. -/
def lookReady (s : State) : State :=
  let dieOk (d : Nat) : Bool := (tget s.sup.dies d).holds != 0 || (s.dieUp d && s.rd (R.PAT_STATUS.state d) == 1)
  if s.on R.CFG_STATUS.ready ∨ s.on R.REC_STATUS.scanning ∨ s.pat.active ≠ some s.img.initial ∨ ! (dieOk 0 && dieOk 1) ∨ ! s.anyDieUp
      ∨ ! slotsSettled s then s
  else (s.wr R.CFG_STATUS.ready 1).wr (R.CFG_MILESTONE.ms 7) ((s.now - s.sup.onAt) / 1000)

/-- Pattern `n` starts its step on both dies (R94, R95): its rows may trigger 0.32 µs after the step mark, and its header's shares hold. -/
def startPattern (s : State) (n : Nat) (p : Sys2Proof.Pattern) : State :=
  let fresh : Sequencer := { startAt := s.gt.time + 320 }
  let s := { s with pat := { s.pat with active := some n, seqs := [(0, fresh), (1, fresh)], flights := [], forced := none,
                                        takeUpAt := some (s.gt.time + 320), lateRecorded := [] } }
  let s := { s with mem := { s.mem with shares := [(0, p.linkShare, p.poolShare), (1, p.linkShare, p.poolShare)] } }
  refreshShares (refreshShares (setSeqAll s 1) 0) 1

/-- The step mark takes effect (R94), for pattern `n` of the new step or none, with its stamp. -/
def beginStep (s : State) (n : Option Nat) (stamp : Nat) (forced : Bool) : State :=
  let changed := n.isSome && n != s.pat.active
  let p : Option Sys2Proof.Pattern := match n with
    | some k => tfind s.pat.lib k
    | none => none
  let nominal := match p with
    | some p => p.nominal
    | none => max 3125 s.cad.est
  let master := s.pat.announce.map Announce.master
  let s := markTrackers s stamp nominal changed forced
  -- R45: the master's number for this step
  let s : State := match master with
    | some m =>
      if s.cad.step = (m + 1) % 2 ^ 48 then s
      else { s with cad := { s.cad with step := (m + 1) % 2 ^ 48, renumbered := true } }.wrDies R.CAD_STATUS.renumbered 1
    | none => s
  let s : State := match s.pat.announce with
    | some a => applyAnnounce s a
    | none => s
  let s := showAdmitted (activateSets s)
  let s := { s with cad := { s.cad with accAtStart := ofMembers ((List.range 8).filter s.accAdmitted) } }
  let (s, gauge) := powerStepMark s
  let s : State := match n, p with
    | some k, some p => startPattern s k p
    | _, _ => setSeqAll { s with pat := { s.pat with seqs := [], flights := [], forced := none, takeUpAt := some (s.gt.time + 320) } } 3
  let s := openPlanned (renewQueues s)
  let s := sendBoundary s (s.pat.active.getD 0) gauge stamp
  let s := boundaryDomains s p
  let s := startExpelled { s with sdc := { s.sdc with marks := s.sdc.marks + 1 } }
  lookReady (takeMirror s)

/-- R44, R94: STEP_MARK_EFFECT: the step mark takes effect at the first tick at least 256 ns after its stamp. Readmitted tiles return and
tiles due a swatch are fenced before the pattern is checked (R358, R362). -/
def stepMarkEffect (s : State) : State :=
  match s.cad.markStamp with
  | none => s
  | some stamp =>
    if s.gt.time < stamp + 256 then s
    else
      let s := fenceForSwatch (readmitTiles s)
      let step := match s.pat.announce with
        | some a => (a.master + 1) % 2 ^ 48
        | none => (s.cad.step + 1) % 2 ^ 48
      let (s, n) := latchPattern s step
      beginStep s n stamp false

/-- R99: FORCED_STEP_MARK: the accepted pattern starts at the first tick after its acceptance. -/
def forcedStepMark (s : State) : State :=
  match s.pat.forced with
  | none => s
  | some (n, at_) => if s.gt.time ≤ at_ then s else beginStep (fenceForSwatch (readmitTiles s)) (some n) s.gt.time true

/-- R44: the END rows of every die that the pattern uses have completed: the step mark is stamped. -/
def lookStepEnd (s : State) : State :=
  match s.activePattern with
  | none => s
  | some p =>
    let ended (d : Nat) : Bool := ! usesDie p d || (tget s.pat.seqs d).ended
    if ended 0 ∧ ended 1 ∧ s.cad.markStamp.isNone then { s with cad := { s.cad with markStamp := some s.gt.time } } else s

/-- PAT_NEXT_WRITE. -/
def execPatNextWrite (agent : Agent) (valid atStep : Bool) (pattern stepLo : Nat) (s : State) : Host.Outcome State Fault Refusal :=
  .next (patNextWrite agent valid atStep pattern stepLo s)
/-- MSET_PENDING_WRITE. -/
def execMsetPendingWrite (agent : Agent) (set bitmap : Nat) (s : State) : Host.Outcome State Fault Refusal :=
  .next (msetPendingWrite agent set bitmap s)
/-- STEP_MARK_EFFECT. -/
def execStepMarkEffect (s : State) : Host.Outcome State Fault Refusal := .next (stepMarkEffect s)
/-- FORCED_STEP_MARK. -/
def execForcedStepMark (s : State) : Host.Outcome State Fault Refusal := .next (forcedStepMark s)

end Sys2Proof.Machine
end

