-- ==== Sys2Proof/Machine/Routes.lean ====
section
/-! DEFINITION. How a row's elements are divided among the dies and their tiles, and how a route's stages carry them between hubs
(R105, R107, R117, R118, R122, R123, R135). What the spec leaves open of a stage's data is fixed here and listed in log 40. -/

namespace Sys2Proof.Machine

/-! ## Division among the dies (R107) -/

/-- The runs of `n` items over `t` owners, contiguous and of lengths that differ by at most one, the longer first: where run `k` begins
(R107, R155, R182). -/
def runStart (n t k : Nat) : Nat := n / t * k + min k (n % t)

/-- The owner, of a list, of item `b` of `n` in such runs. -/
def runOwner (tiles : List Nat) (n b : Nat) : Nat :=
  let t := tiles.length
  tiles.getD (((List.range t).find? fun k => b < runStart n t (k + 1)).getD 0) 0

/-- The words of a row that say what it does: its kind and its body. -/
def rowWork (ws : List Nat) : Nat × List Nat := (rowKind ws, (ws.drop 4).take 8)

/-- R107: the row of the other die's list that is the same row: it has the same kind and body, and as many such rows come before it there
(DEDUCED, log 73). -/
def twinIndex (s : State) (die row : Nat) (ws : List Nat) : Option (Nat × List Nat) := match s.activePattern with
  | none => none
  | some p =>
    let same (l : List (List Nat)) : List (List Nat × Nat) := l.zipIdx.filter fun w => rowWork w.1 == rowWork ws
    ((same (rowsOf p (1 - die)))[(same ((rowsOf p die).take row)).length]?).map fun w => (w.2, w.1)

/-- The words of that row. -/
def twinRow (s : State) (die row : Nat) (ws : List Nat) : Option (List Nat) := (twinIndex s die row ws).map (·.2)

/-- Whether the other die's row that is the same row, if there is one, has completed. -/
def twinDone (s : State) (die row : Nat) (ws : List Nat) : Bool := match twinIndex s die row ws with
  | none => true
  | some w => (tget s.pat.seqs (1 - die)).done.testBit w.1

/-- The tiles of a row's two lists in ascending order of die and tile, as 64 times the die plus the tile (R107). -/
def rowOwners (s : State) (die row : Nat) (ws : List Nat) : List Nat :=
  let own := (members (rowTiles ws) 64).map (64 * die + ·)
  match twinRow s die row ws with
  | none => own
  | some w =>
    let other := (members (rowTiles w) 64).map (64 * (1 - die) + ·)
    if die = 0 then own ++ other else other ++ own

/-- The elements in a 256-byte line of a format; a whole number of blocks for an MX one. -/
def perLine (f : Fmt) : Nat := if f.mx.isSome then 2048 / f.width / 32 * 32 else max 1 (2048 / f.width)

/-- R107: of `n` results in format `f`, the first that die `die`'s row computes, and the one past its last. A row that is in one list only
computes them all. -/
def dieSpan (s : State) (die row : Nat) (ws : List Nat) (f : Fmt) (n : Nat) : Nat × Nat :=
  match twinRow s die row ws with
  | none => (0, n)
  | some w =>
    let t := popcount (rowTiles ws) 64 + popcount (rowTiles w) 64
    let t0 := popcount (rowTiles (if die = 0 then ws else w)) 64
    if t = 0 then (0, n)
    else
      let cut := min n (runStart (divUp n (perLine f)) t t0 * perLine f)
      if die = 0 then (0, cut) else (cut, n)

/-- Whether a result's place lies in a span. -/
def inSpan (x : Nat × Nat) (i : Nat) : Bool := decide (x.1 ≤ i) && decide (i < x.2)

/-! ## Strands and units -/

/-- The stages of a strand. -/
def strandStages (r : Route) (strand : Nat) : List Stage := if strand = 0 then r.stages0 else r.stages1

/-- Elements are moved in whole blocks where a format is MX. -/
def granule (ws : List Nat) : Nat := if isMx (rowWire ws) || isMx (rowResult ws) then 32 else 1

/-- R117: the elements of a strand, first and past the last: strand 0 takes the lower weight/256. -/
def strandRange (r : Route) (strand g n : Nat) : Nat × Nat :=
  let cut := if r.strands = 2 then n * r.weight / 256 / g * g else n
  if strand = 0 then (0, cut) else (cut, n)

/-- Part `k` of `n` parts of a list, in whole granules: a ring's pieces (R118). -/
def piece (g n k : Nat) (l : List Nat) : List Nat :=
  let at_ (k : Nat) : Nat := if n ≤ k then l.length else l.length / g * k / n * g
  (l.drop (at_ k)).take (at_ (k + 1) - at_ k)

/-- The elements of a chunk (R117), a whole number of pairs of granules. -/
def chunkElems (ws : List Nat) (r : Route) : Nat := match fmtOf (rowWire ws) with
  | some f => max (2 * granule ws) (r.chunk * 2048 / f.width / (2 * granule ws) * (2 * granule ws))
  | none => 2

/-- R118: the direction in which a ring carries element `j` of its strand: 0 forward, the lower half of each chunk; 1 in reverse. -/
def halfOf (chunk j : Nat) : Nat := if j % chunk < chunk / 2 then 0 else 1

/-- Elements that one stage carries together: they fill whole lines of the stage's data, from line `first`. -/
structure Parcel where
  stage : Nat := 0
  first : Nat := 0
  elems : List Nat := []
  /-- the ports on which it comes to this hub, none where it does not come -/
  recv : Nat := 0
  /-- the ports on which this hub sends it, none where it does not -/
  send : Nat := 0
  /-- it goes towards the previous hub -/
  back : Bool := false
  /-- every port of the mask gets the whole of it -/
  copy : Bool := false
  /-- what is sent holds what this hub adds at this stage -/
  post : Bool := true
deriving DecidableEq, Repr, Inhabited

/-- The bytes of `n` elements of `width` bits, with a scale byte a block where `mx`. -/
def unitBytes (width : Nat) (mx : Bool) (n : Nat) : Nat :=
  if mx then scaleOffset 0 width n + (n + 31) / 32 else packedBytes width n

/-- The lines of a unit. -/
def unitLines (width : Nat) (mx : Bool) (u : Parcel) : Nat := (unitBytes width mx u.elems.length + 255) / 256

/-- The units of a stage one after another in the stage's data; empty ones are left out. -/
def layUnits (width : Nat) (mx : Bool) (l : List Parcel) : List Parcel :=
  ((l.filter fun u => ! u.elems.isEmpty).foldl (init := (([] : List Parcel), 0)) fun acc u =>
    (acc.1 ++ [{ u with first := acc.2 }], acc.2 + unitLines width mx u)).1

/-- Whether a stage comes before the final rounding: every kind but all-gather and fan-out. -/
def reducesStage (g : Stage) : Bool := g.kind != 1 && g.kind != 4

/-- A ring of hubs from this hub's place: whether what starts at position `a` and ends at `z` passes to or through position `p`, going
forward or back. -/
def ringPasses (n back a z p : Nat) : Bool :=
  let dist (x y : Nat) : Nat := if back = 0 then (y + n - x) % n else (x + n - y) % n
  decide (dist a p ≤ dist a z)

/-- The units of a reduction's stage for the elements that enter it (R118): a ring carries piece `k` from the hub after `k`, or before it, round
to hub `k`. -/
def reduceUnits (chunk base g0 i : Nat) (g : Stage) (elems : List Nat) : List Parcel :=
  let p := g.position
  let n := g.size
  match g.kind with
  | 0 =>
    (List.range n).flatMap fun k => [0, 1].map fun b =>
      { stage := i, elems := (piece g0 n k elems).filter fun e => halfOf chunk (e - base) = b,
        recv := if n ≤ 1 then 0 else if b = 0 then (if (k + 1) % n = p then 0 else g.prevPorts)
          else (if (p + 1) % n = k then 0 else g.nextPorts),
        send := if n ≤ 1 ∨ k = p then 0 else if b = 0 then g.nextPorts else g.prevPorts, back := b == 1 }
  | 3 =>
    [{ stage := i, elems := elems, recv := if p = 0 then 0 else g.prevPorts, send := if p + 1 = n then 0 else g.nextPorts }]
  | _ => [{ stage := i, elems := elems, recv := g.nextPorts, send := g.nextPorts, post := false }]

/-- The elements that this hub holds after a reduction's stage: its piece of a ring, all of them at a chain's last hub (R118, R127). -/
def reduceHolds (g0 : Nat) (g : Stage) (elems : List Nat) : List Nat := match g.kind with
  | 0 => piece g0 g.size g.position elems
  | 3 => if g.position + 1 = g.size then elems else []
  | _ => elems

/-- The units of a stage that spreads results: `all` are the elements that the hubs of the stage have among them, `held` this hub's
(R118). -/
def spreadUnits (chunk base g0 i : Nat) (g : Stage) (all held : List Nat) : List Parcel :=
  let p := g.position
  let n := g.size
  if g.kind = 1 then
    (List.range n).flatMap fun k => [0, 1].map fun b =>
      { stage := i, elems := (if k = p then held else piece g0 n k all).filter fun e => halfOf chunk (e - base) = b,
        recv := if k = p then 0 else if b = 0 then g.prevPorts else g.nextPorts,
        send := if b = 0 then (if (p + 1) % n = k then 0 else g.nextPorts) else (if (k + 1) % n = p then 0 else g.prevPorts),
        back := b == 1 }
  else [{ stage := i, elems := all, recv := if held.isEmpty && p != 0 then g.prevPorts else 0, send := g.nextPorts, copy := true }]

/-- The stages of a strand unfolded over its elements. -/
structure Unfolded where
  /-- what this hub holds -/
  held : List Nat := []
  /-- what entered the rings and chains that no stage has reversed yet, the last first -/
  open_ : List (List Nat) := []
  /-- what this hub held when the reduction ended -/
  shard : List Nat := []
  units : List Parcel := []
deriving Inhabited

/-- One stage of a reduction's strand. An all-gather or a fan-out reverses the last ring or chain. -/
def unfoldStage (chunk base g0 pw rw : Nat) (mx : Bool) (a : Unfolded) (g : Stage × Nat) : Unfolded :=
  if reducesStage g.1 then
    let held := reduceHolds g0 g.1 a.held
    { a with held := held, shard := held, open_ := if g.1.kind = 0 ∨ g.1.kind = 3 then a.held :: a.open_ else a.open_,
             units := a.units ++ layUnits pw false (reduceUnits chunk base g0 g.2 g.1 a.held) }
  else
    let n := a.held.length
    let all := match a.open_ with
      | l :: _ => l
      | [] => if g.1.kind = 1 then (List.range (n * g.1.size)).map (a.held.headD 0 - n * g.1.position + ·) else a.held
    { a with held := if g.1.kind = 4 ∧ a.held.isEmpty ∧ g.1.position = 0 then [] else all, open_ := a.open_.drop 1,
             units := a.units ++ layUnits rw mx (spreadUnits chunk base g0 g.2 g.1 all a.held) }

/-- A mask of ports as far as a row may wait for it: none of its ports is lost to the row (R83). -/
def portsLost (lost mask : Nat) : Bool := (members mask 8).any fun p => lost.testBit (8 + p)

/-! ## Moves: all-gather, broadcast, all-to-all and digests -/

/-- What a move carries: `n` elements of each member, and the blocks of an all-to-all (R108, R134). -/
structure MoveShape where
  op : Nat
  n : Nat
  ranks : List Nat
  hub : Bool
  root : Nat := 0
deriving Inhabited

/-- The hub index of a member. -/
def MoveShape.hubOf (x : MoveShape) (pos : Nat) : Nat := let r := x.ranks.getD pos 0; if x.hub then r else r / 8

/-- The hubs that hold a member of the set, in ascending order. -/
def MoveShape.hubs (x : MoveShape) : List Nat := (if x.hub then x.ranks else x.ranks.map (· / 8)).eraseDups

/-- The order of a hub among them. -/
def MoveShape.orderOf (x : MoveShape) (hub : Nat) : Nat := x.hubs.findIdx (· = hub)

/-- The place of a hub of order `q` in stage `i` of a route whose stages have `sizes`: an all-to-all splits as a reduce-scatter does, the
first stage by the highest part of the order; an all-gather joins in reverse (log 40). -/
def stageDigit (op : Nat) (sizes : List Nat) (i q : Nat) : Nat :=
  let span := if op = 4 then (sizes.drop (i + 1)).foldl (· * ·) 1 else (sizes.take i).foldl (· * ·) 1
  q / span % max 1 (sizes.getD i 1)

/-- Whether this hub or a stage has the members `src` and `dst` (hub orders) of a move before stage `i`: those stages have already brought
together what differs there. -/
def digitsAgree (op : Nat) (sizes : List Nat) (i own src dst : Nat) : Bool :=
  (List.range sizes.length).all fun k =>
    if k = i then true
    else if op = 4 ∧ k < i then stageDigit op sizes k dst == stageDigit op sizes k own
    else if k < i then true
    else stageDigit op sizes k src == stageDigit op sizes k own

/-- The units of a stage of an all-gather, an all-to-all or a digest's all-gather: one for each member's data, or block, and each half. -/
def moveUnits (x : MoveShape) (own chunk i : Nat) (sizes : List Nat) (g : Stage) (mine : Nat → Bool) : List Parcel :=
  let M := x.ranks.length
  let n := sizes.getD i 1
  let me := stageDigit x.op sizes i own
  let at_ (q : Nat) : Nat := (stageDigit x.op sizes i q + n - me + g.position) % n
  let p := g.position % max 1 n
  let one (j : Nat) (elems : List Nat) (z : Option Nat) (b : Nat) : Parcel :=
    let a := at_ (x.orderOf (x.hubOf j))
    -- an all-gather's data ends just before it would come back to where it started
    let z := match z with
      | some q => at_ q
      | none => if b = 0 then (a + n - 1) % n else (a + 1) % n
    let on := ringPasses n b a z p
    { stage := i, elems := elems.filter fun e => mine e && halfOf chunk (e % x.n) == b,
      recv := if n ≤ 1 ∨ ¬ on ∨ p = a then 0 else if b = 0 ∧ g.kind ≠ 2 then g.prevPorts else g.nextPorts,
      send := if n ≤ 1 ∨ ¬ on ∨ p = z then 0 else if b = 0 ∨ g.kind = 2 then g.nextPorts else g.prevPorts, back := b == 1 && g.kind != 2 }
  (List.range M).flatMap fun j =>
    let src := x.orderOf (x.hubOf j)
    if x.op = 4 then
      let w := x.n / max 1 M
      (List.range M).flatMap fun k =>
        let dst := x.orderOf (x.hubOf k)
        if digitsAgree x.op sizes i own src dst then
          [0, 1].map (one j ((List.range w).map fun e => j * x.n + k * w + e) (some dst))
        else []
    else if digitsAgree x.op sizes i own src src then [0, 1].map (one j ((List.range x.n).map (j * x.n + ·)) none)
    else []

/-- The units of a broadcast's stage: the root's data go from the hubs that have them to the next hubs of the stage. -/
def broadcastUnits (x : MoveShape) (own i : Nat) (sizes : List Nat) (g : Stage) (mine : Nat → Bool) : List Parcel :=
  let root := x.orderOf (x.hubOf x.root)
  let same (k : Nat) : Bool := stageDigit x.op sizes k own == stageDigit x.op sizes k root
  let elems := (List.range x.n).map fun e => x.root * x.n + e
  if (List.range sizes.length).all fun k => decide (k ≤ i) || same k then
    [{ stage := i, elems := elems.filter mine, recv := if same i then 0 else g.prevPorts, send := g.nextPorts, copy := true }]
  else []

/-- The units of a strand of a move: `mine` says which elements this die's row carries. Elements are numbered by their member's position
times `n`. -/
def moveStrand (x : MoveShape) (own chunk width : Nat) (mx : Bool) (stages : List Stage) (mine : Nat → Bool) : List Parcel :=
  let sizes := stages.map fun g => if g.kind = 2 then 2 else max 1 g.size
  (stages.zipIdx.flatMap fun g => layUnits width mx
    (if x.op = 3 then broadcastUnits x own g.2 sizes g.1 mine
     else moveUnits x own chunk g.2 sizes g.1 mine))

end Sys2Proof.Machine
end

