-- ==== Sys2Proof/Machine/Collective.lean ====
section
/-! DEFINITION. What COLLECTIVE rows compute, send and deliver: contributions, stages of a route, exact partials, results and halo
faces (R105 to R125, R147 to R151, R163, R164). -/

namespace Sys2Proof.Machine

/-! ## Contributions -/

/-- A line of a member's data, numbered by its stage and its index there (R208). -/
def lineKey (stage line : Nat) : Nat := stage * 2 ^ 32 + line

/-- Byte `off` of slot `slot`'s contribution through descriptor `d`, from the lines that have arrived; none where it is missing or
POISON. -/
def slotByte (fl : Flight) (d : Desc) (slot stage off : Nat) : Option Nat :=
  let a := d.base % 256 + off
  match fl.lines.find? fun l => l.1 = slot ∧ l.2.1 = lineKey stage (a / 256) with
  | some (_, _, some bytes) => bytes[a % 256]?
  | _ => none

/-- Byte `off` of this hub's pool operand (R106: bits 63:46 of its base name this hub), with the owner's read permission (R87). -/
def poolOperandByte (s : State) (d : Desc) (off : Nat) : Option Nat :=
  let a := d.base % 2 ^ 46 + off
  if partitionAllows s d.owner a 0 then poolByte s a else none

/-- This hub's pool operand as it reads now, from its base to its last byte. -/
def readOperand (s : State) (d : Desc) : List (Option Nat) := (List.range (extentBytes d)).map (poolOperandByte s d)

/-- Byte `k` of the lines that have arrived from other hubs for a strand and stage. -/
def remoteByte (fl : Flight) (strand stage k : Nat) : Option Nat :=
  match fl.remote.find? fun l => l.1 = strand ∧ l.2.1 = stage ∧ l.2.2.1 = k / 256 with
  | some (_, _, _, some bytes) => bytes[k % 256]?
  | _ => none

/-- The rounding of a row for element `i` (R143, R144). -/
def rowRound (s : State) (ws : List Nat) (mode i : Nat) : Rounding := roundingOf mode (rowSeed ws) s.cad.step i

/-- The local contributors of a row: the effective ranks of this hub as slots, or this hub itself (8) for a hub-granular set. -/
def contributors (s : State) (m : MSet) : List Nat :=
  if m.hub then (if m.active.testBit s.img.tray.index ∧ s.pat.joined.testBit s.img.tray.index then [8] else [])
  else ((localRanks s m).filter (rankEffective s)).map (· % 8)

/-- The source descriptor's number of a COLLECTIVE, FUSED or DIGEST row. -/
def srcNumber (ws : List Nat) : Nat := rowField ws 5 11 0

/-- The source bytes of a contributor through descriptor number `i`: a slot's lines, or this hub's pool as the row read it (R113). -/
def contribution (s : State) (fl : Flight) (i slot stage : Nat) : Nat → Option Nat :=
  if slot = 8 then fun off => (tget fl.pool i).getD off none
  else if fl.lost.testBit slot then fun _ => none
  else slotByte fl (descOf s i) slot stage

/-- Elements `es` of a contributor in the wire format: a pool source is converted with the row's rounding, its elements' indexes in src
and the blocks of an MX wire format (R111, R144, R146). -/
def wireElems (s : State) (fl : Flight) (i slot stage : Nat) (es : List Nat) : Converted :=
  let ws := fl.words
  let d := descOf s i
  match fmtOf d.format, fmtOf (rowWire ws) with
  | some f, some g =>
    let l := es.map fun e => codedElem (contribution s fl i slot stage) f (scaleAt d) (storeIdx d e)
    if d.format = rowWire ws then { elems := l }
    else convertAll g (es.map (rowRound s ws (rowRounding ws))) (l.map (codedValue f))
  | _, _ => {}

/-! ## Combining -/

/-- What has been combined for one element: POISON or not, how many terms, the long accumulator, and the term selected or the FP64
sum so far. -/
structure Cell where
  poison : Bool := false
  cnt : Nat := 0
  acc : LongAcc := {}
  val : Num := .zero
deriving Inhabited

/-- How a row combines: 0 exact sum, 1 minimum, 2 maximum, 3 FP64 sum (R112, R116). -/
def combineMode (ws : List Nat) : Nat := if rowCombine ws = 0 ∧ rowWire ws = 0x01 then 3 else rowCombine ws

/-- One term as a cell in the window of LSB 2^q. -/
def termCell (q : Int) (x : Option Num) : Cell := match x with
  | none => { poison := true, cnt := 1 }
  | some v => { cnt := 1, acc := LongAcc.ofTerm v q, val := v }

/-- Two cells combined, in order (R148, R150, R151). -/
def combineCell (mode : Nat) (r : Rounding) (a b : Cell) : Cell :=
  if a.cnt = 0 then b
  else if b.cnt = 0 then a
  else
    { poison := a.poison || b.poison, cnt := a.cnt + b.cnt, acc := a.acc.add b.acc,
      val := if mode = 1 then a.val.min2 b.val else if mode = 2 then a.val.max2 b.val
             else if mode = 3 then fp64.round r (a.val.add b.val) else .zero }

/-- R149 to R151: the value of a combined element; one with no term has the value of an empty combination. -/
def cellValue (mode : Nat) (q : Int) (c : Cell) : Option Num :=
  if c.poison then none
  else if c.cnt = 0 then some (if mode = 1 then .inf false else if mode = 2 then .inf true else .zero)
  else some (if mode = 0 then c.acc.value q else c.val)

/-- The LSB exponent of a wire format's window; 0 where it has none. -/
def windowLsb (wire : Nat) : Int := match windowOf wire with
  | some w => w.1
  | none => 0

/-- The width in bits of one element of a partial of a row (R114): the exact partial's for a sum, else the wire format's. -/
def partialWidth (ws : List Nat) : Nat :=
  if combineMode ws = 0 then (match windowOf (rowWire ws) with
    | some w => w.2
    | none => 64)
  else match fmtOf (rowWire ws) with
    | some f => f.width
    | none => 8

/-- R322: the POISON pattern of an exact partial of width `w`. -/
def poisonPartial (w : Nat) : Nat := 2 ^ w - 1

/-- Element `k` of the partials that a byte reader gives. -/
def remoteCell (ws : List Nat) (rd : Nat → Option Nat) (k : Nat) : Cell :=
  let w := partialWidth ws
  match readBits rd (w * k) w with
  | none => { poison := true, cnt := 1 }
  | some p =>
    if combineMode ws = 0 then
      if p = poisonPartial w then { poison := true, cnt := 1 } else { cnt := 1, acc := LongAcc.decode w p }
    else match fmtOf (rowWire ws) with
      | some f => { cnt := 1, val := f.elem.decode p }
      | none => { poison := true, cnt := 1 }

/-- The encoding of a cell as a partial. A minimum or maximum of no term is sent as the wire format's identity, which changes no other
hub's result (log 40). -/
def partialCode (ws : List Nat) (c : Cell) : Option Nat :=
  let w := partialWidth ws
  if combineMode ws = 0 then some (if c.poison then poisonPartial w else c.acc.encode w)
  else if c.poison then none
  else match fmtOf (rowWire ws) with
    | some f => (cellValue (combineMode ws) 0 c).map fun v => (f.elem.convert .zero v).code
    | none => none

/-! ## Lines between hubs -/

/-- The bytes of an element region and a scale region as lines; a line with a POISON byte is POISON. -/
def byteLines (e scales : List (Option Nat)) : List (Option (List Nat)) :=
  let bytes := if scales.isEmpty then e else e ++ List.replicate ((e.length + 255) / 256 * 256 - e.length) (some 0) ++ scales
  (List.range ((bytes.length + 255) / 256)).map fun i =>
    let l := (bytes.drop (256 * i)).take 256
    if l.any Option.isNone then none else some (l.map fun b => b.getD 0)

/-- Elements as the lines of a unit (R118). -/
def codedLines (f : Fmt) (l : List Coded) : List (Option (List Nat)) := byteLines (elemBytes f l) (scaleBytes f l)

/-- The bytes of a unit that have arrived. -/
def unitByte (fl : Flight) (strand : Nat) (u : Parcel) (k : Nat) : Option Nat := remoteByte fl strand u.stage (256 * u.first + k)

/-- The elements of a unit that have arrived, with their indexes. -/
def unitCodes (fl : Flight) (strand : Nat) (f : Fmt) (u : Parcel) : List (Nat × Coded) :=
  u.elems.zipIdx.map fun e => (e.1, codedElem (unitByte fl strand u) f (scaleOffset 0 f.width u.elems.length) e.2)

/-- An element of a list with indexes. -/
def codedAt (l : List (Nat × Coded)) (e : Nat) : Coded := (l.find? fun x => x.1 = e).elim {} (·.2)

/-! ## Reductions -/

/-- The elements of src that a reduction's row on its die computes in a strand (R107, R117). -/
def strandElems (s : State) (fl : Flight) (strand : Nat) : List Nat :=
  let ws := fl.words
  let n := (descOf s (srcNumber ws)).count
  match fmtOf (rowResult ws) with
  | none => []
  | some f =>
    let x := dieSpan s fl.die fl.row ws f n
    let y := if rowLevel ws = 0 then (0, n) else strandRange (tget s.pat.routes (rowRoute ws)) strand (granule ws) n
    let lo := max x.1 y.1
    (List.range (min x.2 y.2 - lo)).map (lo + ·)

/-- A reduction's strand unfolded. -/
def reductionUnits (s : State) (fl : Flight) (strand : Nat) : Unfolded :=
  let ws := fl.words
  let es := strandElems s fl strand
  if rowLevel ws = 0 then { held := es, shard := es }
  else
    let route := tget s.pat.routes (rowRoute ws)
    let f := (fmtOf (rowResult ws)).getD ⟨.float fp32, 32, none⟩
    (strandStages route strand).zipIdx.foldl
      (unfoldStage (chunkElems ws route) (es.headD 0) (granule ws) (partialWidth ws) f.width f.mx.isSome) { held := es, shard := es }

/-- The terms of this hub's members for elements `es`, member by member, and what a pool source's conversion counts. -/
def localTerms (s : State) (fl : Flight) (m : MSet) (es : List Nat) : List (List (Option Num)) × Nat × Nat :=
  let l := (contributors s m).map fun k => wireElems s fl (srcNumber fl.words) k 0 es
  match fmtOf (rowWire fl.words) with
  | none => ([], 0, 0)
  | some g => (l.map fun c => c.elems.map (codedValue g), total (l.map Converted.sats), total (l.map Converted.nans))

/-- R116, R151: whether a member of a lower rank than this hub's has a term, so that a chain's partial holds one. -/
def priorTerms (s : State) (m : MSet) : Bool :=
  (setRanks m).any fun r => memberLive s m r && decide ((if m.hub then r else r / 8) < s.img.tray.index)

/-- A strand's reduction so far: how this hub adds what it holds of an element to a cell, what it sends, and the additions made. -/
structure Reducing where
  join : Nat → Cell → Cell
  sends : List (Parcel × List Cell) := []
  adds : Nat := 0
  cells : List (Nat × Cell) := []

/-- One stage of a reduction (R114, R116, R118): what arrived comes first, and what this hub holds is added to it. -/
def reduceStage (s : State) (fl : Flight) (m : MSet) (strand : Nat) (r : Rounding) (a : Reducing) (us : List Parcel) : Reducing :=
  let ws := fl.words
  let mode := combineMode ws
  let cells := us.map fun u => (u, u.elems.zipIdx.map fun e =>
    (e.1, a.join e.1 (if u.recv = 0 ∨ (mode = 3 ∧ ! priorTerms s m) then {} else remoteCell ws (unitByte fl strand u) e.2)))
  let table := cells.flatMap (·.2)
  { join := fun e c => combineCell mode r c ((table.find? fun x => x.1 = e).elim {} (·.2)),
    sends := a.sends ++ (cells.filter fun c => c.1.send ≠ 0).map fun c =>
      (c.1, c.2.map fun e => if c.1.post then e.2 else a.join e.1 {}),
    adds := a.adds + (if mode = 0 then total ((us.filter fun u => u.recv ≠ 0).map fun u => u.elems.length) else 0),
    cells := table }

/-- A strand's reduction (R112, R114, R116): the elements that this hub holds in the end, what it sends, the additions into long
accumulators, and what a pool source's conversion counts. -/
def reduceStrand (s : State) (fl : Flight) (strand : Nat) : List (Nat × Cell) × List (Parcel × List Cell) × Nat × Nat × Nat :=
  let ws := fl.words
  let m := setOf s (rowField ws 4 11 6)
  let es := strandElems s fl strand
  let lo := es.headD 0
  let mode := combineMode ws
  let q := windowLsb (rowWire ws)
  let r := rowRound s ws (rowRounding ws) 0
  let t := localTerms s fl m es
  let add (e : Nat) (c : Cell) : Cell := t.1.foldl (fun c l => combineCell mode r c (termCell q (l.getD (e - lo) none))) c
  let u := reductionUnits s fl strand
  let stages := if rowLevel ws = 0 then [] else (strandStages (tget s.pat.routes (rowRoute ws)) strand).zipIdx.filter fun g => reducesStage g.1
  let a : Reducing := stages.foldl (fun a g => reduceStage s fl m strand r a (u.units.filter fun x => x.stage = g.2)) { join := add }
  (u.shard.map fun e => (e, if stages.isEmpty then add e {} else a.join e {}), a.sends,
   a.adds + (if mode = 0 then t.1.length * es.length else 0), t.2.1, t.2.2)

/-- The final rounding of held cells, with what the conversions count (R112, R146, R149, R150). `residue` lists elements that failed a
check (R325). -/
def roundCells (s : State) (ws : List Nat) (f : Fmt) (residue : List Nat) (h : List (Nat × Cell)) : List (Nat × Coded) × Nat × Nat :=
  let mode := combineMode ws
  let vs := h.map fun c => if residue.contains c.1 then none else cellValue mode (windowLsb (rowWire ws)) c.2
  let k := convertAll f (h.map fun c => rowRound s ws (rowRounding ws) c.1) vs
  -- the value of an empty combination counts no saturation
  let empty := (h.filter fun c => c.2.cnt = 0 ∧ mode ≠ 0 ∧ mode ≠ 3 ∧ f.mx.isNone ∧ ! residue.contains c.1).length
  ((h.map (·.1)).zip k.elems, k.sats - (match f.elem with
    | .float g => if g.hasInf then 0 else empty
    | .int .. => empty), k.nans)

/-- The stages after the rounding (R118): what spreads from this hub and what arrives. Answers the results that reach this hub and what it
sends. -/
def spreadStrand (s : State) (fl : Flight) (strand : Nat) (placed : List (Nat × Coded)) : List (Nat × Coded) × List (Parcel × List Coded) :=
  let ws := fl.words
  match fmtOf (rowResult ws) with
  | none => (placed, [])
  | some f =>
    if rowLevel ws = 0 then (placed, [])
    else
      let route := tget s.pat.routes (rowRoute ws)
      let us := (reductionUnits s fl strand).units.filter fun u =>
        ! reducesStage ((strandStages route strand).getD u.stage default)
      us.foldl (init := (placed, [])) fun a u =>
        let got := if u.recv = 0 then a.1 else a.1 ++ unitCodes fl strand f u
        (got, if u.send = 0 then a.2 else a.2 ++ [(u, u.elems.map (codedAt got))])

/-- The number of strands that a row's route has; one at tray level. -/
def strandsOf (s : State) (ws : List Nat) : Nat := if rowLevel ws = 0 then 1 else (tget s.pat.routes (rowRoute ws)).strands

/-! ## Delivery -/

/-- Bytes to be written at an offset of the destination of a slot, or of this hub's pool (slot 8). -/
structure Delivery where
  slot : Nat := 0
  desc : Desc := default
  off : Nat := 0
  bytes : List (Option Nat) := []
deriving Inhabited

/-- What a row's engines produced: deliveries, conversions that saturated or gave NaN, elements written as POISON, and additions
into long accumulators. -/
structure Formed where
  out : List Delivery := []
  sats : Nat := 0
  nans : Nat := 0
  poison : Nat := 0
  adds : Nat := 0
deriving Inhabited

/-- Elements from index `a` on as the deliveries to one member: row by row of a matrix, and an MX operand's scales (R140). -/
def storeCodes (slot : Nat) (d : Desc) (a : Nat) (l : List Coded) : List Delivery := match fmtOf d.format with
  | none => []
  | some f =>
    let run (i : Nat) (l : List Coded) : List Delivery :=
      let k := storeIdx d i
      { slot := slot, desc := d, off := k * f.width / 8, bytes := elemBytes f l } ::
        (if f.mx.isNone then [] else [{ slot := slot, desc := d, off := scaleAt d + k / 32, bytes := scaleBytes f l }])
    if l.isEmpty then []
    else if d.rows = 0 ∨ d.cols = 0 ∨ leading d = d.cols then run a l
    else (List.range ((a + l.length - 1) / d.cols + 1 - a / d.cols)).flatMap fun r =>
      let lo := max a ((a / d.cols + r) * d.cols)
      run lo ((l.drop (lo - a)).take ((a / d.cols + r + 1) * d.cols - lo))

/-- The slots, or this hub's pool (8), to which a row's results go: its effective local members whose link is not lost (R83,
R109). -/
def recipients (s : State) (fl : Flight) (m : MSet) : List Nat := (contributors s m).filter fun k => k = 8 ∨ ! fl.lost.testBit k

/-- How many elements are POISON. -/
def poisonCount (l : List Coded) : Nat := (l.filter fun e => e.code.isNone || e.scale.isNone).length

/-- The places of a destination that a die's row fills (R107), in order. -/
def ownPlaces (x : Nat × Nat) (first n : Nat) : List Nat := (List.range n).filter fun i => inSpan x (first + i)

/-- A reduction: all-reduce or reduce-scatter (R108). -/
def formReduction (s : State) (fl : Flight) : Formed :=
  let ws := fl.words
  let m := setOf s (rowField ws 4 11 6)
  let level := rowLevel ws
  let src := descOf s (srcNumber ws)
  let dst := descOf s (rowField ws 5 23 12)
  match fmtOf (rowResult ws) with
  | none => {}
  | some f =>
    let rs := (List.range (strandsOf s ws)).map fun k =>
      let h := reduceStrand s fl k
      let p := roundCells s ws f fl.residue h.1
      (h, p, (spreadStrand s fl k p.1).1)
    let placed := rs.flatMap (·.2.2)
    let span := dieSpan s fl.die fl.row ws f src.count
    let ranks := levelRanks s m level
    let first (slot : Nat) : Nat :=
      if rowOp ws = 0 then 0
      else (ranks.findIdx fun r => if slot = 8 then r = s.img.tray.index else r = s.rankOf slot) * (src.count / ranks.length)
    let ps := (recipients s fl m).map fun k =>
      let at_ := ownPlaces span (first k) dst.count
      (k, at_.headD 0, at_.map fun i => codedAt placed (first k + i))
    { out := ps.flatMap fun p => storeCodes p.1 dst p.2.1 p.2.2
      sats := total (rs.map fun r => r.1.2.2.2.1 + r.2.1.2.1), nans := total (rs.map fun r => r.1.2.2.2.2 + r.2.1.2.2),
      poison := total (ps.map fun p => poisonCount p.2.2), adds := total (rs.map fun r => r.1.2.2.1) }

/-! ## Moves -/

/-- What an all-gather, a broadcast, an all-to-all or a DIGEST row moves (R108, R134, R135). -/
def moveShape (s : State) (ws : List Nat) : MoveShape :=
  if rowKind ws = 6 then
    let m := setOf s (rowField ws 4 5 0)
    { op := 2, n := 16, ranks := setRanks m, hub := false }
  else
    let m := setOf s (rowField ws 4 11 6)
    let ranks := levelRanks s m (rowLevel ws)
    { op := rowOp ws, n := (descOf s (srcNumber ws)).count, ranks := ranks, hub := m.hub,
      root := ranks.findIdx fun r => r = rowField ws 6 31 16 }

/-- The format in which a move's elements travel. -/
def moveFmt (ws : List Nat) : Fmt := ((fmtOf (if rowKind ws = 6 then 0x23 else rowWire ws))).getD ⟨.int false 8 0, 8, none⟩

/-- Whether member `j` takes part in this step (R109). -/
def moveLive (s : State) (x : MoveShape) (j : Nat) : Bool :=
  let r := x.ranks.getD j 0
  if x.hub then s.pat.joined.testBit r else rankEffective s r

/-- Whether member `j` is one of this hub's. -/
def moveLocal (s : State) (x : MoveShape) (j : Nat) : Bool := x.hubOf j == s.img.tray.index

/-- The place in a member's destination that element `e` takes (R108). -/
def movePlace (x : MoveShape) (e : Nat) : Nat := match x.op with
  | 3 => e % x.n
  | 4 => let b := x.n / x.ranks.length; e / x.n * b + e % x.n % b
  | _ => e

/-- The element that goes to place `t` of the destination of the member at position `pos` (R108). -/
def moveSource (x : MoveShape) (pos t : Nat) : Nat := match x.op with
  | 3 => x.root * x.n + t
  | 4 => let b := max 1 (x.n / x.ranks.length); t / b * x.n + pos * b + t % b
  | _ => t

/-- R107: the places of a destination that the row on its die fills. -/
def moveSpan (s : State) (fl : Flight) : Nat × Nat :=
  let ws := fl.words
  if rowKind ws = 6 then (if fl.die = 0 ∨ (twinRow s fl.die fl.row ws).isNone then (0, 16 * 65536) else (0, 0))
  else match fmtOf (rowResult ws) with
    | some f => dieSpan s fl.die fl.row ws f (descOf s (rowField ws 5 23 12)).count
    | none => (0, 0)

/-- Whether the row on its die carries element `e`. -/
def moveMine (s : State) (fl : Flight) (x : MoveShape) (e : Nat) : Bool := inSpan (moveSpan s fl) (movePlace x e)

/-- The units of a strand of a move whose members take part, with their strand. -/
def moveStrandUnits (s : State) (fl : Flight) (strand : Nat) : List Parcel :=
  let ws := fl.words
  let x := moveShape s ws
  let route := tget s.pat.routes (rowRoute ws)
  let f := moveFmt ws
  let y := strandRange route strand (granule ws) x.n
  (moveStrand x (x.orderOf s.img.tray.index) (chunkElems ws route) f.width f.mx.isSome (strandStages route strand)
    fun e => moveMine s fl x e && inSpan y (e % x.n)).filter fun u => moveLive s x (u.elems.headD 0 / x.n)

/-- The elements of this hub's members in a move, with what a pool source's conversion counts (R111). -/
def ownMoves (s : State) (fl : Flight) : List (Nat × Coded) × Nat × Nat :=
  let ws := fl.words
  let x := moveShape s ws
  let l := ((List.range x.ranks.length).filter fun j => moveLocal s x j && moveLive s x j && (x.op != 3 || j == x.root)).map fun j =>
    let es := (List.range x.n).filter fun e => moveMine s fl x (j * x.n + e)
    let slot := if x.hub then 8 else x.ranks.getD j 0 % 8
    let c : Converted := if rowKind ws = 6 then
        { elems := es.map fun e => { code := contribution s fl (srcNumber ws) slot 0 e, scale := some 127 } }
      else wireElems s fl (srcNumber ws) slot 0 es
    ((es.map (j * x.n + ·)).zip c.elems, c.sats, c.nans)
  (l.flatMap (·.1), total (l.map (·.2.1)), total (l.map (·.2.2)))

/-- The elements of other hubs' members that have arrived. -/
def arrivedMoves (s : State) (fl : Flight) : List (Nat × Coded) :=
  (List.range (tget s.pat.routes (rowRoute fl.words)).strands).flatMap fun k =>
    ((moveStrandUnits s fl k).filter fun u => u.recv ≠ 0).flatMap (unitCodes fl k (moveFmt fl.words))

/-- Every element of a move that this hub has. -/
def allMoves (s : State) (fl : Flight) : List (Nat × Coded) :=
  (ownMoves s fl).1 ++ (if rowKind fl.words ≠ 6 ∧ rowLevel fl.words = 0 then [] else arrivedMoves s fl)

/-- Moved elements in the destination's format: copied where the formats are equal, else converted once with the index in the
destination (R111, R144). -/
def moveConvert (s : State) (ws : List Nat) (src dst : Nat) (at_ : List Nat) (l : List Coded) : Converted :=
  match fmtOf src, fmtOf dst with
  | some f, some g =>
    if src = dst then { elems := l } else convertAll g (at_.map (rowRound s ws (rowRounding ws))) (l.map (codedValue f))
  | _, _ => {}

/-- All-gather, broadcast and all-to-all (R108, R109): each destination element is the element of one member. -/
def formMove (s : State) (fl : Flight) : Formed :=
  let ws := fl.words
  let m := setOf s (rowField ws 4 11 6)
  let dst := descOf s (rowField ws 5 23 12)
  let x := moveShape s ws
  let own := ownMoves s fl
  let all := allMoves s fl
  let ps := (recipients s fl m).map fun k =>
    let pos := x.ranks.findIdx fun r => if k = 8 then r = s.img.tray.index else r = s.rankOf k
    let at_ := ownPlaces (moveSpan s fl) 0 dst.count
    (k, at_.headD 0, moveConvert s ws (rowWire ws) (rowResult ws) at_ (at_.map fun t => codedAt all (moveSource x pos t)))
  { out := ps.flatMap fun p => storeCodes p.1 dst p.2.1 p.2.2.elems
    sats := own.2.1 + total (ps.map fun p => p.2.2.sats), nans := own.2.2 + total (ps.map fun p => p.2.2.nans),
    poison := total (ps.map fun p => poisonCount p.2.2.elems) }

/-! ## Halo exchange -/

/-- A product and a running sum, each rounded to FP32 (R164). -/
def accumulate (acc : Option Num) (w x : Option Num) : Option Num := match acc, w, x with
  | some a, some b, some c => some (fp32.op (a.add (fp32.op (b.mul c))))
  | _, _, _ => none

/-- R164: the weighted sum of the terms given. -/
def stencil (terms : List (Option Num × Option Num)) : Option Num :=
  terms.foldl (fun acc t => accumulate acc t.1 t.2) (some .zero)

/-- R164: restriction or prolongation of a face. `rows` is 0 for a one-dimensional face, whose length is `cols`; `get` reads the
face in its own shape, `w` the coefficients. Answers the transformed elements in row-major order. Terms are taken in ascending d, or
dr and then dc. -/
def transformFace (prolong : Bool) (rows cols : Nat) (w : Nat → Option Num) (get : Nat → Nat → Option Num) : List (Option Num) :=
  let out (x : Nat) : Nat := if prolong then 2 * x - 1 else (x + 1) / 2
  let H := if rows = 0 then 1 else out rows
  let W := out cols
  let ds : List Int := [-1, 0, 1]
  let src (x : Nat) (d : Int) : Option Int :=
    if prolong then (if ((x : Int) - d) % 2 = 0 then some (((x : Int) - d) / 2) else none) else some (2 * (x : Int) + d)
  let inside (v : Option Int) (n : Nat) : Option Nat := match v with
    | some z => if 0 ≤ z ∧ z < n then some z.toNat else none
    | none => none
  (List.range (H * W)).map fun k =>
    let y := k / W
    let x := k % W
    if rows = 0 then
      stencil (ds.filterMap fun d => (inside (src x d) cols).map fun c => (w (d + 1).toNat, get 0 c))
    else
      stencil (ds.flatMap fun dr => ds.filterMap fun dc =>
        match inside (src y dr) rows, inside (src x dc) cols with
        | some r, some c => some (w (3 * (dr + 1).toNat + (dc + 1).toNat), get r c)
        | _, _ => none)

/-- The face of shape `d` whose element `i` in row-major order is `val i`, restricted or prolonged; elements are converted to FP32 first
(R164). -/
def transformed (s : State) (fl : Flight) (d : Desc) (val : Nat → Option Num) : List (Option Num) :=
  let ws := fl.words
  let i := rowField ws 7 13 2
  let op := descOf s i
  let w (k : Nat) : Option Num := elemValue (fun off => (tget fl.pool i).getD off none) ⟨.float fp32, 32, none⟩ 0 (storeIdx op k)
  let cols := if d.rows = 0 then d.count else d.cols
  transformFace (rowField ws 7 1 0 == 2) d.rows cols w fun r c => (val (r * cols + c)).map fp32.op

/-- The elements of a face that leave a member: as they are, or restricted and rounded with their index in the destination face
(R124, R125, R144, R164). -/
def faceSends (s : State) (fl : Flight) (face stage slot : Nat) : Converted :=
  let ws := fl.words
  let i := srcNumber ws + face
  let d := descOf s i
  let n := d.count
  if rowField ws 7 1 0 ≠ 1 then wireElems s fl i slot stage (List.range n)
  else match fmtOf (rowWire ws), fmtOf (rowResult ws) with
    | some f, some g =>
      let c := wireElems s fl i slot stage (List.range n)
      let vs := transformed s fl d fun k => (c.elems[k]?).bind (codedValue f)
      let r := convertAll g ((List.range vs.length).map (rowRound s ws (rowRounding ws))) vs
      { r with sats := r.sats + c.sats, nans := r.nans + c.nans }
    | _, _ => {}

/-- The elements of a face that arrived, as a destination takes them: copied, converted, or prolonged and rounded (R111, R124, R125). -/
def faceTakes (s : State) (fl : Flight) (face : Nat) (l : List Coded) : Converted :=
  let ws := fl.words
  let n := (descOf s (rowField ws 5 23 12 + face)).count
  match rowField ws 7 1 0 with
  | 0 => moveConvert s ws (rowWire ws) (rowResult ws) (List.range n) l
  | 1 => { elems := l }
  | _ => match fmtOf (rowWire ws), fmtOf (rowResult ws) with
    | some f, some g =>
      let vs := transformed s fl (descOf s (srcNumber ws + face)) fun k => (l[k]?).bind (codedValue f)
      convertAll g ((List.range vs.length).map (rowRound s ws (rowRounding ws))) vs
    | _, _ => {}

/-- The format in which faces cross between hubs: a restricted face in result_format (R164). -/
def faceFmt (ws : List Nat) : Fmt :=
  (fmtOf (if rowField ws 7 1 0 = 1 then rowResult ws else rowWire ws)).getD ⟨.float fp32, 32, none⟩

/-- The members of this hub that a halo row pairs with the peer's, in rank order, whether or not they take part (R123). -/
def haloMembers (s : State) (m : MSet) : List Nat := if m.hub then [8] else (localRanks s m).map (· % 8)

/-- The span of a face that the row on its die fills. -/
def faceSpan (s : State) (fl : Flight) (face : Nat) : Nat × Nat := match fmtOf (rowResult fl.words) with
  | some f => dieSpan s fl.die fl.row fl.words f (descOf s (rowField fl.words 5 23 12 + face)).count
  | none => (0, 0)

/-- Above tray level, the units of a halo row with their members: one for each stage and member, of the elements that the row on its die
carries; a face to be prolonged is carried whole (log 40). -/
def haloUnits (s : State) (fl : Flight) : List (Nat × Parcel) :=
  let ws := fl.words
  let m := setOf s (rowField ws 4 11 6)
  let f := faceFmt ws
  (faceStages (tget s.pat.routes (rowRoute ws))).zipIdx.flatMap fun g =>
    let n := if rowField ws 7 1 0 = 1 then (descOf s (rowField ws 5 23 12 + g.1.face)).count
      else (descOf s (srcNumber ws + g.1.face)).count
    let es := (List.range n).filter fun e => rowField ws 7 1 0 = 2 || inSpan (faceSpan s fl g.1.face) e
    let us := layUnits f.width f.mx.isSome ((haloMembers s m).map fun _ =>
      { stage := g.2, elems := es, recv := g.1.nextPorts, send := g.1.nextPorts })
    (haloMembers s m).zip us

/-- Halo exchange (R123 to R125). At tray level each stage sends one slot's face to another slot. Above it each local member sends
its face to the peer and takes what arrived for its stage. -/
def formHalo (s : State) (fl : Flight) : Formed :=
  let ws := fl.words
  let m := setOf s (rowField ws 4 11 6)
  let route := tget s.pat.routes (rowRoute ws)
  let dests := recipients s fl m
  let out (dest face : Nat) (c : Converted) (sent : Nat × Nat) : Formed :=
    let at_ := (List.range c.elems.length).filter (inSpan (faceSpan s fl face))
    let l := at_.map fun i => c.elems.getD i {}
    { out := storeCodes dest (descOf s (rowField ws 5 23 12 + face)) (at_.headD 0) l, sats := c.sats + sent.1, nans := c.nans + sent.2,
      poison := poisonCount l }
  let ps : List Formed := if rowLevel ws = 0 then
      (faceStages route).zipIdx.filterMap fun g =>
        let from_ := g.1.peer / 8 % 8
        let dest := g.1.peer % 8
        if ! dests.contains dest then none
        else
          let c := faceSends s fl g.1.face g.2 from_
          let c := if (contributors s m).contains from_ then c else { elems := c.elems.map fun _ => {} }
          some (out dest g.1.face (faceTakes s fl g.1.face c.elems) (c.sats, c.nans))
    else
      (haloUnits s fl).filterMap fun x =>
        let face := ((strandStages route 0).getD x.2.stage default).face
        if ! dests.contains x.1 then none
        else
          let n := if rowField ws 7 1 0 = 1 then (descOf s (rowField ws 5 23 12 + face)).count else (descOf s (srcNumber ws + face)).count
          let l := unitCodes fl 0 (faceFmt ws) x.2
          some (out x.1 face (faceTakes s fl face ((List.range n).map (codedAt l))) (0, 0))
  { out := ps.flatMap Formed.out, sats := total (ps.map Formed.sats), nans := total (ps.map Formed.nans),
    poison := total (ps.map Formed.poison) }

/-- What a COLLECTIVE row delivers (R108). -/
def formCollective (s : State) (fl : Flight) : Formed :=
  if rowOp fl.words < 2 then formReduction s fl else if rowOp fl.words < 5 then formMove s fl else formHalo s fl

/-! ## What has to arrive -/

/-- The lines of an operand that hold elements `es`, counted from the line of its base. -/
def elementLines (d : Desc) (es : List Nat) : List Nat := match fmtOf d.format with
  | none => []
  | some f =>
    let b := d.base % 256
    ((es.map (storeIdx d)).flatMap fun k =>
      let a := (b + f.width * k / 8) / 256
      let z := (b + (f.width * k + f.width - 1) / 8) / 256
      (List.range (z + 1 - a)).map (a + ·) ++ (if f.mx.isNone then [] else [(b + scaleAt d + k / 32) / 256])).eraseDups

/-- The contribution lines that a row reads from the accelerators: slot, stage, descriptor, lines (R113). -/
def neededSlots (s : State) (fl : Flight) : List (Nat × Nat × Desc × List Nat) :=
  let ws := fl.words
  let set (m : MSet) (es : List Nat) (stage i k : Nat) : Option (Nat × Nat × Desc × List Nat) :=
    if m.hub then none else some (k, stage, descOf s i, elementLines (descOf s i) es)
  let i := srcNumber ws
  let m := setOf s (rowField ws 4 11 6)
  match rowKind ws with
  | 0x2 =>
    if rowOp ws = 5 then
      (faceStages (tget s.pat.routes (rowRoute ws))).zipIdx.flatMap fun g => (contributors s m).filterMap fun k =>
        if rowLevel ws ≠ 0 ∨ k = g.1.peer / 8 % 8 then
          set m (List.range (descOf s (i + g.1.face)).count) g.2 (i + g.1.face) k
        else none
    else if rowOp ws < 2 then
      (contributors s m).filterMap (set m ((List.range (strandsOf s ws)).flatMap (strandElems s fl)) 0 i)
    else
      let x := moveShape s ws
      (contributors s m).filterMap fun k =>
        let j := x.ranks.findIdx (· = s.rankOf k)
        if rowOp ws = 3 ∧ j ≠ x.root then none
        else set m ((List.range x.n).filter fun e => moveMine s fl x (j * x.n + e)) 0 i k
  | 0x5 => (contributors s m).filterMap (set m ((List.range (strandsOf s ws)).flatMap (strandElems s fl)) 0 i)
  | 0x6 =>
    if (moveSpan s fl).2 = 0 then []
    else (contributors s (setOf s (rowField ws 4 5 0))).filterMap (set {} (List.range 16) 0 i)
  | _ => []

/-- The descriptors of this hub's pool that a row reads as its contribution or operator (R113, R124). -/
def poolReads (s : State) (ws : List Nat) : List Nat :=
  let m := setOf s (rowField ws 4 11 6)
  let faces := (faceStages (tget s.pat.routes (rowRoute ws))).map fun g => srcNumber ws + g.face
  match rowKind ws with
  | 0x2 =>
    if rowOp ws = 5 then (if m.hub then faces else []) ++ (if rowField ws 7 1 0 = 0 then [] else [rowField ws 7 13 2])
    else if m.hub then [srcNumber ws] else []
  | 0x5 => if m.hub then [srcNumber ws] else []
  | _ => []

/-- Every unit of a row's route with its strand (R118). -/
def rowUnits (s : State) (fl : Flight) : List (Nat × Parcel) :=
  let ws := fl.words
  let k := rowKind ws
  let strands := List.range (tget s.pat.routes (rowRoute ws)).strands
  if (k ≠ 2 ∧ k ≠ 5 ∧ k ≠ 6) ∨ (k ≠ 6 ∧ rowLevel ws = 0) then []
  else if k = 5 ∨ (k = 2 ∧ rowOp ws < 2) then strands.flatMap fun i => (reductionUnits s fl i).units.map fun u => (i, u)
  else if k = 2 ∧ rowOp ws = 5 then (haloUnits s fl).map fun x => (0, x.2)
  else strands.flatMap fun i => (moveStrandUnits s fl i).map fun u => (i, u)

/-- The lines of a row's unit. -/
def rowUnitLines (s : State) (fl : Flight) (strand : Nat) (u : Parcel) : Nat :=
  let ws := fl.words
  let g := (strandStages (tget s.pat.routes (rowRoute ws)) strand).getD u.stage default
  if rowKind ws = 6 then unitLines 8 false u
  else if rowKind ws = 5 ∨ rowOp ws < 2 then
    let f := (fmtOf (rowResult ws)).getD ⟨.float fp32, 32, none⟩
    if reducesStage g then unitLines (partialWidth ws) false u else unitLines f.width f.mx.isSome u
  else
    let f := if rowOp ws = 5 then faceFmt ws else moveFmt ws
    unitLines f.width f.mx.isSome u

/-- Whether all of a unit has arrived, or no longer comes: a link on which it comes is lost to the row (R83, R122). -/
def unitArrived (s : State) (fl : Flight) (strand : Nat) (u : Parcel) : Bool :=
  portsLost fl.lost u.recv || (List.range (rowUnitLines s fl strand u)).all fun i =>
    fl.remote.any fun l => l.1 == strand && l.2.1 == u.stage && l.2.2.1 == u.first + i

/-- Whether the contributions of this hub's members have arrived or no longer come. -/
def localArrived (s : State) (fl : Flight) : Bool :=
  (neededSlots s fl).all fun p =>
    fl.lost.testBit p.1 || p.2.2.2.all fun i => fl.lines.any fun l => l.1 == p.1 && l.2.1 == lineKey p.2.1 i

/-- Whether every input of a row has arrived or no longer comes (R82, R83). -/
def inputsArrived (s : State) (fl : Flight) : Bool :=
  localArrived s fl && (rowUnits s fl).all fun x => x.2.recv == 0 || unitArrived s fl x.1 x.2

/-- Whether the inputs of a row's reduction have: those of its stages before the rounding. -/
def reductionArrived (s : State) (fl : Flight) : Bool :=
  let route := tget s.pat.routes (rowRoute fl.words)
  localArrived s fl && (rowUnits s fl).all fun x =>
    x.2.recv == 0 || ! reducesStage ((strandStages route x.1).getD x.2.stage default) || unitArrived s fl x.1 x.2

/-! ## What a hub sends to others -/

/-- What a unit's lines hold, with what their conversion counts where it is made for the sending alone. -/
structure Sending where
  strand : Nat
  parcel : Parcel
  lines : List (Option (List Nat)) := []
  sats : Nat := 0
  nans : Nat := 0

/-- The lines that a row sends to other hubs, unit by unit (R114, R118, R120, R135). A FUSED row's results go once its shard is updated. A
member that does not take part sends its faces as POISON, for the peer cannot know of it (log 40). -/
def rowSends (s : State) (fl : Flight) : List Sending :=
  let ws := fl.words
  let k := rowKind ws
  let strands := List.range (tget s.pat.routes (rowRoute ws)).strands
  if (k ≠ 2 ∧ k ≠ 5 ∧ k ≠ 6) ∨ (k ≠ 6 ∧ rowLevel ws = 0) then []
  else if k = 5 ∨ (k = 2 ∧ rowOp ws < 2) then
    match fmtOf (rowResult ws) with
    | none => []
    | some f => strands.flatMap fun i =>
      let r := reduceStrand s fl i
      let placed : Option (List (Nat × Coded)) := if k = 5 then fl.shard else some (roundCells s ws f fl.residue r.1).1
      let part (c : List Cell) : List (Option (List Nat)) := byteLines (packElems (partialWidth ws) (c.map (partialCode ws))) []
      (r.2.1.map fun x => { strand := i, parcel := x.1, lines := part x.2 }) ++
      (match placed with
       | none => []
       | some p => (spreadStrand s fl i p).2.map fun x => { strand := i, parcel := x.1, lines := codedLines f x.2 })
  else if k = 2 ∧ rowOp ws = 5 then
    let m := setOf s (rowField ws 4 11 6)
    let route := tget s.pat.routes (rowRoute ws)
    (haloUnits s fl).map fun x =>
      let face := ((strandStages route 0).getD x.2.stage default).face
      let c := faceSends s fl face x.2.stage x.1
      let live := (contributors s m).contains x.1
      { strand := 0, parcel := x.2, lines := codedLines (faceFmt ws) (x.2.elems.map fun e => if live then c.elems.getD e {} else {}),
        sats := if live then c.sats else 0, nans := if live then c.nans else 0 }
  else
    let all := allMoves s fl
    strands.flatMap fun i => ((moveStrandUnits s fl i).filter fun u => u.send ≠ 0).map fun u =>
      { strand := i, parcel := u, lines := codedLines (moveFmt ws) (u.elems.map (codedAt all)) }

/-- Whether what a unit sends is known (R118): this hub's contributions, the unit itself where this hub passes it on, and what the earlier
stages brought of its elements have arrived; a FUSED row's results wait for its update. -/
def sendReady (s : State) (fl : Flight) (strand : Nat) (u : Parcel) : Bool :=
  localArrived s fl && (rowUnits s fl).all fun x =>
    x.1 != strand || x.2.recv == 0 || ! (decide (x.2.stage < u.stage) || (x.2.stage == u.stage && x.2.first == u.first && u.post)) ||
      ! (x.2.elems.any u.elems.contains) || unitArrived s fl x.1 x.2

end Sys2Proof.Machine
end

