-- ==== Sys2Proof/Machine/Array.lean ====
section
/-! DEFINITION. What ARRAY rows compute: products, low-rank projection with error feedback, expansion and the basis update (R152 to
R162). -/

namespace Sys2Proof.Machine

/-- The value of element (i, j) of a pool matrix. -/
def matrixElem (s : State) (d : Desc) (i j : Nat) : Option Num := match fmtOf d.format with
  | none => none
  | some f => elemValue (poolOperandByte s d) f (scaleAt d) (i * leading d + j)

/-- A product of two elements that may be POISON. -/
def mulOpt (a b : Option Num) : Option Num := match a, b with
  | some x, some y => some (x.mul y)
  | _, _ => none

/-- A sum of two values that may be POISON, exact. -/
def addOpt (a b : Option Num) : Option Num := match a, b with
  | some x, some y => some (x.add y)
  | _, _ => none

/-- The exact sum of a list of products (R154). -/
def exactSum (l : List (Option Num)) : Option Num := l.foldl addOpt (some .zero)

/-- R154: the running sum over K-blocks of 32 products, from `init`; each block's exact sum is added and rounded to FP32, or kept
exact for integers. -/
def runningSum (ints : Bool) (init : Option Num) (products : List (Option Num)) : Option Num :=
  (blocksOf products.length products).foldl (init := init) fun run b =>
    (addOpt run (exactSum b)).map fun x => if ints then x else fp32.op x

/-- A value rounded to BF16 (R154: the FP32 inputs of ops 2 and 3). -/
def toBf16 (x : Option Num) : Option Num := x.map (bf16.round .nearest)

/-- The values of an op's output matrix before its conversion, `rows` × `cols` in row-major order, from the products of each
element. -/
def outputs (rows cols : Nat) (f : Nat → Nat → Option Num) : List (Option Num) :=
  (List.range (rows * cols)).map fun k => f (k / cols) (k % cols)

/-- The 32 × 32 block of an element of a matrix with `cols` columns, in row-major block order (R155). -/
def blockOf (cols i j : Nat) : Nat := i / 32 * ((cols + 31) / 32) + j / 32

/-- Rows of values as deliveries to a matrix in the pool, converted with the row's rounding (R144: index row × N + column). -/
def matrixOut (s : State) (ws : List Nat) (d : Desc) (mode cols : Nat) (vals : List (Option Num)) : Formed :=
  match fmtOf d.format with
  | none => {}
  | some f =>
    let n := if cols = 0 then 0 else vals.length / cols
    (List.range n).foldl (init := {}) fun acc i =>
      let p := convertAll f ((List.range cols).map fun j => rowRound s ws mode (i * cols + j)) ((vals.drop (i * cols)).take cols)
      { acc with out := acc.out ++ [{ slot := 8, desc := d, off := i * leading d * f.width / 8, bytes := elemBytes f p.elems }],
                 sats := acc.sats + p.sats, nans := acc.nans + p.nans }

/-- A packed vector as the delivery to the pool at element `k` of a descriptor. -/
def vectorOut (d : Desc) (k : Nat) (f : Fmt) (vals : List (Option Num)) : Formed :=
  let p := convertAll f (vals.map fun _ => .nearest) vals
  { out := [{ slot := 8, desc := d, off := k * f.width / 8, bytes := elemBytes f p.elems }], sats := p.sats, nans := p.nans }

/-- What two parts of a row's work produced together. -/
def Formed.join (a b : Formed) : Formed :=
  { out := a.out ++ b.out, sats := a.sats + b.sats, nans := a.nans + b.nans, poison := a.poison + b.poison, adds := a.adds + b.adds }

/-- FP32. -/
def fmtFp32 : Fmt := ⟨.float fp32, 32, none⟩

/-- The dot product of R161: products and sums rounded to FP32, in ascending order. -/
def dotFp32 (a b : List Num) : Num :=
  (a.zip b).foldl (fun acc p => fp32.op (acc.add (fp32.op (p.1.mul p.2)))) .zero

/-- R161: the new row j of the basis from the sketch y: none where it is left unchanged. -/
def basisRow (q : List (List Num)) (j : Nat) (y : List Num) : Option (List Num) :=
  let u := (q.zipIdx.filter fun r => r.2 ≠ j).foldl (init := y) fun u r =>
    let d := dotFp32 r.1 u
    (u.zip r.1).map fun p => fp32.op (p.1.add (fp32.op (d.mul p.2)).negate)
  match fp32.op (dotFp32 u u).sqrt with
  | .fin _ m e => if m = 0 then none else some (u.map fun x => fp32.op (x.div (.fin false m e)))
  | _ => none

/-- What an ARRAY row produced: deliveries, the multiply-adds issued, and for op 4 whether its row was kept and why. -/
structure ArrayDone where
  formed : Formed := {}
  macs : Nat := 0
  /-- op 4 ran: its row, and whether it was left unchanged -/
  basis : Option (Nat × Bool) := none
  /-- the basis vote found no agreement (R162) -/
  noVote : Bool := false
deriving Inhabited

/-- The basis row of the step (R160). -/
def basisIndex (s : State) (die rank : Nat) : Nat := s.cad.step / max 1 (s.rd (R.ARR_LOWRANK_CFG.interval die)) % rank

/-- An ARRAY row's computation. `bad` lists the output blocks of which a check fails, for op 4 the tiles whose results differ; it
counts only where the row's checksum bit is 1 (R157, R158, R162). -/
def computeArray (s : State) (fl : Flight) (bad : List Nat) : ArrayDone :=
  let ws := fl.words
  let a := descOf s (rowField ws 5 11 0)
  let b := descOf s (rowField ws 5 23 12)
  let c := descOf s (rowField ws 6 11 0)
  let rm := descOf s (rowField ws 6 23 12)
  let checks := rowField ws 4 24 24 = 1
  let failed (i : Nat) : Bool := checks && bad.contains i
  let mode := rowField ws 4 23 22
  let rank := rankOfField (rowField ws 4 27 25)
  match rowOp ws with
  | 2 =>
    let m := a.rows
    let n := a.cols
    let j := basisIndex s fl.die rank
    let w (i k : Nat) : Option Num := (addOpt (matrixElem s a i k) (matrixElem s rm i k)).map fp32.op
    let p (i r : Nat) : Option Num :=
      runningSum false (some .zero) ((List.range n).map fun k => mulOpt (toBf16 (w i k)) (toBf16 (matrixElem s b r k)))
    let rem (i k : Nat) : Option Num :=
      if failed (i / 32) then w i k
      else (addOpt (w i k) ((runningSum false (some .zero)
        ((List.range rank).map fun r => mulOpt (toBf16 (p i r)) (toBf16 (matrixElem s b r k)))).map Num.negate)).map fp32.op
    let sk (k : Nat) : Option Num :=
      if checks ∧ ! bad.isEmpty then none
      else runningSum false (some .zero) ((List.range m).map fun i => mulOpt (toBf16 (w i k)) (toBf16 (p i j)))
    let ps := outputs m rank fun i r => if failed (i / 32) then none else p i r
    { formed := ((matrixOut s ws c 0 rank ps).join (vectorOut c (m * rank) fmtFp32 ((List.range n).map sk))).join
        (matrixOut s ws rm 0 n (outputs m n rem)),
      macs := 2 * m * n * rank + m * n }
  | 3 =>
    let m := a.rows
    let n := b.cols
    let vals := outputs m n fun i j =>
      if failed (blockOf n i j) then none
      else runningSum false (some .zero)
        ((List.range rank).map fun k => mulOpt (toBf16 (matrixElem s a i k)) (toBf16 (matrixElem s b k j)))
    { formed := matrixOut s ws c mode n vals, macs := m * n * rank }
  | 4 =>
    let n := b.cols
    let j := basisIndex s fl.die rank
    if s.cad.step % max 1 (s.rd (R.ARR_LOWRANK_CFG.interval fl.die)) ≠ 0 then {}
    else
      let y := (List.range n).map fun k => (elemValue (poolOperandByte s a) fmtFp32 0 (a.rows * rank + k))
      let q := (List.range rank).map fun r => (List.range n).map fun k => matrixElem s b r k
      let lowest := (members (rowTiles ws) 64).take 3
      let noVote := checks && decide (2 ≤ (lowest.filter bad.contains).length)
      if y.any Option.isNone ∨ noVote then
        { basis := some (j, true), noVote := noVote, macs := 2 * n * rank }
      else if (q.zipIdx.any fun r => r.2 != j && r.1.any Option.isNone) then
        -- R156: every element of the new row depends on the other rows
        { formed := vectorOut b (j * leading b) fmtFp32 (y.map fun _ => none), basis := some (j, false), macs := 2 * n * rank }
      else
        match basisRow (q.map fun r => r.map fun x => x.getD .zero) j (y.map fun x => x.getD .zero) with
        | none => { basis := some (j, true), macs := 2 * n * rank }
        | some u =>
          { formed := vectorOut b (j * leading b) fmtFp32 (u.map some), basis := some (j, false), macs := 2 * n * rank }
  | op =>
    let m := a.rows
    let n := b.rows
    let kk := a.cols
    let ints := rowField ws 4 9 4 = 0x20
    let vals := outputs m n fun i j =>
      if failed (blockOf n i j) then none
      else
        let init := if op = 1 then matrixElem s c i j else some .zero
        runningSum ints init ((List.range kk).map fun k => mulOpt (matrixElem s a i k) (matrixElem s b j k))
    { formed := matrixOut s ws c mode n vals, macs := m * n * kk }

end Sys2Proof.Machine
end

