-- ==== Sys2Proof/Machine/Slice.lean ====
section
/-! DEFINITION. The slice cores' micro-ops and what SLICE and FUSED rows compute with them (R126 to R133, R182, R183, R436, R437). -/

namespace Sys2Proof.Machine

/-- What a sequence can reach on one line (R182, R436): the descriptors of its operands by selector, the line's number in the
iteration operand, the parameter block's bytes and its t, and in a FUSED row the reduced gradient of the lanes that the row updates. -/
structure SliceEnv where
  fused : Bool := false
  words : List Nat := []
  ops : List Desc := []
  line : Nat := 0
  stateWords : Nat := 0
  /-- the first lane of the line that has a gradient, and the gradients from there on -/
  lane : Nat := 0
  grad : List (Option Num) := []
  params : Desc := default
  param : Nat → Option Nat := fun _ => none

/-- A slice core while it runs: registers of lanes, what it has sent to the output selector of a FUSED row, what it has written to the
pools, and the loop stack (start, iterations left, iteration number). -/
structure SliceCore where
  pc : Nat := 0
  regs : Tab (List (Option Num)) := []
  output : Tab (Option Num) := []
  writes : List RowWrite := []
  loops : List (Nat × Nat × Nat) := []
  ended : Bool := false
  sats : Nat := 0
  nans : Nat := 0
deriving Inhabited

/-- The fields of a micro-op (R436). -/
def opCode (o : Nat) : Nat := bits o 7 0
/-- The destination register. -/
def opDst (o : Nat) : Nat := bits o 12 8
/-- The immediate. -/
def opImm (o : Nat) : Nat := bits o 63 32

/-- How many micro-ops a sequence executes on one line (R437): LOOP and END once, a body and its ENDL once an iteration. -/
def execCount (ops : List Nat) : Nat :=
  (ops.foldl (init := ([1], 0)) fun (acc : List Nat × Nat) o =>
    let k := acc.1.headD 1
    if opCode o = 0x20 then (k * opImm o :: acc.1, acc.2 + k)
    else if opCode o = 0x21 then (acc.1.drop 1, acc.2 + k)
    else (acc.1, acc.2 + k)).2

/-- The lanes of register `r`. -/
def SliceCore.reg (c : SliceCore) (r lanes : Nat) : List (Option Num) :=
  let l := tget c.regs r
  (List.range lanes).map fun i => l.getD i (some .zero)

/-- Register `r` set. -/
def SliceCore.put (c : SliceCore) (r : Nat) (l : List (Option Num)) : SliceCore := { c with regs := tput c.regs r l }

/-- The element offset of a load or store: its immediate plus 8 (or 4) times the innermost iteration number (R436). -/
def elemOffset (c : SliceCore) (o lanes : Nat) : Nat := opImm o + match c.loops with
  | [] => 0
  | (_, _, it) :: _ => lanes * it

/-- The elements of a 256-byte line in a format. -/
def lineElems (d : Desc) : Nat := match fmtOf d.format with
  | some f => 2048 / f.width
  | none => 0

/-- The first element of the current line in an operand: positions are relative to the current line of d0 (R182), those of the parameter
block too; in a FUSED row the state lines of master line i begin at i × s × 64 (R128). -/
def operandBase (e : SliceEnv) (sel : Nat) : Nat :=
  if e.fused then (if sel = 1 then e.line * 64 else if sel = 2 then e.line * e.stateWords * 64 else 0)
  else e.line * lineElems (e.ops.getD 0 default)

/-- The descriptor of a selector. -/
def selDesc (e : SliceEnv) (sel : Nat) : Desc := if sel = 4 then e.params else e.ops.getD sel default

/-- Element `k` of a selector on the current line. A lane of a FUSED row's line that has no gradient has none to reduce: it computes on +0
and nothing is written for it. -/
def selElem (s : State) (e : SliceEnv) (c : SliceCore) (sel k : Nat) : Option Num :=
  if e.fused ∧ sel = 0 then (if e.lane ≤ k then (e.grad[k - e.lane]?).getD (some .zero) else some .zero)
  else if e.fused ∧ sel = 3 then tget c.output k
  else
    let d := selDesc e sel
    match fmtOf d.format with
    | none => none
    | some f => elemValue (if sel = 4 then e.param else poolOperandByte s d) f (scaleAt d) (operandBase e sel + k)

/-- The lanes of a load or store: 8 elements, or 4 of an FP64 operand. -/
def selLanes (e : SliceEnv) (sel : Nat) : Nat :=
  if e.fused ∧ (sel = 0 ∨ sel = 3) then 8 else if (selDesc e sel).format = 0x01 then 4 else 8

/-- R196: what a load reads from a pool is counted. -/
def countLoad (s : State) (e : SliceEnv) (sel k n : Nat) : State :=
  if e.fused ∧ (sel = 0 ∨ 3 ≤ sel) then s
  else
    let d := selDesc e sel
    match fmtOf d.format with
    | none => s
    | some f => countAccess s d.owner (d.base % 2 ^ 46 + (operandBase e sel + k) * f.width / 8) (packedBytes f.width n) false

/-- The encodings of stored lanes. An MX operand keeps its block's scale, to which the lanes are converted: R436 does not say how a store
of eight elements would choose one for 32 (DESIGN CHOICE, log 73). -/
def storeCode (s : State) (e : SliceEnv) (d : Desc) (f : Fmt) (mode first : Nat) (l : List (Option Num)) : Converted :=
  if f.mx.isNone then convertAll f ((List.range l.length).map fun i => rowRound s e.words mode (first + i)) l
  else
    let cs : List (Option Conv) := l.zipIdx.map fun (x : Option Num × Nat) =>
      match x.1, poolOperandByte s d (scaleAt d + (first + x.2) / 32) with
      | some v, some sc => some (f.elem.convert (rowRound s e.words mode (first + x.2)) (v.scale (127 - (sc : Int))))
      | _, _ => none
    { elems := cs.map fun c => { code := c.map Conv.code, scale := some 127 }, sats := (cs.filter fun c => c.any Conv.sat).length,
      nans := (cs.filter fun c => c.any Conv.isNan).length }

/-- Whether a lane of a FUSED row's master or state line belongs to an element that the row updates. -/
def laneActive (e : SliceEnv) (k : Nat) : Bool :=
  ! e.fused || (decide (e.lane ≤ k % 64) && decide (k % 64 < e.lane + e.grad.length))

/-- ST: lanes written to a selector's elements, converted with the row's rounding (R436). Elements that share a byte with others of an
operand are written with them. -/
def storeLanes (s : State) (e : SliceEnv) (c : SliceCore) (sel k mode : Nat) (l : List (Option Num)) : State × SliceCore :=
  if e.fused ∧ sel = 3 then (s, { c with output := l.zipIdx.foldl (fun t x => tput t (k + x.2) x.1) c.output })
  else if e.fused ∧ (sel = 0 ∨ sel = 4) then (s, c)
  else
    let d := selDesc e sel
    match fmtOf d.format with
    | none => (s, c)
    | some f =>
      let first := operandBase e sel + k
      let p := storeCode s e d f mode first l
      let lo := if f.width % 8 = 0 then first else first / 8 * 8
      let hi := if f.width % 8 = 0 then first + l.length else (first + l.length + 7) / 8 * 8
      let code (i : Nat) : Option Nat :=
        if first ≤ i ∧ i < first + l.length then (p.elems.getD (i - first) {}).code else elemCode (poolOperandByte s d) f i
      let put (i : Nat) (cs : List (Option Nat)) : RowWrite :=
        { owner := d.owner, off := d.base % 2 ^ 46 + i * f.width / 8, bytes := packElems f.width cs }
      let all := (List.range (hi - lo)).map (lo + ·)
      let ws : List RowWrite := if all.all fun i => laneActive e (i - operandBase e sel) then [put lo (all.map code)]
        else (all.filter fun i => laneActive e (i - operandBase e sel)).map fun i => put i [code i]
      (rowWrites s ws, { c with sats := c.sats + p.sats, nans := c.nans + p.nans, writes := c.writes ++ ws })

/-- How many source registers an arithmetic micro-op uses, by the low five bits of its code (R436). -/
def arity (k : Nat) : Nat := if k = 0x13 then 3 else if k = 0x15 ∨ 0x18 ≤ k then 1 else 2

/-- An operation on lanes: none where an input that it uses is POISON (R183). -/
def lanes3 (uses : Nat) (f : Num → Num → Num → Num) (a b c : List (Option Num)) : List (Option Num) :=
  (a.zip (b.zip c)).map fun x => match x.1, (if uses < 2 then some .zero else x.2.1), (if uses < 3 then some .zero else x.2.2) with
    | some p, some q, some r => some (f p q r)
    | _, _, _ => none

/-- FSIGN: −1, 0 or +1; the sign of a zero is zero and of a NaN is NaN. -/
def numSign (x : Num) : Num := match x with
  | .fin a m _ => if m = 0 then .zero else .fin a 1 0
  | .inf a => .fin a 1 0
  | .nan => .nan

/-- FABS. -/
def numAbs (x : Num) : Num := match x with
  | .fin _ m e => .fin false m e
  | .inf _ => .inf false
  | .nan => .nan

/-- An arithmetic micro-op's function (R436) by the low five bits of its code; `t` is the parameter block's t. -/
def arithOp (f : FloatFmt) (k t : Nat) (a b c : Num) : Num := match k with
  | 0x10 => f.op (a.add b)
  | 0x11 => f.op (a.add b.negate)
  | 0x12 => f.op (a.mul b)
  | 0x13 => f.op ((a.mul b).add c)
  | 0x14 => f.op (a.div b)
  | 0x15 => f.op a.sqrt
  | 0x16 => a.min2 b
  | 0x17 => a.max2 b
  | 0x18 => numSign a
  | 0x19 => numAbs a
  | 0x1A => a.negate
  | 0x1B => f.pow a ((t + 1) % 2 ^ 32)
  | _ => a

/-- One micro-op (R436). -/
def sliceStep (mode : Nat) (ops : List Nat) (e : SliceEnv) (sc : State × SliceCore) : State × SliceCore :=
  let s := sc.1
  let c := sc.2
  if c.ended then sc else
  let o := ops.getD c.pc 0xFF
  let k := opCode o
  let nxt := { c with pc := c.pc + 1 }
  let sel := bits o 31 28
  match k with
  | 0x01 =>
    let n := selLanes e sel
    let off := elemOffset c o n
    let f := if n = 4 then fp64 else fp32
    (countLoad s e sel off n, nxt.put (opDst o) ((List.range n).map fun i => (selElem s e c sel (off + i)).map f.op))
  | 0x02 =>
    let n := selLanes e sel
    storeLanes s e nxt sel (elemOffset c o n) mode (c.reg (bits o 17 13) n)
  | 0x03 =>
    let v := readBits e.param (8 * opImm o) 32
    let s := if e.fused then s else countAccess s e.params.owner (e.params.base % 2 ^ 46 + opImm o) 4 false
    (s, nxt.put (opDst o) ((List.range 8).map fun _ => v.map fp32.decode))
  | 0x04 => (s, nxt.put (opDst o) ((List.range 8).map fun _ => some (fp32.decode (opImm o))))
  | 0x20 => (s, { nxt with loops := (c.pc + 1, opImm o, 0) :: c.loops })
  | 0x21 => match c.loops with
    | [] => (s, nxt)
    | (start, left, it) :: rest =>
      if left ≤ 1 then (s, { nxt with loops := rest }) else (s, { c with pc := start, loops := (start, left - 1, it + 1) :: rest })
  | 0xFF => (s, { c with ended := true })
  | _ =>
    let wide := decide (0x50 ≤ k)
    let n := if wide then 4 else 8
    let k := if wide then k - 0x40 else k
    let t := readBits e.param 0 32
    let g := arithOp (if wide then fp64 else fp32) k (t.getD 0)
    let l := lanes3 (arity k) g (c.reg (bits o 17 13) n) (c.reg (bits o 22 18) n) (c.reg (bits o 27 23) n)
    (s, nxt.put (opDst o) (if k = 0x1B ∧ t.isNone then l.map fun _ => none else l))

/-- `n` micro-ops. -/
def sliceRun (mode : Nat) (ops : List Nat) (e : SliceEnv) (n : Nat) (sc : State × SliceCore) : State × SliceCore := match n with
  | 0 => sc
  | k + 1 => sliceRun mode ops e k (sliceStep mode ops e sc)

/-- A sequence run on one line. -/
def runLine (s : State) (mode : Nat) (q : SliceSeq) (e : SliceEnv) : State × SliceCore :=
  sliceRun mode q.ops e (execCount q.ops) (s, {})

/-- The number of lines of an operand. -/
def operandLines (d : Desc) : Nat := (extentBytes d + 255) / 256

/-- R326: what a sequence stores for a line of which a core's check fails: the operand's elements at this line, all POISON. -/
def poisonElems (e : SliceEnv) (sel : Nat) : List RowWrite :=
  let d := selDesc e sel
  match fmtOf d.format with
  | none => []
  | some f =>
    let n := lineElems (e.ops.getD 0 default)
    [{ owner := d.owner, off := d.base % 2 ^ 46 + operandBase e sel * f.width / 8, bytes := List.replicate (packedBytes f.width n) none }]

/-- R321: lines that a row has written whole in the end, in whatever parts, lose their marks. -/
def healLines (s : State) (l : List RowWrite) : State :=
  (l.flatMap fun w => linesOf w.off w.bytes.length).eraseDups.foldl (init := s) fun s line =>
    let whole := overlayLine line (writeParts s l line)
    if s.mem.isMarked line ∧ whole.all (fun b => b.any Option.isSome) = true then
      writeLine s (line * 256) (whole.map fun b => b.getD none)
    else s

/-- R182, R183: a SLICE row's computation, line by line of d0; `bad` lists lines of which a core's check fails (R326): every element
that the sequence stores for it is POISON. -/
def computeSlice (s : State) (fl : Flight) (bad : List Nat) : State × Nat × Nat :=
  let ws := fl.words
  let q := s.img.slices.getD (rowField ws 4 11 0) default
  let d (k : Nat) : Desc := descOf s k
  let ops := [d (rowField ws 5 11 0), d (rowField ws 5 23 12), d (rowField ws 6 11 0), d (rowField ws 6 23 12)]
  let params := d (rowField ws 7 11 0)
  let stored := ((q.ops.filter fun o => opCode o = 0x02).map fun o => bits o 31 28).eraseDups
  let r := (List.range (operandLines (ops.getD 0 default))).foldl (init := (s, 0, 0, ([] : List RowWrite))) fun acc line =>
    let e : SliceEnv := { words := ws, ops := ops, line := line, params := params, param := poolOperandByte acc.1 params }
    if bad.contains line then
      let w := stored.flatMap (poisonElems e)
      (rowWrites acc.1 w, acc.2.1, acc.2.2.1, acc.2.2.2 ++ w)
    else
      let r := runLine acc.1 0 q e
      (r.1, acc.2.1 + r.2.sats, acc.2.2.1 + r.2.nans, acc.2.2.2 ++ r.2.writes)
  (healLines r.1 r.2.2.2, r.2.1, r.2.2.1)

/-- What a FUSED row's phases 1 to 4 gave: the state, the updated elements in the result format, the master lines held (R132),
conversions and additions. -/
structure FusedDone where
  state : State
  placed : List (Nat × Coded) := []
  held : Nat := 0
  sats : Nat := 0
  nans : Nat := 0
  adds : Nat := 0

/-- R127: how many elements of this hub's shard the row of the other die updates before this one's: with H0's row they come first. -/
def shardBefore (s : State) (fl : Flight) : Nat :=
  match twinRow s fl.die fl.row fl.words with
  | none => 0
  | some w =>
    if fl.die = 0 then 0
    else
      let row := ((s.activePattern.map fun p => (rowsOf p 0).findIdx (· = w)).getD 0)
      let other : Flight := { fl with die := 0, row := row, words := w }
      total ((List.range (strandsOf s fl.words)).map fun k => (reductionUnits s other k).shard.length)

/-- One master line of a FUSED row: the elements from `lane` on with their reduced gradients (R127, R128). -/
def fusedLine (fl : Flight) (s : State) (line lane : Nat) (part : List (Option Num)) : State × List (Option Num) × SliceCore :=
  let ws := fl.words
  let q := s.img.slices.getD (rowField ws 7 11 0) default
  let master := descOf s (rowField ws 6 23 12)
  let st := descOf s (rowField ws 6 11 0)
  let e : SliceEnv :=
    { fused := true, words := ws, ops := [default, master, st], line := line, stateWords := q.stateWords, lane := lane, grad := part,
      params := descOf s (rowField ws 7 23 12), param := fun k => fl.params.getD k none }
  let z := runLine s 0 q e
  let out := (List.range part.length).map fun k => match tfind z.2.output (lane + k) with
    | some v => v
    | none => selElem z.1 e z.2 1 (lane + k)
  (healLines z.1 z.2.writes, out, z.2)

/-- R126 phases 1 to 4, R127, R130, R132: the reduced gradient of this hub's shard, rounded once to FP32, updates its master lines in
ascending element order; a line with a POISON gradient element is held; the updated elements are rounded to the result format. -/
def computeFused (s : State) (fl : Flight) (residue : List Nat) : FusedDone :=
  let ws := fl.words
  let rs := (List.range (strandsOf s ws)).map (reduceStrand s fl)
  let shard := rs.flatMap (·.1)
  let g := roundCells s ws fmtFp32 residue shard
  let grads := g.1.map fun x => codedValue fmtFp32 x.2
  let before := shardBefore s fl
  let lines := (before % 64 + shard.length + 63) / 64
  let r := (List.range lines).foldl (init := (s, ([] : List (Option Num)), 0, 0, 0)) fun acc k =>
    let lo := k * 64 - before % 64
    let part := (grads.drop lo).take ((k + 1) * 64 - before % 64 - lo)
    if part.any Option.isNone then (acc.1, acc.2.1 ++ part.map (fun _ => none), acc.2.2.1 + 1, acc.2.2.2)
    else
      let z := fusedLine fl acc.1 (before / 64 + k) (if k = 0 then before % 64 else 0) part
      (z.1, acc.2.1 ++ z.2.1, acc.2.2.1, acc.2.2.2.1 + z.2.2.sats, acc.2.2.2.2 + z.2.2.nans)
  let f := (fmtOf (rowResult ws)).getD fmtFp32
  let out := convertAll f (shard.map fun c => rowRound s ws (rowRounding ws) c.1) r.2.1
  { state := r.1, placed := (shard.map (·.1)).zip out.elems, held := r.2.2.1,
    sats := total (rs.map fun x => x.2.2.2.1) + g.2.1 + r.2.2.2.1 + out.sats,
    nans := total (rs.map fun x => x.2.2.2.2) + g.2.2 + r.2.2.2.2 + out.nans, adds := total (rs.map fun x => x.2.2.1) }

/-- R126 phase 5: what a FUSED row delivers to its members. -/
def formFused (s : State) (fl : Flight) (placed : List (Nat × Coded)) : Formed :=
  let ws := fl.words
  let m := setOf s (rowField ws 4 11 6)
  let out := descOf s (rowField ws 5 23 12)
  let route := (List.range (strandsOf s ws)).flatMap fun k => (spreadStrand s fl k placed).1
  match fmtOf (rowResult ws) with
  | none => {}
  | some f =>
    let at_ := ownPlaces (dieSpan s fl.die fl.row ws f out.count) 0 out.count
    let l := at_.map (codedAt route)
    let dests := recipients s fl m
    { out := dests.flatMap fun k => storeCodes k out (at_.headD 0) l, poison := dests.length * poisonCount l }

end Sys2Proof.Machine
end

