-- ==== Sys2Proof/Machine/Sequencer.lean ====
section
/-! DEFINITION. The row sequencers: when a row triggers, its inputs and its completion, planned lines, limits, restarts and the take-up of
descriptors (R78 to R90, R100 to R103, R118 to R122, R126 to R135, R158, R161, R162, R209, R325, R326). -/

namespace Sys2Proof.Machine

/-! ## Rows -/

/-- The row sequencer of a die as a unit (R21). -/
def seqUnitOf (d : Nat) : Nat := 0x1000 * (d + 1) + 0xD0

/-- The operation field of an error record of a row (R338). -/
def rowOperation (pattern kind : Nat) : Nat := 0x1000 + pattern % 256 * 16 + kind % 16

/-- The active pattern's number, 0 where none runs. -/
def activeNumber (s : State) : Nat := s.pat.active.getD 0

/-- Changes a die's sequencer. -/
def modSeq (s : State) (d : Nat) (f : Sequencer → Sequencer) : State := { s with pat := { s.pat with seqs := tmod s.pat.seqs d f } }

/-- Row `i` of die `d`'s list has completed. -/
def rowDone (s : State) (d i : Nat) : State := modSeq s d fun q => { q with done := setBit q.done i true }

/-- The flight of a row. -/
def flightOf (s : State) (d i : Nat) : Option Flight := s.pat.flights.find? fun f => f.die = d ∧ f.row = i

/-- Changes a flight. -/
def modFlight (s : State) (d i : Nat) (g : Flight → Flight) : State :=
  { s with pat := { s.pat with flights := s.pat.flights.map fun f => if f.die = d ∧ f.row = i then g f else f } }

/-- The engine classes a row holds: bit 0 reduction units, 1 MAC arrays, 2 slice cores (R76, R80, R125). -/
def engineClasses (ws : List Nat) : Nat := match rowKind ws with
  | 0x2 => if rowOp ws = 5 then 5 else 1
  | 0x3 => 2
  | 0x4 => 4
  | 0x5 => 5
  | 0x6 => 1
  | 0x8 => 1
  | _ => 0

/-- R80: whether a row's engines and links are free. -/
def enginesFree (s : State) (d : Nat) (ws : List Nat) : Bool :=
  s.pat.flights.all fun f =>
    f.die != d || ((engineClasses f.words &&& engineClasses ws == 0 || rowTiles f.words &&& rowTiles ws == 0) &&
      rowLinks f.words &&& rowLinks ws == 0)

/-- The FENCE rows of a die that wait (R84). -/
def waitingFences (s : State) (d : Nat) : List FenceRow := (tget s.pat.seqs d).fences.filter FenceRow.waits

/-- Rows of a die in flight; a FENCE row that waits is one (R80). -/
def inFlight (s : State) (d : Nat) : Nat := (s.pat.flights.filter fun f => f.die = d).length + (waitingFences s d).length

/-- The staging area's base (R88), from the lead die. -/
def stageBase (s : State) : Nat :=
  s.rd (R.PAT_DESC_STAGE_LO.addr (leadDie s)) + 2 ^ 32 * s.rd (R.PAT_DESC_STAGE_HI.addr (leadDie s))

/-- The FENCE rows of a die's list, with their indexes. -/
def fenceRows (p : Sys2Proof.Pattern) (d : Nat) : List (List Nat × Nat) := (rowsOf p d).zipIdx.filter fun r => rowKind r.1 = 9

/-- The FENCE row of the other die that pairs with the one at index `i` of die `d`'s list: the one of the same place among the FENCE rows of
its list (DEDUCED, log 73). -/
def fencePartner (p : Sys2Proof.Pattern) (d i : Nat) : Option (List Nat × Nat) :=
  (fenceRows p (1 - d))[((fenceRows p d).filter fun r => r.2 < i).length]?

/-- R84: a FENCE row that waits holds the rows after it where drain is set on it and on the other die's. -/
def fenceHolds (s : State) (p : Sys2Proof.Pattern) (d : Nat) : Bool :=
  (waitingFences s d).any fun f =>
    (((rowsOf p d).getD f.row []).getD 0 0).testBit 10 && (match fencePartner p d f.row with
      | some r => (r.1.getD 0 0).testBit 10
      | none => false)

/-- R79, R89: whether the conditions of the next row hold. -/
def rowReady (s : State) (p : Sys2Proof.Pattern) (d i : Nat) (ws : List Nat) : Bool :=
  let q := tget s.pat.seqs d
  let before (k : Nat) : Bool := k == 0xFFF || q.done.testBit k
  let w0 := ws.getD 0 0
  (! w0.testBit 8 || decide (rowField ws 1 15 0 ≤ (s.cadOf d).angle) || (s.cadOf d).stalled) &&
  (! w0.testBit 9 || (match markIndex p.marks (rowField ws 1 23 16) with
    | some k => s.cad.effective.testBit k
    | none => false)) &&
  before (rowField ws 2 11 0) && before (rowField ws 2 23 12) &&
  (! (w0.testBit 10 || rowKind ws == 0xB) || (List.range i).all q.done.testBit) &&
  decide (inFlight s d < 16) && enginesFree s d ws && ! fenceHolds s p d &&
  (! (s.pat.takeUpAt.isSome && stageBase s != 0) || rowKind ws < 2 || 6 < rowKind ws)

/-- R102: a malformed row stops its list. -/
def stopRow (s : State) (d i reason : Nat) (ws : List Nat) : State :=
  let n := activeNumber s
  let s := patErrorOn d n reason i (s.wr (R.PAT_STATUS.state d) 2)
  let s := s.bump (R.PAT_MALFORMED_COUNT.c d)
  let s := s.err (seqUnitOf d) (rowOperation n (rowKind ws)) 0x08 2
    (atByte 0 1 + atByte 1 reason + atByte 2 i + atByte 4 n + atByte 5 (rowKind ws))
  if reason ≠ 2 then s
  else ((s.bump R.ERR_UE_COUNT.c).wr R.ERR_STATUS.ue 1).err (seqUnitOf d) (rowOperation n (rowKind ws)) 0x03 4
    (atByte 0 (16 * i) + atByte 4 2 + atByte 5 1 + atByte 6 0xFFFF)

/-- The row's lowest tile as a unit. -/
def rowTileUnit (d : Nat) (ws : List Nat) : Nat := 0x1000 * (d + 1) + (members (rowTiles ws) 64).headD 0

/-- R87, R509: a row access refused by a region guard is recorded. An access is what a row reads or writes through one descriptor at one
place, this hub's pools or one slot; its first refused address is recorded (DESIGN CHOICE, log 67). -/
def guardRefusal (s : State) (fl : Flight) (addr : Nat) : State :=
  let n := activeNumber s
  let k := rowKind fl.words
  let s := s.err (rowTileUnit fl.die fl.words) (rowOperation n k) 0x08 2
    (atByte 0 6 + atByte 2 fl.row + atByte 4 n + atByte 5 k + atByte 8 (s.img.tray.hub * 2 ^ 46 + addr))
  let d := fl.die
  (((s.wr (R.COL_LAST_ERROR.valid d) 1).wr (R.COL_LAST_ERROR.cause d) 4).wr (R.COL_LAST_ERROR.pattern d) n).wr
    (R.COL_LAST_ERROR.row d) fl.row

/-- R87: the first address of `len` bytes from `off` at which partition `owner`'s permissions do not allow `perm`. -/
def refusedAt (s : State) (owner off len perm : Nat) : Option Nat :=
  if len = 0 then none
  else ((List.range ((off + len - 1) / 65536 + 1 - off / 65536)).map fun k => max off ((off / 65536 + k) * 65536)).find? fun a =>
    ! partitionAllows s owner a perm

/-- The pool operands that a row reads (perm 0) or writes (perm 1) in full. -/
def poolOperands (s : State) (ws : List Nat) : List (Desc × Nat) :=
  let n (i hi lo : Nat) : Nat := rowField ws i hi lo
  let d (i hi lo : Nat) : Desc := descOf s (n i hi lo)
  let l : List (Desc × Nat) := match rowKind ws with
    | 0x2 =>
      if rowOp ws = 5 then
        ((faceStages (tget s.pat.routes (rowRoute ws))).flatMap fun g =>
          [(descOf s (n 5 11 0 + g.face), 0), (descOf s (n 5 23 12 + g.face), 1)]) ++
        (if n 7 1 0 = 0 then [] else [(d 7 13 2, 0)])
      else [(d 5 11 0, 0), (d 5 23 12, 1)]
    | 0x3 => match rowOp ws with
      | 2 => [(d 5 11 0, 0), (d 5 23 12, 0), (d 6 11 0, 1), (d 6 23 12, 0), (d 6 23 12, 1)]
      | 1 => [(d 5 11 0, 0), (d 5 23 12, 0), (d 6 11 0, 0), (d 6 11 0, 1)]
      | _ => [(d 5 11 0, 0), (d 5 23 12, 0), (d 6 11 0, 1)]
    | 0x4 =>
      let q := s.img.slices.getD (n 4 11 0) default
      q.ops.filterMap fun o =>
        let x := match bits o 31 28 with
          | 0 => d 5 11 0
          | 1 => d 5 23 12
          | 2 => d 6 11 0
          | 3 => d 6 23 12
          | _ => d 7 11 0
        if o % 256 = 1 then some (x, 0) else if o % 256 = 2 then some (x, 1) else none
    | 0x5 => [(d 5 11 0, 0), (d 5 23 12, 1), (d 6 11 0, 0), (d 6 11 0, 1), (d 6 23 12, 0), (d 6 23 12, 1), (d 7 23 12, 0)]
    | 0x6 => [(d 5 23 12, 1)]
    | _ => []
  l.filter fun x => x.1.mode == 0

/-- The accesses of a row to the pools that the guards refuse. -/
def poolRefusals (s : State) (ws : List Nat) : List Nat :=
  (poolOperands s ws).filterMap fun x => refusedAt s x.1.owner (x.1.base % 2 ^ 46) (extentBytes x.1) x.2

/-- Members and ports that a row cannot reach when it triggers: links not UP, slots fenced, and ports not open to planned traffic
(R83, R218, R220). -/
def lostLinks (s : State) : Nat :=
  ofMembers (((List.range 8).filter fun i => s.linkState i ≠ 3 ∨ ! s.accServed i) ++
    (((List.range 8).filter fun p => ! (s.portUp p && (tget s.lnk.links (8 + p)).planned && ! (p == 7 && s.hostPortMode))).map (8 + ·)))

/-- The tag of a row's planned packets (R119, R208). -/
def rowTag (s : State) (fl : Flight) (strand stage line : Nat) : RowTag :=
  let r := rowRoute fl.words
  let g := (strandStages (tget s.pat.routes r) strand).getD stage default
  { pattern := activeNumber s, die := fl.die, row := fl.row, strand := strand, stage := stage,
    step := (if g.kind = 5 ∧ rowKind fl.words ≠ 4 ∧ rowKind fl.words ≠ 3 ∧ (tget s.pat.routes r).hall then tget s.pat.hall r
             else s.cad.step) % 65536, line := line }

/-! ## Planned lines to other hubs -/

/-- R218, R220: whether Sotin port `p` carries planned traffic. -/
def portPlanned (s : State) (p : Nat) : Bool :=
  s.portUp p && (tget s.lnk.links (8 + p)).planned && ! (p == 7 && s.hostPortMode)

/-- The lines of a unit go out (R117, R118): striped over the ports of its mask, or whole on each for a fan-out. Those of a port that is lost
to the row are dropped (R83). -/
def sendUnit (s : State) (fl : Flight) (x : Sending) : State :=
  let route := tget s.pat.routes (rowRoute fl.words)
  let g := (strandStages route x.strand).getD x.parcel.stage default
  let ports := members x.parcel.send 8
  let hops := if x.parcel.back then g.prevHops else g.nextHops
  let path := if x.parcel.back then g.prevPath else g.nextPath
  x.lines.zipIdx.foldl (init := countConv s fl.die x.sats x.nans) fun s l =>
    (if x.parcel.copy then ports else (ports[l.2 % max 1 ports.length]?).toList).foldl (init := s) fun s p =>
      if fl.lost.testBit (8 + p) ∨ portPlanned s p = false then s
      else (s.plannedOut (8 + p) (lineBytes l.1)).send
        (.planned p (rowTag s fl x.strand x.parcel.stage (x.parcel.first + l.2)) hops path l.1)

/-- Sends what a row can now send to other hubs (R114, R118); each unit is sent once. -/
def sendOn (s : State) (d i : Nat) : State :=
  match flightOf s d i with
  | none => s
  | some fl =>
    let key (x : Sending) : Nat × Nat × Nat := (x.strand, x.parcel.stage, x.parcel.first)
    let due := (rowSends s fl).filter fun x =>
      x.parcel.send != 0 && ! fl.sent.contains (key x) && sendReady s fl x.strand x.parcel
    due.foldl (fun s x => sendUnit s fl x) (modFlight s d i fun f => { f with sent := f.sent ++ due.map key })

/-! ## Triggering -/

/-- R119, R121: the step, or hall count, that a tag must hold to belong to row `row` of die `d` now. -/
def tagCurrent (s : State) (t : RowTag) : Bool :=
  let ws : List Nat := match tfind s.pat.lib t.pattern with
    | some p => (rowsOf p t.die).getD t.row []
    | none => []
  let route := tget s.pat.routes (rowRoute ws)
  if route.hall ∧ ((strandStages route t.strand).getD t.stage default).kind = 5 then
    t.step == tget s.pat.hall (rowRoute ws) % 65536
  else t.step == s.cad.step % 65536 && s.pat.active == some t.pattern

/-- Whether a tag names the next step, or the next hall count. -/
def tagNext (s : State) (t : RowTag) : Bool :=
  let ws : List Nat := match tfind s.pat.lib t.pattern with
    | some p => (rowsOf p t.die).getD t.row []
    | none => []
  let route := tget s.pat.routes (rowRoute ws)
  if route.hall ∧ ((strandStages route t.strand).getD t.stage default).kind = 5 then
    t.step == (tget s.pat.hall (rowRoute ws) + 1) % 65536
  else t.step == (s.cad.step + 1) % 65536

/-- COL_STAGE_USED and COL_STAGE_PEAK of a die follow its staging (R20, R136). -/
def refreshStaging (s : State) (d : Nat) : State :=
  let mib := divUp ((s.pat.staging.filter fun x => x.tag.die = d).length * 256) (2 ^ 20)
  let s := s.wr (R.COL_STAGE_USED.mib d) mib
  if s.rd (R.COL_STAGE_PEAK.mib d) < mib then s.wr (R.COL_STAGE_PEAK.mib d) mib else s

/-- R121: a late or unknown flit is discarded: counted, shown and recorded once a row and step. -/
def lateDrop (s : State) (t : RowTag) : State :=
  let d := t.die % 2
  let s := (s.bump (R.COL_LATE_DROP.c d)).wr (R.COL_STATUS.late_drop d) 1
  let s := (((s.wr (R.COL_LAST_ERROR.valid d) 1).wr (R.COL_LAST_ERROR.cause d) 1).wr (R.COL_LAST_ERROR.pattern d) t.pattern).wr
    (R.COL_LAST_ERROR.row d) t.row
  let key := (8192 * t.pattern + 4096 * t.die + t.row, t.step)
  if s.pat.lateRecorded.contains key then s
  else
    let ws : List Nat := match tfind s.pat.lib t.pattern with
      | some p => (rowsOf p t.die).getD t.row []
      | none => []
    { s with pat := { s.pat with lateRecorded := key :: s.pat.lateRecorded } }.err (seqUnitOf d)
      (rowOperation t.pattern (rowKind ws)) 0x09 2 0

/-- Staged lines whose step has passed are discarded (R121). -/
def purgeStaging (s : State) : State :=
  let live (x : Staged) : Bool := tagCurrent s x.tag || tagNext s x.tag
  let stale := s.pat.staging.filter fun x => ! live x
  if stale.isEmpty then s
  else
    let s := { s with pat := { s.pat with staging := s.pat.staging.filter live } }
    refreshStaging (refreshStaging (stale.foldl (fun s x => lateDrop s x.tag) s) 0) 1

/-- The planned reads of a row that has triggered (R209), with the lines that the guards refuse taken as missing (R87). -/
def startReads (s : State) (d i : Nat) : State :=
  match flightOf s d i with
  | none => s
  | some fl =>
    let need := (neededSlots s fl).filter fun p => ! fl.lost.testBit p.1
    let at_ (x : Desc) (k : Nat) : Nat := x.base / 256 * 256 + 256 * k
    let addr (p : Nat × Nat × Desc × List Nat) (k : Nat) : Nat := p.1 * 0x040000000000 + at_ p.2.2.1 k
    let refused (p : Nat × Nat × Desc × List Nat) : List Nat :=
      p.2.2.2.filter fun k => ! partitionAllows s p.2.2.1.owner (addr p k) 0
    let s := modFlight s d i fun f =>
      { f with lines := f.lines ++ need.flatMap fun p => (refused p).map fun k => (p.1, lineKey p.2.1 k, none) }
    let s := ((need.filterMap fun p => ((refused p).head?).map (addr p)) ++ poolRefusals s fl.words).foldl (fun s a => guardRefusal s fl a) s
    need.foldl (init := s) fun s p =>
      (p.2.2.2.filter fun k => ! (refused p).contains k).foldl (init := s) fun s k =>
        s.send (.pread p.1 (rowTag s fl 0 p.2.1 k) (at_ p.2.2.1 k))

/-- A row's limit in ns (R82), 0 for none. -/
def limitOf (s : State) (ws : List Nat) : Nat :=
  let limit := rowField ws 3 15 0
  if limit = 0 then 0 else max 1 (limit * s.cad.est * 16 / 4096)

/-- A row goes into flight (R78, R80): this hub's contributions and a FUSED row's parameter block are read once (R113, R129). -/
def newFlight (s : State) (d i : Nat) (ws : List Nat) (take : List Staged) : State :=
  let reads := poolReads s ws
  let params := descOf s (rowField ws 7 23 12)
  let fl : Flight :=
    { die := d, row := i, words := ws, trigAt := s.gt.time, limit := limitOf s ws, lost := lostLinks s,
      pool := reads.foldl (fun t n => tput t n (readOperand s (descOf s n))) [],
      params := if rowKind ws = 5 then (List.range 256).map (poolOperandByte s params) else [],
      remote := take.map fun x => (x.tag.strand, x.tag.stage, x.tag.line, x.data) }
  let count (s : State) (x : Desc) (n : Nat) : State := countAccess s x.owner (x.base % 2 ^ 46) n false
  let s := reads.foldl (fun s n => count s (descOf s n) (extentBytes (descOf s n))) s
  let s := if rowKind ws = 5 then count s params 256 else s
  let s := if usesBridge fl then settleBuckets s else s
  { s with pat := { s.pat with flights := s.pat.flights ++ [fl] } }

/-! ## Planned lines that wait -/

/-- The row that a tag names. -/
def tagRow (s : State) (t : RowTag) : List Nat := match tfind s.pat.lib t.pattern with
  | some p => (rowsOf p t.die).getD t.row []
  | none => []

/-- R20, R33: the lines that a die's staging area holds: 2 GiB for each of its stacks whose domain is on (DEDUCED, log 71: the shares are
equal). -/
def stagingLines (s : State) (d : Nat) : Nat := ([22, 23, 24].filter fun n => s.domainOn d n).length * (2048 * 4096)

/-- R20, R121: a line is held in staging; none where its route's allowance or the staging area has no room. -/
def stageLine (s : State) (t : RowTag) (data : Option (List Nat)) : Option State :=
  let d := t.die % 2
  let route := rowRoute (tagRow s t)
  let held := (s.pat.staging.filter fun x => rowRoute (tagRow s x.tag) = route).length
  let all := (s.pat.staging.filter fun x => x.tag.die = t.die).length
  if (tget s.pat.routes route).staging * 4096 ≤ held ∨ stagingLines s d ≤ all then none
  else
    let x : Staged := { tag := t, data := data }
    let s : State := { s with pat := { s.pat with staging := s.pat.staging ++ [x] } }
    some (refreshStaging (s.bump (R.COL_EARLY_COUNT.c d)) d)

/-- Whether a tag names a row not yet triggered, in this step or the next (R121). -/
def tagEarly (s : State) (t : RowTag) : Bool :=
  tagNext s t || (tagCurrent s t && decide ((tget s.pat.seqs t.die).next ≤ t.row) && s.pat.forced.isNone)

/-- R121: a line that has arrived for its row is taken, staged or discarded; none where it has to wait for room. -/
def landLine (s : State) (t : RowTag) (data : Option (List Nat)) : Option State :=
  match flightOf s t.die t.row with
  | some fl =>
    if tagCurrent s t = true ∧ fl.written = false then
      if fl.remote.any (fun l => l.1 == t.strand && l.2.1 == t.stage && l.2.2.1 == t.line) then some s
      else some (sendOn (modFlight s t.die t.row fun f =>
        { f with remote := f.remote ++ [(t.strand, t.stage, t.line, data)] }) t.die t.row)
    else if tagNext s t then stageLine s t data
    else some (lateDrop s t)
  | none => if tagEarly s t then stageLine s t data else some (lateDrop s t)

/-- COL_STATUS.stage_full: a port withholds credit because staging is full (R121, R136). -/
def showFull (s : State) : State :=
  s.onDies fun d s => s.wr (R.COL_STATUS.stage_full d) (b2n (s.pat.blocked.any fun b => b.2.tag.die % 2 == d && portPlanned s b.1))

/-- R121, R218: a line on a Sotin port lands once the port carries planned traffic and there is room; until then the port keeps it in its
receive buffer, and with it those that come after it there, and withholds credit. -/
def arriveLine (s : State) (port : Nat) (x : Staged) : State :=
  let wait : State := { s with pat := { s.pat with blocked := s.pat.blocked ++ [(port, x)] } }
  if portPlanned s port = false ∨ (s.pat.blocked.any fun b => b.1 == port) = true then wait
  else (landLine s x.tag x.data).getD wait

/-- The lines that wait in the ports' receive buffers are tried again, in order, and credit withheld is returned. -/
def drainBlocked (s : State) : State :=
  if s.pat.blocked.isEmpty then s
  else
    let waiting := s.pat.blocked.filter fun b => s.portUp b.1
    let s := waiting.foldl (fun s b => arriveLine s b.1 b.2) { s with pat := { s.pat with blocked := [] } }
    (List.range 8).foldl (fun s p => pump s (8 + p)) (showFull s)

/-- A row triggers and takes its staged lines (R121); what it needs from accelerators is read, and what it can send is sent. -/
def takeOff (s : State) (d i : Nat) (ws : List Nat) : State :=
  let mine (x : Staged) : Bool := x.tag.die == d && x.tag.row == i && tagCurrent s x.tag
  let take := s.pat.staging.filter mine
  let s := newFlight s d i ws take
  let s := { s with pat := { s.pat with staging := s.pat.staging.filter fun x => ! mine x } }
  let s := if take.isEmpty then s else refreshStaging s d
  drainBlocked (sendOn (startReads s d i) d i)

/-- R84, R85: a FENCE row triggers, or both dies stop where the other die's has another number. -/
def triggerFence (s : State) (p : Sys2Proof.Pattern) (d i : Nat) (ws : List Nat) : State :=
  let n := rowField ws 4 15 0
  let go : State := modSeq s d fun q => { q with next := i + 1, fences := q.fences ++ [{ row := i, number := n, at_ := s.gt.time }] }
  match fencePartner p d i with
  | some (w, j) =>
    if rowField w 4 15 0 = n then go
    else
      let off (f : FenceRow) : FenceRow := if f.row = j then { f with waits := false } else f
      stopRow (modSeq (stopRow s d i 8 ws) (1 - d) fun q => { q with fences := q.fences.map off }) (1 - d) j 8 w
  | none => go

/-- Whether a row completes at its trigger without work: no member (R101, R108), a step that a DIGEST row or a basis update does not take
(R135, R161), or a kind with none (R78). A GAUGE row runs over its active copy, joined or not (R92). -/
def completesAtTrigger (s : State) (d : Nat) (ws : List Nat) : Bool := match rowKind ws with
  | 0x2 => noMembers s (setOf s (rowField ws 4 11 6)) (rowLevel ws)
  | 0x3 => rowOp ws == 4 && s.cad.step % max 1 (s.rd (R.ARR_LOWRANK_CFG.interval d)) != 0
  | 0x4 => false
  | 0x5 => noMembers s (setOf s (rowField ws 4 11 6)) (rowLevel ws)
  | 0x6 => s.cad.step % (rowField ws 4 11 6 + 1) != rowField ws 4 17 12 || noMembers s (setOf s (rowField ws 4 5 0)) 1
  | 0x8 => (setOf s (rowField ws 4 5 0)).active == 0
  | _ => true

/-- R119: a row whose route has a hall stage has completed here, on every die that runs it: the route's hall count advances. -/
def advanceHall (s : State) (d i : Nat) (ws : List Nat) : State :=
  let r := rowRoute ws
  let k := rowKind ws
  if (k = 2 ∨ k = 5 ∨ k = 6 ∨ k = 8) ∧ (tget s.pat.routes r).hall = true ∧ twinDone s d i ws = true then
    { s with pat := { s.pat with hall := tput s.pat.hall r ((tget s.pat.hall r + 1) % 65536) } }
  else s

/-- A row triggers (R78, R79). -/
def triggerRow (s : State) (p : Sys2Proof.Pattern) (d i : Nat) (ws : List Nat) : State :=
  if rowKind ws = 9 then triggerFence s p d i ws
  else
    let s := modSeq s d fun q => { q with next := i + 1 }
    if completesAtTrigger s d ws then
      let s := advanceHall (rowDone s d i) d i ws
      match rowKind ws with
      | 0x7 => powerRow s (rowField ws 4 3 0) (rowField ws 4 15 4) (rowField ws 4 31 16) (rowField ws 5 15 0) (rowField ws 5 31 16)
      | 0xA => refreshShares { s with mem := { s.mem with shares := tput s.mem.shares d (rowField ws 4 7 0, rowField ws 4 15 8) } } d
      | 0xB => lookStepEnd (modSeq s d fun q => { q with ended := true })
      | _ => s
    else
      let s := if rowKind ws = 8 then gaugeTrigger s (rowField ws 4 5 0) else s
      takeOff s d i ws

/-- ROW_TRIGGER: die `d`'s sequencer looks at its next row (R79, R101, R102). The fields are checked as soon as the row is next, its
descriptors and sets when its conditions hold (log 53). -/
def rowTrigger (d fault : Nat) (s : State) : State :=
  match s.activePattern with
  | none => s
  | some p =>
    let q := tget s.pat.seqs d
    if ¬ s.dieUp d ∨ s.rd (R.PAT_STATUS.state d) ≠ 1 ∨ usesDie p d = false ∨ q.ended = true ∨ s.pat.forced.isSome ∨ s.cad.markStamp.isSome
        ∨ s.gt.time < q.startAt then s
    else
      let s := drainBlocked (purgeStaging s)
      let i := q.next
      match (rowsOf p d)[i]? with
      | none => s
      | some ws =>
        match malformedReason s p ws i s.img.profiles.length (fault == 1) with
        | some r =>
          if r = 7 ∧ rowReady s p d i ws = false then s else stopRow s d i r ws
        | none =>
          if rowReady s p d i ws = false then s
          else if fault = 2 then sramUncorrectable s (rowOperation (activeNumber s) (rowKind ws)) d 0 i 1
          else if 256 ≤ fault then 
            triggerRow (wordCorrected s (rowOperation (activeNumber s) (rowKind ws)) d i (if fault < 512 then 2 else 1) (fault % 256)) p d i ws
          else triggerRow s p d i ws

/-! ## Completion -/

/-- R196: the pool operands that an ARRAY row reads are counted. -/
def countReads (s : State) (ws : List Nat) : State :=
  ((poolOperands s ws).filter fun x => x.2 = 0).foldl (init := s) fun s x =>
    countAccess s x.1.owner (x.1.base % 2 ^ 46) (extentBytes x.1) false

/-- A row completes: it leaves flight, and its route's hall count advances (R119). -/
def completeRow (s : State) (fl : Flight) : State :=
  let s := if usesBridge fl then settleBuckets s else s
  let s := { s with pat := { s.pat with flights := s.pat.flights.filter fun f => ! (f.die == fl.die && f.row == fl.row) } }
  advanceHall (rowDone s fl.die fl.row) fl.die fl.row fl.words

/-- The stage of a halo row's delivery: the one whose face goes to descriptor `d` (R123). -/
def deliveryStage (s : State) (fl : Flight) (d : Desc) : Nat :=
  if rowKind fl.words = 2 ∧ rowOp fl.words = 5 then
    ((tget s.pat.routes (rowRoute fl.words)).stages0.findIdx? fun g => descOf s (rowField fl.words 5 23 12 + g.face) = d).getD 0
  else 0

/-- The lines of a delivery to a slot: the line key, the offset in its window and the data. -/
def deliveryLines (s : State) (fl : Flight) (x : Delivery) : List (Nat × Nat × Option (List Nat)) :=
  let off := x.desc.base + x.off
  let st := deliveryStage s fl x.desc
  (linesOf off x.bytes.length).filterMap fun line =>
    let p := linePart off line x.bytes
    if ! partitionAllows s x.desc.owner (x.slot * 0x040000000000 + p.1) 1 then none
    else some (lineKey st (line - x.desc.base / 256), p.1,
      if p.2.any Option.isNone then none else some (p.2.map fun b => b.getD 0))

/-- The first address of a delivery to a slot's window that the guards refuse (R87). -/
def deliveryRefused (s : State) (x : Delivery) : Option Nat :=
  if x.slot = 8 then none
  else
    let at_ (line : Nat) : Nat := x.slot * 0x040000000000 + (linePart (x.desc.base + x.off) line x.bytes).1
    ((linesOf (x.desc.base + x.off) x.bytes.length).map at_).find? fun a => ! partitionAllows s x.desc.owner a 1

/-- The refused writes of a row to slots' windows are recorded, one for each slot (R87). -/
def recordRefused (s : State) (fl : Flight) (out : List Delivery) : State :=
  (List.range 8).foldl (init := s) fun s i =>
    match (out.filter fun x => x.slot = i).findSome? (deliveryRefused s) with
    | some a => guardRefusal s fl a
    | none => s

/-- What a row formed is delivered: pool lines are written, and lines to slots are sent and wait for their acknowledgement. A line that
several results share is sent once for each (log 40). -/
def deliver (s : State) (fl : Flight) (out : List Delivery) : State :=
  let s := recordRefused s fl out
  let s := rowWrites s ((out.filter fun x => x.slot = 8).map fun x =>
    { owner := x.desc.owner, off := x.desc.base % 2 ^ 46 + x.off, bytes := x.bytes })
  (out.filter fun x => x.slot ≠ 8).foldl (init := s) fun s x =>
    let l := deliveryLines s fl x
    let s := modFlight s fl.die fl.row fun f => { f with unacked := f.unacked ++ l.map fun y => (x.slot, y.1, y.2.1) }
    l.foldl (init := s) fun s y =>
      (s.plannedOut x.slot (lineBytes y.2.2)).send (.pdata x.slot (rowTag s fl 0 (y.1 / 2 ^ 32) (y.1 % 2 ^ 32)) y.2.1 y.2.2)

/-- R109: elements written as POISON are counted and shown. -/
def countPoison (s : State) (fl : Flight) (n : Nat) : State :=
  let d := fl.die
  if n = 0 then s
  else
    let s := (s.bumpN (R.COL_POISON_OUT.c d) n).wr (R.COL_STATUS.poison_out d) 1
    (((s.wr (R.COL_LAST_ERROR.valid d) 1).wr (R.COL_LAST_ERROR.cause d) 2).wr (R.COL_LAST_ERROR.pattern d) (activeNumber s)).wr
      (R.COL_LAST_ERROR.row d) fl.row

/-- What a collective or fused row formed: delivered and counted. -/
def deliverFormed (s : State) (fl : Flight) (r : Formed) : State :=
  let s := modFlight s fl.die fl.row fun f => { f with written := true }
  let s := deliver s fl r.out
  let s := countPoison (countConv s fl.die r.sats r.nans) fl r.poison
  s.addWide (R.COL_ADDS_LO.count fl.die) r.adds

/-- Whether a row has nothing left to do: every line sent to a member has been acknowledged or goes to one behind a lost link (R83), and
every line for another hub has left (R121). -/
def allDone (s : State) (fl : Flight) : Bool :=
  (fl.unacked.all fun u => fl.lost.testBit u.1) && ! lineWaits s fl.die fl.row

/-- A row that has been formed completes once it has nothing left to do; `finish` completes it. -/
def completeIfDone (s : State) (die row : Nat) (finish : State → Flight → State) : State := match flightOf s die row with
  | some fl => if fl.written && allDone s fl then finish s fl else s
  | none => s

/-- The tile that owns an element of a row (R107), as 64 times its die plus its number there: the tiles of both dies' rows take the lines of
the results in order. -/
def elementTile (s : State) (fl : Flight) (element : Nat) : Nat :=
  let ws := fl.words
  let n := (descOf s (srcNumber ws)).count
  let per := match fmtOf (rowResult ws) with
    | some f => perLine f
    | none => 64
  runOwner (rowOwners s fl.die fl.row ws) (divUp n per) (element / per)

/-- R325: each failed element of a reduction is counted and recorded with its tile. -/
def residues (s : State) (fl : Flight) (l : List Nat) : State :=
  l.foldl (init := s) fun s e =>
    let t := elementTile s fl e
    residueFailure s (rowOperation (activeNumber s) (rowKind fl.words)) (t / 64) (t % 64) 0 (t % 64) e

/-- COLLECTIVE_COMPLETE: the results are formed once the inputs have arrived; the row completes once they are acknowledged (R78, R108). -/
def collectiveComplete (die row : Nat) (residue : List Nat) (s : State) : State :=
  match flightOf s die row with
  | none => s
  | some fl =>
    if rowKind fl.words ≠ 2 then s
    else if fl.written then completeIfDone s die row completeRow
    else if ! inputsArrived s fl then s
    else
      let res := if rowOp fl.words < 2 then residue else []
      let fl := { fl with residue := res }
      let s := residues (modFlight s die row fun _ => fl) fl res
      completeIfDone (deliverFormed (sendOn s die row) fl (formCollective s fl)) die row completeRow

/-- ARR_LAST_ERROR. -/
def arrError (s : State) (fl : Flight) (cause tile : Nat) : State :=
  let d := fl.die
  let s := (s.bump (R.ARR_CHECK_FAIL.c d)).wr (R.ARR_STATUS.check_fail d) 1
  ((((s.wr (R.ARR_LAST_ERROR.valid d) 1).wr (R.ARR_LAST_ERROR.cause d) cause).wr (R.ARR_LAST_ERROR.tile d) tile).wr
    (R.ARR_LAST_ERROR.pattern d) (activeNumber s)).wr (R.ARR_LAST_ERROR.row d) fl.row

/-- The number of output blocks of an ARRAY row, for op 2 of its runs of 32 rows (R155). -/
def arrayBlocks (s : State) (ws : List Nat) : Nat :=
  let a := descOf s (rowField ws 5 11 0)
  let c := descOf s (rowField ws 6 11 0)
  if rowOp ws = 2 then (a.rows + 31) / 32 else ((c.rows + 31) / 32) * ((c.cols + 31) / 32)

/-- R157, R158: a block's check failed: counted, shown, recorded with its tile, and judged as a fault of the tile. -/
def blockFailure (s : State) (fl : Flight) (residue : Bool) (b : Nat) : State :=
  let t := runOwner (members (rowTiles fl.words) 64) (arrayBlocks s fl.words) b
  let s := arrError s fl (if residue then 3 else 1) t
  if residue then residueFailure s (rowOperation (activeNumber s) 3) fl.die t 3 t b
  else
    let s := s.err (0x1000 * (fl.die + 1) + t) (rowOperation (activeNumber s) 3) 0x06 4 0
    unitFault s (64 * fl.die + t) 0x06 true

/-- R166: the block in which an armed injection is made, where this row is the next to match. -/
def injectedBlock (s : State) (fl : Flight) : Option Nat :=
  if ¬ s.on (R.ARR_INJECT.arm fl.die) ∨ rowField fl.words 4 24 24 ≠ 1 ∨ rowOp fl.words = 4 then none
  else
    let tiles := members (rowTiles fl.words) 64
    let n := arrayBlocks s fl.words
    (List.range n).find? fun b => runOwner tiles n b = s.rd (R.ARR_INJECT.tile fl.die)

/-- R160 to R162: what a basis update shows. -/
def showBasis (s : State) (fl : Flight) (r : ArrayDone) : State :=
  let d := fl.die
  match r.basis with
  | none => s
  | some (j, kept) =>
    let s := ((s.wr (R.ARR_BASIS_STATUS.step d) s.cad.step).wr (R.ARR_BASIS_STATUS.kept d) (b2n kept)).wr (R.ARR_BASIS_STATUS.row d) j
    let s := if kept ∧ r.noVote = false then (s.bump (R.ARR_BASIS_KEPT.c d)).wr (R.ARR_STATUS.basis_kept d) 1 else s
    if r.noVote then arrError s fl 2 ((members (rowTiles fl.words) 64).headD 0) else s

/-- ARRAY_COMPLETE: C, and R if named, are written (R78, R153 to R162). -/
def arrayComplete (die row : Nat) (bad residue : List Nat) (s : State) : State :=
  match flightOf s die row with
  | none => s
  | some fl =>
    if rowKind fl.words ≠ 3 then s
    else
      let checks := rowField fl.words 4 24 24 = 1
      let inj := injectedBlock s fl
      let bad := if checks then inj.toList ++ bad.filter fun b => some b ≠ inj else []
      let residue := if checks ∧ rowOp fl.words ≠ 4 then residue else []
      let s := if inj.isSome then s.wr (R.ARR_INJECT.arm die) 0 else s
      let r := computeArray s fl (bad ++ residue)
      let s := deliver (countReads s fl.words) fl r.formed.out
      let s := (countConv s die r.formed.sats r.formed.nans).addWide (R.ARR_MACS_LO.count die) r.macs
      let s := if rowOp fl.words = 4 then s else bad.foldl (fun s b => blockFailure s fl false b) s
      let s := residue.foldl (fun s b => blockFailure s fl true b) s
      completeRow (showBasis s fl r) fl

/-- The core that runs line `line` of a SLICE row (R182). -/
def sliceCoreOf (s : State) (fl : Flight) (line : Nat) : Nat × Nat :=
  let n := operandLines (descOf s (rowField fl.words 5 11 0))
  let tiles := members (rowTiles fl.words) 64
  let t := runOwner tiles n line
  let first := ((List.range n).find? fun k => runOwner tiles n k = t).getD 0
  (t, 32 * t + (line - first) % 32)

/-- SLICE_COMPLETE: every core has ended its sequence (R78, R183, R326). -/
def sliceComplete (die row : Nat) (bad : List Nat) (s : State) : State :=
  match flightOf s die row with
  | none => s
  | some fl =>
    if rowKind fl.words ≠ 4 then s
    else
      let r := computeSlice s fl bad
      let s := countConv r.1 die r.2.1 r.2.2
      let s := bad.foldl (init := s) fun s k =>
        let c := sliceCoreOf s fl k
        residueFailure s (rowOperation (activeNumber s) 4) die c.1 2 c.2 k
      completeRow s fl

/-- R132: the held lines of a FUSED row are counted, shown and recorded once. -/
def countHeld (s : State) (fl : Flight) (n : Nat) : State :=
  let d := fl.die
  if n = 0 then s
  else
    let s := (s.bumpN (R.COL_FUSED_HELD.c d) n).wr (R.COL_STATUS.fused_held d) 1
    let s := (((s.wr (R.COL_LAST_ERROR.valid d) 1).wr (R.COL_LAST_ERROR.cause d) 3).wr (R.COL_LAST_ERROR.pattern d) (activeNumber s)).wr
      (R.COL_LAST_ERROR.row d) fl.row
    s.err (seqUnitOf d) (rowOperation (activeNumber s) 5) 0x09 2 0

/-- R126 phases 1 to 4: the gradient is reduced and the master lines of this hub's shard are updated. -/
def fusedUpdate (s : State) (fl : Flight) (residue : List Nat) : State :=
  let s := residues s fl residue
  let r := computeFused s fl residue
  let s := modFlight r.state fl.die fl.row fun f => { f with shard := some r.placed }
  let s := countHeld (countConv s fl.die r.sats r.nans) fl r.held
  sendOn (s.addWide (R.COL_ADDS_LO.count fl.die) r.adds) fl.die fl.row

/-- R129, R188: after the row completes, on every die that runs it, the hub's own t is one more; no guard checks this write. -/
def bumpT (s : State) (fl : Flight) : State :=
  let off := (descOf s (rowField fl.words 7 23 12)).base % 2 ^ 46
  if twinDone s fl.die fl.row fl.words = false then s
  else match readBits (fun k => poolByte s (off + k)) 0 32 with
    | some t => writeSpan s off ((bytesOf 4 ((t + 1) % 2 ^ 32)).map some)
    | none => s

/-- A FUSED row completes. -/
def completeFused (s : State) (fl : Flight) : State := bumpT (completeRow s fl) fl

/-- FUSED_COMPLETE: the master lines are updated once the reduction's inputs have arrived, the weights are formed once every input has,
and the row completes once they are acknowledged (R78, R126 to R133). -/
def fusedComplete (die row : Nat) (residue : List Nat) (s : State) : State :=
  match flightOf s die row with
  | none => s
  | some fl =>
    if rowKind fl.words ≠ 5 then s
    else if fl.written then completeIfDone s die row completeFused
    else
      let s := if fl.shard.isNone ∧ reductionArrived s fl = true then fusedUpdate s fl residue else s
      match flightOf s die row with
      | none => s
      | some fl =>
        if fl.shard.isNone ∨ inputsArrived s fl = false then s
        else completeIfDone (deliverFormed s fl (formFused s fl (fl.shard.getD []))) die row completeFused

/-- R134, R135: the digest table that a hub holds, in rank order; a digest that did not arrive is all-ones. -/
def digestTable (s : State) (fl : Flight) : List Nat :=
  let all := allMoves s fl
  (List.range (setRanks (setOf s (rowField fl.words 4 5 0))).length).map fun j =>
    let l := (List.range 16).map fun i => (codedAt all (16 * j + i)).code
    if l.any Option.isNone then missingDigest else ofBytes (l.map fun b => b.getD 0)

/-- The vote of a DIGEST row is written and acted on (R135, R345 to R348), once on the hub where both dies run the row (log 73). -/
def formDigest (s : State) (fl : Flight) : State :=
  let ws := fl.words
  if (moveSpan s fl).2 = 0 then s
  else
    let res := descOf s (rowField ws 5 23 12)
    let table := digestTable s fl
    let v := takeVote table res.rows res.cols
    let off := res.base % 2 ^ 46
    let s := rowWrites s [{ owner := res.owner, off := off + 64, bytes := (table.flatMap (bytesOf 16)).map some },
      { owner := res.owner, off := off, bytes := (voteBytes v s.cad.step res.rows res.cols).map some }]
    let ranks := setRanks (setOf s (rowField ws 4 5 0))
    actVote s v res.rows res.cols s.cad.step fun i =>
      let r := ranks.getD i 0
      if r / 8 = s.img.tray.index ∧ i < ranks.length then some (r % 8) else none

/-- DIGEST_COMPLETE (R78, R135). -/
def digestComplete (die row : Nat) (s : State) : State :=
  match flightOf s die row with
  | none => s
  | some fl =>
    if rowKind fl.words ≠ 6 ∨ inputsArrived s fl = false then s
    else if fl.written then completeIfDone s die row completeRow
    else completeIfDone (formDigest (modFlight (sendOn s die row) die row fun f => { f with written := true }) fl) die row completeRow

/-- GAUGE_RESULT: the group result has been received and the GAUGE row completes (R78, R263). -/
def gaugeResult (die row : Nat) (others : List Nat) (s : State) : State :=
  match flightOf s die row with
  | none => s
  | some fl => if rowKind fl.words ≠ 8 then s else completeRow (takeGaugeResult s (rowField fl.words 4 5 0) others) fl

/-- The FENCE rows of die `d` that wait and may complete: the other die's of the same number has triggered, and 64 ns have passed since the
later of the two (R84). -/
def fencesMet (s : State) (p : Sys2Proof.Pattern) (d : Nat) : List FenceRow :=
  (waitingFences s d).filter fun f => match fencePartner p d f.row with
    | some (_, j) => (tget s.pat.seqs (1 - d)).fences.any fun g =>
        g.row == j && g.number == f.number && decide (max f.at_ g.at_ + 64 ≤ s.gt.time)
    | none => false

/-- A FENCE row of die `d` completes (R84, R104). -/
def fenceDone (s : State) (d : Nat) (f : FenceRow) : State :=
  let off (g : FenceRow) : FenceRow := if g.row = f.row then { g with waits := false } else g
  (rowDone (modSeq s d fun q => { q with fences := q.fences.map off }) d f.row).wr (R.PAT_FENCE.last_met d) f.number

/-- FENCE_COMPLETE: FENCE rows complete on both dies 64 ns after the later trigger (R84). -/
def fenceComplete (s : State) : State := match s.activePattern with
  | none => s
  | some p =>
    let a := fencesMet s p 0
    let b := fencesMet s p 1
    b.foldl (fun s f => fenceDone s 1 f) (a.foldl (fun s f => fenceDone s 0 f) s)

/-! ## Limits and restarts -/

/-- R82: a row that its limit completes: what has arrived is formed, the rest is POISON. -/
def finishByLimit (s : State) (fl : Flight) : State :=
  if fl.written then (if rowKind fl.words = 5 then completeFused s fl else completeRow s fl)
  else match rowKind fl.words with
    | 0x2 => completeRow (deliverFormed s fl (formCollective s fl)) fl
    | 0x3 => arrayComplete fl.die fl.row [] [] s
    | 0x4 => sliceComplete fl.die fl.row [] s
    | 0x5 =>
      let s := if fl.shard.isNone then fusedUpdate s fl [] else s
      match flightOf s fl.die fl.row with
      | some f => completeFused (deliverFormed s f (formFused s f (f.shard.getD []))) f
      | none => s
    | 0x6 => completeRow (formDigest s fl) fl
    | 0x8 => completeRow (takeGaugeResult s (rowField fl.words 4 5 0) []) fl
    | _ => completeRow s fl

/-- R82: the limit's count and record. -/
def limitRecord (s : State) (d i : Nat) (ws : List Nat) : State :=
  let n := activeNumber s
  (s.bump (R.PAT_LIMIT_COUNT.c d)).err (seqUnitOf d) (rowOperation n (rowKind ws)) 0x08 2
    (atByte 0 3 + atByte 2 i + atByte 4 n + atByte 5 (rowKind ws))

/-- ROW_LIMIT_EXPIRE: a row whose limit has passed completes at once (R82); a FENCE row on its die alone. -/
def rowLimitExpire (die row : Nat) (s : State) : State :=
  match flightOf s die row with
  | some fl =>
    if fl.limit = 0 ∨ s.gt.time < fl.trigAt + fl.limit then s
    else limitRecord (finishByLimit s fl) die row fl.words
  | none => match (waitingFences s die).find? fun f => f.row = row, s.activePattern with
    | some f, some p =>
      let ws := (rowsOf p die).getD row []
      if limitOf s ws = 0 ∨ s.gt.time < f.at_ + limitOf s ws then s
      else limitRecord (fenceDone s die f) die row ws
    | _, _ => s

/-- A whole destination as POISON. -/
def poisonTo (slot : Nat) (d : Desc) : Delivery := { slot := slot, desc := d, bytes := (List.range (extentBytes d)).map fun _ => none }

/-- The destinations of a row (R100). -/
def destinations (s : State) (fl : Flight) : List Delivery :=
  let ws := fl.words
  let d (i hi lo : Nat) : Desc := descOf s (rowField ws i hi lo)
  match rowKind ws with
  | 0x2 =>
    let m := setOf s (rowField ws 4 11 6)
    let dst := rowField ws 5 23 12
    let all : List Desc := if rowOp ws = 5 then
        (faceStages (tget s.pat.routes (rowRoute ws))).map fun g => descOf s (dst + g.face)
      else [descOf s dst]
    (recipients s fl m).flatMap fun k => all.map (poisonTo k)
  | 0x3 =>
    let c := d 6 11 0
    if rowOp ws = 4 then
      [{ slot := 8, desc := c, off := basisIndex s fl.die (rankOfField (rowField ws 4 27 25)) * leading c * 4,
         bytes := List.replicate (4 * c.cols) none }]
    else poisonTo 8 c :: (if rowOp ws = 2 then [poisonTo 8 (d 6 23 12)] else [])
  | 0x4 => ((poolOperands s ws).filter fun x => x.2 = 1).map fun x => poisonTo 8 x.1
  | 0x5 =>
    let m := setOf s (rowField ws 4 11 6)
    (recipients s fl m).map fun k => poisonTo k (d 5 23 12)
  | 0x6 => [poisonTo 8 (d 5 23 12)]
  | _ => []

/-- R100, R129: a row in flight completes at once, and what it has not delivered is written as POISON. -/
def abandonRow (s : State) (fl : Flight) : State :=
  let finish (s : State) : State := if rowKind fl.words = 5 then completeFused s fl else completeRow s fl
  if fl.written then
    finish ((fl.unacked.filter fun u => ! fl.lost.testBit u.1).foldl (init := s) fun s u =>
      s.send (.pdata u.1 (rowTag s fl 0 (u.2.1 / 2 ^ 32) (u.2.1 % 2 ^ 32)) u.2.2 none))
  else
    let out := destinations s fl
    finish (countPoison (deliver s fl out) fl (if rowKind fl.words = 2 ∨ rowKind fl.words = 5 then
      total (out.map fun x => x.desc.count) else 0))

/-- R99, R100: PAT_CTRL.restart with a pattern pending: it is checked, and one that passes abandons what is in flight and starts. -/
def restartNext (s : State) : State :=
  if ¬ s.on (R.PAT_NEXT.valid (leadDie s)) ∨ (seqMode s ≠ 1 ∧ seqMode s ≠ 2) then s
  else
    let n := s.rd (R.PAT_NEXT.pattern (leadDie s))
    if refused s n then acceptPattern s n
    else
      let s := s.pat.flights.foldl abandonRow s
      let s := modSeq (modSeq s 0 fun q => { q with fences := [] }) 1 fun q => { q with fences := [] }
      acceptPattern { s with cad := { s.cad with markStamp := none } } n

/-- PATTERN_RESTART: PAT_CTRL.restart is written (R97, R99, R100). -/
def patternRestart (agent : Agent) (s : State) : State :=
  if ¬ s.anyDieUp then s.reach agent fun s => s.answer .retry 0 10
  else if agent ≠ .steward then s.answer .denied 0 0
  else (restartNext s).answer .ok 0 0

/-! ## Planned lines that arrive -/

/-- PDATA: a contribution line arrives from an accelerator (R209, R322). -/
def pdata (slot : Nat) (tag : RowTag) (data : Option (List Nat)) (s : State) : State :=
  if 8 ≤ slot ∨ s.linkState slot ≠ 3 then s
  else
    let s := s.plannedIn slot (lineBytes data)
    match flightOf s tag.die tag.row with
    | some fl =>
      if tagCurrent s tag = false ∨ s.pat.active ≠ some tag.pattern ∨ fl.written = true then lateDrop s tag
      else
        let key := lineKey tag.stage tag.line
        if fl.lost.testBit slot ∨ (fl.lines.any fun l => l.1 == slot && l.2.1 == key) = true then s
        else sendOn (modFlight s tag.die tag.row fun f => { f with lines := f.lines ++ [(slot, key, data)] }) tag.die tag.row
    | none => lateDrop s tag

/-- PACK: an accelerator acknowledges a written line (R209). -/
def pack (slot : Nat) (tag : RowTag) (s : State) : State :=
  if 8 ≤ slot ∨ s.linkState slot ≠ 3 then s
  else match flightOf s tag.die tag.row with
  | some fl =>
    if tagCurrent s tag = false ∨ fl.written = false then s
    else modFlight s tag.die tag.row fun f =>
      { f with unacked := f.unacked.eraseP fun u => u.1 == slot && u.2.1 == lineKey tag.stage tag.line }
  | none => s

/-- The checks on a transfer of a planned line (R318, R324): parity turns it to POISON, bridge resends are counted, and an uncorrectable
word of the staging leads to containment. -/
def checkTransfer (s : State) (t : RowTag) (data : Option (List Nat)) (c : MemCheck) : State × Option (List Nat) :=
  let d := t.die % 2
  let ws : List Nat := match tfind s.pat.lib t.pattern with
    | some p => (rowsOf p t.die).getD t.row []
    | none => []
  let op := rowOperation t.pattern (rowKind ws)
  match c with
  | .clean => (s, data)
  | .inner n => (modMemStat s (3 * d) fun m => { m with corrected := m.corrected + n }, data)
  | .corrected n f =>
    let s := (s.bump R.ERR_CE_COUNT.c).wr R.ERR_STATUS.ce 1
    let key := 2 ^ 60 + (t.die * 65536 + t.row) * 2 ^ 36 + t.stage * 2 ^ 24 + t.line
    if tfind s.itg.ceRecorded key = some (operatingHour s) then (s, data)
    else ({ s with itg := { s.itg with ceRecorded := tput s.itg.ceRecorded key (operatingHour s) } }.err (memIdent (3 * d)) op 0x01 1
      (atByte 8 1 + atByte 9 (n % 256) + atByte 10 (f % 65536)), data)
  | .uncorrectable _ f =>
    let s := ((s.bump R.ERR_UE_COUNT.c).wr R.ERR_STATUS.ue 1).err (memIdent (3 * d)) op 0x01 4
      (atByte 8 2 + atByte 10 (f % 65536))
    (contain s 0x01 (memIdent (3 * d)) none, none)
  | .parity => (parityMismatch s op d ((members (rowTiles ws) 64).headD 0) 4 t.row t.pattern, none)
  | .bridge n => (bridgeResend s op d n, data)

/-- R120, R218: a planned line that names further hops is forwarded in the crossbar, whatever this hub's own pattern does. -/
def forwardPlanned (s : State) (port : Nat) (t : RowTag) (data : Option (List Nat)) (hops path : Nat) : State :=
  let out := path % 8
  if portPlanned s port = false ∨ portPlanned s out = false then s
  else ((s.addWide (R.COL_TRANSIT_LO.count (port / 4)) (lineBytes data)).plannedOut (8 + out) (lineBytes data)).send
    (.planned out t (hops - 1) (path / 8) data) true

/-- PLANNED_FLIT_ARRIVE: a line from another hub is forwarded, consumed, staged, kept back or discarded (R118 to R122). The host port takes
none (R220). -/
def plannedFlitArrive (port : Nat) (tag : RowTag) (data : Option (List Nat)) (check : MemCheck) (hops path : Nat) (s : State) : State :=
  if s.portUp port = false ∨ (port = 7 ∧ s.hostPortMode) then s
  else
    let s := s.plannedIn (8 + port) (lineBytes data)
    if 0 < hops then forwardPlanned s port tag data hops path
    else
      let s := drainBlocked (purgeStaging s)
      let (s, data) := checkTransfer s tag data check
      if s.dieUp (tag.die % 2) = false then s else showFull (arriveLine s port { tag := tag, data := data })

/-! ## Take-up of descriptors -/

/-- A staged descriptor's 32 bytes as a number in its fields (R86). -/
def decodeDesc (w : Nat) : Desc :=
  { base := bits w 63 0, count := bits w 95 64, format := bits w 101 96, mode := bits w 103 102, valid := w.testBit 104,
    stageOk := w.testBit 105, owner := bits w 108 106, reserved := bits w 111 109 + bits w 159 144 + bits w 223 192 + bits w 255 240,
    rows := bits w 127 112, cols := bits w 143 128, ld := bits w 191 160, generation := bits w 239 224 }

/-- R90: whether a descriptor's base in its mode lies outside the accelerator windows and the two pools. -/
def baseOutside (d : Desc) : Bool :=
  if d.mode = 1 then decide (2 ^ 42 ≤ d.base)
  else match regionOf (d.base % 2 ^ 46) with
    | .window _ => false
    | .hbm => false
    | .lpddr => false
    | _ => true

/-- R90: why a staged descriptor is rejected, as R509 codes the causes; `staged` is none where it reads as POISON. -/
def rejectCause (old : Desc) (staged : Option Desc) : Option Nat :=
  if ! old.stageOk then some 1
  else match staged with
    | none => some 6
    | some d =>
      if ! d.valid then some 2
      else if d.count = 0 then some 3
      else if (fmtOf d.format).isNone ∨ 2 ≤ d.mode then some 4
      else if baseOutside d then some 5
      else none

/-- The bytes at a pool offset as a number; none where the line reads as POISON. -/
def poolNumber (s : State) (off n : Nat) : Option Nat :=
  if lineReadable s off then some (ofBytes (Memory.readBytes s.mem.pool off n)) else none

/-- R89, R90: one staged descriptor is installed or rejected. The die that makes the take-up counts and shows it (DESIGN CHOICE, log 73:
the rules do not say whether the other die's registers follow). -/
def takeDesc (s : State) (base i : Nat) : State :=
  let d := leadDie s
  let staged := (poolNumber s (base + 32 * i) 32).map decodeDesc
  let old := descOf s i
  match rejectCause old staged, staged with
  | none, some x =>
    let s := { s with pat := { s.pat with descs := tput s.pat.descs i { x with generation := (old.generation + 1) % 65536 } } }
    s.bump (R.PAT_DESC_TAKEN.c d)
  | cause, _ =>
    let s := (s.bump (R.PAT_DESC_REJECT.c d)).wr (R.PAT_STATUS.desc_reject d) 1
    s.err (seqUnitOf d) 0 0x08 2
      (atByte 0 4 + atByte 1 (cause.getD 0) + atByte 2 i + atByte 8 ((staged.map Desc.base).getD 0))

/-- R89: one word of the dirty bitmap is swapped with zero, and the descriptors it names are those to take up. -/
def takeWord (acc : State × List Nat) (base w : Nat) : State × List Nat :=
  let s := acc.1
  let off := base + 131072 + 8 * w
  match poolNumber s off 8 with
  | none =>
    if s.mem.isMarked (off / 256) then
      (s.err (seqUnitOf (leadDie s)) 0 0x08 2 (atByte 0 5 + atByte 8 (s.img.tray.hub * 2 ^ 46 + off)), acc.2)
    else acc
  | some v =>
    if v = 0 then acc
    else (writeSpan s off (List.replicate 8 (some 0)), acc.2 ++ (members v 64).map (64 * w + ·))

/-- DESCRIPTOR_TAKE_UP (R89, R90): made at once (log 54), from 320 ns after the step mark took effect. What a line found
uncorrectable holds is not acted on (R318). -/
def descriptorTakeUp (bad : Option Nat) (s : State) : State :=
  match s.pat.takeUpAt with
  | none => s
  | some t =>
    if s.gt.time < t ∨ s.anyDieUp = false then s
    else
      let base := stageBase s % 2 ^ 46
      let s := { s with pat := { s.pat with takeUpAt := none } }
      if stageBase s = 0 then s
      else
        let hit : Option Nat := bad.bind fun l => if base / 256 ≤ l ∧ l < (base + 131584) / 256 then some l else none
        let ok (off : Nat) : Bool := hit != some (off / 256)
        let r := ((List.range 64).filter fun w => ok (base + 131072 + 8 * w)).foldl (fun acc w => takeWord acc base w) (s, [])
        let s := (r.2.filter fun i => ok (base + 32 * i)).foldl (fun s i => takeDesc s base i) r.1
        match hit with
        | some l => poolUncorrectable s 0 l 0 false
        | none => s

/-- ROW_TRIGGER. -/
def execRowTrigger (die fault : Nat) (s : State) : Host.Outcome State Fault Refusal := .next (rowTrigger die fault s)
/-- FENCE_COMPLETE. -/
def execFenceComplete (s : State) : Host.Outcome State Fault Refusal := .next (fenceComplete s)
/-- COLLECTIVE_COMPLETE. -/
def execCollectiveComplete (die row : Nat) (residue : List Nat) (s : State) : Host.Outcome State Fault Refusal :=
  .next (collectiveComplete die row residue s)
/-- ARRAY_COMPLETE. -/
def execArrayComplete (die row : Nat) (bad residue : List Nat) (s : State) : Host.Outcome State Fault Refusal :=
  .next (arrayComplete die row bad residue s)
/-- SLICE_COMPLETE. -/
def execSliceComplete (die row : Nat) (bad : List Nat) (s : State) : Host.Outcome State Fault Refusal :=
  .next (sliceComplete die row bad s)
/-- FUSED_COMPLETE. -/
def execFusedComplete (die row : Nat) (residue : List Nat) (s : State) : Host.Outcome State Fault Refusal :=
  .next (fusedComplete die row residue s)
/-- DIGEST_COMPLETE. -/
def execDigestComplete (die row : Nat) (s : State) : Host.Outcome State Fault Refusal := .next (digestComplete die row s)
/-- ROW_LIMIT_EXPIRE. -/
def execRowLimitExpire (die row : Nat) (s : State) : Host.Outcome State Fault Refusal := .next (rowLimitExpire die row s)
/-- DESCRIPTOR_TAKE_UP. -/
def execDescriptorTakeUp (bad : Option Nat) (s : State) : Host.Outcome State Fault Refusal := .next (descriptorTakeUp bad s)
/-- PATTERN_RESTART. -/
def execPatternRestart (agent : Agent) (s : State) : Host.Outcome State Fault Refusal := .next (patternRestart agent s)
/-- PLANNED_FLIT_ARRIVE. -/
def execPlannedFlitArrive (port : Nat) (tag : RowTag) (data : Option (List Nat)) (check : MemCheck) (hops path : Nat) (s : State) :
    Host.Outcome State Fault Refusal := .next (plannedFlitArrive port tag data check hops path s)
/-- PDATA. -/
def execPdata (slot : Nat) (tag : RowTag) (data : Option (List Nat)) (s : State) : Host.Outcome State Fault Refusal :=
  .next (pdata slot tag data s)
/-- PACK. -/
def execPack (slot : Nat) (tag : RowTag) (s : State) : Host.Outcome State Fault Refusal := .next (pack slot tag s)
/-- GAUGE_RESULT. -/
def execGaugeResult (die row : Nat) (others : List Nat) (s : State) : Host.Outcome State Fault Refusal :=
  .next (gaugeResult die row others s)

end Sys2Proof.Machine
end

