-- ==== Sys2Proof/Machine/Validate.lean ====
section
/-! DEFINITION. The checks that validation makes of a configuration image's content (R441, R442), in the order of its sections. Each gives the
index of the first entry that fails. -/

namespace Sys2Proof.Machine

/-- The index of the first member that fails a check. -/
def firstBad {α : Type} (l : List α) (ok : α → Nat → Bool) : Option Nat := (l.zipIdx.find? fun p => ! ok p.1 p.2).map Prod.snd

/-- The condition of a section as a whole. -/
def unlessOk (b : Bool) : Option Nat := if b then none else some 0

/-! ## Tray description, rails and plant -/

/-- R184: whether a partition map forms `n` partitions. -/
def partitionsOk (map n : Nat) : Bool :=
  let part (k : Nat) : Nat := bits map (3 * k + 2) (3 * k)
  let members_ (p : Nat) : List Nat := (List.range 8).filter fun k => part k = p
  let whole (p : Nat) : Bool :=
    let l := members_ p
    let k := l.length
    k == 0 || ((k == 1 || k == 2 || k == 4 || k == 8) && p % k == 0 && l == (List.range k).map (p + ·))
  (List.range 8).all whole && ((List.range 8).filter fun p => members_ p != []).length == n

/-- R432: the tray description and its ports. A port whose link the description does not enable may name no peer (DEDUCED, log 83). -/
def trayCheck (i : Image) : Option Nat :=
  let t := i.tray
  unlessOk (decide (t.hub < 250000) && decide (t.index < 8192) && decide (t.master < 250000) && decide (t.primary < 8) &&
    decide (t.secondary < 8) && decide (1 ≤ t.partitions) && decide (t.partitions ≤ 8) && partitionsOk t.map t.partitions &&
    decide (t.links0 < 256) && decide (t.links1 < 256) && decide (8 ≤ t.prefixLen) && decide (t.prefixLen ≤ 128) &&
    i.ports.all fun p => decide (p.1 < 8) && decide (p.2.peerHub < 2 ^ 18) && decide (p.2.peerPort < 8) &&
      (p.2.kind == 1 || p.2.kind == 2 || (p.2.kind == 0 && ! (if p.1 < 4 then t.links0 else t.links1).testBit (4 + p.1 % 4))) &&
      decide (p.2.channel < 4) && decide (p.2.maxPowerClass < 16))

/-- R226: the ranges of one rail entry, and R227's conditions on one entry. -/
def railEntryOk (r : RailCfg) (k : Nat) : Bool :=
  decide (r.channel < 64) && decide (r.owner < 12) && (k != 0 || ! r.withPrev) &&
  (if r.owner < 8 then decide (r.role < 5) else if r.owner = 11 then decide (r.role < 2) else decide (r.role < 8)) &&
  decide (300 ≤ r.nominal) && decide (r.nominal ≤ 15000) && decide (r.delay ≤ 65535) && decide (50 ≤ r.debounce) && decide (r.debounce ≤ 10000) &&
  decide (1000 ≤ r.timeout) && decide (r.timeout ≤ 500000) && decide (r.debounce < r.timeout) && decide (r.bindRank < 256) &&
  decide (r.master < 4) && decide (r.page < 64) && decide (r.address < 128) && decide (r.discharge ≤ 100000) && decide (r.faultAction < 5) &&
  (r.owner != 11 || r.faultAction == 0 || r.faultAction == 3 || r.faultAction == 4)

/-- R227: each of the eight hub roles appears exactly once, with its owner. -/
def hubRolesOk (l : List RailCfg) : Bool :=
  let hub := l.filter fun r => decide (8 ≤ r.owner) && decide (r.owner ≤ 10)
  (List.range 8).all fun k => (hub.filter fun r => r.role = k).length == 1 &&
    hub.all fun r => r.role != k || r.owner == (if k = 0 then 8 else if k = 1 then 9 else 10)

/-- R226, R227: the rail table. -/
def railCheck (i : Image) : Option Nat :=
  match firstBad i.rails railEntryOk with
  | some k => some k
  | none =>
    match firstBad i.rails fun r k => ! ((i.rails.take k).any fun q => q.channel == r.channel) with
    | some k => some k
    | none => unlessOk (decide (i.rails.length ≤ 64) && hubRolesOk i.rails)

/-- R287: the cooling table's rows ascend. -/
def coolRowsOk (l : List CoolRow) : Bool := match l with
  | [] => true
  | [r] => r.floorValve == 100 && r.floorPump == 100 && r.floorFan == 100
  | a :: b :: rest => decide (a.breakpoint < b.breakpoint) && decide (a.floorValve ≤ b.floorValve) && decide (a.floorPump ≤ b.floorPump) &&
      decide (a.floorFan ≤ b.floorFan) && coolRowsOk (b :: rest)

/-- R302: a zone's slots form whole partitions. -/
def zoneOk (i : Image) (z : LeakZone) (_k : Nat) : Bool :=
  let part (k : Nat) : Nat := bits i.tray.map (3 * k + 2) (3 * k)
  decide (z.loops < 65536) && decide (z.slots < 256) && decide (z.iso < 3) &&
  (List.range 8).all fun a => (List.range 8).all fun b => part a != part b || z.slots.testBit a == z.slots.testBit b

/-- R285, R287, R302: the plant section. -/
def plantCheck (i : Image) : Option Nat :=
  let p := i.plant
  let inRange (r : CoolRow) (_ : Nat) : Bool := [r.floorValve, r.floorPump, r.floorFan, r.valve, r.pump, r.fan].all fun v => decide (v ≤ 100)
  match firstBad p.table inRange with
  | some k => some k
  | none =>
    if p.table.length ≠ 8 ∨ ! coolRowsOk p.table ∨ 8 < p.zones.length ∨ p.setpoint < 50 ∨ 400 < p.setpoint ∨
        (p.residual.all fun r => decide (r.2 ≤ 100)) = false then some 0
    else firstBad p.zones (zoneOk i)

/-! ## Settings and power -/

/-- R434: the settings section. -/
def settingsCheck (i : Image) : Option Nat := firstBad i.loads fun l _ => loadOk l && loadsAgree i.loads l

/-- R435: the power section. -/
def powerCheck (i : Image) : Option Nat :=
  if i.gaugePlan.length ≠ 64 then some 0
  else match firstBad i.gaugePlan fun v _ => v != 0 && decide (v ≤ 0xFFFF) with
    | some k => some k
    | none =>
      match firstBad i.profiles fun p _ => decide (p.prepare ≤ 32) && decide (p.release ≤ 32) &&
          decide (p.first + p.prepare + p.release ≤ i.writes.length) with
      | some k => some k
      | none =>
        unlessOk (decide (i.profiles.length ≤ 4096) && (i.profiles.isEmpty || decide (i.hintProfile < i.profiles.length)) &&
          i.writes.all fun w => decide (w.master < 4) && decide (w.page < 64) && decide (w.address < 128) && decide (w.command < 256) &&
            decide (w.length ≤ 2) && decide (w.data < 65536))

/-! ## Patterns -/

/-- R72: the numbers of a list's FENCE rows, in order. -/
def fenceNumbers (rows : List (List Nat)) : List Nat := (rows.filter fun ws => rowKind ws == 9).map fun ws => rowField ws 4 15 0

/-- Whether a list of numbers increases strictly. -/
def increasing (l : List Nat) : Bool := match l with
  | [] => true
  | [_] => true
  | a :: b :: rest => decide (a < b) && increasing (b :: rest)

/-- R72: a list that is not empty ends with its only END row. -/
def endsOnce (rows : List (List Nat)) : Bool :=
  rows.isEmpty || ((rows.getLast?.map rowKind) == some 0xB && (rows.filter fun ws => rowKind ws == 0xB).length == 1)

/-- R72: the domains of a die that its rows use in a way that the rows alone show. -/
def shownDomains (rows : List (List Nat)) : Nat :=
  if rows.isEmpty then 0
  else rows.foldl (init := 1 <<< 16) fun w ws =>
    let tiles := ofMembers ((members (rowTiles ws) 64).map (· / 4))
    let acc := bits (rowLinks ws) 3 0 * 2 ^ 17
    let ports := if bits (rowLinks ws) 7 4 = 0 then 0 else 1 <<< 21
    setUnion w (setUnion tiles (setUnion acc ports))

/-- R72: well-formed as a pattern. -/
def wellFormedPattern (p : Sys2Proof.Pattern) : Bool :=
  let both := usesDie p 0 && usesDie p 1
  let gauges (rows : List (List Nat)) : Nat := (rows.filter fun ws => rowKind ws == 8).length
  let f0 := fenceNumbers p.rows0
  let f1 := fenceNumbers p.rows1
  decide (p.rows0.length ≤ 4096) && decide (p.rows1.length ≤ 4096) && (usesDie p 0 || usesDie p 1) && endsOnce p.rows0 && endsOnce p.rows1 &&
  (if both then f0 == f1 && increasing f0 else f0.isEmpty && f1.isEmpty) &&
  (if usesDie p 0 then gauges p.rows0 == 1 && gauges p.rows1 == 0 else gauges p.rows1 == 1) &&
  setMinus (shownDomains p.rows0) p.domains0 == 0 && setMinus (shownDomains p.rows1) p.domains1 == 0

/-- R73: the header's ranges. -/
def headerOk (p : Sys2Proof.Pattern) : Bool :=
  decide (p.number < 256) && decide (3125 ≤ p.nominal) && decide (p.nominal ≤ 3750000000) && decide (p.domains0 < 2 ^ 27) &&
  decide (p.domains1 < 2 ^ 27) && decide (p.tiles0 < 2 ^ 64) && decide (p.tiles1 < 2 ^ 64) && decide (p.linkShare ≤ 100) &&
  decide (p.poolShare ≤ 100) && decide (p.successor < 256) && decide (p.msets < 2 ^ 64) && decide (p.marks.length ≤ 16) &&
  p.marks.all fun e => decide (e.mark < 256) && decide (e.quorum ≤ 8) && decide (e.angle < 65536)

/-- R101, R441: the checks of a row that do not depend on run-time state. -/
def rowsStaticOk (s : State) (p : Sys2Proof.Pattern) (rows : List (List Nat)) : Bool :=
  rows.zipIdx.all fun r => match malformedReason s p r.1 r.2 s.img.profiles.length false with
    | none => true
    | some c => c == 7

/-- R71, R72, R73, R441: the pattern library. -/
def patternCheck (s : State) : Option Nat :=
  let i := s.img
  let rows (d : Nat) : Nat := total (i.patterns.map fun p => (rowsOf p.2 d).length)
  if 256 < i.patterns.length ∨ 32768 < rows 0 ∨ 32768 < rows 1 then some 0
  else (i.patterns.find? fun p =>
    ! (p.2.number == p.1 && headerOk p.2 && wellFormedPattern p.2 && rowsStaticOk s p.2 p.2.rows0 && rowsStaticOk s p.2 p.2.rows1)).map Prod.fst

/-! ## Descriptors, slices, routes -/

/-- R90, R140: one descriptor of the image. -/
def descOk (d : Desc) : Bool :=
  d.reserved == 0 &&
  (! d.valid || (d.count != 0 && decide (d.count < 2 ^ 32) && (fmtOf d.format).isSome && decide (d.mode < 2) && ! baseOutside d && mxShapeOk d))

/-- R88: the staging area. -/
def stageOk (base : Nat) : Bool :=
  base == 0 || (base % 256 == 0 && regionOf (base % 2 ^ 46) == .hbm && regionOf (base % 2 ^ 46 + 131583) == .hbm)

/-- R88, R90, R91: descriptors, sets and the staging area. -/
def descCheck (i : Image) : Option Nat :=
  match i.descs.find? fun d => ! (decide (d.1 < 4096) && descOk d.2) with
  | some d => some d.1
  | none =>
    match i.msets.find? fun m => ! (decide (m.1 < 64) && decide (m.2.active < 2 ^ 65536) && (! m.2.hub || decide (m.2.active < 2 ^ 8192))) with
    | some m => some m.1
    | none => unlessOk (i.stage == 0 || (i.stage / 2 ^ 46 == i.tray.hub && stageOk i.stage))

/-- The codes of the micro-op table (R436). -/
def knownOp (c : Nat) : Bool :=
  decide (1 ≤ c ∧ c ≤ 4) || decide (0x10 ≤ c ∧ c ≤ 0x1B) || decide (0x50 ≤ c ∧ c ≤ 0x5B) || c == 0x20 || c == 0x21 || c == 0xFF

/-- R437: whether loops nest to at most four and match. -/
def loopsOk (depth : Nat) (ops : List Nat) : Bool := match ops with
  | [] => depth == 0
  | o :: r =>
    if o % 256 = 0x20 then decide (depth < 4) && decide (1 ≤ o / 2 ^ 32) && decide (o / 2 ^ 32 ≤ 65535) && loopsOk (depth + 1) r
    else if o % 256 = 0x21 then decide (0 < depth) && loopsOk (depth - 1) r
    else loopsOk depth r

/-- The fields that an opcode uses (R436), by bit: destination, sources a, b and c, operand selector, immediate. -/
def microFields (c : Nat) : Nat :=
  if c = 0x01 then 0x31
  else if c = 0x02 then 0x32
  else if c = 0x03 ∨ c = 0x04 then 0x21
  else if c = 0x20 then 0x20
  else if c = 0x21 ∨ c = 0xFF then 0
  else if c % 64 = 0x13 then 0x0F
  else if c % 64 = 0x15 ∨ 0x18 ≤ c % 64 then 0x03
  else 0x07

/-- R436: the bits that a micro-op's opcode does not use are zero. -/
def unusedZero (o : Nat) : Bool :=
  ([bits o 12 8, bits o 17 13, bits o 22 18, bits o 27 23, bits o 31 28, o / 2 ^ 32].zipIdx).all fun f =>
    f.1 == 0 || (microFields (o % 256)).testBit f.2

/-- R437: one sequence. -/
def sequenceOk (q : SliceSeq) : Bool :=
  decide (2 ≤ q.ops.length) && decide (q.ops.length ≤ 4096) && decide (q.kind ≤ 4) && decide (q.stateWords < 256) &&
  (q.ops.getLast?.map (· % 256)) == some 0xFF && (q.ops.filter fun o => o % 256 = 0xFF).length == 1 &&
  (q.ops.all fun o => knownOp (o % 256) && unusedZero o) && loopsOk 0 q.ops && (selectorsOf q).all fun k => decide (k < 5)

/-- R437: the library. -/
def sliceCheck (i : Image) : Option Nat :=
  match firstBad i.slices fun q _ => sequenceOk q with
  | some k => some k
  | none => unlessOk (decide (i.slices.length ≤ 4096) && [1, 2, 3, 4].all fun k => (i.slices.filter fun q => q.kind = k).length == 1)

/-- R117: one stage record. -/
def stageRecOk (g : Stage) : Bool :=
  decide (g.kind ≤ 5) && decide (1 ≤ g.size) && decide (g.size ≤ 8192) && decide (g.position < g.size) && decide (g.nextPorts < 256) &&
  decide (g.prevPorts < 256) && decide (g.nextHops ≤ 5) && decide (g.prevHops ≤ 5) && decide (g.nextPath < 2 ^ 15) &&
  decide (g.prevPath < 2 ^ 15) && decide (g.peer < 2 ^ 18) && decide (g.face < 64)

/-- R117: one route entry. -/
def routeOk (r : Route) : Bool :=
  let all := r.stages0 ++ r.stages1
  (if r.strands = 1 then r.weight == 0 && r.stages1.isEmpty else r.strands == 2 && decide (1 ≤ r.weight) && decide (r.weight ≤ 255)) &&
  ! r.stages0.isEmpty && decide (all.length ≤ 16) && decide (1 ≤ r.chunk) && decide (r.chunk ≤ 4096) && decide (r.staging ≤ 6144) &&
  r.hall == (all.any fun g => g.kind == 5) && all.all stageRecOk

/-- R117, R170: routes and open paths. -/
def routeCheck (i : Image) : Option Nat :=
  match i.routes.find? fun r => ! (decide (r.1 < 65536) && routeOk r.2) with
  | some r => some r.1
  | none =>
    match firstBad i.paths fun p _ => decide (p.lo ≤ p.hi) && decide (p.hi < 250000) && decide (p.egress < 8) &&
        decide (p.path < 2 ^ 15) with
    | some k => some k
    | none => unlessOk (decide (i.paths.length ≤ 4096))

/-! ## Guards, queues and the surrogate -/

/-- R186: one guard entry. -/
def guardEntryOk (g : Guard) : Bool :=
  decide (g.base ≤ g.limit) && decide (g.limit < 2 ^ 30) && decide (g.part < 2 ^ 24) && decide (g.host < 8) && decide (g.remote < 8) &&
  decide (g.remoteParts < 256) && decide (g.hubLo < 2 ^ 18) && decide (g.hubHi < 2 ^ 18)

/-- R190: one queue. -/
def queueOk (q : QueueCfg) : Bool :=
  decide (q.slots < 256) && decide (1 ≤ q.weight) && decide (q.weight ≤ 255) && decide (1 ≤ q.depth) && decide (q.depth ≤ 1024) &&
  decide (1 ≤ q.maxCtx) && decide (q.maxCtx ≤ 8192) && decide (q.minCtx ≤ q.maxCtx) && decide (q.allowance ≤ 2 ^ 40)

/-- The partitions that an entry lets write or update. -/
def writers (g : Guard) : Nat := ofMembers ((List.range 8).filter fun p => g.part.testBit (3 * p + 1) || g.part.testBit (3 * p + 2))

/-- The descriptors that a row names (R76). -/
def rowDescs (ws : List Nat) : List Nat :=
  let a := rowField ws 5 11 0
  let b := rowField ws 5 23 12
  let c := rowField ws 6 11 0
  let d := rowField ws 6 23 12
  match rowKind ws with
  | 0x2 => [a, b]
  | 0x3 => if rowOp ws = 2 then [a, b, c, d] else [a, b, c]
  | 0x4 => [a, b, c, d, rowField ws 7 11 0]
  | 0x5 => [a, b, c, d, rowField ws 7 23 12]
  | 0x6 => [a, b]
  | _ => []

/-- R334: a row whose descriptors have owner p uses only tiles assigned to p. -/
def rowTilesOwned (i : Image) (die : Nat) (ws : List Nat) : Bool :=
  (rowDescs ws).all fun k => let d := tget i.descs k
    ! d.valid || (members (rowTiles ws) 64).all fun t => tfind i.tileOwner (64 * die + t) == some d.owner

/-- R334: the conditions of the forerunner's mode. -/
def t4Ok (i : Image) : Bool :=
  let part (k : Nat) : Nat := bits i.tray.map (3 * k + 2) (3 * k)
  (i.guards.all fun g => decide (popcount (writers g) 8 ≤ 1) && g.host / 2 == 0 && g.remote / 2 == 0) &&
  (i.guards.all fun g => i.guards.all fun h =>
    g.limit < h.base || h.limit < g.base || writers g == 0 || writers h == 0 || writers g == writers h) &&
  (i.patterns.all fun p => (p.2.rows0.all (rowTilesOwned i 0)) && p.2.rows1.all (rowTilesOwned i 1)) &&
  i.queues.all fun q => (members q.2.slots 8).all fun a => (members q.2.slots 8).all fun b => part a == part b

/-- R186, R190, R334: guards, queues and the tile assignment. -/
def guardCheck (i : Image) : Option Nat :=
  let mins (die : Nat) : Nat := total ((List.range 128).map fun k => (tget i.queues (128 * die + k)).minCtx)
  match firstBad i.guards fun g _ => guardEntryOk g with
  | some k => some k
  | none =>
    match i.queues.find? fun q => ! (decide (q.1 < 256) && queueOk q.2) with
    | some q => some q.1
    | none =>
      unlessOk (decide (i.guards.length ≤ 64) && decide (mins 0 ≤ 8192) && decide (mins 1 ≤ 8192) &&
        (i.tileOwner.all fun t => decide (t.1 < 128) && decide (t.2 < 8)) && (! i.tray.t4 || t4Ok i))

/-- Whether an FP32 word is finite. -/
def finite32 (w : Nat) : Bool := bits w 30 23 != 255

/-- R440: the surrogate section; a BF16 weight is held as 16 bits. -/
def surrogateCheck (q : Surrogate) : Option Nat :=
  let n := q.nh
  let lens := [(q.offset, 41), (q.scale, 41), (q.b, n), (q.c, 35), (q.outScale, 35), (q.outOffset, 35)]
  let weights := [(q.wx, 41 * n), (q.wh, n * n), (q.wy, 35 * n)]
  unlessOk (decide (8 ≤ n) && decide (n ≤ 64) && n % 8 == 0 && (lens.all fun p => p.1.length == p.2 && p.1.all finite32) &&
    (weights.all fun p => p.1.length == p.2 && p.1.all fun w => decide (w < 65536) && bits w 14 7 != 255) && finite32 q.wt && finite32 q.wv &&
    finite32 q.margin && (q.margin == 0x80000000 || (decide (q.margin < 0x80000000) && decide (q.margin ≤ 0x41200000))))

/-! ## The whole image -/

/-- The bit set of the section types that R431 requires. -/
def requiredSections : Nat := 0x27FE

/-- R442: the first failure among the sections, as reason, section type and entry. -/
def sectionFailure (s : State) (i : Image) : Option (Nat × Nat × Nat) :=
  let s := { s with img := i }
  let at_ (reason sec : Nat) (r : Option Nat) : Option (Nat × Nat × Nat) := r.map fun k => (reason, sec, k)
  let checks : List (Option (Nat × Nat × Nat)) :=
    [at_ 3 0 (unlessOk (setMinus requiredSections i.sections == 0 && decide (i.sections < 2 ^ 14) && i.sections.testBit 0xB == i.surrogate.isSome)),
     at_ 4 1 (trayCheck i), at_ 5 2 (railCheck i), at_ 6 3 (plantCheck i), at_ 7 4 (settingsCheck i), at_ 8 5 (powerCheck i),
     at_ 9 6 (patternCheck s), at_ 0xA 7 (descCheck i), at_ 0xB 8 (sliceCheck i), at_ 0xC 9 (routeCheck i), at_ 0xD 0xA (guardCheck i),
     at_ 0xE 0xB (i.surrogate.bind surrogateCheck), at_ 0xF 0 (unlessOk (decide (i.wardenBytes ≤ 2097152)))]
  checks.findSome? id

end Sys2Proof.Machine
end

