-- ==== Sys2Proof/Machine/ConfigBytes.lean ====
section
/-! DEFINITION. The bytes of a configuration image: the directory and the records that the spec lays out, decoded into the image, and the
checks that concern the bytes themselves (R73, R86, R117, R226, R430 to R435, R440 to R442). Multi-byte fields are little-endian. -/

namespace Sys2Proof.Machine

/-! ## The directory -/

/-- One directory entry (R430): type, format version, the zero bytes, offset, length and CRC-32C. -/
structure DirEntry where
  typ : Nat
  version : Nat
  zero : Nat
  offset : Nat
  length : Nat
  crc : Nat
deriving Repr

/-- R430: the directory's entries. -/
def dirEntries (b : List Nat) : List DirEntry :=
  (piecesOf 16 (fieldAt b 4 1) (b.drop 16)).map fun e =>
    { typ := fieldAt e 0 1, version := fieldAt e 1 1, zero := fieldAt e 2 2, offset := fieldAt e 4 4, length := fieldAt e 8 4,
      crc := fieldAt e 12 4 }

/-- R430: whether two sections overlap. -/
def sectionsMeet (a b : DirEntry) : Bool := decide (a.offset < b.offset + b.length) && decide (b.offset < a.offset + a.length)

/-- Whether no entry meets a later one. -/
def disjointSections (l : List DirEntry) : Bool := match l with
  | [] => true
  | a :: r => r.all (fun b => ! sectionsMeet a b && a.typ != b.typ) && disjointSections r

/-- R430, R431: the first entry of the directory that fails, or 0 for the directory as a whole. A type may stand in it once. -/
def directoryCheck (r : ConfigRead) : Option Nat :=
  let b := r.directory
  let n := fieldAt b 4 1
  let es := dirEntries b
  let ok (e : DirEntry) (k : Nat) : Bool :=
    decide (1 ≤ e.typ) && decide (e.typ ≤ 13) && e.version == 1 && e.zero == 0 && e.offset % 256 == 0 &&
    decide (16 + 16 * n ≤ e.offset) && decide (e.offset + e.length ≤ r.check.bodyLength) && e.crc == r.crcs.getD k (2 ^ 32)
  if b.length ≠ 16 + 16 * n ∨ n < 1 ∨ 32 < n ∨ fieldAt b 0 4 ≠ 0x43464701 ∨ zeroAt b 5 11 = false then some 0
  else match firstBad es ok with
    | some k => some k
    | none => unlessOk (disjointSections es)

/-- The section types present, as CFG_SECTIONS shows them (R447). -/
def sectionBits (r : ConfigRead) : Nat := ofMembers ((dirEntries r.directory).map DirEntry.typ)

/-- R432: the bytes of the sections held in the warden. -/
def wardenBytesOf (r : ConfigRead) : Nat :=
  total (((dirEntries r.directory).filter fun e => [1, 2, 3, 4, 5, 0xB, 0xD].contains e.typ).map DirEntry.length)

/-! ## Warden sections -/

/-- R432: the tray description. -/
def decodeTray (b : List Nat) : Tray :=
  let h := fieldAt b 0 4
  let m := fieldAt b 4 4
  { hub := bits h 17 0, index := bits h 30 18, grouped := h.testBit 31, master := bits m 17 0, primary := bits m 20 18,
    secondary := bits m 23 21, secondaryValid := m.testBit 24, partitions := fieldAt b 8 1, map := fieldAt b 9 3,
    t4 := (fieldAt b 12 1).testBit 0, bridge := (fieldAt b 12 1).testBit 1, links0 := fieldAt b 13 1, links1 := fieldAt b 14 1,
    address := fieldAt b 144 16, notice := fieldAt b 160 16, noticePort := fieldAt b 176 2, prefixLen := fieldAt b 178 1 }

/-- R432: the Sotin ports of the tray description. -/
def decodePorts (b : List Nat) : Tab PortCfg :=
  (List.range 8).map fun k =>
    let w := fieldAt b (16 + 16 * k) 4
    (k, { peerHub := bits w 17 0, peerPort := bits w 20 18, kind := bits w 22 21, channel := bits w 25 23, pluggable := w.testBit 26,
          maxPowerClass := bits w 30 27, appCode := fieldAt b (20 + 16 * k) 4 })

/-- R432: the length of the tray description and its zero bytes. -/
def trayBytesOk (b : List Nat) : Bool :=
  b.length == 256 && decide (fieldAt b 12 1 < 4) && zeroAt b 15 1 && zeroAt b 179 77 &&
  (List.range 8).all fun k => zeroAt b (24 + 16 * k) 8

/-- R226: a rail table entry. -/
def decodeRail (b : List Nat) : RailCfg :=
  let f := fieldAt b
  { channel := bits (f 0 1) 5 0, withPrev := (f 0 1).testBit 6, owner := bits (f 1 1) 3 0, role := bits (f 1 1) 7 4, nominal := f 2 2,
    delay := f 4 2, debounce := 10 * f 6 2, timeout := 100 * f 8 2, faultAction := bits (f 10 1) 3 0, onFlag := (f 10 1).testBit 4,
    fallSense := (f 10 1).testBit 5, bindRank := f 11 1, master := bits (f 12 1) 1 0, page := bits (f 12 1) 7 2, address := bits (f 13 1) 6 0,
    discharge := 100 * f 14 2 }

/-- R226: the length of a rail table entry and its reserved bits. -/
def railBytesOk (b : List Nat) : Bool :=
  b.length == 16 && ! (fieldAt b 0 1).testBit 7 && bits (fieldAt b 10 1) 7 6 == 0 && ! (fieldAt b 13 1).testBit 7

/-- R434: a register load. -/
def decodeLoad (b : List Nat) : Nat × Nat := (fieldAt b 0 4, fieldAt b 4 4)

/-- R435: where the write records of the power section begin. -/
def writesAt (b : List Nat) : Nat := 144 + 8 * fieldAt b 0 2

/-- R435: the gauge plan, the profiles and the write records. -/
def decodePower (b : List Nat) (i : Image) : Image :=
  { i with
    hintProfile := fieldAt b 2 2
    gaugePlan := (List.range 64).map fun k => fieldAt b (16 + 2 * k) 2
    profiles := (piecesOf 8 (fieldAt b 0 2) (b.drop 144)).map fun p => { first := fieldAt p 0 4, prepare := fieldAt p 4 1, release := fieldAt p 5 1 }
    writes := (piecesOf 8 (fieldAt b 4 4) (b.drop (writesAt b))).map fun w =>
      { master := bits (fieldAt w 0 1) 1 0, page := bits (fieldAt w 0 1) 7 2, address := bits (fieldAt w 1 1) 6 0,
        avs := (fieldAt w 1 1).testBit 7, command := fieldAt w 2 1, length := bits (fieldAt w 3 1) 1 0, data := fieldAt w 4 2 } }

/-- R435: the length of the power section and its zero bytes. -/
def powerBytesOk (b : List Nat) : Bool :=
  b.length == writesAt b + 8 * fieldAt b 4 4 && zeroAt b 8 8 &&
  ((piecesOf 8 (fieldAt b 0 2) (b.drop 144)).all fun p => zeroAt p 6 2) &&
  (piecesOf 8 (fieldAt b 4 4) (b.drop (writesAt b))).all fun w => zeroAt w 6 2

/-- Words of `n` bytes each. -/
def wordsAt (b : List Nat) (o n count : Nat) : List Nat := (List.range count).map fun k => fieldAt b (o + n * k) n

/-- R440: the surrogate section. -/
def decodeSurrogate (b : List Nat) : Surrogate :=
  let n := fieldAt b 0 1
  let wx := 16 + 8 * 41
  let wh := wx + 2 * 41 * n
  let bo := wh + 2 * n * n
  let wy := bo + 4 * n
  let c := wy + 2 * 35 * n
  { nh := n, wt := fieldAt b 4 4, wv := fieldAt b 8 4, margin := fieldAt b 12 4,
    offset := (List.range 41).map fun k => fieldAt b (16 + 8 * k) 4, scale := (List.range 41).map fun k => fieldAt b (20 + 8 * k) 4,
    wx := wordsAt b wx 2 (41 * n), wh := wordsAt b wh 2 (n * n), b := wordsAt b bo 4 n, wy := wordsAt b wy 2 (35 * n),
    c := wordsAt b c 4 35,
    outScale := (List.range 35).map fun k => fieldAt b (c + 140 + 8 * k) 4,
    outOffset := (List.range 35).map fun k => fieldAt b (c + 144 + 8 * k) 4 }

/-- R440: the length that n_h gives the surrogate section. -/
def surrogateLength (b : List Nat) : Nat :=
  let n := fieldAt b 0 1
  16 + 8 * 41 + 2 * (41 * n + n * n) + 4 * n + 2 * 35 * n + 12 * 35

/-- R431: the commander keys that are not all zero. -/
def decodeKeys (b : List Nat) : Nat := ofMembers ((List.range 8).filter fun k => ! zeroAt b (1952 * k) 1952)

/-! ## Hub sections -/

/-- R73: a pattern header with its dies' row lists. -/
def decodePattern (b : List Nat) (rows0 rows1 : List (List Nat)) : Sys2Proof.Pattern :=
  let f := fieldAt b
  { number := f 0 1, nominal := f 4 4, domains0 := bits (f 0x10 4) 26 0, domains1 := bits (f 0x14 4) 26 0, tiles0 := f 0x18 8, tiles1 := f 0x20 8,
    linkShare := f 0x28 1, poolShare := f 0x29 1, successor := f 0x2A 1, successorValid := (f 0x2B 1).testBit 0, msets := f 0x2C 8,
    marks := (List.range (bits (f 0x34 1) 4 0)).map fun k =>
      let w := f (0x40 + 4 * k) 4
      { mark := bits w 7 0, quorum := bits w 11 8, angle := bits w 31 16 }
    rows0 := (rows0.drop (f 8 2)).take (f 10 2)
    rows1 := (rows1.drop (f 12 2)).take (f 14 2) }

/-- R73: the length of a pattern header, its zero fields, and what it says of its row lists. -/
def headerBytesOk (b : List Nat) (rows0 rows1 : Nat) : Bool :=
  let f := fieldAt b
  b.length == 128 && bits (f 0 4) 31 10 == 0 && (f 0 4).testBit 8 == (f 10 2 != 0) && (f 0 4).testBit 9 == (f 14 2 != 0) &&
  decide (f 10 2 ≤ 4096) && decide (f 14 2 ≤ 4096) && decide (f 8 2 + f 10 2 ≤ rows0) && decide (f 12 2 + f 14 2 ≤ rows1) &&
  decide (bits (f 0x34 1) 4 0 ≤ 16) && zeroAt b 0x38 8 && (List.range (bits (f 0x34 1) 4 0)).all fun k => bits (f (0x40 + 4 * k) 4) 15 12 == 0

/-- R117: a stage record. -/
def decodeStage (b : List Nat) : Stage :=
  let w := ofBytes (b.take 16)
  { kind := bits w 3 0, size := bits w 16 4 + 1, position := bits w 29 17, nextPorts := bits w 37 30, prevPorts := bits w 45 38,
    nextHops := bits w 48 46, nextPath := bits w 63 49, prevHops := bits w 66 64, prevPath := bits w 81 67, peer := bits w 99 82,
    face := bits w 111 100 }

/-- R117: a route entry. -/
def decodeRoute (b : List Nat) : Route :=
  let w := fieldAt b 0 4
  let n0 := bits w 13 10 + 1
  let n1 := bits w 17 14
  { strands := bits w 1 0, weight := bits w 9 2, hall := w.testBit 18, chunk := fieldAt b 4 2, staging := fieldAt b 6 2,
    stages0 := (piecesOf 16 n0 (b.drop 16)).map decodeStage, stages1 := (piecesOf 16 n1 (b.drop (16 + 16 * n0))).map decodeStage }

/-- R117: the length of a route entry and its reserved bits. -/
def routeBytesOk (b : List Nat) : Bool :=
  let w := fieldAt b 0 4
  let n := bits w 13 10 + 1 + bits w 17 14
  b.length == 16 + 16 * n && bits w 31 19 == 0 && zeroAt b 8 8 && (piecesOf 16 n (b.drop 16)).all fun g => zeroAt g 14 2

/-- R436, R437: the slice library: a directory of `n` entries of 8 bytes, each with its sequence's place in the section, its length in
micro-ops of 8 bytes, its state words and its kind. The number of entries is the section's own; R437 places no field for it (log 78). -/
def decodeSlices (b : List Nat) (n : Nat) : List SliceSeq :=
  (piecesOf 8 n b).map fun e =>
    { ops := wordsAt b (fieldAt e 0 4) 8 (fieldAt e 4 2), stateWords := fieldAt e 6 1, kind := fieldAt e 7 1 }

/-- R437: a directory entry's sequence lies inside the section, after the directory. -/
def sliceBytesOk (b : List Nat) (n : Nat) (e : List Nat) : Bool :=
  decide (8 * n ≤ fieldAt e 0 4) && decide (fieldAt e 0 4 + 8 * fieldAt e 4 2 ≤ b.length)

/-- R431: the records of the pool preload, `fuel` at most; none where one is malformed. -/
def decodePreload (fuel : Nat) (b : List Nat) : Option (List (Nat × List Nat)) := match fuel with
  | 0 => if b.isEmpty then some [] else none
  | k + 1 =>
    if b.isEmpty then some []
    else
      let n := fieldAt b 8 4
      if b.length < 16 + n ∨ zeroAt b 12 4 = false then none
      else (decodePreload k (b.drop (16 + n))).map fun l => (fieldAt b 0 8, (b.drop 16).take n) :: l

/-! ## The image -/

/-- The image that a reading gives. -/
def configImage (r : ConfigRead) : Image :=
  decodePower r.power
    { r.rest with
      tray := decodeTray r.tray
      ports := decodePorts r.tray
      rails := r.rails.map decodeRail
      loads := r.loads.map decodeLoad
      surrogate := r.surrogate.map decodeSurrogate
      patterns := (r.headers.map fun h => decodePattern h r.rows0 r.rows1).foldl (fun t p => tput t p.number p) []
      descs := r.descs.map fun d => (d.1, decodeDesc (ofBytes d.2))
      slices := decodeSlices r.slices r.sliceCount
      routes := r.routes.map fun e => (e.1, decodeRoute e.2)
      preload := (decodePreload r.preload.length r.preload).getD []
      keys := decodeKeys r.keys
      sections := sectionBits r
      wardenBytes := wardenBytesOf r
      version := r.check.version
      svn := r.check.svn
      digest := r.check.digest }

/-- R441, R442: the first failure that concerns the bytes themselves, as reason, section type and entry. A malformed preload or key section has
reason 0x3, which R442 gives no other (DESIGN CHOICE, log 78). -/
def bytesFailure (r : ConfigRead) : Option (Nat × Nat × Nat) :=
  let at_ (reason sec : Nat) (k : Option Nat) : Option (Nat × Nat × Nat) := k.map fun k => (reason, sec, k)
  [at_ 3 0 (directoryCheck r), at_ 4 1 (unlessOk (trayBytesOk r.tray)), at_ 5 2 (firstBad r.rails fun b _ => railBytesOk b),
   at_ 7 4 (firstBad r.loads fun b _ => b.length == 8), at_ 8 5 (unlessOk (powerBytesOk r.power)),
   at_ 9 6 (firstBad r.headers fun b k => headerBytesOk b r.rows0.length r.rows1.length &&
     ! ((r.headers.take k).any fun h => fieldAt h 0 1 == fieldAt b 0 1)),
   at_ 0xA 7 ((r.descs.find? fun d => d.2.length != 32).map Prod.fst), at_ 0xB 8 (firstBad (piecesOf 8 r.sliceCount r.slices) fun e _ => sliceBytesOk r.slices r.sliceCount e),
   at_ 0xC 9 ((r.routes.find? fun e => ! routeBytesOk e.2).map Prod.fst),
   at_ 0xE 0xB (unlessOk (r.surrogate.all fun b => b.length == surrogateLength b)),
   at_ 3 0xC (unlessOk (decodePreload r.preload.length r.preload).isSome), at_ 3 0xD (unlessOk (r.keys.length == 8 * 1952))].findSome? id

/-- R442: the first failure that Steward finds: of the reading, of the bytes, then of the sections' content. -/
def configFailure (s : State) (r : ConfigRead) : Option (Nat × Nat × Nat) :=
  (r.bad.orElse fun _ => bytesFailure r).orElse fun _ => sectionFailure s (configImage r)

end Sys2Proof.Machine
end

