-- ==== Sys2Proof/Machine/Package.lean ====
section
/-! DEFINITION. Supply, resets, references, switched domains and the release of hub dies (R30 to R42, R67, R332, R333, R473, R499, R503, R508,
R510, R511). -/

namespace Sys2Proof.Machine

/-! ## Device resets -/

/-- R456, R458, R459: a trickle that outlived the reset is the open transfer, paused, with the skeins that its bitmap marks. -/
def resumeTrickle (s : State) : State := match s.flash.trickle with
  | none => s
  | some t =>
    let x : Xfer := { trickle := true, paused := true, typ := t.typ, length := t.length, got := t.bitmap }
    let s := { s with upd := { s.upd with xfer := some x } }
    ((s.wr R.UPD_XFER.kind 3).wr R.UPD_XFER.type t.typ).wr R.UPD_XFER_DONE.count (popcount t.bitmap (divUp t.length 256))

/-- R39, R66, R473, R478: the device as a warden power-on reset leaves it: flash and OTP are kept, and registers loaded from OTP show it. An open
block transfer is abandoned (R456). -/
def deviceReset (s : State) (source : Nat) (on : Bool) : State :=
  let block : Option Xfer := s.upd.xfer.filter fun (x : Xfer) => ! x.trickle
  let f : State :=
    { pending := s.pending, now := s.now, out := s.out, freeCtr := s.freeCtr, flash := s.flash, otp := s.otp,
      mgt := { heardRm := s.now, heardHost := s.now },
      sup := { standby := s.sup.standby, riseAt := s.sup.riseAt, wardenOn := on, onAt := s.now, resetSource := source } }
  let m := highestMarker s.otp
  let f := (f.wr R.SEC_STATUS.marker m).wr R.SEC_STATUS.state (markerState m)
  let f := ((f.wr R.SEC_KEYS.maker_revoked s.otp.makerRevoked).wr R.SEC_KEYS.owner0_revoked s.otp.owner0Revoked).wr
    R.SEC_KEYS.owner1_revoked s.otp.owner1Revoked
  let f := (f.wr R.SEC_SERIAL_LO.serial (bits s.otp.serial 31 0)).wr R.SEC_SERIAL_HI.serial (bits s.otp.serial 63 32)
  let f := (List.range 6).foldl (fun f i => f.wr (R.UPD_SVN.counter i) (tget s.otp.svn (i + 1))) f
  let f := (List.range 6).foldl (fun f i => if s.flash.incomplete.testBit (i + 1) then setRegion f (i + 1) 2 else f) f
  let id := if m = 0 then 0 else identityOf s.otp.secret
  let f := (List.range 16).foldl (fun f i => f.wr (R.SEC_ID_DIGEST.bytes i) (id / 2 ^ (32 * i) % 2 ^ 32)) f
  -- R484: a part that is BLANK or MAKER has all debug scopes open
  let f := if markerState m < 2 then f.wr R.SEC_DEBUG.scope 0xF else f
  let f := if on then seedArbiter f else f
  -- R486: token access closes
  let f := if on ∧ s.rd R.SEC_DEBUG.source ≠ 0 then f.event 0x0183 0 (atByte 0 3) else f
  if on then resumeTrickle (match block with
    | some x => (f.wr R.UPD_STATUS.abandoned 1).event 0x0101 0 (atByte 0 x.typ)
    | none => f)
  else { f with upd := { f.upd with xfer := block } }

/-- R499: VDD_STBY passes 3.05 V: the count of 1 ms to the release of the power-on reset starts. -/
def standbyRise (s : State) : State :=
  if s.sup.standby then s else { s with sup := { s.sup with standby := true, riseAt := s.now, wardenOn := false } }

/-- R17, R499: VDD_STBY falls: every output floats and the device waits for a new power-on reset. -/
def standbyFall (s : State) : State :=
  let f := deviceReset s 0 false
  { f with sup := { f.sup with standby := false } }

/-- R39, R499: the warden power-on reset ends 1 ms after the rise. -/
def wardenPowerOnReset (s : State) : State :=
  if ¬ s.sup.standby ∨ s.sup.wardenOn = true ∨ s.now < s.sup.riseAt + 1000 then s else deviceReset s 0 true

/-- R39, R503: WARDEN_RST_N has been low for 10 µs: the whole device is reset, every RAIL_EN drops at once and every ACC_PERST_N is
asserted, as the fresh state has them. -/
def wardenRstN (s : State) : State := if s.sup.standby ∧ s.sup.wardenOn then deviceReset s 1 true else s

/-! ## Switched domains -/

/-- The starts of a die still to be made. -/
def waitingStarts (s : State) (d : Nat) : List Nat := ((tget s.sup.dies d).starting.filter fun p => decide (s.now < p.2)).map Prod.fst

/-- R31: the waiting starts of a die in ascending domain number, one in any 20 µs after the last that was made. -/
def scheduleStarts (s : State) (d : Nat) (l : List Nat) : State :=
  let x := tget s.sup.dies d
  let made := x.starting.filter fun p => decide (p.2 ≤ s.now)
  let last := x.lastMade s.now
  let first := match last with
    | none => s.now
    | some t => max s.now (t + 20)
  let order := (List.range 27).filter fun n => l.contains n
  let plan : Tab Nat := order.zipIdx.foldl (fun t p => tput t p.1 (first + 20 * p.2)) made
  s.modDie d fun x => { x with starting := plan, lastStart := last }

/-- R31, R34: domains of a die are requested on: those that are off and not already started; none while its kiln trip is active. -/
def requestDomains (s : State) (d set : Nat) : State :=
  if kilnActive s d then s
  else
    let busy := (tget s.sup.dies d).starting.map Prod.fst
    let new := (members set 27).filter fun n => ! s.domainOn d n && ! busy.contains n
    let s := s.modDie d fun x => { x with offPending := setMinus x.offPending set }
    let s := s.wr (R.PWR_DOMAIN_H.pending d) (b2n ((tget s.sup.dies d).offPending != 0))
    if new.isEmpty then s else scheduleStarts s d (waitingStarts s d ++ new)

/-- Whether an agent may ask the domain controller (R30). -/
def asksDomains (a : Agent) : Bool := a == .steward || a == .proc 1

/-- R30, R31, R34: DOMAIN_SWITCH_REQUEST. A request that an active kiln trip refuses is answered DENIED (DESIGN CHOICE, log 71: R34 names no
response). -/
def domainSwitchRequest (a : Agent) (d n : Nat) (s : State) : State :=
  if ¬ asksDomains a then s.answer .denied 0 0
  else if 2 ≤ d ∨ 27 ≤ n then s.answer .invalid 0 0
  else if kilnActive s d then s.answer .denied 0 0
  else (requestDomains s d (1 <<< n)).answer .ok 0 0

/-! ## Selection after a release -/

/-- The domains of a die that a pattern names, that are off and that no kiln trip holds off (R510). -/
def lackedDomains (s : State) (p : Sys2Proof.Pattern) (d : Nat) : Nat :=
  if s.dieUp d ∧ ! kilnActive s d then setMinus (patternDomains p d) (s.rd (R.PWR_DOMAIN_H.on d)) else 0

/-- R41, R510: the selection that Steward is to write: the domains that its pattern lacks are requested, and it is written once they are on; after a
release, once every die that nothing holds runs with its memory trained. -/
def trySelect (s : State) : State := match s.sup.want with
  | none => s
  | some x =>
    let idle (d : Nat) : Bool := (tget s.sup.dies d).holds != 0 || (s.dieUp d && (tget s.sup.dies d).trained)
    match tfind s.pat.lib x.pattern with
    | none => s
    | some p =>
      if ¬ s.anyDieUp then s
      else if lackedDomains s p 0 ≠ 0 ∨ lackedDomains s p 1 ≠ 0 then
        requestDomains (requestDomains s 0 (lackedDomains s p 0)) 1 (lackedDomains s p 1)
      else if x.both && ! (idle 0 && idle 1) then s
      else
        let s := writeNext true false x.pattern 0 { s with sup := { s.sup with want := none } }
        if x.restart then restartNext s else s

/-- R31, R35: DOMAIN_ON_COMPLETE: a domain is on within 50 µs of its start. -/
def domainOnComplete (d n : Nat) (s : State) : State := match tfind (tget s.sup.dies d).starting n with
  | none => s
  | some t =>
    if s.now < t ∨ 2 ≤ d then s
    else
      let s := s.modDie d fun x => { x with starting := tdel x.starting n, lastStart := some (max t (x.lastStart.getD 0)) }
      let s := s.wr (R.PWR_DOMAIN_H.on d) (setBit (s.rd (R.PWR_DOMAIN_H.on d)) n true)
      trySelect (refreshLinks s)

/-- R32: DOMAIN_OFF_REQUEST: a domain that the active pattern uses waits for a boundary. A start not yet complete is abandoned, and the starts
that wait behind it move up (R31). -/
def domainOffRequest (a : Agent) (d n : Nat) (s : State) : State :=
  if ¬ asksDomains a then s.answer .denied 0 0
  else if 2 ≤ d ∨ 27 ≤ n then s.answer .invalid 0 0
  else
    let used := match s.activePattern with
      | some p => patternDomains p d
      | none => 0
    let waits := (waitingStarts s d).filter fun k => k != n
    let s := s.modDie d fun x => { x with starting := tdel x.starting n, lastStart := x.lastMade s.now }
    let s := if waits.isEmpty then s else scheduleStarts s d waits
    let s := if used.testBit n ∧ s.dieUp d then
        (s.modDie d fun x => { x with offPending := setBit x.offPending n true }).wr (R.PWR_DOMAIN_H.pending d) 1
      else switchOff s d (1 <<< n)
    s.answer .ok 0 0

/-! ## Releases -/

/-- R63, R66, R67: group time is loaded when the first hub die is released: 0 after a warden power-on reset, else from the warden's continuation
counter. -/
def loadGroupTime (s : State) : State :=
  let g := s.gt
  let t := if g.everRun then continuation s else 0
  { s with gt := { g with time := t, everRun := true, lastSend := t, lastValid := t, holdStart := t } }

/-- R63, R66: H0, which keeps the counter, is released: a member starts in ACQUIRE at the rate last learnt, the master in MASTER at rate 0. Where
H1 ran, H0's counter takes up its copy (DESIGN CHOICE, log 71). -/
def startTime (s : State) : State :=
  if trayIsMaster s.tree then { s with gt := { s.gt with state := 4, freq := 0, rate := 0 } }
  else { s with gt := { s.gt with state := 0, rate := s.gt.freq } }

/-- R367, R370, R374: link-and-queue processor `p` of a die that is released starts with its watchdog armed. One that is halted stays halted, and
its duties stay carried under R373. -/
def startQueueProc (s : State) (p : Nat) : State :=
  if s.rd (R.FW_PROC.state p) = 3 then s.wr (lqBusy p) 1
  else (s.wr (R.FW_PROC.state p) 1).modProc p fun q => { q with armed := true, kickedAt := s.now }

/-- R42, R67, R71, R366, R367, R508, R510: a hub die leaves reset: its registers hold their Reset values, HUBCTL is copied and its two processors
start, and all of its domains are requested. With no die running before, the pattern that Steward is to select is the one that was active, or
after a device start the initial one (R333, R511). -/
def releaseDie (s : State) (d : Nat) : State :=
  let first := ! s.anyDieUp
  let s := if first then loadGroupTime { s with mem := { s.mem with snapCount := 0 } } else { s with own := tput s.own d {} }
  let s := if d = 0 ∨ first then startTime s else s
  let s := s.modDie d fun x => { x with released := true, releasedAt := s.now, sections := false, trained := false }
  let s := [4 + 2 * d, 5 + 2 * d].foldl startQueueProc s
  let want := match s.pat.mirror.pattern with
    | some n => n
    | none => s.img.initial
  let s := if first then { s with sup := { s.sup with want := some { pattern := want } } } else s
  let s := milestone s (3 + d)
  requestDomains s d (2 ^ 27 - 1)

/-- R40, R337: whether a die may be released. -/
def mayRelease (s : State) (d : Nat) : Bool :=
  ! s.dieUp d && (tget s.sup.dies d).holds == 0 && s.seq.state == 2 && ! s.on R.ERR_STATUS.hub_latched && ! kilnActive s d &&
  s.rd R.CFG_STATUS.state == 1 && s.rd R.UPD_STATUS.loader == 1

/-- HUB_RELEASE: Steward releases a die that nothing holds (R40). One that is held answers RETRY. -/
def hubRelease (a : Agent) (d : Nat) (s : State) : State :=
  if a ≠ .steward then s.answer .denied 0 0
  else if 2 ≤ d then s.answer .invalid 0 0
  else if s.dieUp d then s.answer .ok 0 0
  else if ! mayRelease s d ∨ s.itg.containAt.any (fun t => decide (s.now < t + 10000)) then s.answer .retry 0 10
  else (releaseDie s d).answer .ok 0 0

/-- CONTAINMENT_RELEASE: 10 ms into native containment Steward releases both dies, provided their references are in range (R332, R333, R336).
Where the tray is no longer ON the containment is abandoned. -/
def containmentRelease (s : State) : State := match s.itg.containAt with
  | none => s
  | some t =>
    if s.seq.state ≠ 2 ∧ ¬ s.anyDieUp then { s with itg := { s.itg with containAt := none, selfRefresh := 0 } }.wr R.ERR_STATUS.containing 0
    else if s.now < t + 10000 ∨ s.sup.refFailed / 2 ≠ 0 ∨ ¬ s.procUp 0 then s
    else [0, 1].foldl (fun s d => if mayRelease s d then releaseDie s d else s) s

/-- R41: the lowest-numbered pattern that uses only die `d` and is not refused. -/
def singleDiePattern (s : State) (d : Nat) : Option Nat :=
  (s.pat.lib.find? fun p => usesDie p.2 d && ! usesDie p.2 (1 - d) && ! refused s p.1).map Prod.fst

/-- R41, R511: what follows the reset of one die by Steward or by a kiln trip: the remaining die's pattern, or a reset of both. -/
def afterSingleReset (s : State) (d : Nat) : State :=
  if ¬ s.dieUp (1 - d) then s
  else match singleDiePattern s (1 - d) with
    | some n => restartNext (writeNext true false n 0 s)
    | none => resetDie s (1 - d)

/-- R41, R511: where an event has stopped one of two running dies, Steward selects for the other. -/
def dieLost (before after : State) : State :=
  if before.dieUp 0 ∧ ¬ after.dieUp 0 then afterSingleReset after 0
  else if before.dieUp 1 ∧ ¬ after.dieUp 1 then afterSingleReset after 1
  else after

/-- KILN_TRIP with what Steward does for the other die (R41, R293). -/
def kilnTripEvent (d sensors : Nat) (s : State) : State := dieLost s (kilnTrip d sensors s)

/-- RAIL_FAULT with what Steward does for the other die (R41, R234). -/
def railFaultEvent (c : Nat) (s : State) : State := dieLost s (railFault c s)

/-- RAIL_PG_CHANGE with what Steward does for the other die (R41, R230, R234). -/
def railPgEvent (c : Nat) (high : Bool) (s : State) : State := dieLost s (railPgChange c high s)

/-- HUB_RESET_SINGLE: Steward resets one die (R39, R41). -/
def hubResetSingle (a : Agent) (d : Nat) (s : State) : State :=
  if a ≠ .steward then s.answer .denied 0 0
  else if 2 ≤ d then s.answer .invalid 0 0
  else if ¬ s.dieUp d then s.answer .ok 0 0
  else (afterSingleReset (resetDie s d) d).answer .ok 0 0

/-! ## References -/

/-- R36: for each reference, since when it has been out of range. -/
def noteReferences (s : State) (ppm : List Nat) : State :=
  let out (i : Nat) : Bool := decide (1000 < ppm.getD i 0)
  let t : Tab Nat := (List.range 5).foldl (fun t i => if out i then tput t i (tgetD s.sup.refOut i s.now) else tdel t i) s.sup.refOut
  let hubBad := (List.range 5).any fun i => i != 0 && out i
  { s with sup := { s.sup with refOut := t, refGoodSince := if hubBad then s.now else s.sup.refGoodSince } }

/-- R37: the crystal has failed: the warden moves to the RC oscillator until its next power-on reset, and the management port goes down. The
record is a warning (R509); R37 names neither its class nor its unit: class 0x0F, Firmware, and Steward (DESIGN CHOICE, log 71). -/
def crystalFail (s : State) : State :=
  let s := { s with sup := { s.sup with crystalFailed := true, portDown := true, refFailed := setBit s.sup.refFailed 0 true } }
  (s.wr R.MGT_STATUS.port_up 0).err 0 0 0x0F 2 0

/-- R38: a hub reference has failed: both dies are reset as by native containment, and held. Dies that a containment in progress has released
again are reset again, with their memory in self-refresh; R336 absorbs its count and record. R38 gives the containment no cause class or unit: class
0 and the crossbar of the die whose reference failed (DESIGN CHOICE, log 71). -/
def hubReferenceFail (s : State) (i : Nat) : State :=
  let s := { s with sup := { s.sup with refFailed := setBit s.sup.refFailed i true } }
  let s := [0, 1].foldl (fun s d => s.modDie d fun x => { x with holds := setBit x.holds 2 true }) s
  let s := nativeContain s 0 (0x1000 * ((i - 1) / 2 + 1) + 0xC0)
  let s := if s.anyDieUp then { s with itg := { s.itg with selfRefresh := 0xFFFF003F } } else s
  [0, 1].foldl (fun s d => if s.dieUp d then resetDie s d else s) s

/-- R36: REFERENCE_CHECK: each reference that has been more than 1,000 ppm off for 1 ms fails. -/
def referenceCheck (ppm : List Nat) (s : State) : State :=
  let s := noteReferences s ppm
  let failed (i : Nat) : Bool := match tfind s.sup.refOut i with
    | some t => decide (t + 1000 ≤ s.now) && ! s.sup.refFailed.testBit i
    | none => false
  let s := if failed 0 ∧ ¬ s.sup.crystalFailed then crystalFail s else s
  [1, 2, 3, 4].foldl (fun s i => if failed i then hubReferenceFail s i else s) s

/-- R38: HUB_REFERENCE_RECOVER: every hub reference has been in range for 10 ms, and the hold of both dies ends. -/
def hubReferenceRecover (s : State) : State :=
  if s.sup.refFailed / 2 = 0 ∨ s.now < s.sup.refGoodSince + 10000 ∨ [1, 2, 3, 4].any (fun i => (tfind s.sup.refOut i).isSome) = true then s
  else
    let s := { s with sup := { s.sup with refFailed := s.sup.refFailed % 2 } }
    [0, 1].foldl (fun s d => s.modDie d fun x => { x with holds := setBit x.holds 2 false }) s

/-- STANDBY_RISE. -/
def execStandbyRise (s : State) : Host.Outcome State Fault Refusal := .next (standbyRise s)
/-- STANDBY_FALL. -/
def execStandbyFall (s : State) : Host.Outcome State Fault Refusal := .next (standbyFall s)
/-- WARDEN_POWER_ON_RESET. -/
def execWardenPowerOnReset (s : State) : Host.Outcome State Fault Refusal := .next (wardenPowerOnReset s)
/-- WARDEN_RST_N. -/
def execWardenRstN (s : State) : Host.Outcome State Fault Refusal := .next (wardenRstN s)
/-- DOMAIN_SWITCH_REQUEST. -/
def execDomainSwitchRequest (agent : Agent) (die domain : Nat) (s : State) : Host.Outcome State Fault Refusal :=
  .next (domainSwitchRequest agent die domain s)
/-- DOMAIN_ON_COMPLETE. -/
def execDomainOnComplete (die domain : Nat) (s : State) : Host.Outcome State Fault Refusal := .next (domainOnComplete die domain s)
/-- DOMAIN_OFF_REQUEST. -/
def execDomainOffRequest (agent : Agent) (die domain : Nat) (s : State) : Host.Outcome State Fault Refusal :=
  .next (domainOffRequest agent die domain s)
/-- HUB_RELEASE. -/
def execHubRelease (agent : Agent) (die : Nat) (s : State) : Host.Outcome State Fault Refusal := .next (hubRelease agent die s)
/-- CONTAINMENT_RELEASE. -/
def execContainmentRelease (s : State) : Host.Outcome State Fault Refusal := .next (containmentRelease s)
/-- HUB_RESET_SINGLE. -/
def execHubResetSingle (agent : Agent) (die : Nat) (s : State) : Host.Outcome State Fault Refusal :=
  .next (hubResetSingle agent die s)
/-- REFERENCE_CHECK. -/
def execReferenceCheck (ppm : List Nat) (s : State) : Host.Outcome State Fault Refusal := .next (referenceCheck ppm s)
/-- HUB_REFERENCE_RECOVER. -/
def execHubReferenceRecover (s : State) : Host.Outcome State Fault Refusal := .next (hubReferenceRecover s)

/-- KILN_TRIP. -/
def execKilnTrip (die sensors : Nat) (s : State) : Host.Outcome State Fault Refusal := .next (kilnTripEvent die sensors s)
/-- RAIL_FAULT. -/
def execRailFault (channel : Nat) (s : State) : Host.Outcome State Fault Refusal := .next (railFaultEvent channel s)
/-- RAIL_PG_CHANGE. -/
def execRailPgChange (channel : Nat) (high : Bool) (s : State) : Host.Outcome State Fault Refusal :=
  .next (railPgEvent channel high s)

end Sys2Proof.Machine
end

