-- ==== Sys2Proof/Machine/Startup.lean ====
section
/-! DEFINITION. Start-up: the loader, the WARDEN, HUBCTL and CONFIG images, the hub sections and memory training (R432, R433, R441 to R446, R452,
R453, R469, R476, R477, R483). -/

namespace Sys2Proof.Machine

/-! ## The loader -/

/-- A warden processor starts: its watchdog is armed (R367). One that is halted stays halted (R374). -/
def startProc (s : State) (p : Nat) : State :=
  if s.rd (R.FW_PROC.state p) = 3 then s
  else (s.wr (R.FW_PROC.state p) 1).modProc p fun q => { q with armed := true, kickedAt := s.now, released := false }

/-- LOADER_VERIFY: the boot ROM starts the loader, or stays in ROM hold (R445, R476). -/
def loaderVerify (c : ImageCheck) (s : State) : State :=
  if ¬ s.sup.wardenOn ∨ s.sup.loaderStarted = true ∨ s.sup.romHold = true then s
  else if (imageVerdict s 1 c).isSome ∨ s.lifeState = 0 ∨ s.lifeState = 5 then { s with sup := { s.sup with romHold := true } }
  else
    let s := { s with sup := { s.sup with loaderStarted := true, w1At := s.now } }
    let s := measure (measure (verifiedImage s 1 c) 0 c.digest) 5 s.flash.pushed
    startSvn (startProc (s.wr R.PWR_DOMAIN_W.w1_on 1) 0) 1

/-- R453: the loader holds in AWAITING: Steward runs it alone and Power, Cooling and Recorder are held in reset; one that
is halted stays halted (R374). Cooling is in FLOOR mode (R286). -/
def enterAwaiting (s : State) : State :=
  let s := s.wr R.UPD_STATUS.loader 2
  let s := (s.wr R.COOL_STATUS.mode 2).wr R.COOL_STATUS.table_reason 0
  [1, 2, 3].foldl (init := s) fun s p =>
    if s.rd (R.FW_PROC.state p) = 3 then s else
    let s := s.wr R.FW_STATUS.restarting (setBit (s.rd R.FW_STATUS.restarting) p true)
    (s.wr (R.FW_PROC.state p) 2).modProc p fun q => { q with armed := false }

/-- R483: a loader that starts in RETURNED revokes the bank and erases the settings area and the owner records. The management address goes with
the commander keys, as the worked example of the return path has it (DEDUCED, log 83). -/
def returnedErasure (s : State) : State := match s.lifeState, s.ownerBank with
  | 4, some b =>
    let o := if b = 0 then { s.otp with owner0Revoked := s.otp.owner0Revoked ||| 0xF }
      else { s.otp with owner1Revoked := s.otp.owner1Revoked ||| 0xF }
    let fresh : Settings := { ringRef := s.flash.settings.ringRef }
    let keep (k : Nat × Nat) : Bool := decide (8 ≤ k.1) && decide (k.1 < 12)
    let s := { s with otp := o, flash := { s.flash with settings := fresh, used := false, ownerKeys := [], keys := 0, address := 0,
                                                        signCtr := s.flash.signCtr.filter keep, tokenCtr := s.flash.tokenCtr.filter keep } }
    let s := (s.wr R.SEC_KEYS.owner0_revoked s.otp.owner0Revoked).wr R.SEC_KEYS.owner1_revoked s.otp.owner1Revoked
    s.event 0x0184 0 (atByte 0 b)
  | _, _ => s

/-- R469: the records of a kind that the image's migration table knows are kept. Kinds, by bit: off records, the budget, the rack
manager's caps, the host's caps, the pin, observed units. -/
def migrated (old : Settings) (known : Nat) : Settings :=
  { offBy := if known.testBit 0 then old.offBy else 0, budget := if known.testBit 1 then old.budget else none,
    capRm := if known.testBit 2 then old.capRm else 0xFFFF, partRm := if known.testBit 2 then old.partRm else [],
    capHost := if known.testBit 3 then old.capHost else 0xFFFF, partHost := if known.testBit 3 then old.partHost else [],
    fixed := if known.testBit 4 then old.fixed else none, pin := if known.testBit 4 then old.pin else 0x30,
    units := if known.testBit 5 then old.units else [], ringRef := old.ringRef }

/-- R469: a settings area of another version is migrated on a hub of a cadence group, and cleared on any other. -/
def settingsVersion (s : State) (version known : Nat) : State :=
  let s := (s.wr R.UPD_SETTINGS.image version).wr R.UPD_SETTINGS.store s.flash.version
  if s.flash.version = version then s
  else if ¬ s.flash.used then { s with flash := { s.flash with version := version } }
  else
    let old := s.flash.version
    let next := if s.flash.grouped then migrated s.flash.settings known else { ringRef := s.flash.settings.ringRef }
    let s := { s with flash := { s.flash with settings := next, version := version, generation := s.flash.generation + 1, used := s.flash.grouped } }
    s.event (if s.flash.grouped then 0x0107 else 0x0106) 0 (atByte 0 old + atByte 2 version)

/-- R377: the trace enables of an image. -/
def loadTrace (s : State) (w h : Nat) : State :=
  (List.range 8).foldl (init := s) fun s i =>
    (s.wr (R.FW_TRACE_W.enable i) (w / 2 ^ (32 * i) % 2 ^ 32)).wr (R.FW_TRACE_H.enable i) (h / 2 ^ (32 * i) % 2 ^ 32)

/-- R367, R477: what starts with a verified WARDEN image: settings, features, measurements and the three processors. -/
def startWarden (s : State) (c : CodeImages) : State :=
  let s := measure (measure (verifiedImage (verifiedImage s 2 c.warden) 3 c.hubctl) 1 c.warden.digest) 2 c.hubctl.digest
  let s := settingsVersion s c.settings c.known
  let s := (c.copies.take 3).zipIdx.foldl (fun s p => measure s (6 + p.2) p.1) s
  let s := loadTrace { s with upd := { s.upd with features := setBit c.features 0 true } } c.traceW c.traceH
  let s := s.wr R.FW_STATUS.restarting 0
  let s := startProc (startProc (startProc s 1) 2) 3
  milestone (startSvn (startSvn s 2) 3) 0

/-- Whether the code images have been verified in this device start (R445, R452). -/
def codeVerified (s : State) : Bool := s.rd (R.CFG_MILESTONE.ms 0) != 0xFFFFFFFF

/-- WARDEN_VERIFY: the loader in VERIFY checks the code images (R452, R453). -/
def wardenVerify (c : CodeImages) (s : State) : State :=
  if ¬ s.sup.loaderStarted ∨ s.rd R.UPD_STATUS.loader ≠ 0 ∨ codeVerified s = true then s
  else
    let s := returnedErasure s
    match imageVerdict s 2 c.warden with
    | some r => enterAwaiting (verifyFailed s 2 r 0x4005)
    | none =>
      match imageVerdict s 3 c.hubctl with
      | some r => enterAwaiting (verifyFailed s 3 r 0x4005)
      | none => startWarden s c

/-! ## The configuration image -/

/-- R442: the first validation failure is shown and recorded. -/
def configError (s : State) (reason sec entry : Nat) : State :=
  let s := if s.on R.CFG_ERROR.valid then s
    else (((s.wr R.CFG_ERROR.valid 1).wr R.CFG_ERROR.reason reason).wr R.CFG_ERROR.section sec).wr R.CFG_ERROR.entry entry
  s.err 0x0014 0x4005 0x11 3 (atByte 0 reason + atByte 1 sec + atByte 2 (entry % 65536))

/-- R443: a rejected image: no section of it is used. After a full restart the rails stay as they were held and every ACC_PERST_N is
asserted. -/
def configReject (s : State) (reason sec entry : Nat) : State :=
  let s := configError (s.wr R.CFG_STATUS.state 2) reason sec entry
  let s := if s.cfg.oldRails.isSome then assertPerst { s with img := { rails := s.img.rails } } 0xFF else s
  enterAwaiting { s with seq := { s.seq with verified := false } }

/-- R451: the reason of R442 that a verification failure maps to, with CFG_ERROR.entry. -/
def mappedReason (r : Nat) : Nat × Nat := if r = 1 then (1, 0) else if r = 6 then (1, 0xFFFF) else (2, 0)

/-- R433, R468: what the settings store holds takes the place of the image's values. -/
def applyStore (s : State) : State :=
  let k := s.flash.settings
  let s := s.wr R.MGT_PART_OFF.off_by (if k.offBy = 0 then s.rd R.MGT_PART_OFF.off_by else k.offBy)
  let s := match k.budget with
    | some b => s.wr R.PWR_BUDGET.budget b
    | none => if s.rd R.PWR_BUDGET.budget = 0 then s.wr R.PWR_BUDGET.budget (s.rd R.PWR_BUDGET.tray_max) else s
  let s := if k.capRm = 0xFFFF then s else s.wr R.PWR_CAPS.rack_manager k.capRm
  let s := if k.capHost = 0xFFFF then s else s.wr R.PWR_CAPS.host k.capHost
  let s := match k.fixed with
    | some b => ((s.wr R.PWR_FIX.enabled (b2n b)).wr R.PWR_STATUS.fixed (b2n b)).wr R.PWR_FIX.pin k.pin
    | none => s
  refreshPin (refreshCaps s)

/-- R378, R462: the device's feature bitmap, which the negotiated set never exceeds. -/
def showFeatures (s : State) : State :=
  let f := setBit (s.upd.features &&& s.img.features) 0 true
  (List.range 4).foldl (init := s) fun s i =>
    let w := f / 2 ^ (32 * i) % 2 ^ 32
    (s.wr (R.FW_FEATURES.bits i) w).wr (R.FW_NEG.bits i) (s.rd (R.FW_NEG.bits i) &&& w)

/-- R400: the rate at which a bucket is filled, per second: for each role its signed, bulk and other messages. -/
def bucketRate (s : State) (bucket : Nat) : Nat :=
  if bucket % 3 = 0 then s.rd R.MGT_RATE_CFG.signed
  else if bucket % 3 = 1 then 100 * s.rd R.MGT_RATE_CFG.bulk
  else s.rd R.MGT_RATE_CFG.command

/-- R400: what a bucket's senders have spent of it, in millionths of a token, now. -/
def tokensSpent (s : State) (bucket rate : Nat) : Nat :=
  let b := tget s.mgt.spent bucket
  b.1 - (s.now - b.2) * rate

/-- R400: the buckets stand at what the rates so far have filled, before the image's rates take effect. -/
def settleRates (s : State) : State :=
  { s with mgt := { s.mgt with spent := s.mgt.spent.map fun (b : Nat × (Nat × Nat)) => (b.1, (tokensSpent s b.1 (bucketRate s b.1), s.now)) } }

/-- What a verified image shows in the CFG block (R447). -/
def showConfig (s : State) : State :=
  let i := s.img
  let s := ((s.wr R.CFG_STATUS.state 1).wr R.CFG_STATUS.surrogate (b2n i.surrogate.isSome)).wr R.CFG_STATUS.store_empty (b2n (! s.flash.used))
  let s := ((s.wr R.CFG_VERSION.value i.version).wr R.CFG_SVN.value i.svn).wr R.CFG_SECTIONS.value i.sections
  let s := ((s.wr R.CFG_HUB.grouped (b2n i.tray.grouped)).wr R.CFG_HUB.index i.tray.index).wr R.CFG_HUB.hub i.tray.hub
  (List.range 16).foldl (fun s k => s.wr (R.CFG_DIGEST.bytes k) (i.digest / 2 ^ (32 * k) % 2 ^ 32)) s

/-- R251, R255, R264, R331, R432, R433, R445: a validated image takes effect in the warden; the auxiliary estimate starts again from the
minimum that the image gives (DEDUCED, log 64). -/
def applyConfig (s : State) (i : Image) : State :=
  let s := showConfig (settleRates { s with img := i })
  let s := applyLoads s i.loads none
  let s := s.wr R.ERR_CFG.t4_mode (b2n i.tray.t4)
  let s := applyStore s
  let s := s.wr R.PWR_GAUGE.gauge (s.rd R.PWR_GAUGE_CFG.start)
  let s := showFeatures s
  -- R34: W0 is on where the image holds surrogate weights, but while the Cooling processor is halted
  let s := s.wr R.PWR_DOMAIN_W.w0_on (b2n (i.surrogate.isSome && s.rd (R.FW_PROC.state 2) != 3))
  let s := { s with flash := { s.flash with keys := i.keys, address := i.tray.address, grouped := i.tray.grouped },
                    seq := { s.seq with verified := true }
                    pwr := { s.pwr with aux := (s.rd R.PWR_SHARE_CFG.aux_min : Rat) } }
  milestone (s.wr R.UPD_STATUS.loader 1) 1

/-- R243, R445: the cast-on that follows: adoption of the table after a full restart, else a tray cast-on. -/
def orderCastOn (s : State) : State := match s.cfg.oldRails with
  | some old => adoptTable { s with cfg := { s.cfg with oldRails := none } } old
  | none => if trayOnAllowed s then orderTrayOn s else s

/-- CONFIG_VALIDATE: Steward reads, verifies and validates the CONFIG image (R441 to R443). -/
def configValidate (r : ConfigRead) (s : State) : State :=
  if s.rd R.UPD_STATUS.loader ≠ 0 ∨ ¬ s.procUp 0 ∨ codeVerified s = false ∨ s.rd R.CFG_STATUS.state ≠ 0 then s
  else match imageVerdict s 4 r.check with
    | some v => configReject (verifyFailed s 4 v 0x4005) (mappedReason v).1 0 (mappedReason v).2
    | none =>
      match configFailure s r with
      | some b => configReject (setRegion s 4 3) b.1 b.2.1 b.2.2
      | none =>
        let s := startSvn (measure (verifiedImage s 4 r.check) 3 r.check.digest) 4
        orderCastOn (applyConfig s (configImage r))

/-! ## Hub sections -/

/-- R186, R199: a guard entry in its registers; bit 31 of word 1 is reserved. -/
def showGuard (s : State) (d : Nat) (g : Guard × Nat) : State :=
  let (e, i) := g
  let s := (s.wr (R.MEM_GUARD_0.valid d i) 1).wr (R.MEM_GUARD_0.unit d i) e.base
  let s := s.wr (R.MEM_GUARD_1.unit d i) e.limit
  let s := ((s.wr (R.MEM_GUARD_2.part_perm d i) e.part).wr (R.MEM_GUARD_2.host_perm d i) e.host).wr (R.MEM_GUARD_2.remote_perm d i) e.remote
  let s := s.wr (R.MEM_GUARD_3.remote_parts d i) e.remoteParts
  (s.wr (R.MEM_GUARD_4.hub d i) e.hubLo).wr (R.MEM_GUARD_5.hub d i) e.hubHi

/-- The registers of a die that the hub sections and the tray description give (R60, R88, R91, R117, R184, R186, R190, R220, R432). -/
def showSections (s : State) (d : Nat) : State :=
  let i := s.img
  let t := i.tray
  let s := (s.wr (R.MEM_PARTITION.count d) t.partitions).wr (R.MEM_PARTITION.map d) t.map
  let s := (s.wr (R.PAT_DESC_STAGE_LO.addr d) (bits i.stage 31 0)).wr (R.PAT_DESC_STAGE_HI.addr d) (bits i.stage 63 32)
  let s := s.wr (R.COL_ROUTES.count d) i.routes.length
  let s := i.guards.zipIdx.foldl (fun s g => showGuard s d g) s
  let s := i.queues.foldl (init := s) fun s q =>
    (s.wr (R.MEM_QUEUE.weight d q.1) q.2.weight).wr (R.MEM_QUEUE.enabled d q.1) (b2n (q.2.slots != 0 || q.2.host || q.2.remote))
  let s := i.msets.foldl (fun s m => s.wr (R.PAT_MSET.hub_granular d m.1) (b2n m.2.hub)) s
  let s := (s.wr (R.CAD_GT_CFG.master d) t.master).wr (R.CAD_GT_CFG.is_master d) (b2n (trayIsMaster t))
  let s := ((s.wr (R.CAD_GT_CFG.primary_port d) t.primary).wr (R.CAD_GT_CFG.secondary_port d) t.secondary).wr
    (R.CAD_GT_CFG.secondary_valid d) (b2n t.secondaryValid)
  (List.range 8).foldl (fun s k => s.wr (R.LNK_CFG.enabled d k) (b2n ((if d = 0 then t.links0 else t.links1).testBit k))) s

/-- R70, R199: the settings that both dies show alike are, on a die that is loaded while the other runs, the other's. -/
def shareSettings (s : State) (d : Nat) : State :=
  let s := s.wr (R.CAD_MARK_CFG.tolerance d) (s.rd (R.CAD_MARK_CFG.tolerance (1 - d)))
  (s.wr (R.MEM_OPEN_CFG.timeout d) (s.rd (R.MEM_OPEN_CFG.timeout (1 - d)))).wr (R.MEM_OPEN_CFG.retry_hint d)
    (s.rd (R.MEM_OPEN_CFG.retry_hint (1 - d)))

/-- R71, R88, R333, R434, R444: the hub sections of a released die are loaded, then its loads. Descriptors and sets come from Steward's mirror
where a step mark has been taken since device start, and are the other die's where it already runs with them. -/
def loadSections (s : State) (d : Nat) : State :=
  let i := s.img
  let other := s.dieUp (1 - d) && (tget s.sup.dies (1 - d)).sections
  let m := s.pat.mirror
  let s := if other then s
    else if m.pattern.isSome then { s with pat := { s.pat with descs := m.descs, msets := m.msets } }
    else { s with pat := { s.pat with descs := i.descs, msets := i.msets } }
  let s := { s with pat := { s.pat with lib := i.patterns, routes := i.routes },
                    mem := { s.mem with guards := i.guards, queues := i.queues, paths := i.paths },
                    cfg := { s.cfg with copies := setBit s.cfg.copies d true } }
  let s := applyLoads (showSections s d) i.loads (some d)
  let s := if other then s else { s with pat := { s.pat with hall := [] }, cad := { s.cad with tolerance := s.rd (R.CAD_MARK_CFG.tolerance d), tolerancePending := [] } }
  let s := s.modDie d fun x => { x with sections := true, coeff := tget i.governor d, scale := 65536 }
  refreshLinks (if other then shareSettings s d else s)

/-- HUB_SECTIONS_LOAD: a die's sections come from flash at its first release, and later from the copy in its reserved HBM. Where the copy fails
and the region has changed, the die stays in reset until the next device start (R444). -/
def hubSectionsLoad (d : Nat) (copyOk regionOk : Bool) (s : State) : State :=
  if ¬ s.dieUp d ∨ (tget s.sup.dies d).sections = true ∨ s.rd R.CFG_STATUS.state ≠ 1 ∨ ¬ s.procUp 0 then s
  else if (s.cfg.copies.testBit d ∧ copyOk = true) ∨ regionOk = true then loadSections s d
  else
    let s := configError s 1 0 0
    holdDie s d 4

/-- Bytes of the pool preload whose lines live on die `d` are written, and clear the marks of their lines. -/
def preloadRecord (s : State) (d : Nat) (r : Nat × List Nat) : State :=
  r.2.zipIdx.foldl (init := s) fun s b =>
    let off := r.1 + b.2
    if inPool off ∧ (homeOf off).die = d then
      { s with mem := { (s.mem.unmark (off / 256)) with pool := Memory.write s.mem.pool off (BitVec.ofNat 8 b.1) } }
    else s

/-- MEMORY_TRAINED: a released die's memory is trained; at its first training since device start the pool preload is written (R431, R445). -/
def memoryTrained (d : Nat) (s : State) : State :=
  let x := tget s.sup.dies d
  if ¬ s.dieUp d ∨ x.sections = false ∨ x.trained = true then s
  else
    let s := s.modDie d fun x => { x with trained := true }
    let s := if s.cfg.preloaded.testBit d then s
      else s.img.preload.foldl (fun s r => preloadRecord s d r) { s with cfg := { s.cfg with preloaded := setBit s.cfg.preloaded d true } }
    let done (k : Nat) : Bool := ! s.dieUp k || (tget s.sup.dies k).trained
    trySelect (if done 0 && done 1 then lookTrained (milestone s 5) else s)

/-- TESTSTORE_VERIFY: the check of the test store ends (R356, R448). -/
def teststoreVerify (c : ImageCheck) (hubSet mode : Nat) (sets : List Nat) (s : State) : State :=
  if ¬ s.anyDieUp ∨ ¬ s.procUp 0 then s
  else
    let s := { s with pin := { s.pin with emmc := mode % 4 } }
    let v := if s.flash.incomplete.testBit 5 = false ∧ 2 ^ 30 < hubSet ∧ (imageBad 5 c).isNone then some 2 else imageVerdict s 5 c
    match v with
    | some r => { verifyFailed s 5 r 0x4005 with sdc := { s.sdc with hubSet := false, sets := [] } }
    | none =>
      let s := startSvn (measure (verifiedImage s 5 c) 4 c.digest) 5
      { s with sdc := { s.sdc with hubSet := true, sets := sets } }

/-- LOADER_VERIFY. -/
def execLoaderVerify (check : ImageCheck) (s : State) : Host.Outcome State Fault Refusal := .next (loaderVerify check s)
/-- WARDEN_VERIFY. -/
def execWardenVerify (code : CodeImages) (s : State) : Host.Outcome State Fault Refusal := .next (wardenVerify code s)
/-- CONFIG_VALIDATE. -/
def execConfigValidate (read : ConfigRead) (s : State) : Host.Outcome State Fault Refusal := .next (configValidate read s)
/-- HUB_SECTIONS_LOAD. -/
def execHubSectionsLoad (die : Nat) (copyOk regionOk : Bool) (s : State) : Host.Outcome State Fault Refusal :=
  .next (hubSectionsLoad die copyOk regionOk s)
/-- MEMORY_TRAINED. -/
def execMemoryTrained (die : Nat) (s : State) : Host.Outcome State Fault Refusal := .next (memoryTrained die s)
/-- TESTSTORE_VERIFY. -/
def execTeststoreVerify (check : ImageCheck) (held : StoredSets) (mode : Nat) (s : State) : Host.Outcome State Fault Refusal :=
  .next (teststoreVerify check held.hubSet mode held.sets s)

end Sys2Proof.Machine
end

