-- ==== Sys2Proof/Machine/Protocol.lean ====
section
/-! DEFINITION. The management protocol: the order of checks, sessions, authentication, rates and lockouts (R389 to R401). -/

namespace Sys2Proof.Machine

/-- How a message may come without the session (R393): never; signed; signed and from the rack manager; or unsigned. -/
inductive Free where
  | never
  | signed
  | rackSigned
  | unsigned
deriving DecidableEq, Repr, Inhabited

/-- A row of R393's table of codes: the code, the feature bit that this message needs, the bulk class of R400, the processor whose duty it
is, how it comes without the session, whether the loader serves it in AWAITING (R452), and whether the code is one that a sender may use. -/
structure Order where
  code : Nat
  feature : Nat := 0
  bulk : Bool := false
  duty : Nat := 0
  free : Free := .never
  loader : Bool := false
  known : Bool := true

/-- An answer with the state that it leaves: the response and its body. -/
abbrev Answered := State × Resp × List Nat

/-- OK with an empty body. -/
def okay (s : State) : Answered := (s, .ok, [])

/-- RETRY with a hint in µs (R394). -/
def retryIn (s : State) (hint : Nat) : Answered := (s, .retry, bytesOf 4 hint)

/-- A refusal without a body. -/
def refuse (r : Resp) (s : State) : Answered := (s, r, [])

/-! ## Senders -/

/-- 0 for the rack manager, 1 for the host. -/
def roleIx (r : Role) : Nat := match r with
  | .rackManager => 0
  | .host => 1

/-- The code of a holder in MGT_STATUS.role and of an off record (R407, R410). -/
def roleCode (r : Role) : Nat := roleIx r + 1

/-- R401: a source for lockouts: an address or a bridge hub. -/
def sourceKey (m : Msg) : Nat := 2 * m.source + roleIx m.role

/-- Whether a message reaches the device: the management port's link is up, or a hub die carries the host's (R389, R390, R476). -/
def reaches (s : State) (m : Msg) : Bool :=
  s.sup.wardenOn && ! s.sup.romHold && (match m.role with
    | .rackManager => s.on R.MGT_STATUS.port_up
    | .host => s.anyDieUp)

/-- R409: a commander has been heard: its silence ends, and with it acting alone. -/
def heard (s : State) (r : Role) : State :=
  let s : State := match r with
    | .rackManager => { s with mgt := { s.mgt with heardRm := s.now } }
    | .host => { s with mgt := { s.mgt with heardHost := s.now } }
  if s.on R.MGT_STATUS.alone then setMode (s.wr R.MGT_STATUS.alone 0) false else s

/-! ## Replies -/

/-- The answer is sent by the transport of the request, and one other than OK is counted and shown (R390, R410). -/
def reply (s : State) (m : Msg) (code : Nat) (r : Resp) (body : List Nat) : State :=
  let s := s.emit (.mgmt m.role code r body)
  let s := match r with
    | .denied => s.bump R.MGT_DENIED_COUNT.c
    | .invalid => s.bump R.MGT_INVALID_COUNT.c
    | .retry => s.bump R.MGT_RETRY_COUNT.c
    | .busy => s.bump R.MGT_BUSY_COUNT.c
    | _ => s
  if r = .ok then s
  else (((s.wr R.MGT_LAST_REFUSE.valid 1).wr R.MGT_LAST_REFUSE.role (roleIx m.role)).wr R.MGT_LAST_REFUSE.response r.code).wr
    R.MGT_LAST_REFUSE.code code

/-! ## Keys and counters -/

/-- R432, R443: the commander keys in force. -/
def commanderKeys (s : State) : Nat := if s.rd R.CFG_STATUS.state = 1 then s.img.keys else s.flash.keys

/-- R475: the signer whose keys authenticate management messages while no commander keys are in force. -/
def keySigner (s : State) : Nat := if s.lifeState = 1 ∨ s.lifeState = 4 then 0 else 1

/-- The place of a signer's key among the counters: maker 8 to 11, owner bank 0 12 to 15, owner bank 1 16 to 19 (R392, R481, R485). -/
def signerSlot (s : State) (signer key : Nat) : Nat :=
  if signer = 0 then 8 + key else 12 + 4 * s.ownerBank.getD 0 + key

/-- R392, R475: whether a key index names a key for a role. -/
def keyNamed (s : State) (m : Msg) : Bool :=
  decide (m.key < 4) &&
    (if commanderKeys s ≠ 0 then (commanderKeys s).testBit (4 * roleIx m.role + m.key) else keyCounts s (keySigner s) m.key)

/-- The counter that a management signature uses. -/
def keySlot (s : State) (m : Msg) : Nat :=
  if commanderKeys s ≠ 0 then 4 * roleIx m.role + m.key else signerSlot s (keySigner s) m.key

/-! ## Rates and lockouts -/

/-- R400: the bucket of a message and its rate per second. -/
def bucketOf (s : State) (k : Order) (m : Msg) : Nat × Nat :=
  let b := 3 * roleIx m.role + (if m.flags.testBit 2 then 0 else if k.bulk then 1 else 2)
  (b, bucketRate s b)

/-- R400: a token is taken, or the time in µs until there is one is given. -/
def takeToken (s : State) (b : Nat × Nat) : State × Option Nat :=
  let spent := tokensSpent s b.1 b.2 + 1000000
  if b.2 * 1000000 < spent then (s, some (divUp (spent - b.2 * 1000000) (max 1 b.2)))
  else ({ s with mgt := { s.mgt with spent := tput s.mgt.spent b.1 (spent, s.now) } }, none)

/-- R401: whether a source is locked out. -/
def lockedOut (s : State) (m : Msg) : Bool := match tfind s.mgt.lockouts (sourceKey m) with
  | some t => decide (s.now < t)
  | none => false

/-- R401: a signature failure. More than the limit from one source in 1 s lock it out for 1 s, with a record. -/
def signatureFailure (s : State) (code : Nat) (m : Msg) : State :=
  let k := sourceKey m
  let l := (k, s.now) :: s.mgt.failures.filter fun f => s.now < f.2 + 1000000
  let s := { s with mgt := { s.mgt with failures := l } }.bump R.MGT_SIG_FAIL_COUNT.c
  if (l.filter fun f => f.1 = k).length ≤ s.rd R.MGT_RATE_CFG.lockout then s
  else
    let s := { s with mgt := { s.mgt with lockouts := tput s.mgt.lockouts k (s.now + 1000000), failures := l.filter fun f => f.1 ≠ k } }
    s.err (if m.role = .rackManager then 0x0030 else 0x400F) (0x2000 + code) 0x12 2 m.source

/-- LOCKOUT_EXPIRE: a source's second has passed (R401). -/
def lockoutExpire (source : Nat) (s : State) : State := match tfind s.mgt.lockouts source with
  | some t => if s.now < t then s else { s with mgt := { s.mgt with lockouts := tdel s.mgt.lockouts source } }
  | none => s

/-! ## Sessions -/

/-- R378, R397, R425: the session ends, and with it the negotiated features and a freeze that it made. -/
def endSession (s : State) : State := match s.mgt.session with
  | none => s
  | some q =>
    let s := endFreezeOf { s with mgt := { s.mgt with session := none } } q.id
    let s := (s.wr R.MGT_STATUS.held 0).wr R.MGT_STATUS.role 0
    let s := ((s.wr R.MGT_HOLDER.role 0).wr R.MGT_HOLDER.key 0).wr R.MGT_HOLDER.bridge 0
    (List.range 4).foldl (fun s i => s.wr (R.FW_NEG.bits i) 0) (s.wr R.MGT_HOLDER_SEQ.sequence 0)

/-- R395: a session opens for the sender of `m`, with bit 0 alone as its features. -/
def beginSession (s : State) (m : Msg) : State :=
  let s := endSession s
  let id := Config.freeSession s.freeCtr % (2 ^ 64 - 1) + 1
  let q : Session := { id := id, role := m.role, source := m.source, key := m.key, heardAt := s.now }
  let s := { s with mgt := { s.mgt with session := some q } }.drawFree
  let s := (s.wr R.MGT_STATUS.held 1).wr R.MGT_STATUS.role (roleCode m.role)
  let s := (s.wr R.MGT_HOLDER.role (roleCode m.role)).wr R.MGT_HOLDER.key m.key
  let s := s.wr R.MGT_HOLDER.bridge (if m.role = .host then m.source else 0)
  s.wr (R.FW_NEG.bits 0) 1

/-- R397: whether `m` lies within the open session. -/
def withinSession (s : State) (m : Msg) : Option Session := match s.mgt.session with
  | none => none
  | some q => if q.id = m.session ∧ q.role = m.role ∧ q.source = m.source then some q else none

/-! ## Authentication -/

/-- What step 5 of R398 finds: a message within the session, one that passes without it, a signed one with its counter's place, a
retransmission with the answer kept for it, or a refusal. -/
inductive Auth where
  | session
  | open_
  | signed (slot : Nat)
  | again (r : Resp) (body : List Nat)
  | bad (r : Resp)
deriving DecidableEq, Repr, Inhabited

/-- R393: whether a message may come signed without the session. -/
def Free.allowsSigned (f : Free) (r : Role) : Bool := match f with
  | .signed => true
  | .rackSigned => r == .rackManager
  | _ => false

/-- R392, R396: a signed message outside a session. -/
def signedAuth (s : State) (m : Msg) : Auth :=
  let k := keySlot s m
  let last := tget s.mgt.signedLast k
  if ! keyNamed s m then .bad .denied
  else if m.counter = tget s.flash.signCtr k ∧ (tfind s.mgt.signedLast k).isSome ∧ last.bytes = m.bytes ∧ s.now ≤ last.at_ + 10000000 then
    .again last.resp last.body
  else if m.counter ≤ tget s.flash.signCtr k ∨ m.sigOk = false then .bad .denied
  else .signed k

/-- Step 5 of R398. SESSION_OPEN is authenticated by its signature alone. -/
def authenticate (s : State) (k : Order) (m : Msg) : Auth :=
  let isSigned := m.flags.testBit 2
  if k.free = .signed then (if isSigned then signedAuth s m else .bad .denied)
  else if m.session ≠ 0 then
    match withinSession s m with
    | none => .bad .denied
    | some q =>
      if m.sequence = (q.lastSeq + 1) % 2 ^ 32 then .session
      else match q.cached with
        | some c => if m.sequence = q.lastSeq then .again c.1 c.2 else .bad .invalid
        | none => .bad .invalid
  else if k.free = .unsigned then .open_
  else if isSigned ∧ k.free.allowsSigned m.role then signedAuth s m
  else .bad .denied

/-- What an accepted message leaves before it is acted on: the sequence of its session, or the counter of its key (R392, R396). -/
def noteAccepted (s : State) (m : Msg) (a : Auth) : State := match a with
  | .session =>
    let s := { s with mgt := { s.mgt with session := s.mgt.session.map fun (q : Session) => { q with lastSeq := m.sequence, cached := none } } }
    s.wr R.MGT_HOLDER_SEQ.sequence m.sequence
  | .signed k => { s with flash := { s.flash with signCtr := tput s.flash.signCtr k m.counter } }
  | _ => s

/-- The answer is kept for a retransmission (R396). -/
def keepAnswer (s : State) (m : Msg) (a : Auth) (r : Resp) (body : List Nat) : State := match a with
  | .session =>
    let keep (q : Session) : Session := if q.id = m.session then { q with cached := some (r, body) } else q
    { s with mgt := { s.mgt with session := s.mgt.session.map keep } }
  | .signed k =>
    let l : SignedLast := { bytes := m.bytes, resp := r, body := body, at_ := s.now }
    { s with mgt := { s.mgt with signedLast := tput s.mgt.signedLast k l } }
  | _ => s

/-- A message sent within the session renews its lease, whatever the answer (R397). -/
def renewLease (s : State) (m : Msg) : State :=
  if (withinSession s m).isSome then { s with mgt := { s.mgt with session := s.mgt.session.map fun (q : Session) => { q with heardAt := s.now } } } else s

/-! ## The order of checks -/

/-- R391: the length field counts the bytes after the header, at most 4,368, the trailer of 3,324 bytes among them. -/
def Msg.lengthOk (m : Msg) : Bool :=
  m.length == m.size && decide (m.length ≤ 4368) && (! m.flags.testBit 2 || decide (3324 ≤ m.length))

/-- Step 3 of R398: length, flags and reserved header bits, and the code. -/
def messageHeaderOk (k : Order) (m : Msg) : Bool :=
  Msg.lengthOk m && (m.flags == 0 || m.flags == 4) && m.codeHigh == 0 && m.status == 0 && m.reserved == 0 && k.known

/-- R378: whether a feature bit is in the negotiated set; outside the session only bit 0 is. -/
def featureOn (s : State) (a : Auth) (f : Nat) : Bool :=
  f == 0 || (a == .session && (s.rd (R.FW_NEG.bits (f / 32))).testBit (f % 32))

/-- Step 8 of R398: the processor that serves the message runs, and in AWAITING the loader serves it (R452, R453). -/
def dutyUp (s : State) (k : Order) (m : Msg) : Bool :=
  s.procUp k.duty && (s.rd R.UPD_STATUS.loader != 2 || (k.loader && m.role == .rackManager))

/-- R375, R452: whether the hardware responder answers. -/
def responding (s : State) : Bool := ! s.procUp 0 || s.rd R.UPD_STATUS.loader == 0

/-- Steps 6 to 10 of R398, for a message that passed step 5. -/
def serveBody (k : Order) (m : Msg) (a : Auth) (bodyOk : State → Bool) (act : State → Answered) (s : State) : Answered :=
  if k.free = .rackSigned ∧ k.code = 0x010 ∧ m.role = .host then refuse .denied s
  else if ! featureOn s a k.feature then refuse .invalid s
  else if ! dutyUp s k m then refuse .busy s
  else if ! bodyOk s || m.spare != 0 || (m.flags.testBit 2 && ! m.trailerZero) then refuse .invalid s
  else act s

/-- R398: a message's checks in their order, and its action where all pass. -/
def serve (k : Order) (m : Msg) (bodyOk : State → Bool) (act : State → Answered) (responder : State → Option State) (s : State) : State :=
  if ! reaches s m then s
  else if m.role = .host ∧ m.viaHostPort = false then
    (s.bump R.MGT_INVALID_COUNT.c).bump (R.LNK_CTL_REJECT.c (leadDie s))
  else if m.magic ≠ 0x4D47 ∨ m.version ≠ 1 then s.bump R.MGT_INVALID_COUNT.c
  else if lockedOut s m then s
  else
  let s := renewLease s m
  if responding s then
    match responder s with
    | some s' => reply s' m k.code .ok []
    | none => reply (heard s m.role) m k.code .busy []
  else if ! messageHeaderOk k m then reply s m k.code .invalid []
  else match takeToken s (bucketOf s k m) with
    | (s, some hint) => reply s m k.code .retry (bytesOf 4 hint)
    | (s, none) =>
      match authenticate s k m with
      | .bad r => reply (if m.flags.testBit 2 ∧ r = .denied then signatureFailure s k.code m else s) m k.code r []
      | .again r body => (heard s m.role).emit (.mgmt m.role k.code r body)
      | a =>
        let x := serveBody k m a bodyOk act (noteAccepted (heard s m.role) m a)
        keepAnswer (reply x.1 m k.code x.2.1 x.2.2) m a x.2.1 x.2.2

/-- A message that the responder answers BUSY and nothing else. -/
def serveOrder (k : Order) (m : Msg) (bodyOk : State → Bool) (act : State → Answered) (s : State) : State :=
  serve k m bodyOk act (fun _ => none) s

/-- The settings area is written through (R468). -/
def keepSetting (s : State) (f : Settings → Settings) : State :=
  { s with flash := { s.flash with settings := f s.flash.settings, used := true } }

end Sys2Proof.Machine
end

