-- ==== Sys2Proof/Machine/Messages.lean ====
section
/-! DEFINITION. The requests of R393 that this chapter gives, and what reaches the management port beside them (R389, R395, R402 to R409). -/

namespace Sys2Proof.Machine

/-- Every body has its fields in range. -/
def anyBody (_ : State) : Bool := true

/-! ## Sessions and features -/

/-- R395: SESSION_OPEN's answer. -/
def openAnswer (m : Msg) (preempt : Bool) (s : State) : Answered :=
  let opened (s : State) : Answered :=
    let s := beginSession s m
    (s, .ok, bytesOf 8 ((s.mgt.session.map Session.id).getD 0) ++ bytesOf 4 (s.rd R.MGT_CFG.lease))
  match s.mgt.session with
  | none => opened s
  | some q =>
    if q.role = m.role then opened s
    else if m.role = .rackManager ∧ preempt = true then
      opened ((s.wr R.MGT_STATUS.preempted 1).event 0x0008 0 0)
    else (s, .denied, [roleCode q.role])

/-- SESSION_OPEN. -/
def sessionOpen (m : Msg) (preempt : Bool) (s : State) : State :=
  serveOrder { code := 0x001, free := .signed, loader := true } m anyBody (openAnswer m preempt) s

/-- SESSION_CLOSE (R397). -/
def sessionClose (m : Msg) (s : State) : State :=
  serveOrder { code := 0x002, loader := true } m anyBody (fun s => okay (endSession s)) s

/-- The device's own features (R378). -/
def ownFeatures (s : State) : Nat := total ((List.range 4).map fun i => 2 ^ (32 * i) * s.rd (R.FW_FEATURES.bits i))

/-- FEATURES: the AND of the partner's bitmap and the device's becomes the negotiated set (R378). -/
def features (m : Msg) (bitmap : Nat) (s : State) : State :=
  serveOrder { code := 0x003 } m anyBody (fun s =>
    let f := (bitmap % 2 ^ 128) &&& ownFeatures s
    ((List.range 4).foldl (fun s i => s.wr (R.FW_NEG.bits i) (f / 2 ^ (32 * i) % 2 ^ 32)) s, .ok, bytesOf 16 f)) s

/-! ## Power orders -/

/-- R255, R266, R404: the effective cap after a change of a source, and what an excess then calls for. -/
def capsChanged (s : State) : State :=
  let old := s.rd R.PWR_CAP_EFF.cap
  let s := refreshPin (refreshCaps s)
  lookAtExcess s (decide (s.rd R.PWR_CAP_EFF.cap < old))

/-- A rack budget set, or returned to the tray maximum. -/
def setBudget (watts : Nat) (s : State) : State :=
  if watts = 0xFFFF then (keepSetting s fun k => { k with budget := none }).wr R.PWR_BUDGET.budget (s.rd R.PWR_BUDGET.tray_max)
  else (keepSetting s fun k => { k with budget := some watts }).wr R.PWR_BUDGET.budget watts

/-- BUDGET_SET (R255, R402, R404, R406). -/
def budgetSet (m : Msg) (watts : Nat) (s : State) : State :=
  serveOrder { code := 0x010, duty := 1, free := .rackSigned } m (fun _ => watts == 0xFFFF || (decide (500 ≤ watts) && decide (watts ≤ 65534)))
    (fun s => okay (capsChanged (setBudget watts s))) s

/-- A table with the sender's cap for a partition, or without one. -/
def putCap (t : Tab Nat) (p watts : Nat) : Tab Nat := if watts = 0xFFFF then tdel t p else tput t p watts

/-- R256: a role's cap for the tray or a partition. -/
def setCap (r : Role) (scope watts : Nat) (s : State) : State :=
  match r with
  | .rackManager =>
    if scope = 0xFF then (keepSetting s fun k => { k with capRm := watts }).wr R.PWR_CAPS.rack_manager watts
    else keepSetting s fun k => { k with partRm := putCap k.partRm scope watts }
  | .host =>
    if scope = 0xFF then (keepSetting s fun k => { k with capHost := watts }).wr R.PWR_CAPS.host watts
    else keepSetting s fun k => { k with partHost := putCap k.partHost scope watts }

/-- R406: every cap of the host is removed. -/
def clearHostCaps (s : State) : State := (keepSetting s fun k => { k with capHost := 0xFFFF, partHost := [] }).wr R.PWR_CAPS.host 0xFFFF

/-- Whether the partition map holds partition `p` (R184). -/
def partitionHeld (s : State) (p : Nat) : Bool := decide (p < 8) && ! (partSlots s p).isEmpty

/-- R402, R404: CAP_SET's fields in range. -/
def capBodyOk (scope watts : Nat) (s : State) : Bool :=
  (if scope = 0xFF then watts == 0xFFFF || (decide (500 ≤ watts) && decide (watts ≤ 65534))
    else partitionHeld s scope && (watts == 0xFFFF || (decide (100 ≤ watts) && decide (watts ≤ 65534))))

/-- CAP_SET (R256, R402, R404, R406): with the clear bit every host cap is cleared, and the sender's cap is set as well. -/
def capSet (m : Msg) (scope : Nat) (clear : Bool) (watts : Nat) (s : State) : State :=
  serveOrder { code := 0x011, duty := 1, feature := if scope = 0xFF then 0 else 1 } m (capBodyOk scope watts) (fun s =>
    if clear = true ∧ m.role = .host then refuse .denied s
    else okay (capsChanged (setCap m.role scope watts (if clear then clearHostCaps s else s)))) s

/-- GAUGE_FIX on: fixed-gauge mode with a pin (R260). -/
def gaugeFixOn (m : Msg) (pin : Nat) (s : State) : State :=
  serveOrder { code := 0x012, feature := 2, duty := 1 } m (fun _ => decide (pin < 64)) (fun s =>
    let s := keepSetting s fun k => { k with fixed := some true, pin := pin }
    let s := (s.wr R.PWR_FIX.enabled 1).wr R.PWR_FIX.pin pin
    okay (refreshPin (s.wr R.PWR_STATUS.fixed 1))) s

/-- GAUGE_FIX off: fixed-gauge mode ends, and its flag with it (R260). -/
def gaugeFixOff (m : Msg) (pin : Nat) (s : State) : State :=
  serveOrder { code := 0x012, feature := 2, duty := 1 } m (fun _ => decide (pin < 64)) (fun s =>
    let s := keepSetting s fun k => { k with fixed := some false }
    okay (((s.wr R.PWR_FIX.enabled 0).wr R.PWR_STATUS.fixed 0).wr R.PWR_STATUS.fixed_broken 0)) s

/-! ## Turning partitions and the tray on and off -/

/-- The slots of a set of partitions. -/
def slotsOfParts (s : State) (parts : Nat) : Nat := ofMembers ((List.range 8).filter fun i => parts.testBit (s.partOf i))

/-- The partitions that the map holds. -/
def heldParts (s : State) : Nat := ofMembers ((List.range 8).filter (partitionHeld s))

/-- Whether every partition of a set is one that the map holds. -/
def partsOk (parts : Nat) (s : State) : Bool := setMinus parts (heldParts s) == 0

/-- The record of partition `p` (R407). -/
def offRecord (s : State) (p : Nat) : Nat := bits (s.rd R.MGT_PART_OFF.off_by) (2 * p + 1) (2 * p)

/-- R407: the records of a set of partitions are cleared. -/
def clearOff (s : State) (parts : Nat) : State :=
  let old := s.rd R.MGT_PART_OFF.off_by
  let v := (members parts 8).foldl (init := old) fun (w : Nat) p => w - offRecord s p * 4 ^ p
  keepSetting (s.wr R.MGT_PART_OFF.off_by v) fun k => { k with offBy := v }

/-- PARTITION_POWER off (R406 to R408). -/
def partitionPowerOff (m : Msg) (parts : Nat) (s : State) : State :=
  serveOrder { code := 0x013 } m (partsOk parts) (fun s =>
    let s := keepSetting (writeOff s parts (roleCode m.role)) id
    let slots := slotsOfParts s parts
    okay (if slots ≠ 0 ∧ slotsAllowed s = true then orderSlotsOff s slots else s)) s

/-- R406: whether a role may turn a partition on. -/
def mayTurnOn (s : State) (r : Role) (p : Nat) : Bool := r == .rackManager || offRecord s p == 0 || offRecord s p == roleCode r

/-- R408: what an authorised on order asks of the sequencer: slots while the tray is ON or casting on, and the tray otherwise. Before the input
has settled it must be sent again. -/
def orderOn (s : State) (parts : Nat) : Answered :=
  let slots := slotsOfParts s parts
  if parts = 0 then okay s
  else if s.seq.state = 1 ∨ s.seq.state = 2 then okay (orderSlotsOn (clearOff s parts) slots)
  else if trayOnAllowed s then okay (orderTrayOn (clearOff s parts))
  else retryIn s (s.seq.settle.getD s.now - s.now)

/-- PARTITION_POWER on (R406 to R408). -/
def partitionPowerOn (m : Msg) (parts : Nat) (s : State) : State :=
  serveOrder { code := 0x013 } m (partsOk parts) (fun s =>
    if (members parts 8).all (mayTurnOn s m.role) then orderOn s parts else refuse .denied s) s

/-- A tray bind-off, where the sequencer takes one (R408). -/
def bindOffTray (s : State) : State := if trayOffAllowed s then orderTrayOff s false else dropSettling s

/-- POWER_OFF (R406 to R408). While Steward is out the responder passes it straight on (R375). -/
def powerOff (m : Msg) (s : State) : State :=
  serve { code := 0x014, free := .rackSigned, loader := true } m anyBody
    (fun s => okay (bindOffTray (keepSetting (writeOff s (heldParts s) (roleCode m.role)) id))) (fun s => some (bindOffTray s)) s

/-! ## Patterns and admission -/

/-- R99, R403, R510: Steward's selection. One that is to be accepted under R99 waits until its domains are on. -/
def selectPattern (pattern : Nat) (atStep restart : Bool) (stepLo : Nat) (s : State) : Answered :=
  match tfind s.pat.lib pattern with
  | none => refuse .invalid s
  | some p =>
    if ¬ s.anyDieUp then retryIn s 10
    else if (restart = true ∨ seqMode s = 0 ∨ seqMode s = 3) ∧ (lackedDomains s p 0 ≠ 0 ∨ lackedDomains s p 1 ≠ 0) then
      okay (trySelect { s with sup := { s.sup with want := some { pattern := pattern, restart := restart, both := false } } })
    else
      let s := writeNext true atStep pattern stepLo s
      okay (if restart then restartNext s else s)

/-- PATTERN_SELECT (R403). -/
def patternSelect (m : Msg) (pattern : Nat) (atStep restart : Bool) (stepLo : Nat) (s : State) : State :=
  serveOrder { code := 0x020 } m (fun _ => decide (pattern < 256)) (selectPattern pattern atStep restart stepLo) s

/-- R218, R363: ADMIT of an accelerator. One that failed and has passed a swatch since returns at level suspect. -/
def admitSlot (s : State) (slot : Nat) : Answered :=
  let n := 128 + slot
  let back := (unitKept s n).failed && (unitLive s n).passed
  let cleared (s : State) : State := if back then setLevel (modKept s n fun k => { k with failed := false }) n 2 else s
  if s.accAdmitted slot ∨ s.pat.putAdmit.testBit slot = true ∨ s.pat.listedAdmit.testBit slot = true then okay s
  else if s.linkState slot ≠ 3 then retryIn s 100000
  else if mayAdmit (cleared s) slot then okay (putForward (cleared s) slot) else refuse .denied s

/-- R362: ADMIT of a tile. -/
def admitTile (s : State) (n : Nat) : Answered :=
  if (unitKept s n).failed ∧ (unitLive s n).passed = false then refuse .denied s
  else if (unitKept s n).failed then okay (modUnit s n fun u => { u with readmit := true }) else okay s

/-- The SDC unit that ADMIT may name: an accelerator or a tile (R402). -/
def admitUnit (u : Nat) : Option Nat :=
  if (unitDomain u = 1 ∨ unitDomain u = 2) ∧ u % 4096 < 64 then some (64 * (unitDomain u - 1) + u % 4096)
  else if unitDomain u = 3 ∧ u % 4096 < 8 then some (128 + u % 4096) else none

/-- ADMIT (R218, R362, R363, R402). -/
def admitMsg (m : Msg) (unit : Nat) (s : State) : State :=
  serveOrder { code := 0x021, feature := 7 } m (fun _ => (admitUnit unit).isSome) (fun s => match admitUnit unit with
    | none => refuse .invalid s
    | some n => if isTile n then admitTile s n else admitSlot s (n - 128)) s

/-- EXPEL (R348): the accelerator leaves by the next GAUGE row; a pending admission is withdrawn. -/
def expel (m : Msg) (unit : Nat) (s : State) : State :=
  serveOrder { code := 0x022, feature := 7 } m (fun _ => unitDomain unit == 3 && decide (unit % 4096 < 8)) (fun s =>
    let slot := unit % 4096
    let was := s.accAdmitted slot && ! s.pat.putExpel.testBit slot && ! s.pat.listedExpel.testBit slot
    let s := expelSlot s slot
    okay (if was then s.bump R.SDC_EXPEL_COUNT.c else s)) s

/-! ## Reading -/

/-- A byte of the telemetry window (R196). -/
def snapByte (s : State) (a : Nat) : Nat := tget s.mem.snapshot (a / 4 * 4) / 2 ^ (8 * (a % 4)) % 256

/-- TELEMETRY_READ (R196, R197, R402). -/
def telemetryRead (m : Msg) (offset len : Nat) (s : State) : State :=
  serveOrder { code := 0x030, bulk := true, free := .unsigned } m
    (fun _ => decide (4 ≤ len) && decide (len ≤ 4096) && len % 4 == 0 && decide (offset + len ≤ 0x40000000))
    (fun s => (s, .ok, (List.range len).map fun i => snapByte s (offset + i))) s

/-- The 32 bytes of a log entry (R376). -/
def logBytes (e : LogEntry) : List Nat :=
  bytesOf 16 (atByte 0 (e.time % 2 ^ 64) + atByte 8 (e.point % 65536) + atByte 10 e.level + atByte 11 e.processor + atByte 12 e.sequence) ++
    (List.range 4).flatMap fun i => bytesOf 4 (e.args.getD i 0)

/-- LOG_READ's bytes: the records or entries from a ring position on, those never written left out (R340, R376). -/
def logAnswer (s : State) (ring first count : Nat) : List Nat :=
  if ring = 0 then (List.range count).flatMap fun i => match tfind s.itg.ring ((first + i) % 256) with
    | some r => errBytes r
    | none => []
  else (List.range count).flatMap fun i => match tfind (tget s.fw.procs (ring - 1)).log ((first + i) % 2048) with
    | some e => logBytes e
    | none => []

/-- LOG_READ (R340, R376, R402). -/
def logRead (m : Msg) (ring first count : Nat) (s : State) : State :=
  serveOrder { code := 0x031, feature := if ring = 0 then 0 else 5, bulk := true, duty := 3 } m
    (fun _ => decide (ring ≤ 8) && decide (1 ≤ count) && decide (count ≤ (if ring = 0 then 64 else 128)) &&
      decide (first < (if ring = 0 then 256 else 2048)))
    (fun s => (s, .ok, logAnswer s ring first count)) s

/-- A trace point's enable (R377). -/
def setTrace (s : State) (hubctl point : Nat) (enable : Bool) : State :=
  let f := if hubctl = 0 then R.FW_TRACE_W.enable (point / 32) else R.FW_TRACE_H.enable (point / 32)
  s.wr f (setBit (s.rd f) (point % 32) enable)

/-- TRACE_SET (R377, R402). -/
def traceSet (m : Msg) (hubctl point : Nat) (enable : Bool) (s : State) : State :=
  serveOrder { code := 0x032, feature := 5 } m (fun _ => decide (hubctl < 2) && decide (point < 256))
    (fun s => okay (setTrace s hubctl point enable)) s

/-! ## The recorder -/

/-- The 32 bytes of a cask slot with its check (R413). -/
def slotBytes (c : CaskSlot) : List Nat :=
  let l := bytesOf 28 (atByte 0 c.kind + atByte 1 c.part + atByte 2 (c.arg % 65536) + atByte 4 c.seconds + atByte 8 c.cycles + atByte 11 c.arg2 +
    atByte 12 (c.payload % 2 ^ 128))
  l ++ bytesOf 4 (crc32c l)

/-- R425: a freeze at the present write position, after every open run has closed. -/
def freeze (s : State) : State :=
  let s := closeRuns s
  let began := if s.on R.REC_STATUS.frozen then s.rcd.freezeAt else s.now
  let s := { s with rcd := { s.rcd with freezeAt := began, freezeSession := (s.mgt.session.map Session.id).getD 0 } }
  (s.wr R.REC_STATUS.frozen 1).wr R.REC_FREEZE_POINT.position (s.rd R.REC_HEAD.position)

/-- RECORDER_FREEZE (R425). -/
def recorderFreeze (m : Msg) (s : State) : State :=
  serveOrder { code := 0x033, feature := 4, duty := 3 } m anyBody (fun s =>
    let s := freeze s
    (s, .ok, bytesOf 4 (s.rd R.REC_OLDEST.position) ++ bytesOf 4 (s.rd R.REC_FREEZE_POINT.position) ++
      slotBytes (liveHeader s))) s

/-- RECORDER_FREEZE with body byte 0 clear: a release (R425). -/
def recorderRelease (m : Msg) (s : State) : State :=
  serveOrder { code := 0x033, feature := 4, duty := 3 } m anyBody
    (fun s => okay (if s.on R.REC_STATUS.frozen then releaseFreeze s else s)) s

/-- R426: RECORDER_READ's answer. -/
def readRecorder (first count : Nat) (s : State) : Answered :=
  let o := s.rd R.REC_OLDEST.position
  let from_ := (first + 2 ^ 32 - o % 2 ^ 32) % 2 ^ 32
  let end_ := (s.rd R.REC_FREEZE_POINT.position + 2 ^ 32 - o % 2 ^ 32) % 2 ^ 32
  if ¬ s.on R.REC_STATUS.frozen ∨ end_ < from_ + count then refuse .invalid s
  else
    let (p, got, torn) := readSlots s.flash.cask count first (first + count) [] 0
    let s := if torn = 0 then s else (s.bumpN R.REC_TORN_COUNT.c torn).wr R.REC_STATUS.torn 1
    (s, .ok, bytesOf 4 (p % 2 ^ 32) ++ bytesOf 2 got.length ++ bytesOf 2 torn ++ got.flatMap slotBytes)

/-- RECORDER_READ (R426). -/
def recorderRead (m : Msg) (first count : Nat) (s : State) : State :=
  serveOrder { code := 0x034, feature := 4, bulk := true, duty := 3 } m
    (fun _ => decide (1 ≤ count) && decide (count ≤ 128) && decide (first < 2 ^ 32)) (readRecorder first count) s

/-! ## Swatches -/

/-- SWATCH_RUN (R358, R361). RETRY while the unit is under swatch; R394's hint is this model's (log 60). -/
def swatchRun (m : Msg) (unit : Nat) (s : State) : State :=
  serveOrder { code := 0x040, feature := 6 } m (fun _ => decide (unit < 136)) (fun s => match swatchAnswer s unit with
    | .retry => retryIn s 100000
    | _ => okay (orderSwatch s unit)) s

/-- SWATCH_RESULT (R360). Before a unit's first swatch the record is not stated: its bytes are free (log 4). -/
def swatchResult (m : Msg) (unit : Nat) (s : State) : State :=
  serveOrder { code := 0x041, feature := 6 } m (fun _ => decide (unit < 136)) (fun s => match (unitLive s unit).last with
    | some r => (s, .ok, errBytes r)
    | none => (s.drawFree, .ok, bytesOf 64 (Config.freeBody s.freeCtr unit))) s

/-! ## Clearing latches -/

/-- A CLEAR_LATCH of a kind with indexes below `n`. -/
def clearLatch (m : Msg) (n index : Nat) (act : State → Answered) (s : State) : State :=
  serveOrder { code := 0x042 } m (fun _ => decide (index < n)) act s

/-- CLEAR_LATCH kind 0 (R298). -/
def clearLatchFan (m : Msg) (i : Nat) (s : State) : State := clearLatch m 8 i (fun s => okay (clearFan s i)) s
/-- CLEAR_LATCH kind 1 (R299). -/
def clearLatchPump (m : Msg) (i : Nat) (s : State) : State := clearLatch m 2 i (fun s => okay (clearPump s i)) s
/-- CLEAR_LATCH kind 2 (R300). -/
def clearLatchValve (m : Msg) (i : Nat) (s : State) : State := clearLatch m 8 i (fun s => okay (clearValve s i)) s
/-- CLEAR_LATCH kind 3 (R282). -/
def clearLatchModel (m : Msg) (i : Nat) (s : State) : State := clearLatch m 1 i (fun s => okay (clearImplausible s)) s

/-- R304: a wet zone is cleared once its loops are dry; before that the message is answered INVALID. -/
def clearZone (z : Nat) (s : State) : Answered :=
  if ! (s.rd R.LEAK_STATUS.wet).testBit z then okay s
  else if zoneDry s z then okay (clearWet s z) else refuse .invalid s

/-- CLEAR_LATCH kind 4 (R304). -/
def clearLatchZone (m : Msg) (i : Nat) (s : State) : State := clearLatch m 8 i (clearZone i) s
/-- CLEAR_LATCH kind 5 (R215). -/
def clearLatchLink (m : Msg) (i : Nat) (s : State) : State :=
  clearLatch m 16 i (fun s => okay (clearLatchedLink s (linkOf (i / 8) (i % 8)))) s
/-- CLEAR_LATCH kind 6 (R374). A halted Steward is revived for the rack manager by the responder (R375). -/
def clearLatchProcessor (m : Msg) (i : Nat) (s : State) : State :=
  serve { code := 0x042 } m (fun _ => decide (i < 8)) (fun s => okay (revive s i))
    (fun s => if i = 0 ∧ m.role = .rackManager ∧ s.rd (R.FW_PROC.state 0) = 3 then some (revive s 0) else none) s
/-- CLEAR_LATCH kind 7 (R337). -/
def clearLatchHubHold (m : Msg) (i : Nat) (s : State) : State :=
  clearLatch m 1 i (fun s => okay (s.wr R.ERR_STATUS.hub_latched 0)) s

/-- RESERVED_MESSAGE_CODE: a reserved or a notice code is INVALID at step 3 (R393). -/
def reservedMessageCode (m : Msg) (code : Nat) (s : State) : State :=
  serveOrder { code := code % 4096, known := false } m anyBody okay s

/-! ## Time -/

/-- SESSION_LEASE_EXPIRE: the holder has sent nothing for the lease (R397). -/
def sessionLeaseExpire (s : State) : State := match s.mgt.session with
  | none => s
  | some q => if q.heardAt + s.rd R.MGT_CFG.lease * 1000000 ≤ s.now then endSession s else s

/-- ACT_ALONE: neither commander has been heard for the silence time (R409). -/
def actAlone (s : State) : State :=
  let lim := s.rd R.MGT_CFG.silence
  if s.on R.MGT_STATUS.alone ∨ ¬ s.sup.wardenOn ∨ s.silence .host < lim ∨ s.silence .rackManager < lim then s
  else
    let s := (s.wr R.MGT_STATUS.alone 1).bump R.MGT_ALONE_COUNT.c
    setMode (s.event 0x0009 0 0) false

/-! ## The management port -/

/-- Whether the management port takes frames (R37, R389, R476). -/
def portTakes (s : State) : Bool := s.sup.wardenOn && ! s.sup.romHold && s.on R.MGT_STATUS.port_up

/-- REASSEMBLY_TIMEOUT: incomplete after 100 ms (R389). -/
def reassemblyTimeout (id : Nat) (s : State) : State :=
  let keep (r : Reassembly) : Bool := r.id != id || decide (s.now < r.since + 100000)
  { s with mgt := { s.mgt with reassemblies := s.mgt.reassemblies.filter keep } }

/-- DATAGRAM_FRAGMENT: reassembly of datagrams of up to 4,448 bytes, at most eight at a time (R389). A complete datagram's message is a command
of its own. -/
def datagramFragment (id need len : Nat) (s : State) : State :=
  let l := s.mgt.reassemblies
  let put (l : List Reassembly) : State := { s with mgt := { s.mgt with reassemblies := l } }
  if ! portTakes s ∨ 4448 < need then s
  else match l.find? fun r => r.id = id with
    | some r =>
      if r.need ≤ r.have_ + len then put (l.filter fun r => r.id ≠ id)
      else put (l.map fun r => if r.id = id then { r with have_ := r.have_ + len } else r)
    | none =>
      if need ≤ len ∨ 8 ≤ l.length then s
      else put (l ++ [{ id := id, since := s.now, need := need, have_ := len }])

/-- ICMPV6_ECHO: the reply goes to the sender (R389). -/
def icmpv6Echo (source ident : Nat) (s : State) : State := if portTakes s then s.emit (.icmp source ident 0) else s

/-- NEIGHBOUR_DISCOVERY: answered for the link-local address, and for the static one where the device has it (R389, R443). -/
def neighbourDiscovery (source : Nat) (linkLocal : Bool) (s : State) : State :=
  let has := s.rd R.CFG_STATUS.state == 1 || s.flash.address != 0
  if ! portTakes s ∨ (linkLocal = false ∧ has = false) then s else s.emit (.icmp source 0 (if linkLocal then 2 else 1))

/-- MANAGEMENT_PORT_LINK: the port's link, which stays down with a failed crystal and in ROM hold (R37, R410, R476). -/
def managementPortLink (up : Bool) (s : State) : State :=
  s.wr R.MGT_STATUS.port_up (b2n (up && s.sup.wardenOn && ! s.sup.portDown && ! s.sup.romHold))

/-- SESSION_OPEN. -/
def execSessionOpen (m : Msg) (preempt : Bool) (s : State) : Host.Outcome State Fault Refusal := .next (sessionOpen m preempt s)
/-- SESSION_CLOSE. -/
def execSessionClose (m : Msg) (s : State) : Host.Outcome State Fault Refusal := .next (sessionClose m s)
/-- FEATURES. -/
def execFeatures (m : Msg) (bitmap : Nat) (s : State) : Host.Outcome State Fault Refusal := .next (features m bitmap s)
/-- BUDGET_SET. -/
def execBudgetSet (m : Msg) (watts : Nat) (s : State) : Host.Outcome State Fault Refusal := .next (budgetSet m watts s)
/-- CAP_SET. -/
def execCapSet (m : Msg) (scope : Nat) (clear : Bool) (watts : Nat) (s : State) : Host.Outcome State Fault Refusal :=
  .next (capSet m scope clear watts s)
/-- GAUGE_FIX_ON. -/
def execGaugeFixOn (m : Msg) (pin : Nat) (s : State) : Host.Outcome State Fault Refusal := .next (gaugeFixOn m pin s)
/-- GAUGE_FIX_OFF. -/
def execGaugeFixOff (m : Msg) (pin : Nat) (s : State) : Host.Outcome State Fault Refusal := .next (gaugeFixOff m pin s)
/-- PARTITION_POWER_ON. -/
def execPartitionPowerOn (m : Msg) (parts : Nat) (s : State) : Host.Outcome State Fault Refusal :=
  .next (partitionPowerOn m parts s)
/-- PARTITION_POWER_OFF. -/
def execPartitionPowerOff (m : Msg) (parts : Nat) (s : State) : Host.Outcome State Fault Refusal :=
  .next (partitionPowerOff m parts s)
/-- POWER_OFF. -/
def execPowerOff (m : Msg) (s : State) : Host.Outcome State Fault Refusal := .next (powerOff m s)
/-- PATTERN_SELECT. -/
def execPatternSelect (m : Msg) (pattern : Nat) (atStep restart : Bool) (stepLo : Nat) (s : State) : Host.Outcome State Fault Refusal :=
  .next (patternSelect m pattern atStep restart stepLo s)
/-- ADMIT. -/
def execAdmitMsg (m : Msg) (unit : Nat) (s : State) : Host.Outcome State Fault Refusal := .next (admitMsg m unit s)
/-- EXPEL. -/
def execExpel (m : Msg) (unit : Nat) (s : State) : Host.Outcome State Fault Refusal := .next (expel m unit s)
/-- TELEMETRY_READ. -/
def execTelemetryRead (m : Msg) (offset len : Nat) (s : State) : Host.Outcome State Fault Refusal :=
  .next (telemetryRead m offset len s)
/-- LOG_READ. -/
def execLogRead (m : Msg) (ring first count : Nat) (s : State) : Host.Outcome State Fault Refusal :=
  .next (logRead m ring first count s)
/-- TRACE_SET. -/
def execTraceSet (m : Msg) (hubctl : Nat) (point : Nat) (enable : Bool) (s : State) : Host.Outcome State Fault Refusal :=
  .next (traceSet m hubctl point enable s)
/-- RECORDER_FREEZE. -/
def execRecorderFreeze (m : Msg) (s : State) : Host.Outcome State Fault Refusal := .next (recorderFreeze m s)
/-- RECORDER_RELEASE. -/
def execRecorderRelease (m : Msg) (s : State) : Host.Outcome State Fault Refusal := .next (recorderRelease m s)
/-- RECORDER_READ. -/
def execRecorderRead (m : Msg) (first count : Nat) (s : State) : Host.Outcome State Fault Refusal :=
  .next (recorderRead m first count s)
/-- SWATCH_RUN. -/
def execSwatchRun (m : Msg) (unit : Nat) (s : State) : Host.Outcome State Fault Refusal := .next (swatchRun m unit s)
/-- SWATCH_RESULT. -/
def execSwatchResult (m : Msg) (unit : Nat) (s : State) : Host.Outcome State Fault Refusal := .next (swatchResult m unit s)
/-- CLEAR_LATCH_FAN. -/
def execClearLatchFan (m : Msg) (index : Nat) (s : State) : Host.Outcome State Fault Refusal := .next (clearLatchFan m index s)
/-- CLEAR_LATCH_PUMP. -/
def execClearLatchPump (m : Msg) (index : Nat) (s : State) : Host.Outcome State Fault Refusal := .next (clearLatchPump m index s)
/-- CLEAR_LATCH_VALVE. -/
def execClearLatchValve (m : Msg) (index : Nat) (s : State) : Host.Outcome State Fault Refusal := .next (clearLatchValve m index s)
/-- CLEAR_LATCH_MODEL. -/
def execClearLatchModel (m : Msg) (index : Nat) (s : State) : Host.Outcome State Fault Refusal := .next (clearLatchModel m index s)
/-- CLEAR_LATCH_ZONE. -/
def execClearLatchZone (m : Msg) (index : Nat) (s : State) : Host.Outcome State Fault Refusal := .next (clearLatchZone m index s)
/-- CLEAR_LATCH_LINK. -/
def execClearLatchLink (m : Msg) (index : Nat) (s : State) : Host.Outcome State Fault Refusal := .next (clearLatchLink m index s)
/-- CLEAR_LATCH_PROCESSOR. -/
def execClearLatchProcessor (m : Msg) (index : Nat) (s : State) : Host.Outcome State Fault Refusal :=
  .next (clearLatchProcessor m index s)
/-- CLEAR_LATCH_HUB_HOLD. -/
def execClearLatchHubHold (m : Msg) (index : Nat) (s : State) : Host.Outcome State Fault Refusal :=
  .next (clearLatchHubHold m index s)
/-- SESSION_LEASE_EXPIRE. -/
def execSessionLeaseExpire (s : State) : Host.Outcome State Fault Refusal := .next (sessionLeaseExpire s)
/-- ACT_ALONE. -/
def execActAlone (s : State) : Host.Outcome State Fault Refusal := .next (actAlone s)
/-- LOCKOUT_EXPIRE. -/
def execLockoutExpire (source : Nat) (s : State) : Host.Outcome State Fault Refusal := .next (lockoutExpire source s)
/-- ICMPV6_ECHO. -/
def execIcmpv6Echo (source ident : Nat) (s : State) : Host.Outcome State Fault Refusal := .next (icmpv6Echo source ident s)
/-- NEIGHBOUR_DISCOVERY. -/
def execNeighbourDiscovery (source : Nat) (linkLocal : Bool) (s : State) : Host.Outcome State Fault Refusal :=
  .next (neighbourDiscovery source linkLocal s)
/-- DATAGRAM_FRAGMENT. -/
def execDatagramFragment (id need len : Nat) (s : State) : Host.Outcome State Fault Refusal :=
  .next (datagramFragment id need len s)
/-- RESERVED_MESSAGE_CODE. -/
def execReservedMessageCode (m : Msg) (code : Nat) (s : State) : Host.Outcome State Fault Refusal :=
  .next (reservedMessageCode m code s)
/-- MANAGEMENT_PORT_LINK. -/
def execManagementPortLink (up : Bool) (s : State) : Host.Outcome State Fault Refusal := .next (managementPortLink up s)
/-- REASSEMBLY_TIMEOUT. -/
def execReassemblyTimeout (id : Nat) (s : State) : Host.Outcome State Fault Refusal := .next (reassemblyTimeout id s)

end Sys2Proof.Machine
end

