-- ==== Sys2Proof/Machine/Monitor.lean ====
section
/-! DEFINITION. The monitors (R306 to R309, R313). Readings are kept by 256 times the die plus 64 times the kind plus the index. -/

namespace Sys2Proof.Machine

/-- The key of a monitor reading, as MON_SEL names it. -/
def monKey (die kind index : Nat) : Nat := 256 * die + 64 * kind + index

/-- A reading is kept. -/
def setReading (s : State) (die kind index v : Nat) : State :=
  { s with mon := { s.mon with readings := tput s.mon.readings (monKey die kind index) v } }

/-- R306: the trim table's band: 10 °C from −20 °C, for a temperature in 0.125 °C. -/
def trimBand (temp : Nat) : Nat := (clampInt 0 15 ((toSigned 16 temp + 160) / 80)).toNat

/-- R306: RC_TRIM: while the crystal is good the current band's entry moves by one eighth of the error. The learned part is kept in
eighths of a ppm; the trim code's own unit is not stated, so the code applied is a free value (log 50). -/
def rcTrim (error temp index : Nat) (s : State) : State :=
  let band := trimBand temp
  let s := ((s.wr R.MON_WARDEN_TEMP.temp temp).wr R.MON_WARDEN_TEMP.index (index % 4)).wr R.MON_RC_TRIM.band band
  if s.sup.crystalFailed then s
  else
    let s := { s with mon := { s.mon with trims := tput s.mon.trims band (tgetD s.mon.trims band 0 + toSigned 16 error) } }
    (((s.wr R.MON_RC_TRIM.error error).wr R.MON_RC_TRIM.trim (Config.freeWord s.freeCtr))).drawFree

/-- R307: the hub role (R226) of the rail that voltage monitor `index` of a die measures: the core supply at four corners, then VDD_SRD, VDD_HBM,
VDD_LP and VDD_IO. -/
def monitoredRole (die index : Nat) : Nat :=
  if index < 4 then die else if index = 4 then 2 else if index = 5 then 3 else if index = 6 then 5 else 7

/-- R307: the nominal voltage that the rail table gives what a monitor measures. -/
def monitoredNominal (s : State) (die index : Nat) : Nat :=
  match s.img.rails.find? fun r => decide (8 ≤ r.owner ∧ r.owner ≤ 10) && r.role == monitoredRole die index with
  | some r => r.nominal
  | none => 0

/-- R307: VOLT_ALARM: a voltage monitor is read; outside ±5% of the nominal for 1 ms it raises the alarm, once. The record's class and unit are
the model's choice (log 51): class Power, unit the crossbar. -/
def voltAlarm (die index mv : Nat) (s : State) : State :=
  if 2 ≤ die ∨ 8 ≤ index ∨ ¬ s.dieUp die then s
  else
    let s := setReading s die 3 index mv
    let v := monitoredNominal s die index
    let k := monKey die 3 index
    let out := v ≠ 0 ∧ (mv * 100 < v * 95 ∨ v * 105 < mv * 100)
    if ¬ out then { s with mon := { s.mon with voltSince := tdel s.mon.voltSince k, voltNoted := s.mon.voltNoted.filter (· != k) } }
    else
      let t := tgetD s.mon.voltSince k s.now
      let s := { s with mon := { s.mon with voltSince := tput s.mon.voltSince k t } }
      if s.now < t + 1000 ∨ s.mon.voltNoted.contains k = true then s
      else
        let s := { s with mon := { s.mon with voltNoted := insertRising s.mon.voltNoted k } }
        (s.wr R.MON_STATUS.volt_alarm 1).err (0x1000 * (die + 1) + 0xC0) 0 0x0B 2 0

/-- R308, R313: DROOP_ALARM: a tile group's droops in 1 s are counted, and more than 10,000 set the flag and write a record. -/
def droopAlarm (die group count : Nat) (s : State) : State :=
  if 2 ≤ die ∨ 16 ≤ group ∨ ¬ s.dieUp die then s
  else
    let s := s.bumpN (if die = 0 then R.MON_DROOP_COUNT_H0.c else R.MON_DROOP_COUNT_H1.c) count
    let s := setReading s die 1 group (min (2 ^ 32 - 1) (tgetD s.mon.readings (monKey die 1 group) 0 + count))
    if count ≤ 10000 then s
    else (s.wr (if die = 0 then R.MON_STATUS.droop_h0 else R.MON_STATUS.droop_h1) 1).err (0x1000 * (die + 1) + 0x40 + group) 0 0x0B 2 0

/-- R309: the drift of a measurement from its reference in units of 0.01%. -/
def ringDrift (value ref_ : Nat) : Int := if ref_ = 0 then 0 else ((value : Int) - ref_) * 10000 / ref_

/-- R309: RING_OSC_MEASURE: the first measurement is kept as the reference; a drift beyond MON_CFG.drift is recorded, naming the tile. -/
def ringOscMeasure (die tile value : Nat) (s : State) : State :=
  if 2 ≤ die ∨ 64 ≤ tile ∨ ¬ s.dieUp die then s
  else match tfind s.flash.settings.ringRef (64 * die + tile) with
    | none =>
      let s := { s with flash := { s.flash with settings := { s.flash.settings with
        ringRef := tput s.flash.settings.ringRef (64 * die + tile) (value % 65536) } } }
      setReading s die 2 tile (value % 65536)
    | some r =>
      let d := ringDrift (value % 65536) r
      let s := setReading s die 2 tile (ofSigned 16 d * 65536 + value % 65536)
      if d.natAbs ≤ s.rd R.MON_CFG.drift * 10 then s
      else
        let s := (s.wr R.MON_STATUS.drift 1).err (0x1000 * (die + 1) + tile) 0 0x10 2 0
        if (unitKept s (64 * die + tile)).level = 0 then setLevel s (64 * die + tile) 1 else s

/-- How many indices each kind of monitor has (R313). -/
def monLimit (kind : Nat) : Nat := match kind with
  | 0 => 48
  | 1 => 16
  | 2 => 64
  | 3 => 8
  | _ => 0

/-- R313: MON_SEL_WRITE. A write outside what the kinds and dies define is ignored and answered INVALID. -/
def monSelWrite (agent : Agent) (die kind index : Nat) (s : State) : State :=
  s.hostGate agent fun s =>
  if 2 ≤ die ∨ monLimit kind ≤ index then s.answer .invalid 0 0
  else (((s.wr R.MON_SEL.die die).wr R.MON_SEL.kind kind).wr R.MON_SEL.index index).answer .ok 0 0

/-- RC_TRIM. -/
def execRcTrim (error temp index : Nat) (s : State) : Host.Outcome State Fault Refusal := .next (rcTrim error temp index s)
/-- VOLT_ALARM. -/
def execVoltAlarm (die index mv : Nat) (s : State) : Host.Outcome State Fault Refusal := .next (voltAlarm die index mv s)
/-- DROOP_ALARM. -/
def execDroopAlarm (die group count : Nat) (s : State) : Host.Outcome State Fault Refusal := .next (droopAlarm die group count s)
/-- RING_OSC_MEASURE. -/
def execRingOscMeasure (die tile value : Nat) (s : State) : Host.Outcome State Fault Refusal :=
  .next (ringOscMeasure die tile value s)
/-- MON_SEL_WRITE. -/
def execMonSelWrite (agent : Agent) (die kind index : Nat) (s : State) : Host.Outcome State Fault Refusal :=
  .next (monSelWrite agent die kind index s)

end Sys2Proof.Machine
end

