-- ==== Sys2Proof/Machine/Update.lean ====
section
/-! DEFINITION. Image update: block and trickle transfers, custody, activation, pushes, security version counters and the settings store (R448, R452 to
R466). -/

namespace Sys2Proof.Machine

/-- Whether a type and total length are ones that an image may have (R448, R454). -/
def lengthOk (typ length : Nat) : Bool := decide (4097 ≤ length) && decide (length ≤ largestLength typ)

/-- R454: a type's region counts as INCOMPLETE from the moment its erase is ordered. -/
def orderErase (s : State) (typ : Nat) : State :=
  let s := { s with flash := { s.flash with incomplete := setBit s.flash.incomplete typ true, written := setBit s.flash.written typ false,
                                            stage := if typ = 6 then none else s.flash.stage } }
  (setRegion s typ 2).wr R.UPD_STATUS.erasing 1

/-- A transfer opens (R454, R458, R470): kind 1 block, 2 trickle pulling, 3 trickle paused. -/
def openXfer (s : State) (x : Xfer) (kind done : Nat) : State :=
  let s := { s with upd := { s.upd with xfer := some x } }
  ((s.wr R.UPD_XFER.kind kind).wr R.UPD_XFER.type x.typ).wr R.UPD_XFER_DONE.count done

/-- R456, R458: every part of an image has been received: its region counts as WRITTEN. -/
def regionWritten (s : State) (typ : Nat) (stage : StageFile) : State :=
  let s := { s with flash := { s.flash with incomplete := setBit s.flash.incomplete typ false, written := setBit s.flash.written typ true,
                                            stage := if typ = 6 then some stage else s.flash.stage },
                    upd := { s.upd with accepted := if typ = 6 then [] else s.upd.accepted } }
  setRegion s typ 1

/-- The first `i` that is not a member of a bit set. -/
def firstMissing (w : Nat) : Nat := Nat.log2 (((w ^^^ (w + 1)) + 1) / 2)

/-! ## Block transfer -/

/-- UPDATE_BEGIN (R454). -/
def updateBegin (m : Msg) (typ : Nat) (abort : Bool) (length : Nat) (s : State) : State :=
  serveOrder { code := 0x050, loader := true } m (fun _ => lengthOk typ length) (fun s =>
    if typ = 1 ∧ s.lifeState ≠ 1 then refuse .denied s
    else if s.upd.xfer.isSome ∧ abort = false then retryIn s 100000
    else okay (openXfer (orderErase (abandonXfer s) typ) { typ := typ, length := length, heardAt := s.now } 1 0)) s

/-- REGION_ERASE_COMPLETE: the erase of a region ends (R455). -/
def regionEraseComplete (s : State) : State := s.wr R.UPD_STATUS.erasing 0

/-- The open block transfer. -/
def blockXfer (s : State) : Option Xfer := s.upd.xfer.filter fun (x : Xfer) => ! x.trickle

/-- The open transfer has been heard (R456). -/
def hearXfer (s : State) : State :=
  { s with upd := { s.upd with xfer := s.upd.xfer.map fun (x : Xfer) => { x with heardAt := s.now } } }

/-- A block or skein has been received. -/
def gotPart (s : State) (x : Xfer) (i : Nat) : State :=
  let s := { s with upd := { s.upd with xfer := some { x with got := setBit x.got i true } } }
  s.wr R.UPD_XFER_DONE.count (s.rd R.UPD_XFER_DONE.count + 1)

/-- R455: a block's answer. The hint while the erase runs is not stated: it is free (log 3). -/
def takeBlock (offset length : Nat) (ok : Bool) (s : State) : Answered := match blockXfer s with
  | none => refuse .invalid s
  | some x =>
    let s := hearXfer s
    let x := { x with heardAt := s.now }
    if offset % 4096 ≠ 0 ∨ x.length ≤ offset ∨ length ≠ min 4096 (x.length - offset) then refuse .invalid s
    else if s.on R.UPD_STATUS.erasing then retryIn s.drawFree (Config.freeWord s.freeCtr % 2 ^ 32)
    else if x.got.testBit (offset / 4096) then okay s
    else if ok then okay (gotPart s x (offset / 4096)) else retryIn s 100000

/-- UPDATE_BLOCK (R455). -/
def updateBlock (m : Msg) (offset length : Nat) (ok : Bool) (s : State) : State :=
  serveOrder { code := 0x051, bulk := true, loader := true } m anyBody (takeBlock offset length ok) s

/-- R456: UPDATE_END's answer: INVALID with the offset of the first missing block until every block has been received. -/
def endBlocks (stage : StageFile) (s : State) : Answered := match blockXfer s with
  | none => refuse .invalid s
  | some x =>
    let s := hearXfer s
    if x.got ≠ 2 ^ divUp x.length 4096 - 1 then (s, .invalid, bytesOf 8 (4096 * firstMissing x.got))
    else okay ((clearXfer (regionWritten s x.typ stage)).event 0x0100 0 (atByte 0 x.typ + atByte 2 x.length))

/-- UPDATE_END (R456). -/
def updateEnd (m : Msg) (stage : StageFile) (s : State) : State :=
  serveOrder { code := 0x052, loader := true } m anyBody (endBlocks stage) s

/-- TRANSFER_IDLE_EXPIRE: a block transfer has not been heard for the idle limit (R456). -/
def transferIdleExpire (s : State) : State := match blockXfer s with
  | none => s
  | some x => if x.heardAt + s.rd R.UPD_XFER_CFG.idle * 1000000 ≤ s.now then abandonXfer s else s

/-! ## Custody -/

/-- The local offset of the custody region (R457, R470). -/
def custodyBase (s : State) : Nat := s.rd R.UPD_CUSTODY_BASE.unit * 65536

/-- Whether the hub is a custodian whose region holds an image of `length` bytes (R457). -/
def custodian (s : State) (length : Nat) : Bool :=
  s.rd R.UPD_CUSTODY_SIZE.mib != 0 && decide (4096 + length ≤ s.rd R.UPD_CUSTODY_SIZE.mib * 2 ^ 20)

/-- The 64 bytes of a custody header (R457). -/
def custodyBytes (h : CustodyHeader) : List Nat :=
  bytesOf 64 (atByte 0 0x534B4E01 + atByte 4 (b2n h.published) + atByte 5 h.typ + atByte 8 h.id + atByte 16 h.length + atByte 24 h.lo + atByte 28 h.hi)

/-- Bytes written in the custody region. -/
def writeCustody (s : State) (off : Nat) (l : List Nat) : State := writeSpan s (custodyBase s + off) (l.map some)

/-- The custody header takes a new state, written as one line. While its line is not served the message is answered RETRY. -/
def setCustody (s : State) (h : CustodyHeader) (loaded : Nat) : Answered :=
  if ! lineServed s (custodyBase s) then retryIn s 100000
  else okay (writeCustody { s with upd := { s.upd with custody := some h, loaded := loaded } } 0 (custodyBytes h))

/-- A SKEIN message. -/
def skein (m : Msg) (bodyOk : State → Bool) (act : State → Answered) (s : State) : State :=
  serveOrder { code := 0x053, feature := 3, bulk := true } m bodyOk act s

/-- SKEIN operation 0: open (R457). -/
def skeinOpen (m : Msg) (h : CustodyHeader) (s : State) : State :=
  skein m (fun s => custodian s h.length && decide (1 ≤ h.typ) && decide (h.typ ≤ 6) && h.id != 0)
    (fun s => setCustody s { h with published := false } 0) s

/-- SKEIN operation 1: load (R457). -/
def skeinLoad (m : Msg) (offset : Nat) (data : List Nat) (s : State) : State :=
  skein m (fun s => custodian s 0 && offset % 256 == 0 && data.length % 256 == 0 && decide (256 ≤ data.length) && decide (data.length ≤ 4096))
    (fun s => match s.upd.custody with
      | none => refuse .invalid s
      | some h =>
        let n := data.length / 256
        if divUp h.length 256 < offset / 256 + n then refuse .invalid s
        else if ! (linesOf (custodyBase s + 4096 + offset) data.length).all fun line => lineServed s (line * 256) then retryIn s 100000
        else
          let s := writeCustody s (4096 + offset) data
          okay { s with upd := { s.upd with loaded := setUnion s.upd.loaded ((2 ^ n - 1) * 2 ^ (offset / 256)) } }) s

/-- SKEIN operation 2: publish, once every skein has been loaded (R457). -/
def skeinPublish (m : Msg) (s : State) : State :=
  skein m (fun s => custodian s 0) (fun s => match s.upd.custody with
    | none => refuse .invalid s
    | some h => if s.upd.loaded = 2 ^ divUp h.length 256 - 1 then setCustody s { h with published := true } s.upd.loaded else refuse .invalid s) s

/-- SKEIN operation 3: withdraw; the identifier is kept (R457). -/
def skeinWithdraw (m : Msg) (s : State) : State :=
  skein m (fun s => custodian s 0) (fun s => match s.upd.custody with
    | none => refuse .invalid s
    | some h => setCustody s { h with published := false } s.upd.loaded) s

/-! ## Trickle -/

/-- The open trickle. -/
def trickleXfer (s : State) : Option Xfer := s.upd.xfer.filter fun (x : Xfer) => x.trickle

/-- The bitmap is written in the state area (R458). -/
def saveBitmap (s : State) (w : Nat) : State :=
  { s with flash := { s.flash with trickle := s.flash.trickle.map fun (t : Trickle) => { t with bitmap := w } } }

/-- R458: a trickle in progress pauses and keeps its bitmap. -/
def pauseTrickle (s : State) : State := match trickleXfer s with
  | none => s
  | some x => (saveBitmap { s with upd := { s.upd with xfer := some { x with paused := true } } } x.got).wr R.UPD_XFER.kind 3

/-- A trickle pulls skeins. -/
def pullTrickle (s : State) : State := match trickleXfer s with
  | none => s
  | some x => { s with upd := { s.upd with xfer := some { x with paused := false } } }.wr R.UPD_XFER.kind 2

/-- R458: a trickle transfer opens: its region is erased, its bitmap cleared and its identifier stored. -/
def openTrickle (s : State) (h : CustodyHeader) : State :=
  let s := orderErase { s with flash := { s.flash with trickle := some { id := h.id, typ := h.typ, length := h.length } } } h.typ
  openXfer s { trickle := true, typ := h.typ, length := h.length } 2 0

/-- Whether Steward reads the custodian (R458). -/
def isTarget (s : State) : Bool := s.on R.UPD_CUSTODIAN.valid && s.procUp 0 && s.rd R.UPD_STATUS.loader == 1 && s.anyDieUp

/-- R458: the action on a published header for this hub. A header of no image, or one that meets an open block transfer, is passed over. -/
def takeHeader (s : State) (h : CustodyHeader) : State :=
  let mine := decide (h.lo ≤ s.tree.hub) && decide (s.tree.hub ≤ h.hi)
  let going := s.flash.trickle.any fun (t : Trickle) => t.id == h.id
  if (blockXfer s).isSome then s
  else if going then pullTrickle s
  else if mine && h.id != s.flash.trickleDone && h.id != s.flash.trickleAbandoned && h.typ != 1 && lengthOk h.typ h.length then openTrickle s h
  else s

/-- TRICKLE_POLL: Steward reads the custody header (R458). -/
def tricklePoll (header : Option CustodyHeader) (s : State) : State :=
  if ! isTarget s ∨ (s.upd.pollAt ≠ 0 ∧ s.now < s.upd.pollAt + s.rd R.UPD_TRICKLE_CFG.poll * 1000000) then s
  else
    let s := { s with upd := { s.upd with pollAt := max 1 s.now } }
    match header with
    | some h => if h.published then takeHeader s h else pauseTrickle s
    | none => pauseTrickle s

/-- TRICKLE_PULL: the next missing skein is read, at no more than the rate (R458). -/
def tricklePull (s : State) : State := match trickleXfer s with
  | none => s
  | some x =>
    if ! isTarget s ∨ x.paused = true ∨ s.on R.UPD_STATUS.erasing ∨
        s.now < s.upd.pullAt + 1000000 / max 1 (s.rd R.UPD_TRICKLE_CFG.rate) then s
    else { s with upd := { s.upd with pullAt := s.now } }.emit (.skeinRead (firstMissing x.got))

/-- R458: every skein has been received. -/
def trickleComplete (s : State) (x : Xfer) (stage : StageFile) : State :=
  let id := (s.flash.trickle.map Trickle.id).getD 0
  let s := clearXfer (regionWritten s x.typ stage)
  { s with flash := { s.flash with trickle := none, trickleDone := id } }.event 0x0108 0 (atByte 0 id)

/-- SKEIN_RECEIVE: a skein returns and is programmed, or its page is read back (R458). -/
def skeinReceive (index : Nat) (ok : Bool) (page : Option Bool) (stage : StageFile) (s : State) : State := match trickleXfer s with
  | none => s
  | some x =>
    if x.paused = true ∨ s.on R.UPD_STATUS.erasing ∨ divUp x.length 256 ≤ index then s
    else if ok = false then pauseTrickle s
    else if page = some false then
      let s := orderErase (saveBitmap s 0) x.typ
      openXfer s { x with got := 0 } 2 0
    else if x.got.testBit index then s
    else
      let s := gotPart s x index
      let got := setBit x.got index true
      let s := if s.rd R.UPD_XFER_DONE.count % 64 = 0 then saveBitmap s got else s
      if got = 2 ^ divUp x.length 256 - 1 then trickleComplete s x stage else s

/-! ## Activation -/

/-- R452: the loader goes to VERIFY, and the device start's milestones are to be reached anew. -/
def goVerify (s : State) : State :=
  let s := (s.wr R.UPD_STATUS.loader 0).wr R.CFG_STATUS.state 0
  let s := [1, 2, 3].foldl (init := s) fun s p =>
    if s.rd (R.FW_PROC.state p) = 3 then s
    else (s.wr (R.FW_PROC.state p) 0).modProc p fun q => { q with armed := false, released := false }
  let s := (s.wr R.FW_STATUS.restarting 0).wr R.CFG_STATUS.ready 0
  let s := (List.range 8).foldl (fun s k => s.wr (R.CFG_MILESTONE.ms k) 0xFFFFFFFF) s
  ((s.wr R.COOL_STATUS.mode 2).wr R.COOL_STATUS.table_reason 0).wr R.SEC_STATUS.activated 1

/-- R243, R463, R511: a full restart: the rails are held as they are, both dies are reset, and what lasts only to the next device start ends. -/
def fullRestart (s : State) : State :=
  let held := match s.cfg.oldRails with
    | some l => l
    | none => s.img.rails
  let s := [0, 1].foldl (fun s d => if s.dieUp d then resetDie s d else s) (closeRuns s)
  let s := { s with cfg := { oldRails := some held }, sdc := { s.sdc with hubSet := false },
                    seq := { s.seq with verified := false }, sup := { s.sup with want := none }, pat := { s.pat with mirror := {} } }
  startSvn (goVerify (s.wr R.CFG_STATUS.full_restart 1)) 1

/-- R461, R462: an activation of WARDEN: the four processors restart on the new image, except one that is halted. -/
def activateCode (s : State) (c : CodeImages) : State :=
  let s := measure (verifiedImage (closeRuns s) 2 c.warden) 1 c.warden.digest
  let s := (c.copies.take 3).zipIdx.foldl (fun s p => measure s (6 + p.2) p.1) s
  let s := startSvn (settingsVersion s c.settings c.known) 2
  let s := showFeatures { s with upd := { s.upd with features := setBit c.features 0 true } }
  let s := s.wr R.SEC_STATUS.activated 1
  [0, 1, 2, 3].foldl (fun s p => if s.rd (R.FW_PROC.state p) = 3 then s else beginRestart s p 6 0 (s.now + 100000)) s

/-- R461: an activation of HUBCTL. -/
def activateHub (s : State) (c : CodeImages) : State :=
  (startSvn (measure (verifiedImage s 3 c.hubctl) 2 c.hubctl.digest) 3).wr R.SEC_STATUS.activated 1

/-- R460: the restart that an activation answered OK makes. From AWAITING it is to VERIFY (R452). The 600 s of R466 start again. -/
def restartFor (s : State) (flags : Nat) (c : CodeImages) : State :=
  let s := s.bump R.UPD_ACTIVATE_COUNT.c
  let s := { s with upd := { s.upd with svnAt := s.upd.svnAt.map fun (t : Nat × Nat) => (t.1, s.now) } }
  if flags.testBit 2 then fullRestart s
  else if s.rd R.UPD_STATUS.loader = 2 then goVerify s
  else
    let s := if flags.testBit 1 then activateHub s c else s
    let s := if flags.testBit 0 then { s with upd := { s.upd with act := some (flags, if flags.testBit 1 then 4 else 8) } }
      else ({ s with upd := { s.upd with act := some (0, 4) } }).event 0x0103 0 (atByte 0 flags)
    let s := if flags.testBit 0 then activateCode s c else s
    if flags.testBit 1 then nextActivation s else s

/-- R460: the verification of the named images: the first that fails, with its reason. -/
def activationVerdict (s : State) (flags : Nat) (c : CodeImages) : Option (Nat × Nat) :=
  if flags.testBit 2 then none
  else match (if flags.testBit 0 then imageVerdict s 2 c.warden else none), (if flags.testBit 1 then imageVerdict s 3 c.hubctl else none) with
    | some r, _ => some (2, r)
    | none, some r => some (3, r)
    | none, none => none

/-- R460: ACTIVATE's checks in their order. -/
def activate (flags : Nat) (c : CodeImages) (s : State) : Answered :=
  if s.upd.xfer.isSome ∨ s.itg.containAt.isSome ∨ s.seq.state = 3 then retryIn s 100000
  else if (flags.testBit 0 && s.flash.incomplete.testBit 2) || (flags.testBit 1 && s.flash.incomplete.testBit 3) then refuse .invalid s
  else match activationVerdict s flags c with
    | some (typ, r) => (verifyFailed s typ r 0x2054, .invalid, [r])
    | none => okay (restartFor s flags c)

/-- ACTIVATE with its flags in range (R460). -/
def activateOrder (m : Msg) (flags : Nat) (c : CodeImages) (s : State) : State :=
  serveOrder { code := 0x054, loader := true } m (fun _ => flags != 0 && decide (flags < 8)) (activate flags c) s

/-- ACTIVATE with the WARDEN flag. -/
def activateWarden (m : Msg) (flags : Nat) (code : CodeImages) (s : State) : State := activateOrder m flags code s
/-- ACTIVATE with the HUBCTL flag. -/
def activateHubctl (m : Msg) (flags : Nat) (code : CodeImages) (s : State) : State := activateOrder m flags code s
/-- ACTIVATE with the full-restart flag: nothing is verified before it (R460). -/
def activateFullRestart (m : Msg) (flags : Nat) (s : State) : State := activateOrder m flags {} s

/-! ## Pushes -/

/-- R465: the pushes of an image have ended: noted, and the image counts as pushed unless a push was cut short. -/
def finishPushes (s : State) : State :=
  let refused := s.upd.refusedSlots
  let took := setMinus (ofMembers (s.upd.accepted.map Prod.fst)) refused
  let s := match s.flash.stage with
    | some f => if s.upd.pushCut then s else { s with flash := { s.flash with pushed := f.check.digest } }
    | none => s
  let s := if refused = 0 then startSvn s 6 else s
  s.event 0x0105 0 (atByte 0 took + atByte 1 refused)

/-- R465: a slot's push has ended: its next one begins, or its reset is released. -/
def nextPush (s : State) (slot : Nat) : State :=
  let rest := s.upd.pushes
  let s := match rest.find? fun p => p.slot = slot with
    | some q =>
      let begin_ (p : Push) : Push := if p.slot = slot ∧ p.comp = q.comp then { p with at_ := s.now } else p
      { s with upd := { s.upd with pushes := rest.map begin_ } }.emit (.push slot 0)
    | none => schedulePerst s (2 ^ slot)
  if rest.isEmpty then finishPushes s else s

/-- The push under way to a slot. -/
def pushOf (s : State) (slot : Nat) : Option Push := s.upd.pushes.find? fun p => p.slot = slot

/-- R465: a push ends, accepted or not. -/
def endPush (s : State) (p : Push) (ok : Bool) : State :=
  let rest := s.upd.pushes.filter fun q => ¬ (q.slot = p.slot ∧ q.comp = p.comp)
  let s := { s with upd := { s.upd with pushes := rest } }.wr R.UPD_STATUS.pushed 1
  let s := if ok then { s with upd := { s.upd with accepted := (p.slot, p.comp) :: s.upd.accepted } }
    else
      let s := { s with upd := { s.upd with refusedSlots := setBit s.upd.refusedSlots p.slot true } }
      (s.bump R.UPD_PUSH_FAIL_COUNT.c).err (0x3000 + p.slot) 0 0x0F 2 0
  nextPush s p.slot

/-- PUSH_CHUNK_STATUS: 0 ready for the next chunk, 1 busy, 2 accepted, 3 refused (R464, R465). -/
def pushChunkStatus (slot status : Nat) (s : State) : State := match pushOf s slot with
  | none => s
  | some p =>
    let last := decide (p.chunks ≤ p.done + 1)
    let set (f : Push → Push) : State :=
      { s with upd := { s.upd with pushes := s.upd.pushes.map fun (q : Push) => if q.slot = slot ∧ q.comp = p.comp then f q else q } }
    if status = 3 then endPush s p false
    else if status = 2 then (if last then endPush s p true else s)
    else if last then set fun q => { q with done := p.chunks }
    else if status = 0 then (set fun q => { q with done := p.done + 1, at_ := s.now }).emit (.push slot (p.done + 1))
    else set fun q => { q with at_ := s.now }

/-- PUSH_TIMEOUT: no status 0 or 1 within 100 ms of a chunk, or no 2 or 3 within 30 s of the last (R465). -/
def pushTimeout (slot : Nat) (s : State) : State := match pushOf s slot with
  | none => s
  | some p => if s.now < p.at_ + (if p.chunks ≤ p.done then 30000000 else 100000) then s else endPush s p false

/-! ## Security versions and the settings store -/

/-- R466: the processors that run an image of a type. -/
def runners (typ : Nat) : List Nat := match typ with
  | 1 => [0]
  | 2 => [0, 1, 2, 3]
  | 3 => [4, 5, 6, 7]
  | 4 => List.range 8
  | _ => []

/-- R466: since when an image of a type has run with no watchdog expiry. -/
def ranSince (s : State) (typ start : Nat) : Nat := ((runners typ).map fun p => tget s.fw.lastExpiry p).foldl max start

/-- SVN_ADVANCE: the image of a type has run 600 s (R466). -/
def svnAdvance (typ : Nat) (ok : Bool) (s : State) : State := match tfind s.upd.svnAt typ with
  | none => s
  | some t =>
    let v := s.rd (R.UPD_SVN.running (typ - 1))
    if typ = 0 ∨ 6 < typ ∨ s.now < ranSince s typ t + 600000000 ∨ v ≤ tget s.otp.svn typ then s
    else if ok then
      let s := { s with otp := { s.otp with svn := tput s.otp.svn typ v }, upd := { s.upd with svnAt := tdel s.upd.svnAt typ } }
      (s.wr (R.UPD_SVN.counter (typ - 1)) v).event 0x0104 0 (atByte 0 typ + atByte 1 v)
    else (startSvn s typ).err 0x0014 0 0x11 2 0

/-- SETTINGS_COMPACT: a full half is copied into the other, whose header carries the next generation (R467). -/
def settingsCompact (s : State) : State :=
  if s.procUp 0 then { s with flash := { s.flash with generation := (s.flash.generation + 1) % 2 ^ 32 } } else s

/-- UPDATE_BEGIN. -/
def execUpdateBegin (m : Msg) (typ : Nat) (abort : Bool) (length : Nat) (s : State) : Host.Outcome State Fault Refusal :=
  .next (updateBegin m typ abort length s)
/-- UPDATE_BLOCK. -/
def execUpdateBlock (m : Msg) (offset length : Nat) (ok : Bool) (s : State) : Host.Outcome State Fault Refusal :=
  .next (updateBlock m offset length ok s)
/-- UPDATE_END. -/
def execUpdateEnd (m : Msg) (stage : StageFile) (s : State) : Host.Outcome State Fault Refusal := .next (updateEnd m stage s)
/-- SKEIN_OPEN. -/
def execSkeinOpen (m : Msg) (header : CustodyHeader) (s : State) : Host.Outcome State Fault Refusal := .next (skeinOpen m header s)
/-- SKEIN_LOAD. -/
def execSkeinLoad (m : Msg) (offset : Nat) (data : List Nat) (s : State) : Host.Outcome State Fault Refusal :=
  .next (skeinLoad m offset data s)
/-- SKEIN_PUBLISH. -/
def execSkeinPublish (m : Msg) (s : State) : Host.Outcome State Fault Refusal := .next (skeinPublish m s)
/-- SKEIN_WITHDRAW. -/
def execSkeinWithdraw (m : Msg) (s : State) : Host.Outcome State Fault Refusal := .next (skeinWithdraw m s)
/-- ACTIVATE_WARDEN. -/
def execActivateWarden (m : Msg) (flags : Nat) (code : CodeImages) (s : State) : Host.Outcome State Fault Refusal :=
  .next (activateWarden m flags code s)
/-- ACTIVATE_HUBCTL. -/
def execActivateHubctl (m : Msg) (flags : Nat) (code : CodeImages) (s : State) : Host.Outcome State Fault Refusal :=
  .next (activateHubctl m flags code s)
/-- ACTIVATE_FULL_RESTART. -/
def execActivateFullRestart (m : Msg) (flags : Nat) (s : State) : Host.Outcome State Fault Refusal :=
  .next (activateFullRestart m flags s)
/-- REGION_ERASE_COMPLETE. -/
def execRegionEraseComplete (s : State) : Host.Outcome State Fault Refusal := .next (regionEraseComplete s)
/-- TRANSFER_IDLE_EXPIRE. -/
def execTransferIdleExpire (s : State) : Host.Outcome State Fault Refusal := .next (transferIdleExpire s)
/-- TRICKLE_POLL. -/
def execTricklePoll (header : Option CustodyHeader) (s : State) : Host.Outcome State Fault Refusal := .next (tricklePoll header s)
/-- TRICKLE_PULL. -/
def execTricklePull (s : State) : Host.Outcome State Fault Refusal := .next (tricklePull s)
/-- SKEIN_RECEIVE. -/
def execSkeinReceive (index : Nat) (ok : Bool) (page : Option Bool) (stage : StageFile) (s : State) : Host.Outcome State Fault Refusal :=
  .next (skeinReceive index ok page stage s)
/-- PUSH_CHUNK_STATUS. -/
def execPushChunkStatus (slot status : Nat) (s : State) : Host.Outcome State Fault Refusal := .next (pushChunkStatus slot status s)
/-- PUSH_TIMEOUT. -/
def execPushTimeout (slot : Nat) (s : State) : Host.Outcome State Fault Refusal := .next (pushTimeout slot s)
/-- SVN_ADVANCE. -/
def execSvnAdvance (typ : Nat) (ok : Bool) (s : State) : Host.Outcome State Fault Refusal := .next (svnAdvance typ ok s)
/-- SETTINGS_COMPACT. -/
def execSettingsCompact (s : State) : Host.Outcome State Fault Refusal := .next (settingsCompact s)

end Sys2Proof.Machine
end

