-- ==== Sys2Proof/Machine/Security.lean ====
section
/-! DEFINITION. Identity, attestation, life-cycle and debug access (R471 to R490). -/

namespace Sys2Proof
open Sys2Proof.Machine

/-- The signer of a statement: 0 maker, 1 owner (R480). -/
def Statement.signer (s : Statement) : Nat := fieldAt s.bytes 5 1
/-- The key index of a statement. -/
def Statement.key (s : Statement) : Nat := fieldAt s.bytes 6 1
/-- The identity digest of the device that a statement is for. -/
def Statement.identity (s : Statement) : Nat := fieldAt s.bytes 8 64
/-- The counter of a statement. -/
def Statement.counter (s : Statement) : Nat := fieldAt s.bytes 72 8
/-- The four owner key digests of a PROVISION. -/
def Statement.owners (s : Statement) : List Nat := (piecesOf 64 4 (s.bytes.drop 80)).map ofBytes
/-- The signer whose key a REVOKE names. -/
def Statement.revSigner (s : Statement) : Nat := fieldAt s.bytes 80 1
/-- The index of the key that a REVOKE names. -/
def Statement.revKey (s : Statement) : Nat := fieldAt s.bytes 81 1

/-- The signer of a token (R485). -/
def Token.signer (t : Token) : Nat := fieldAt t.bytes 5 1
/-- The key index of a token. -/
def Token.key (t : Token) : Nat := fieldAt t.bytes 6 1
/-- The scopes of a token. -/
def Token.scope (t : Token) : Nat := fieldAt t.bytes 7 1
/-- The identity digest of the device that a token is for. -/
def Token.identity (t : Token) : Nat := fieldAt t.bytes 8 64
/-- The power-cycle count of a token, or all-ones. -/
def Token.cycle (t : Token) : Nat := fieldAt t.bytes 72 4
/-- The operating second at which a token's access closes, or all-ones. -/
def Token.limit (t : Token) : Nat := fieldAt t.bytes 76 4
/-- The counter of a token. -/
def Token.counter (t : Token) : Nat := fieldAt t.bytes 80 8

end Sys2Proof

namespace Sys2Proof.Machine

/-- The identity digest of this device (R473). -/
def identity (s : State) : Nat := identityOf s.otp.secret

/-! ## Attestation -/

/-- R488: the first 768 bytes of an attestation report. -/
def reportBytes (s : State) (nonce : Nat) : List Nat :=
  bytesOf 8 (atByte 0 0x41545301 + atByte 4 1 + atByte 5 s.lifeState + atByte 6 (s.rd R.SEC_DEBUG.scope) +
      atByte 7 (s.rd R.SEC_STATUS.activated + 2 * s.rd R.SEC_STATUS.debug_halt)) ++
    bytesOf 32 nonce ++ bytesOf 4 (if s.rd R.CFG_STATUS.state = 1 then s.tree.hub else 0) ++ bytesOf 4 (s.rd R.REC_CYCLES.cycles) ++
    bytesOf 4 (s.rd R.REC_SECONDS.seconds) ++ bytesOf 8 s.otp.serial ++ bytesOf 4 0 ++ bytesOf 64 (identity s) ++
    (List.range 9).flatMap (fun k => bytesOf 64 (tget s.sec.meas k)) ++
    (List.range 6).flatMap (fun t => bytesOf 4 (s.rd (R.UPD_SVN.running t))) ++
    (List.range 6).flatMap (fun t => bytesOf 4 (tget s.otp.svn (t + 1))) ++
    (List.range 4).flatMap (fun i => bytesOf 4 (s.rd (R.FW_FEATURES.bits i)))

/-- ATTEST operation 0: a report with its signature, whose bytes are free (log 4). -/
def attestReport (m : Msg) (nonce : Nat) (s : State) : State :=
  serveOrder { code := 0x060, feature := 8 } m anyBody
    (fun s => (s.drawFree, .ok, reportBytes s nonce ++ bytesOf 3309 (Config.freeBody s.freeCtr 0) ++ [0, 0, 0])) s

/-- R474: the device certificate as one number of 5,328 bytes. -/
def certificate (s : State) : Nat :=
  let x := Config.certBody s.flash.cert
  if s.flash.cert = 0 then x
  else atByte 0 0x43455201 + atByte 4 1 + atByte 5 (x % 4) + atByte 8 s.otp.serial + atByte 64 (x / 4 % 2 ^ (8 * 5261))

/-- ATTEST operation 1: the certificate's total length and up to 4,096 bytes from offset 0 or 4,096 (R488). -/
def attestCertificate (m : Msg) (offset : Nat) (s : State) : State :=
  serveOrder { code := 0x060, feature := 8 } m (fun _ => offset == 0 || offset == 4096)
    (fun s => (s, .ok, bytesOf 4 5328 ++ bytesOf (min 4096 (5328 - offset)) (certificate s / 2 ^ (8 * offset)))) s

/-! ## Debug access -/

/-- A processor that debug holds is released: its watchdog runs again and its duties return (R486). -/
def releaseHalt (s : State) (p : Nat) : State :=
  if ¬ (tget s.fw.procs p).debugHalt then s
  else
    let s := s.modProc p fun q => { q with debugHalt := false, armed := true, kickedAt := s.now }
    let s := s.wr R.FW_STATUS.restarting (setBit (s.rd R.FW_STATUS.restarting) p false)
    dutiesReturn (s.wr (R.FW_PROC.state p) 1) p

/-- R484, R486: token access closes for a reason: 0 LOCK, 1 limit, 2 transition. -/
def closeToken (s : State) (reason : Nat) : State :=
  if s.rd R.SEC_DEBUG.source = 0 then s
  else
    let s := ((s.wr R.SEC_DEBUG.scope 0).wr R.SEC_DEBUG.source 0).wr R.SEC_DEBUG_UNTIL.seconds 0xFFFFFFFF
    let s := ((List.range 8).foldl releaseHalt s).wr R.SEC_STATUS.debug_halt 0
    s.event 0x0183 0 (atByte 0 reason)

/-- DEBUG_LIMIT_EXPIRE: the token's limit in operating seconds is reached (R486). -/
def debugLimitExpire (s : State) : State :=
  if s.rd R.SEC_DEBUG_UNTIL.seconds ≠ 0xFFFFFFFF ∧ s.rd R.SEC_DEBUG_UNTIL.seconds ≤ s.rd R.REC_SECONDS.seconds then closeToken s 1 else s

/-- DEBUG_HALT: through scope 0 a firmware processor is halted: it counts as restarting, and its watchdog is paused (R484, R486). -/
def debugHalt (p : Nat) (s : State) : State :=
  if 8 ≤ p ∨ ¬ s.procUp p ∨ procAbsent s p = true ∨ (s.rd R.SEC_DEBUG.scope).testBit 0 = false then s
  else
    let s := s.modProc p fun q => { q with debugHalt := true }
    let s := (s.wr (R.FW_PROC.state p) 2).wr R.FW_STATUS.restarting (setBit (s.rd R.FW_STATUS.restarting) p true)
    let s := if p = 0 then s else dutiesPass s p
    s.wr R.SEC_STATUS.debug_halt 1

/-- R484: the signer whose tokens open debug access in a state. -/
def tokenSigner (st : Nat) : Option Nat := if st = 2 ∨ st = 3 then some 1 else if st = 4 then some 0 else none

/-- R481, R485: why a token is refused. -/
def tokenRefusal (s : State) (t : Token) : Option (Nat × Resp) :=
  let st := s.lifeState
  let slot := signerSlot s t.signer t.key
  let all := 0xFFFFFFFF
  if (tokenSigner st).any (fun g => g != t.signer) ∨ keyCounts s t.signer t.key = false ∨ t.sigOk = false then some (0x20, .denied)
  else if t.counter < tget s.flash.tokenCtr slot then some (0x21, .denied)
  else if t.identity ≠ identity s then some (0x22, .denied)
  else if (tokenSigner st).isNone then some (0x23, .invalid)
  else if ¬ (t.cycle = s.rd R.REC_CYCLES.cycles ∨ (st = 2 ∧ t.cycle = all)) ∨
      ¬ ((s.rd R.REC_SECONDS.seconds < t.limit ∧ t.limit ≠ all) ∨ (st = 2 ∧ t.limit = all)) then some (0x27, .denied)
  else none

/-- R485: a valid token replaces any token in force. -/
def acceptToken (s : State) (t : Token) : State :=
  let s := { s with flash := { s.flash with tokenCtr := tput s.flash.tokenCtr (signerSlot s t.signer t.key) t.counter } }
  let source := if t.signer = 1 then 1 else 2
  let s := ((s.wr R.SEC_DEBUG.scope t.scope).wr R.SEC_DEBUG.source source).wr R.SEC_DEBUG_UNTIL.seconds t.limit
  (s.bump R.SEC_UNLOCK_COUNT.c).event 0x0182 0 (atByte 0 (t.scope % 16) + atByte 1 source + atByte 2 t.limit)

/-- Whether a token is laid out as R485 states. -/
def tokenOk (t : Token) : Bool :=
  t.bytes.length == 128 && fieldAt t.bytes 0 4 == 0x554E4C01 && fieldAt t.bytes 4 1 == 1 && zeroAt t.bytes 88 40 && t.padZero && decide (t.signer < 2) && decide (t.key < 4) && decide (t.scope < 16)

/-- TOKEN_SHIFT: a token shifted in through the warden test port (R485). -/
def tokenShift (t : Token) (s : State) : State :=
  if s.sup.wardenOn ∧ tokenOk t = true ∧ (tokenRefusal s t).isNone then acceptToken s t else s

/-! ## Life-cycle messages -/

/-- R481: a refusal is recorded, counted and shown. -/
def refuseLife (s : State) (op key : Nat) (why : Nat × Resp) : Answered :=
  let s := s.err 0x0014 0x2061 0x11 2 (atByte 0 why.1 + atByte 1 op + atByte 2 key)
  let s := s.bump R.SEC_REFUSE_COUNT.c
  let s := (((s.wr R.SEC_LAST_REFUSE.valid 1).wr R.SEC_LAST_REFUSE.reason why.1).wr R.SEC_LAST_REFUSE.op op).wr R.SEC_LAST_REFUSE.key key
  if why.2 = .retry then retryIn s 100000 else refuse why.2 s

/-- A LIFECYCLE message (R480). -/
def lifecycle (m : Msg) (bodyOk : State → Bool) (act : State → Answered) (s : State) : State :=
  serveOrder { code := 0x061, feature := 9 } m bodyOk act s

/-- UNLOCK (R485). -/
def unlock (m : Msg) (t : Token) (s : State) : State :=
  lifecycle m (fun _ => tokenOk t) (fun s => match tokenRefusal s t with
    | some why => refuseLife s 0x08 t.key why
    | none => okay (acceptToken s t)) s

/-- LOCK (R480, R486). -/
def lock (m : Msg) (s : State) : State := lifecycle m anyBody (fun s => okay (closeToken s 0)) s

/-- KEY_STAGE: an owner key is held until the next warden power-on reset (R480). -/
def keyStage (m : Msg) (slot digest : Nat) (s : State) : State :=
  lifecycle m (fun _ => decide (slot < 4)) (fun s =>
    let s := { s with sec := { s.sec with staged := tput s.sec.staged slot digest } }
    okay (s.wr R.SEC_KEYS.staged (setBit (s.rd R.SEC_KEYS.staged) slot true))) s

/-- The operations of R480 that carry a statement, and the marker that each writes in the present state where R479 allows it. -/
inductive LifeOp where
  | provision
  | deploy
  | consent
  | return_
  | retire
  | revoke
deriving DecidableEq, Repr, Inhabited

/-- The code of an operation (R480). -/
def LifeOp.code (o : LifeOp) : Nat := match o with
  | .provision => 2
  | .deploy => 3
  | .consent => 4
  | .return_ => 5
  | .retire => 6
  | .revoke => 7

/-- R479, R482: the signer that is named for an operation in a state, by the highest marker. A REVOKE is signed by the party whose key it
revokes (log 61). -/
def lifeSigner (o : LifeOp) (marker : Nat) (st : Statement) : Option Nat :=
  let owned := markerState marker == 2 || markerState marker == 3
  match o with
  | .provision => if marker = 1 ∨ marker = 4 then some 0 else none
  | .deploy => if markerState marker = 2 then some 1 else none
  | .consent => if owned then some 1 else none
  | .return_ => if owned then some 0 else none
  | .retire => if owned then some 1 else if marker = 1 ∨ markerState marker = 4 then some 0 else none
  | .revoke => if 1 ≤ marker ∧ marker < 8 ∧ (st.revSigner = 0 ∨ owned) then some st.revSigner else none

/-- R478, R479: the marker that a transition writes. -/
def targetMarker (o : LifeOp) (marker : Nat) : Nat := match o with
  | .provision => if marker = 1 then 2 else 5
  | .deploy => marker + 1
  | .return_ => if marker < 4 then 4 else 7
  | .retire => 8
  | _ => marker

/-- R479: whether the tray counts as off. -/
def trayOffHolds (s : State) : Bool := (s.seq.state == 0 || s.seq.state == 4) && s.upd.xfer.isNone && s.itg.containAt.isNone

/-- R474, R481: whether a PROVISION has its certificate and its staged keys. -/
def provisionReady (s : State) (st : Statement) : Bool :=
  s.flash.cert != 0 && s.flash.cert == identity s && (st.owners.take 4).any (· != 0) &&
  (List.range 4).all fun i => tget s.sec.staged i == st.owners.getD i 0

/-- R482: whether a consent is valid. -/
def consentValid (s : State) : Bool := match s.sec.consent with
  | some c => decide (s.now < c.2 + 3600000000)
  | none => false

/-- The keys of a set that OTP names and that no revoke bit of `revoked` excludes. -/
def keysLeft (digests : List Nat) (revoked : Nat) : Bool := (List.range 4).any fun k => digests.getD k 0 != 0 && ! revoked.testBit k

/-- R481: whether a REVOKE leaves an unrevoked key. -/
def revokeLeaves (s : State) (st : Statement) : Bool :=
  if st.revSigner = 0 then keysLeft s.otp.makerKeys (setBit s.otp.makerRevoked st.revKey true)
  else match s.ownerBank with
    | some b => keysLeft (s.otp.bankKeys b) (setBit (s.otp.bankRevoked b) st.revKey true)
    | none => false

/-- R481: why a statement is refused, the first case that applies. -/
def lifeRefusal (s : State) (o : LifeOp) (st : Statement) : Option (Nat × Resp) :=
  let signer := lifeSigner o (highestMarker s.otp) st
  let moves := o == .provision || o == .return_ || o == .retire
  if signer.any (fun g => g != st.signer) ∨ keyCounts s st.signer st.key = false ∨ st.sigOk = false then some (0x20, .denied)
  else if st.counter ≤ tget s.flash.signCtr (signerSlot s st.signer st.key) then some (0x21, .denied)
  else if st.identity ≠ identity s then some (0x22, .denied)
  else if signer.isNone then some (0x23, .invalid)
  else if moves = true ∧ trayOffHolds s = false then some (0x24, .retry)
  else if o = .provision ∧ provisionReady s st = false then some (0x25, .invalid)
  else if o = .return_ ∧ consentValid s = false then some (0x26, .denied)
  else if o = .revoke ∧ revokeLeaves s st = false then some (0x28, .invalid)
  else none

/-- The Recorder writes what waits, as far as it can within the 100 ms of R483. -/
def flushRecords (s : State) : State := (List.range s.rcd.queue.length).foldl (fun s _ => caskWrite none s) s

/-- R483: a transition: open debug access closes, the marker is written, and the event with it. All but DEPLOY go on to a warden power-on
reset, which is made at once (log 62). -/
def transition (s : State) (o : LifeOp) : State :=
  let old := highestMarker s.otp
  let t := targetMarker o old
  let s := (closeToken s 2).wr R.SEC_DEBUG.scope 0
  let s := { s with otp := { s.otp with markers := tput s.otp.markers t (tget s.otp.markers t ||| 7) } }
  let s := (s.wr R.SEC_STATUS.marker t).wr R.SEC_STATUS.state (markerState t)
  let s := flushRecords (s.event 0x0180 0 (atByte 0 (markerState old) + atByte 1 (markerState t) + atByte 2 t))
  if o = .deploy then s else deviceReset s 0 true

/-- R471, R483: PROVISION writes the staged digests into the bank in use, and keeps the keys in the state area. -/
def writeBank (s : State) (b : Nat) (owners : List Nat) : State :=
  let l := (List.range 4).map fun i => owners.getD i 0
  let keys := l.zipIdx.foldl (fun t p => if p.1 = 0 then t else tput t (4 * b + p.2) p.1) s.flash.ownerKeys
  { s with otp := if b = 0 then { s.otp with owner0 := l } else { s.otp with owner1 := l }, flash := { s.flash with ownerKeys := keys } }

/-- R482: a revoke bit is set at once. -/
def revokeKey (s : State) (st : Statement) : State :=
  let b := s.ownerBank.getD 0
  let o := if st.revSigner = 0 then { s.otp with makerRevoked := s.otp.makerRevoked ||| 2 ^ st.revKey }
    else if b = 0 then { s.otp with owner0Revoked := s.otp.owner0Revoked ||| 2 ^ st.revKey }
    else { s.otp with owner1Revoked := s.otp.owner1Revoked ||| 2 ^ st.revKey }
  let s := { s with otp := o }
  let s := ((s.wr R.SEC_KEYS.maker_revoked o.makerRevoked).wr R.SEC_KEYS.owner0_revoked o.owner0Revoked).wr
    R.SEC_KEYS.owner1_revoked o.owner1Revoked
  s.event 0x0181 0 (atByte 0 st.revSigner + atByte 1 (if st.revSigner = 0 then 0 else b) + atByte 2 st.revKey)

/-- R482: a return consent is held. -/
def takeConsent (s : State) (key : Nat) : State :=
  let s := { s with sec := { s.sec with consent := some (key, s.now) } }
  ((s.wr R.SEC_STATUS.consent 1).wr R.SEC_CONSENT.valid 1).wr R.SEC_CONSENT.key key

/-- The consent ends (R482). -/
def dropConsent (s : State) : State :=
  let s := { s with sec := { s.sec with consent := none } }
  ((s.wr R.SEC_STATUS.consent 0).wr R.SEC_CONSENT.valid 0).wr R.SEC_CONSENT.key 0

/-- What an accepted statement does (R479, R482, R483). -/
def actLife (s : State) (o : LifeOp) (st : Statement) : State := match o with
  | .provision => transition (writeBank s (if highestMarker s.otp = 1 then 0 else 1) st.owners) .provision
  | .deploy => transition s .deploy
  | .consent => takeConsent s st.key
  | .return_ => transition (dropConsent s) .return_
  | .retire => transition s .retire
  | .revoke => revokeKey s st

/-- Whether a statement is laid out as R480 states. -/
def statementOk (o : LifeOp) (st : Statement) : Bool :=
  st.bytes.length == 336 && fieldAt st.bytes 0 4 == 0x4C435901 && fieldAt st.bytes 4 1 == o.code && zeroAt st.bytes 7 1 && st.padZero &&
  decide (st.signer < 2) && decide (st.key < 4) &&
  (match o with
    | .provision => true
    | .revoke => decide (st.revSigner < 2) && decide (st.revKey < 4) && zeroAt st.bytes 82 254
    | _ => zeroAt st.bytes 80 256)

/-- R480 to R483: a message with a statement. The counter is recorded before the statement is acted on. -/
def statement (m : Msg) (o : LifeOp) (st : Statement) (s : State) : State :=
  lifecycle m (fun _ => statementOk o st) (fun s => match lifeRefusal s o st with
    | some why => refuseLife s o.code st.key why
    | none => okay (actLife { s with flash := { s.flash with signCtr := tput s.flash.signCtr (signerSlot s st.signer st.key) st.counter } } o st)) s

/-- PROVISION. -/
def provision (m : Msg) (st : Statement) (s : State) : State := statement m .provision st s
/-- DEPLOY. -/
def deploy (m : Msg) (st : Statement) (s : State) : State := statement m .deploy st s
/-- RETURN_CONSENT. -/
def returnConsent (m : Msg) (st : Statement) (s : State) : State := statement m .consent st s
/-- RETURN. -/
def returnPart (m : Msg) (st : Statement) (s : State) : State := statement m .return_ st s
/-- RETIRE. -/
def retire (m : Msg) (st : Statement) (s : State) : State := statement m .retire st s
/-- REVOKE. -/
def revoke (m : Msg) (st : Statement) (s : State) : State := statement m .revoke st s

/-- CONSENT_LAPSE: 3,600 s after the consent (R482). -/
def consentLapse (s : State) : State := if s.sec.consent.isSome ∧ consentValid s = false then dropConsent s else s

/-- MAKER_PROGRAMMING: maker test writes a BLANK part's OTP, its certificate and the marker of MAKER (R471, R474, R479). -/
def makerProgramming (d : MakerData) (s : State) : State :=
  if s.lifeState ≠ 0 ∨ ¬ s.sup.wardenOn then s
  else
    let o := { s.otp with secret := d.secret, serial := d.serial, makerKeys := (List.range 4).map fun i => d.makerKeys.getD i 0,
                          trims := d.trims, markers := tput s.otp.markers 1 (tget s.otp.markers 1 ||| 7) }
    let s := { s with otp := o, flash := { s.flash with cert := d.cert } }
    let s := (s.wr R.SEC_STATUS.marker 1).wr R.SEC_STATUS.state 1
    flushRecords (s.event 0x0180 0 (atByte 1 1 + atByte 2 1))

/-- ATTEST_REPORT. -/
def execAttestReport (m : Msg) (nonce : Nat) (s : State) : Host.Outcome State Fault Refusal := .next (attestReport m nonce s)
/-- ATTEST_CERTIFICATE. -/
def execAttestCertificate (m : Msg) (offset : Nat) (s : State) : Host.Outcome State Fault Refusal :=
  .next (attestCertificate m offset s)
/-- KEY_STAGE. -/
def execKeyStage (m : Msg) (slot digest : Nat) (s : State) : Host.Outcome State Fault Refusal := .next (keyStage m slot digest s)
/-- PROVISION. -/
def execProvision (m : Msg) (st : Statement) (s : State) : Host.Outcome State Fault Refusal := .next (provision m st s)
/-- DEPLOY. -/
def execDeploy (m : Msg) (st : Statement) (s : State) : Host.Outcome State Fault Refusal := .next (deploy m st s)
/-- RETURN_CONSENT. -/
def execReturnConsent (m : Msg) (st : Statement) (s : State) : Host.Outcome State Fault Refusal := .next (returnConsent m st s)
/-- returnPart. -/
def execReturnPart (m : Msg) (st : Statement) (s : State) : Host.Outcome State Fault Refusal := .next (returnPart m st s)
/-- RETIRE. -/
def execRetire (m : Msg) (st : Statement) (s : State) : Host.Outcome State Fault Refusal := .next (retire m st s)
/-- REVOKE. -/
def execRevoke (m : Msg) (st : Statement) (s : State) : Host.Outcome State Fault Refusal := .next (revoke m st s)
/-- UNLOCK. -/
def execUnlock (m : Msg) (token : Token) (s : State) : Host.Outcome State Fault Refusal := .next (unlock m token s)
/-- LOCK. -/
def execLock (m : Msg) (s : State) : Host.Outcome State Fault Refusal := .next (lock m s)
/-- CONSENT_LAPSE. -/
def execConsentLapse (s : State) : Host.Outcome State Fault Refusal := .next (consentLapse s)
/-- DEBUG_LIMIT_EXPIRE. -/
def execDebugLimitExpire (s : State) : Host.Outcome State Fault Refusal := .next (debugLimitExpire s)
/-- TOKEN_SHIFT. -/
def execTokenShift (token : Token) (s : State) : Host.Outcome State Fault Refusal := .next (tokenShift token s)
/-- MAKER_PROGRAMMING. -/
def execMakerProgramming (data : MakerData) (s : State) : Host.Outcome State Fault Refusal := .next (makerProgramming data s)
/-- DEBUG_HALT. -/
def execDebugHalt (p : Nat) (s : State) : Host.Outcome State Fault Refusal := .next (debugHalt p s)

end Sys2Proof.Machine
end

