-- ==== Sys2Proof/Machine/Registers.lean ====
section
/-! DEFINITION. Reads and writes of the management registers: the values that registers show, the access types of R14, the latched pairs, and
the rules of each block on who may write (R11 to R16, R70, R97, R104, R136, R165, R166, R199, R224, R247, R276, R311 to R313, R341, R365,
R387, R388, R410, R428, R447, R470, R490, R507, R508). -/

namespace Sys2Proof.Machine

/-! ## What registers show

A shown value is given by the field's lowest bit; a field that is not listed is read from the field file. -/

/-- CAD registers that show die `d`'s tracker and group time (R46, R70). -/
def shownCad (s : State) (d o : Nat) : List (Nat × Nat) :=
  let c := s.cadOf d
  if o = 0x00 then
    [(6, b2n (s.gt.state == 3)), (3, b2n c.seeded), (2, b2n c.held), (1, b2n (c.corr != 0)), (0, b2n c.stalled)]
  else if o = 0x04 then [(16, ofSigned 16 (c.corr.tdiv (2 ^ 32))), (0, c.angle)]
  else if o = 0x08 then [(0, c.est)]
  else if o = 0x0C then [(0, c.last)]
  else if o = 0x48 then
    [(16, min 255 s.gt.lockRun), (8, if trayIsMaster s.tree then 0 else Config.hops s.tree.hub), (3, b2n s.gt.secondary), (0, s.gt.state)]
  else if o = 0x4C then [(0, ofSigned 32 (clampInt (-(2 ^ 31)) (2 ^ 31 - 1) s.gt.offset))]
  else if o = 0x50 then [(0, ofSigned 32 s.gt.delay)]
  else if o = 0x54 then [(0, ofSigned 32 s.gt.rate)]
  else if o = 0x5C then [(0, min (2 ^ 32 - 1) (if s.gt.state = 3 then (s.gt.time - s.gt.holdStart) / 1000000 else s.gt.holdMs))]
  else []

/-- The members of a set's bitmap: ranks, or hubs for a hub-granular set (R91, R104). -/
def setSize (m : MSet) : Nat := popcount m.active 65536

/-- PAT registers that show the sequencer of die `d` (R104). -/
def shownPat (s : State) (d o : Nat) : List (Nat × Nat) :=
  let q := tget s.pat.seqs d
  if o = 0x00 then
    [(6, b2n (s.on (R.MEM_SHARE.link_applied d) || s.on (R.MEM_SHARE.pool_applied d))), (5, b2n ! (waitingFences s d).isEmpty),
     (4, b2n (s.activePattern.any fun p => usesDie p d && ! usesDie p (1 - d)))]
  else if o = 0x04 then [(16, s.pat.active.getD 0), (12, b2n q.ended), (0, q.next)]
  else if o = 0x18 then [(0, inFlight s d)]
  else if o = 0x1C then [(16, b2n ! (waitingFences s d).isEmpty)]
  else if 0x100 ≤ o ∧ o < 0x200 then
    let m := tget s.pat.msets ((o - 0x100) / 4)
    if (tget s.sup.dies d).sections then [(31, b2n (m.pending != m.active)), (0, setSize m)] else [(31, 0), (0, 0)]
  else []

/-- MEM registers that show fenced tiles and busy processors (R199). -/
def shownMem (s : State) (d o : Nat) : List (Nat × Nat) :=
  if o = 0x14 then [(0, bits (fencedTiles s d) 31 0)]
  else if o = 0x18 then [(0, bits (fencedTiles s d) 63 32)]
  else if 0x1000 ≤ o ∧ o < 0x1400 then
    let st := s.rd (R.FW_PROC.state (queueProc ((o - 0x1000) / 4)))
    [(30, b2n (st == 2 || st == 3))]
  else []

/-- Whether forwarded planned traffic waits on a port of die `d` (R120, R136). -/
def transitOn (s : State) (d : Nat) : Bool :=
  [0, 1, 2, 3].any fun i => (tget (tget s.lnk.links (8 + 4 * d + i)).queue 0).any TxPacket.transit

/-- COL_STATUS shows whether forwarded flits are passing through die `d` (R136). -/
def shownCol (s : State) (d o : Nat) : List (Nat × Nat) := if o = 0 then [(4, b2n (transitOn s d))] else []

/-- LNK_STATE shows whether a slot's accelerator is present, and of SP7 host-port mode (R224). -/
def shownLnk (s : State) (d o : Nat) : List (Nat × Nat) :=
  if o % 0x20 = 0 ∧ o < 0x80 then [(8, b2n (s.accPresent (4 * d + o / 0x20)))]
  else if d = 1 ∧ o = 0xE0 then [(10, b2n s.hostPortMode)] else []

/-- SEQ registers that show the rail sequencer (R247). -/
def shownSeq (s : State) (o : Nat) : List (Nat × Nat) :=
  let q := s.seq
  let pairs := [q.en, q.pg, q.good, q.notGood, q.chatter, q.notFallen, q.fault]
  if o = 0x04 then [(20, s.img.rails.length)]
  else if 0x10 ≤ o ∧ o < 0x48 then
    let w := pairs.getD ((o - 0x10) / 8) 0
    [(0, if o % 8 = 0 then bits w 31 0 else bits w 63 32)]
  else if 0x60 ≤ o ∧ o < 0x70 then [(0, (tget q.trace (s.rd R.SEQ_TRACE_IDX.index)).getD ((o - 0x60) / 4) 0)]
  else if 0x100 ≤ o ∧ o < 0x200 then
    let n := (o - 0x100) / 4
    let r := tget q.rails n
    [(16, min 0xFFFF r.rise), (12, b2n (s.img.rails.any fun x => x.channel == n)), (11, b2n r.skipped), (8, r.state), (0, r.chatter)]
  else []

/-- COOL registers that show what is fitted (R311). -/
def shownCool (s : State) (o : Nat) : List (Nat × Nat) :=
  let p := s.img.plant
  if o = 0xC0 ∨ o = 0xC4 then [(0, b2n (p.zones.any fun z => z.iso == (o - 0xC0) / 4 + 1))]
  else if 0x100 ≤ o ∧ o < 0x140 then [(0, b2n (p.temps.testBit ((o - 0x100) / 4)))]
  else if 0x140 ≤ o ∧ o < 0x160 then [(0, b2n (p.flows.testBit ((o - 0x140) / 4)))]
  else if 0x160 ≤ o ∧ o < 0x168 then [(0, b2n (p.presses.testBit ((o - 0x160) / 4)))]
  else []

/-- LEAK registers that show the zones of the image (R312). -/
def shownLeak (s : State) (o : Nat) : List (Nat × Nat) :=
  let zs := s.img.plant.zones
  if 0x40 ≤ o ∧ o < 0x80 then [(4, (zs.findIdx? fun z => z.loops.testBit ((o - 0x40) / 4)).getD 0)]
  else if 0x80 ≤ o ∧ o < 0xA0 then
    let z := zs.getD ((o - 0x80) / 4) {}
    [(16, z.loops), (8, z.slots), (6, z.iso)]
  else []

/-- MON registers that show the crystal, absent dies and the selected reading (R313). -/
def shownMon (s : State) (o : Nat) : List (Nat × Nat) :=
  if o = 0x00 then [(0, b2n s.sup.crystalFailed)]
  else if o = 0x10 then [(6, b2n (! s.dieUp 0))]
  else if o = 0x14 then [(6, b2n (! s.dieUp 1))]
  else if o = 0x1C then [(0, tget s.mon.readings (monKey (s.rd R.MON_SEL.die) (s.rd R.MON_SEL.kind) (s.rd R.MON_SEL.index)))]
  else []

/-- ERR_REC_DATA_k shows the record at ERR_REC_IDX (R341). -/
def shownErr (s : State) (o : Nat) : List (Nat × Nat) :=
  if 0x40 ≤ o ∧ o < 0x80 then
    match tfind s.itg.ring (s.rd R.ERR_REC_IDX.index) with
    | some r => [(0, ofBytes ((errBytes r).drop (o - 0x40) |>.take 4))]
    | none => []
  else []

/-- SDC registers that show the units (R365). -/
def shownSdc (s : State) (o : Nat) : List (Nat × Nat) :=
  let all := List.range 136
  if o = 0x00 then [(5, b2n (all.any fun n => unitDue s n 2)), (4, b2n (all.any fun n => unitDue s n 1))]
  else if o = 0x0C then
    [(30, s.sdc.result), (22, s.sdc.lastUnit), (16, (tileUnderSwatch s 1).getD 0), (10, (tileUnderSwatch s 0).getD 0),
     (9, b2n (tileUnderSwatch s 1).isSome), (8, b2n (tileUnderSwatch s 0).isSome),
     (0, ofMembers ((List.range 8).filter fun i => (unitLive s (128 + i)).running.isSome))]
  else if 0x100 ≤ o ∧ o < 0x320 then
    let n := (o - 0x100) / 4
    [(30, unitState s n), (28, (unitKept s n).level), (27, b2n (unitDue s n 1)), (26, b2n (unitDue s n 2)),
     (25, b2n (unitLive s n).running.isSome), (22, min 3 (historyCount s n)), (18, min 10 (unitKept s n).passes),
     (0, min 0x3FFFF (sinceSwatch s n))]
  else []

/-- The log ring that FW_LOG_SEL selects; empty while its die is absent (R387). -/
def selectedRing (s : State) : Proc :=
  let p := s.rd R.FW_LOG_SEL.processor
  if 4 ≤ p ∧ ¬ s.dieUp ((p - 4) / 2) then {} else tget s.fw.procs p

/-- FW_PROC_p.window counts the crashes of the last 600 s; FW_LOG_HEAD and FW_LOG_DATA_k show the selected ring (R374, R387). -/
def shownFw (s : State) (o : Nat) : List (Nat × Nat) :=
  if 0x10 ≤ o ∧ o < 0x30 then [(22, min 3 (recentCrashes s ((o - 0x10) / 4)).length)]
  else if o = 0xC4 then [(11, b2n (selectedRing s).logWrapped), (0, (selectedRing s).logNext)]
  else if 0xE0 ≤ o ∧ o < 0x100 then
    match tfind (selectedRing s).log (s.rd R.FW_LOG_SEL.index) with
    | some e => [(0, ofBytes ((logBytes e).drop (o - 0xE0) |>.take 4))]
    | none => []
  else []

/-- MGT registers that show the responder and how long each commander has been silent (R409, R410). -/
def shownMgt (s : State) (o : Nat) : List (Nat × Nat) :=
  let lim := s.rd R.MGT_CFG.silence
  if o = 0 then
    [(7, b2n (responding s)), (5, b2n (decide (lim ≤ s.silence .host))), (4, b2n (decide (lim ≤ s.silence .rackManager)))]
  else if o = 0x18 then [(16, min 0xFFFF (s.silence .host)), (0, min 0xFFFF (s.silence .rackManager))]
  else []

/-- SEC registers that show the consent's time and the selected measurement (R490). -/
def shownSec (s : State) (o : Nat) : List (Nat × Nat) :=
  if o = 0 then [(9, b2n (consentValid s))]
  else if o = 0x10 then
    match s.sec.consent with
    | some c => [(31, b2n (consentValid s)), (0, (c.2 + 3600000000 - s.now) / 1000000)]
    | none => []
  else if 0x80 ≤ o ∧ o < 0xC0 then
    let slot := s.rd R.SEC_MEAS_SEL.slot
    [(0, if slot ≤ 8 then tget s.sec.meas slot / 2 ^ (8 * (o - 0x80)) % 2 ^ 32 else 0)]
  else []

/-- R265, R507: whether ACC_SLOW_N of a slot is low: held until its voltage is confirmed, or in the asserted part of the slow period, which
follows the released part (log 64). -/
def slowLow (s : State) (slot : Nat) : Bool :=
  s.pwr.slowHold.testBit slot || decide (s.duty slot * (10 * s.rd R.PWR_THROTTLE_CFG.slow_period) ≤ 8 * (s.now - s.pwr.slowAt) ∧ s.duty slot < 8)

/-- Whether the rail of hub role 7, VDD_IO, is good (R226, R497). -/
def ioGood (s : State) : Bool := s.img.rails.any fun r => r.owner == 10 && r.role == 7 && s.seq.good.testBit r.channel

/-- PIN registers that show pin levels (R507). The warden's own pad supplies come from VDD_STBY (R492). -/
def shownPin (s : State) (o : Nat) : List (Nat × Nat) :=
  if o = 0x00 then
    [(5, b2n (s.dieUp 1 && ioGood s)), (4, b2n (s.dieUp 0 && ioGood s)), (3, b2n (ioGood s)), (2, b2n s.sup.standby), (1, b2n s.sup.standby)]
  else if o = 0x04 then
    [(24, s.seq.present), (16, s.pin.thermtrip), (8, ofMembers ((List.range 8).filter (slowLow s))), (0, s.rd R.SEQ_HOLD.slot_reset)]
  else if o = 0x08 then [(2, s.rd (R.COOL_ISO.closed 0) + 2 * s.rd (R.COOL_ISO.closed 1)), (1, s.rd R.SEQ_HOLD.input_off)]
  else if o = 0x10 then [(7, b2n (s.pin.emmc != 0)), (4, s.pin.emmc), (0, b2n (s.sup.romHold || s.sup.loaderStarted))]
  else []

/-- What the register at a management offset shows beside the field file. -/
def shown (s : State) (off : Nat) : List (Nat × Nat) :=
  let o := off % 0x10000
  match offDie off with
  | some d => match off / 0x10000 % 0x100 with
    | 0x1 => shownCad s d o
    | 0x2 => shownPat s d o
    | 0x3 => shownCol s d o
    | 0x5 => shownMem s d o
    | 0x6 => shownLnk s d o
    | _ => []
  | none => match off / 0x10000 with
    | 0x10 => shownSeq s o
    | 0x12 => shownCool s o
    | 0x13 => shownLeak s o
    | 0x14 => shownMon s o
    | 0x20 => shownErr s o
    | 0x21 => shownSdc s o
    | 0x30 => shownFw s o
    | 0x32 => shownMgt s o
    | 0x35 => shownSec s o
    | 0x40 => shownPin s o
    | _ => []

/-- The 64-bit value whose low word the register at an offset is, where it is the low word of a latched pair (R9, R70, R136, R165, R199,
R224, R276). -/
def lowWord (s : State) (off : Nat) : Option Nat :=
  let o := off % 0x10000
  let kept : Option Nat := some (tget s.wide (off * 32))
  match offDie off with
  | some _ => match off / 0x10000 % 0x100 with
    | 0x1 => if o = 0x10 then some s.cad.step else if o = 0x40 then some (s.gt.time % 2 ^ 64) else none
    | 0x3 => if o = 0x20 ∨ o = 0x28 then kept else none
    | 0x4 => if o = 0x30 then kept else none
    | 0x5 => if o = 0x20 ∨ o = 0x48 then kept else none
    | 0x6 => if o < 0x100 ∧ o % 0x20 = 8 then kept else none
    | _ => none
  | none => if off / 0x10000 = 0x11 ∧ 0x100 ≤ o ∧ o < 0x188 ∧ o % 8 = 0 then kept else none

/-- Whether a register holds the overflow bits of its block's counts (R9). -/
def holdsOverflow (rows : List RegRow) (o : Nat) : Bool := rows.any fun r => r.ovf.any fun v => v.1 == o

/-- The value of the register at a management offset (R12, R14): zero where none is assigned; a WO field reads as zero. -/
def readValue (s : State) (off : Nat) : Nat :=
  match regAt off with
  | none => 0
  | some (base, r, _) =>
    match lowWord s off with
    | some v => v % 2 ^ 32
    | none =>
      if (blockAt off).any fun b => holdsOverflow b.2 (off - base) then
        total ((List.range 32).map fun b => 2 ^ b * tgetD s.regs (off * 32 + b) 0)
      else
        let l := shown s off
        total (r.fields.map fun f =>
          if f.acc = .wo then 0 else 2 ^ f.lo * (tgetD l f.lo (s.rd (f.fld off)) % 2 ^ (f.hi + 1 - f.lo)))

/-! ## Reads -/

/-- R14: the current value that a field recording a peak takes when it is read. -/
def peakNow (s : State) (off : Nat) : Nat := match offDie off with
  | some d => if off % 0x1000000 = 0x50010 then s.rd (R.MEM_CTX.used d) else s.rd (R.COL_STAGE_USED.mib d)
  | none => 0

/-- R9, R14: what a read clears: the RC fields, and the overflow bit of a count. -/
def clearOnRead (s : State) (off : Nat) : State := match regAt off with
  | none => s
  | some (base, r, i) =>
    let s := r.fields.foldl (init := s) fun s f => match f.acc with
      | .rc => s.wr (f.fld off) f.rst
      | .peak => s.wr (f.fld off) (peakNow s off)
      | _ => s
    match r.ovf with
    | some (o, b, k) => s.wr ⟨(base + o) * 32 + b + k * i, 1, 0⟩ 0
    | none => s

/-- R70: a read of the low word latches the upper bits into the high word. -/
def latchHigh (s : State) (off : Nat) : State := match lowWord s off with
  | none => s
  | some v => (fieldsAt (off + 4)).foldl (init := s) fun s f => s.wr (f.fld (off + 4)) (f.of (v / 2 ^ 32))

/-- A read of a register that its die lets through. -/
def readThrough (off : Nat) (s : State) : State :=
  let v := readValue s off
  (clearOnRead (latchHigh s off) off).answer .ok v 0

/-- A register access: it reaches no hub through the address space while neither die runs (R508); INVALID where it is not an aligned word or
lies outside every block (R11, R12); RETRY where the die that holds the register does not run (R508). -/
def registerAccess (agent : Agent) (off : Nat) (f : State → State) (s : State) : State :=
  s.reach agent fun s =>
  if off % 4 ≠ 0 ∨ inRegBlock off = false then s.answer .invalid 0 0
  else match offDie off with
    | some d => s.gateDie agent d f
    | none => f s

/-- A read of the register at a management offset. -/
def registerRead (agent : Agent) (off : Nat) (s : State) : State := registerAccess agent off (readThrough off) s

/-! ## Writes -/

/-- R166, R484: debug access is open. -/
def debugOpen (s : State) : Bool := (s.rd R.SEC_DEBUG.scope).testBit 1

/-- Whether a block's own rule denies a write of an assigned register. -/
def writeDenied (s : State) (a : Agent) (off : Nat) : Bool :=
  let o := off % 0x10000
  let other := a != .steward
  match offDie off with
  | some _ => match off / 0x10000 % 0x100 with
    | 0x2 => other && [0x08, 0x0C, 0x10].contains o
    | 0x4 => o == 0x2C && ! debugOpen s
    | 0x6 => other && o == 0x104
    | _ => false
  | none => match off / 0x10000 with
    | 0x10 => other && [0x08, 0x5C].contains o
    | 0x11 => o != 0 && a != .proc 1
    | 0x12 => if o = 0x10 then other else o != 0
    | 0x13 => other && o == 0x04
    | 0x20 => other && [0x08, 0x38].contains o
    | 0x21 => other && o == 0x08
    | 0x30 => other && (o == 0x04 || decide (0x80 ≤ o ∧ o ≤ 0xC0))
    | 0x31 => other && decide (0x10 ≤ o ∧ o < 0x40)
    | 0x32 => other && ! [0x00, 0x38].contains o
    | 0x33 => o != 0 && a != .proc 3
    | 0x34 => other && o != 0
    | 0x35 => ! [0x1C, 0x20].contains o
    | 0x36 => o != 0x04
    | 0x40 => true
    | _ => false

/-- R14: a write by the access types: RW fields take their bits, a 1 clears a W1C bit, and RO and RC fields ignore the write. -/
def writeFields (s : State) (off v : Nat) : State :=
  (fieldsAt off).foldl (init := s) fun s f => match f.acc with
    | .rw => s.wr (f.fld off) (f.of v)
    | .w1c => if f.of v = 0 then s else s.wr (f.fld off) 0
    | _ => s

/-- A write by the access types, answered OK. -/
def writePlain (off v : Nat) (s : State) : State := (writeFields s off v).answer .ok 0 0

/-- R97: a write of PAT_NEXT in die `d`'s block; H1's copies are RO while H0 runs. -/
def writePatNext (d v : Nat) (s : State) : State :=
  if d = 1 ∧ s.dieUp 0 then s.answer .ok 0 0
  else (writeNext (v.testBit 31) (v.testBit 30) (v % 256) (s.rd (R.PAT_NEXT_STEP.step_lo d)) s).answer .ok 0 0

/-- R97: a write of PAT_NEXT_STEP in die `d`'s block. -/
def writePatStep (d v : Nat) (s : State) : State :=
  if d = 1 ∧ s.dieUp 0 then s.answer .ok 0 0
  else { s.wrDies R.PAT_NEXT_STEP.step_lo v with pat := { s.pat with nextAt := s.gt.time } }.answer .ok 0 0

/-- R166: a write of ARR_INJECT while debug access is open. -/
def writeInject (d : Nat) (arm : Bool) (tile : Nat) (s : State) : State :=
  ((s.wr (R.ARR_INJECT.arm d) (b2n arm)).wr (R.ARR_INJECT.tile d) tile).answer .ok 0 0

/-- R8, R247: a write of SEQ_CTRL: every order it names must be allowed, and they are taken in ascending order of their bits (log 64). Where it
orders the tray or a slot both on and off, the order to turn off stands. -/
def writeSeqCtrl (v : Nat) (s : State) : State :=
  let on := bits v 7 0
  let off := bits v 15 8
  let ok := (on == 0 || slotsAllowed s) && (off == 0 || slotsAllowed s) && (! v.testBit 16 || trayOffAllowed s) &&
    (! v.testBit 17 || trayOnAllowed s)
  if ok = false then s.answer .invalid 0 0
  else
    let s := s.answer .ok 0 0
    let s := if setMinus on off = 0 ∨ v.testBit 16 = true then s else orderSlotsOn s (setMinus on off)
    let s := if off = 0 then s else orderSlotsOff s off
    if v.testBit 16 then orderTrayOff s false else if v.testBit 17 then orderTrayOn s else s

/-- R374, R387: a write of FW_CTRL: restarts, then revivals. -/
def writeFwCtrl (v : Nat) (s : State) : State :=
  ((members (bits v 15 8) 8).foldl revive ((members (bits v 7 0) 8).foldl orderRestart s)).answer .ok 0 0

/-- A write of a register of die `d` that the block's rules let through. -/
def writeHub (a : Agent) (d off v : Nat) (s : State) : State :=
  let o := off % 0x10000
  match off / 0x10000 % 0x100 with
  | 0x1 => if o = 0x18 then toleranceWrite a d (v % 65536) s else writePlain off v s
  | 0x2 =>
    if o = 0x08 then writePatNext d v s
    else if o = 0x0C then writePatStep d v s
    else if o = 0x10 then (if v.testBit 0 then patternRestart a s else s.answer .ok 0 0)
    else writePlain off v s
  | 0x4 => if o = 0x2C then writeInject d (v.testBit 31) (v % 64) s else writePlain off v s
  | 0x5 => if o = 0x04 then memOpenCfgWrite a d (bits v 25 16) (bits v 9 0) s else writePlain off v s
  | 0x6 => if o = 0x104 then (clearLinks (retrainLinks s d (bits v 7 0)) d (bits v 15 8)).answer .ok 0 0 else writePlain off v s
  | _ => writePlain off v s

/-- A write of a warden register that the block's rules let through. -/
def writeWarden (a : Agent) (off v : Nat) (s : State) : State :=
  let o := off % 0x10000
  match off / 0x10000 with
  | 0x10 => if o = 0x08 then writeSeqCtrl v s else writePlain off v s
  | 0x12 => if o = 0x10 then clearCooling (s.answer .ok 0 0) v else writePlain off v s
  | 0x13 => if o = 0x04 then leakClearWrite a (v % 256) s else writePlain off v s
  | 0x14 => if o = 0x18 then monSelWrite a (bits v 15 14) (bits v 13 12) (bits v 5 0) s else writePlain off v s
  | 0x20 => if o = 0x08 ∧ v.testBit 0 then hubLatchRelease a s else writePlain off v s
  | 0x21 => if o = 0x08 then swatchOrder a (v.testBit 8) (v % 256) s else writePlain off v s
  | 0x30 =>
    if o = 0x04 then writeFwCtrl v s
    else if o = 0x08 then watchdogKick a (v % 256) s
    else writePlain off v s
  | _ => writePlain off v s

/-- A write of a register that its die lets through: the host's session (R177), the block's rule, then the write itself. -/
def writeThrough (agent : Agent) (off value : Nat) (s : State) : State :=
  s.hostGate agent fun s =>
    if (regAt off).isNone then s.answer .ok 0 0
    else if writeDenied s agent off then s.answer .denied 0 0
    else match offDie off with
      | some d => writeHub agent d off (value % 2 ^ 32) s
      | none => writeWarden agent off (value % 2 ^ 32) s

/-- A write of the register at a management offset. R508 answers every access to a die that does not run with RETRY. -/
def registerWrite (agent : Agent) (off value : Nat) (s : State) : State := registerAccess agent off (writeThrough agent off value) s

/-- READ_CLEAR (R14): a read of a register; its RC fields are then cleared. -/
def readClear (agent : Agent) (off : Nat) (s : State) : State := registerRead agent off s

/-- LATCHED_LOW_READ (R9, R70): a read of the low word of a pair latches the upper bits; every read does what its offset asks for. -/
def latchedLowRead (agent : Agent) (off : Nat) (s : State) : State := registerRead agent off s

/-- ARR_INJECT_WRITE (R166). -/
def arrInjectWrite (agent : Agent) (die : Nat) (arm : Bool) (tile : Nat) (s : State) : State :=
  s.gateDie agent die fun s => s.hostGate agent fun s =>
    if debugOpen s = false then s.answer .denied 0 0 else writeInject die arm tile s

/-- CLOCK_HELD_LOW (R385, R501): the PMBus/I2C master on controller C1 to C4 ends its holder's transfer with the bus's recovery. The transfer
counts as failed; its last beat, and with it the draw, is ARB_DRAW's. -/
def clockHeldLow (c : Nat) (s : State) : State :=
  if c = 0 ∨ 4 < c ∨ s.on (R.ARB_CTL.held c) = false then s else s.emit (.busRecovery c)

/-- REGISTER_WRITE. -/
def execRegisterWrite (agent : Agent) (off value : Nat) (s : State) : Host.Outcome State Fault Refusal :=
  .next (registerWrite agent off value s)
/-- READ_CLEAR. -/
def execReadClear (agent : Agent) (off : Nat) (s : State) : Host.Outcome State Fault Refusal := .next (readClear agent off s)
/-- LATCHED_LOW_READ. -/
def execLatchedLowRead (agent : Agent) (off : Nat) (s : State) : Host.Outcome State Fault Refusal :=
  .next (latchedLowRead agent off s)
/-- CLOCK_HELD_LOW. -/
def execClockHeldLow (c : Nat) (s : State) : Host.Outcome State Fault Refusal := .next (clockHeldLow c s)
/-- ARR_INJECT_WRITE. -/
def execArrInjectWrite (agent : Agent) (die : Nat) (arm : Bool) (tile : Nat) (s : State) : Host.Outcome State Fault Refusal :=
  .next (arrInjectWrite agent die arm tile s)

end Sys2Proof.Machine
end

