-- ==== Sys2Proof/Machine/Perform.lean ====
section
/-! DEFINITION. Open operations at their targets on this hub: home ports, the telemetry window and the management registers (R168, R172 to
R179, R187, R195, R317 to R324). -/

namespace Sys2Proof.Machine

/-! ## What an operation does to memory -/

/-- The payload of a request as exactly `n` bytes. -/
def payload (r : OpenReq) (n : Nat) : List Nat := (r.data ++ List.replicate n 0).take n

/-- R174: the new value that an atomic of `n` bytes gives for the old value `m` with operand `v` and compare value `c`. -/
def atomicResult (op : OpenOp) (n m v c : Nat) : Nat := match op with
  | .swap => v
  | .cas => if m = c then v else m
  | .fetchAdd => (m + v) % 2 ^ (8 * n)
  | .fetchAnd => m &&& v
  | .fetchOr => m ||| v
  | .fetchXor => m ^^^ v
  | .fetchMin => if toSigned (8 * n) v < toSigned (8 * n) m then v else m
  | .fetchMax => if toSigned (8 * n) m < toSigned (8 * n) v then v else m
  | .fetchUmin => min m v
  | .fetchUmax => max m v
  | _ => m

/-- Whether a request writes every byte of the lines it touches. -/
def wholeLines (r : OpenReq) : Bool := match r.op with
  | .writeBulk => true
  | .write => r.hdr.size == 256
  | .writeMasked => r.mask % 2 ^ 256 == 2 ^ 256 - 1
  | _ => false

/-- The part of a write that lies in one line, written at its home port. A whole line clears the line's mark (R321). -/
def writePool (s : State) (r : OpenReq) (line : Nat) : State :=
  let off := r.hdr.addr % 2 ^ 46
  let lo := max off (line * 256)
  let l := ((payload r r.hdr.size).drop (lo - off)).take ((line + 1) * 256 - lo)
  let m := if wholeLines r then s.mem.unmark line else s.mem
  { s with mem := { m with pool :=
      if r.op = .writeMasked then Memory.writeMasked m.pool lo (r.mask % 2 ^ 256) l else Memory.writeBytes m.pool lo l } }

/-- R174: the effect of a request on the pool at its home ports and its response data. Lines that are not served keep their contents. -/
def applyPool (s : State) (r : OpenReq) : State × List Nat :=
  let off := r.hdr.addr % 2 ^ 46
  let n := r.hdr.size
  match opClass r.op with
  | 0 => (countSpan s off n false, Memory.readBytes s.mem.pool off n)
  | 1 => (countSpan (((linesOf off n).filter fun l => lineServed s (l * 256)).foldl (fun s l => writePool s r l) s) off n true, [])
  | 2 =>
    let old := Memory.readBytes s.mem.pool off n
    let new := atomicResult r.op n (ofBytes old) (ofBytes (payload r n)) (ofBytes (r.compare.take n))
    let s := { s with mem := { s.mem with pool := Memory.writeBytes s.mem.pool off (bytesOf n new) } }
    (countSpan (countSpan s off n false) off n true, old)
  | _ => (s, [])

/-- R274: the pool bytes of a request are counted for its source's partition. -/
def countOpen (s : State) (r : OpenReq) : State := if r.src.kind = 0 then countPart s (s.partOf r.src.slot) r.hdr.size else s

/-- A POISON response at a home port (R195, R196). -/
def answerPoison (s : State) (id line : Nat) : State :=
  finishOpen (modMemStat s (homeOf (line * 256)).unit fun m => { m with poison := m.poison + 1 }) id .poison [] false

/-! ## The home port -/

/-- R179: whether an earlier operation of the same source on the same queue waits to be performed on a line that a request touches. -/
def heldByOrder (s : State) (c : Context) : Bool :=
  let lines (r : OpenReq) : Nat × Nat := (r.hdr.addr / 256, (r.hdr.addr + r.hdr.size - 1) / 256)
  s.mem.ctxs.any fun e =>
    decide (e.id < c.id) && e.req.src == c.req.src && e.req.hdr.queue == c.req.hdr.queue && e.req.op != .fence &&
      decide ((lines e.req).1 ≤ (lines c.req).2) && decide ((lines c.req).1 ≤ (lines e.req).2)

/-- R133: whether a FUSED row in flight is still to update a line of the span: a write there is ordered after the row's. -/
def heldByFused (s : State) (off n : Nat) : Bool :=
  s.pat.flights.any fun f => rowKind f.words == 5 && f.shard.isNone &&
    [rowField f.words 6 11 0, rowField f.words 6 23 12].any fun i =>
      let d := descOf s i
      let o := d.base % 2 ^ 46
      decide (o / 256 ≤ (off + n - 1) / 256) && decide (off / 256 ≤ (o + extentBytes d - 1) / 256)

/-- A request performed on the pool and answered. A line that is not served makes the answer POISON (R173), and nothing of a read or an atomic is done. -/
def performPool (s : State) (c : Context) : State :=
  let r := c.req
  let off := r.hdr.addr % 2 ^ 46
  let bad := (linesOf off r.hdr.size).find? fun l => ! lineServed s (l * 256)
  match bad with
  | some l => answerPoison (if opClass r.op = 1 then countOpen (applyPool s r).1 r else s) c.id l
  | none =>
    let p := applyPool s r
    finishOpen (countOpen p.1 r) c.id .ok p.2 false

/-- A request that reaches its home port in a pool (R133, R172, R173, R187, R195, R317, R318, R320, R321, R324). What the check finds concerns the
request's first line (log 64); a write of whole lines takes nothing from what is stored there. -/
def atHomePort (s : State) (c : Context) (check : MemCheck) : State :=
  let r := c.req
  let off := r.hdr.addr % 2 ^ 46
  let line := off / 256
  let home := homeOf off
  let op := 0x3000 + packetType r.op
  let partial_ := ! wholeLines r
  if ! guardAllows s r.src off (opClass r.op) then finishOpen s c.id .denied [] false
  else if opClass r.op ≠ 0 ∧ heldByFused s off r.hdr.size = true then s
  else if ! lineServed s off then performPool s c
  else match check with
    | .parity =>
      let s := if opClass r.op = 0 then s else markPoison s line
      parityMismatch (answerPoison s c.id line) op home.die home.tile 2 0 0
    | .bridge n => bridgeResend (markedOrDone s partial_ r c) op home.die n
    | .inner n => markedOrDone (if partial_ then innerCorrected s line n else s) partial_ r c
    | .corrected n f =>
      if partial_ && ! s.mem.isMarked line then markedOrDone (correctedError s op line n f) partial_ r c else markedOrDone s partial_ r c
    | .uncorrectable _ f =>
      if partial_ && ! s.mem.isMarked line then poolUncorrectable (answerPoison s c.id line) op line f false
      else markedOrDone s partial_ r c
    | .clean => markedOrDone s partial_ r c
where
  /-- R320, R321: a marked line answers POISON to all but a write of whole lines. -/
  markedOrDone (s : State) (partial_ : Bool) (r : OpenReq) (c : Context) : State :=
    let off := r.hdr.addr % 2 ^ 46
    match (linesOf off r.hdr.size).find? fun l => partial_ && s.mem.isMarked l with
    | some l => answerPoison s c.id l
    | none => performPool s c

/-! ## The telemetry window and the management registers -/

/-- R187, R196: a read of the telemetry window. -/
def atTelemetry (s : State) (c : Context) : State :=
  let off := c.req.hdr.addr % 2 ^ 46
  if ! guardAllows s c.req.src off 0 then finishOpen s c.id .denied [] false
  else finishOpen s c.id .ok ((List.range c.req.hdr.size).map fun i => snapByte s (off - 0x300000000000 + i)) false

/-- The answer that a register access has sent since `before` entries of the outbox, and the state without it. -/
def takeAnswer (before : Nat) (s : State) : Option (Resp × Nat × Nat) × State :=
  let new := s.out.take (s.out.length - before)
  let isAnswer (o : Out) : Bool := match o with
    | .answer _ _ _ => true
    | _ => false
  let found := new.findSome? fun o => match o with
    | .answer r v h => some (r, v, h)
    | _ => none
  (found, { s with out := (new.filter fun o => ! isAnswer o) ++ s.out.drop (s.out.length - before) })

/-- R177: an access to the management registers, first by the guards, then by the rules of the register's block. -/
def atRegister (s : State) (c : Context) : State :=
  let r := c.req
  let off := r.hdr.addr % 2 ^ 46
  if ! guardAllows s r.src off (opClass r.op) then finishOpen s c.id .denied [] false
  else
    let agent : Agent := if r.src.kind = 1 then .host else .window
    let o := off - 0x3F0000000000
    let t := if opClass r.op = 0 then registerRead agent o s else registerWrite agent o (ofBytes (payload r 4)) s
    match takeAnswer s.out.length t with
    | (none, t) => t
    | (some (a, v, h), t) => finishOpenHint t c.id a (if a = .ok ∧ opClass r.op = 0 then bytesOf 4 v else []) false h

/-- OPEN_PERFORMED (R178, R179): the target on this hub applies the request of a dispatched context, or refuses it. A FENCE is answered once
every earlier operation of its source on its queue has been performed. One that left by a link is performed elsewhere. -/
def openPerformed (id : Nat) (check : MemCheck) (s : State) : State :=
  match ctxOf s id with
  | none => s
  | some c =>
    if c.link.isSome then s
    else if c.req.op = .fence then (if earlierPending s id c.req then s else finishOpen s id .ok [] false)
    else if heldByOrder s c then s
    else match regionOf (c.req.hdr.addr % 2 ^ 46) with
      | .hbm => atHomePort s c check
      | .lpddr => atHomePort s c check
      | .telemetry => atTelemetry s c
      | .registers => atRegister s c
      | _ => s

/-- OPEN_PERFORMED. -/
def execOpenPerformed (id : Nat) (check : MemCheck) (s : State) : Host.Outcome State Fault Refusal :=
  .next (openPerformed id check s)

end Sys2Proof.Machine
end

