-- ==== Sys2Proof/Machine/Telemetry.lean ====
section
/-! DEFINITION. The telemetry window's snapshot (R196 to R198, R223, R275, R310). A page is a list of its 32-bit words. -/

namespace Sys2Proof.Machine

/-- A register as the snapshot copies it: 0 for a register of a die that does not run. -/
def copied (s : State) (off : Nat) : Nat := match offDie off with
  | some d => if s.dieUp d then readValue s off else 0
  | none => readValue s off

/-- `n` registers from a management offset. -/
def copies (s : State) (off n : Nat) : List Nat := (List.range n).map fun i => copied s (off + 4 * i)

/-- A 64-bit value as two words. -/
def words64 (v : Nat) : List Nat := [v % 2 ^ 32, v / 2 ^ 32 % 2 ^ 32]

/-- R196: the header. -/
def headerWords (s : State) (warden : Bool) : List Nat :=
  words64 s.mem.snapSeq ++ words64 s.gt.time ++ words64 (s.cad.step % 2 ^ 48) ++
    [s.tree.hub, 1, s.rd R.REC_SECONDS.seconds, s.rd R.REC_CYCLES.cycles % 2 ^ 24] ++ words64 s.mem.snapCount ++ [b2n warden]

/-- R275: a slot record: the 1 ms average p_s, and u_s, which is p_s with the slot's duty removed (R258). -/
def slotWords (s : State) (slot : Nat) : List Nat :=
  let p : Rat := (s.rd (R.PWR_ACC.estimate slot) : Rat)
  let idle : Rat := ((s.entryAt slot s.gauge).idle : Rat)
  let d := max 1 (s.duty slot)
  [s.rd (R.PWR_ACC.estimate slot), shownW 32 (idle + (p - idle) * 8 / (d : Rat)), copied s (0x110080 + 4 * slot), 0]

/-- R275: a partition record. -/
def partWords (s : State) (p : Nat) : List Nat :=
  [s.rd (R.PWR_PART.estimate p), (partCap s p).getD 0xFFFFFFFF, 0, 0]

/-- R275: the power and gauge page. -/
def powerWords (s : State) : List Nat :=
  let n : Rat := ((max 1 (total (s.pwr.buckets.map PowerBucket.n)) : Nat) : Rat)
  let avg (f : PowerBucket → Rat) : Nat := shownW 32 (bucketSum s.pwr.buckets f / n)
  [s.rd R.PWR_TRAY_EST.tray, s.rd R.PWR_CAP_EFF.cap, s.rd R.PWR_BUDGET.budget, avg PowerBucket.hub, avg PowerBucket.aux,
   s.rd R.PWR_HUB.allowance, s.rd R.PWR_UNMET.shortfall, copied s 0x110000, copied s 0x110004, copied s 0x110030] ++
    List.replicate 6 0 ++ (List.range 8).flatMap (slotWords s) ++ (List.range 8).flatMap (partWords s)

/-- R196: the energy page. -/
def energyWords (s : State) : List Nat := (List.range 17).flatMap fun n => words64 (tget s.wide (R.PWR_ENERGY_LO.count n).key)

/-- R310: the predicted temperature of a slot in bits 15:0, 0 where the model predicts none. -/
def predictedWord (s : State) (slot : Nat) : Nat := match predictedTemp s slot with
  | some t => ofSigned 16 t
  | none => 0

/-- R310: the thermal and coolant page. -/
def thermalWords (s : State) : List Nat :=
  copies s 0x120100 16 ++ copies s 0x120140 8 ++ copies s 0x120160 2 ++ List.replicate 6 0 ++ copies s 0x120040 8 ++
    (List.range 8).map (predictedWord s) ++ copies s 0x120060 8 ++ copies s 0x120080 2 ++ List.replicate 6 0 ++
    copies s 0x1200A0 8 ++ copies s 0x1200C0 2 ++ copies s 0x120000 4 ++ copies s 0x130000 1 ++ [0] ++ copies s 0x130040 16 ++
    copies s 0x140010 2 ++ copies s 0x140008 1

/-- R196: the cadence page: H0's registers. -/
def cadenceWords (s : State) : List Nat := copies s 0x1010000 6 ++ [copied s 0x1010048]

/-- R223: the record of link `l`. -/
def linkWords (s : State) (l : Nat) : List Nat :=
  let d := linkDie l
  let i := linkIdx l
  let k := tget s.lnk.links l
  let base := 0x1000000 * (d + 1) + 0x60000 + 32 * i
  [copied s base, copied s (base + 0x1C)] ++ words64 (tget s.wide (R.LNK_FEC_CORR_LO.count d i).key) ++
    copies s (base + 0x10) 3 ++ [if 8 ≤ l then copied s (0x1000000 * (d + 1) + 0x60120 + 4 * (i - 4)) else 0] ++
    words64 k.plannedSent ++ words64 k.plannedRecv ++ words64 k.openSent ++ words64 k.openRecv ++
    [k.activityCount, b2n k.activityLost] ++ List.replicate 46 0

/-- R196: the record of a memory unit. -/
def memWords (s : State) (unit : Nat) : List Nat :=
  let m := tget s.mem.mstat unit
  let sat (n : Nat) : Nat := min n (2 ^ 32 - 1)
  [sat m.corrected, sat m.uncorrectable, sat m.poison, 0] ++ words64 m.read ++ words64 m.written ++ List.replicate 8 0

/-- R196: the record of queue `q`. -/
def queueWords (s : State) (q : Nat) : List Nat :=
  let x := tget s.mem.qstat q
  words64 x.bytes ++ words64 x.completed ++ [x.retry, x.busy, x.denied, (tget s.mem.waiting q).length]

/-- R196: a unit's status byte by its identifier: absent 0, in service 1, fenced 2, failed 3, and the observation level. What the spec
does not say of units that it does not observe is the model's choice (log 66). -/
def unitStatus (s : State) (u : Nat) : Nat :=
  let i := u % 4096
  let on (b : Bool) : Nat := b2n b
  match unitOfIdent u with
  | some n => unitState s n + 4 * (unitKept s n).level
  | none => match unitDomain u with
    | 0 =>
      if i < 4 then (if s.rd (R.FW_PROC.state i) = 3 then 3 else on (s.rd (R.FW_PROC.state i) != 0))
      else if i = 0x40 then s.rd R.PWR_DOMAIN_W.w0_on
      else if i = 0x41 then s.rd R.PWR_DOMAIN_W.w1_on
      else on ((decide (0x10 ≤ i) && decide (i ≤ 0x14)) || i == 0x20 || i == 0x30)
    | 4 =>
      if 16 ≤ i then 0
      else match s.linkState i with
        | 0 => 0
        | 3 => if i < 8 ∧ s.pat.accFenced.testBit i then 2 else 1
        | 5 => 3
        | _ => 2
    | 5 =>
      if i < 6 then on (s.dieUp (i / 3) && s.domainOn (i / 3) (22 + i % 3))
      else if 16 ≤ i ∧ i < 32 then on (s.dieUp ((i - 16) / 8) && s.domainOn ((i - 16) / 8) 25)
      else 0
    | 6 =>
      if i < 16 then (if ¬ s.img.plant.temps.testBit i then 0 else if s.on (R.COOL_TEMP.failed i) then 3 else 1)
      else if i < 24 then
        (if ¬ s.img.plant.flows.testBit (i - 16) then 0 else if s.on (R.COOL_FLOW.failed (i - 16)) then 3 else 1)
      else if 0x20 ≤ i ∧ i < 0x22 then on (s.img.plant.presses.testBit (i - 0x20))
      else if 0x30 ≤ i ∧ i < 0x40 then on (s.img.plant.zones.any fun z => z.loops.testBit (i - 0x30))
      else 0
    | 7 =>
      if i < 8 then (if ! s.on (R.COOL_FAN.present i) then 0 else if s.rd (R.COOL_FAN.state i) = 4 then 3 else 1)
      else if 0x20 ≤ i ∧ i < 0x28 then (if s.on (R.COOL_VALVE.flagged (i - 0x20)) then 3 else 1)
      else if 0x30 ≤ i ∧ i < 0x32 then on (s.img.plant.zones.any fun z => z.iso == i - 0x30 + 1)
      else if i = 0x10 ∨ i = 0x11 then (if s.rd (R.COOL_PUMP.state (i - 0x10)) = 4 then 3 else 1)
      else 0
    | 8 =>
      if 64 ≤ i ∨ (s.img.rails.any fun r => r.channel == i) = false then 0
      else match (tget s.seq.rails i).state with
        | 2 => 1
        | 3 => 3
        | 4 => 3
        | 7 => 3
        | _ => 0
    | _ =>
      let d := unitDomain u - 1
      if ¬ (unitDomain u = 1 ∨ unitDomain u = 2) ∨ ¬ s.dieUp d then 0
      else if 0x40 ≤ i ∧ i ≤ 0x5A then on (s.domainOn d (i - 0x40))
      else if i = 0x60 ∨ i = 0x61 then
        (if s.rd (R.FW_PROC.state (4 + 2 * d + (i - 0x60))) = 3 then 3 else on (s.rd (R.FW_PROC.state (4 + 2 * d + (i - 0x60))) != 0))
      else on ((decide (0x70 ≤ i) && decide (i < 0xA2)) || i == 0xB0 || i == 0xC0 || i == 0xD0)

/-- R196: the unit status bytes, as words. -/
def unitWords (s : State) : List Nat :=
  (List.range 0x2400).map fun w => ofBytes ((List.range 4).map fun b => unitStatus s (4 * w + b))

/-- The words of a page at an offset that are not zero. -/
def pageAt (base : Nat) (l : List Nat) : Tab Nat :=
  (l.zipIdx.map fun (p : Nat × Nat) => (base + 4 * p.2, p.1 % 2 ^ 32)).filter fun p => p.2 != 0

/-- The pages that the warden makes from its own data (R197). -/
def wardenPages (s : State) (warden : Bool) : Tab Nat :=
  pageAt 0 (headerWords s warden) ++ pageAt 0x1000 (powerWords s) ++ pageAt 0x2000 (energyWords s) ++ pageAt 0x3000 (thermalWords s)

/-- R196: the whole snapshot. -/
def fullSnapshot (s : State) : Tab Nat :=
  wardenPages s false ++ pageAt 0x4000 (cadenceWords s) ++
    ((List.range 16).flatMap fun l => pageAt (0x5000 + 256 * l) (linkWords s l)) ++
    pageAt 0x6000 (((List.range 6) ++ (List.range 16).map (16 + ·)).flatMap (memWords s)) ++
    pageAt 0x6600 (words64 (fencedTiles s 0) ++ words64 (fencedTiles s 1)) ++
    pageAt 0x8000 ((List.range 256).flatMap (queueWords s)) ++ pageAt 0x10000 (unitWords s)

/-- R197: the warden's snapshot keeps the fenced-tile bytes and the unit status bytes of the last one. -/
def wardenOnly (s : State) : Tab Nat :=
  wardenPages s true ++ s.mem.snapshot.filter fun p => decide (0x6600 ≤ p.1 ∧ p.1 < 0x6610) || decide (0x10000 ≤ p.1)

/-- R198: a refresh: seq advances by one at its start and by one at its end. -/
def refreshSnapshot (s : State) (count at_ : Nat) (make : State → Tab Nat) : State :=
  let s : State := { s with mem := { s.mem with snapSeq := (s.mem.snapSeq + 2) % 2 ^ 64, snapCount := count, snapAt := at_ } }
  { s with mem := { s.mem with snapshot := make s } }

/-- TELEMETRY_REFRESH (R196): at each multiple of 1 ms of group time a running die writes the snapshot. -/
def telemetryRefresh (s : State) : State :=
  let k := s.gt.time / 1000000 + 1
  if s.anyDieUp = false ∨ s.mem.snapAt = k then s
  else refreshSnapshot s ((s.mem.snapCount + 1) % 2 ^ 64) k fullSnapshot

/-- WARDEN_SNAPSHOT (R197): every 1 ms while no die runs the warden makes the snapshot. -/
def wardenSnapshot (s : State) : State :=
  let k := s.now / 1000 + 1
  if s.anyDieUp ∨ s.sup.wardenOn = false ∨ s.mem.snapAt = k then s else refreshSnapshot s s.mem.snapCount k wardenOnly

/-- TELEMETRY_REFRESH. -/
def execTelemetryRefresh (s : State) : Host.Outcome State Fault Refusal := .next (telemetryRefresh s)
/-- WARDEN_SNAPSHOT. -/
def execWardenSnapshot (s : State) : Host.Outcome State Fault Refusal := .next (wardenSnapshot s)

end Sys2Proof.Machine
end

