-- ==== Sys2Proof/Machine/Transactions.lean ====
section
/-! DEFINITION. What arrives on a link: flits, their packets and their control messages (R202, R203, R207 to R210, R214). -/

namespace Sys2Proof.Machine

/-! ## Packets -/

/-- The open operation of a packet type (R208). -/
def packetOp (t : Nat) : Option OpenOp := match t with
  | 0x01 => some .read
  | 0x02 => some .write
  | 0x03 => some .writeMasked
  | 0x04 => some .readBulk
  | 0x05 => some .writeBulk
  | 0x08 => some .swap
  | 0x09 => some .cas
  | 0x0A => some .fetchAdd
  | 0x0B => some .fetchAnd
  | 0x0C => some .fetchOr
  | 0x0D => some .fetchXor
  | 0x0E => some .fetchMin
  | 0x0F => some .fetchMax
  | 0x10 => some .fetchUmin
  | 0x11 => some .fetchUmax
  | 0x18 => some .fence
  | _ => none

/-- The virtual channel of a packet type (R208). -/
def packetChannel (t : Nat) : Option Nat :=
  if (packetOp t).isSome ∨ t = 0x30 then some 1
  else if t = 0x31 ∨ t = 0x40 then some 2
  else if 0x80 ≤ t ∧ t ≤ 0x82 then some 0
  else none

/-- The whole length in words of a packet from its first header word (R208, R221), or `none` where its type is reserved or its
length overruns the limits. -/
def packetLength (w : Nat) : Option Nat :=
  let t := bits w 7 0
  let size := bits w 19 9
  let sized (n : Nat) : Option Nat := if size = 0 ∨ 1024 < size then none else some (6 + n)
  if t = 0x01 ∨ t = 0x04 then sized 0
  else if t = 0x02 ∨ t = 0x05 then sized size
  else if t = 0x03 then sized 72
  else if t = 0x09 then sized (2 * size)
  else if 0x08 ≤ t ∧ t ≤ 0x11 then sized size
  else if t = 0x18 then some 6
  else if t = 0x30 ∨ t = 0x31 then
    let n := bits w 18 8
    if n = 0 ∨ 1100 < n then none else some (3 + n)
  else if t = 0x40 then
    let n := bits w 26 16
    if 1024 < n then none else some (3 + n)
  else if 0x80 ≤ t ∧ t ≤ 0x82 then
    let n := bits w 18 8
    if 64 < n then none else some (4 + n)
  else none

/-- R208: the payload words of one flit continue the stream of their channel, of which `part` is the packet in progress. Answers the packets
that end, in order, and the packet then in progress; `none` where the stream is broken. A zero word where a header is due ends the packets
of the flit. A type that travels on another channel breaks the stream (DESIGN CHOICE, log 74). -/
def packetStream (vc : Nat) (part ws : List Nat) : Option (List (List Nat) × List Nat) := match ws with
  | [] => some ([], part)
  | w :: r =>
    if part.isEmpty = true ∧ w = 0 then some ([], [])
    else if part.isEmpty = true ∧ packetChannel (bits w 7 0) ≠ some vc then none
    else
      let p := part ++ [w]
      match packetLength (p.headD 0) with
      | none => none
      | some n =>
        if n ≤ p.length then (packetStream vc [] r).map fun x => (p :: x.1, x.2) else packetStream vc p r

/-- A packet's words from the `n`th on, as bytes. -/
def packetData (ws : List Nat) (n : Nat) : List Nat := (ws.drop n).flatMap (bytesOf 4)

/-- R208: an open request as it arrives on a link. -/
def packetRequest (l : Nat) (op : OpenOp) (ws : List Nat) : OpenReq :=
  let w (i : Nat) : Nat := ws.getD i 0
  let n := 4 * bits (w 0) 19 9
  let d := packetData ws 6
  { op := op
    hdr := { link := l, ordered := (w 0).testBit 8, size := n, queue := bits (w 0) 27 20, tag := bits (w 1) 23 0, addr := w 2 + 2 ^ 32 * w 3,
             stamp := { kind := bits (w 4) 22 21, slot := bits (w 4) 20 18, hub := bits (w 4) 17 0 } }
    mask := if op = .writeMasked then ofBytes (d.take 32) else 0
    data := if op = .writeMasked then d.drop 32 else if op = .cas then d.drop n else d
    compare := if op = .cas then d.take n else [] }

/-- The response that a code numbers (R393). -/
def respOf (code : Nat) : Option Resp := [Resp.ok, .busy, .retry, .denied, .invalid, .poison].find? fun r => r.code = code

/-- R176, R208: a RESPONSE on link `l`: it answers the request that this hub sent out there under the tag. A code that numbers no response
answers nothing (log 74). -/
def packetResponse (s : State) (l : Nat) (ws : List Nat) : State :=
  let w (i : Nat) : Nat := ws.getD i 0
  let mine (c : Context) : Bool := c.link == some l && c.id % 2 ^ 24 == bits (w 1) 23 0
  match respOf (bits (w 0) 15 8), (s.mem.ctxs ++ s.mem.transit).find? mine with
  | some a, some c =>
    if l < 8 then accOpenResponse c.id a (packetData ws 3) (bits (w 2) 15 0) s
    else openResponse c.id a (packetData ws 3) (bits (w 2) 15 0) ((w 2).testBit 16) s
  | _, _ => s

/-- The row tag of a planned packet (R208). -/
def packetTag (ws : List Nat) : RowTag :=
  let w (i : Nat) : Nat := ws.getD i 0
  { pattern := bits (w 1) 7 0, die := bits (w 1) 8 8, row := bits (w 1) 20 9, strand := bits (w 1) 21 21, stage := bits (w 1) 25 22,
    step := bits (w 2) 15 0, line := w 3 }

/-- R209, R322: a planned packet: data or an acknowledgement from an accelerator, a line from another hub. A line without data is POISON. A
packet that its link has no use for does nothing (log 74). -/
def packetPlanned (s : State) (l : Nat) (ws : List Nat) : State :=
  let t := bits (ws.headD 0) 7 0
  let data : Option (List Nat) := if ws.length ≤ 4 then none else some (packetData ws 4)
  if t = 0x81 then (if l < 8 then pdata l (packetTag ws) data s else plannedFlitArrive (l - 8) (packetTag ws) data .clean 0 0 s)
  else if t = 0x82 ∧ l < 8 then pack l (packetTag ws) s
  else s

/-- R208, R221: a whole packet arrives on link `l`. -/
def takePacket (l : Nat) (s : State) (ws : List Nat) : State :=
  let t := bits (ws.headD 0) 7 0
  match packetOp t with
  | some op => enterOpen (packetRequest l op ws) s
  | none =>
    if t = 0x30 then mgmtReq l (bits (ws.getD 1 0) 17 0) (bits (ws.getD 2 0) 23 0) (ws.drop 3) s
    else if t = 0x31 then mgmtResp l (bits (ws.getD 1 0) 17 0) (bits (ws.getD 2 0) 23 0) (ws.drop 3) s
    else if t = 0x40 then packetResponse s l ws
    else packetPlanned s l ws

/-! ## Control messages -/

/-- The length in words of a control message with code `code` on link `l` as the T8 receives it (R210), or `none` for a code
that no peer of that link sends. -/
def controlLength (l code : Nat) : Option Nat :=
  if l < 8 then match code with
    | 0x01 => some 2
    | 0x02 => some 2
    | 0x03 => some 3
    | 0x04 => some 18
    | _ => none
  else match code with
    | 0x20 => some 2
    | 0x21 => some 7
    | 0x22 => some 5
    | _ => none

/-- R210, R214: a whole control message, whose header word came at group time `t`. PEER_ID belongs to training and does nothing here. -/
def takeControl (s : State) (l : Nat) (ws : List Nat) (t : Nat) (replayed : Bool) : State :=
  let w (i : Nat) : Nat := ws.getD i 0
  let param := bits (w 0) 31 16
  if l < 8 then match bits (w 0) 7 0 with
    | 0x01 => stepMarkMessage l (w 1 + 2 ^ 32 * param) s
    | 0x02 => phaseMarkAt s t l (bits (w 1) 7 0) param
    | 0x03 => hint l param (bits (w 1) 15 0) (bits (w 1) 31 16) (bits (w 2) 15 0) s
    | 0x04 => activity l (bits (w 1) 5 0) ((w 1).testBit 6) (bits (w 1) 31 16) (ws.drop 2) s
    | _ => s
  else match bits (w 0) 7 0 with
    | 0x20 => answerTime s (l - 8) param replayed t s.gt.time
    | 0x21 => takeTimeReply s (l - 8) param (bits (w 1) 20 18) (bits (w 2) 17 0) (w 3 + 2 ^ 32 * w 4) (w 5 + 2 ^ 32 * w 6) replayed t
    | _ => s

/-- R210, R214: one word of the control stream, from a flit that was a replay or not. A zero word where a header is due is filler; an unknown
code, or a length that is not its code's, is skipped by its length and counted. -/
def controlWord (s : State) (l w : Nat) (replayed : Bool) : State :=
  let k := tget s.lnk.links l
  if k.ctlPart.isEmpty = true ∧ w = 0 then s
  else
    let first := k.ctlPart.isEmpty
    let part := k.ctlPart ++ [w]
    let known : Bool := decide (controlLength l (bits (part.headD 0) 7 0) = some (bits (part.headD 0) 15 8))
    let s := if first = true ∧ known = false then s.bump (R.LNK_CTL_REJECT.c (linkDie l)) else s
    let t := if first then s.gt.time else k.ctlAt
    let again := replayed || (! first && k.ctlReplay)
    if part.length < bits (part.headD 0) 15 8 then s.modLink l fun k => { k with ctlPart := part, ctlAt := t, ctlReplay := again }
    else
      let s := s.modLink l fun k => { k with ctlPart := [] }
      if known then takeControl s l part t again else s

/-! ## Flits -/

/-- Word `i` of a flit. -/
def flitWord (flit : List Nat) (i : Nat) : Nat := ofBytes ((flit.drop (4 * i)).take 4)

/-- Whether the flit has its 200 bytes and its check matches (R202). -/
def flitOk (flit : List Nat) : Bool := flit.length == 200 && crc32c (flit.take 196) == flitWord flit 49

/-- R207, R208, R220: the payload of an accepted flit. It spends credit of its channel, which is owed back. Channel 3 carries no payload, and
the host port none on channel 0. -/
def takePayload (s : State) (l vc : Nat) (words : List Nat) : State :=
  let part := tget (tget s.lnk.links l).pktPart vc
  if part.isEmpty = true ∧ (words.any (· != 0)) = false then s
  else if vc = 3 ∨ (l = 15 ∧ s.hostPortMode ∧ vc = 0) then linkDown s l 5 0
  else
    let s := s.modLink l fun k => { k with owed := tmod k.owed vc (· + 1) }
    match packetStream vc part words with
    | none => linkDown s l 5 0
    | some (done, part) => done.foldl (takePacket l) (s.modLink l fun k => { k with pktPart := tput k.pktPart vc part })

/-- R203, R207, R208: a flit that is next in sequence is accepted: its header, its control word and its payload are processed, and what may
now leave does. -/
def acceptFlit (s : State) (l : Nat) (flit : List Nat) : State :=
  let h := flitWord flit 0
  let s := s.modLink l fun k => { k with rxSeq := (k.rxSeq + 1) % 4096, nakSent := false, lastFlit := s.now }
  let s := headerFields s l h true
  if s.linkState l ≠ 3 then s else
  let s := controlWord s l (flitWord flit 1) (h.testBit 31)
  if s.linkState l ≠ 3 then s else
  pump (takePayload s l (bits h 29 28) ((List.range 47).map fun i => flitWord flit (2 + i))) l

/-- FLIT_RECEIVE (R202, R203). A sequenced flit is accepted only when it lies in no uncorrectable codeword, its check matches
and its sequence number is the next expected; otherwise it and every later flit are discarded until a replay with the expected
number. -/
def flitReceive (l : Nat) (flit : List Nat) (fecOk : Bool) (corrected : Nat) (s : State) : State :=
  if 16 ≤ l ∨ s.linkState l ≠ 3 then s else
  let s := s.addWide (R.LNK_FEC_CORR_LO.count (linkDie l) (linkIdx l)) corrected
  if ¬ fecOk then uncorrectableCodeword s l
  else if ¬ flitOk flit then discardFlit s l
  else
    let h := flitWord flit 0
    let k := tget s.lnk.links l
    if h.testBit 30 then pump (headerFields s l h false) l
    else if bits h 27 16 ≠ k.rxSeq ∨ (k.nakSent ∧ ¬ h.testBit 31) then discardFlit s l
    else acceptFlit s l flit

/-- FLIT_RECEIVE. -/
def execFlitReceive (l : Nat) (flit : List Nat) (fecOk : Bool) (corrected : Nat) (s : State) :
    Host.Outcome State Fault Refusal := .next (flitReceive l flit fecOk corrected s)

end Sys2Proof.Machine
end

