-- ==== Sys2Proof/Machine/Dispatch.lean ====
section
/-! DEFINITION. The dispatcher: one arm for each command, each a direct call of its meaning. -/

namespace Sys2Proof.Machine

def exec (i : Instr) (s : State) : Host.Outcome State Fault Refusal :=
  match i with
  | .registerWrite agent off value => Sys2Proof.Machine.execRegisterWrite agent off value s
  | .readClear agent off => Sys2Proof.Machine.execReadClear agent off s
  | .latchedLowRead agent off => Sys2Proof.Machine.execLatchedLowRead agent off s
  | .standbyRise => Sys2Proof.Machine.execStandbyRise s
  | .standbyFall => Sys2Proof.Machine.execStandbyFall s
  | .wardenPowerOnReset => Sys2Proof.Machine.execWardenPowerOnReset s
  | .wardenRstN => Sys2Proof.Machine.execWardenRstN s
  | .loaderVerify check => Sys2Proof.Machine.execLoaderVerify check s
  | .domainSwitchRequest agent die domain => Sys2Proof.Machine.execDomainSwitchRequest agent die domain s
  | .domainOnComplete die domain => Sys2Proof.Machine.execDomainOnComplete die domain s
  | .referenceCheck ppm => Sys2Proof.Machine.execReferenceCheck ppm s
  | .hubReferenceRecover => Sys2Proof.Machine.execHubReferenceRecover s
  | .hubResetSingle agent die => Sys2Proof.Machine.execHubResetSingle agent die s
  | .hubRelease agent die => Sys2Proof.Machine.execHubRelease agent die s
  | .governorEstimate die activity => Sys2Proof.Machine.execGovernorEstimate die activity s
  | .governorRescale die measured => Sys2Proof.Machine.execGovernorRescale die measured s
  | .governorRelease die => Sys2Proof.Machine.execGovernorRelease die s
  | .packageLimitUnmet die => Sys2Proof.Machine.execPackageLimitUnmet die s
  | .packageLimitClear die => Sys2Proof.Machine.execPackageLimitClear die s
  | .domainOffRequest agent die domain => Sys2Proof.Machine.execDomainOffRequest agent die domain s
  | .cadenceTick => Sys2Proof.Machine.execCadenceTick s
  | .cadenceStall => Sys2Proof.Machine.execCadenceStall s
  | .stepMarkEffect => Sys2Proof.Machine.execStepMarkEffect s
  | .stepMarkMessage slot step => Sys2Proof.Machine.execStepMarkMessage slot step s
  | .phaseMark slot mark tag => Sys2Proof.Machine.execPhaseMark slot mark tag s
  | .markEffect => Sys2Proof.Machine.execMarkEffect s
  | .toleranceWrite agent die value => Sys2Proof.Machine.execToleranceWrite agent die value s
  | .toleranceApply => Sys2Proof.Machine.execToleranceApply s
  | .timeRequestSend => Sys2Proof.Machine.execTimeRequestSend s
  | .timeRequest port sequence hub arrival => Sys2Proof.Machine.execTimeRequest port sequence hub arrival s
  | .timeReply port sequence hub upState master t2 t3 arrival => Sys2Proof.Machine.execTimeReply port sequence hub upState master t2 t3 arrival s
  | .timeReplyMissed port => Sys2Proof.Machine.execTimeReplyMissed port s
  | .gtHoldover => Sys2Proof.Machine.execGtHoldover s
  | .rowTrigger die fault => Sys2Proof.Machine.execRowTrigger die fault s
  | .fenceComplete => Sys2Proof.Machine.execFenceComplete s
  | .collectiveComplete die row residue => Sys2Proof.Machine.execCollectiveComplete die row residue s
  | .arrayComplete die row bad residue => Sys2Proof.Machine.execArrayComplete die row bad residue s
  | .sliceComplete die row bad => Sys2Proof.Machine.execSliceComplete die row bad s
  | .fusedComplete die row residue => Sys2Proof.Machine.execFusedComplete die row residue s
  | .digestComplete die row => Sys2Proof.Machine.execDigestComplete die row s
  | .rowLimitExpire die row => Sys2Proof.Machine.execRowLimitExpire die row s
  | .descriptorTakeUp bad => Sys2Proof.Machine.execDescriptorTakeUp bad s
  | .patNextWrite agent valid atStep pattern stepLo => Sys2Proof.Machine.execPatNextWrite agent valid atStep pattern stepLo s
  | .patternRestart agent => Sys2Proof.Machine.execPatternRestart agent s
  | .forcedStepMark => Sys2Proof.Machine.execForcedStepMark s
  | .msetPendingWrite agent set bitmap => Sys2Proof.Machine.execMsetPendingWrite agent set bitmap s
  | .plannedFlitArrive port tag data check hops path => Sys2Proof.Machine.execPlannedFlitArrive port tag data check hops path s
  | .pdata slot tag data => Sys2Proof.Machine.execPdata slot tag data s
  | .pack slot tag => Sys2Proof.Machine.execPack slot tag s
  | .read h => Sys2Proof.Machine.execRead h s
  | .write h data => Sys2Proof.Machine.execWrite h data s
  | .writeMasked h mask data => Sys2Proof.Machine.execWriteMasked h mask data s
  | .readBulk h => Sys2Proof.Machine.execReadBulk h s
  | .writeBulk h data => Sys2Proof.Machine.execWriteBulk h data s
  | .swap h operand => Sys2Proof.Machine.execSwap h operand s
  | .cas h compare new => Sys2Proof.Machine.execCas h compare new s
  | .fetchAdd h operand => Sys2Proof.Machine.execFetchAdd h operand s
  | .fetchAnd h operand => Sys2Proof.Machine.execFetchAnd h operand s
  | .fetchOr h operand => Sys2Proof.Machine.execFetchOr h operand s
  | .fetchXor h operand => Sys2Proof.Machine.execFetchXor h operand s
  | .fetchMin h operand => Sys2Proof.Machine.execFetchMin h operand s
  | .fetchMax h operand => Sys2Proof.Machine.execFetchMax h operand s
  | .fetchUmin h operand => Sys2Proof.Machine.execFetchUmin h operand s
  | .fetchUmax h operand => Sys2Proof.Machine.execFetchUmax h operand s
  | .fence h => Sys2Proof.Machine.execFence h s
  | .openDispatch die => Sys2Proof.Machine.execOpenDispatch die s
  | .openPerformed id check => Sys2Proof.Machine.execOpenPerformed id check s
  | .correctionWriteback line => Sys2Proof.Machine.execCorrectionWriteback line s
  | .accOpenResponse id resp data hint => Sys2Proof.Machine.execAccOpenResponse id resp data hint s
  | .openTimeout id => Sys2Proof.Machine.execOpenTimeout id s
  | .telemetryRefresh => Sys2Proof.Machine.execTelemetryRefresh s
  | .wardenSnapshot => Sys2Proof.Machine.execWardenSnapshot s
  | .memOpenCfgWrite agent die timeout hint => Sys2Proof.Machine.execMemOpenCfgWrite agent die timeout hint s
  | .scrubRead line check => Sys2Proof.Machine.execScrubRead line check s
  | .response id resp data hint unknown => Sys2Proof.Machine.execResponse id resp data hint unknown s
  | .flitReceive link flit fecOk corrected => Sys2Proof.Machine.execFlitReceive link flit fecOk corrected s
  | .keepaliveFlit link => Sys2Proof.Machine.execKeepaliveFlit link s
  | .laneSignalLoss link lane => Sys2Proof.Machine.execLaneSignalLoss link lane s
  | .linkSilenceTimeout link => Sys2Proof.Machine.execLinkSilenceTimeout link s
  | .linkHoldoffExpire link => Sys2Proof.Machine.execLinkHoldoffExpire link s
  | .linkTrainStart link => Sys2Proof.Machine.execLinkTrainStart link s
  | .trainStepComplete link found => Sys2Proof.Machine.execTrainStepComplete link found s
  | .trainTimeout link => Sys2Proof.Machine.execTrainTimeout link s
  | .peerId port hub peerPort kind txPeer rxPeer master spare word4 => Sys2Proof.Machine.execPeerId port hub peerPort kind txPeer rxPeer master spare word4 s
  | .hint slot angle watts duration tag => Sys2Proof.Machine.execHint slot angle watts duration tag s
  | .activity slot gauge slow tag counters => Sys2Proof.Machine.execActivity slot gauge slow tag counters s
  | .activityLost slot => Sys2Proof.Machine.execActivityLost slot s
  | .mgmtReq link hub tag payload => Sys2Proof.Machine.execMgmtReq link hub tag payload s
  | .autoAdmit slot => Sys2Proof.Machine.execAutoAdmit slot s
  | .identityRead slot bytes => Sys2Proof.Machine.execIdentityRead slot bytes s
  | .modulePresencePoll port read => Sys2Proof.Machine.execModulePresencePoll port read s
  | .moduleFlagPoll port read => Sys2Proof.Machine.execModuleFlagPoll port read s
  | .linkRetrain agent die mask => Sys2Proof.Machine.execLinkRetrain agent die mask s
  | .linkClear agent die mask => Sys2Proof.Machine.execLinkClear agent die mask s
  | .accPresent slot => Sys2Proof.Machine.execAccPresent slot s
  | .mgmtResp link hub tag payload => Sys2Proof.Machine.execMgmtResp link hub tag payload s
  | .accRemoved slot => Sys2Proof.Machine.execAccRemoved slot s
  | .trayCastOn agent => Sys2Proof.Machine.execTrayCastOn agent s
  | .trayBindOff agent => Sys2Proof.Machine.execTrayBindOff agent s
  | .slotCastOn agent slots => Sys2Proof.Machine.execSlotCastOn agent slots s
  | .slotBindOff agent slots => Sys2Proof.Machine.execSlotBindOff agent slots s
  | .castOnGroupEnable => Sys2Proof.Machine.execCastOnGroupEnable s
  | .railPgChange channel high => Sys2Proof.Machine.execRailPgChange channel high s
  | .railGood channel => Sys2Proof.Machine.execRailGood channel s
  | .railNotGood channel => Sys2Proof.Machine.execRailNotGood channel s
  | .railFault channel => Sys2Proof.Machine.execRailFault channel s
  | .perstRelease => Sys2Proof.Machine.execPerstRelease s
  | .bindOffGroupDrop => Sys2Proof.Machine.execBindOffGroupDrop s
  | .railVoutRead channel mv => Sys2Proof.Machine.execRailVoutRead channel mv s
  | .railFallen channel => Sys2Proof.Machine.execRailFallen channel s
  | .railNotFallen channel => Sys2Proof.Machine.execRailNotFallen channel s
  | .inputSettleExpire => Sys2Proof.Machine.execInputSettleExpire s
  | .ksCalibrate slot pout => Sys2Proof.Machine.execKsCalibrate slot pout s
  | .auxUpdate pin => Sys2Proof.Machine.execAuxUpdate pin s
  | .trayEstimate => Sys2Proof.Machine.execTrayEstimate s
  | .averageRefresh => Sys2Proof.Machine.execAverageRefresh s
  | .throttleHoldExpire => Sys2Proof.Machine.execThrottleHoldExpire s
  | .capDutyStep => Sys2Proof.Machine.execCapDutyStep s
  | .capUnmet => Sys2Proof.Machine.execCapUnmet s
  | .guardDutyStep => Sys2Proof.Machine.execGuardDutyStep s
  | .voltageCutWrite => Sys2Proof.Machine.execVoltageCutWrite s
  | .voltageConfirm slot mv => Sys2Proof.Machine.execVoltageConfirm slot mv s
  | .gaugeMismatch slot => Sys2Proof.Machine.execGaugeMismatch slot s
  | .hubAllowance => Sys2Proof.Machine.execHubAllowance s
  | .powerReleaseWrites => Sys2Proof.Machine.execPowerReleaseWrites s
  | .rampLimiterTick => Sys2Proof.Machine.execRampLimiterTick s
  | .rampWindowEnd => Sys2Proof.Machine.execRampWindowEnd s
  | .energyAttribute => Sys2Proof.Machine.execEnergyAttribute s
  | .gaugeResult die row others => Sys2Proof.Machine.execGaugeResult die row others s
  | .gaugeApply => Sys2Proof.Machine.execGaugeApply s
  | .slowPeriod => Sys2Proof.Machine.execSlowPeriod s
  | .accTempRead slot temp => Sys2Proof.Machine.execAccTempRead slot temp s
  | .thermistorSample n value => Sys2Proof.Machine.execThermistorSample n value s
  | .surrogateTick flows presses => Sys2Proof.Machine.execSurrogateTick flows presses s
  | .modelResume => Sys2Proof.Machine.execModelResume s
  | .valveControl => Sys2Proof.Machine.execValveControl s
  | .pumpFanControl => Sys2Proof.Machine.execPumpFanControl s
  | .fanStartTimeout fan pulses => Sys2Proof.Machine.execFanStartTimeout fan pulses s
  | .fanKick fan pulses => Sys2Proof.Machine.execFanKick fan pulses s
  | .tachWindow rpm current pumpRpm => Sys2Proof.Machine.execTachWindow rpm current pumpRpm s
  | .pumpSpeedFail pump => Sys2Proof.Machine.execPumpSpeedFail pump s
  | .fanProbe fan current => Sys2Proof.Machine.execFanProbe fan current s
  | .valveFlag valve position => Sys2Proof.Machine.execValveFlag valve position s
  | .floorTick => Sys2Proof.Machine.execFloorTick s
  | .thermalCeiling => Sys2Proof.Machine.execThermalCeiling s
  | .hubThermalThrottle die temps => Sys2Proof.Machine.execHubThermalThrottle die temps s
  | .overJunction die => Sys2Proof.Machine.execOverJunction die s
  | .kilnTrip die sensors => Sys2Proof.Machine.execKilnTrip die sensors s
  | .kilnTripClear reading => Sys2Proof.Machine.execKilnTripClear reading s
  | .accThermtrip slot => Sys2Proof.Machine.execAccThermtrip slot s
  | .thermtripValveExpire slot => Sys2Proof.Machine.execThermtripValveExpire slot s
  | .leakSample ohms => Sys2Proof.Machine.execLeakSample ohms s
  | .wetZoneOrder zone => Sys2Proof.Machine.execWetZoneOrder zone s
  | .zoneUnguarded zone => Sys2Proof.Machine.execZoneUnguarded zone s
  | .zoneUnguardClear zone => Sys2Proof.Machine.execZoneUnguardClear zone s
  | .leakClearWrite agent zones => Sys2Proof.Machine.execLeakClearWrite agent zones s
  | .coolClearFan agent fans => Sys2Proof.Machine.execCoolClearFan agent fans s
  | .coolClearPump agent pumps => Sys2Proof.Machine.execCoolClearPump agent pumps s
  | .coolClearValve agent valves => Sys2Proof.Machine.execCoolClearValve agent valves s
  | .coolClearModel agent => Sys2Proof.Machine.execCoolClearModel agent s
  | .rcTrim error temp index => Sys2Proof.Machine.execRcTrim error temp index s
  | .voltAlarm die index mv => Sys2Proof.Machine.execVoltAlarm die index mv s
  | .droopAlarm die group count => Sys2Proof.Machine.execDroopAlarm die group count s
  | .ringOscMeasure die tile value => Sys2Proof.Machine.execRingOscMeasure die tile value s
  | .monSelWrite agent die kind index => Sys2Proof.Machine.execMonSelWrite agent die kind index s
  | .crossCheckReport step gauge domains0 domains1 => Sys2Proof.Machine.execCrossCheckReport step gauge domains0 domains1 s
  | .crossCheckMissing => Sys2Proof.Machine.execCrossCheckMissing s
  | .containmentRelease => Sys2Proof.Machine.execContainmentRelease s
  | .memoryRetrainComplete => Sys2Proof.Machine.execMemoryRetrainComplete s
  | .partitionWipeComplete part => Sys2Proof.Machine.execPartitionWipeComplete part s
  | .hubLatchRelease agent => Sys2Proof.Machine.execHubLatchRelease agent s
  | .shadowComplete unit reproduced => Sys2Proof.Machine.execShadowComplete unit reproduced s
  | .swatchOrder agent run index => Sys2Proof.Machine.execSwatchOrder agent run index s
  | .swatchDue unit => Sys2Proof.Machine.execSwatchDue unit s
  | .swatchEnd unit aborted signatureOk sramBad failBits => Sys2Proof.Machine.execSwatchEnd unit aborted signatureOk sramBad failBits s
  | .watchdogExpire p pc => Sys2Proof.Machine.execWatchdogExpire p pc s
  | .watchdogKick agent mask => Sys2Proof.Machine.execWatchdogKick agent mask s
  | .processorTrap p pc word => Sys2Proof.Machine.execProcessorTrap p pc word s
  | .processorRelease p copyBad => Sys2Proof.Machine.execProcessorRelease p copyBad s
  | .dutiesResumed p => Sys2Proof.Machine.execDutiesResumed p s
  | .restartTimeout p => Sys2Proof.Machine.execRestartTimeout p s
  | .processorRevive agent mask => Sys2Proof.Machine.execProcessorRevive agent mask s
  | .processorRestartOrder agent mask => Sys2Proof.Machine.execProcessorRestartOrder agent mask s
  | .arbPost p c locks clocks => Sys2Proof.Machine.execArbPost p c locks clocks s
  | .arbDraw c clocks => Sys2Proof.Machine.execArbDraw c clocks s
  | .arbTicketWrite agent c high value => Sys2Proof.Machine.execArbTicketWrite agent c high value s
  | .reassemblyTimeout id => Sys2Proof.Machine.execReassemblyTimeout id s
  | .sessionOpen m preempt => Sys2Proof.Machine.execSessionOpen m preempt s
  | .sessionClose m => Sys2Proof.Machine.execSessionClose m s
  | .features m bitmap => Sys2Proof.Machine.execFeatures m bitmap s
  | .budgetSet m watts => Sys2Proof.Machine.execBudgetSet m watts s
  | .capSet m scope clear watts => Sys2Proof.Machine.execCapSet m scope clear watts s
  | .gaugeFixOn m pin => Sys2Proof.Machine.execGaugeFixOn m pin s
  | .gaugeFixOff m pin => Sys2Proof.Machine.execGaugeFixOff m pin s
  | .partitionPowerOn m parts => Sys2Proof.Machine.execPartitionPowerOn m parts s
  | .partitionPowerOff m parts => Sys2Proof.Machine.execPartitionPowerOff m parts s
  | .powerOff m => Sys2Proof.Machine.execPowerOff m s
  | .patternSelect m pattern atStep restart stepLo => Sys2Proof.Machine.execPatternSelect m pattern atStep restart stepLo s
  | .admitMsg m unit => Sys2Proof.Machine.execAdmitMsg m unit s
  | .expel m unit => Sys2Proof.Machine.execExpel m unit s
  | .telemetryRead m offset len => Sys2Proof.Machine.execTelemetryRead m offset len s
  | .logRead m ring first count => Sys2Proof.Machine.execLogRead m ring first count s
  | .traceSet m hubctl point enable => Sys2Proof.Machine.execTraceSet m hubctl point enable s
  | .recorderFreeze m => Sys2Proof.Machine.execRecorderFreeze m s
  | .recorderRelease m => Sys2Proof.Machine.execRecorderRelease m s
  | .recorderRead m first count => Sys2Proof.Machine.execRecorderRead m first count s
  | .swatchRun m unit => Sys2Proof.Machine.execSwatchRun m unit s
  | .swatchResult m unit => Sys2Proof.Machine.execSwatchResult m unit s
  | .clearLatchFan m index => Sys2Proof.Machine.execClearLatchFan m index s
  | .clearLatchPump m index => Sys2Proof.Machine.execClearLatchPump m index s
  | .clearLatchValve m index => Sys2Proof.Machine.execClearLatchValve m index s
  | .clearLatchModel m index => Sys2Proof.Machine.execClearLatchModel m index s
  | .clearLatchZone m index => Sys2Proof.Machine.execClearLatchZone m index s
  | .clearLatchLink m index => Sys2Proof.Machine.execClearLatchLink m index s
  | .clearLatchProcessor m index => Sys2Proof.Machine.execClearLatchProcessor m index s
  | .clearLatchHubHold m index => Sys2Proof.Machine.execClearLatchHubHold m index s
  | .sessionLeaseExpire => Sys2Proof.Machine.execSessionLeaseExpire s
  | .actAlone => Sys2Proof.Machine.execActAlone s
  | .lockoutExpire source => Sys2Proof.Machine.execLockoutExpire source s
  | .icmpv6Echo source ident => Sys2Proof.Machine.execIcmpv6Echo source ident s
  | .neighbourDiscovery source linkLocal => Sys2Proof.Machine.execNeighbourDiscovery source linkLocal s
  | .datagramFragment id need len => Sys2Proof.Machine.execDatagramFragment id need len s
  | .reservedMessageCode m code => Sys2Proof.Machine.execReservedMessageCode m code s
  | .managementPortLink up => Sys2Proof.Machine.execManagementPortLink up s
  | .caskWrite fail => Sys2Proof.Machine.execCaskWrite fail s
  | .blockEraseComplete ok => Sys2Proof.Machine.execBlockEraseComplete ok s
  | .runClose run => Sys2Proof.Machine.execRunClose run s
  | .headerSnapshot => Sys2Proof.Machine.execHeaderSnapshot s
  | .caskScan => Sys2Proof.Machine.execCaskScan s
  | .freezeExpire => Sys2Proof.Machine.execFreezeExpire s
  | .operatingSecond => Sys2Proof.Machine.execOperatingSecond s
  | .wardenVerify code => Sys2Proof.Machine.execWardenVerify code s
  | .configValidate read => Sys2Proof.Machine.execConfigValidate read s
  | .hubSectionsLoad die copyOk regionOk => Sys2Proof.Machine.execHubSectionsLoad die copyOk regionOk s
  | .memoryTrained die => Sys2Proof.Machine.execMemoryTrained die s
  | .teststoreVerify check held mode => Sys2Proof.Machine.execTeststoreVerify check held mode s
  | .updateBegin m typ abort length => Sys2Proof.Machine.execUpdateBegin m typ abort length s
  | .updateBlock m offset length ok => Sys2Proof.Machine.execUpdateBlock m offset length ok s
  | .updateEnd m stage => Sys2Proof.Machine.execUpdateEnd m stage s
  | .skeinOpen m header => Sys2Proof.Machine.execSkeinOpen m header s
  | .skeinLoad m offset data => Sys2Proof.Machine.execSkeinLoad m offset data s
  | .skeinPublish m => Sys2Proof.Machine.execSkeinPublish m s
  | .skeinWithdraw m => Sys2Proof.Machine.execSkeinWithdraw m s
  | .activateWarden m flags code => Sys2Proof.Machine.execActivateWarden m flags code s
  | .activateHubctl m flags code => Sys2Proof.Machine.execActivateHubctl m flags code s
  | .activateFullRestart m flags => Sys2Proof.Machine.execActivateFullRestart m flags s
  | .regionEraseComplete => Sys2Proof.Machine.execRegionEraseComplete s
  | .transferIdleExpire => Sys2Proof.Machine.execTransferIdleExpire s
  | .tricklePoll header => Sys2Proof.Machine.execTricklePoll header s
  | .tricklePull => Sys2Proof.Machine.execTricklePull s
  | .skeinReceive index ok page stage => Sys2Proof.Machine.execSkeinReceive index ok page stage s
  | .pushChunkStatus slot status => Sys2Proof.Machine.execPushChunkStatus slot status s
  | .pushTimeout slot => Sys2Proof.Machine.execPushTimeout slot s
  | .svnAdvance typ ok => Sys2Proof.Machine.execSvnAdvance typ ok s
  | .settingsCompact => Sys2Proof.Machine.execSettingsCompact s
  | .attestReport m nonce => Sys2Proof.Machine.execAttestReport m nonce s
  | .attestCertificate m offset => Sys2Proof.Machine.execAttestCertificate m offset s
  | .keyStage m slot digest => Sys2Proof.Machine.execKeyStage m slot digest s
  | .provision m st => Sys2Proof.Machine.execProvision m st s
  | .deploy m st => Sys2Proof.Machine.execDeploy m st s
  | .returnConsent m st => Sys2Proof.Machine.execReturnConsent m st s
  | .returnPart m st => Sys2Proof.Machine.execReturnPart m st s
  | .retire m st => Sys2Proof.Machine.execRetire m st s
  | .revoke m st => Sys2Proof.Machine.execRevoke m st s
  | .unlock m token => Sys2Proof.Machine.execUnlock m token s
  | .lock m => Sys2Proof.Machine.execLock m s
  | .consentLapse => Sys2Proof.Machine.execConsentLapse s
  | .debugLimitExpire => Sys2Proof.Machine.execDebugLimitExpire s
  | .tokenShift token => Sys2Proof.Machine.execTokenShift token s
  | .makerProgramming data => Sys2Proof.Machine.execMakerProgramming data s
  | .debugHalt p => Sys2Proof.Machine.execDebugHalt p s
  | .clockHeldLow c => Sys2Proof.Machine.execClockHeldLow c s
  | .arrInjectWrite agent die arm tile => Sys2Proof.Machine.execArrInjectWrite agent die arm tile s

end Sys2Proof.Machine
end

