-- ==== Sys2Proof/Machine/Step.lean ====
section
/-! DEFINITION. One step: the command at the front of the queue runs on the state with the queue's rest; with none waiting, one µs passes. -/

namespace Sys2Proof.Machine

/-- The step. With an empty queue the warden's time advances by one µs and nothing else changes (DESIGN CHOICE, log 10). -/
def step (s : State) : Host.Outcome State Fault Refusal := match s.pending with
  | [] => .next { s with now := s.now + 1 }
  | c :: rest => exec c { s with pending := rest }

/-- `s` with the command that a word spells put at the front of its queue; `s` where the word spells none. -/
def State.withFetchWord (s : State) (nbits w : Nat) : State := match decodeTableWord nbits w with
  | some c => { s with pending := c :: s.pending }
  | none => s

end Sys2Proof.Machine
end

