-- ==== Sys2Proof/Safety.lean ====
section
/-! DEFINITION. The words in which statements about the block are written: what a command does, which parts of the state it leaves alone,
and the invariant that every step keeps. -/

namespace Sys2Proof

open Sys2Proof.Machine

/-- A command answers a next state, and of that state `P` holds. -/
def Does (c : Instr) (s : State) (P : State → Prop) : Prop := ∃ t, exec c s = .next t ∧ P t

/-- The parts of the state. -/
inductive Part where
  | pending | now | regs | wide | out | freeCtr | sup | cad | own | gt | pat | mem | lnk | seq | pwr | cool | leak | mon | itg | sdc | fw | arb
  | mgt | rcd | cfg | img | upd | sec | flash | otp | pin
deriving DecidableEq, Repr

/-- Two states agree in a part. -/
def Part.Same : Part → State → State → Prop
  | .pending, s, t => t.pending = s.pending
  | .now, s, t => t.now = s.now
  | .regs, s, t => t.regs = s.regs
  | .wide, s, t => t.wide = s.wide
  | .out, s, t => t.out = s.out
  | .freeCtr, s, t => t.freeCtr = s.freeCtr
  | .sup, s, t => t.sup = s.sup
  | .cad, s, t => t.cad = s.cad
  | .own, s, t => t.own = s.own
  | .gt, s, t => t.gt = s.gt
  | .pat, s, t => t.pat = s.pat
  | .mem, s, t => t.mem = s.mem
  | .lnk, s, t => t.lnk = s.lnk
  | .seq, s, t => t.seq = s.seq
  | .pwr, s, t => t.pwr = s.pwr
  | .cool, s, t => t.cool = s.cool
  | .leak, s, t => t.leak = s.leak
  | .mon, s, t => t.mon = s.mon
  | .itg, s, t => t.itg = s.itg
  | .sdc, s, t => t.sdc = s.sdc
  | .fw, s, t => t.fw = s.fw
  | .arb, s, t => t.arb = s.arb
  | .mgt, s, t => t.mgt = s.mgt
  | .rcd, s, t => t.rcd = s.rcd
  | .cfg, s, t => t.cfg = s.cfg
  | .img, s, t => t.img = s.img
  | .upd, s, t => t.upd = s.upd
  | .sec, s, t => t.sec = s.sec
  | .flash, s, t => t.flash = s.flash
  | .otp, s, t => t.otp = s.otp
  | .pin, s, t => t.pin = s.pin

/-- `t` is `s` but for the listed parts. -/
def OnlyIn (ps : List Part) (s t : State) : Prop := ∀ p, p ∉ ps → p.Same s t

/-- The parts of the state that a command may change, by what the spec's rules for it name; every other part is unchanged (the command's
frame). A record made on the way enters the error ring and the cask's queue (`itg`, `rcd`) and may order a notice (`mgt`); an answer or a
message sent enters `out`. -/
def footprint : Instr → List Part
  | .registerWrite _ _ _ | .rowTrigger _ _ | .openPerformed _ _ | .flitReceive _ _ _ _ =>
      [.regs, .wide, .out, .sup, .cad, .own, .gt, .pat, .mem, .lnk, .seq, .pwr, .cool, .itg, .sdc, .fw, .arb, .mgt, .rcd, .upd, .flash]
  | .readClear _ _ | .latchedLowRead _ _ | .memOpenCfgWrite _ _ _ _ | .leakClearWrite _ _ | .coolClearModel _
  | .monSelWrite _ _ _ _ | .hubLatchRelease _ | .arbTicketWrite _ _ _ _ | .arrInjectWrite _ _ _ _ =>
      [.regs, .out]
  | .standbyRise | .hubReferenceRecover | .packageLimitClear _ =>
      [.sup]
  | .standbyFall | .wardenPowerOnReset | .wardenRstN =>
      [.regs, .wide, .freeCtr, .sup, .cad, .own, .gt, .pat, .mem, .lnk, .seq, .pwr, .cool, .leak, .mon, .itg, .sdc, .fw, .arb, .mgt, .rcd, .cfg, .img, .upd, .sec, .pin]
  | .loaderVerify _ =>
      [.regs, .sup, .fw, .upd, .sec, .flash]
  | .domainSwitchRequest _ _ _ =>
      [.regs, .out, .sup]
  | .domainOnComplete _ _ =>
      [.regs, .wide, .out, .sup, .cad, .pat, .mem, .lnk, .pwr, .itg, .mgt, .rcd]
  | .referenceCheck _ =>
      [.regs, .wide, .out, .sup, .cad, .own, .gt, .pat, .mem, .lnk, .itg, .sdc, .fw, .arb, .mgt, .rcd, .upd, .flash]
  | .hubResetSingle _ _ =>
      [.regs, .wide, .out, .sup, .cad, .own, .gt, .pat, .mem, .lnk, .pwr, .itg, .sdc, .fw, .arb, .mgt, .rcd, .upd, .flash]
  | .hubRelease _ _ =>
      [.regs, .out, .sup, .own, .gt, .mem, .fw]
  | .governorEstimate _ _ | .governorRelease _ =>
      [.regs, .sup, .mem]
  | .governorRescale _ _ =>
      [.sup, .pwr]
  | .packageLimitUnmet _ =>
      [.regs, .out, .sup, .itg, .mgt, .rcd]
  | .domainOffRequest _ _ _ =>
      [.regs, .wide, .out, .sup, .pat, .mem, .lnk, .itg, .mgt, .rcd]
  | .cadenceTick =>
      [.regs, .cad, .own, .gt, .rcd]
  | .cadenceStall =>
      [.regs, .cad, .rcd]
  | .stepMarkEffect | .forcedStepMark =>
      [.regs, .wide, .out, .sup, .cad, .own, .pat, .mem, .lnk, .seq, .pwr, .itg, .sdc, .mgt, .rcd, .upd, .flash]
  | .stepMarkMessage _ _ | .toleranceApply =>
      [.cad]
  | .phaseMark _ _ _ =>
      [.regs, .cad]
  | .markEffect =>
      [.regs, .cad, .own]
  | .toleranceWrite _ _ _ =>
      [.regs, .out, .cad]
  | .timeRequestSend =>
      [.out, .freeCtr, .gt, .lnk]
  | .timeRequest _ _ _ _ | .keepaliveFlit _ =>
      [.out, .lnk]
  | .timeReply _ _ _ _ _ _ _ _ | .gtHoldover =>
      [.regs, .gt, .pwr, .rcd]
  | .timeReplyMissed _ =>
      [.gt]
  | .fenceComplete =>
      [.regs, .pat]
  | .collectiveComplete _ _ _ | .arrayComplete _ _ _ _ | .fusedComplete _ _ _ | .rowLimitExpire _ _ =>
      [.regs, .wide, .out, .pat, .mem, .lnk, .pwr, .itg, .sdc, .mgt, .rcd, .flash]
  | .sliceComplete _ _ _ =>
      [.regs, .out, .pat, .mem, .pwr, .itg, .sdc, .mgt, .rcd, .flash]
  | .digestComplete _ _ =>
      [.regs, .out, .pat, .mem, .lnk, .pwr, .itg, .sdc, .mgt, .rcd, .flash]
  | .descriptorTakeUp _ | .plannedFlitArrive _ _ _ _ _ _ | .scrubRead _ _ | .accRemoved _ | .trayCastOn _ | .trayBindOff _
  | .slotCastOn _ _ | .slotBindOff _ _ | .railNotGood _ | .bindOffGroupDrop | .railFallen _ | .railNotFallen _
  | .inputSettleExpire | .dutiesResumed _ | .partitionPowerOn _ _ | .partitionPowerOff _ _ | .powerOff _ =>
      [.regs, .wide, .out, .sup, .cad, .own, .gt, .pat, .mem, .lnk, .seq, .itg, .sdc, .fw, .arb, .mgt, .rcd, .upd, .flash]
  | .patNextWrite _ _ _ _ _ =>
      [.regs, .out, .pat, .itg, .mgt, .rcd]
  | .patternRestart _ =>
      [.regs, .out, .cad, .pat, .mem, .lnk, .pwr, .itg, .mgt, .rcd]
  | .msetPendingWrite _ _ _ =>
      [.out, .pat]
  | .pdata _ _ _ =>
      [.regs, .out, .pat, .lnk, .itg, .mgt, .rcd]
  | .pack _ _ | .autoAdmit _ =>
      [.pat]
  | .read _ | .write _ _ | .writeMasked _ _ _ | .readBulk _ | .writeBulk _ _ | .swap _ _ | .cas _ _ _ | .fetchAdd _ _
  | .fetchAnd _ _ | .fetchOr _ _ | .fetchXor _ _ | .fetchMin _ _ | .fetchMax _ _ | .fetchUmin _ _ | .fetchUmax _ _ | .fence _
  | .openDispatch _ | .accOpenResponse _ _ _ _ | .openTimeout _ | .response _ _ _ _ _ =>
      [.regs, .wide, .out, .mem, .lnk, .itg, .mgt, .rcd]
  | .correctionWriteback _ | .telemetryRefresh | .wardenSnapshot =>
      [.mem]
  | .laneSignalLoss _ _ | .linkSilenceTimeout _ | .trainTimeout _ | .peerId _ _ _ _ _ _ _ _ _ | .mgmtReq _ _ _ _
  | .modulePresencePoll _ _ | .moduleFlagPoll _ _ | .linkRetrain _ _ _ | .mgmtResp _ _ _ _ =>
      [.regs, .wide, .out, .pat, .mem, .lnk, .itg, .mgt, .rcd]
  | .linkHoldoffExpire _ | .hubAllowance | .modelResume | .zoneUnguardClear _ | .managementPortLink _ | .operatingSecond
  | .regionEraseComplete =>
      [.regs]
  | .linkTrainStart _ =>
      [.regs, .lnk]
  | .trainStepComplete _ _ =>
      [.regs, .wide, .out, .pat, .mem, .lnk, .pwr, .itg, .mgt, .rcd]
  | .hint _ _ _ _ _ | .powerReleaseWrites =>
      [.regs, .out, .pwr, .cool]
  | .activity _ _ _ _ _ =>
      [.wide, .lnk, .pwr]
  | .activityLost _ =>
      [.lnk]
  | .identityRead _ _ =>
      [.regs, .out, .lnk, .pwr, .itg, .sdc, .mgt, .rcd, .flash]
  | .linkClear _ _ _ =>
      [.regs, .out, .lnk]
  | .accPresent _ =>
      [.regs, .lnk, .seq]
  | .castOnGroupEnable | .railPgChange _ _ | .railFault _ =>
      [.regs, .wide, .out, .sup, .cad, .own, .gt, .pat, .mem, .lnk, .seq, .pwr, .itg, .sdc, .fw, .arb, .mgt, .rcd, .upd, .flash]
  | .railGood _ =>
      [.regs, .wide, .out, .sup, .cad, .own, .gt, .pat, .mem, .lnk, .seq, .cool, .itg, .sdc, .fw, .arb, .mgt, .rcd, .upd, .flash]
  | .perstRelease =>
      [.regs, .wide, .out, .pat, .mem, .lnk, .seq, .itg, .mgt, .rcd]
  | .railVoutRead _ _ =>
      [.seq]
  | .ksCalibrate _ _ | .auxUpdate _ | .averageRefresh | .throttleHoldExpire | .capDutyStep | .guardDutyStep
  | .voltageConfirm _ _ | .rampLimiterTick | .rampWindowEnd | .slowPeriod =>
      [.regs, .pwr]
  | .trayEstimate =>
      [.regs, .wide, .pwr]
  | .capUnmet =>
      [.regs, .out, .pwr, .mgt]
  | .voltageCutWrite =>
      [.out, .pwr]
  | .gaugeMismatch _ =>
      [.regs, .out, .pwr, .itg, .mgt, .rcd]
  | .energyAttribute =>
      [.wide, .pwr]
  | .gaugeResult _ _ _ =>
      [.regs, .out, .pat, .mem, .pwr, .rcd]
  | .gaugeApply =>
      [.regs, .out, .pwr]
  | .accTempRead _ _ | .thermistorSample _ _ | .valveControl | .pumpFanControl | .fanKick _ _ | .fanProbe _ _ | .floorTick
  | .thermalCeiling =>
      [.regs, .cool]
  | .surrogateTick _ _ | .fanStartTimeout _ _ | .tachWindow _ _ _ | .pumpSpeedFail _ | .valveFlag _ _ | .overJunction _ =>
      [.regs, .out, .cool, .itg, .mgt, .rcd]
  | .hubThermalThrottle _ _ =>
      [.regs, .mem, .cool, .mon]
  | .kilnTrip _ _ =>
      [.regs, .wide, .out, .sup, .cad, .own, .gt, .pat, .mem, .lnk, .pwr, .cool, .itg, .sdc, .fw, .arb, .mgt, .rcd, .upd, .flash]
  | .kilnTripClear _ =>
      [.regs, .sup, .cool]
  | .accThermtrip _ =>
      [.regs, .wide, .out, .sup, .cad, .own, .gt, .pat, .mem, .lnk, .seq, .cool, .itg, .sdc, .fw, .arb, .mgt, .rcd, .upd, .flash, .pin]
  | .thermtripValveExpire _ =>
      [.regs, .cool, .pin]
  | .leakSample _ =>
      [.regs, .leak]
  | .wetZoneOrder _ =>
      [.regs, .wide, .out, .sup, .cad, .own, .gt, .pat, .mem, .lnk, .seq, .leak, .itg, .sdc, .fw, .arb, .mgt, .rcd, .upd, .flash]
  | .zoneUnguarded _ | .crossCheckReport _ _ _ _ | .crossCheckMissing =>
      [.regs, .out, .itg, .mgt, .rcd]
  | .coolClearFan _ _ | .coolClearPump _ _ | .coolClearValve _ _ =>
      [.regs, .out, .cool]
  | .rcTrim _ _ _ =>
      [.regs, .freeCtr, .mon]
  | .voltAlarm _ _ _ | .droopAlarm _ _ _ =>
      [.regs, .out, .mon, .itg, .mgt, .rcd]
  | .ringOscMeasure _ _ _ =>
      [.regs, .out, .mon, .itg, .mgt, .rcd, .flash]
  | .containmentRelease =>
      [.regs, .sup, .own, .gt, .mem, .itg, .fw]
  | .memoryRetrainComplete =>
      [.regs, .itg]
  | .partitionWipeComplete _ | .swatchOrder _ _ _ | .swatchDue _ | .swatchEnd _ _ _ _ _ | .swatchRun _ _ =>
      [.regs, .wide, .out, .pat, .mem, .lnk, .seq, .itg, .sdc, .mgt, .rcd, .upd, .flash]
  | .shadowComplete _ _ =>
      [.regs, .out, .pat, .mem, .itg, .sdc, .mgt, .rcd, .flash]
  | .watchdogExpire _ _ | .processorTrap _ _ _ | .restartTimeout _ =>
      [.regs, .out, .itg, .fw, .arb, .mgt, .rcd, .upd, .flash]
  | .watchdogKick _ _ | .processorRelease _ _ =>
      [.out, .fw]
  | .processorRevive _ _ =>
      [.regs, .out, .fw]
  | .processorRestartOrder _ _ =>
      [.regs, .out, .fw, .arb, .rcd, .upd, .flash]
  | .arbPost _ _ _ _ | .arbDraw _ _ =>
      [.regs, .arb]
  | .reassemblyTimeout _ | .lockoutExpire _ | .datagramFragment _ _ _ =>
      [.mgt]
  | .sessionOpen _ _ | .swatchResult _ _ | .attestReport _ _ =>
      [.regs, .out, .freeCtr, .itg, .mgt, .rcd, .flash]
  | .sessionClose _ | .features _ _ | .gaugeFixOn _ _ | .gaugeFixOff _ _ | .telemetryRead _ _ _ | .logRead _ _ _ _
  | .traceSet _ _ _ _ | .recorderFreeze _ | .recorderRelease _ | .recorderRead _ _ _ | .clearLatchModel _ _
  | .clearLatchZone _ _ | .clearLatchHubHold _ _ | .reservedMessageCode _ _ | .attestCertificate _ _ | .unlock _ _ =>
      [.regs, .out, .itg, .mgt, .rcd, .flash]
  | .budgetSet _ _ | .capSet _ _ _ _ =>
      [.regs, .out, .pwr, .itg, .mgt, .rcd, .flash]
  | .patternSelect _ _ _ _ _ =>
      [.regs, .out, .sup, .cad, .pat, .mem, .lnk, .pwr, .itg, .mgt, .rcd, .flash]
  | .admitMsg _ _ =>
      [.regs, .out, .pat, .itg, .sdc, .mgt, .rcd, .flash]
  | .expel _ _ =>
      [.regs, .out, .pat, .itg, .mgt, .rcd, .flash]
  | .clearLatchFan _ _ | .clearLatchPump _ _ | .clearLatchValve _ _ =>
      [.regs, .out, .cool, .itg, .mgt, .rcd, .flash]
  | .clearLatchLink _ _ =>
      [.regs, .out, .lnk, .itg, .mgt, .rcd, .flash]
  | .clearLatchProcessor _ _ =>
      [.regs, .out, .itg, .fw, .mgt, .rcd, .flash]
  | .sessionLeaseExpire =>
      [.regs, .mgt, .rcd]
  | .actAlone | .runClose _ | .headerSnapshot | .freezeExpire =>
      [.regs, .rcd]
  | .icmpv6Echo _ _ | .neighbourDiscovery _ _ | .clockHeldLow _ =>
      [.out]
  | .caskWrite _ | .blockEraseComplete _ | .tokenShift _ =>
      [.regs, .rcd, .flash]
  | .caskScan =>
      [.regs, .sdc, .rcd, .flash]
  | .wardenVerify _ =>
      [.regs, .out, .itg, .fw, .mgt, .rcd, .upd, .sec, .flash, .otp]
  | .configValidate _ =>
      [.regs, .wide, .out, .sup, .cad, .own, .gt, .pat, .mem, .lnk, .seq, .pwr, .itg, .sdc, .fw, .arb, .mgt, .rcd, .cfg, .img, .upd, .sec, .flash]
  | .hubSectionsLoad _ _ _ =>
      [.regs, .wide, .out, .sup, .cad, .own, .gt, .pat, .mem, .lnk, .itg, .sdc, .fw, .arb, .mgt, .rcd, .cfg, .upd, .flash]
  | .memoryTrained _ =>
      [.regs, .out, .sup, .cad, .pat, .mem, .lnk, .pwr, .itg, .mgt, .rcd, .cfg]
  | .teststoreVerify _ _ _ =>
      [.regs, .out, .itg, .sdc, .mgt, .rcd, .upd, .sec, .flash, .pin]
  | .updateBegin _ _ _ _ | .updateEnd _ _ =>
      [.regs, .out, .itg, .mgt, .rcd, .upd, .flash]
  | .updateBlock _ _ _ _ =>
      [.regs, .out, .freeCtr, .itg, .mgt, .rcd, .upd, .flash]
  | .skeinOpen _ _ | .skeinLoad _ _ _ | .skeinPublish _ | .skeinWithdraw _ =>
      [.regs, .out, .mem, .itg, .mgt, .rcd, .upd, .flash]
  | .activateWarden _ _ _ | .activateHubctl _ _ _ | .activateFullRestart _ _ =>
      [.regs, .wide, .out, .sup, .cad, .own, .gt, .pat, .mem, .lnk, .seq, .itg, .sdc, .fw, .arb, .mgt, .rcd, .cfg, .upd, .sec, .flash]
  | .transferIdleExpire | .skeinReceive _ _ _ _ =>
      [.regs, .rcd, .upd, .flash]
  | .tricklePoll _ =>
      [.regs, .upd, .flash]
  | .tricklePull =>
      [.out, .upd]
  | .pushChunkStatus _ _ | .pushTimeout _ =>
      [.regs, .out, .seq, .itg, .mgt, .rcd, .upd, .flash]
  | .svnAdvance _ _ =>
      [.regs, .out, .itg, .mgt, .rcd, .upd, .otp]
  | .settingsCompact =>
      [.flash]
  | .keyStage _ _ _ =>
      [.regs, .out, .itg, .mgt, .rcd, .sec, .flash]
  | .provision _ _ | .deploy _ _ | .returnConsent _ _ | .returnPart _ _ | .retire _ _ | .revoke _ _ =>
      [.regs, .wide, .out, .freeCtr, .sup, .cad, .own, .gt, .pat, .mem, .lnk, .seq, .pwr, .cool, .leak, .mon, .itg, .sdc, .fw, .arb, .mgt, .rcd, .cfg, .img, .upd, .sec, .flash, .otp, .pin]
  | .lock _ =>
      [.regs, .out, .pat, .itg, .fw, .mgt, .rcd, .upd, .flash]
  | .consentLapse =>
      [.regs, .sec]
  | .debugLimitExpire =>
      [.regs, .pat, .fw, .rcd, .upd]
  | .makerProgramming _ =>
      [.regs, .rcd, .flash, .otp]
  | .debugHalt _ =>
      [.regs, .fw, .rcd, .upd, .flash]

/-- The register fields of `t` are those of `s` but for the listed ones. -/
def RegsBut (ks : List Fld) (s t : State) : Prop := ∀ k, k ∉ ks.map Fld.key → tfind t.regs k = tfind s.regs k

/-- The fields that a record entering the error ring and the cask's queue may change (R340, R418, R420). -/
def recordFields : List Fld :=
  [R.ERR_REC_HEAD.next, R.ERR_REC_HEAD.wrapped, R.REC_DROP_COUNT.c.cnt, R.REC_DROP_COUNT.c.ovf, R.REC_STATUS.dropped, R.REC_PENDING.count,
   R.REC_SUPPRESSED.count]

/-- The number of the step that the next step mark begins: the one after the last, or after the master's last (R44, R45). -/
def nextStep (s : State) : Nat := match s.pat.announce with
  | some a => (a.master + 1) % 2 ^ 48
  | none => (s.cad.step + 1) % 2 ^ 48

/-- What a link was given to send has begun to leave since `s`, or waits on its link; anything else has gone out (R204, R207). -/
def leaves (o : Out) (s t : State) : Bool :=
  let gone := (t.out.take (t.out.length - s.out.length)).contains o
  match outPacket o with
  | none => gone
  | some (l, c, _) =>
    let k := tget t.lnk.links l
    gone || (if c = 3 then k.control else tget k.queue c).any fun p => p.out == o

/-- From `s` to `t` a request has been answered on the link by which it entered, if that link is UP (R174, R195). -/
def responds (s t : State) (r : OpenReq) (a : Resp) (data : List Nat) (hint : Nat) (unknown : Bool) : Bool :=
  s.linkState r.hdr.link != 3 || leaves (.openAnswer r.hdr.link r.hdr.tag a data hint unknown) s t

/-- From `s` to `t` an error record entered the ring's next place, with a unit, an operation, a class, a severity and a detail (R338, R340). -/
def Recorded (s t : State) (unit op cls severity detail : Nat) : Prop :=
  ∃ r, tfind t.itg.ring s.itg.next = some r ∧ r.unit = unit ∧ r.operation = op ∧ r.cls = cls ∧ r.severity = severity ∧ r.detail = detail ∧
    t.itg.next = (s.itg.next + 1) % 256

/-- The request that a command of open traffic brings to the hub (R174, R208). -/
def openEntry : Instr → Option OpenReq
  | .read h => some { op := .read, hdr := h }
  | .write h data => some { op := .write, hdr := h, data := data }
  | .writeMasked h mask data => some { op := .writeMasked, hdr := h, mask := mask, data := data }
  | .readBulk h => some { op := .readBulk, hdr := h }
  | .writeBulk h data => some { op := .writeBulk, hdr := h, data := data }
  | .swap h v => some { op := .swap, hdr := h, data := v }
  | .cas h c v => some { op := .cas, hdr := h, data := v, compare := c }
  | .fetchAdd h v => some { op := .fetchAdd, hdr := h, data := v }
  | .fetchAnd h v => some { op := .fetchAnd, hdr := h, data := v }
  | .fetchOr h v => some { op := .fetchOr, hdr := h, data := v }
  | .fetchXor h v => some { op := .fetchXor, hdr := h, data := v }
  | .fetchMin h v => some { op := .fetchMin, hdr := h, data := v }
  | .fetchMax h v => some { op := .fetchMax, hdr := h, data := v }
  | .fetchUmin h v => some { op := .fetchUmin, hdr := h, data := v }
  | .fetchUmax h v => some { op := .fetchUmax, hdr := h, data := v }
  | .fence h => some { op := .fence, hdr := h }
  | _ => none

/-- A context that the pools of this hub can perform now: not sent over a link, not a FENCE, not held by an earlier operation of its
source (R179), not a write or atomic held by a FUSED row (R133), allowed by the guards (R187), with every line it touches served (R173) and
none marked (R320). -/
def PoolReady (s : State) (c : Context) : Prop :=
  c.link = none ∧ c.req.op ≠ .fence ∧ heldByOrder s c = false ∧
  (opClass c.req.op = 0 ∨ heldByFused s (c.req.hdr.addr % 2 ^ 46) c.req.hdr.size = false) ∧
  (regionOf (c.req.hdr.addr % 2 ^ 46) = .hbm ∨ regionOf (c.req.hdr.addr % 2 ^ 46) = .lpddr) ∧
  guardAllows s c.req.src (c.req.hdr.addr % 2 ^ 46) (opClass c.req.op) = true ∧
  ∀ l ∈ linesOf (c.req.hdr.addr % 2 ^ 46) c.req.hdr.size, lineServed s (l * 256) = true ∧ s.mem.isMarked l = false

/-- Whether the running sequence, if there is one, still has a rail of its group to resolve once channel `c` is in state `v` (R230, R236). -/
def runWaits (s : State) (c v : Nat) : Bool :=
  s.seq.run.all fun q => ! groupResolved (s.modRail c fun x => { x with state := v }) q

/-- The row of R393's table that a message command carries, with the message: its code, its feature, its bulk class, its duty, how it comes
without the session, and whether the loader serves it. -/
def messageOf : Instr → Option (Order × Msg)
  | .sessionOpen m _ => some ({ code := 0x001, free := .signed, loader := true }, m)
  | .sessionClose m => some ({ code := 0x002, loader := true }, m)
  | .features m _ => some ({ code := 0x003 }, m)
  | .budgetSet m _ => some ({ code := 0x010, duty := 1, free := .rackSigned }, m)
  | .capSet m scope _ _ => some ({ code := 0x011, duty := 1, feature := if scope = 0xFF then 0 else 1 }, m)
  | .gaugeFixOn m _ => some ({ code := 0x012, feature := 2, duty := 1 }, m)
  | .gaugeFixOff m _ => some ({ code := 0x012, feature := 2, duty := 1 }, m)
  | .partitionPowerOn m _ => some ({ code := 0x013 }, m)
  | .partitionPowerOff m _ => some ({ code := 0x013 }, m)
  | .powerOff m => some ({ code := 0x014, free := .rackSigned, loader := true }, m)
  | .patternSelect m _ _ _ _ => some ({ code := 0x020 }, m)
  | .admitMsg m _ => some ({ code := 0x021, feature := 7 }, m)
  | .expel m _ => some ({ code := 0x022, feature := 7 }, m)
  | .telemetryRead m _ _ => some ({ code := 0x030, bulk := true, free := .unsigned }, m)
  | .logRead m ring _ _ => some ({ code := 0x031, feature := if ring = 0 then 0 else 5, bulk := true, duty := 3 }, m)
  | .traceSet m _ _ _ => some ({ code := 0x032, feature := 5 }, m)
  | .recorderFreeze m => some ({ code := 0x033, feature := 4, duty := 3 }, m)
  | .recorderRelease m => some ({ code := 0x033, feature := 4, duty := 3 }, m)
  | .recorderRead m _ _ => some ({ code := 0x034, feature := 4, bulk := true, duty := 3 }, m)
  | .swatchRun m _ => some ({ code := 0x040, feature := 6 }, m)
  | .swatchResult m _ => some ({ code := 0x041, feature := 6 }, m)
  | .clearLatchFan m _ => some ({ code := 0x042 }, m)
  | .clearLatchPump m _ => some ({ code := 0x042 }, m)
  | .clearLatchValve m _ => some ({ code := 0x042 }, m)
  | .clearLatchModel m _ => some ({ code := 0x042 }, m)
  | .clearLatchZone m _ => some ({ code := 0x042 }, m)
  | .clearLatchLink m _ => some ({ code := 0x042 }, m)
  | .clearLatchProcessor m _ => some ({ code := 0x042 }, m)
  | .clearLatchHubHold m _ => some ({ code := 0x042 }, m)
  | .reservedMessageCode m code => some ({ code := code % 4096, known := false }, m)
  | .updateBegin m _ _ _ => some ({ code := 0x050, loader := true }, m)
  | .updateBlock m _ _ _ => some ({ code := 0x051, bulk := true, loader := true }, m)
  | .updateEnd m _ => some ({ code := 0x052, loader := true }, m)
  | .skeinOpen m _ => some ({ code := 0x053, feature := 3, bulk := true }, m)
  | .skeinLoad m _ _ => some ({ code := 0x053, feature := 3, bulk := true }, m)
  | .skeinPublish m => some ({ code := 0x053, feature := 3, bulk := true }, m)
  | .skeinWithdraw m => some ({ code := 0x053, feature := 3, bulk := true }, m)
  | .activateWarden m _ _ => some ({ code := 0x054, loader := true }, m)
  | .activateHubctl m _ _ => some ({ code := 0x054, loader := true }, m)
  | .activateFullRestart m _ => some ({ code := 0x054, loader := true }, m)
  | .attestReport m _ => some ({ code := 0x060, feature := 8 }, m)
  | .attestCertificate m _ => some ({ code := 0x060, feature := 8 }, m)
  | .keyStage m _ _ => some ({ code := 0x061, feature := 9 }, m)
  | .provision m _ => some ({ code := 0x061, feature := 9 }, m)
  | .deploy m _ => some ({ code := 0x061, feature := 9 }, m)
  | .returnConsent m _ => some ({ code := 0x061, feature := 9 }, m)
  | .returnPart m _ => some ({ code := 0x061, feature := 9 }, m)
  | .retire m _ => some ({ code := 0x061, feature := 9 }, m)
  | .revoke m _ => some ({ code := 0x061, feature := 9 }, m)
  | .unlock m _ => some ({ code := 0x061, feature := 9 }, m)
  | .lock m => some ({ code := 0x061, feature := 9 }, m)
  | _ => none

/-- Whether step 5 of R398 lets a message through. -/
def authPasses (a : Auth) : Bool := match a with
  | .session => true
  | .open_ => true
  | .signed _ => true
  | _ => false

/-- The state in which a message that has taken its token is acted on, where it passes steps 5 to 9 of R398 but for the fields of its body:
its sender has been heard, and its sequence or counter kept. -/
def passes (s : State) (k : Order) (m : Msg) : Option State :=
  let a := authenticate s k m
  let u := noteAccepted (heard s m.role) m a
  if authPasses a = true ∧ ¬ (k.free = .rackSigned ∧ k.code = 0x010 ∧ m.role = .host) ∧ featureOn u a k.feature = true ∧ dutyUp u k m = true ∧
      m.spare = 0 ∧ (m.flags.testBit 2 = true → m.trailerZero = true) then some u else none

/-- The state in which a message is acted on, where it reaches the device and passes steps 1 to 8 of R398 and, but for the fields of its body,
step 9: the checks' own effects have been made, its lease renewed, its token taken, its sender heard and its sequence or counter kept. -/
def takesUp (s : State) (k : Order) (m : Msg) : Option State :=
  if reaches s m = true ∧ (m.role = .host → m.viaHostPort = true) ∧ m.magic = 0x4D47 ∧ m.version = 1 ∧ lockedOut s m = false ∧
      responding (renewLease s m) = false ∧ messageHeaderOk k m = true then
    match takeToken (renewLease s m) (bucketOf (renewLease s m) k m) with
    | (_, some _) => none
    | (t, none) => passes t k m
  else none

/-- From `s` to `t` the first thing sent is the answer to a message. -/
def Answers (t : State) (m : Msg) (code : Nat) (r : Resp) (body : List Nat) : Prop := t.out.head? = some (.mgmt m.role code r body)

/-- Every pool byte of `t` reads as in `s`. -/
def SamePool (s t : State) : Prop := ∀ off, Memory.read t.mem.pool off = Memory.read s.mem.pool off

/-- What holds of every state a run reaches: the pools list their bytes in the canonical form, the error ring is written within its 256
places (R340), at most 1,024 records wait for the cask (R418), and no tracker's cadence phase passes its saturated value (R43, R53). -/
def Inv (s : State) : Prop :=
  Memory.wf s.mem.pool = true ∧ (s.itg.next < 256 ∧ ∀ e ∈ s.itg.ring, e.1 < 256) ∧ s.rcd.queue.length ≤ 1024 ∧ s.cad.phase ≤ phaseMax ∧
    ∀ o ∈ s.own, o.2.phase ≤ phaseMax

/-- Every bit set in `a` is set in `b`. -/
def BitsIn (a b : Nat) : Prop := a &&& b = a

/-- R471: of the revoke bits, the life-cycle markers and the security version counters of the OTP, none is lower in `b` than in `a`. -/
def OtpRises (a b : Otp) : Prop :=
  BitsIn a.makerRevoked b.makerRevoked ∧ BitsIn a.owner0Revoked b.owner0Revoked ∧ BitsIn a.owner1Revoked b.owner1Revoked ∧
  (∀ k, BitsIn (tget a.markers k) (tget b.markers k)) ∧ ∀ typ, tget a.svn typ ≤ tget b.svn typ

end Sys2Proof
end

