-- ==== Sys2Proof/Certificates/Slice0/Obligations.lean ====
section
/-! DEFINITION. The statements for the provers. -/

set_option linter.unusedVariables false

open Sys2Proof Sys2Proof.Machine

/-- The register commands (R14, R9, R70, R166, R501). A write of CAD_STATUS clears the W1C bits whose bits are 1 and no other field; a
read of CAD_STALL_COUNT answers the count and clears it with its overflow bit; a read of COL_ADDS_LO answers the low word of the count and
latches the upper one; CLOCK_HELD_LOW recovers a held bus; an ARR_INJECT write with debug access open sets the order. -/
def Obligations.RegisterCommands : Prop :=
  (∀ (s : State) (v : Nat), s.dieUp 0 = true → Does (.registerWrite .steward 0x1010000 v) s fun t => t.rd (R.CAD_STATUS.out_of_range 0)
    = (if v.testBit 8 then 0 else s.rd (R.CAD_STATUS.out_of_range 0)) ∧ t.rd (R.CAD_STATUS.renumbered 0) = (if v.testBit 7 then 0 else
    s.rd (R.CAD_STATUS.renumbered 0)) ∧ t.out = Out.answer .ok 0 0 :: s.out ∧ RegsBut [R.CAD_STATUS.out_of_range 0,
    R.CAD_STATUS.renumbered 0] s t) ∧
  (∀ (s : State), s.dieUp 0 = true → Does (.readClear .steward 0x1010020) s fun t => t.out = Out.answer .ok (s.rd
    (R.CAD_STALL_COUNT.count 0) % 2 ^ 32) 0 :: s.out ∧ t.rd (R.CAD_STALL_COUNT.count 0) = 0 ∧ t.rd (R.CAD_STALL_COUNT.c 0).ovf = 0 ∧
    RegsBut [R.CAD_STALL_COUNT.count 0, (R.CAD_STALL_COUNT.c 0).ovf] s t) ∧
  (∀ (s : State), s.dieUp 0 = true → Does (.latchedLowRead .steward 0x1030028) s fun t => t.out = Out.answer .ok (tget s.wide
    (R.COL_ADDS_LO.count 0).key % 2 ^ 32) 0 :: s.out ∧ t.rd (R.COL_ADDS_HI.count 0) = tget s.wide (R.COL_ADDS_LO.count 0).key / 2 ^ 32 %
    2 ^ 32 ∧ t.wide = s.wide ∧ RegsBut [R.COL_ADDS_HI.count 0] s t) ∧
  (∀ (s : State) (c : Nat), 1 ≤ c ∧ c ≤ 4 → s.on (R.ARB_CTL.held c) = true → Does (.clockHeldLow c) s fun t => t = s.emit (.busRecovery
    c)) ∧
  (∀ (s : State) (a : Agent) (d : Nat) (arm : Bool) (tile : Nat), a ≠ Agent.host → debugOpen s = true → s.dieUp d = true → tile < 64 →
    Does (.arrInjectWrite a d arm tile) s fun t => t.rd (R.ARR_INJECT.arm d) = b2n arm ∧ t.rd (R.ARR_INJECT.tile d) = tile ∧ t.out =
    Out.answer .ok 0 0 :: s.out ∧ RegsBut [R.ARR_INJECT.arm d, R.ARR_INJECT.tile d] s t)

/-- The standby rail and the device resets (R17, R39, R499, R66). VDD_STBY rising starts the count to the power-on reset; its fall, the
power-on reset and WARDEN_RST_N leave a device with both hub dies in reset, its working state empty, and flash and OTP as they were. -/
def Obligations.PowerAndResetsKeepFlashAndOtp : Prop :=
  (∀ (s : State), s.sup.standby = false → Does (.standbyRise) s fun t => t =
    { s with sup := { s.sup with standby := true, riseAt := s.now, wardenOn := false } }) ∧
  (∀ (s : State), s.sup.standby = true → Does (.standbyFall) s fun t => t.sup.standby = false ∧ t.sup.wardenOn = false ∧ t.sup.dies = []
    ∧ t.mem = State.reset.mem ∧ t.seq = State.reset.seq ∧ t.pat = State.reset.pat ∧ t.cad = State.reset.cad ∧ t.lnk = State.reset.lnk ∧
    t.cool = State.reset.cool ∧ t.pwr = State.reset.pwr ∧ t.mgt = { State.reset.mgt with heardRm := s.now, heardHost := s.now } ∧
    t.flash = s.flash ∧ t.otp = s.otp) ∧
  (∀ (s : State), s.sup.standby = true → s.sup.wardenOn = false → s.sup.riseAt + 1000 ≤ s.now → Does (.wardenPowerOnReset) s fun t =>
    t.sup.wardenOn = true ∧ t.sup.resetSource = 0 ∧ t.sup.dies = [] ∧ t.mem = State.reset.mem ∧ t.seq = State.reset.seq ∧ t.pat =
    State.reset.pat ∧ t.cad = State.reset.cad ∧ t.lnk = State.reset.lnk ∧ t.cool = State.reset.cool ∧ t.pwr = State.reset.pwr ∧ t.mgt =
    { State.reset.mgt with heardRm := s.now, heardHost := s.now } ∧ t.flash = s.flash ∧ t.otp = s.otp) ∧
  (∀ (s : State), s.sup.standby = true → s.sup.wardenOn = true → Does (.wardenRstN) s fun t => t.sup.wardenOn = true ∧ t.sup.resetSource
    = 1 ∧ t.sup.dies = [] ∧ t.mem = State.reset.mem ∧ t.seq = State.reset.seq ∧ t.pat = State.reset.pat ∧ t.cad = State.reset.cad ∧
    t.lnk = State.reset.lnk ∧ t.cool = State.reset.cool ∧ t.pwr = State.reset.pwr ∧ t.mgt =
    { State.reset.mgt with heardRm := s.now, heardHost := s.now } ∧ t.flash = s.flash ∧ t.otp = s.otp)

/-- The domain switch requests (R30, R31, R32). A request by Steward or the Power processor starts a domain that is off, a start that is
due makes the domain on, and an off request with no active pattern switches the domain off. -/
def Obligations.DomainCommands : Prop :=
  (∀ (s : State) (a : Agent) (d n : Nat), asksDomains a = true → d < 2 → n < 27 → kilnActive s d = false → s.domainOn d n = false →
    (tget s.sup.dies d).starting = [] → (tget s.sup.dies d).lastStart = none → Does (.domainSwitchRequest a d n) s fun t => (tget
    t.sup.dies d).starting = [(n, s.now)] ∧ t.out = Out.answer .ok 0 0 :: s.out ∧ RegsBut [R.PWR_DOMAIN_H.pending d] s t) ∧
  (∀ (s : State) (d n : Nat), d < 2 → n < 27 → (tfind (tget s.sup.dies d).starting n).any (fun at_ => decide (at_ ≤ s.now)) = true →
    Does (.domainOnComplete d n) s fun t => t.domainOn d n = true) ∧
  (∀ (s : State) (a : Agent) (d n : Nat), asksDomains a = true → d < 2 → n < 27 → s.activePattern = none → Does (.domainOffRequest a d
    n) s fun t => t.domainOn d n = false ∧ t.out.head? = some (Out.answer .ok 0 0))

/-- The release and the reset of one hub die (R40, R41, R42, R332). HUB_RELEASE by Steward of a die that may be released starts the die
and its two processors; HUB_RESET_SINGLE stops a running die; CONTAINMENT_RELEASE 10 ms into native containment releases the dies. -/
def Obligations.HubReleaseAndReset : Prop :=
  (∀ (s : State) (d : Nat), d < 2 → mayRelease s d = true → s.itg.containAt = none → Does (.hubRelease .steward d) s fun t => t.dieUp d
    = true ∧ t.rd (R.FW_PROC.state (4 + 2 * d)) = 1 ∧ t.rd (R.FW_PROC.state (5 + 2 * d)) = 1 ∧ t.out.head? = some (Out.answer .ok 0 0)) ∧
  (∀ (s : State) (d : Nat), s.dieUp d = true → Does (.hubResetSingle .steward d) s fun t => t.dieUp d = false ∧ t.out.head? = some
    (Out.answer .ok 0 0)) ∧
  (∀ (s : State), s.itg.containAt.any (fun at_ => decide (at_ + 10000 ≤ s.now)) = true → s.sup.refFailed / 2 = 0 → s.procUp 0 = true →
    mayRelease s 0 = true → mayRelease s 1 = true → Does (.containmentRelease) s fun t => t.dieUp 0 = true ∧ t.dieUp 1 = true)

/-- A failed hub reference (R38). In the REFERENCE_CHECK at which a hub reference has been more than 1,000 ppm off for 1 ms it fails: it
is marked failed, both hub dies are in reset, and both are held, in every state and with every containment mode; while any hub reference
is out of range, or until the four have been in range for 10 ms, HUB_REFERENCE_RECOVER changes nothing, and then it ends the hold of both
dies and changes no register. -/
def Obligations.FailedReferenceHoldsBothDies : Prop :=
  (∀ (s : State) (ppm : List Nat) (i at_ : Nat), 1 ≤ i ∧ i ≤ 4 → 1000 < ppm.getD i 0 → tfind s.sup.refOut i = some at_ → at_ + 1000 ≤
    s.now → s.sup.refFailed.testBit i = false → Does (.referenceCheck ppm) s fun t => t.sup.refFailed.testBit i = true ∧ t.dieUp 0 =
    false ∧ t.dieUp 1 = false ∧ (tget t.sup.dies 0).holds.testBit 2 = true ∧ (tget t.sup.dies 1).holds.testBit 2 = true) ∧
  (∀ (s : State), s.sup.refFailed / 2 ≠ 0 → s.sup.refGoodSince + 10000 ≤ s.now → [1, 2, 3, 4].any (fun i => (tfind s.sup.refOut
    i).isSome) = false → Does (.hubReferenceRecover) s fun t => t.sup.refFailed = s.sup.refFailed % 2 ∧ (tget t.sup.dies
    0).holds.testBit 2 = false ∧ (tget t.sup.dies 1).holds.testBit 2 = false ∧ t.regs = s.regs) ∧
  (∀ (s : State), s.now < s.sup.refGoodSince + 10000 ∨ [1, 2, 3, 4].any (fun i => (tfind s.sup.refOut i).isSome) = true → Does
    (.hubReferenceRecover) s fun t => t = s)

/-- The start-up checks of the images (R441, R444, R445, R452, R476, R356). An image that verifies starts what it holds: the loader and
W1, the warden images with the Power, Cooling and Recorder processors, the CONFIG image, a die's hub sections, its trained memory, and the
test store. -/
def Obligations.StartUpChecks : Prop :=
  (∀ (s : State) (c : ImageCheck), s.sup.wardenOn = true → s.sup.loaderStarted = false → s.sup.romHold = false → imageVerdict s 1 c =
    none → s.lifeState ≠ 0 ∧ s.lifeState ≠ 5 → s.rd (R.FW_PROC.state 0) ≠ 3 → Does (.loaderVerify c) s fun t => t.sup.loaderStarted =
    true ∧ t.sup.w1At = s.now ∧ t.rd R.PWR_DOMAIN_W.w1_on = 1 ∧ t.rd (R.FW_PROC.state 0) = 1) ∧
  (∀ (s : State) (c : ImageCheck), s.sup.wardenOn = true → s.sup.loaderStarted = false → (imageVerdict s 1 c).isSome = true → Does
    (.loaderVerify c) s fun t => t = { s with sup := { s.sup with romHold := true } }) ∧
  (∀ (s : State) (c : CodeImages), s.sup.loaderStarted = true → s.rd R.UPD_STATUS.loader = 0 → codeVerified s = false → s.lifeState ≠ 4
    → imageVerdict s 2 c.warden = none → imageVerdict s 3 c.hubctl = none → ([1, 2, 3].all fun (p : Nat) => s.rd (R.FW_PROC.state p) !=
    3) = true → Does (.wardenVerify c) s fun t => t.upd.features = setBit c.features 0 true ∧ t.rd (R.FW_PROC.state 1) = 1 ∧ t.rd
    (R.FW_PROC.state 2) = 1 ∧ t.rd (R.FW_PROC.state 3) = 1) ∧
  (∀ (s : State) (r : ConfigRead), s.procUp 0 = true → s.rd R.UPD_STATUS.loader = 0 → codeVerified s = true → s.rd R.CFG_STATUS.state =
    0 → imageVerdict s 4 r.check = none → configFailure s r = none → Does (.configValidate r) s fun t => t.img = configImage r ∧ t.rd
    R.UPD_STATUS.loader = 1 ∧ t.seq.verified = true) ∧
  (∀ (s : State) (r : ConfigRead), s.procUp 0 = true → s.rd R.UPD_STATUS.loader = 0 → codeVerified s = true → s.rd R.CFG_STATUS.state =
    0 → imageVerdict s 4 r.check = none → (configFailure s r).isSome = true → Does (.configValidate r) s fun t => t.rd
    R.CFG_STATUS.state = 2 ∧ t.rd R.UPD_STATUS.loader = 2 ∧ t.seq.verified = false) ∧
  (∀ (s : State) (d : Nat) (copyOk : Bool), s.dieUp d = true → s.procUp 0 = true → (tget s.sup.dies d).sections = false → s.rd
    R.CFG_STATUS.state = 1 → Does (.hubSectionsLoad d copyOk true) s fun t => (tget t.sup.dies d).sections = true ∧ t.pat.lib =
    s.img.patterns ∧ t.pat.routes = s.img.routes ∧ t.mem.guards = s.img.guards ∧ t.mem.queues = s.img.queues) ∧
  (∀ (s : State) (d : Nat), s.dieUp d = true → (tget s.sup.dies d).sections = true → (tget s.sup.dies d).trained = false → Does
    (.memoryTrained d) s fun t => (tget t.sup.dies d).trained = true ∧ t.cfg.preloaded.testBit d = true) ∧
  (∀ (s : State) (c : ImageCheck) (hubSet mode : Nat) (sets : List Nat), s.anyDieUp = true → s.procUp 0 = true → hubSet ≤ 1073741824 →
    imageVerdict s 5 c = none → Does (.teststoreVerify c ⟨hubSet, sets⟩ mode) s fun t => t.sdc.hubSet = true ∧ t.sdc.sets = sets ∧
    t.pin.emmc = mode % 4)

/-- The package power governor (R23, R25, R26, R28). An estimate above the half of the limit steps one control down; one 6 W below it for
100 µs releases one step each 10 µs, the issue rate first; the Power processor's reading rescales the estimate; a die over its half at
both floors for 100 µs is recorded once. -/
def Obligations.GovernorCommands : Prop :=
  (∀ (s : State) (d : Nat) (activity : List Nat), s.dieUp d = true → Does (.governorEstimate d activity) s fun t => (tget t.sup.dies
    d).estimate = dieEstimate (tget s.sup.dies d) activity ∧ (halfLimit s < dieEstimate (tget s.sup.dies d) activity → ((tget t.sup.dies
    d).shareCut = (tget s.sup.dies d).shareCut + 2 ∧ (tget t.sup.dies d).issueCut = (tget s.sup.dies d).issueCut) ∨ ((tget t.sup.dies
    d).shareCut = (tget s.sup.dies d).shareCut ∧ (tget t.sup.dies d).issueCut = min 12 ((tget s.sup.dies d).issueCut + 1))) ∧
    (dieEstimate (tget s.sup.dies d) activity ≤ halfLimit s → t.regs = s.regs ∧ (tget t.sup.dies d).overSince = none)) ∧
  (∀ (s : State) (d measured : Nat), s.dieUp d = true → s.procUp 1 = true → 3000 < (tget s.sup.dies d).estimate → Does (.governorRescale
    d measured) s fun t => (tget t.sup.dies d).scale = (tget s.sup.dies d).scale * (measured - 3000) / ((tget s.sup.dies d).estimate -
    3000) ∧ t.regs = s.regs) ∧
  (∀ (s : State) (d at_ : Nat), s.dieUp d = true → (tget s.sup.dies d).marginSince = some at_ → at_ + 100 ≤ s.now → (tget s.sup.dies
    d).lastRelease + 10 ≤ s.now → (tget s.sup.dies d).issueCut ≠ 0 ∨ (tget s.sup.dies d).shareCut ≠ 0 → Does (.governorRelease d) s fun
    t => (tget t.sup.dies d).lastRelease = s.now ∧ (tget t.sup.dies d).issueCut = (tget s.sup.dies d).issueCut - 1 ∧ (tget t.sup.dies
    d).shareCut = (if (tget s.sup.dies d).issueCut = 0 then (tget s.sup.dies d).shareCut - 2 else (tget s.sup.dies d).shareCut)) ∧
  (∀ (s : State) (d at_ : Nat), s.dieUp d = true → (tget s.sup.dies d).overSince = some at_ → at_ + 100 ≤ s.now → (tget s.sup.dies
    d).unmet = false → Does (.packageLimitUnmet d) s fun t => (tget t.sup.dies d).unmet = true ∧ Recorded s t (0x1000 * (d + 1) + 0xC0)
    0 0x0B 2 0 ∧ RegsBut recordFields s t) ∧
  (∀ (s : State) (d at_ : Nat), (tget s.sup.dies d).underSince = some at_ → at_ + 1000 ≤ s.now → (tget s.sup.dies d).unmet = true → Does
    (.packageLimitClear d) s fun t => (tget t.sup.dies d).unmet = false ∧ t.regs = s.regs)

/-- The cadence tracker (R44, R46, R50, R52, R53, R55, R70). A tick advances group time to the next multiple of 32 ns and the phase by its
increment; a stall saturates the phase; marks of served senders are compared, taken at their quorum and take effect 256 ns later within
the tolerance; a tolerance in range is shown at once and takes effect 1 µs later. -/
def Obligations.CadenceCommands : Prop :=
  (∀ (s : State), s.anyDieUp = true → Does (.cadenceTick) s fun t => t.gt.time = (s.gt.time / 32 + 1) * 32 % 2 ^ 64 ∧ t.cad.phase = (if
    s.cad.advance.overdue ((s.gt.time / 32 + 1) * 32) then phaseMax else s.cad.advance.phase)) ∧
  (∀ (s : State), s.cad.overdue s.gt.time = true → Does (.cadenceStall) s fun t => t.cad = s.cad.stall ∧ RegsBut
    ([R.CAD_STALL_COUNT.count 0, R.CAD_STALL_COUNT.count 1, (R.CAD_STALL_COUNT.c 0).ovf, (R.CAD_STALL_COUNT.c 1).ovf] ++ recordFields) s
    t) ∧
  (∀ (s : State) (slot step : Nat), s.marksHeard slot = true → Does (.stepMarkMessage slot step) s fun t => t =
    { s with cad := { s.cad with mismatch := setBit s.cad.mismatch slot (step % 2 ^ 48 != s.cad.step) } }) ∧
  (∀ (s : State) (slot mark tag i : Nat), s.phaseHeard slot = true → markIndex s.markTable mark = some i → tag % 2 ^ 16 = s.cad.step % 2
    ^ 16 → s.cad.mismatch.testBit slot = false → (tget s.cad.senders i).testBit slot = false → s.cad.taken.testBit i = false → quorumOf
    s (s.markTable.getD i default) ≤ popcount (setBit (tget s.cad.senders i) slot true) 8 → Does (.phaseMark slot mark tag) s fun t => t
    =
    { s with cad := { s.cad with senders := tput s.cad.senders i (setBit (tget s.cad.senders i) slot true), taken := setBit s.cad.taken i true, takes := s.cad.takes ++ [(i, s.gt.time, slot)] } }) ∧
  (∀ (s : State) (slot mark tag : Nat), s.phaseHeard slot = true → markIndex s.markTable mark = none → Does (.phaseMark slot mark tag) s
    fun t => t = markReject s mark slot 1 0) ∧
  (∀ (s : State) (i stamp acc : Nat) (rest : List (Nat × Nat × Nat)), s.cad.takes = (i, stamp, acc) :: rest → stamp + 256 ≤ s.gt.time →
    acc ≠ 8 → s.cad.held = false → s.cad.stalled = false → (((s.markTable.getD i default).angle * 2 ^ 32 : Nat) - (s.cad.phase :
    Int)).natAbs ≤ s.cad.tolerance * 2 ^ 32 → Does (.markEffect) s fun t => t.cad =
    { s.cad with takes := rest, effective := setBit s.cad.effective i true, corr := ((s.markTable.getD i default).angle * 2 ^ 32 : Nat) - (s.cad.phase : Int) }) ∧
  (∀ (s : State) (die value : Nat), s.dieUp die = true → 1024 ≤ value ∧ value ≤ 32767 → Does (.toleranceWrite .steward die value) s fun
    t => t.cad.tolerancePending = s.cad.tolerancePending ++ [(value, s.gt.time)] ∧ t.rd (R.CAD_MARK_CFG.tolerance die) = value ∧ t.out =
    Out.answer .ok 0 0 :: s.out ∧ RegsBut [R.CAD_MARK_CFG.tolerance 0, R.CAD_MARK_CFG.tolerance 1] s t) ∧
  (∀ (s : State) (v at_ : Nat) (rest : List (Nat × Nat)), s.cad.tolerancePending = (v, at_) :: rest → at_ + 1000 ≤ s.gt.time → Does
    (.toleranceApply) s fun t => t = { s with cad := { s.cad with tolerance := v, tolerancePending := rest } })

/-- The step marks and the pattern selection (R44, R45, R46, R53, R93, R94, R95, R97, R98, R99). A step mark takes effect 256 ns after its
stamp: phase, correction and hold are cleared, the stall ends, the step number is the one after the last or the master's, every pending
membership set becomes active, and the pattern that R95 to R98 give starts on both dies; where none may run, the sequencers enter REFUSED.
A PAT_NEXT write by Steward sets the copies of the running dies, and where the sequencers are EMPTY or REFUSED a pattern that is not
refused is accepted; a forced step mark starts the accepted pattern at the first tick after it. A pending set that Steward writes is held
for the next step mark. -/
def Obligations.StepMarkCommands : Prop :=
  (∀ (s : State) (stamp n : Nat) (p : Pattern), s.cad.markStamp = some stamp → stamp + 256 ≤ s.gt.time → (latchPattern (fenceForSwatch
    (readmitTiles s)) (nextStep s)).2 = some n → tfind s.pat.lib n = some p → Does (.stepMarkEffect) s fun t => t.cad.lastStamp = stamp
    ∧ t.cad.phase = 0 ∧ t.cad.corr = 0 ∧ t.cad.held = false ∧ t.cad.stalled = false ∧ t.cad.started = true ∧ t.cad.markStamp = none ∧
    t.cad.takes = [] ∧ t.sdc.marks = s.sdc.marks + 1 ∧ t.pat.announce = none ∧ t.pat.flights = [] ∧ t.pat.msets = (activateSets
    s).pat.msets ∧ t.cad.step = nextStep s ∧ t.pat.active = some n ∧ t.pat.forced = none ∧ t.pat.takeUpAt = some (s.gt.time + 320) ∧
    tget t.mem.shares 0 = (p.linkShare, p.poolShare) ∧ tget t.mem.shares 1 = (p.linkShare, p.poolShare) ∧ (∀ d, s.dieUp d = true → t.rd
    (R.PAT_STATUS.state d) = 1)) ∧
  (∀ (s : State) (stamp : Nat), s.cad.markStamp = some stamp → stamp + 256 ≤ s.gt.time → (latchPattern (fenceForSwatch (readmitTiles s))
    (nextStep s)).2 = none → Does (.stepMarkEffect) s fun t => t.cad.lastStamp = stamp ∧ t.cad.phase = 0 ∧ t.cad.corr = 0 ∧ t.cad.held =
    false ∧ t.cad.stalled = false ∧ t.cad.started = true ∧ t.cad.markStamp = none ∧ t.cad.takes = [] ∧ t.sdc.marks = s.sdc.marks + 1 ∧
    t.pat.announce = none ∧ t.pat.flights = [] ∧ t.pat.msets = (activateSets s).pat.msets ∧ t.cad.step = nextStep s ∧ t.pat.seqs = [] ∧
    t.pat.active = s.pat.active ∧ (∀ d, s.dieUp d = true → t.rd (R.PAT_STATUS.state d) = 3)) ∧
  (∀ (s : State) (valid atStep : Bool) (pattern stepLo : Nat), s.anyDieUp = true → valid = false ∨ (seqMode s ≠ 0 ∧ seqMode s ≠ 3) →
    pattern < 256 → stepLo < 2 ^ 32 → Does (.patNextWrite .steward valid atStep pattern stepLo) s fun t => t.pat =
    { s.pat with nextAt := s.gt.time } ∧ t.out = Out.answer .ok 0 0 :: s.out ∧ (∀ d, s.dieUp d = true → t.rd (R.PAT_NEXT.valid d) = b2n
    valid ∧ t.rd (R.PAT_NEXT.at_step d) = b2n atStep ∧ t.rd (R.PAT_NEXT.pattern d) = pattern ∧ t.rd (R.PAT_NEXT_STEP.step_lo d) =
    stepLo) ∧ RegsBut [R.PAT_NEXT.valid 0, R.PAT_NEXT.valid 1, R.PAT_NEXT.at_step 0, R.PAT_NEXT.at_step 1, R.PAT_NEXT.pattern 0,
    R.PAT_NEXT.pattern 1, R.PAT_NEXT_STEP.step_lo 0, R.PAT_NEXT_STEP.step_lo 1] s t) ∧
  (∀ (s : State) (atStep : Bool) (pattern stepLo : Nat), s.anyDieUp = true → seqMode s = 0 ∨ seqMode s = 3 → pattern < 256 → stepLo < 2
    ^ 32 → refused s pattern = false → Does (.patNextWrite .steward true atStep pattern stepLo) s fun t => t.pat =
    { s.pat with nextAt := s.gt.time, forced := some (pattern, s.gt.time) } ∧ t.out = Out.answer .ok 0 0 :: s.out ∧ (∀ d, s.dieUp d =
    true → t.rd (R.PAT_NEXT.valid d) = 0 ∧ t.rd (R.PAT_NEXT.pattern d) = pattern)) ∧
  (∀ (s : State) (n at_ : Nat) (p : Pattern), s.pat.forced = some (n, at_) → at_ < s.gt.time → tfind s.pat.lib n = some p → Does
    (.forcedStepMark) s fun t => t.cad.lastStamp = s.gt.time ∧ t.cad.phase = 0 ∧ t.cad.corr = 0 ∧ t.cad.held = false ∧ t.cad.stalled =
    false ∧ t.cad.started = true ∧ t.cad.markStamp = none ∧ t.cad.takes = [] ∧ t.sdc.marks = s.sdc.marks + 1 ∧ t.pat.announce = none ∧
    t.pat.flights = [] ∧ t.pat.msets = (activateSets s).pat.msets ∧ t.cad.step = nextStep s ∧ t.pat.active = some n ∧ t.pat.forced =
    none ∧ t.pat.takeUpAt = some (s.gt.time + 320) ∧ (∀ d, s.dieUp d = true → t.rd (R.PAT_STATUS.state d) = 1)) ∧
  (∀ (s : State) (set bitmap : Nat), s.anyDieUp = true → set < 64 → Does (.msetPendingWrite .steward set bitmap) s fun t => t =
    { s with pat := { s.pat with msets := tmod s.pat.msets set fun m => { m with pending := bitmap % 2 ^ 65536 } } }.answer .ok 0 0)

/-- Group time (R61, R62, R63, R69, R214, R220). A member sends TIME_REQUEST each 1 ms on its upstream port; a hub answers one with its
number, state and master and both stamps; a valid reply gives the offset and the delay by R61's equations and ends the count of missed
replies; a missing one on the only port is counted and ends the runs of R63; 10 ms without a valid reply is HOLDOVER at the last freq,
with the gauge held. -/
def Obligations.GroupTimeCommands : Prop :=
  (∀ (s : State), s.dieUp 0 = true → s.gt.state ≠ 4 → s.gt.lastSend + 1000000 ≤ s.gt.time → s.gt.secondary = false → s.portUp
    s.tree.primary = true → timePort s s.tree.primary = true → Does (.timeRequestSend) s fun t => t =
    { s with gt := { s.gt with sequence := (s.gt.sequence + 1) % 2 ^ 16, lastSend := s.gt.time, inFlight := tput s.gt.inFlight s.tree.primary (s.gt.time + Config.freeWord s.freeCtr % 32, (s.gt.sequence + 1) % 2 ^ 16) } }.drawFree.send
    (.control (8 + s.tree.primary) 0x20 ((s.gt.sequence + 1) % 2 ^ 16) [s.tree.hub])) ∧
  (∀ (s : State) (port sequence hub ns turn : Nat), s.portUp port = true → timePort s port = true → Does (.timeRequest port sequence hub
    ⟨⟨false, ns⟩, turn⟩) s fun t => t = s.send (.control (8 + port) 0x21 sequence [s.tree.hub + s.gt.state * 2 ^ 18, s.tree.master, bits
    (s.gt.time + ns) 31 0, bits (s.gt.time + ns) 63 32, bits (s.gt.time + ns + turn) 31 0, bits (s.gt.time + ns + turn) 63 32])) ∧
  (∀ (s : State) (port sequence hub up master t2 t3 t1 ns : Nat), s.dieUp 0 = true → timePort s port = true → tfind s.gt.inFlight port =
    some (t1, sequence) → s.gt.time + ns ≤ t1 + 100000 → master = s.tree.master → upstreamAllowed s.gt.state up = true → port =
    upstreamPort s → Does (.timeReply port sequence hub up master t2 t3 ⟨false, ns⟩) s fun t => t.gt.offset = (((t1 : Int) - t2) +
    (((s.gt.time + ns : Nat) : Int) - t3)) * 4 - toSigned 32 (s.rd (R.LNK_ASYM.asym (port / 4) (port % 4))) ∧ t.gt.delay = ((((s.gt.time
    + ns : Nat) : Int) - t1) - ((t3 : Int) - t2)) * 4 ∧ t.gt.missed = 0 ∧ (s.gt.state = 0 ∨ t.gt.lastValid = s.gt.time) ∧ tfind
    t.gt.inFlight port = none ∧ RegsBut recordFields s t) ∧
  (∀ (s : State) (port t1 q : Nat), s.dieUp 0 = true → tfind s.gt.inFlight port = some (t1, q) → t1 + 100000 ≤ s.gt.time → port =
    upstreamPort s → s.tree.secondaryValid = false → Does (.timeReplyMissed port) s fun t => t =
    { s with gt := { s.gt with inFlight := tdel s.gt.inFlight port, lockRun := 0, lockedRun := 0, holdRun := 0, rate := if s.gt.state = 3 then s.gt.freq else s.gt.rate, missed := s.gt.missed + 1 } }) ∧
  (∀ (s : State), s.gt.state = 1 ∨ s.gt.state = 2 → s.gt.lastValid + 10000000 ≤ s.gt.time → s.dieUp 0 = true → Does (.gtHoldover) s fun
    t => t.gt.state = 3 ∧ t.gt.rate = s.gt.freq ∧ t.gt.holdStart = s.gt.time ∧ t.pwr.gaugeHeld = true ∧ RegsBut recordFields s t)

/-- The rows of the pattern (R78, R79, R80, R82, R84, R101, R102). A row whose checks pass and whose conditions hold triggers, and the
next of its list is looked at after it: a row without work completes at once, END ends the list, a SHARE row sets its die's shares, a
FENCE row waits, and any other goes into flight with its words and trigger time; a row that fails its store's check stops the list. A
collective, fused or digest row forms its results once its inputs have arrived; the rows of each kind complete, leave flight and are noted
as done; the FENCE rows of both dies of one number complete together 64 ns after the later one, on both dies; a row past its limit
completes and is counted. -/
def Obligations.RowsTriggerAndComplete : Prop :=
  (∀ (s : State) (d : Nat) (p : Sys2Proof.Pattern) (ws : List Nat), s.activePattern = some p → s.dieUp d = true → s.rd
    (R.PAT_STATUS.state d) = 1 → usesDie p d = true → (tget s.pat.seqs d).ended = false → s.pat.forced = none → s.cad.markStamp = none →
    (tget s.pat.seqs d).startAt ≤ s.gt.time → s.pat.staging = [] → s.pat.blocked = [] → (rowsOf p d)[(tget s.pat.seqs d).next]? = some
    ws → rowKind ws ≠ 9 → completesAtTrigger s d ws = true → malformedReason s p ws (tget s.pat.seqs d).next s.img.profiles.length false
    = none → rowReady s p d (tget s.pat.seqs d).next ws = true → Does (.rowTrigger d 0) s fun t => (tget t.pat.seqs d).next = (tget
    s.pat.seqs d).next + 1 ∧ (tget t.pat.seqs d).ended = decide (rowKind ws = 0xB) ∧ (tget t.pat.seqs d).done.testBit (tget s.pat.seqs
    d).next = true ∧ (rowKind ws = 0xA → tget t.mem.shares d = (rowField ws 4 7 0, rowField ws 4 15 8))) ∧
  (∀ (s : State) (d : Nat) (p : Sys2Proof.Pattern) (ws : List Nat), s.activePattern = some p → s.dieUp d = true → s.rd
    (R.PAT_STATUS.state d) = 1 → usesDie p d = true → (tget s.pat.seqs d).ended = false → s.pat.forced = none → s.cad.markStamp = none →
    (tget s.pat.seqs d).startAt ≤ s.gt.time → s.pat.staging = [] → s.pat.blocked = [] → (rowsOf p d)[(tget s.pat.seqs d).next]? = some
    ws → rowKind ws ≠ 9 → completesAtTrigger s d ws = false → flightOf s d (tget s.pat.seqs d).next = none → malformedReason s p ws
    (tget s.pat.seqs d).next s.img.profiles.length false = none → rowReady s p d (tget s.pat.seqs d).next ws = true → Does (.rowTrigger
    d 0) s fun t => (tget t.pat.seqs d).next = (tget s.pat.seqs d).next + 1 ∧ (tget t.pat.seqs d).done.testBit (tget s.pat.seqs d).next
    = (tget s.pat.seqs d).done.testBit (tget s.pat.seqs d).next ∧ ((flightOf t d (tget s.pat.seqs d).next).any fun (f : Flight) =>
    f.words == ws && f.trigAt == s.gt.time) = true) ∧
  (∀ (s : State) (d : Nat) (p : Sys2Proof.Pattern) (ws : List Nat), s.activePattern = some p → s.dieUp d = true → s.rd
    (R.PAT_STATUS.state d) = 1 → usesDie p d = true → (tget s.pat.seqs d).ended = false → s.pat.forced = none → s.cad.markStamp = none →
    (tget s.pat.seqs d).startAt ≤ s.gt.time → s.pat.staging = [] → s.pat.blocked = [] → (rowsOf p d)[(tget s.pat.seqs d).next]? = some
    ws → rowKind ws = 9 → ((fencePartner p d (tget s.pat.seqs d).next).all fun (r : List Nat × Nat) => rowField r.1 4 15 0 == rowField
    ws 4 15 0) = true → malformedReason s p ws (tget s.pat.seqs d).next s.img.profiles.length false = none → rowReady s p d (tget
    s.pat.seqs d).next ws = true → Does (.rowTrigger d 0) s fun t => (tget t.pat.seqs d).next = (tget s.pat.seqs d).next + 1 ∧ (tget
    t.pat.seqs d).fences = (tget s.pat.seqs d).fences ++
    [({ row := (tget s.pat.seqs d).next, number := rowField ws 4 15 0, at_ := s.gt.time } : FenceRow)]) ∧
  (∀ (s : State) (d : Nat) (p : Sys2Proof.Pattern) (ws : List Nat), s.activePattern = some p → s.dieUp d = true → s.rd
    (R.PAT_STATUS.state d) = 1 → usesDie p d = true → (tget s.pat.seqs d).ended = false → s.pat.forced = none → s.cad.markStamp = none →
    (tget s.pat.seqs d).startAt ≤ s.gt.time → s.pat.staging = [] → s.pat.blocked = [] → (rowsOf p d)[(tget s.pat.seqs d).next]? = some
    ws → Does (.rowTrigger d 1) s fun t => t.rd (R.PAT_STATUS.state d) = 2 ∧ (tget t.pat.seqs d).next = (tget s.pat.seqs d).next) ∧
  (∀ (s : State) (i j n a b : Nat) (p : Sys2Proof.Pattern) (w0 w1 : List Nat), (tget s.pat.seqs 0).fences =
    [({ row := i, number := n, at_ := a } : FenceRow)] → (tget s.pat.seqs 1).fences = [({ row := j, number := n, at_ := b } : FenceRow)]
    → s.activePattern = some p → max a b + 64 ≤ s.gt.time → fencePartner p 0 i = some (w1, j) → fencePartner p 1 j = some (w0, i) → Does
    (.fenceComplete) s fun t => (tget t.pat.seqs 0).done.testBit i = true ∧ (tget t.pat.seqs 1).done.testBit j = true ∧ waitingFences t
    0 = [] ∧ waitingFences t 1 = [] ∧ t.rd (R.PAT_FENCE.last_met 0) = n ∧ t.rd (R.PAT_FENCE.last_met 1) = n ∧ RegsBut
    [R.PAT_FENCE.last_met 0, R.PAT_FENCE.last_met 1] s t) ∧
  (∀ (s : State) (die row : Nat) (residue : List Nat) (fl : Flight), flightOf s die row = some fl → rowKind fl.words = 2 → fl.written =
    false → inputsArrived s fl = true → Does (.collectiveComplete die row residue) s fun t => ((flightOf t die row).all fun (f : Flight)
    => f.written) = true) ∧
  (∀ (s : State) (die row : Nat) (residue : List Nat) (fl : Flight), flightOf s die row = some fl → rowKind fl.words = 2 → fl.written =
    true → allDone s fl = true → Does (.collectiveComplete die row residue) s fun t => (tget t.pat.seqs die).done.testBit row = true ∧
    flightOf t die row = none) ∧
  (∀ (s : State) (die row : Nat) (bad residue : List Nat) (fl : Flight), flightOf s die row = some fl → rowKind fl.words = 3 → Does
    (.arrayComplete die row bad residue) s fun t => (tget t.pat.seqs die).done.testBit row = true ∧ flightOf t die row = none) ∧
  (∀ (s : State) (die row : Nat) (bad : List Nat) (fl : Flight), flightOf s die row = some fl → rowKind fl.words = 4 → Does
    (.sliceComplete die row bad) s fun t => (tget t.pat.seqs die).done.testBit row = true ∧ flightOf t die row = none) ∧
  (∀ (s : State) (die row : Nat) (residue : List Nat) (fl : Flight), flightOf s die row = some fl → rowKind fl.words = 5 → fl.written =
    false → fl.shard.isSome = true → inputsArrived s fl = true → Does (.fusedComplete die row residue) s fun t => ((flightOf t die
    row).all fun (f : Flight) => f.written) = true) ∧
  (∀ (s : State) (die row : Nat) (residue : List Nat) (fl : Flight), flightOf s die row = some fl → rowKind fl.words = 5 → fl.written =
    true → allDone s fl = true → Does (.fusedComplete die row residue) s fun t => (tget t.pat.seqs die).done.testBit row = true ∧
    flightOf t die row = none) ∧
  (∀ (s : State) (die row : Nat) (fl : Flight), flightOf s die row = some fl → rowKind fl.words = 6 → fl.written = false → inputsArrived
    s fl = true → Does (.digestComplete die row) s fun t => ((flightOf t die row).all fun (f : Flight) => f.written) = true) ∧
  (∀ (s : State) (die row : Nat) (fl : Flight), flightOf s die row = some fl → rowKind fl.words = 6 → fl.written = true → allDone s fl =
    true → inputsArrived s fl = true → Does (.digestComplete die row) s fun t => (tget t.pat.seqs die).done.testBit row = true ∧
    flightOf t die row = none) ∧
  (∀ (s : State) (die row : Nat) (others : List Nat) (fl : Flight), flightOf s die row = some fl → rowKind fl.words = 8 → Does
    (.gaugeResult die row others) s fun t => (tget t.pat.seqs die).done.testBit row = true ∧ flightOf t die row = none) ∧
  (∀ (s : State) (die row : Nat) (fl : Flight), die < 2 → flightOf s die row = some fl → fl.limit ≠ 0 → fl.trigAt + fl.limit ≤ s.gt.time
    → Does (.rowLimitExpire die row) s fun t => (tget t.pat.seqs die).done.testBit row = true ∧ flightOf t die row = none ∧ t.rd
    (R.PAT_LIMIT_COUNT.c die).cnt ≠ 0)

/-- Planned traffic and the descriptors (R89, R90, R99, R100, R118, R120, R209). A planned line with further hops goes on at the port its
path names with one hop fewer, and is counted; one for a row in flight on this hub joins it. A contribution of a current row joins it; an
acknowledgement leaves the row's list. The take-up after a step mark swaps the dirty bitmap with zero, installs a staged descriptor that
passes R90 with its generation advanced, and keeps the old one, counted and recorded, for one that does not; it is made once. A restart
abandons the rows in flight and accepts the pending pattern. -/
def Obligations.PlannedTrafficCommands : Prop :=
  (∀ (s : State) (at_ : Nat), s.pat.takeUpAt = some at_ → at_ ≤ s.gt.time → s.anyDieUp = true → stageBase s = 0 → Does
    (.descriptorTakeUp none) s fun t => t = { s with pat := { s.pat with takeUpAt := none } }) ∧
  (∀ (s : State) (at_ base i v : Nat), s.pat.takeUpAt = some at_ → at_ ≤ s.gt.time → s.anyDieUp = true → stageBase s = base → 0 < base →
    base + 131584 ≤ 2 ^ 46 → base % 256 = 0 → inPool (base + 131072 + 8 * (i / 64)) = true → i < 4096 → ∀ w ∈ List.range 64, poolNumber
    s (base + 131072 + 8 * w) 8 = some (if w = i / 64 then 2 ^ (i % 64) else 0) → poolNumber s (base + 32 * i) 32 = some v → rejectCause
    (descOf s i) (some (decodeDesc v)) = none → Does (.descriptorTakeUp none) s fun t => t.pat.takeUpAt = none ∧ t.pat.descs = tput
    s.pat.descs i { decodeDesc v with generation := ((descOf s i).generation + 1) % 65536 } ∧ poolNumber t (base + 131072 + 8 * (i /
    64)) 8 = some 0 ∧ RegsBut [(R.PAT_DESC_TAKEN.c (leadDie s)).cnt, (R.PAT_DESC_TAKEN.c (leadDie s)).ovf] s t) ∧
  (∀ (s : State) (at_ base i v cause : Nat), s.pat.takeUpAt = some at_ → at_ ≤ s.gt.time → s.anyDieUp = true → stageBase s = base → 0 <
    base → base + 131584 ≤ 2 ^ 46 → base % 256 = 0 → inPool (base + 131072 + 8 * (i / 64)) = true → i < 4096 → ∀ w ∈ List.range 64,
    poolNumber s (base + 131072 + 8 * w) 8 = some (if w = i / 64 then 2 ^ (i % 64) else 0) → poolNumber s (base + 32 * i) 32 = some v →
    rejectCause (descOf s i) (some (decodeDesc v)) = some cause → Does (.descriptorTakeUp none) s fun t => t.pat.takeUpAt = none ∧
    t.pat.descs = s.pat.descs ∧ poolNumber t (base + 131072 + 8 * (i / 64)) 8 = some 0 ∧ t.rd (R.PAT_STATUS.desc_reject (leadDie s)) = 1
    ∧ Recorded s t (seqUnitOf (leadDie s)) 0 0x08 2 (atByte 0 4 + atByte 1 cause + atByte 2 i + atByte 8 (decodeDesc v).base)) ∧
  (∀ (s : State), s.anyDieUp = true → s.on (R.PAT_NEXT.valid (leadDie s)) = true → seqMode s = 1 ∨ seqMode s = 2 → refused s (s.rd
    (R.PAT_NEXT.pattern (leadDie s))) = false → Does (.patternRestart .steward) s fun t => t.pat.forced = some (s.rd (R.PAT_NEXT.pattern
    (leadDie s)), s.gt.time) ∧ t.cad.markStamp = none ∧ t.pat.flights = [] ∧ (tget t.pat.seqs 0).fences = [] ∧ (tget t.pat.seqs
    1).fences = [] ∧ t.on (R.PAT_NEXT.valid (leadDie s)) = false ∧ t.out.head? = some (Out.answer .ok 0 0)) ∧
  (∀ (s : State) (port : Nat) (tag : RowTag) (data : Option (List Nat)) (check : MemCheck) (hops path : Nat), portPlanned s port = true
    → 0 < hops → portPlanned s (path % 8) = true → Does (.plannedFlitArrive port tag data check hops path) s fun t => leaves (.planned
    (path % 8) tag (hops - 1) (path / 8) data) s t = true ∧ t.pat = s.pat ∧ RegsBut [R.COL_TRANSIT_LO.count (port / 4),
    R.COL_TRANSIT_HI.count (port / 4)] s t) ∧
  (∀ (s : State) (port : Nat) (tag : RowTag) (data : Option (List Nat)) (path : Nat) (fl : Flight), portPlanned s port = true →
    s.pat.staging = [] → s.pat.blocked = [] → tag.die < 2 → s.dieUp tag.die = true → flightOf s tag.die tag.row = some fl → tagCurrent s
    tag = true → fl.written = false → fl.remote = [] → Does (.plannedFlitArrive port tag data .clean 0 path) s fun t => ((flightOf t
    tag.die tag.row).any fun (f : Flight) => f.remote == [(tag.strand, tag.stage, tag.line, data)] && f.lines == fl.lines) = true) ∧
  (∀ (s : State) (slot : Nat) (tag : RowTag) (data : Option (List Nat)) (fl : Flight), slot < 8 → s.linkState slot = 3 → flightOf s
    tag.die tag.row = some fl → tagCurrent s tag = true → s.pat.active = some tag.pattern → fl.written = false → fl.lost.testBit slot =
    false → fl.lines = [] → Does (.pdata slot tag data) s fun t => ((flightOf t tag.die tag.row).any fun (f : Flight) => f.lines ==
    [(slot, lineKey tag.stage tag.line, data)] && f.remote == fl.remote) = true ∧ RegsBut [(R.ARR_SATURATE.c tag.die).cnt,
    (R.ARR_SATURATE.c tag.die).ovf, (R.ARR_NAN_OUT.c tag.die).cnt, (R.ARR_NAN_OUT.c tag.die).ovf] s t) ∧
  (∀ (s : State) (slot : Nat) (tag : RowTag) (fl : Flight), slot < 8 → s.linkState slot = 3 → flightOf s tag.die tag.row = some fl →
    tagCurrent s tag = true → fl.written = true → Does (.pack slot tag) s fun t => t = modFlight s tag.die tag.row fun f =>
    { f with unacked := f.unacked.eraseP fun (u : Nat × Nat × Nat) => u.1 == slot && u.2.1 == lineKey tag.stage tag.line })

/-- The entry of the open operations (R170, R185, R190, R193, R195). Each of READ, WRITE, WRITE_MASKED, READ_BULK, WRITE_BULK, SWAP, CAS,
FETCH_ADD, FETCH_AND, FETCH_OR, FETCH_XOR, FETCH_MIN, FETCH_MAX, FETCH_UMIN, FETCH_UMAX and FENCE for this hub that passes the checks on
entry waits at the end of its queue with the next identifier, stamped by the link it entered; the pools are unchanged and nothing is
answered yet. One that fails a check is answered with what the check found. One that only passes through, from another hub to another,
goes on at the port of its open path with the requester kept, and takes no queue. -/
def Obligations.OpenRequestsQueue : Prop :=
  ∀ (c : Instr) (r : OpenReq) (s : State), openEntry c = some r → r.hdr.link < 16 → s.linkState r.hdr.link = 3 →
    (passesThrough s r = false → entryCheck s { r with src := stampOf s r.hdr } = none → Does c s fun t =>
      tget t.mem.waiting r.hdr.queue =
        tget s.mem.waiting r.hdr.queue ++ [{ id := s.mem.nextId, req := { r with src := stampOf s r.hdr }, at_ := s.gt.time }] ∧
      t.mem.nextId = s.mem.nextId + 1 ∧ t.mem.pool = s.mem.pool ∧ t.mem.ctxs = s.mem.ctxs ∧ t.out = s.out) ∧
    (∀ a, passesThrough s r = false → entryCheck s { r with src := stampOf s r.hdr } = some a → Does c s fun t =>
      leaves (.openAnswer r.hdr.link r.hdr.tag a []
        (if a = .retry then s.rd (R.MEM_OPEN_CFG.retry_hint (s.servingDie r)) else 0) false) s t = true ∧
      t.mem.waiting = s.mem.waiting ∧ t.mem.pool = s.mem.pool) ∧
    (∀ p, passesThrough s r = true → addressOk s { r with src := stampOf s r.hdr } = true →
      s.openPath (r.hdr.addr / 2 ^ 46) = some p → s.portUp p.egress = true → p.egress < 8 → s.mem.crossing = [] →
      Does c s fun t => t.mem.waiting = s.mem.waiting ∧ t.mem.pool = s.mem.pool ∧ t.mem.nextId = s.mem.nextId + 1 ∧
        t.mem.transit = s.mem.transit ++ [{ id := s.mem.nextId
                                            req := { r with src := stampOf s r.hdr }
                                            die := linkDie r.hdr.link
                                            at_ := s.gt.time
                                            link := some (8 + p.egress) }] ∧
        (t.mem.crossing = [] → leaves (.openForward (8 + p.egress) s.mem.nextId { r with src := stampOf s r.hdr }) s t = true))

/-- The contexts of open traffic (R176, R191, R194, R199, R208). The chosen head of a queue takes a context and is forwarded where its
target is an accelerator or another hub; a response from an accelerator or a remote hub answers its requester and frees the context; a
dispatched read that times out is answered RETRY; MEM_OPEN_CFG in range is set on the running dies. -/
def Obligations.OpenContextCommands : Prop :=
  (∀ (s : State) (d q : Nat) (turn : Nat × Bool) (deficit : Tab Nat) (w : Waiting) (rest : List Waiting), d < 2 → s.carries d = true →
    s.mem.crossing = [] → dieCtxCount s d < 8192 → nextQueue s d = some (q, turn, deficit) → tget s.mem.waiting q = w :: rest →
    dispatchLink s w.req = none → Does (.openDispatch d) s fun t => t.mem.ctxs = s.mem.ctxs ++
    [({ id := w.id, req := w.req, die := d, at_ := w.at_, link := none } : Context)] ∧ tget t.mem.waiting q = rest ∧ t.mem.pool =
    s.mem.pool ∧ t.out = s.out) ∧
  (∀ (s : State) (d q l : Nat) (turn : Nat × Bool) (deficit : Tab Nat) (w : Waiting) (rest : List Waiting), d < 2 → s.carries d = true →
    s.mem.crossing = [] → dieCtxCount s d < 8192 → nextQueue s d = some (q, turn, deficit) → tget s.mem.waiting q = w :: rest →
    dispatchLink s w.req = some l → l < 8 → windowTarget s w.req l = none → s.linkState l = 3 → Does (.openDispatch d) s fun t =>
    t.mem.ctxs = s.mem.ctxs ++ [({ id := w.id, req := w.req, die := d, at_ := w.at_, link := some l } : Context)] ∧ tget t.mem.waiting q
    = rest ∧ t.mem.pool = s.mem.pool ∧ leaves (.openForward l w.id w.req) s t = true) ∧
  (∀ (s : State) (id hint l : Nat) (resp : Resp) (data : List Nat) (c : Context), ctxOf s id = some c → c.link = some l → l < 8 → Does
    (.accOpenResponse id resp data hint) s fun t => responds s t c.req resp data hint false = true ∧ ctxOf t id = none ∧ t.mem.pool =
    s.mem.pool) ∧
  (∀ (s : State) (id hint l : Nat) (resp : Resp) (data : List Nat) (unknown : Bool) (c : Context), ctxOf s id = some c → c.link = some l
    → 8 ≤ l → Does (.response id resp data hint unknown) s fun t => responds s t c.req resp data hint unknown = true ∧ ctxOf t id = none
    ∧ t.mem.pool = s.mem.pool) ∧
  (∀ (s : State) (id : Nat) (c : Context), ctxOf s id = some c → c.req.op = OpenOp.read → c.die < 2 → c.at_ + s.rd
    (R.MEM_OPEN_CFG.timeout c.die) * 100000 ≤ s.gt.time → s.procUp (queueProc c.req.hdr.queue) = true → Does (.openTimeout id) s fun t
    => responds s t c.req .retry [] (s.rd (R.MEM_OPEN_CFG.retry_hint (s.servingDie c.req))) false = true ∧ ctxOf t id = none ∧ t.rd
    (R.MEM_STATUS.timeout c.die) = 1 ∧ t.mem.pool = s.mem.pool) ∧
  (∀ (s : State) (die timeout hint : Nat), s.dieUp die = true → 1 ≤ timeout ∧ timeout ≤ 1000 → 1 ≤ hint ∧ hint ≤ 1000 → Does
    (.memOpenCfgWrite .steward die timeout hint) s fun t => (∀ d, s.dieUp d = true → t.rd (R.MEM_OPEN_CFG.timeout d) = timeout ∧ t.rd
    (R.MEM_OPEN_CFG.retry_hint d) = hint) ∧ t.rd (R.MEM_OPEN_CFG.timeout die) = timeout ∧ t.out = Out.answer .ok 0 0 :: s.out ∧ RegsBut
    [R.MEM_OPEN_CFG.timeout 0, R.MEM_OPEN_CFG.retry_hint 0, R.MEM_OPEN_CFG.timeout 1, R.MEM_OPEN_CFG.retry_hint 1] s t)

/-- A read performed at its home port (R174, R178, R179, R196). OPEN_PERFORMED of a READ or READ_BULK that the pools can perform answers
OK with exactly the bytes stored at its address, frees the context and leaves every pool byte as it was; of a FENCE with nothing earlier
pending it answers OK; of a READ of the telemetry window that the guards allow it answers the bytes of the snapshot. -/
def Obligations.PoolReadsPerformed : Prop :=
  (∀ (s : State) (id : Nat) (c : Context), ctxOf s id = some c → PoolReady s c → opClass c.req.op = 0 →
    Does (.openPerformed id .clean) s fun t =>
      responds s t c.req .ok (Memory.readBytes s.mem.pool (c.req.hdr.addr % 2 ^ 46) c.req.hdr.size) 0 false = true ∧
      ctxOf t id = none ∧ SamePool s t) ∧
  (∀ (s : State) (id : Nat) (c : Context), ctxOf s id = some c → c.link = none → c.req.op = .fence → earlierPending s id c.req = false →
    Does (.openPerformed id .clean) s fun t =>
      responds s t c.req .ok [] 0 false = true ∧ ctxOf t id = none ∧ SamePool s t) ∧
  (∀ (s : State) (id : Nat) (c : Context), ctxOf s id = some c → c.link = none → c.req.op = .read → heldByOrder s c = false →
    regionOf (c.req.hdr.addr % 2 ^ 46) = .telemetry → guardAllows s c.req.src (c.req.hdr.addr % 2 ^ 46) 0 = true →
    Does (.openPerformed id .clean) s fun t =>
      responds s t c.req .ok ((List.range c.req.hdr.size).map fun i => snapByte s (c.req.hdr.addr % 2 ^ 46 - 0x300000000000 + i)) 0 false = true ∧
      ctxOf t id = none ∧ SamePool s t)

/-- A write performed at its home port (R174, R178). OPEN_PERFORMED of a WRITE or WRITE_BULK that the pools can perform stores its data at
its address, byte by byte in ascending order, and no other pool byte changes; of a WRITE_MASKED of a line it stores the bytes whose mask
bit is 1, and no other pool byte changes. Each is answered OK. -/
def Obligations.PoolWritesPerformed : Prop :=
  (∀ (s : State) (id : Nat) (c : Context), ctxOf s id = some c → PoolReady s c → c.req.op = .write ∨ c.req.op = .writeBulk →
    c.req.data.length = c.req.hdr.size → Memory.wf s.mem.pool = true →
    Does (.openPerformed id .clean) s fun t =>
      ctxOf t id = none ∧
      (∀ x, Memory.read t.mem.pool x =
        if c.req.hdr.addr % 2 ^ 46 ≤ x ∧ x < c.req.hdr.addr % 2 ^ 46 + c.req.hdr.size
        then BitVec.ofNat 8 (c.req.data.getD (x - c.req.hdr.addr % 2 ^ 46) 0) else Memory.read s.mem.pool x) ∧
      responds s t c.req .ok [] 0 false = true) ∧
  (∀ (s : State) (id : Nat) (c : Context), ctxOf s id = some c → PoolReady s c → c.req.op = .writeMasked → c.req.hdr.addr % 256 = 0 →
    c.req.hdr.size = 256 → c.req.data.length = 256 → Memory.wf s.mem.pool = true →
    Does (.openPerformed id .clean) s fun t =>
      ctxOf t id = none ∧
      (∀ x, Memory.read t.mem.pool x =
        if c.req.hdr.addr % 2 ^ 46 ≤ x ∧ x < c.req.hdr.addr % 2 ^ 46 + 256 ∧ c.req.mask.testBit (x - c.req.hdr.addr % 2 ^ 46) = true
        then BitVec.ofNat 8 (c.req.data.getD (x - c.req.hdr.addr % 2 ^ 46) 0) else Memory.read s.mem.pool x) ∧
      responds s t c.req .ok [] 0 false = true)

/-- An atomic performed at its home port (R174, R178). OPEN_PERFORMED of an atomic that the pools can perform answers the old value,
stores what the operation gives for the old value, its operand and its compare value, and changes no other pool byte. -/
def Obligations.PoolAtomicsPerformed : Prop :=
  ∀ (s : State) (id : Nat) (c : Context), ctxOf s id = some c → PoolReady s c → opClass c.req.op = 2 → Memory.wf s.mem.pool = true →
    Does (.openPerformed id .clean) s fun t =>
      ctxOf t id = none ∧
      responds s t c.req .ok (Memory.readBytes s.mem.pool (c.req.hdr.addr % 2 ^ 46) c.req.hdr.size) 0 false = true ∧
      Memory.readBytes t.mem.pool (c.req.hdr.addr % 2 ^ 46) c.req.hdr.size =
        bytesOf c.req.hdr.size (atomicResult c.req.op c.req.hdr.size
          (ofBytes (Memory.readBytes s.mem.pool (c.req.hdr.addr % 2 ^ 46) c.req.hdr.size))
          (ofBytes (payload c.req c.req.hdr.size)) (ofBytes (c.req.compare.take c.req.hdr.size))) ∧
      ∀ x, x < c.req.hdr.addr % 2 ^ 46 ∨ c.req.hdr.addr % 2 ^ 46 + c.req.hdr.size ≤ x → Memory.read t.mem.pool x = Memory.read s.mem.pool x

/-- Error integrity and the snapshot (R196, R197, R317, R318, R319, R320, R327, R332, R335, R337). A corrected line is written back; a
scrub read moves the progress and leaves data alone; an uncorrectable line found by the scrubber is counted, marked POISON and recorded;
two reports that differ in one item are one cross-check failure, a good one ends the count, and 10 ms of silence is a failure of item 3;
the end of retraining ends containment; a wiped region reads as zero with no marks; a release of the latch drops it. A snapshot, its
sequence number two higher, is written once in each millisecond of group time while a die runs, and of the warden's time while none does.
-/
def Obligations.IntegrityAndTelemetry : Prop :=
  (∀ (s : State) (line : Nat), Does (.correctionWriteback line) s fun t => t.mem.writeback = s.mem.writeback.filter (fun (p : Nat × Nat)
    => p.1 != line) ∧ t.mem.pool = s.mem.pool ∧ t.regs = s.regs) ∧
  (∀ (s : State) (line : Nat), s.on R.ERR_CFG.scrub_en = true → inPool (line * 256) = true → s.dieUp (homeOf (line * 256)).die = true →
    line * 256 + 256 < 0x203200000000 → Does (.scrubRead line .clean) s fun t => t.rd R.ERR_SCRUB_STATUS.hbm = (line * 256 + 256 -
    0x200000000000) * 100 / 0x3200000000 ∧ t.mem = s.mem ∧ t.itg = s.itg) ∧
  (∀ (s : State) (line symbols first : Nat), s.on R.ERR_CFG.scrub_en = true → inPool (line * 256) = true → s.dieUp (homeOf (line *
    256)).die = true → s.mem.isMarked line = false → Does (.scrubRead line (.uncorrectable symbols first)) s fun t => t.mem.isMarked
    line = true ∧ t.rd R.ERR_STATUS.ue = 1 ∧ t.mem.pool = s.mem.pool ∧ t.out = s.out) ∧
  (∀ (s : State) (step gauge d0 d1 : Nat), s.anyDieUp = true → s.on R.ERR_CFG.cross_en = true → s.rd R.PWR_GAUGE.gauge = gauge → s.rd
    (R.PWR_DOMAIN_H.on 0) = d0 → s.rd (R.PWR_DOMAIN_H.on 1) = d1 → s.cad.step = step → Does (.crossCheckReport step gauge d0 d1) s fun t
    => t.itg.crossBad = 0 ∧ t.itg.reportAt = s.now ∧ t.regs = s.regs) ∧
  (∀ (s : State) (step gauge d0 d1 : Nat), s.anyDieUp = true → s.on R.ERR_CFG.cross_en = true → s.rd R.PWR_GAUGE.gauge ≠ gauge →
    s.itg.crossBad = 1 → s.itg.crossItem = 0 → Does (.crossCheckReport step gauge d0 d1) s fun t => t.rd R.ERR_STATUS.cross = 1 ∧
    Recorded s t (if s.dieUp 0 = true then 0x10C0 else 0x20C0) 0 0x13 3 (s.rd R.PWR_GAUGE.gauge % 2 ^ 32 * 2 ^ 32 + gauge % 2 ^ 32 * 2 ^
    64) ∧ RegsBut (R.ERR_CROSS_COUNT.c.cnt :: R.ERR_CROSS_COUNT.c.ovf :: R.ERR_STATUS.cross :: recordFields) s t) ∧
  (∀ (s : State), s.anyDieUp = true → s.on R.ERR_CFG.cross_en = true → s.itg.crossFailed = false → max s.itg.reportAt (tget s.sup.dies
    (reportDie s)).releasedAt + 10000 ≤ s.now → Does (.crossCheckMissing) s fun t => t.itg.crossFailed = true ∧ t.rd R.ERR_STATUS.cross
    = 1 ∧ Recorded s t (if s.dieUp 0 = true then 0x10C0 else 0x20C0) 0 0x13 3 3) ∧
  (∀ (s : State), s.anyDieUp = true → s.itg.selfRefresh ≠ 0 → s.itg.containAt.isSome = true → ((List.range 16).any (linkComing s)) =
    false → Does (.memoryRetrainComplete) s fun t => t.itg.selfRefresh = 0 ∧ t.itg.containAt = none ∧ t.rd R.ERR_STATUS.containing = 0 ∧
    RegsBut [R.ERR_STATUS.containing] s t) ∧
  (∀ (s : State) (p : Nat), s.itg.partitionsResetting.testBit p = true → s.anyDieUp = true → Does (.partitionWipeComplete p) s fun t =>
    t.itg.partitionsResetting.testBit p = false ∧ (∀ off, partitionAllows s p off 1 = true → Memory.read t.mem.pool off = 0) ∧ (∀ off,
    partitionAllows s p off 1 = false → Memory.read t.mem.pool off = Memory.read s.mem.pool off) ∧ (∀ line, partitionAllows s p (line *
    256) 1 = true → t.mem.isMarked line = false)) ∧
  (∀ (s : State), Does (.hubLatchRelease .steward) s fun t => t = (s.wr R.ERR_STATUS.hub_latched 0).answer .ok 0 0) ∧
  (∀ (s : State), s.anyDieUp = true → s.mem.snapAt ≠ s.gt.time / 1000000 + 1 → Does (.telemetryRefresh) s fun t => t.mem.snapCount =
    (s.mem.snapCount + 1) % 2 ^ 64 ∧ t.mem.snapSeq = (s.mem.snapSeq + 2) % 2 ^ 64 ∧ t.mem.snapAt = s.gt.time / 1000000 + 1 ∧
    t.mem.snapshot = fullSnapshot
    { s with mem := { s.mem with snapSeq := (s.mem.snapSeq + 2) % 2 ^ 64, snapCount := (s.mem.snapCount + 1) % 2 ^ 64, snapAt := s.gt.time / 1000000 + 1 } }
    ∧ t.regs = s.regs ∧ t.mem.pool = s.mem.pool) ∧
  (∀ (s : State), s.anyDieUp = false → s.sup.wardenOn = true → s.mem.snapAt ≠ s.now / 1000 + 1 → Does (.wardenSnapshot) s fun t =>
    t.mem.snapAt = s.now / 1000 + 1 ∧ t.mem.snapSeq = (s.mem.snapSeq + 2) % 2 ^ 64 ∧ t.mem.snapshot = wardenOnly
    { s with mem := { s.mem with snapSeq := (s.mem.snapSeq + 2) % 2 ^ 64, snapAt := s.now / 1000 + 1 } } ∧ t.mem.snapCount =
    s.mem.snapCount ∧ t.regs = s.regs)

/-- The states of a link (R201, R215, R216, R217, R220). An UP link that loses signal or hears nothing for 10 µs goes DOWN, or LATCHED at
its fourth entry within 600 s; DOWN ends after 100 ms; a ready peer starts training, whose steps follow one another to UP, and one past
its limit, lanes in another order than straight or reversed, or a peer that is not the configured one take the link DOWN. -/
def Obligations.LinkStateCommands : Prop :=
  (∀ (s : State) (l lane : Nat), l < 16 → s.linkState l = 3 → lane < 16 → Does (.laneSignalLoss l lane) s fun t => (t.linkState l = (if
    3 ≤ ((tget s.lnk.links l).downs.filter (fun (x : Nat) => s.now < x + 600000000)).length then 5 else 4)) ∧ t.rd (R.LNK_STATE.cause
    (linkDie l) (linkIdx l)) = 1 ∧ (tget t.lnk.links l).downAt = s.now ∧ t.rd (R.LNK_STATE.lane (linkDie l) (linkIdx l)) = lane) ∧
  (∀ (s : State) (l : Nat), l < 16 → s.linkState l = 3 → (tget s.lnk.links l).lastFlit + 10 ≤ s.now → Does (.linkSilenceTimeout l) s fun
    t => (t.linkState l = (if 3 ≤ ((tget s.lnk.links l).downs.filter (fun (x : Nat) => s.now < x + 600000000)).length then 5 else 4)) ∧
    t.rd (R.LNK_STATE.cause (linkDie l) (linkIdx l)) = 4 ∧ (tget t.lnk.links l).downAt = s.now) ∧
  (∀ (s : State) (l : Nat), l < 16 → s.linkState l = 4 → (tget s.lnk.links l).downAt + 100000 ≤ s.now → Does (.linkHoldoffExpire l) s
    fun t => t = s.setLinkState l 1) ∧
  (∀ (s : State) (l : Nat), l < 16 → s.linkState l = 1 → s.procUp (trainerOf l) = true → peerReady s l = true → Does (.linkTrainStart l)
    s fun t => t.linkState l = 2 ∧ t.rd (R.LNK_STATE.attempts (linkDie l) (linkIdx l)) = min 255 (s.rd (R.LNK_STATE.attempts (linkDie l)
    (linkIdx l)) + 1) ∧ (tget t.lnk.links l).trainStep = 1 ∧ (tget t.lnk.links l).trainAt = s.now ∧ RegsBut [R.LNK_STATE.attempts
    (linkDie l) (linkIdx l), R.LNK_STATE.state (linkDie l) (linkIdx l)] s t) ∧
  (∀ (s : State) (l polarity latTx latRx : Nat) (order : List Nat), l < 16 → s.linkState l = 2 → s.now ≤ (tget s.lnk.links l).stepAt +
    trainLimit (tget s.lnk.links l).trainStep → s.now ≤ (tget s.lnk.links l).trainAt + 500000 → (tget s.lnk.links l).trainStep < 6 →
    (tget s.lnk.links l).trainStep = 3 → order = List.range (linkLanes l) ∨ order = (List.range (linkLanes l)).reverse → Does
    (.trainStepComplete l ⟨order, polarity, latTx, latRx⟩) s fun t => (tget t.lnk.links l).trainStep = (if (tget s.lnk.links
    l).trainStep = 4 ∧ l < 8 then 7 else (tget s.lnk.links l).trainStep + 1) ∧ (tget t.lnk.links l).stepAt = s.now ∧ t.linkState l = 2 ∧
    ((tget s.lnk.links l).trainStep = 3 → t.rd (R.LNK_STATE.reversed (linkDie l) (linkIdx l)) = b2n (order != List.range (linkLanes l))
    ∧ (tget t.lnk.links l).polarity = polarity % 2 ^ linkLanes l) ∧ ((tget s.lnk.links l).trainStep = 5 → (tget t.lnk.links l).latTx =
    latTx ∧ (tget t.lnk.links l).latRx = latRx ∧ t.out = Out.control l 0x22 (l - 8 + 8) [s.tree.hub, latTx % 2 ^ 16 + 2 ^ 16 * (latRx %
    2 ^ 16), s.tree.master, 0] :: s.out)) ∧
  (∀ (s : State) (l polarity latTx latRx : Nat) (order : List Nat), l < 16 → s.linkState l = 2 → s.now ≤ (tget s.lnk.links l).stepAt +
    trainLimit 3 → s.now ≤ (tget s.lnk.links l).trainAt + 500000 → (tget s.lnk.links l).trainStep = 3 → order ≠ List.range (linkLanes l)
    → order ≠ (List.range (linkLanes l)).reverse → Does (.trainStepComplete l ⟨order, polarity, latTx, latRx⟩) s fun t => (t.linkState l
    = (if 3 ≤ ((tget s.lnk.links l).downs.filter (fun (x : Nat) => s.now < x + 600000000)).length then 5 else 4)) ∧ t.rd
    (R.LNK_STATE.cause (linkDie l) (linkIdx l)) = 8 ∧ (tget t.lnk.links l).downAt = s.now) ∧
  (∀ (s : State) (l polarity latTx latRx : Nat) (order : List Nat), l < 16 → s.linkState l = 2 → s.now ≤ (tget s.lnk.links l).stepAt +
    trainLimit 7 → s.now ≤ (tget s.lnk.links l).trainAt + 500000 → (tget s.lnk.links l).trainStep = 7 → Does (.trainStepComplete l
    ⟨order, polarity, latTx, latRx⟩) s fun t => t.linkState l = 3 ∧ (tget t.lnk.links l).upAt = s.now ∧ (tget t.lnk.links l).txSeq = 0 ∧
    (tget t.lnk.links l).rxSeq = 0 ∧ (tget t.lnk.links l).store = [] ∧ (tget t.lnk.links l).credit = [(0, if l < 8 then 1024 else 2048),
    (1, 512), (2, 512)] ∧ t.rd (R.LNK_STATE.attempts (linkDie l) (linkIdx l)) = 0 ∧ t.pat.admitted = s.pat.admitted) ∧
  (∀ (s : State) (l : Nat), l < 16 → s.linkState l = 2 → (tget s.lnk.links l).stepAt + trainLimit (tget s.lnk.links l).trainStep < s.now
    ∨ (tget s.lnk.links l).trainAt + 500000 < s.now → Does (.trainTimeout l) s fun t => (t.linkState l = (if 3 ≤ ((tget s.lnk.links
    l).downs.filter (fun (x : Nat) => s.now < x + 600000000)).length then 5 else 4)) ∧ t.rd (R.LNK_STATE.cause (linkDie l) (linkIdx l))
    = 8 ∧ (tget t.lnk.links l).downAt = s.now) ∧
  (∀ (s : State) (port hub peerPort kind txPeer rxPeer master spare word4 : Nat), port < 8 → s.linkState (8 + port) = 2 → (tget
    s.lnk.links (8 + port)).trainStep = 6 → hub = (tget s.img.ports port).peerHub → peerPort = (tget s.img.ports port).peerPort → (port
    = 7 ∧ s.hostPortMode = true ∧ kind = 2) ∨ (¬ (port = 7 ∧ s.hostPortMode = true) ∧ kind = 1 ∧ master = s.tree.master) → hub < 2 ^ 18
    → peerPort < 8 → Does (.peerId port hub peerPort kind txPeer rxPeer master spare word4) s fun t => (tget t.lnk.links (8 +
    port)).trainStep = 7 ∧ t.rd (R.LNK_ASYM.asym (port / 4) (port % 4)) = ofSigned 32 ((((txPeer : Int) + (tget s.lnk.links (8 +
    port)).latRx) - (((tget s.lnk.links (8 + port)).latTx : Int) + rxPeer)) / 2) % 2 ^ 32 ∧ t.linkState (8 + port) = 2 ∧ t.rd
    (R.LNK_PEER.hub (port / 4) (4 + port % 4)) = hub ∧ t.rd (R.LNK_PEER.port (port / 4) (4 + port % 4)) = peerPort ∧ t.rd
    (R.LNK_PEER.kind (port / 4) (4 + port % 4)) = kind) ∧
  (∀ (s : State) (port hub peerPort kind txPeer rxPeer master spare word4 l : Nat), l = 8 + port → port < 8 → s.linkState l = 2 → (tget
    s.lnk.links l).trainStep = 6 → kind ≠ (if port = 7 ∧ s.hostPortMode = true then 2 else 1) ∨ hub ≠ (tget s.img.ports port).peerHub ∨
    peerPort ≠ (tget s.img.ports port).peerPort → Does (.peerId port hub peerPort kind txPeer rxPeer master spare word4) s fun t =>
    (t.linkState l = (if 3 ≤ ((tget s.lnk.links l).downs.filter (fun (x : Nat) => s.now < x + 600000000)).length then 5 else 4)) ∧ t.rd
    (R.LNK_STATE.cause (linkDie l) (linkIdx l)) = 7 ∧ (tget t.lnk.links l).downAt = s.now)

/-- Flits, messages and registers of the links (R202, R203, R205, R210, R211, R212, R218, R221, R224). A flit next in sequence is accepted
and its fields taken; one with a wrong check is discarded; a quiet transmitter sends a zero flit; control messages do what they name;
management messages for this hub are delivered and others forwarded over the open path, and none is taken from an accelerator; LNK_CTRL
acts on the named links. -/
def Obligations.LinkMessageCommands : Prop :=
  (∀ (s : State) (l corrected : Nat) (flit : List Nat), l < 16 → s.linkState l = 3 → flitOk flit = true → (flitWord flit 0).testBit 30 =
    false → (flitWord flit 0).testBit 3 = false → bits (flitWord flit 0) 27 16 = (tget s.lnk.links l).rxSeq → (tget s.lnk.links
    l).nakSent = false ∨ (flitWord flit 0).testBit 31 = true → flitWord flit 1 = 0 → (tget s.lnk.links l).ctlPart = [] → tget (tget
    s.lnk.links l).pktPart (bits (flitWord flit 0) 29 28) = [] → ((List.range 47).all fun i => flitWord flit (2 + i) == 0) = true → Does
    (.flitReceive l flit true corrected) s fun t => t.linkState l = 3 ∧ (tget t.lnk.links l).rxSeq = ((tget s.lnk.links l).rxSeq + 1) %
    4096 ∧ (tget t.lnk.links l).nakSent = false ∧ (tget t.lnk.links l).lastFlit = s.now ∧ (ackStore (tget s.lnk.links l).store (bits
    (flitWord flit 0) 15 4)).isPrefixOf (tget t.lnk.links l).store = true ∧ t.mem.waiting = s.mem.waiting ∧ t.pat = s.pat) ∧
  (∀ (s : State) (l corrected : Nat) (flit : List Nat), l < 16 → s.linkState l = 3 → flitOk flit = false → Does (.flitReceive l flit
    true corrected) s fun t => t = (s.addWide (R.LNK_FEC_CORR_LO.count (linkDie l) (linkIdx l)) corrected).modLink l (fun k =>
    { k with nakSent := true })) ∧
  (∀ (s : State) (l : Nat), l < 16 → s.linkState l = 3 → (tget s.lnk.links l).lastSent + 2 ≤ s.now → (tget s.lnk.links l).store.length <
    2048 → Does (.keepaliveFlit l) s fun t => (tget t.lnk.links l).store.length = (tget s.lnk.links l).store.length + 1 ∧ ((tget
    t.lnk.links l).store.getLast?.map StoredFlit.seq) = some (tget s.lnk.links l).txSeq ∧ (tget t.lnk.links l).txSeq = ((tget
    s.lnk.links l).txSeq + 1) % 4096 ∧ (tget t.lnk.links l).lastSent = s.now ∧ (s.out.length < t.out.length) ∧ t.regs = s.regs) ∧
  (∀ (s : State) (slot angle watts duration tag lead : Nat), s.marksHeard slot = true → tag % 65536 = s.cad.step % 65536 → (s.slotPower
    slot).hints < 8 → s.procUp 1 = true → s.cad.stalled = false → lead = (if s.periodNs = 0 then 0 else s.rd R.PWR_RAMP_CFG.lead * 10000
    * 65536 / s.periodNs) → s.cad.angle < angle % 65536 - lead → s.pwr.hints = [] → Does (.hint slot angle watts duration tag) s fun t
    => (t.slotPower slot).hints = (s.slotPower slot).hints + 1 ∧ t.pwr.hints =
    [({ slot := slot, angle := angle % 65536, lead := angle % 65536 - lead, watts := watts, duration := duration } : HintWait)] ∧ t.regs
    = s.regs) ∧
  (∀ (s : State) (slot angle watts duration tag : Nat), s.marksHeard slot = true → tag % 65536 = s.cad.step % 65536 → (s.slotPower
    slot).hints < 8 → s.procUp 1 = false → Does (.hint slot angle watts duration tag) s fun t => t = s.modSlotPower slot (fun x =>
    { x with hints := x.hints + 1 })) ∧
  (∀ (s : State) (slot angle watts duration tag : Nat), s.marksHeard slot = true → tag % 65536 ≠ s.cad.step % 65536 ∨ 8 ≤ (s.slotPower
    slot).hints → Does (.hint slot angle watts duration tag) s fun t => t = s.bump R.PWR_HINT_DROP.c) ∧
  (∀ (s : State) (slot gauge tag : Nat) (slow : Bool) (counters : List Nat), slot < 8 → s.linkState slot = 3 → Does (.activity slot
    gauge slow tag counters) s fun t => (tget t.lnk.links slot).activityCount = min (2 ^ 32 - 1) ((tget s.lnk.links slot).activityCount
    + 1) ∧ (tget t.lnk.links slot).activityAt = s.now ∧ (tget t.lnk.links slot).activityLost = false ∧ (t.slotPower slot).counters =
    counters ∧ (t.slotPower slot).reported = gauge ∧ (t.slotPower slot).stamp = some s.gt.time) ∧
  (∀ (s : State) (slot : Nat), slot < 8 → s.linkState slot = 3 → (tget s.lnk.links slot).activityAt + 10 ≤ s.now → Does (.activityLost
    slot) s fun t => t = s.modLink slot (fun k => { k with activityLost := true })) ∧
  (∀ (s : State) (l hub tag : Nat) (payload : List Nat), l < 16 → 8 ≤ l → s.linkState l = 3 → mgmtLength payload = true → hub =
    s.tree.hub → Does (.mgmtReq l hub tag payload) s fun t => t = s.emit (Out.mgmtDelivered hub tag payload)) ∧
  (∀ (s : State) (l hub tag : Nat) (payload : List Nat) (p : OpenPath), 8 ≤ l → s.linkState l = 3 → mgmtLength payload = true → hub ≠
    s.tree.hub → s.openPath hub = some p → s.linkState (8 + p.egress) = 3 → s.mem.crossing = [] → (([(2 * l, 4 * (3 + payload.length)),
    (2 * (8 + p.egress) + 1, 4 * (3 + payload.length))] ++ bridgeCharges (linkDie l) (linkDie (8 + p.egress)) (4 * (3 + payload.length))
    0).all (hasTokens s)) = true → l < 16 → Does (.mgmtReq l hub tag payload) s fun t => leaves (.mgmtForward (8 + p.egress) true hub
    tag payload) s t = true ∧ t.regs = s.regs ∧ t.mem.pool = s.mem.pool) ∧
  (∀ (s : State) (l hub tag : Nat) (payload : List Nat), l < 8 → s.linkState l = 3 → mgmtLength payload = true → Does (.mgmtReq l hub
    tag payload) s fun t => t = s.bump (R.LNK_CTL_REJECT.c (linkDie l))) ∧
  (∀ (s : State) (l hub tag : Nat) (payload : List Nat), l < 16 → s.linkState l = 3 → mgmtLength payload = false → Does (.mgmtReq l hub
    tag payload) s fun t => (t.linkState l = (if 3 ≤ ((tget s.lnk.links l).downs.filter (fun (x : Nat) => s.now < x + 600000000)).length
    then 5 else 4)) ∧ t.rd (R.LNK_STATE.cause (linkDie l) (linkIdx l)) = 5 ∧ (tget t.lnk.links l).downAt = s.now) ∧
  (∀ (s : State) (l hub tag : Nat) (payload : List Nat) (p : OpenPath), 8 ≤ l → s.linkState l = 3 → mgmtLength payload = true → hub ≠
    s.tree.hub → s.openPath hub = some p → s.linkState (8 + p.egress) = 3 → s.mem.crossing = [] → (([(2 * l, 4 * (3 + payload.length)),
    (2 * (8 + p.egress) + 1, 4 * (3 + payload.length))] ++ bridgeCharges (linkDie l) (linkDie (8 + p.egress)) (4 * (3 + payload.length))
    0).all (hasTokens s)) = true → l < 16 → Does (.mgmtResp l hub tag payload) s fun t => leaves (.mgmtForward (8 + p.egress) false hub
    tag payload) s t = true ∧ t.regs = s.regs ∧ t.mem.pool = s.mem.pool) ∧
  (∀ (s : State) (l hub tag : Nat) (payload : List Nat), l < 8 → s.linkState l = 3 → mgmtLength payload = true → Does (.mgmtResp l hub
    tag payload) s fun t => t = s.bump (R.LNK_CTL_REJECT.c (linkDie l))) ∧
  (∀ (s : State) (l hub tag : Nat) (payload : List Nat), l < 16 → s.linkState l = 3 → mgmtLength payload = false → Does (.mgmtResp l hub
    tag payload) s fun t => (t.linkState l = (if 3 ≤ ((tget s.lnk.links l).downs.filter (fun (x : Nat) => s.now < x + 600000000)).length
    then 5 else 4)) ∧ t.rd (R.LNK_STATE.cause (linkDie l) (linkIdx l)) = 5 ∧ (tget t.lnk.links l).downAt = s.now) ∧
  (∀ (s : State) (slot : Nat), slot < 8 → s.procUp 0 = true → s.linkState slot = 3 → s.accAdmitted slot = false → s.on
    (R.LNK_CFG.auto_admit (slot / 4) (slot % 4)) = true → (tget s.lnk.links slot).upAt + s.rd (R.LNK_CFG.admit_delay (slot / 4) (slot %
    4)) * 100000 ≤ s.now → mayAdmit s slot = true → Does (.autoAdmit slot) s fun t => t =
    { s with pat := { s.pat with putAdmit := setBit s.pat.putAdmit slot true } }) ∧
  (∀ (s : State) (die mask : Nat), die < 2 → s.dieUp die = true → mask = 0 → Does (.linkRetrain .steward die mask) s fun t => t =
    s.answer .ok 0 0) ∧
  (∀ (s : State) (die mask i l : Nat), die < 2 → s.dieUp die = true → i < 8 → mask = 2 ^ i → l = linkOf die i → s.linkState l = 3 → Does
    (.linkRetrain .steward die mask) s fun t => (t.linkState l = (if 3 ≤ ((tget s.lnk.links l).downs.filter (fun (x : Nat) => s.now < x
    + 600000000)).length then 5 else 4)) ∧ t.rd (R.LNK_STATE.cause (linkDie l) (linkIdx l)) = 9 ∧ (tget t.lnk.links l).downAt = s.now ∧
    t.out.head? = some (Out.answer .ok 0 0)) ∧
  (∀ (s : State) (die mask i l : Nat), die < 2 → s.dieUp die = true → i < 8 → mask = 2 ^ i → l = linkOf die i → s.linkState l = 5 → Does
    (.linkClear .steward die mask) s fun t => t.linkState l = 1 ∧ (tget t.lnk.links l).downs = [] ∧ t.out = Out.answer .ok 0 0 :: s.out)

/-- Presence, identity memories and modules (R215, R219, R222, R252, R503). A slot becomes present once, and its LATCHED link returns to
WAIT; a valid identity memory gives the slot its coefficients and gauge table, a bad one only itself; the removal of a module or its fault
takes the UP link of its port DOWN. -/
def Obligations.IdentityAndModuleCommands : Prop :=
  (∀ (s : State) (slot : Nat), slot < 8 → s.accPresent slot = false → s.dieUp (slot / 4) = true → Does (.accPresent slot) s fun t =>
    t.accPresent slot = true ∧ ((shownLnk t (slot / 4) (32 * (slot % 4))).contains (8, 1)) = true ∧ t.linkState slot = (if s.linkState
    slot = 5 then 1 else s.linkState slot)) ∧
  (∀ (s : State) (slot : Nat) (bytes : List Nat) (mem : IdentityMem), slot < 8 → s.accPresent slot = true → s.procUp 0 = true → mem =
    decodeIdentity bytes → identityValid mem = true → Does (.identityRead slot bytes) s fun t => tget t.lnk.identity slot = mem ∧
    t.lnk.identityRead.testBit slot = true ∧ (t.slotPower slot).coeff = mem.coeff ∧ (t.slotPower slot).table = mem.gauge ∧ (unitKept t
    (128 + slot)).serial = mem.serial) ∧
  (∀ (s : State) (slot : Nat) (bytes : List Nat) (mem : IdentityMem), slot < 8 → s.accPresent slot = true → s.procUp 0 = true → mem =
    decodeIdentity bytes → identityValid mem = false → Does (.identityRead slot bytes) s fun t => t =
    { s with lnk := { s.lnk with identity := tput s.lnk.identity slot mem, identityRead := setBit s.lnk.identityRead slot true } }) ∧
  (∀ (s : State) (port l : Nat) (m : ModuleRead), l = 8 + port → port < 8 → (tget s.img.ports port).pluggable = true → s.procUp 0 = true
    → s.dieUp (port / 4) = true → (tget s.lnk.modules port).present = true → m.present = false → s.linkState l = 3 ∨ s.linkState l = 2 →
    Does (.modulePresencePoll port m) s fun t => (t.linkState l = (if 3 ≤ ((tget s.lnk.links l).downs.filter (fun (x : Nat) => s.now < x
    + 600000000)).length then 5 else 4)) ∧ t.rd (R.LNK_STATE.cause (linkDie l) (linkIdx l)) = 6 ∧ (tget t.lnk.links l).downAt = s.now ∧
    tget t.lnk.modules port = m ∧ t.rd (R.LNK_MODULE.present (port / 4) (port % 4)) = 0) ∧
  (∀ (s : State) (port l : Nat) (m : ModuleRead), l = 8 + port → port < 8 → (tget s.img.ports port).pluggable = true → s.procUp 0 = true
    → s.dieUp (port / 4) = true → (tget s.lnk.modules port).present = true → s.linkState l = 3 → m.fault = true → Does (.moduleFlagPoll
    port m) s fun t => (t.linkState l = (if 3 ≤ ((tget s.lnk.links l).downs.filter (fun (x : Nat) => s.now < x + 600000000)).length then
    5 else 4)) ∧ t.rd (R.LNK_STATE.cause (linkDie l) (linkIdx l)) = 6 ∧ (tget t.lnk.links l).downAt = s.now ∧ tget t.lnk.modules port =
    m)

/-- The orders of the rail sequencer (R228, R235, R239, R240, R242, R247). An order that its state does not allow is INVALID and does
nothing; an allowed one is answered OK and starts its sequence, or is held while a sequence runs. A tray bind-off holds the hubs and the
slots in reset before any rail drops. An order moves no enable itself. -/
def Obligations.SequencerOrders : Prop :=
  (∀ (s : State), trayOnAllowed s = false → Does (.trayCastOn .steward) s fun t => t = s.answer .invalid 0 0) ∧
  (∀ (s : State), trayOnAllowed s = true → s.seq.state = 0 → Does (.trayCastOn .steward) s fun t => t.seq.state = 1 ∧ t.seq.run.isSome =
    true ∨ t.seq.state = 2 ∧ t.seq.run = none ∧ t.seq.en = s.seq.en ∧ Out.answer .ok 0 0 ∈ t.out) ∧
  (∀ (s : State), trayOnAllowed s = true → s.seq.state = 4 → Does (.trayCastOn .steward) s fun t => t.seq.settle = some (s.now + 1000 *
    s.rd R.SEQ_CFG.input_settle) ∧ t.rd R.SEQ_HOLD.input_off = 0 ∧ t.seq.state = 4 ∧ t.out = Out.answer .ok 0 0 :: s.out) ∧
  (∀ (s : State), trayOnAllowed s = true → s.seq.state = 3 → Does (.trayCastOn .steward) s fun t => t = holdOrder (s.answer .ok 0 0)
    true true 0xFF) ∧
  (∀ (s : State), s.seq.state = 1 ∨ s.seq.state = 2 → Does (.trayBindOff .steward) s fun t => t.seq.state = 3 ∧ t.rd
    R.SEQ_HOLD.slot_reset = setUnion (s.rd R.SEQ_HOLD.slot_reset) 0xFF % 256 ∧ t.anyDieUp = false ∧ t.rd (R.PWR_DOMAIN_H.on 0) = 0 ∧
    t.rd (R.PWR_DOMAIN_H.on 1) = 0 ∧ (t.seq.run.any (fun (q : SeqRun) => q.kind == SeqKind.trayOff && q.at_ == s.now + 1000 && !
    q.acted)) = true ∧ t.seq.en = s.seq.en) ∧
  (∀ (s : State) (slots : Nat), slotsAllowed s = true → s.seq.run.isSome = true → slots % 256 ≠ 0 → Does (.slotCastOn .steward slots) s
    fun t => t = holdOrder (s.answer .ok 0 0) true false (slots % 256)) ∧
  (∀ (s : State) (slots : Nat), slotsAllowed s = true → s.seq.run = none → slots % 256 ≠ 0 → Does (.slotCastOn .steward slots) s fun t
    => t.seq.cut = setMinus s.seq.cut (slots % 256) ∧ t.seq.en = s.seq.en ∧ (t.seq.run.isSome = true → t.rd R.SEQ_STATUS.slot_seq = 1 ∧
    t.rd R.SEQ_STATUS.scope = slots % 256) ∧ Out.answer .ok 0 0 ∈ t.out) ∧
  (∀ (s : State) (slots : Nat), slotsAllowed s = false → Does (.slotCastOn .steward slots) s fun t => t = s.answer .invalid 0 0) ∧
  (∀ (s : State) (slots : Nat), slotsAllowed s = true → s.seq.run = none → slots % 256 ≠ 0 → Does (.slotBindOff .steward slots) s fun t
    => t.rd R.SEQ_HOLD.slot_reset = setUnion (s.rd R.SEQ_HOLD.slot_reset) (slots % 256) % 256 ∧ (t.seq.run.any (fun (q : SeqRun) =>
    q.kind == SeqKind.slotsOff && q.slots == slots % 256 && q.at_ == s.now + 1000 && ! q.acted)) = true ∧ t.seq.en = s.seq.en) ∧
  (∀ (s : State) (at_ : Nat), s.seq.settle = some at_ → at_ ≤ s.now → Does (.inputSettleExpire) s fun t => t.seq.settle = none ∧
    t.seq.state = 1 ∨ t.seq.state = 2 ∧ t.seq.en = s.seq.en)

/-- The progress of a sequence (R229, R230, R232, R233, R234, R236, R237, R241, R293). The enables of a cast-on group rise together and
those of a bind-off group drop together; a rail becomes good after its debounce, or is flagged at its timeout; a falling rail falls or is
flagged; a removed accelerator's rails are cut; resets are released for the slots that qualify. A change of RAIL_PG is noted; a low of a
good rail for more than 2 ms is a fault; a kiln trip sets its trip and sensor bits and stops its die. -/
def Obligations.SequencerProgress : Prop :=
  (∀ (s : State) (c : Nat) (high : Bool), c < 64 → s.seq.pg.testBit c = !high → Does (.railPgChange c high) s fun t => t.seq.pg = setBit
    s.seq.pg c high) ∧
  (∀ (s : State) (c at_ : Nat) (r : RailCfg), s.railOf c = some r → bindingOff s r = false → (tget s.seq.rails c).lowAt = some at_ →
    (tget s.seq.rails c).state = 2 → s.seq.pg.testBit c = false → (tget s.seq.rails c).faulted = false → at_ + 2000 < s.now → Does
    (.railFault c) s fun t => (tget t.seq.rails c).faulted = true ∧ t.seq.fault.testBit c = true) ∧
  (∀ (s : State) (d sensors : Nat), d < 2 → sensors % 4 ≠ 0 → kilnActive s d = false → Does (.kilnTrip d sensors) s fun t => kilnActive
    t d = true ∧ t.rd (if d = 0 then R.COOL_KILN.h0_sensor else R.COOL_KILN.h1_sensor) = sensors % 4 ∧ t.dieUp d = false) ∧
  (∀ (s : State) (q : SeqRun), s.seq.run = some q → q.acted = false → q.off = false → q.kind = SeqKind.trayOn ∨ q.kind = SeqKind.slotsOn
    → q.at_ ≤ s.now → q.current ≠ [] → (q.current.any (castResolved s false)) = false → Does (.castOnGroupEnable) s fun t => (∀ c,
    t.seq.en.testBit c = (s.seq.en.testBit c || q.current.contains c)) ∧ (∀ c ∈ q.current, (tget t.seq.rails c).state = 1 ∧ (tget
    t.seq.rails c).enableAt = s.now) ∧ t.seq.run = some { q with acted := true }) ∧
  (∀ (s : State) (c w : Nat) (r : RailCfg), s.railOf c = some r → (tget s.seq.rails c).window = some w → (tget s.seq.rails c).state = 1
    → w + r.debounce ≤ s.now → w + r.debounce ≤ (tget s.seq.rails c).enableAt + r.timeout → runWaits s c 2 = true → Does (.railGood c) s
    fun t => (tget t.seq.rails c).state = 2 ∧ (tget t.seq.rails c).rise = min 0xFFFF ((w + r.debounce - (tget s.seq.rails c).enableAt) /
    10) ∧ t.seq.good.testBit c = true ∧ t.seq.notGood.testBit c = false ∧ t.seq.en = s.seq.en) ∧
  (∀ (s : State) (c : Nat) (r : RailCfg), s.railOf c = some r → (tget s.seq.rails c).state = 1 → (tget s.seq.rails c).enableAt +
    r.timeout ≤ s.now → runWaits s c 3 = true → Does (.railNotGood c) s fun t => (tget t.seq.rails c).state = 3 ∧ t.seq.notGood.testBit
    r.channel = true ∧ t.seq.en.testBit c = (s.seq.en.testBit c && ! r.onFlag)) ∧
  (∀ (s : State) (q : SeqRun) (g : List Nat) (rest : List (List Nat)), s.seq.run = some q → q.acted = false → q.kind = SeqKind.trayOff ∨
    q.kind = SeqKind.slotsOff → q.at_ ≤ s.now → q.groups = g :: rest → (g.any (fun (c : Nat) => s.seq.en.testBit c)) = true → Does
    (.bindOffGroupDrop) s fun t => (∀ c, t.seq.en.testBit c = (s.seq.en.testBit c && ! g.contains c)) ∧ (∀ c ∈ g, s.seq.en.testBit c =
    true → (tget t.seq.rails c).state = 5 ∧ (tget t.seq.rails c).dropAt = s.now) ∧ t.seq.run = some
    { q with groups := rest, current := g.filter (fun (c : Nat) => s.seq.en.testBit c), acted := true }) ∧
  (∀ (s : State) (c mv : Nat), c < 64 → s.procUp 1 = true → Does (.railVoutRead c mv) s fun t => tget t.seq.vout c = mv % 65536 ∧ (tget
    t.seq.rails c).voutAt = some s.now ∧ t.regs = s.regs) ∧
  (∀ (s : State) (c : Nat) (r : RailCfg), s.railOf c = some r → (tget s.seq.rails c).state = 5 → railDown s r = true → runWaits s c 6 =
    true → Does (.railFallen c) s fun t => (tget t.seq.rails c).state = 6 ∧ t.seq.en = s.seq.en ∧ t.seq.notFallen = s.seq.notFallen) ∧
  (∀ (s : State) (c : Nat) (r : RailCfg), s.railOf c = some r → (tget s.seq.rails c).state = 5 → (tget s.seq.rails c).dropAt + r.timeout
    ≤ s.now → railDown s r = false → runWaits s c 7 = true → Does (.railNotFallen c) s fun t => (tget t.seq.rails c).state = 7 ∧
    t.seq.notFallen.testBit c = true ∧ t.seq.en = s.seq.en) ∧
  (∀ (s : State), Does (.perstRelease) s fun t => t.seq.perst = s.seq.perst.filter (fun (p : Nat × Nat) => s.now < p.1) ∧ t.rd
    R.SEQ_HOLD.slot_reset = setMinus (s.rd R.SEQ_HOLD.slot_reset) (perstSlots s ((s.seq.perst.filter (fun (p : Nat × Nat) => p.1 ≤
    s.now)).foldl (fun (w : Nat) (p : Nat × Nat) => setUnion w p.2) 0)) % 256 ∧ t.seq.en = s.seq.en) ∧
  (∀ (s : State) (slot : Nat), slot < 8 → s.accPresent slot = true → Does (.accRemoved slot) s fun t => t.accPresent slot = false ∧
    t.lnk.identityRead.testBit slot = false ∧ (∀ r ∈ s.img.rails, r.owner = slot → t.seq.en.testBit r.channel = false))

/-- The power estimates (R249, R250, R251, R257, R273, R274). k_s moves one eighth of the way to the regulators' reading, between 1/2 and
2; the auxiliary estimate moves one eighth of the way to what READ_PIN leaves; the tray estimate is the sum of the slots, the hub and the
auxiliary; the average is that of the last ten 100 µs; the hub's energy is divided among the partitions without loss. -/
def Obligations.PowerEstimates : Prop :=
  (∀ (s : State) (slot mw : Nat) (e : Rat), slot < 8 → s.procUp 1 = true → (s.slotPower slot).n ≠ 0 → e = (s.slotPower slot).sum /
    (s.slotPower slot).n → 50 ≤ e → Does (.ksCalibrate slot (some mw)) s fun t => (t.slotPower slot).k = max (1 / 2) (min 2
    ((s.slotPower slot).k + ((s.slotPower slot).k * ((mw : Rat) / 1000) / e - (s.slotPower slot).k) / 8)) ∧ (t.slotPower slot).n = 0 ∧
    (t.slotPower slot).sum = 0 ∧ RegsBut [R.PWR_ACC.scale slot] s t) ∧
  (∀ (s : State) (slot : Nat), slot < 8 → s.procUp 1 = true → Does (.ksCalibrate slot none) s fun t => (t.slotPower slot).k =
    (s.slotPower slot).k ∧ t.regs = s.regs) ∧
  (∀ (s : State) (mw : Nat), s.procUp 1 = true → Does (.auxUpdate (some mw)) s fun t => t.pwr.aux = s.pwr.aux + (max (s.rd
    R.PWR_SHARE_CFG.aux_min : Rat) ((mw : Rat) / 1000 - sumW ((List.range 8).map (slotNow s)) - hubNow s) - s.pwr.aux) / 8 ∧ RegsBut
    [R.PWR_TRAY_EST.aux] s t) ∧
  (∀ (s : State), Does (.trayEstimate) s fun t => t.pwr.acc.n = s.pwr.acc.n + 1 ∧ t.pwr.acc.tray = s.pwr.acc.tray + sumW ((List.range
    8).map (slotNow s)) + hubNow s + s.pwr.aux ∧ t.pwr.acc.hub = s.pwr.acc.hub + hubNow s ∧ t.rd R.PWR_HUB.estimate = shownW 10 (hubNow
    s)) ∧
  (∀ (s : State), s.pwr.acc.n ≠ 0 → Does (.averageRefresh) s fun t => t.pwr.acc = ({} : PowerBucket) ∧ t.pwr.buckets = (s.pwr.acc ::
    s.pwr.buckets).take 10 ∧ t.pwr.trayAvg = bucketSum ((s.pwr.acc :: s.pwr.buckets).take 10) PowerBucket.tray / ((total (((s.pwr.acc ::
    s.pwr.buckets).take 10).map PowerBucket.n) : Nat) : Rat)) ∧
  (∀ (s : State), s.procUp 1 = true → Does (.hubAllowance) s fun t => t = s.wr R.PWR_HUB.allowance (allowanceOf s)) ∧
  (∀ (s : State), tget s.pwr.partBytes 0 ≠ 0 → Does (.energyAttribute) s fun t => t.pwr.hubEnergy = s.pwr.hubEnergy - wholeW
    s.pwr.hubEnergy ∧ t.pwr.partBytes = [] ∧ sumW t.pwr.partHub = (wholeW s.pwr.hubEnergy : Rat) / 1000 ∧ t.regs = s.regs)

/-- Caps, throttling and duties (R265, R266, R267, R268, R269, R270, R271, R272). An excess that lasts its hold is throttled once; each
further millisecond over the tray's cap lowers a slot's cap duty by one eighth; what cannot be met is reported; the guard steps down while
the Power processor is out; duties rise one eighth a slow period; ramps shape a rise of load. -/
def Obligations.ThrottlingCommands : Prop :=
  (∀ (s : State) (at_ : Nat), s.procUp 1 = true → trayOver s = true → tfind s.pwr.excess 8 = some at_ → at_ + 1000 * s.rd
    R.PWR_THROTTLE_CFG.hold ≤ s.now → s.pwr.throttled.testBit 8 = false → Does (.throttleHoldExpire) s fun t => t.pwr.throttled =
    ofMembers (exceeded s) ∧ t.pwr.dutyAt = s.now ∧ (∀ i ∈ List.range 8, t.duty i ≤ s.duty i)) ∧
  (∀ (s : State) (slot : Nat), s.procUp 1 = true → s.pwr.dutyAt + 1000 ≤ s.now → trayOver s = true → overFor1ms s 8 = true → slot < 8 →
    s.accPresent slot = true → 1 < (s.slotPower slot).capDuty ∧ (s.slotPower slot).capDuty < 8 → Does (.capDutyStep) s fun t =>
    (t.slotPower slot).capDuty = (s.slotPower slot).capDuty - 1 ∧ t.pwr.dutyAt = s.now ∧ tfind t.pwr.belowSince slot = none) ∧
  (∀ (s : State), s.procUp 1 = true → trayOver s = true → s.presentSlots ≠ [] → s.pwr.dutyAt + 1000 ≤ s.now → (s.presentSlots.all (fun
    (i : Nat) => (s.slotPower i).capDuty == 1)) = true → s.pwr.unmetAt = none → Does (.capUnmet) s fun t => t.pwr.unmetAt = some s.now ∧
    t.rd R.PWR_STATUS.unmet = 1 ∧ t.rd R.PWR_UNMET.shortfall = min 0xFFFF (max 1 (wholeW (s.pwr.trayAvg - (s.rd R.PWR_CAP_EFF.cap :
    Rat)))) ∧ RegsBut [R.PWR_UNMET_COUNT.c.cnt, R.PWR_UNMET_COUNT.c.ovf, R.PWR_STATUS.unmet, R.PWR_STATUS.unmet_seen,
    R.PWR_UNMET.shortfall] s t) ∧
  (∀ (s : State) (slot at_ : Nat), s.rd (R.FW_PROC.state 1) = 2 ∨ s.rd (R.FW_PROC.state 1) = 3 → s.pwr.guardAt + 1000 ≤ s.now → trayOver
    s = true → s.pwr.guardExcess = some at_ → at_ + 1000 * s.rd R.PWR_THROTTLE_CFG.hold ≤ s.now → slot < 8 → s.accPresent slot = true →
    Does (.guardDutyStep) s fun t => (t.slotPower slot).guardDuty = max 1 ((s.slotPower slot).guardDuty - 1) ∧ t.pwr.guardAt = s.now) ∧
  (∀ (s : State), s.pwr.slowAt + 10 * s.rd R.PWR_THROTTLE_CFG.slow_period ≤ s.now → (∀ i ∈ List.range 8, wantedDuty s i ≤ 8) → Does
    (.slowPeriod) s fun t => (∀ i ∈ List.range 8, t.duty i = min (s.duty i + 1) (wantedDuty s i)) ∧ t.pwr.slowAt = s.now) ∧
  (∀ (s : State), s.cad.stalled = false → s.pwr.hints = [] → Does (.powerReleaseWrites) s fun t => t.pwr.releases =
    s.pwr.releases.filter (fun (r : Nat × Nat) => s.cad.angle < r.2) ∧ t.regs = s.regs) ∧
  (∀ (s : State) (w : RampWindow), s.pwr.ramp = some w → s.groupNow < w.endAt → s.cad.stalled = false → w.c + (w.slope : Rat) / 500 + 50
    < sumW ((List.range 8).map (slotNow s)) → Does (.rampLimiterTick) s fun t => t.pwr.ramp = some
    { w with c := w.c + (w.slope : Rat) / 500 } ∧ t.pwr.dRamp = max 1 (s.pwr.dRamp - 1) ∧ t.pwr.rampAt = s.groupNow) ∧
  (∀ (s : State) (w : RampWindow), s.pwr.ramp = some w → w.endAt ≤ s.groupNow → Does (.rampWindowEnd) s fun t => t.pwr.ramp = none ∧
    t.pwr.rampAt = s.groupNow ∧ t.pwr.dRamp = s.pwr.dRamp) ∧
  (∀ (s : State), s.pwr.ramp = none → s.pwr.dRamp < 8 → s.pwr.rampAt + 10000 ≤ s.groupNow → Does (.rampWindowEnd) s fun t => t.pwr.dRamp
    = s.pwr.dRamp + 1 ∧ t.pwr.rampAt = s.groupNow)

/-- The gauge and the core voltages (R253, R254, R264). The gauge announced for this application comes into force; after a cut the lower
voltages are written 50 µs later; a read-back within 10 mV confirms a level; a reported gauge that still differs is recorded once. -/
def Obligations.GaugeAndVoltage : Prop :=
  (∀ (s : State) (at_ g : Nat), s.pwr.applyAt = some (at_, g) → at_ ≤ s.groupNow → g < 64 → Does (.gaugeApply) s fun t => t.gauge = g ∧
    t.pwr.applyAt = none ∧ t.pwr.appliedAt = s.groupNow ∧ t.pwr.cutAt = (if g < s.gauge then some (s.groupNow + 50000) else s.pwr.cutAt)
    ∧ (∀ i ∈ List.range 8, t.duty i ≤ s.duty i)) ∧
  (∀ (s : State) (at_ : Nat), s.pwr.cutAt = some at_ → at_ ≤ s.groupNow → s.procUp 1 = true → Does (.voltageCutWrite) s fun t =>
    t.pwr.cutAt = none ∧ (∀ i ∈ s.admittedSlots, (t.slotPower i).want = some s.gauge) ∧ t.regs = s.regs) ∧
  (∀ (s : State) (slot mv l : Nat), (s.slotPower slot).want = some l → s.procUp 1 = true → mv ≤ (s.entryAt slot l).v + 10 → (s.entryAt
    slot l).v ≤ mv + 10 → Does (.voltageConfirm slot mv) s fun t => (t.slotPower slot).confirmed = some l ∧ (s.gauge ≤ l →
    t.pwr.slowHold.testBit slot = false) ∧ RegsBut [R.PWR_STATUS.lagging] s t) ∧
  (∀ (s : State) (slot : Nat), (s.slotPower slot).stamp.isSome = true → (s.slotPower slot).differs = true → (s.slotPower
    slot).mismatchNoted = false → s.pwr.appliedAt + 100000 < s.groupNow → Does (.gaugeMismatch slot) s fun t => (t.slotPower
    slot).mismatchNoted = true ∧ Recorded s t (0x3000 + slot) 0 0x0B 2 ((atByte 0 3 + atByte 1 (s.slotPower slot).reported + atByte 2
    s.gauge) % 2 ^ 128) ∧ RegsBut recordFields s t)

/-- The readings of the cooling plant (R278, R279, R280, R282, R287, R289, R291, R292). A good reading is shown; the third failed read in
a row stands in for it; a thermistor outside its range is failed; the surrogate steps at each tick; the floor input, the thermal ceiling
and a die's throttle factor follow the readings. -/
def Obligations.CoolingReadings : Prop :=
  (∀ (s : State) (slot v : Nat), slot < 8 → s.procUp 2 = true → slotOn s slot = true → Does (.accTempRead slot (some v)) s fun t => t.rd
    (R.COOL_ACC.temp slot) = v % 65536 ∧ t.rd (R.COOL_ACC.read_fail slot) = 0 ∧ RegsBut [R.COOL_ACC.temp slot, R.COOL_ACC.read_fail
    slot] s t) ∧
  (∀ (s : State) (slot : Nat), slot < 8 → s.procUp 2 = true → slotOn s slot = true → tget s.cool.readFails slot = 2 → predictedTemp s
    slot = none → Does (.accTempRead slot none) s fun t => t.rd (R.COOL_ACC.temp slot) = ofSigned 16 (s.rdSigned (R.COOL_ACC.temp slot)
    + 16) % 65536 ∧ t.rd (R.COOL_ACC.read_fail slot) = 1) ∧
  (∀ (s : State) (n v : Nat), n < 16 → tempFitted s n = true → toSigned 16 v < -320 ∨ 1200 < toSigned 16 v → Does (.thermistorSample n
    v) s fun t => t.rd (R.COOL_TEMP.value n) = v % 65536 ∧ t.rd (R.COOL_TEMP.failed n) = 1 ∧ RegsBut [R.COOL_TEMP.value n,
    R.COOL_TEMP.failed n] s t) ∧
  (∀ (s : State) (n v : Nat), n < 16 → tempFitted s n = true → -320 ≤ toSigned 16 v ∧ toSigned 16 v ≤ 1200 → s.on (R.COOL_TEMP.failed n)
    = false → Does (.thermistorSample n v) s fun t => t = s.wr (R.COOL_TEMP.value n) (v % 65536)) ∧
  (∀ (s : State) (flows presses : List Nat), Does (.surrogateTick flows presses) s fun t => (∀ n ∈ List.range 8,
    s.img.plant.flows.testBit n = true → t.rd (R.COOL_FLOW.value n) = min 65535 (flows.getD n 0)) ∧ (s.img.surrogate.isSome = true ∧
    s.on R.PWR_DOMAIN_W.w0_on = true → t.cool.ticks = s.cool.ticks + 1) ∧ (s.img.surrogate = none → t.cool.ticks = s.cool.ticks)) ∧
  (∀ (s : State), s.on R.COOL_STATUS.implausible = true → s.cool.implausibleAt + 600000000 ≤ s.now → Does (.modelResume) s fun t => t.rd
    R.COOL_STATUS.implausible = 0 ∧ t.cool = s.cool) ∧
  (∀ (s : State), Does (.floorTick) s fun t => t.cool.f = floorInput s ∧ (∀ n ∈ List.range 8, t.rd (R.COOL_VALVE.command n) = valvePin t
    n % 256) ∧ t.cool.valveCmd = s.cool.valveCmd ∧ t.cool.fanCmd = s.cool.fanCmd) ∧
  (∀ (s : State) (slot : Nat) (v : Int), s.procUp 2 = true → s.admittedSlots = [slot] → s.on R.COOL_STATUS.no_pump = false → v =
    s.rdSigned (R.COOL_ACC.temp slot) - 8 * (s.rd (R.COOL_ACC.target slot) : Int) → Does (.thermalCeiling) s fun t => t.rd
    R.COOL_THERMAL.ceiling = (if v ≤ 0 then 63 else s.gauge - (v / 4).toNat) % 64 ∧ t.rd R.COOL_THERMAL.slot = slot % 8 ∧ RegsBut
    [R.COOL_THERMAL.ceiling, R.COOL_THERMAL.slot, R.COOL_THERMAL.excess] s t) ∧
  (∀ (s : State), s.procUp 2 = true → s.admittedSlots = [] → Does (.thermalCeiling) s fun t => t = s.wr R.COOL_THERMAL.ceiling (if s.on
    R.COOL_STATUS.no_pump = true then 0 else 63)) ∧
  (∀ (s : State) (d i n : Nat) (temps : List Nat) (v : Int), s.dieUp d = true → hottest (temps.take 48) = some (i, v) → n = nextExcess
    (8 * (s.img.plant.hubTarget : Int)) v (s.rd (if d = 0 then R.COOL_HUB_THR.h0_excess else R.COOL_HUB_THR.h1_excess)) → Does
    (.hubThermalThrottle d temps) s fun t => t.rd (if d = 0 then R.COOL_HUB_THR.h0_excess else R.COOL_HUB_THR.h1_excess) = n ∧ t.rd (if
    d = 0 then R.COOL_HUB_THR.h0_factor else R.COOL_HUB_THR.h1_factor) = 100 - 5 * n ∧ t.rd (if d = 0 then R.MON_DTS_H0.index else
    R.MON_DTS_H1.index) = i ∧ (tfind t.cool.overSince d).isSome = decide (840 < v)) ∧
  (∀ (s : State) (d at_ : Nat), tfind s.cool.overSince d = some at_ → s.dieUp d = true → at_ + 1000000 ≤ s.now →
    s.cool.overNoted.testBit d = false → Does (.overJunction d) s fun t => t.rd R.COOL_STATUS.over_junction = 1 ∧
    t.cool.overNoted.testBit d = true ∧ Recorded s t (0x1000 * (d + 1) + 0x70 + s.rd (if d = 0 then R.MON_DTS_H0.index else
    R.MON_DTS_H1.index)) 0 0x0C 3 0)

/-- Valves, pumps and fans (R283, R285, R286, R294, R295, R296, R297, R298, R299, R300, R311). In TABLE mode the actuators take the row
that the floor input reaches; a fan starts, stalls, is kicked and fails; a slow pump fails; a valve that disagrees for 2 s is flagged and
opened; a THERMTRIP cuts the slot's rails and opens its valve for 60 s; COOL_CLEAR starts what it clears. -/
def Obligations.CoolingActuators : Prop :=
  (∀ (s : State), wantedMode s = 1 → Does (.valveControl) s fun t => t.rd R.COOL_STATUS.mode = 1 ∧ (∀ n ∈ List.range 8, tgetD
    t.cool.valveCmd n 100 = (coolRowAt s s.cool.f).valve) ∧ (∀ n ∈ List.range 8, t.rd (R.COOL_VALVE.command n) = valvePin t n % 256)) ∧
  (∀ (s : State) (q : Surrogate), wantedMode s = 0 → s.img.surrogate = some q → s.rd R.COOL_STATUS.mode = 0 → Does (.valveControl) s fun
    t => t.rd R.COOL_STATUS.mode = 0 ∧ t.cool.valveCmd = (List.range 8).foldl (fun (v : Tab Nat) (n : Nat) => tput v n (if s.on
    (R.COOL_VALVE.flagged n) = true then 100 else leastCost (valveCost { s with cool := { s.cool with valveCmd := v } } q n)
    (valveCandidates (s.rd (R.COOL_VALVE.position n))))) s.cool.valveCmd) ∧
  (∀ (s : State), wantedMode s = 2 → Does (.valveControl) s fun t => t.rd R.COOL_STATUS.mode = 2 ∧ t.cool.valveCmd = s.cool.valveCmd) ∧
  (∀ (s : State), wantedMode s = 1 → Does (.pumpFanControl) s fun t => t.cool.pumpCmd = (coolRowAt s s.cool.f).pump ∧ t.cool.fanCmd =
    (coolRowAt s s.cool.f).fan ∧ t.cool.integral = s.cool.integral) ∧
  (∀ (s : State), wantedMode s = 0 → Does (.pumpFanControl) s fun t => t.cool.integral = s.cool.integral + ((s.img.plant.setpoint : Int)
    - ((s.rd (R.COOL_PRESS.kpa 0) : Int) - (s.rd (R.COOL_PRESS.kpa 1) : Int))) ∧ (30 ≤ t.cool.pumpCmd ∧ t.cool.pumpCmd ≤ 100) ∧
    t.cool.fanCmd = residualFan s (residualHeat s)) ∧
  (∀ (s : State) (n at_ : Nat), n < 8 → (tget s.cool.fans n).startAt = some at_ → at_ + 4000000 ≤ s.now → (tget s.cool.fans n).kicking =
    false → Does (.fanStartTimeout n false) s fun t => t.rd (R.COOL_FAN.state n) = 3 ∧ t.rd (R.COOL_FAN.reason n) = 1 ∧ (tget
    t.cool.fans n).startAt = none ∧ (tget t.cool.fans n).kickAt = s.now) ∧
  (∀ (s : State) (n at_ : Nat), n < 8 → (tget s.cool.fans n).startAt = some at_ → Does (.fanStartTimeout n true) s fun t => t.rd
    (R.COOL_FAN.state n) = 1 ∧ t.rd (R.COOL_FAN.present n) = 1 ∧ (tget t.cool.fans n).startAt = none) ∧
  (∀ (s : State) (n : Nat), n < 8 → fanState s n = 3 → (tget s.cool.fans n).kicking = false → (tget s.cool.fans n).kickAt + 30000000 ≤
    s.now → s.rd (R.COOL_FAN.kicks n) < 5 → Does (.fanKick n false) s fun t => t.rd (R.COOL_FAN.kicks n) = s.rd (R.COOL_FAN.kicks n) + 1
    ∧ (tget t.cool.fans n).startAt = some s.now ∧ (tget t.cool.fans n).kicking = true ∧ (tget t.cool.fans n).kickAt = s.now ∧ fanState t
    n = 3) ∧
  (∀ (s : State) (n : Nat), n < 8 → fanState s n = 3 → (tget s.cool.fans n).kicking = false → (tget s.cool.fans n).kickAt + 30000000 ≤
    s.now → s.rd (R.COOL_FAN.kicks n) < 5 → Does (.fanKick n true) s fun t => t.rd (R.COOL_FAN.kicks n) = s.rd (R.COOL_FAN.kicks n) + 1
    ∧ (tget t.cool.fans n).startAt = none ∧ (tget t.cool.fans n).kicking = false ∧ (tget t.cool.fans n).kickAt = s.now ∧ fanState t n =
    1) ∧
  (∀ (s : State) (n at_ : Nat), n < 8 → (tget s.cool.fans n).startAt = some at_ → at_ + 4000000 ≤ s.now → (tget s.cool.fans n).kicking =
    true → 5 ≤ s.rd (R.COOL_FAN.kicks n) → Does (.fanStartTimeout n false) s fun t => fanState t n = 4 ∧ t.rd (R.COOL_FAN.reason n) = 1
    ∧ (tget t.cool.fans n).kicking = false ∧ Recorded s t (0x7000 + n) 0 0x0C 3 0) ∧
  (∀ (s : State) (n : Nat) (rpm current pumpRpm : List Nat), n < 8 → fanFitted s n = true → fanState s n = 1 → rpm.getD n 0 = 0 → 20 ≤
    s.rd (R.COOL_FAN.duty n) → (tget s.cool.fans n).missed = 2 → (∀ i ∈ List.range 8, i ≠ n → 0 < rpm.getD i 0) → Does (.tachWindow rpm
    current pumpRpm) s fun t => fanState t n = 4 ∧ (∀ i ∈ List.range 8, t.rd (R.COOL_FAN.rpm i) = min 65535 (rpm.getD i 0))) ∧
  (∀ (s : State) (n at_ : Nat), n < 2 → (tget s.cool.pumps n).slowSince = some at_ → pumpFailed s n = false → at_ + 5000000 ≤ s.now →
    Does (.pumpSpeedFail n) s fun t => pumpFailed t n = true ∧ t.rd R.COOL_STATUS.pump_failed = 1 ∧ t.rd R.COOL_STATUS.no_pump = b2n
    (pumpFailed s (1 - n))) ∧
  (∀ (s : State) (n current : Nat), n < 8 → fanState s n = 4 → s.rd (R.COOL_FAN.duty n) = 0 → 50 < current → s.on (R.COOL_FAN.present n)
    = false → Does (.fanProbe n current) s fun t => fanState t n = 2 ∧ t.rd (R.COOL_FAN.present n) = 1 ∧ t.rd (R.COOL_FAN.kicks n) = 0) ∧
  (∀ (s : State) (n current at_ : Nat), n < 8 → fanState s n = 4 → s.rd (R.COOL_FAN.duty n) = 0 → current ≤ 50 → (tget s.cool.fans
    n).goneSince = some at_ → at_ + 2000000 ≤ s.now → Does (.fanProbe n current) s fun t => t.rd (R.COOL_FAN.present n) = 0 ∧ fanState t
    n = 4 ∧ RegsBut [R.COOL_FAN.present n] s t) ∧
  (∀ (s : State) (n position at_ : Nat), n < 8 → min 100 position + 10 < s.rd (R.COOL_VALVE.command n) → s.on (R.COOL_VALVE.flagged n) =
    false → tfind s.cool.valveWrong n = some at_ → at_ + 2000000 ≤ s.now → Does (.valveFlag n position) s fun t => t.rd
    (R.COOL_VALVE.flagged n) = 1 ∧ t.rd (R.COOL_VALVE.command n) = 100 ∧ t.rd (R.COOL_VALVE.position n) = min 100 position ∧ Recorded s
    t (0x7020 + n) 0 0x0C 3 0) ∧
  (∀ (s : State) (d a b at_ : Nat), d < 2 → kilnActive s d = true → toSigned 16 a < 800 ∧ toSigned 16 b < 800 → tfind s.cool.kilnLow d =
    some at_ → at_ + 1000000 ≤ s.now → Does (.kilnTripClear ⟨d, a, b⟩) s fun t => kilnActive t d = false ∧ (tget t.sup.dies
    d).holds.testBit 3 = false ∧ RegsBut [R.COOL_KILN.h0_trip, R.COOL_KILN.h1_trip] s t) ∧
  (∀ (s : State) (d a b : Nat), d < 2 → kilnActive s d = true → 800 ≤ toSigned 16 a ∨ 800 ≤ toSigned 16 b → Does (.kilnTripClear ⟨d, a,
    b⟩) s fun t => t = { s with cool := { s.cool with kilnLow := tdel s.cool.kilnLow d } }) ∧
  (∀ (s : State) (slot : Nat), slot < 8 → slotOn s slot = true → Does (.accThermtrip slot) s fun t => (∀ r ∈ s.img.rails, r.owner = slot
    → t.seq.en.testBit r.channel = false) ∧ t.pin.thermtrip.testBit slot = true ∧ tfind t.cool.openUntil slot = some (s.now + 60000000)
    ∧ t.rd (R.COOL_VALVE.command slot) = 100 ∧ t.rd R.COOL_STATUS.thermtrip_seen = 1) ∧
  (∀ (s : State) (slot at_ : Nat), tfind s.cool.openUntil slot = some at_ → at_ ≤ s.now → Does (.thermtripValveExpire slot) s fun t =>
    tfind t.cool.openUntil slot = none ∧ t.pin.thermtrip.testBit slot = false ∧ t.seq = s.seq) ∧
  (∀ (s : State) (fans n : Nat), n < 8 → fans = 2 ^ n → fanState s n = 4 → Does (.coolClearFan .steward fans) s fun t => fanState t n =
    2 ∧ t.rd (R.COOL_FAN.reason n) = 0 ∧ t.out = Out.answer .ok 0 0 :: s.out) ∧
  (∀ (s : State) (pumps n : Nat), n < 2 → pumps = 2 ^ n → pumpFailed s n = true → Does (.coolClearPump .steward pumps) s fun t =>
    pumpFailed t n = false ∧ (tget t.cool.pumps n).startUntil = s.now + 4000000 ∧ t.out = Out.answer .ok 0 0 :: s.out) ∧
  (∀ (s : State) (valves n : Nat), n < 8 → valves = 2 ^ n → Does (.coolClearValve .steward valves) s fun t => t.rd (R.COOL_VALVE.flagged
    n) = 0 ∧ t.out = Out.answer .ok 0 0 :: s.out) ∧
  (∀ (s : State), Does (.coolClearModel .steward) s fun t => t.rd R.COOL_STATUS.implausible = 0 ∧ t.out = Out.answer .ok 0 0 :: s.out ∧
    t.cool = s.cool)

/-- Leak detection (R301, R303, R304, R305). Each sample decodes its loop; four wet samples in a row turn a zone wet, close its isolation
valve and order its slots off; a broken loop leaves its zone unguarded until its loops have been dry for 1 s; LEAK_CLEAR clears a dry zone
alone. -/
def Obligations.LeakCommands : Prop :=
  (∀ (s : State) (ohms : List Nat), Does (.leakSample ohms) s fun t => (∀ n ∈ List.range 16, n < s.img.plant.loops → n < ohms.length →
    t.rd (R.LEAK_LOOP.state n) = loopState (ohms.getD n 0)) ∧ t.seq = s.seq) ∧
  (∀ (s : State) (z n : Nat) (ohms : List Nat), z < 8 → z < s.img.plant.zones.length → (s.rd R.LEAK_STATUS.wet).testBit z = false → n <
    16 → n < s.img.plant.loops → n < ohms.length → (zoneOf s z).loops.testBit n = true → loopState (ohms.getD n 0) = 1 → tgetD
    s.leak.wetRun n 0 = 3 → Does (.leakSample ohms) s fun t => (t.rd R.LEAK_STATUS.wet).testBit z = true ∧ t.leak.orders.testBit z =
    true ∧ ((zoneOf s z).iso ≠ 0 → t.rd (R.COOL_ISO.closed ((zoneOf s z).iso - 1)) = 1)) ∧
  (∀ (s : State) (z : Nat), s.leak.orders.testBit z = true → s.procUp 0 = true → slotsAllowed s = true → s.leak.ordered.testBit z =
    false → s.seq.run = none → (zoneOf s z).slots % 256 ≠ 0 → Does (.wetZoneOrder z) s fun t => t.leak.orders.testBit z = false ∧
    (t.seq.run.any (fun (q : SeqRun) => q.kind == SeqKind.slotsOff && q.slots == (zoneOf s z).slots % 256)) = true) ∧
  (∀ (s : State) (z : Nat), s.leak.orders.testBit z = true → s.procUp 0 = true → slotsAllowed s = false → Does (.wetZoneOrder z) s fun t
    => t.leak.orders.testBit z = false ∧ t.seq = s.seq ∧ (∃ detail, Recorded s t (0x6030 + tgetD s.leak.wetLoop z 0) 0 0x0D 3 detail)) ∧
  (∀ (s : State) (z n : Nat), z < 8 → (s.rd R.LEAK_STATUS.unguarded).testBit z = false → unguardedBy s z = some n → Does (.zoneUnguarded
    z) s fun t => (t.rd R.LEAK_STATUS.unguarded).testBit z = true ∧ t.rd (R.LEAK_ZONE.unguarded z) = 1 ∧ (∃ detail, Recorded s t (0x6030
    + n) 0 0x0D 3 detail)) ∧
  (∀ (s : State) (z : Nat), z < 8 → (s.rd R.LEAK_STATUS.unguarded).testBit z = true → ((members (zoneOf s z).loops 16).all (fun (n :
    Nat) => (tfind s.leak.drySince n).any (fun (at_ : Nat) => at_ + 1000000 ≤ s.now))) = true → Does (.zoneUnguardClear z) s fun t =>
    (t.rd R.LEAK_STATUS.unguarded).testBit z = false ∧ t.rd (R.LEAK_ZONE.unguarded z) = 0 ∧ t.leak = s.leak) ∧
  (∀ (s : State) (zones z : Nat), z < 8 → zones = 2 ^ z → (s.rd R.LEAK_STATUS.wet).testBit z = true → zoneDry s z = true → Does
    (.leakClearWrite .steward zones) s fun t => (t.rd R.LEAK_STATUS.wet).testBit z = false ∧ t.rd (R.LEAK_ZONE.wet z) = 0 ∧ t.out =
    Out.answer .ok 0 0 :: s.out) ∧
  (∀ (s : State) (zones z : Nat), z < 8 → zones = 2 ^ z → (s.rd R.LEAK_STATUS.wet).testBit z = true → zoneDry s z = false → Does
    (.leakClearWrite .steward zones) s fun t => t = s.answer .invalid 0 0)

/-- The monitors (R306, R307, R308, R309, R313). The learned trim of the band moves by one eighth of the error while the crystal is good,
and the code applied is the next free value; a voltage outside 5 % for 1 ms and more than 10,000 droops set their flags with a record (the
voltage record's class and unit are the model's, log 51); a ring oscillator beyond the drift is recorded; MON_SEL takes what the kinds
define. -/
def Obligations.MonitorCommands : Prop :=
  (∀ (s : State) (error temp index : Nat), s.sup.crystalFailed = false → Does (.rcTrim error temp index) s fun t => tgetD t.mon.trims
    (trimBand temp) 0 = tgetD s.mon.trims (trimBand temp) 0 + toSigned 16 error ∧ (t.rd R.MON_RC_TRIM.trim = Config.freeWord s.freeCtr %
    256) ∧ t.rd R.MON_RC_TRIM.band = trimBand temp ∧ t.freeCtr = s.freeCtr + 1) ∧
  (∀ (s : State) (error temp index : Nat), s.sup.crystalFailed = true → Does (.rcTrim error temp index) s fun t => t.mon = s.mon ∧ t.rd
    R.MON_RC_TRIM.band = trimBand temp ∧ t.freeCtr = s.freeCtr) ∧
  (∀ (s : State) (die index mv v at_ : Nat), die < 2 → index < 8 → s.dieUp die = true → monitoredNominal s die index = v → v ≠ 0 → mv *
    100 < v * 95 ∨ v * 105 < mv * 100 → tfind s.mon.voltSince (monKey die 3 index) = some at_ → at_ + 1000 ≤ s.now →
    s.mon.voltNoted.contains (monKey die 3 index) = false → Does (.voltAlarm die index mv) s fun t => t.rd R.MON_STATUS.volt_alarm = 1 ∧
    tget t.mon.readings (monKey die 3 index) = mv ∧ t.mon.voltNoted.contains (monKey die 3 index) = true ∧ Recorded s t (0x1000 * (die +
    1) + 0xC0) 0 0x0B 2 0 ∧ RegsBut (R.MON_STATUS.volt_alarm :: recordFields) s t) ∧
  (∀ (s : State) (die index mv : Nat), die < 2 → index < 8 → s.dieUp die = true → monitoredNominal s die index * 95 ≤ mv * 100 → mv *
    100 ≤ monitoredNominal s die index * 105 → Does (.voltAlarm die index mv) s fun t => tget t.mon.readings (monKey die 3 index) = mv ∧
    tfind t.mon.voltSince (monKey die 3 index) = none ∧ t.mon.voltNoted.contains (monKey die 3 index) = false ∧ t.regs = s.regs) ∧
  (∀ (s : State) (die group count : Nat), die < 2 → group < 16 → s.dieUp die = true → 10000 < count → Does (.droopAlarm die group count)
    s fun t => t.rd (if die = 0 then R.MON_STATUS.droop_h0 else R.MON_STATUS.droop_h1) = 1 ∧ Recorded s t (0x1000 * (die + 1) + 0x40 +
    group) 0 0x0B 2 0) ∧
  (∀ (s : State) (die group count : Nat) (c : Cnt), die < 2 → group < 16 → s.dieUp die = true → count ≤ 10000 → c = (if die = 0 then
    R.MON_DROOP_COUNT_H0.c else R.MON_DROOP_COUNT_H1.c) → s.rd c.cnt + count ≤ 2 ^ 32 - 1 → Does (.droopAlarm die group count) s fun t
    => t.rd c.cnt = s.rd c.cnt + count ∧ RegsBut [c.cnt] s t ∧ t.itg = s.itg) ∧
  (∀ (s : State) (die tile value : Nat), die < 2 → tile < 64 → s.dieUp die = true → tfind s.flash.settings.ringRef (64 * die + tile) =
    none → Does (.ringOscMeasure die tile value) s fun t => tfind t.flash.settings.ringRef (64 * die + tile) = some (value % 65536) ∧
    t.regs = s.regs) ∧
  (∀ (s : State) (die tile value r : Nat), die < 2 → tile < 64 → s.dieUp die = true → tfind s.flash.settings.ringRef (64 * die + tile) =
    some r → s.rd R.MON_CFG.drift * 10 < (ringDrift (value % 65536) r).natAbs → Does (.ringOscMeasure die tile value) s fun t => t.rd
    R.MON_STATUS.drift = 1 ∧ ((unitKept s (64 * die + tile)).level = 0 → (unitKept t (64 * die + tile)).level = 1)) ∧
  (∀ (s : State) (die kind index : Nat), die < 2 → index < monLimit kind → Does (.monSelWrite .steward die kind index) s fun t => t.rd
    R.MON_SEL.die = die ∧ t.rd R.MON_SEL.kind = kind ∧ t.rd R.MON_SEL.index = index ∧ t.out = Out.answer .ok 0 0 :: s.out ∧ RegsBut
    [R.MON_SEL.die, R.MON_SEL.kind, R.MON_SEL.index] s t) ∧
  (∀ (s : State) (die kind index : Nat), 2 ≤ die ∨ monLimit kind ≤ index → Does (.monSelWrite .steward die kind index) s fun t => t =
    s.answer .invalid 0 0)

/-- Swatches and re-executions (R350, R351, R353, R355, R358, R360, R361, R365). An order for a tile in service waits, for a fenced one it
starts at once; a due idle tile is fenced and swatched; an end keeps its result, and a failure fails its unit; a fault that its
re-execution reproduces is permanent, another one a level higher. -/
def Obligations.SwatchCommands : Prop :=
  (∀ (s : State) (index : Nat), index < 128 → (unitLive s index).running = none → tileFenced s index = false → Does (.swatchOrder
    .steward true index) s fun t => t = (modUnit s index (fun u => { u with waiting := true })).answer .ok 0 0) ∧
  (∀ (s : State) (index : Nat), index < 128 → (unitLive s index).running = none → tileFenced s index = true → swatchFree s index = true
    → Does (.swatchOrder .steward true index) s fun t => (unitLive t index).running = some s.now ∧ (unitLive t index).waiting = false ∧
    t.out = Out.answer .ok 0 0 :: s.out ∧ t.regs = s.regs) ∧
  (∀ (s : State) (index : Nat) (run : Bool), 135 < index → Does (.swatchOrder .steward run index) s fun t => t = s.answer .invalid 0 0) ∧
  (∀ (s : State) (unit : Nat), unit < 128 → unitDue s unit 1 = true → s.on R.SDC_CFG.auto = true → unitIdle s unit = true → (unitLive s
    unit).running = none → swatchFree s unit = true → Does (.swatchDue unit) s fun t => tileFenced t unit = true ∧ (unitLive t
    unit).running = some s.now ∧ t.regs = s.regs) ∧
  (∀ (s : State) (unit failBits : Nat), unit < 136 → (unitLive s unit).running.isSome = true → isTile unit = true ∨ swatchLate s unit =
    false → Does (.swatchEnd unit false true false failBits) s fun t => t.sdc.result = 1 ∧ t.sdc.lastUnit = unit ∧ (unitLive t
    unit).running = none ∧ (unitLive t unit).held = false) ∧
  (∀ (s : State) (unit failBits : Nat) (sramBad : Bool), unit < 136 → (unitLive s unit).running.isSome = true → isTile unit = true ∨
    swatchLate s unit = false → Does (.swatchEnd unit false false sramBad failBits) s fun t => t.sdc.result = 2 ∧ (unitKept t
    unit).failed = true ∧ t.rd R.SDC_STATUS.swatch_fail = 1 ∧ (unitLive t unit).running = none) ∧
  (∀ (s : State) (unit : Nat), unit < 128 → (unitLive s unit).shadow.isSome = true → tileFenced s unit = false → Does (.shadowComplete
    unit true) s fun t => (unitKept t unit).failed = true ∧ tileFenced t unit = true ∧ t.rd R.SDC_STATUS.permanent = 1 ∧ (unitLive t
    unit).shadow = none) ∧
  (∀ (s : State) (unit : Nat), unit < 128 → (unitLive s unit).shadow.isSome = true → tileFenced s unit = false → historyCount s unit < 3
    → Does (.shadowComplete unit false) s fun t => (unitKept t unit).level = min 2 ((unitKept s unit).level + 1) ∧ (unitKept t
    unit).failed = (unitKept s unit).failed ∧ tileFenced t unit = false)

/-- Watchdogs, crashes and restarts (R370, R371, R372, R374, R387). A watchdog that expires, a trap and a restart that does not end are
crashes: the processor is restarting, or halted at the third within 600 s; a kick counts for its own processor; a restart releases at 20
ms and ends when duties resume; Steward revives and restarts processors. -/
def Obligations.FirmwareCommands : Prop :=
  (∀ (s : State) (p pc : Nat), p < 8 → s.rd (R.FW_PROC.state p) = 1 → (tget s.fw.procs p).armed = true → (tget s.fw.procs p).debugHalt =
    false → procAbsent s p = false → (tget s.fw.procs p).kickedAt + s.rd (R.FW_PROC.timeout p) * 1000 ≤ s.now → Does (.watchdogExpire p
    pc) s fun t => t.rd (R.FW_PROC.state p) = (if 2 ≤ (recentCrashes s p).length then 3 else 2) ∧ t.rd (R.FW_PROC.last_cause p) = 1 ∧
    (tget t.fw.procs p).restartAt = s.now ∧ t.rd R.FW_LAST_CRASH.processor = p ∧ t.rd R.FW_LAST_CRASH.pc = pc % 2 ^ 24 ∧ tfind
    t.fw.lastExpiry p = some s.now) ∧
  (∀ (s : State) (p mask : Nat), p < 4 → mask % 256 = 2 ^ p → Does (.watchdogKick (.proc p) mask) s fun t => t = (s.modProc p (fun q =>
    { q with kickedAt := s.now })).answer .ok 0 0) ∧
  (∀ (s : State) (mask : Nat), s.anyDieUp = true → Does (.watchdogKick .host mask) s fun t => t = s.answer .denied 0 0) ∧
  (∀ (s : State) (p pc : Nat), p < 8 → s.rd (R.FW_PROC.state p) = 1 → procAbsent s p = false → Does (.processorTrap p pc none) s fun t
    => t.rd (R.FW_PROC.state p) = (if 2 ≤ (recentCrashes s p).length then 3 else 2) ∧ t.rd (R.FW_PROC.last_cause p) = 3 ∧ (tget
    t.fw.procs p).armed = false) ∧
  (∀ (s : State) (p pc w : Nat), p < 8 → s.rd (R.FW_PROC.state p) = 1 → procAbsent s p = false → Does (.processorTrap p pc (some w)) s
    fun t => t.rd (R.FW_PROC.last_cause p) = 2 ∧ t.rd R.ERR_STATUS.ue = 1) ∧
  (∀ (s : State) (p : Nat) (copyBad : Bool), p < 8 → s.rd (R.FW_PROC.state p) = 2 → heldByLoader s p = false → (tget s.fw.procs
    p).restartAt + 20000 ≤ s.now → Does (.processorRelease p copyBad) s fun t => (tget t.fw.procs p).released = true ∧ t.regs = s.regs ∧
    t.out = (if copyBad = true then Out.codeRewritten p :: s.out else s.out)) ∧
  (∀ (s : State) (p : Nat), p < 8 → s.rd (R.FW_PROC.state p) = 2 → heldByLoader s p = false → (tget s.fw.procs p).released = true →
    procAbsent s p = false → Does (.dutiesResumed p) s fun t => t.rd (R.FW_PROC.state p) = 1 ∧ (tget t.fw.procs p).armed = true ∧ (tget
    t.fw.procs p).kickedAt = s.now) ∧
  (∀ (s : State) (p : Nat), p < 8 → s.rd (R.FW_PROC.state p) = 2 → heldByLoader s p = false → (tget s.fw.procs p).restartAt + 200000 ≤
    s.now → Does (.restartTimeout p) s fun t => t.rd (R.FW_PROC.state p) = (if 2 ≤ (recentCrashes s p).length then 3 else 2) ∧ t.rd
    (R.FW_PROC.last_cause p) = 4) ∧
  (∀ (s : State) (mask p : Nat), p < 8 → mask = 2 ^ p → s.rd (R.FW_PROC.state p) = 3 → Does (.processorRevive .steward mask) s fun t =>
    t.rd (R.FW_PROC.state p) = 2 ∧ (tget t.fw.procs p).crashes = [] ∧ t.rd (R.FW_PROC.window p) = 0 ∧ t.out = Out.answer .ok 0 0 ::
    s.out) ∧
  (∀ (s : State) (mask p : Nat), p < 8 → mask = 2 ^ p → s.rd (R.FW_PROC.state p) = 1 → procAbsent s p = false → Does
    (.processorRestartOrder .steward mask) s fun t => t.rd (R.FW_PROC.state p) = 2 ∧ t.rd (R.FW_PROC.last_cause p) = 5 ∧ (tget
    t.fw.procs p).crashes = (tget s.fw.procs p).crashes ∧ t.out.head? = some (Out.answer .ok 0 0))

/-- The bus arbiter (R379, R381, R382, R388). An operation posted on an idle controller is granted by a draw; on a held one it waits; a
locked transfer keeps its holder; Steward alone sets tickets. -/
def Obligations.ArbiterCommands : Prop :=
  (∀ (s : State) (p c clocks : Nat) (locks : List Bool), p < 8 → c < 6 → locks ≠ [] → locks.length ≤ 4096 → opOf s c p = none → s.procUp
    p = true → s.on (R.ARB_CTL.held c) = true → Does (.arbPost p c locks clocks) s fun t => opOf t c p = some ({ locks := locks } :
    BusOp) ∧ (t.rd (R.ARB_CTL.waiting c)).testBit p = true ∧ t.rd (R.ARB_CTL.holder c) = s.rd (R.ARB_CTL.holder c) ∧ t.rd
    R.ARB_LFSR.value = lfsrSteps clocks (s.rd R.ARB_LFSR.value) % 2 ^ 32) ∧
  (∀ (s : State) (p c clocks : Nat) (locks : List Bool), p < 8 → c < 6 → locks ≠ [] → locks.length ≤ 4096 → (∀ q ∈ List.range 8, opOf s
    c q = none) → s.procUp p = true → s.on (R.ARB_CTL.held c) = false → lottery
    ({ s with arb := { s.arb with ops := tput s.arb.ops (8 * c + p) { locks := locks } } } : State) c (lfsrSteps clocks (s.rd
    R.ARB_LFSR.value) % 2 ^ 32) [p] = some p → Does (.arbPost p c locks clocks) s fun t => t.rd (R.ARB_CTL.held c) = 1 ∧ t.rd
    (R.ARB_CTL.holder c) = p ∧ opOf t c p = some ({ locks := locks } : BusOp) ∧ t.rd (R.ARB_PROG.progress c) = 0) ∧
  (∀ (s : State) (c clocks : Nat) (o : BusOp), c < 6 → s.on (R.ARB_CTL.held c) = true → opOf s c (s.rd (R.ARB_CTL.holder c)) = some o →
    o.done + 1 < o.locks.length → o.locks.getD o.done false = true → Does (.arbDraw c clocks) s fun t => t.rd (R.ARB_CTL.holder c) =
    s.rd (R.ARB_CTL.holder c) % 8 ∧ t.rd (R.ARB_CTL.held c) = 1 ∧ opOf t c (s.rd (R.ARB_CTL.holder c)) = some
    { o with done := o.done + 1 }) ∧
  (∀ (s : State) (c clocks : Nat) (o : BusOp), c < 6 → s.on (R.ARB_CTL.held c) = true → opOf s c (s.rd (R.ARB_CTL.holder c)) = some o →
    o.locks.length ≤ o.done + 1 → (∀ q ∈ List.range 8, q ≠ s.rd (R.ARB_CTL.holder c) → opOf s c q = none) → Does (.arbDraw c clocks) s
    fun t => t.rd (R.ARB_CTL.held c) = 0 ∧ opOf t c (s.rd (R.ARB_CTL.holder c)) = none) ∧
  (∀ (s : State) (c value : Nat) (high : Bool), c < 6 → Does (.arbTicketWrite .steward c high value) s fun t => t = (s.wr (if high =
    true then R.ARB_TICKET_HI.tickets c else R.ARB_TICKET_LO.tickets c) value).answer .ok 0 0)

/-- The flight recorder (R409, R411, R417, R418, R421, R422, R424, R425). The record at the head of the queue is programmed at the write
position; a failed slot is torn and the record stays; an erased block is empty and one that fails is torn; runs close with a repeat
record; the scan opens a blank cask; a freeze ends at its limit; operating seconds saturate. -/
def Obligations.RecorderCommands : Prop :=
  (∀ (s : State) (r : CaskRec) (rest : List CaskRec) (pos n : Nat), s.procUp 3 = true → s.on R.REC_STATUS.scanning = false → s.rcd.queue
    = r :: rest → pos = s.rd R.REC_HEAD.position → n = (slotsOf s r).length → pos % 2048 ≠ 0 → pos % 2048 + n ≤ 2048 → s.rcd.dropped = 0
    → Does (.caskWrite none) s fun t => t.flash.cask = programSlots s.flash.cask pos (slotsOf s r) none ∧ t.rd R.REC_HEAD.position =
    (pos + n) % 2 ^ 32 ∧ t.rcd.queue.length = rest.length ∧ t.rd R.REC_WRITTEN.count = min (2 ^ 32 - 1) (s.rd R.REC_WRITTEN.count + 1)) ∧
  (∀ (s : State) (r : CaskRec) (rest : List CaskRec) (pos k : Nat), s.procUp 3 = true → s.on R.REC_STATUS.scanning = false → s.rcd.queue
    = r :: rest → pos = s.rd R.REC_HEAD.position → k < (slotsOf s r).length → pos % 2048 ≠ 0 → pos % 2048 + (slotsOf s r).length ≤ 2048
    → Does (.caskWrite (some k)) s fun t => t.rcd.queue = s.rcd.queue ∧ t.rd R.REC_HEAD.position = (pos + k + 1) % 2 ^ 32 ∧ t.rd
    R.REC_STATUS.write_fail = 1 ∧ tfind t.flash.cask ((pos + k) % 524288) = some CaskCell.torn) ∧
  (∀ (s : State) (q : Nat), s.rcd.erasing = some q → Does (.blockEraseComplete true) s fun t => t.flash.cask = s.flash.cask.filter (fun
    (c : Nat × CaskCell) => c.1 / 2048 != q % 256) ∧ t.rcd.erasing = none ∧ t.rcd.erased = some q ∧ t.regs = s.regs) ∧
  (∀ (s : State) (q : Nat), s.rcd.erasing = some q → Does (.blockEraseComplete false) s fun t => (t.flash.cask.all (fun (c : Nat ×
    CaskCell) => c.1 / 2048 != q % 256 || c.2 == CaskCell.torn)) = true ∧ t.rd R.REC_STATUS.write_fail = 1 ∧ t.rcd.erased =
    s.rcd.erased) ∧
  (∀ (s : State) (run : Nat) (r : CaskRun), s.rcd.runs.find? (fun (q : CaskRun) => q.id = run) = some r → r.last + s.rd
    R.REC_CFG.repeat_window ≤ s.rd R.REC_SECONDS.seconds → 0 < r.count → s.rcd.queue.length < 1024 → Does (.runClose run) s fun t =>
    t.rcd.runs = s.rcd.runs.filter (fun (q : CaskRun) => q.id != r.id) ∧ t.rcd.queue = s.rcd.queue ++
    [{ body := CaskBody.rpt r.count (r.pos.getD 0) r.first r.last r.excess, seconds := s.rd R.REC_SECONDS.seconds, cycles := s.rd R.REC_CYCLES.cycles, run := if r.pos.isSome = true then 0 else r.id : CaskRec }]
    ∧ RegsBut [R.REC_PENDING.count] s t) ∧
  (∀ (s : State), s.rcd.snapshotAt + 600 ≤ s.rd R.REC_SECONDS.seconds → s.rcd.queue.length < 1024 → Does (.headerSnapshot) s fun t =>
    t.rcd.snapshotAt = s.rd R.REC_SECONDS.seconds ∧ t.rcd.queue = s.rcd.queue ++
    [{ body := CaskBody.snapshot, seconds := s.rd R.REC_SECONDS.seconds, cycles := s.rd R.REC_CYCLES.cycles, run := 0 : CaskRec }] ∧
    RegsBut [R.REC_PENDING.count] s t) ∧
  (∀ (s : State), s.on R.REC_STATUS.scanning = true → s.procUp 3 = true → newestBlock s.flash.cask = none → Does (.caskScan) s fun t =>
    t.rd R.REC_STATUS.scanning = 0 ∧ t.rd R.REC_STATUS.blank = 1 ∧ t.rd R.REC_HEAD.position = 1 ∧ t.rd R.REC_SECONDS.seconds = 0 ∧ t.rd
    R.REC_CYCLES.cycles = 1 ∧ t.rcd.erased = some 1) ∧
  (∀ (s : State) (q : Nat), s.on R.REC_STATUS.scanning = true → s.procUp 3 = true → newestBlock s.flash.cask = some q → Does (.caskScan)
    s fun t => t.rd R.REC_STATUS.scanning = 0 ∧ t.rd R.REC_CYCLES.cycles = min (2 ^ 24 - 1) (caskMax CaskSlot.cycles s.flash.cask + 1) ∧
    t.flash.cask = s.flash.cask) ∧
  (∀ (s : State), s.on R.REC_STATUS.frozen = true → s.rcd.freezeAt + s.rd R.REC_CFG.freeze_max * 1000000 ≤ s.now → Does (.freezeExpire)
    s fun t => t.rd R.REC_STATUS.frozen = 0 ∧ t.rd R.REC_STATUS.withheld = 0 ∧ t.flash = s.flash) ∧
  (∀ (s : State), s.sup.wardenOn = true → Does (.operatingSecond) s fun t => t = s.wr R.REC_SECONDS.seconds (min (2 ^ 32 - 1) (s.rd
    R.REC_SECONDS.seconds + 1)))

/-- Sessions and features (R378, R393, R395, R397, R401). SESSION_OPEN gives a free session number and bit 0 alone of the features, and is
DENIED while the other commander holds the session; SESSION_CLOSE and the lease end it; FEATURES answers and keeps the AND of the two
bitmaps; a lockout ends; a reserved code is INVALID. -/
def Obligations.SessionMessages : Prop :=
  (∀ (s : State) (m : Msg) (u : State) (preempt : Bool), takesUp s { code := 0x001, free := Free.signed, loader := true : Order } m =
    some u → u.mgt.session = none → Does (.sessionOpen m preempt) s fun t => t.mgt.session = some
    { id := Config.freeSession u.freeCtr % (2 ^ 64 - 1) + 1, role := m.role, source := m.source, key := m.key, heardAt := u.now } ∧ t.rd
    R.MGT_STATUS.held = 1 ∧ t.rd (R.FW_NEG.bits 0) = 1) ∧
  (∀ (s : State) (m : Msg) (u : State) (preempt : Bool) (q : Session), takesUp s
    { code := 0x001, free := Free.signed, loader := true : Order } m = some u → u.mgt.session = some q → q.role ≠ m.role → m.role =
    Role.host ∨ preempt = false → Does (.sessionOpen m preempt) s fun t => t.out.head? = some (Out.mgmt m.role 0x001 Resp.denied
    [roleCode q.role]) ∧ t.mgt.session = some q) ∧
  (∀ (s : State) (m : Msg) (u : State), takesUp s { code := 0x002, loader := true : Order } m = some u → Does (.sessionClose m) s fun t
    => t.out.head? = some (Out.mgmt m.role 0x002 Resp.ok ([])) ∧ t.mgt.session = none ∧ t.rd R.MGT_STATUS.held = (if u.mgt.session =
    none then u.rd R.MGT_STATUS.held else 0)) ∧
  (∀ (s : State) (m : Msg) (u : State) (bitmap f : Nat), takesUp s { code := 0x003 : Order } m = some u → f = (bitmap % 2 ^ 128) &&&
    ownFeatures u → Does (.features m bitmap) s fun t => t.out.head? = some (Out.mgmt m.role 0x003 Resp.ok (bytesOf 16 f)) ∧ (∀ i ∈
    List.range 4, t.rd (R.FW_NEG.bits i) = f / 2 ^ (32 * i) % 2 ^ 32)) ∧
  (∀ (s : State) (q : Session), s.mgt.session = some q → q.heardAt + s.rd R.MGT_CFG.lease * 1000000 ≤ s.now → Does (.sessionLeaseExpire)
    s fun t => t.mgt.session = none ∧ t.rd R.MGT_STATUS.held = 0 ∧ t.rd R.MGT_HOLDER.role = 0) ∧
  (∀ (s : State) (source at_ : Nat), tfind s.mgt.lockouts source = some at_ → at_ ≤ s.now → Does (.lockoutExpire source) s fun t => t =
    { s with mgt := { s.mgt with lockouts := tdel s.mgt.lockouts source } }) ∧
  (∀ (s : State) (m : Msg) (code : Nat), reaches s m = true → m.role = Role.rackManager → m.magic = 0x4D47 → m.version = 1 → lockedOut s
    m = false → responding s = false → Does (.reservedMessageCode m code) s fun t => t = reply (renewLease s m) m (code % 4096)
    Resp.invalid [])

/-- Power orders by message (R255, R256, R260, R375, R402, R404, R406, R407, R408). A budget and a cap are kept and enter the effective
cap, the lowest of its sources; one out of range is INVALID and changes none; a fixed gauge takes its pin; a partition turned off has its
sender recorded and its slots bound off, and another party may not turn it on; POWER_OFF binds the tray off, by the responder too. -/
def Obligations.PowerMessages : Prop :=
  (∀ (s : State) (m : Msg) (u : State) (watts : Nat), takesUp s { code := 0x010, duty := 1, free := Free.rackSigned : Order } m = some u
    → 500 ≤ watts ∧ watts ≤ 65534 → Does (.budgetSet m watts) s fun t => t.out.head? = some (Out.mgmt m.role 0x010 Resp.ok ([])) ∧ t.rd
    R.PWR_BUDGET.budget = watts ∧ t.flash.settings.budget = some watts ∧ t.rd R.PWR_CAP_EFF.cap = (lowestCap (capSources t)).1 % 2 ^ 16) ∧
  (∀ (s : State) (m : Msg) (u : State) (watts : Nat), takesUp s { code := 0x010, duty := 1, free := Free.rackSigned : Order } m = some u
    → watts < 500 → Does (.budgetSet m watts) s fun t => t.out.head? = some (Out.mgmt m.role 0x010 Resp.invalid ([])) ∧ t.flash =
    u.flash ∧ t.rd R.PWR_BUDGET.budget = u.rd R.PWR_BUDGET.budget) ∧
  (∀ (s : State) (m : Msg) (u : State) (watts : Nat), takesUp s { code := 0x011, duty := 1 : Order } m = some u → 500 ≤ watts ∧ watts ≤
    65534 → Does (.capSet m 0xFF false watts) s fun t => t.out.head? = some (Out.mgmt m.role 0x011 Resp.ok ([])) ∧ t.rd (if m.role =
    Role.host then R.PWR_CAPS.host else R.PWR_CAPS.rack_manager) = watts ∧ t.rd R.PWR_CAP_EFF.cap = (lowestCap (capSources t)).1 % 2 ^
    16) ∧
  (∀ (s : State) (m : Msg) (u : State) (scope watts : Nat), takesUp s
    { code := 0x011, duty := 1, feature := if scope = 0xFF then 0 else 1 : Order } m = some u → m.role = Role.host → capBodyOk scope
    watts u = true → Does (.capSet m scope true watts) s fun t => t.out.head? = some (Out.mgmt m.role 0x011 Resp.denied ([])) ∧ t.flash
    = u.flash) ∧
  (∀ (s : State) (m : Msg) (u : State) (watts : Nat), takesUp s { code := 0x011, duty := 1 : Order } m = some u → m.role =
    Role.rackManager → 500 ≤ watts ∧ watts ≤ 65534 → Does (.capSet m 0xFF true watts) s fun t => t.out.head? = some (Out.mgmt m.role
    0x011 Resp.ok ([])) ∧ t.rd R.PWR_CAPS.host = 0xFFFF ∧ t.rd R.PWR_CAPS.rack_manager = watts ∧ t.flash.settings.partHost = []) ∧
  (∀ (s : State) (m : Msg) (u : State) (pin : Nat), takesUp s { code := 0x012, feature := 2, duty := 1 : Order } m = some u → pin < 64 →
    Does (.gaugeFixOn m pin) s fun t => t.out.head? = some (Out.mgmt m.role 0x012 Resp.ok ([])) ∧ t.rd R.PWR_FIX.enabled = 1 ∧ t.rd
    R.PWR_FIX.pin = pin ∧ t.rd R.PWR_STATUS.fixed = 1 ∧ t.flash.settings.fixed = some true ∧ t.flash.settings.pin = pin) ∧
  (∀ (s : State) (m : Msg) (u : State) (pin : Nat), takesUp s { code := 0x012, feature := 2, duty := 1 : Order } m = some u → pin < 64 →
    Does (.gaugeFixOff m pin) s fun t => t.out.head? = some (Out.mgmt m.role 0x012 Resp.ok ([])) ∧ t.rd R.PWR_FIX.enabled = 0 ∧ t.rd
    R.PWR_STATUS.fixed = 0 ∧ t.rd R.PWR_STATUS.fixed_broken = 0 ∧ t.flash.settings.fixed = some false ∧ t.rd R.PWR_FIX.pin = u.rd
    R.PWR_FIX.pin) ∧
  (∀ (s : State) (m : Msg) (u : State) (parts p : Nat), takesUp s { code := 0x013 : Order } m = some u → p < 8 → parts = 2 ^ p → partsOk
    parts u = true → offRecord u p ≠ 1 ∧ offRecord u p ≠ 3 → Does (.partitionPowerOff m parts) s fun t => t.out.head? = some (Out.mgmt
    m.role 0x013 Resp.ok ([])) ∧ offRecord t p = roleCode m.role ∧ (u.seq.run = none ∧ slotsAllowed u = true → (t.seq.run.any (fun (q :
    SeqRun) => q.kind == SeqKind.slotsOff && q.slots == slotsOfParts u parts)) = true)) ∧
  (∀ (s : State) (m : Msg) (u : State) (parts p : Nat), takesUp s { code := 0x013 : Order } m = some u → p < 8 → parts = 2 ^ p → partsOk
    parts u = true → mayTurnOn u m.role p = true → u.seq.state = 2 → u.seq.run.isSome = true → Does (.partitionPowerOn m parts) s fun t
    => t.out.head? = some (Out.mgmt m.role 0x013 Resp.ok ([])) ∧ offRecord t p = 0 ∧ t.seq.held = u.seq.held ++ [(true, false,
    slotsOfParts u parts)]) ∧
  (∀ (s : State) (m : Msg) (u : State) (parts p : Nat), takesUp s { code := 0x013 : Order } m = some u → p < 8 → parts = 2 ^ p → partsOk
    parts u = true → mayTurnOn u m.role p = false → Does (.partitionPowerOn m parts) s fun t => t.out.head? = some (Out.mgmt m.role
    0x013 Resp.denied ([])) ∧ t.seq = u.seq ∧ t.flash = u.flash) ∧
  (∀ (s : State) (m : Msg) (u : State), takesUp s { code := 0x014, free := Free.rackSigned, loader := true : Order } m = some u →
    u.seq.state = 2 → Does (.powerOff m) s fun t => t.out.head? = some (Out.mgmt m.role 0x014 Resp.ok ([])) ∧ t.seq.state = 3 ∧
    t.anyDieUp = false ∧ t.seq.en = u.seq.en) ∧
  (∀ (s : State) (m : Msg), reaches s m = true → m.role = Role.rackManager → m.magic = 0x4D47 → m.version = 1 → lockedOut s m = false →
    responding s = true → Does (.powerOff m) s fun t => t = (bindOffTray (renewLease s m)).emit (Out.mgmt m.role 0x014 Resp.ok []))

/-- Patterns, admission and swatches by message (R348, R358, R360, R362, R363, R403). PATTERN_SELECT writes PAT_NEXT on the running dies;
ADMIT and EXPEL put an accelerator forward or readmit a tile; SWATCH_RUN orders a swatch or is answered RETRY while one runs;
SWATCH_RESULT answers the last record. -/
def Obligations.SelectionMessages : Prop :=
  (∀ (s : State) (m : Msg) (u : State) (pattern stepLo d : Nat) (atStep : Bool) (p : Pattern), takesUp s { code := 0x020 : Order } m =
    some u → pattern < 256 → tfind u.pat.lib pattern = some p → seqMode u = 1 → u.dieUp d = true → Does (.patternSelect m pattern atStep
    false stepLo) s fun t => t.out.head? = some (Out.mgmt m.role 0x020 Resp.ok ([])) ∧ t.rd (R.PAT_NEXT.pattern d) = pattern ∧ t.rd
    (R.PAT_NEXT.valid d) = 1 ∧ t.rd (R.PAT_NEXT.at_step d) = b2n atStep ∧ t.rd (R.PAT_NEXT_STEP.step_lo d) = stepLo % 2 ^ 32 ∧
    t.pat.active = u.pat.active) ∧
  (∀ (s : State) (m : Msg) (u : State) (pattern stepLo : Nat) (atStep restart : Bool), takesUp s { code := 0x020 : Order } m = some u →
    pattern < 256 → tfind u.pat.lib pattern = none → Does (.patternSelect m pattern atStep restart stepLo) s fun t => t.out.head? = some
    (Out.mgmt m.role 0x020 Resp.invalid ([])) ∧ t.pat = u.pat) ∧
  (∀ (s : State) (m : Msg) (u : State) (unit slot : Nat), takesUp s { code := 0x021, feature := 7 : Order } m = some u → slot < 8 → unit
    = 0x3000 + slot → u.accAdmitted slot = false → u.pat.listedAdmit.testBit slot = false → u.linkState slot = 3 → (unitKept u (128 +
    slot)).failed = false → mayAdmit u slot = true → Does (.admitMsg m unit) s fun t => t.out.head? = some (Out.mgmt m.role 0x021
    Resp.ok ([])) ∧ t.pat.putAdmit.testBit slot = true) ∧
  (∀ (s : State) (m : Msg) (u : State) (unit n : Nat), takesUp s { code := 0x021, feature := 7 : Order } m = some u → n < 64 → unit =
    0x1000 + n → (unitKept u n).failed = true → (unitLive u n).passed = true → Does (.admitMsg m unit) s fun t => t.out.head? = some
    (Out.mgmt m.role 0x021 Resp.ok ([])) ∧ (unitLive t n).readmit = true) ∧
  (∀ (s : State) (m : Msg) (u : State) (unit slot : Nat), takesUp s { code := 0x022, feature := 7 : Order } m = some u → slot < 8 → unit
    = 0x3000 + slot → u.accAdmitted slot = true → Does (.expel m unit) s fun t => t.out.head? = some (Out.mgmt m.role 0x022 Resp.ok
    ([])) ∧ t.pat.putExpel.testBit slot = true ∧ t.pat.putAdmit.testBit slot = false) ∧
  (∀ (s : State) (m : Msg) (u : State) (unit : Nat), takesUp s { code := 0x040, feature := 6 : Order } m = some u → unit < 128 →
    (unitLive u unit).running = none → tileFenced u unit = false → Does (.swatchRun m unit) s fun t => t.out.head? = some (Out.mgmt
    m.role 0x040 Resp.ok ([])) ∧ (unitLive t unit).waiting = true) ∧
  (∀ (s : State) (m : Msg) (u : State) (unit : Nat), takesUp s { code := 0x040, feature := 6 : Order } m = some u → unit < 136 →
    (unitLive u unit).running.isSome = true → Does (.swatchRun m unit) s fun t => t.out.head? = some (Out.mgmt m.role 0x040 Resp.retry
    (bytesOf 4 100000)) ∧ t.sdc = u.sdc) ∧
  (∀ (s : State) (m : Msg) (u : State) (unit : Nat) (r : ErrRec), takesUp s { code := 0x041, feature := 6 : Order } m = some u → unit <
    136 → (unitLive u unit).last = some r → Does (.swatchResult m unit) s fun t => t.out.head? = some (Out.mgmt m.role 0x041 Resp.ok
    (errBytes r)) ∧ t.sdc = u.sdc) ∧
  (∀ (s : State) (m : Msg) (u : State) (unit : Nat), takesUp s { code := 0x041, feature := 6 : Order } m = some u → unit < 136 →
    (unitLive u unit).last = none → Does (.swatchResult m unit) s fun t => t.out.head? = some (Out.mgmt m.role 0x041 Resp.ok (bytesOf 64
    (Config.freeBody u.freeCtr unit))) ∧ t.freeCtr = u.freeCtr + 1 ∧ t.sdc = u.sdc)

/-- Reading by message (R196, R340, R376, R377, R425, R426). TELEMETRY_READ, LOG_READ and RECORDER_READ answer what the snapshot, the
rings and the frozen cask hold and change none of it; TRACE_SET sets one enable; a freeze stands at the write position until it is
released. -/
def Obligations.ReadingMessages : Prop :=
  (∀ (s : State) (m : Msg) (u : State) (offset len : Nat), takesUp s { code := 0x030, bulk := true, free := Free.unsigned : Order } m =
    some u → 4 ≤ len ∧ len ≤ 4096 → len % 4 = 0 → offset + len ≤ 0x40000000 → Does (.telemetryRead m offset len) s fun t => t.out.head?
    = some (Out.mgmt m.role 0x030 Resp.ok ((List.range len).map (fun (i : Nat) => snapByte u (offset + i)))) ∧ t.mem = u.mem) ∧
  (∀ (s : State) (m : Msg) (u : State) (ring first count : Nat), takesUp s
    { code := 0x031, feature := if ring = 0 then 0 else 5, bulk := true, duty := 3 : Order } m = some u → ring ≤ 8 → 1 ≤ count ∧ count ≤
    (if ring = 0 then 64 else 128) → first < (if ring = 0 then 256 else 2048) → Does (.logRead m ring first count) s fun t =>
    t.out.head? = some (Out.mgmt m.role 0x031 Resp.ok (logAnswer u ring first count)) ∧ t.itg = u.itg) ∧
  (∀ (s : State) (m : Msg) (u : State) (hubctl point : Nat) (enable : Bool), takesUp s { code := 0x032, feature := 5 : Order } m = some
    u → hubctl < 2 → point < 256 → Does (.traceSet m hubctl point enable) s fun t => t.out.head? = some (Out.mgmt m.role 0x032 Resp.ok
    ([])) ∧ (t.rd (if hubctl = 0 then R.FW_TRACE_W.enable (point / 32) else R.FW_TRACE_H.enable (point / 32))).testBit (point % 32) =
    enable) ∧
  (∀ (s : State) (m : Msg) (u : State), takesUp s { code := 0x033, feature := 4, duty := 3 : Order } m = some u → Does (.recorderFreeze
    m) s fun t => t.rd R.REC_STATUS.frozen = 1 ∧ t.rd R.REC_FREEZE_POINT.position = u.rd R.REC_HEAD.position % 2 ^ 32 ∧ t.flash.cask =
    u.flash.cask) ∧
  (∀ (s : State) (m : Msg) (u : State), takesUp s { code := 0x033, feature := 4, duty := 3 : Order } m = some u → Does (.recorderRelease
    m) s fun t => t.out.head? = some (Out.mgmt m.role 0x033 Resp.ok ([])) ∧ t.rd R.REC_STATUS.frozen = (if u.on R.REC_STATUS.frozen =
    true then 0 else u.rd R.REC_STATUS.frozen)) ∧
  (∀ (s : State) (m : Msg) (u : State) (first count : Nat), takesUp s { code := 0x034, feature := 4, bulk := true, duty := 3 : Order } m
    = some u → 1 ≤ count ∧ count ≤ 128 → first < 2 ^ 32 → u.on R.REC_STATUS.frozen = true → (first + 2 ^ 32 - u.rd R.REC_OLDEST.position
    % 2 ^ 32) % 2 ^ 32 + count ≤ (u.rd R.REC_FREEZE_POINT.position + 2 ^ 32 - u.rd R.REC_OLDEST.position % 2 ^ 32) % 2 ^ 32 → Does
    (.recorderRead m first count) s fun t => t.out.head? = some (Out.mgmt m.role 0x034 Resp.ok (bytesOf 4 ((readSlots u.flash.cask count
    first (first + count) [] 0).1 % 2 ^ 32) ++ bytesOf 2 (readSlots u.flash.cask count first (first + count) [] 0).2.1.length ++ bytesOf
    2 (readSlots u.flash.cask count first (first + count) [] 0).2.2 ++ (readSlots u.flash.cask count first (first + count) []
    0).2.1.flatMap slotBytes)) ∧ t.flash.cask = u.flash.cask) ∧
  (∀ (s : State) (m : Msg) (u : State) (first count : Nat), takesUp s { code := 0x034, feature := 4, bulk := true, duty := 3 : Order } m
    = some u → u.on R.REC_STATUS.frozen = false → Does (.recorderRead m first count) s fun t => t.out.head? = some (Out.mgmt m.role
    0x034 Resp.invalid ([])) ∧ t.flash = u.flash)

/-- CLEAR_LATCH (R215, R282, R298, R299, R300, R304, R337, R374). Each kind of CLEAR_LATCH clears what it names: a failed fan or pump
starts, a valve's flag falls, the model's mark is removed, a dry wet zone is cleared and one not dry is INVALID, a LATCHED link goes to
WAIT, a halted processor restarts, and the hub latch is released. -/
def Obligations.LatchMessages : Prop :=
  (∀ (s : State) (m : Msg) (u : State) (i : Nat), takesUp s { code := 0x042 : Order } m = some u → i < 8 → fanState u i = 4 → Does
    (.clearLatchFan m i) s fun t => t.out.head? = some (Out.mgmt m.role 0x042 Resp.ok ([])) ∧ fanState t i = 2) ∧
  (∀ (s : State) (m : Msg) (u : State) (i : Nat), takesUp s { code := 0x042 : Order } m = some u → i < 2 → pumpFailed u i = true → Does
    (.clearLatchPump m i) s fun t => t.out.head? = some (Out.mgmt m.role 0x042 Resp.ok ([])) ∧ pumpFailed t i = false) ∧
  (∀ (s : State) (m : Msg) (u : State) (i : Nat), takesUp s { code := 0x042 : Order } m = some u → i < 8 → Does (.clearLatchValve m i) s
    fun t => t.out.head? = some (Out.mgmt m.role 0x042 Resp.ok ([])) ∧ t.rd (R.COOL_VALVE.flagged i) = 0) ∧
  (∀ (s : State) (m : Msg) (u : State) (i : Nat), takesUp s { code := 0x042 : Order } m = some u → i = 0 → Does (.clearLatchModel m i) s
    fun t => t.out.head? = some (Out.mgmt m.role 0x042 Resp.ok ([])) ∧ t.rd R.COOL_STATUS.implausible = 0) ∧
  (∀ (s : State) (m : Msg) (u : State) (i : Nat), takesUp s { code := 0x042 : Order } m = some u → i < 8 → (u.rd
    R.LEAK_STATUS.wet).testBit i = true → zoneDry u i = true → Does (.clearLatchZone m i) s fun t => t.out.head? = some (Out.mgmt m.role
    0x042 Resp.ok ([])) ∧ (t.rd R.LEAK_STATUS.wet).testBit i = false) ∧
  (∀ (s : State) (m : Msg) (u : State) (i : Nat), takesUp s { code := 0x042 : Order } m = some u → i < 8 → (u.rd
    R.LEAK_STATUS.wet).testBit i = true → zoneDry u i = false → Does (.clearLatchZone m i) s fun t => t.out.head? = some (Out.mgmt
    m.role 0x042 Resp.invalid ([])) ∧ (t.rd R.LEAK_STATUS.wet).testBit i = true) ∧
  (∀ (s : State) (m : Msg) (u : State) (i : Nat), takesUp s { code := 0x042 : Order } m = some u → i < 16 → u.linkState (linkOf (i / 8)
    (i % 8)) = 5 → Does (.clearLatchLink m i) s fun t => t.out.head? = some (Out.mgmt m.role 0x042 Resp.ok ([])) ∧ t.linkState (linkOf
    (i / 8) (i % 8)) = 1) ∧
  (∀ (s : State) (m : Msg) (u : State) (i : Nat), takesUp s { code := 0x042 : Order } m = some u → i < 8 → u.rd (R.FW_PROC.state i) = 3
    → Does (.clearLatchProcessor m i) s fun t => t.out.head? = some (Out.mgmt m.role 0x042 Resp.ok ([])) ∧ t.rd (R.FW_PROC.state i) = 2
    ∧ (tget t.fw.procs i).crashes = []) ∧
  (∀ (s : State) (m : Msg) (u : State) (i : Nat), takesUp s { code := 0x042 : Order } m = some u → i = 0 → Does (.clearLatchHubHold m i)
    s fun t => t.out.head? = some (Out.mgmt m.role 0x042 Resp.ok ([])) ∧ t.rd R.ERR_STATUS.hub_latched = 0)

/-- The management port and acting alone (R37, R389, R409, R410). Neither commander heard for the silence time, the device acts alone; the
port answers echo and discovery, reassembles up to eight datagrams for 100 ms each, and is down while nothing may pass. -/
def Obligations.PortCommands : Prop :=
  (∀ (s : State), s.on R.MGT_STATUS.alone = false → s.sup.wardenOn = true → s.rd R.MGT_CFG.silence ≤ s.silence .host → s.rd
    R.MGT_CFG.silence ≤ s.silence .rackManager → Does (.actAlone) s fun t => t.rd R.MGT_STATUS.alone = 1 ∧ t.cool.valveCmd =
    s.cool.valveCmd ∧ t.out = s.out) ∧
  (∀ (s : State) (source ident : Nat), portTakes s = true → Does (.icmpv6Echo source ident) s fun t => t = s.emit (Out.icmp source ident
    0)) ∧
  (∀ (s : State) (source : Nat), portTakes s = true → Does (.neighbourDiscovery source true) s fun t => t = s.emit (Out.icmp source 0
    2)) ∧
  (∀ (s : State) (id need len : Nat), portTakes s = true → need ≤ 4448 → s.mgt.reassemblies.find? (fun (r : Reassembly) => r.id = id) =
    none → len < need → s.mgt.reassemblies.length < 8 → Does (.datagramFragment id need len) s fun t => t =
    { s with mgt := { s.mgt with reassemblies := s.mgt.reassemblies ++ [{ id := id, since := s.now, need := need, have_ := len : Reassembly }] } }) ∧
  (∀ (s : State) (id : Nat), Does (.reassemblyTimeout id) s fun t => t =
    { s with mgt := { s.mgt with reassemblies := s.mgt.reassemblies.filter (fun (r : Reassembly) => r.id != id || decide (s.now < r.since + 100000)) } }) ∧
  (∀ (s : State) (up : Bool), Does (.managementPortLink up) s fun t => t = s.wr R.MGT_STATUS.port_up (b2n (up && s.sup.wardenOn && !
    s.sup.portDown && ! s.sup.romHold)))

/-- Block transfers (R454, R455, R456). UPDATE_BEGIN opens a transfer and its region is INCOMPLETE from then on; each block is received
once; UPDATE_END closes it as WRITTEN or names the first block missing; an idle one is abandoned. -/
def Obligations.BlockTransfers : Prop :=
  (∀ (s : State) (m : Msg) (u : State) (typ length : Nat) (abort : Bool), takesUp s { code := 0x050, loader := true : Order } m = some u
    → lengthOk typ length = true → typ ≠ 1 → u.upd.xfer = none ∨ abort = true → Does (.updateBegin m typ abort length) s fun t =>
    t.out.head? = some (Out.mgmt m.role 0x050 Resp.ok ([])) ∧ t.upd.xfer = some ({ typ := typ, length := length, heardAt := u.now } :
    Xfer) ∧ t.flash.incomplete.testBit typ = true ∧ t.flash.written.testBit typ = false ∧ t.rd R.UPD_STATUS.erasing = 1 ∧ t.rd
    R.UPD_XFER.kind = 1) ∧
  (∀ (s : State) (m : Msg) (u : State) (length : Nat) (abort : Bool), takesUp s { code := 0x050, loader := true : Order } m = some u →
    lengthOk 1 length = true → u.lifeState ≠ 1 → Does (.updateBegin m 1 abort length) s fun t => t.out.head? = some (Out.mgmt m.role
    0x050 Resp.denied ([])) ∧ t.upd = u.upd ∧ t.flash = u.flash) ∧
  (∀ (s : State) (m : Msg) (u : State) (offset length : Nat) (x : Xfer), takesUp s
    { code := 0x051, bulk := true, loader := true : Order } m = some u → blockXfer u = some x → offset % 4096 = 0 → offset < x.length →
    length = min 4096 (x.length - offset) → u.on R.UPD_STATUS.erasing = false → x.got.testBit (offset / 4096) = false → Does
    (.updateBlock m offset length true) s fun t => t.out.head? = some (Out.mgmt m.role 0x051 Resp.ok ([])) ∧ (t.upd.xfer.any (fun (y :
    Xfer) => y.got == setBit x.got (offset / 4096) true && y.heardAt == u.now)) = true ∧ t.rd R.UPD_XFER_DONE.count = (u.rd
    R.UPD_XFER_DONE.count + 1) % 2 ^ 32) ∧
  (∀ (s : State) (m : Msg) (u : State) (offset length : Nat) (ok : Bool), takesUp s
    { code := 0x051, bulk := true, loader := true : Order } m = some u → blockXfer u = none → Does (.updateBlock m offset length ok) s
    fun t => t.out.head? = some (Out.mgmt m.role 0x051 Resp.invalid ([])) ∧ t.flash = u.flash) ∧
  (∀ (s : State) (m : Msg) (u : State) (stage : StageFile) (x : Xfer), takesUp s { code := 0x052, loader := true : Order } m = some u →
    blockXfer u = some x → x.got = 2 ^ divUp x.length 4096 - 1 → Does (.updateEnd m stage) s fun t => t.out.head? = some (Out.mgmt
    m.role 0x052 Resp.ok ([])) ∧ t.upd.xfer = none ∧ t.flash.written.testBit x.typ = true ∧ t.flash.incomplete.testBit x.typ = false ∧
    t.rd R.UPD_XFER.kind = 0) ∧
  (∀ (s : State) (m : Msg) (u : State) (stage : StageFile) (x : Xfer), takesUp s { code := 0x052, loader := true : Order } m = some u →
    blockXfer u = some x → x.got ≠ 2 ^ divUp x.length 4096 - 1 → Does (.updateEnd m stage) s fun t => t.out.head? = some (Out.mgmt
    m.role 0x052 Resp.invalid (bytesOf 8 (4096 * firstMissing x.got))) ∧ t.flash = u.flash ∧ t.upd.xfer.isSome = true) ∧
  (∀ (s : State), Does (.regionEraseComplete) s fun t => t = s.wr R.UPD_STATUS.erasing 0) ∧
  (∀ (s : State) (x : Xfer), blockXfer s = some x → x.heardAt + s.rd R.UPD_XFER_CFG.idle * 1000000 ≤ s.now → Does (.transferIdleExpire)
    s fun t => t.upd.xfer = none ∧ t.rd R.UPD_STATUS.abandoned = 1 ∧ t.flash.incomplete = s.flash.incomplete)

/-- Custody and trickle transfers (R457, R458). A custodian opens, loads, publishes and withdraws a skeined image, and publishes only one
loaded whole; a target takes up a header for it once, reads the first missing skein at its rate, and has the image WRITTEN with the last.
-/
def Obligations.SkeinAndTrickle : Prop :=
  (∀ (s : State) (m : Msg) (u : State) (h : CustodyHeader), takesUp s { code := 0x053, feature := 3, bulk := true : Order } m = some u →
    custodian u h.length = true → 1 ≤ h.typ ∧ h.typ ≤ 6 → h.id ≠ 0 → lineServed u (custodyBase u) = true → Does (.skeinOpen m h) s fun t
    => t.out.head? = some (Out.mgmt m.role 0x053 Resp.ok ([])) ∧ t.upd.custody = some { h with published := false } ∧ t.upd.loaded = 0) ∧
  (∀ (s : State) (m : Msg) (u : State) (offset : Nat) (data : List Nat) (h : CustodyHeader), takesUp s
    { code := 0x053, feature := 3, bulk := true : Order } m = some u → custodian u 0 = true → offset % 256 = 0 → data.length % 256 = 0 →
    256 ≤ data.length ∧ data.length ≤ 4096 → u.upd.custody = some h → offset / 256 + data.length / 256 ≤ divUp h.length 256 → ((linesOf
    (custodyBase u + 4096 + offset) data.length).all (fun (l : Nat) => lineServed u (l * 256))) = true → Does (.skeinLoad m offset data)
    s fun t => t.out.head? = some (Out.mgmt m.role 0x053 Resp.ok ([])) ∧ t.upd.loaded = setUnion u.upd.loaded ((2 ^ (data.length / 256)
    - 1) * 2 ^ (offset / 256)) ∧ t.upd.custody = some h) ∧
  (∀ (s : State) (m : Msg) (u : State) (h : CustodyHeader), takesUp s { code := 0x053, feature := 3, bulk := true : Order } m = some u →
    custodian u 0 = true → u.upd.custody = some h → u.upd.loaded = 2 ^ divUp h.length 256 - 1 → lineServed u (custodyBase u) = true →
    Does (.skeinPublish m) s fun t => t.out.head? = some (Out.mgmt m.role 0x053 Resp.ok ([])) ∧ t.upd.custody = some
    { h with published := true } ∧ t.upd.loaded = u.upd.loaded) ∧
  (∀ (s : State) (m : Msg) (u : State) (h : CustodyHeader), takesUp s { code := 0x053, feature := 3, bulk := true : Order } m = some u →
    custodian u 0 = true → u.upd.custody = some h → u.upd.loaded ≠ 2 ^ divUp h.length 256 - 1 → Does (.skeinPublish m) s fun t =>
    t.out.head? = some (Out.mgmt m.role 0x053 Resp.invalid ([])) ∧ t.upd.custody = some h) ∧
  (∀ (s : State) (m : Msg) (u : State) (h : CustodyHeader), takesUp s { code := 0x053, feature := 3, bulk := true : Order } m = some u →
    custodian u 0 = true → u.upd.custody = some h → lineServed u (custodyBase u) = true → Does (.skeinWithdraw m) s fun t => t.out.head?
    = some (Out.mgmt m.role 0x053 Resp.ok ([])) ∧ t.upd.custody = some { h with published := false } ∧ t.upd.loaded = u.upd.loaded) ∧
  (∀ (s : State) (h : CustodyHeader), isTarget s = true → s.upd.pollAt = 0 → s.upd.xfer = none → h.published = true → h.lo ≤ s.tree.hub
    ∧ s.tree.hub ≤ h.hi → h.id ≠ s.flash.trickleDone ∧ h.id ≠ s.flash.trickleAbandoned → s.flash.trickle = none → h.typ ≠ 1 ∧ lengthOk
    h.typ h.length = true → Does (.tricklePoll (some h)) s fun t => t.upd.xfer = some
    ({ trickle := true, typ := h.typ, length := h.length } : Xfer) ∧ t.flash.trickle = some
    ({ id := h.id, typ := h.typ, length := h.length } : Trickle) ∧ t.flash.incomplete.testBit h.typ = true ∧ t.upd.pollAt = max 1 s.now) ∧
  (∀ (s : State) (x : Xfer), trickleXfer s = some x → isTarget s = true → x.paused = false → s.on R.UPD_STATUS.erasing = false →
    s.upd.pullAt + 1000000 / max 1 (s.rd R.UPD_TRICKLE_CFG.rate) ≤ s.now → Does (.tricklePull) s fun t => t.out = Out.skeinRead
    (firstMissing x.got) :: s.out ∧ t.upd.pullAt = s.now ∧ t.regs = s.regs) ∧
  (∀ (s : State) (i : Nat) (page : Option Bool) (stage : StageFile) (x : Xfer), trickleXfer s = some x → x.paused = false → s.on
    R.UPD_STATUS.erasing = false → i < divUp x.length 256 → page ≠ some false → x.got.testBit i = false → setBit x.got i true ≠ 2 ^
    divUp x.length 256 - 1 → Does (.skeinReceive i true page stage) s fun t => t.upd.xfer = some { x with got := setBit x.got i true } ∧
    t.rd R.UPD_XFER_DONE.count = (s.rd R.UPD_XFER_DONE.count + 1) % 2 ^ 32) ∧
  (∀ (s : State) (i : Nat) (page : Option Bool) (stage : StageFile) (x : Xfer), trickleXfer s = some x → x.paused = false → s.on
    R.UPD_STATUS.erasing = false → i < divUp x.length 256 → page ≠ some false → x.got.testBit i = false → setBit x.got i true = 2 ^
    divUp x.length 256 - 1 → Does (.skeinReceive i true page stage) s fun t => t.upd.xfer = none ∧ t.flash.written.testBit x.typ = true
    ∧ t.flash.trickle = none ∧ t.flash.trickleDone = (s.flash.trickle.map Trickle.id).getD 0)

/-- Activation, pushes and versions (R460, R461, R463, R465, R466, R467). ACTIVATE verifies the images it names and restarts their
processors, or refuses with the reason and restarts nothing; a full restart holds the rails and resets the dies; a push goes on chunk by
chunk, and one refused or late ends; a security version counter rises after 600 s of an image's running. -/
def Obligations.ActivationAndPushes : Prop :=
  (∀ (s : State) (m : Msg) (u : State) (code : CodeImages), takesUp s { code := 0x054, loader := true : Order } m = some u → u.upd.xfer
    = none → u.itg.containAt = none → u.seq.state ≠ 3 → u.rd R.UPD_STATUS.loader = 1 → u.flash.incomplete.testBit 2 = false →
    imageVerdict u 2 code.warden = none → Does (.activateWarden m 1 code) s fun t => t.out.head? = some (Out.mgmt m.role 0x054 Resp.ok
    ([])) ∧ (∀ p ∈ List.range 4, u.rd (R.FW_PROC.state p) ≠ 3 → t.rd (R.FW_PROC.state p) = 2) ∧ t.upd.act = some (1, 8) ∧ t.upd.features
    = setBit code.features 0 true ∧ t.rd R.SEC_STATUS.activated = 1) ∧
  (∀ (s : State) (m : Msg) (u : State) (code : CodeImages) (r : Nat), takesUp s { code := 0x054, loader := true : Order } m = some u →
    u.upd.xfer = none → u.itg.containAt = none → u.seq.state ≠ 3 → u.rd R.UPD_STATUS.loader = 1 → u.flash.incomplete.testBit 2 = false →
    imageVerdict u 2 code.warden = some r → Does (.activateWarden m 1 code) s fun t => t.out.head? = some (Out.mgmt m.role 0x054
    Resp.invalid ([r])) ∧ (∀ p ∈ List.range 8, t.rd (R.FW_PROC.state p) = u.rd (R.FW_PROC.state p)) ∧ t.rd R.UPD_STATUS.verify_fail = 1) ∧
  (∀ (s : State) (m : Msg) (u : State) (code : CodeImages), takesUp s { code := 0x054, loader := true : Order } m = some u → u.upd.xfer
    = none → u.itg.containAt = none → u.seq.state ≠ 3 → u.rd R.UPD_STATUS.loader = 1 → u.flash.incomplete.testBit 3 = false →
    imageVerdict u 3 code.hubctl = none → u.rd (R.FW_PROC.state 4) = 1 → procAbsent u 4 = false → Does (.activateHubctl m 2 code) s fun
    t => t.out.head? = some (Out.mgmt m.role 0x054 Resp.ok ([])) ∧ t.rd (R.FW_PROC.state 4) = 2 ∧ t.rd (R.FW_PROC.last_cause 4) = 6 ∧ (∀
    p ∈ List.range 4, t.rd (R.FW_PROC.state p) = u.rd (R.FW_PROC.state p)) ∧ t.upd.act = some (0, 5)) ∧
  (∀ (s : State) (m : Msg) (u : State), takesUp s { code := 0x054, loader := true : Order } m = some u → u.upd.xfer = none →
    u.itg.containAt = none → u.seq.state ≠ 3 → Does (.activateFullRestart m 4) s fun t => t.out.head? = some (Out.mgmt m.role 0x054
    Resp.ok ([])) ∧ t.rd R.UPD_STATUS.loader = 0 ∧ t.rd R.CFG_STATUS.full_restart = 1 ∧ t.anyDieUp = false ∧ t.seq.en = u.seq.en ∧
    t.seq.verified = false) ∧
  (∀ (s : State) (slot : Nat) (p : Push), pushOf s slot = some p → p.done + 1 < p.chunks → Does (.pushChunkStatus slot 0) s fun t =>
    t.out = Out.push slot (p.done + 1) :: s.out ∧ (t.upd.pushes.any (fun (q : Push) => q.slot == slot && q.comp == p.comp && q.done ==
    p.done + 1 && q.at_ == s.now)) = true) ∧
  (∀ (s : State) (slot : Nat) (p : Push), pushOf s slot = some p → Does (.pushChunkStatus slot 3) s fun t => (t.upd.pushes.any (fun (q :
    Push) => q.slot == slot && q.comp == p.comp)) = false ∧ t.upd.refusedSlots.testBit p.slot = true) ∧
  (∀ (s : State) (slot : Nat) (p : Push), pushOf s slot = some p → p.done < p.chunks → p.at_ + 100000 ≤ s.now → Does (.pushTimeout slot)
    s fun t => (t.upd.pushes.any (fun (q : Push) => q.slot == slot && q.comp == p.comp)) = false ∧ t.upd.refusedSlots.testBit p.slot =
    true) ∧
  (∀ (s : State) (typ at_ v : Nat), 1 ≤ typ ∧ typ ≤ 6 → tfind s.upd.svnAt typ = some at_ → ranSince s typ at_ + 600000000 ≤ s.now → v =
    s.rd (R.UPD_SVN.running (typ - 1)) → tget s.otp.svn typ < v → Does (.svnAdvance typ true) s fun t => tget t.otp.svn typ = v ∧ t.rd
    (R.UPD_SVN.counter (typ - 1)) = v % 256 ∧ tfind t.upd.svnAt typ = none) ∧
  (∀ (s : State), s.procUp 0 = true → Does (.settingsCompact) s fun t => t =
    { s with flash := { s.flash with generation := (s.flash.generation + 1) % 2 ^ 32 } })

/-- The life cycle (R471, R478, R479, R480, R481, R482, R483). An accepted statement writes the marker, the keys or the revoke bit that
its operation names, and a consent is held for 3,600 s; a refused one writes no OTP and shows its reason; maker test programs a BLANK
part. -/
def Obligations.LifeCycleCommands : Prop :=
  (∀ (s : State) (m : Msg) (u : State) (slot digest : Nat), takesUp s { code := 0x061, feature := 9 : Order } m = some u → slot < 4 →
    Does (.keyStage m slot digest) s fun t => t.out.head? = some (Out.mgmt m.role 0x061 Resp.ok ([])) ∧ tget t.sec.staged slot = digest
    ∧ (t.rd R.SEC_KEYS.staged).testBit slot = true) ∧
  (∀ (s : State) (m : Msg) (u : State) (st : Statement), takesUp s { code := 0x061, feature := 9 : Order } m = some u → statementOk
    LifeOp.provision st = true → lifeRefusal u LifeOp.provision st = none → Does (.provision m st) s fun t => t.out.head? = some
    (Out.mgmt m.role 0x061 Resp.ok ([])) ∧ tget t.otp.markers (if highestMarker u.otp = 1 then 2 else 5) &&& 7 = 7 ∧ (if highestMarker
    u.otp = 1 then t.otp.owner0 else t.otp.owner1) = (List.range 4).map (fun (i : Nat) => st.owners.getD i 0)) ∧
  (∀ (s : State) (m : Msg) (u : State) (st : Statement), takesUp s { code := 0x061, feature := 9 : Order } m = some u → statementOk
    LifeOp.deploy st = true → lifeRefusal u LifeOp.deploy st = none → Does (.deploy m st) s fun t => t.out.head? = some (Out.mgmt m.role
    0x061 Resp.ok ([])) ∧ tget t.otp.markers (highestMarker u.otp + 1) &&& 7 = 7 ∧ t.rd R.SEC_STATUS.state = markerState (highestMarker
    u.otp + 1) ∧ t.rd R.SEC_DEBUG.scope = 0) ∧
  (∀ (s : State) (m : Msg) (u : State) (st : Statement), takesUp s { code := 0x061, feature := 9 : Order } m = some u → statementOk
    LifeOp.consent st = true → lifeRefusal u LifeOp.consent st = none → Does (.returnConsent m st) s fun t => t.out.head? = some
    (Out.mgmt m.role 0x061 Resp.ok ([])) ∧ t.sec.consent = some (st.key, u.now) ∧ t.rd R.SEC_STATUS.consent = 1 ∧ t.rd R.SEC_CONSENT.key
    = st.key ∧ t.otp = u.otp) ∧
  (∀ (s : State) (m : Msg) (u : State) (st : Statement), takesUp s { code := 0x061, feature := 9 : Order } m = some u → statementOk
    LifeOp.return_ st = true → lifeRefusal u LifeOp.return_ st = none → Does (.returnPart m st) s fun t => t.out.head? = some (Out.mgmt
    m.role 0x061 Resp.ok ([])) ∧ tget t.otp.markers (if highestMarker u.otp < 4 then 4 else 7) &&& 7 = 7) ∧
  (∀ (s : State) (m : Msg) (u : State) (st : Statement), takesUp s { code := 0x061, feature := 9 : Order } m = some u → statementOk
    LifeOp.retire st = true → lifeRefusal u LifeOp.retire st = none → Does (.retire m st) s fun t => t.out.head? = some (Out.mgmt m.role
    0x061 Resp.ok ([])) ∧ tget t.otp.markers 8 &&& 7 = 7) ∧
  (∀ (s : State) (m : Msg) (u : State) (st : Statement), takesUp s { code := 0x061, feature := 9 : Order } m = some u → statementOk
    LifeOp.revoke st = true → lifeRefusal u LifeOp.revoke st = none → st.revSigner = 0 → Does (.revoke m st) s fun t => t.out.head? =
    some (Out.mgmt m.role 0x061 Resp.ok ([])) ∧ t.otp = { u.otp with makerRevoked := u.otp.makerRevoked ||| 2 ^ st.revKey } ∧ t.rd
    R.SEC_KEYS.maker_revoked = (u.otp.makerRevoked ||| 2 ^ st.revKey) % 16) ∧
  (∀ (s : State) (m : Msg) (u : State) (st : Statement) (why : Nat × Resp), takesUp s { code := 0x061, feature := 9 : Order } m = some u
    → statementOk LifeOp.retire st = true → lifeRefusal u LifeOp.retire st = some why → Does (.retire m st) s fun t => t.otp = u.otp ∧
    t.rd R.SEC_LAST_REFUSE.reason = why.1 % 64 ∧ t.rd R.SEC_LAST_REFUSE.valid = 1) ∧
  (∀ (s : State), s.sec.consent.isSome = true → consentValid s = false → Does (.consentLapse) s fun t => t.sec.consent = none ∧ t.rd
    R.SEC_STATUS.consent = 0 ∧ t.otp = s.otp) ∧
  (∀ (s : State) (d : MakerData), s.lifeState = 0 → s.sup.wardenOn = true → Does (.makerProgramming d) s fun t => t.otp.makerKeys =
    (List.range 4).map (fun (i : Nat) => d.makerKeys.getD i 0) ∧ t.otp.secret = d.secret ∧ t.otp.serial = d.serial ∧ t.otp.trims =
    d.trims ∧ tget t.otp.markers 1 &&& 7 = 7 ∧ t.rd R.SEC_STATUS.state = 1)

/-- Attestation and debug access (R474, R481, R484, R485, R486, R488). A report and a certificate are answered as they stand, the
signature free; a token that R485 accepts opens its scope and advances its counter, a refused one opens nothing; LOCK and the token's
limit close debug access; a halt by debug makes its processor restart. -/
def Obligations.AttestationAndDebug : Prop :=
  (∀ (s : State) (m : Msg) (u : State) (nonce : Nat), takesUp s { code := 0x060, feature := 8 : Order } m = some u → Does (.attestReport
    m nonce) s fun t => t.out.head? = some (Out.mgmt m.role 0x060 Resp.ok (reportBytes u nonce ++ bytesOf 3309 (Config.freeBody
    u.freeCtr 0) ++ [0, 0, 0])) ∧ t.freeCtr = u.freeCtr + 1 ∧ t.otp = u.otp) ∧
  (∀ (s : State) (m : Msg) (u : State) (offset : Nat), takesUp s { code := 0x060, feature := 8 : Order } m = some u → offset = 0 ∨
    offset = 4096 → Does (.attestCertificate m offset) s fun t => t.out.head? = some (Out.mgmt m.role 0x060 Resp.ok (bytesOf 4 5328 ++
    bytesOf (min 4096 (5328 - offset)) (certificate u / 2 ^ (8 * offset)))) ∧ t.otp = u.otp) ∧
  (∀ (s : State) (m : Msg) (u : State) (k : Token), takesUp s { code := 0x061, feature := 9 : Order } m = some u → tokenOk k = true →
    tokenRefusal u k = none → Does (.unlock m k) s fun t => t.out.head? = some (Out.mgmt m.role 0x061 Resp.ok ([])) ∧ t.rd
    R.SEC_DEBUG.scope = k.scope ∧ t.rd R.SEC_DEBUG.source = (if k.signer = 1 then 1 else 2) ∧ t.rd R.SEC_DEBUG_UNTIL.seconds = k.limit %
    2 ^ 32 ∧ tget t.flash.tokenCtr (signerSlot u k.signer k.key) = k.counter) ∧
  (∀ (s : State) (m : Msg) (u : State) (k : Token) (why : Nat × Resp), takesUp s { code := 0x061, feature := 9 : Order } m = some u →
    tokenOk k = true → tokenRefusal u k = some why → Does (.unlock m k) s fun t => t.rd R.SEC_DEBUG.scope = u.rd R.SEC_DEBUG.scope ∧
    t.flash.tokenCtr = u.flash.tokenCtr) ∧
  (∀ (s : State) (m : Msg) (u : State), takesUp s { code := 0x061, feature := 9 : Order } m = some u → u.rd R.SEC_DEBUG.source ≠ 0 →
    Does (.lock m) s fun t => t.out.head? = some (Out.mgmt m.role 0x061 Resp.ok ([])) ∧ t.rd R.SEC_DEBUG.scope = 0 ∧ t.rd
    R.SEC_DEBUG.source = 0 ∧ t.rd R.SEC_DEBUG_UNTIL.seconds = 0xFFFFFFFF ∧ t.rd R.SEC_STATUS.debug_halt = 0) ∧
  (∀ (s : State), s.rd R.SEC_DEBUG_UNTIL.seconds ≠ 0xFFFFFFFF → s.rd R.SEC_DEBUG_UNTIL.seconds ≤ s.rd R.REC_SECONDS.seconds → s.rd
    R.SEC_DEBUG.source ≠ 0 → Does (.debugLimitExpire) s fun t => t.rd R.SEC_DEBUG.scope = 0 ∧ t.rd R.SEC_DEBUG.source = 0 ∧ t.rd
    R.SEC_STATUS.debug_halt = 0) ∧
  (∀ (s : State) (k : Token), s.sup.wardenOn = true → tokenOk k = true → tokenRefusal s k = none → Does (.tokenShift k) s fun t => t.rd
    R.SEC_DEBUG.scope = k.scope ∧ t.rd R.SEC_DEBUG.source = (if k.signer = 1 then 1 else 2) ∧ tget t.flash.tokenCtr (signerSlot s
    k.signer k.key) = k.counter) ∧
  (∀ (s : State) (p : Nat), p < 8 → s.procUp p = true → procAbsent s p = false → (s.rd R.SEC_DEBUG.scope).testBit 0 = true → Does
    (.debugHalt p) s fun t => t.rd (R.FW_PROC.state p) = 2 ∧ (tget t.fw.procs p).debugHalt = true ∧ t.rd R.SEC_STATUS.debug_halt = 1)

/-- A domain request under a kiln trip (R34). A request by anyone to switch on a domain of a die whose kiln trip is active is refused,
with an answer other than OK, and changes nothing else, so the domain stays off and nothing is retained: the end of the trip starts no
domain, and no other request for the die's domains starts one. -/
def Obligations.KilnTrippedDieStaysOff : Prop :=
  (∀ (s : State) (a : Agent) (d n : Nat), kilnActive s d = true →
    Does (.domainSwitchRequest a d n) s fun t => ∃ r, r ≠ Resp.ok ∧ t = s.answer r 0 0) ∧
  (∀ (s : State) (d set : Nat), kilnActive s d = true → requestDomains s d set = s) ∧
  (∀ (s : State) (d a b at_ : Nat), d < 2 → kilnActive s d = true → toSigned 16 a < 800 → toSigned 16 b < 800 → tfind s.cool.kilnLow d = some at_ →
    at_ + 1000000 ≤ s.now → Does (.kilnTripClear ⟨d, a, b⟩) s fun t => kilnActive t d = false ∧
      ∀ e, (tget t.sup.dies e).starting = (tget s.sup.dies e).starting ∧ ∀ n, t.domainOn e n = s.domainOn e n)

/-- Unassigned offsets and offsets outside the blocks (R12). An aligned read of an unassigned offset inside a defined block answers 0 and
a write to one is answered OK, and neither changes anything; a read or a write of an offset outside every defined block is answered
INVALID. An offset of a hub die's block is looked at where its die runs (R508), and a host-stamped write where the host holds the session
(R177). -/
def Obligations.UnassignedOffsets : Prop :=
  (∀ (s : State) (a : Agent) (off : Nat), off % 4 = 0 → inRegBlock off = true → regAt off = none → (∀ d, offDie off = some d → s.dieUp d = true) →
    Does (.readClear a off) s (fun t => t = s.answer .ok 0 0) ∧ Does (.latchedLowRead a off) s fun t => t = s.answer .ok 0 0) ∧
  (∀ (s : State) (a : Agent) (off v : Nat), off % 4 = 0 → inRegBlock off = true → regAt off = none → (∀ d, offDie off = some d → s.dieUp d = true) →
    (a = .host → (s.mgt.session.any fun (q : Session) => q.role == Role.host) = true) → Does (.registerWrite a off v) s fun t => t = s.answer .ok 0 0) ∧
  (∀ (s : State) (a : Agent) (off v : Nat), inRegBlock off = false →
    Does (.readClear a off) s (fun t => t = s.answer .invalid 0 0) ∧
    Does (.latchedLowRead a off) s (fun t => t = s.answer .invalid 0 0) ∧ Does (.registerWrite a off v) s fun t => t = s.answer .invalid 0 0)

/-- The registers of a die that does not run (R508, R195). A read or a write by Steward of an aligned offset in a block of a die that does
not run is answered RETRY with the hint of 10 µs and has no other effect, unless the block denies a write by its own rule; through the
management window of the other die the hint is that die's MEM_OPEN_CFG.retry_hint, and with neither die running nothing happens. -/
def Obligations.StoppedDieRegistersRetry : Prop :=
  (∀ (s : State) (off d : Nat), off % 4 = 0 → inRegBlock off = true → offDie off = some d → s.dieUp d = false →
    Does (.readClear .steward off) s (fun t => t = s.answer .retry 0 10) ∧
    Does (.readClear .window off) s fun t => t = if s.dieUp (1 - d) = true then s.answer .retry 0 (s.rd (R.MEM_OPEN_CFG.retry_hint (1 - d))) else s) ∧
  (∀ (s : State) (off d v : Nat), off % 4 = 0 → inRegBlock off = true → offDie off = some d → s.dieUp d = false →
    Does (.registerWrite .steward off v) s fun t =>
      t = s.answer .retry 0 10 ∨ regAt off ≠ none ∧ writeDenied s .steward off = true ∧ t = s.answer .denied 0 0)

/-- A die above 105 °C (R292). The time since which a running die's hottest reading has stayed above 105 °C is kept from the first reading
above and dropped at the first one at or below; once it has stayed above for 1 s, OVER_JUNCTION, once, sets COOL_STATUS.over_junction,
writes an error record of alarm severity, which raises an alarm, and takes no other action; before that it does nothing. -/
def Obligations.OverJunctionReported : Prop :=
  (∀ (s : State) (d : Nat) (temps : List Nat) (i : Nat) (v : Int), s.dieUp d = true → hottest (temps.take 48) = some (i, v) → Does
    (.hubThermalThrottle d temps) s fun t => tfind t.cool.overSince d = (if 840 < v then some (tgetD s.cool.overSince d s.now) else
    none) ∧ t.out = s.out ∧ t.itg = s.itg) ∧
  (∀ (s : State) (d at_ : Nat), s.dieUp d = true → tfind s.cool.overSince d = some at_ → at_ + 1000000 ≤ s.now →
    s.cool.overNoted.testBit d = false → Does (.overJunction d) s fun t => t.rd R.COOL_STATUS.over_junction = 1 ∧ Recorded s t (0x1000 *
    (d + 1) + 0x70 + s.rd (if d = 0 then R.MON_DTS_H0.index else R.MON_DTS_H1.index)) 0 0x0C 3 0 ∧ t.cool.overNoted.testBit d = true ∧ t
    =
    { s.err (0x1000 * (d + 1) + 0x70 + s.rd (if d = 0 then R.MON_DTS_H0.index else R.MON_DTS_H1.index)) 0 0x0C 3 0 with regs := t.regs, cool := { s.cool with overNoted := setBit s.cool.overNoted d true } }
    ∧ RegsBut (R.COOL_STATUS.over_junction :: recordFields) s t) ∧
  (∀ (s : State) (d at_ : Nat), tfind s.cool.overSince d = some at_ → s.now < at_ + 1000000 → Does (.overJunction d) s fun t => t = s) ∧
  (∀ (s : State) (d : Nat), tfind s.cool.overSince d = none → Does (.overJunction d) s fun t => t = s)

/-- Unguarded zones (R305). LEAK_SAMPLE keeps, for each fitted loop sampled, since when it has decoded open or short, out of band, and
dry. A zone one of whose loops has decoded open or short for 100 ms or out of band for 1 s is marked unguarded, LEAK_UNGUARD_COUNT
advances and an alarm record is written; no rail and no enable changes, and the zone may be wet. The mark clears once every loop of the
zone has decoded dry for 1 s. -/
def Obligations.UnguardedZones : Prop :=
  (∀ (s : State) (ohms : List Nat) (n r : Nat), n < min 16 s.img.plant.loops → ohms[n]? = some r → Does (.leakSample ohms) s fun t =>
    t.rd (R.LEAK_LOOP.state n) = loopState r ∧ tfind t.leak.brokenSince n = (if loopState r = 2 ∨ loopState r = 3 then some (tgetD
    s.leak.brokenSince n s.now) else none) ∧ tfind t.leak.bandSince n = (if loopState r = 4 then some (tgetD s.leak.bandSince n s.now)
    else none) ∧ tfind t.leak.drySince n = (if loopState r = 0 then some (tgetD s.leak.drySince n s.now) else none)) ∧
  (∀ (s : State) (z n at_ : Nat), z < 8 → (s.rd R.LEAK_STATUS.unguarded).testBit z = false → n ∈ members (zoneOf s z).loops 16 → tfind
    s.leak.brokenSince n = some at_ ∧ at_ + 100000 ≤ s.now ∨ tfind s.leak.bandSince n = some at_ ∧ at_ + 1000000 ≤ s.now → Does
    (.zoneUnguarded z) s fun t => (t.rd R.LEAK_STATUS.unguarded).testBit z = true ∧ t.rd R.LEAK_UNGUARD_COUNT.c.cnt = (if s.rd
    R.LEAK_UNGUARD_COUNT.c.cnt = 2 ^ 32 - 1 then 2 ^ 32 - 1 else s.rd R.LEAK_UNGUARD_COUNT.c.cnt + 1) ∧ (∃ m detail, m ∈ members (zoneOf
    s z).loops 16 ∧ Recorded s t (0x6030 + m) 0 0x0D 3 detail) ∧ t.seq = s.seq ∧ t.leak = s.leak ∧ t.rd R.LEAK_STATUS.wet = s.rd
    R.LEAK_STATUS.wet) ∧
  (∀ (s : State) (z : Nat), ∀ n ∈ members (zoneOf s z).loops 16, (∀ b ∈ tfind s.leak.brokenSince n, s.now < b + 100000) ∧ ∀ b ∈ tfind
    s.leak.bandSince n, s.now < b + 1000000 → Does (.zoneUnguarded z) s fun t => t = s) ∧
  (∀ (s : State) (z : Nat), z < 8 → ∀ n ∈ members (zoneOf s z).loops 16, (tfind s.leak.drySince n).any (fun (b : Nat) => decide (b +
    1000000 ≤ s.now)) = true → Does (.zoneUnguardClear z) s fun t => (t.rd R.LEAK_STATUS.unguarded).testBit z = false ∧ t.rd
    R.LEAK_STATUS.wet = s.rd R.LEAK_STATUS.wet ∧ t.seq = s.seq) ∧
  (∀ (s : State) (z n : Nat), n ∈ members (zoneOf s z).loops 16 → (tfind s.leak.drySince n).all (fun (b : Nat) => decide (s.now < b +
    1000000)) = true → Does (.zoneUnguardClear z) s fun t => t = s)

/-- The unit of an accelerator slot (R350). After a valid identity memory is read, the slot's unit stands under that memory's serial
number; where the number differs from the one kept before, the unit's level is normal and its history and passes are empty; where it is
the same, level, history and passes are as they were. An invalid identity memory changes none of them. -/
def Obligations.NewSerialStartsAfresh : Prop :=
  (∀ (s : State) (slot : Nat) (bytes : List Nat) (m : IdentityMem), slot < 8 → s.accPresent slot = true → s.procUp 0 = true → m =
    decodeIdentity bytes → identityValid m = true → (unitKept s (128 + slot)).serial ≠ m.serial → Does (.identityRead slot bytes) s fun
    t => unitKept t (128 + slot) = ({ serial := m.serial } : UnitKept) ∧ (unitKept t (128 + slot)).level = 0 ∧ (unitLive t (128 +
    slot)).history = [] ∧ (unitLive t (128 + slot)).passed = false) ∧
  (∀ (s : State) (slot : Nat) (bytes : List Nat) (m : IdentityMem), slot < 8 → s.accPresent slot = true → s.procUp 0 = true → m =
    decodeIdentity bytes → identityValid m = true → (unitKept s (128 + slot)).serial = m.serial → Does (.identityRead slot bytes) s fun
    t => unitKept t (128 + slot) = unitKept s (128 + slot) ∧ unitLive t (128 + slot) = unitLive s (128 + slot)) ∧
  (∀ (s : State) (slot : Nat) (bytes : List Nat) (m : IdentityMem), m = decodeIdentity bytes → identityValid m = false → Does
    (.identityRead slot bytes) s fun t => t.flash = s.flash ∧ t.sdc = s.sdc)

/-- The thermal ceiling while the Cooling processor is out (R290, R288, R299). While the Cooling processor does not run, THERMAL_CEILING
changes nothing; a FLOOR_TICK leaves the ceiling as it is, but for a halted processor with F at or above the top breakpoint, where it
becomes 0; once both pumps have failed it is 0, and it stays 0 while no pump runs. -/
def Obligations.ThermalCeilingHeld : Prop :=
  (∀ (s : State), s.procUp 2 = false → Does (.thermalCeiling) s fun t => t = s) ∧
  (∀ (s : State), Does (.floorTick) s fun t => t.cool.f = floorInput s ∧ t.rd R.COOL_THERMAL.ceiling = (if s.rd (R.FW_PROC.state 2) = 3
    ∧ s.img.plant.table ≠ [] ∧ (floorInput s).any (fun (v : Int) => decide (topBreakpoint s ≤ v)) = true then 0 else s.rd
    R.COOL_THERMAL.ceiling)) ∧
  (∀ (s : State), s.procUp 2 = true → s.on R.COOL_STATUS.no_pump = true → Does (.thermalCeiling) s fun t => t.rd R.COOL_THERMAL.ceiling
    = 0) ∧
  (∀ (s : State) (n at_ : Nat), n < 2 → (tget s.cool.pumps n).slowSince = some at_ → at_ + 5000000 ≤ s.now → pumpFailed s n = false →
    pumpFailed s (1 - n) = true → Does (.pumpSpeedFail n) s fun t => t.on R.COOL_STATUS.no_pump = true ∧ t.rd R.COOL_THERMAL.ceiling =
    0)

/-- One step. With a command at the front of the queue a step is exec of that command on the state with the queue's rest. With an empty
queue the warden's time advances by one microsecond and nothing else changes (the model's choice, log 10). -/
def Obligations.StepRunsTheFront : Prop :=
  (∀ (c : Instr) (rest : List Instr) (s : State), step { s with pending := c :: rest } = exec c { s with pending := rest }) ∧
  ∀ s : State, s.pending = [] → step s = .next { s with now := s.now + 1 }

/-- The frame of every command. Every command answers a next state, in which only the parts of the state that its footprint names may
differ; no command changes the queue or the warden's time. -/
def Obligations.CommandFrames : Prop :=
  (∀ (c : Instr) (s : State), Does c s (OnlyIn (footprint c) s)) ∧
  ∀ (c : Instr) (s : State), Does c s fun t => t.pending = s.pending ∧ t.now = s.now

/-- The state after reset (R15, R18, R39, R228, R14). After reset no command waits, both hub dies are in reset with every domain off, the
sequencer is OFF, every accelerator slot is held in reset, no session is open, no pattern is active, and the registers read the Reset
values that their tables give, of which this states one or more in each family. -/
def Obligations.ResetState : Prop :=
  State.reset.pending = [] ∧ State.reset.dieUp 0 = false ∧ State.reset.dieUp 1 = false ∧ State.reset.rd (R.PWR_DOMAIN_H.on 0) = 0 ∧
  State.reset.rd (R.PWR_DOMAIN_H.on 1) = 0 ∧ State.reset.seq.state = 0 ∧ State.reset.rd R.SEQ_HOLD.slot_reset = 0xFF ∧
  State.reset.mgt.session = none ∧ State.reset.activePattern = none ∧ State.reset.rd (R.CAD_STATUS.seeded 1) = 1 ∧
  State.reset.rd (R.CAD_MARK_CFG.tolerance 0) = 0x4000 ∧ State.reset.rd (R.ARR_LOWRANK_CFG.interval 1) = 16 ∧
  State.reset.rd (R.MEM_OPEN_CFG.timeout 0) = 20 ∧ State.reset.rd (R.MEM_OPEN_CFG.retry_hint 0) = 10 ∧ State.reset.rd (R.MEM_QUEUE.weight 1 3) = 1 ∧
  State.reset.rd (R.LNK_CFG.admit_delay 0 5) = 10 ∧ State.reset.rd R.PWR_GAUGE_CFG.start = 40 ∧ State.reset.rd R.PWR_CAPS.host = 0xFFFF ∧
  State.reset.rd R.PWR_DUTY.duty = 0x88888888 ∧ State.reset.rd R.COOL_STATUS.mode = 2 ∧ State.reset.rd R.COOL_THERMAL.ceiling = 63 ∧
  State.reset.rd (R.COOL_ACC.target 7) = 85 ∧ State.reset.rd (R.LEAK_LOOP.state 15) = 5 ∧ State.reset.rd R.MON_CFG.droop = 90 ∧
  State.reset.rd R.ERR_CFG.scrub_period = 24 ∧ State.reset.rd R.SDC_CFG.watched_interval = 1000 ∧ State.reset.rd (R.FW_PROC.timeout 4) = 100 ∧
  State.reset.rd R.ARB_LFSR.value = 1 ∧ State.reset.rd R.MGT_CFG.silence = 60 ∧ State.reset.rd R.MGT_RATE_CFG.lockout = 16 ∧
  State.reset.rd R.REC_CFG.freeze_max = 600 ∧ State.reset.rd R.UPD_XFER_CFG.idle = 600 ∧ State.reset.rd R.SEC_DEBUG_UNTIL.seconds = 0xFFFFFFFF ∧
  State.reset.rd (R.CFG_MILESTONE.ms 2) = 0xFFFFFFFF ∧ State.reset.rd R.PIN_ACC.perst = 0xFF

/-- The checks every message passes (R398, R390, R395, R400, R401, R375, R215). Of every management message: one that does not reach the
device, or comes from a source that is locked out, has no effect; one of the host that does not come through its port, and one whose magic
or version is wrong, is counted and nothing more; from there on a message of the session, from its source, renews the session's lease
(R395); with Steward out or the loader not resident the responder answers BUSY, but for the two requests it passes on itself; then a bad
header is INVALID, a message without a token RETRY with the time to wait, and one that fails its authentication is refused, a bad
signature being counted. -/
def Obligations.MessagesTurnedAway : Prop :=
  ∀ (s : State) (c : Instr) (k : Order) (m : Msg), messageOf c = some (k, m) →
    (reaches s m = false → Does c s fun t => t = s) ∧
    (reaches s m = true → m.role = .host → m.viaHostPort = false →
      Does c s fun t => t = (s.bump R.MGT_INVALID_COUNT.c).bump (R.LNK_CTL_REJECT.c (leadDie s))) ∧
    (reaches s m = true → (m.role = .host → m.viaHostPort = true) →
      (m.magic ≠ 0x4D47 ∨ m.version ≠ 1 → Does c s fun t => t = s.bump R.MGT_INVALID_COUNT.c) ∧
      (m.magic = 0x4D47 → m.version = 1 →
        (lockedOut s m = true → Does c s fun t => t = s) ∧
        (lockedOut s m = false → responding s = true → (∀ n, c ≠ .powerOff n) → (∀ n i, c ≠ .clearLatchProcessor n i) →
          Does c s fun t => t = reply (heard (renewLease s m) m.role) m k.code .busy []) ∧
        (lockedOut s m = false → responding s = false →
          (messageHeaderOk k m = false → Does c s fun t => t = reply (renewLease s m) m k.code .invalid []) ∧
          (∀ u hint, messageHeaderOk k m = true → takeToken (renewLease s m) (bucketOf (renewLease s m) k m) = (u, some hint) →
            Does c s fun t => t = reply u m k.code .retry (bytesOf 4 hint)) ∧
          (∀ u r, messageHeaderOk k m = true → takeToken (renewLease s m) (bucketOf (renewLease s m) k m) = (u, none) →
            authenticate u k m = .bad r →
            Does c s fun t => t = reply (if m.flags.testBit 2 = true ∧ r = .denied then signatureFailure u k.code m else u) m k.code r []))))

/-- The invariant at reset (R340, R418, R43). The invariant holds of the state after reset. -/
def Obligations.InvAtReset : Prop :=
  Inv State.reset

/-- The invariant is kept (R340, R418, R43, R53). From every state in which the pools are in canonical form, the error ring is written
within its 256 places, at most 1,024 records wait for the cask and the cadence phase of each tracker is within its range, one step of any
command leaves all of these. -/
def Obligations.InvKept : Prop :=
  ∀ s t : State, Inv s → step s = .next t → Inv t

/-- OTP bits are only ever set (R471). No step of any command, no reset and no life-cycle order lowers a revoke bit, a life-cycle marker
or a security version counter of the OTP. -/
def Obligations.OtpNeverFalls : Prop :=
  ∀ s t : State, step s = .next t → OtpRises s.otp t.otp
end

