-- ==== Sys2Proof/Laws/State.lean ====
section
/-! SUPPORT. Each plain update of State, field by field: what it leaves as it was, and what it sets. -/

namespace Sys2Proof.Laws

open Sys2Proof.Machine

/-! ## wr -/

@[simp] theorem wr_pending (s : State) (f : Fld) (v : Nat) : (s.wr f v).pending = s.pending := rfl
@[simp] theorem wr_now (s : State) (f : Fld) (v : Nat) : (s.wr f v).now = s.now := rfl
@[simp] theorem wr_wide (s : State) (f : Fld) (v : Nat) : (s.wr f v).wide = s.wide := rfl
@[simp] theorem wr_out (s : State) (f : Fld) (v : Nat) : (s.wr f v).out = s.out := rfl
@[simp] theorem wr_freeCtr (s : State) (f : Fld) (v : Nat) : (s.wr f v).freeCtr = s.freeCtr := rfl
@[simp] theorem wr_sup (s : State) (f : Fld) (v : Nat) : (s.wr f v).sup = s.sup := rfl
@[simp] theorem wr_cad (s : State) (f : Fld) (v : Nat) : (s.wr f v).cad = s.cad := rfl
@[simp] theorem wr_own (s : State) (f : Fld) (v : Nat) : (s.wr f v).own = s.own := rfl
@[simp] theorem wr_gt (s : State) (f : Fld) (v : Nat) : (s.wr f v).gt = s.gt := rfl
@[simp] theorem wr_pat (s : State) (f : Fld) (v : Nat) : (s.wr f v).pat = s.pat := rfl
@[simp] theorem wr_mem (s : State) (f : Fld) (v : Nat) : (s.wr f v).mem = s.mem := rfl
@[simp] theorem wr_lnk (s : State) (f : Fld) (v : Nat) : (s.wr f v).lnk = s.lnk := rfl
@[simp] theorem wr_seq (s : State) (f : Fld) (v : Nat) : (s.wr f v).seq = s.seq := rfl
@[simp] theorem wr_pwr (s : State) (f : Fld) (v : Nat) : (s.wr f v).pwr = s.pwr := rfl
@[simp] theorem wr_cool (s : State) (f : Fld) (v : Nat) : (s.wr f v).cool = s.cool := rfl
@[simp] theorem wr_leak (s : State) (f : Fld) (v : Nat) : (s.wr f v).leak = s.leak := rfl
@[simp] theorem wr_mon (s : State) (f : Fld) (v : Nat) : (s.wr f v).mon = s.mon := rfl
@[simp] theorem wr_itg (s : State) (f : Fld) (v : Nat) : (s.wr f v).itg = s.itg := rfl
@[simp] theorem wr_sdc (s : State) (f : Fld) (v : Nat) : (s.wr f v).sdc = s.sdc := rfl
@[simp] theorem wr_fw (s : State) (f : Fld) (v : Nat) : (s.wr f v).fw = s.fw := rfl
@[simp] theorem wr_arb (s : State) (f : Fld) (v : Nat) : (s.wr f v).arb = s.arb := rfl
@[simp] theorem wr_mgt (s : State) (f : Fld) (v : Nat) : (s.wr f v).mgt = s.mgt := rfl
@[simp] theorem wr_rcd (s : State) (f : Fld) (v : Nat) : (s.wr f v).rcd = s.rcd := rfl
@[simp] theorem wr_cfg (s : State) (f : Fld) (v : Nat) : (s.wr f v).cfg = s.cfg := rfl
@[simp] theorem wr_img (s : State) (f : Fld) (v : Nat) : (s.wr f v).img = s.img := rfl
@[simp] theorem wr_upd (s : State) (f : Fld) (v : Nat) : (s.wr f v).upd = s.upd := rfl
@[simp] theorem wr_sec (s : State) (f : Fld) (v : Nat) : (s.wr f v).sec = s.sec := rfl
@[simp] theorem wr_flash (s : State) (f : Fld) (v : Nat) : (s.wr f v).flash = s.flash := rfl
@[simp] theorem wr_otp (s : State) (f : Fld) (v : Nat) : (s.wr f v).otp = s.otp := rfl
@[simp] theorem wr_pin (s : State) (f : Fld) (v : Nat) : (s.wr f v).pin = s.pin := rfl

/-! ## addWide -/

@[simp] theorem addWide_pending (s : State) (f : Fld) (n : Nat) : (s.addWide f n).pending = s.pending := rfl
@[simp] theorem addWide_now (s : State) (f : Fld) (n : Nat) : (s.addWide f n).now = s.now := rfl
@[simp] theorem addWide_regs (s : State) (f : Fld) (n : Nat) : (s.addWide f n).regs = s.regs := rfl
@[simp] theorem addWide_out (s : State) (f : Fld) (n : Nat) : (s.addWide f n).out = s.out := rfl
@[simp] theorem addWide_freeCtr (s : State) (f : Fld) (n : Nat) : (s.addWide f n).freeCtr = s.freeCtr := rfl
@[simp] theorem addWide_sup (s : State) (f : Fld) (n : Nat) : (s.addWide f n).sup = s.sup := rfl
@[simp] theorem addWide_cad (s : State) (f : Fld) (n : Nat) : (s.addWide f n).cad = s.cad := rfl
@[simp] theorem addWide_own (s : State) (f : Fld) (n : Nat) : (s.addWide f n).own = s.own := rfl
@[simp] theorem addWide_gt (s : State) (f : Fld) (n : Nat) : (s.addWide f n).gt = s.gt := rfl
@[simp] theorem addWide_pat (s : State) (f : Fld) (n : Nat) : (s.addWide f n).pat = s.pat := rfl
@[simp] theorem addWide_mem (s : State) (f : Fld) (n : Nat) : (s.addWide f n).mem = s.mem := rfl
@[simp] theorem addWide_lnk (s : State) (f : Fld) (n : Nat) : (s.addWide f n).lnk = s.lnk := rfl
@[simp] theorem addWide_seq (s : State) (f : Fld) (n : Nat) : (s.addWide f n).seq = s.seq := rfl
@[simp] theorem addWide_pwr (s : State) (f : Fld) (n : Nat) : (s.addWide f n).pwr = s.pwr := rfl
@[simp] theorem addWide_cool (s : State) (f : Fld) (n : Nat) : (s.addWide f n).cool = s.cool := rfl
@[simp] theorem addWide_leak (s : State) (f : Fld) (n : Nat) : (s.addWide f n).leak = s.leak := rfl
@[simp] theorem addWide_mon (s : State) (f : Fld) (n : Nat) : (s.addWide f n).mon = s.mon := rfl
@[simp] theorem addWide_itg (s : State) (f : Fld) (n : Nat) : (s.addWide f n).itg = s.itg := rfl
@[simp] theorem addWide_sdc (s : State) (f : Fld) (n : Nat) : (s.addWide f n).sdc = s.sdc := rfl
@[simp] theorem addWide_fw (s : State) (f : Fld) (n : Nat) : (s.addWide f n).fw = s.fw := rfl
@[simp] theorem addWide_arb (s : State) (f : Fld) (n : Nat) : (s.addWide f n).arb = s.arb := rfl
@[simp] theorem addWide_mgt (s : State) (f : Fld) (n : Nat) : (s.addWide f n).mgt = s.mgt := rfl
@[simp] theorem addWide_rcd (s : State) (f : Fld) (n : Nat) : (s.addWide f n).rcd = s.rcd := rfl
@[simp] theorem addWide_cfg (s : State) (f : Fld) (n : Nat) : (s.addWide f n).cfg = s.cfg := rfl
@[simp] theorem addWide_img (s : State) (f : Fld) (n : Nat) : (s.addWide f n).img = s.img := rfl
@[simp] theorem addWide_upd (s : State) (f : Fld) (n : Nat) : (s.addWide f n).upd = s.upd := rfl
@[simp] theorem addWide_sec (s : State) (f : Fld) (n : Nat) : (s.addWide f n).sec = s.sec := rfl
@[simp] theorem addWide_flash (s : State) (f : Fld) (n : Nat) : (s.addWide f n).flash = s.flash := rfl
@[simp] theorem addWide_otp (s : State) (f : Fld) (n : Nat) : (s.addWide f n).otp = s.otp := rfl
@[simp] theorem addWide_pin (s : State) (f : Fld) (n : Nat) : (s.addWide f n).pin = s.pin := rfl

/-! ## drawFree -/

@[simp] theorem drawFree_pending (s : State) : (s.drawFree).pending = s.pending := rfl
@[simp] theorem drawFree_now (s : State) : (s.drawFree).now = s.now := rfl
@[simp] theorem drawFree_regs (s : State) : (s.drawFree).regs = s.regs := rfl
@[simp] theorem drawFree_wide (s : State) : (s.drawFree).wide = s.wide := rfl
@[simp] theorem drawFree_out (s : State) : (s.drawFree).out = s.out := rfl
@[simp] theorem drawFree_sup (s : State) : (s.drawFree).sup = s.sup := rfl
@[simp] theorem drawFree_cad (s : State) : (s.drawFree).cad = s.cad := rfl
@[simp] theorem drawFree_own (s : State) : (s.drawFree).own = s.own := rfl
@[simp] theorem drawFree_gt (s : State) : (s.drawFree).gt = s.gt := rfl
@[simp] theorem drawFree_pat (s : State) : (s.drawFree).pat = s.pat := rfl
@[simp] theorem drawFree_mem (s : State) : (s.drawFree).mem = s.mem := rfl
@[simp] theorem drawFree_lnk (s : State) : (s.drawFree).lnk = s.lnk := rfl
@[simp] theorem drawFree_seq (s : State) : (s.drawFree).seq = s.seq := rfl
@[simp] theorem drawFree_pwr (s : State) : (s.drawFree).pwr = s.pwr := rfl
@[simp] theorem drawFree_cool (s : State) : (s.drawFree).cool = s.cool := rfl
@[simp] theorem drawFree_leak (s : State) : (s.drawFree).leak = s.leak := rfl
@[simp] theorem drawFree_mon (s : State) : (s.drawFree).mon = s.mon := rfl
@[simp] theorem drawFree_itg (s : State) : (s.drawFree).itg = s.itg := rfl
@[simp] theorem drawFree_sdc (s : State) : (s.drawFree).sdc = s.sdc := rfl
@[simp] theorem drawFree_fw (s : State) : (s.drawFree).fw = s.fw := rfl
@[simp] theorem drawFree_arb (s : State) : (s.drawFree).arb = s.arb := rfl
@[simp] theorem drawFree_mgt (s : State) : (s.drawFree).mgt = s.mgt := rfl
@[simp] theorem drawFree_rcd (s : State) : (s.drawFree).rcd = s.rcd := rfl
@[simp] theorem drawFree_cfg (s : State) : (s.drawFree).cfg = s.cfg := rfl
@[simp] theorem drawFree_img (s : State) : (s.drawFree).img = s.img := rfl
@[simp] theorem drawFree_upd (s : State) : (s.drawFree).upd = s.upd := rfl
@[simp] theorem drawFree_sec (s : State) : (s.drawFree).sec = s.sec := rfl
@[simp] theorem drawFree_flash (s : State) : (s.drawFree).flash = s.flash := rfl
@[simp] theorem drawFree_otp (s : State) : (s.drawFree).otp = s.otp := rfl
@[simp] theorem drawFree_pin (s : State) : (s.drawFree).pin = s.pin := rfl

/-! ## emit -/

@[simp] theorem emit_pending (s : State) (o : Out) : (s.emit o).pending = s.pending := rfl
@[simp] theorem emit_now (s : State) (o : Out) : (s.emit o).now = s.now := rfl
@[simp] theorem emit_regs (s : State) (o : Out) : (s.emit o).regs = s.regs := rfl
@[simp] theorem emit_wide (s : State) (o : Out) : (s.emit o).wide = s.wide := rfl
@[simp] theorem emit_freeCtr (s : State) (o : Out) : (s.emit o).freeCtr = s.freeCtr := rfl
@[simp] theorem emit_sup (s : State) (o : Out) : (s.emit o).sup = s.sup := rfl
@[simp] theorem emit_cad (s : State) (o : Out) : (s.emit o).cad = s.cad := rfl
@[simp] theorem emit_own (s : State) (o : Out) : (s.emit o).own = s.own := rfl
@[simp] theorem emit_gt (s : State) (o : Out) : (s.emit o).gt = s.gt := rfl
@[simp] theorem emit_pat (s : State) (o : Out) : (s.emit o).pat = s.pat := rfl
@[simp] theorem emit_mem (s : State) (o : Out) : (s.emit o).mem = s.mem := rfl
@[simp] theorem emit_lnk (s : State) (o : Out) : (s.emit o).lnk = s.lnk := rfl
@[simp] theorem emit_seq (s : State) (o : Out) : (s.emit o).seq = s.seq := rfl
@[simp] theorem emit_pwr (s : State) (o : Out) : (s.emit o).pwr = s.pwr := rfl
@[simp] theorem emit_cool (s : State) (o : Out) : (s.emit o).cool = s.cool := rfl
@[simp] theorem emit_leak (s : State) (o : Out) : (s.emit o).leak = s.leak := rfl
@[simp] theorem emit_mon (s : State) (o : Out) : (s.emit o).mon = s.mon := rfl
@[simp] theorem emit_itg (s : State) (o : Out) : (s.emit o).itg = s.itg := rfl
@[simp] theorem emit_sdc (s : State) (o : Out) : (s.emit o).sdc = s.sdc := rfl
@[simp] theorem emit_fw (s : State) (o : Out) : (s.emit o).fw = s.fw := rfl
@[simp] theorem emit_arb (s : State) (o : Out) : (s.emit o).arb = s.arb := rfl
@[simp] theorem emit_mgt (s : State) (o : Out) : (s.emit o).mgt = s.mgt := rfl
@[simp] theorem emit_rcd (s : State) (o : Out) : (s.emit o).rcd = s.rcd := rfl
@[simp] theorem emit_cfg (s : State) (o : Out) : (s.emit o).cfg = s.cfg := rfl
@[simp] theorem emit_img (s : State) (o : Out) : (s.emit o).img = s.img := rfl
@[simp] theorem emit_upd (s : State) (o : Out) : (s.emit o).upd = s.upd := rfl
@[simp] theorem emit_sec (s : State) (o : Out) : (s.emit o).sec = s.sec := rfl
@[simp] theorem emit_flash (s : State) (o : Out) : (s.emit o).flash = s.flash := rfl
@[simp] theorem emit_otp (s : State) (o : Out) : (s.emit o).otp = s.otp := rfl
@[simp] theorem emit_pin (s : State) (o : Out) : (s.emit o).pin = s.pin := rfl

/-! ## answer -/

@[simp] theorem answer_pending (s : State) (r : Resp) (v h : Nat) : (s.answer r v h).pending = s.pending := rfl
@[simp] theorem answer_now (s : State) (r : Resp) (v h : Nat) : (s.answer r v h).now = s.now := rfl
@[simp] theorem answer_regs (s : State) (r : Resp) (v h : Nat) : (s.answer r v h).regs = s.regs := rfl
@[simp] theorem answer_wide (s : State) (r : Resp) (v h : Nat) : (s.answer r v h).wide = s.wide := rfl
@[simp] theorem answer_freeCtr (s : State) (r : Resp) (v h : Nat) : (s.answer r v h).freeCtr = s.freeCtr := rfl
@[simp] theorem answer_sup (s : State) (r : Resp) (v h : Nat) : (s.answer r v h).sup = s.sup := rfl
@[simp] theorem answer_cad (s : State) (r : Resp) (v h : Nat) : (s.answer r v h).cad = s.cad := rfl
@[simp] theorem answer_own (s : State) (r : Resp) (v h : Nat) : (s.answer r v h).own = s.own := rfl
@[simp] theorem answer_gt (s : State) (r : Resp) (v h : Nat) : (s.answer r v h).gt = s.gt := rfl
@[simp] theorem answer_pat (s : State) (r : Resp) (v h : Nat) : (s.answer r v h).pat = s.pat := rfl
@[simp] theorem answer_mem (s : State) (r : Resp) (v h : Nat) : (s.answer r v h).mem = s.mem := rfl
@[simp] theorem answer_lnk (s : State) (r : Resp) (v h : Nat) : (s.answer r v h).lnk = s.lnk := rfl
@[simp] theorem answer_seq (s : State) (r : Resp) (v h : Nat) : (s.answer r v h).seq = s.seq := rfl
@[simp] theorem answer_pwr (s : State) (r : Resp) (v h : Nat) : (s.answer r v h).pwr = s.pwr := rfl
@[simp] theorem answer_cool (s : State) (r : Resp) (v h : Nat) : (s.answer r v h).cool = s.cool := rfl
@[simp] theorem answer_leak (s : State) (r : Resp) (v h : Nat) : (s.answer r v h).leak = s.leak := rfl
@[simp] theorem answer_mon (s : State) (r : Resp) (v h : Nat) : (s.answer r v h).mon = s.mon := rfl
@[simp] theorem answer_itg (s : State) (r : Resp) (v h : Nat) : (s.answer r v h).itg = s.itg := rfl
@[simp] theorem answer_sdc (s : State) (r : Resp) (v h : Nat) : (s.answer r v h).sdc = s.sdc := rfl
@[simp] theorem answer_fw (s : State) (r : Resp) (v h : Nat) : (s.answer r v h).fw = s.fw := rfl
@[simp] theorem answer_arb (s : State) (r : Resp) (v h : Nat) : (s.answer r v h).arb = s.arb := rfl
@[simp] theorem answer_mgt (s : State) (r : Resp) (v h : Nat) : (s.answer r v h).mgt = s.mgt := rfl
@[simp] theorem answer_rcd (s : State) (r : Resp) (v h : Nat) : (s.answer r v h).rcd = s.rcd := rfl
@[simp] theorem answer_cfg (s : State) (r : Resp) (v h : Nat) : (s.answer r v h).cfg = s.cfg := rfl
@[simp] theorem answer_img (s : State) (r : Resp) (v h : Nat) : (s.answer r v h).img = s.img := rfl
@[simp] theorem answer_upd (s : State) (r : Resp) (v h : Nat) : (s.answer r v h).upd = s.upd := rfl
@[simp] theorem answer_sec (s : State) (r : Resp) (v h : Nat) : (s.answer r v h).sec = s.sec := rfl
@[simp] theorem answer_flash (s : State) (r : Resp) (v h : Nat) : (s.answer r v h).flash = s.flash := rfl
@[simp] theorem answer_otp (s : State) (r : Resp) (v h : Nat) : (s.answer r v h).otp = s.otp := rfl
@[simp] theorem answer_pin (s : State) (r : Resp) (v h : Nat) : (s.answer r v h).pin = s.pin := rfl

/-! ## modDie -/

@[simp] theorem modDie_pending (s : State) (d : Nat) (f : Die → Die) : (s.modDie d f).pending = s.pending := rfl
@[simp] theorem modDie_now (s : State) (d : Nat) (f : Die → Die) : (s.modDie d f).now = s.now := rfl
@[simp] theorem modDie_regs (s : State) (d : Nat) (f : Die → Die) : (s.modDie d f).regs = s.regs := rfl
@[simp] theorem modDie_wide (s : State) (d : Nat) (f : Die → Die) : (s.modDie d f).wide = s.wide := rfl
@[simp] theorem modDie_out (s : State) (d : Nat) (f : Die → Die) : (s.modDie d f).out = s.out := rfl
@[simp] theorem modDie_freeCtr (s : State) (d : Nat) (f : Die → Die) : (s.modDie d f).freeCtr = s.freeCtr := rfl
@[simp] theorem modDie_cad (s : State) (d : Nat) (f : Die → Die) : (s.modDie d f).cad = s.cad := rfl
@[simp] theorem modDie_own (s : State) (d : Nat) (f : Die → Die) : (s.modDie d f).own = s.own := rfl
@[simp] theorem modDie_gt (s : State) (d : Nat) (f : Die → Die) : (s.modDie d f).gt = s.gt := rfl
@[simp] theorem modDie_pat (s : State) (d : Nat) (f : Die → Die) : (s.modDie d f).pat = s.pat := rfl
@[simp] theorem modDie_mem (s : State) (d : Nat) (f : Die → Die) : (s.modDie d f).mem = s.mem := rfl
@[simp] theorem modDie_lnk (s : State) (d : Nat) (f : Die → Die) : (s.modDie d f).lnk = s.lnk := rfl
@[simp] theorem modDie_seq (s : State) (d : Nat) (f : Die → Die) : (s.modDie d f).seq = s.seq := rfl
@[simp] theorem modDie_pwr (s : State) (d : Nat) (f : Die → Die) : (s.modDie d f).pwr = s.pwr := rfl
@[simp] theorem modDie_cool (s : State) (d : Nat) (f : Die → Die) : (s.modDie d f).cool = s.cool := rfl
@[simp] theorem modDie_leak (s : State) (d : Nat) (f : Die → Die) : (s.modDie d f).leak = s.leak := rfl
@[simp] theorem modDie_mon (s : State) (d : Nat) (f : Die → Die) : (s.modDie d f).mon = s.mon := rfl
@[simp] theorem modDie_itg (s : State) (d : Nat) (f : Die → Die) : (s.modDie d f).itg = s.itg := rfl
@[simp] theorem modDie_sdc (s : State) (d : Nat) (f : Die → Die) : (s.modDie d f).sdc = s.sdc := rfl
@[simp] theorem modDie_fw (s : State) (d : Nat) (f : Die → Die) : (s.modDie d f).fw = s.fw := rfl
@[simp] theorem modDie_arb (s : State) (d : Nat) (f : Die → Die) : (s.modDie d f).arb = s.arb := rfl
@[simp] theorem modDie_mgt (s : State) (d : Nat) (f : Die → Die) : (s.modDie d f).mgt = s.mgt := rfl
@[simp] theorem modDie_rcd (s : State) (d : Nat) (f : Die → Die) : (s.modDie d f).rcd = s.rcd := rfl
@[simp] theorem modDie_cfg (s : State) (d : Nat) (f : Die → Die) : (s.modDie d f).cfg = s.cfg := rfl
@[simp] theorem modDie_img (s : State) (d : Nat) (f : Die → Die) : (s.modDie d f).img = s.img := rfl
@[simp] theorem modDie_upd (s : State) (d : Nat) (f : Die → Die) : (s.modDie d f).upd = s.upd := rfl
@[simp] theorem modDie_sec (s : State) (d : Nat) (f : Die → Die) : (s.modDie d f).sec = s.sec := rfl
@[simp] theorem modDie_flash (s : State) (d : Nat) (f : Die → Die) : (s.modDie d f).flash = s.flash := rfl
@[simp] theorem modDie_otp (s : State) (d : Nat) (f : Die → Die) : (s.modDie d f).otp = s.otp := rfl
@[simp] theorem modDie_pin (s : State) (d : Nat) (f : Die → Die) : (s.modDie d f).pin = s.pin := rfl

/-! ## modProc -/

@[simp] theorem modProc_pending (s : State) (p : Nat) (f : Proc → Proc) : (s.modProc p f).pending = s.pending := rfl
@[simp] theorem modProc_now (s : State) (p : Nat) (f : Proc → Proc) : (s.modProc p f).now = s.now := rfl
@[simp] theorem modProc_regs (s : State) (p : Nat) (f : Proc → Proc) : (s.modProc p f).regs = s.regs := rfl
@[simp] theorem modProc_wide (s : State) (p : Nat) (f : Proc → Proc) : (s.modProc p f).wide = s.wide := rfl
@[simp] theorem modProc_out (s : State) (p : Nat) (f : Proc → Proc) : (s.modProc p f).out = s.out := rfl
@[simp] theorem modProc_freeCtr (s : State) (p : Nat) (f : Proc → Proc) : (s.modProc p f).freeCtr = s.freeCtr := rfl
@[simp] theorem modProc_sup (s : State) (p : Nat) (f : Proc → Proc) : (s.modProc p f).sup = s.sup := rfl
@[simp] theorem modProc_cad (s : State) (p : Nat) (f : Proc → Proc) : (s.modProc p f).cad = s.cad := rfl
@[simp] theorem modProc_own (s : State) (p : Nat) (f : Proc → Proc) : (s.modProc p f).own = s.own := rfl
@[simp] theorem modProc_gt (s : State) (p : Nat) (f : Proc → Proc) : (s.modProc p f).gt = s.gt := rfl
@[simp] theorem modProc_pat (s : State) (p : Nat) (f : Proc → Proc) : (s.modProc p f).pat = s.pat := rfl
@[simp] theorem modProc_mem (s : State) (p : Nat) (f : Proc → Proc) : (s.modProc p f).mem = s.mem := rfl
@[simp] theorem modProc_lnk (s : State) (p : Nat) (f : Proc → Proc) : (s.modProc p f).lnk = s.lnk := rfl
@[simp] theorem modProc_seq (s : State) (p : Nat) (f : Proc → Proc) : (s.modProc p f).seq = s.seq := rfl
@[simp] theorem modProc_pwr (s : State) (p : Nat) (f : Proc → Proc) : (s.modProc p f).pwr = s.pwr := rfl
@[simp] theorem modProc_cool (s : State) (p : Nat) (f : Proc → Proc) : (s.modProc p f).cool = s.cool := rfl
@[simp] theorem modProc_leak (s : State) (p : Nat) (f : Proc → Proc) : (s.modProc p f).leak = s.leak := rfl
@[simp] theorem modProc_mon (s : State) (p : Nat) (f : Proc → Proc) : (s.modProc p f).mon = s.mon := rfl
@[simp] theorem modProc_itg (s : State) (p : Nat) (f : Proc → Proc) : (s.modProc p f).itg = s.itg := rfl
@[simp] theorem modProc_sdc (s : State) (p : Nat) (f : Proc → Proc) : (s.modProc p f).sdc = s.sdc := rfl
@[simp] theorem modProc_arb (s : State) (p : Nat) (f : Proc → Proc) : (s.modProc p f).arb = s.arb := rfl
@[simp] theorem modProc_mgt (s : State) (p : Nat) (f : Proc → Proc) : (s.modProc p f).mgt = s.mgt := rfl
@[simp] theorem modProc_rcd (s : State) (p : Nat) (f : Proc → Proc) : (s.modProc p f).rcd = s.rcd := rfl
@[simp] theorem modProc_cfg (s : State) (p : Nat) (f : Proc → Proc) : (s.modProc p f).cfg = s.cfg := rfl
@[simp] theorem modProc_img (s : State) (p : Nat) (f : Proc → Proc) : (s.modProc p f).img = s.img := rfl
@[simp] theorem modProc_upd (s : State) (p : Nat) (f : Proc → Proc) : (s.modProc p f).upd = s.upd := rfl
@[simp] theorem modProc_sec (s : State) (p : Nat) (f : Proc → Proc) : (s.modProc p f).sec = s.sec := rfl
@[simp] theorem modProc_flash (s : State) (p : Nat) (f : Proc → Proc) : (s.modProc p f).flash = s.flash := rfl
@[simp] theorem modProc_otp (s : State) (p : Nat) (f : Proc → Proc) : (s.modProc p f).otp = s.otp := rfl
@[simp] theorem modProc_pin (s : State) (p : Nat) (f : Proc → Proc) : (s.modProc p f).pin = s.pin := rfl

/-! ## modLink -/

@[simp] theorem modLink_pending (s : State) (l : Nat) (f : Link → Link) : (s.modLink l f).pending = s.pending := rfl
@[simp] theorem modLink_now (s : State) (l : Nat) (f : Link → Link) : (s.modLink l f).now = s.now := rfl
@[simp] theorem modLink_regs (s : State) (l : Nat) (f : Link → Link) : (s.modLink l f).regs = s.regs := rfl
@[simp] theorem modLink_wide (s : State) (l : Nat) (f : Link → Link) : (s.modLink l f).wide = s.wide := rfl
@[simp] theorem modLink_out (s : State) (l : Nat) (f : Link → Link) : (s.modLink l f).out = s.out := rfl
@[simp] theorem modLink_freeCtr (s : State) (l : Nat) (f : Link → Link) : (s.modLink l f).freeCtr = s.freeCtr := rfl
@[simp] theorem modLink_sup (s : State) (l : Nat) (f : Link → Link) : (s.modLink l f).sup = s.sup := rfl
@[simp] theorem modLink_cad (s : State) (l : Nat) (f : Link → Link) : (s.modLink l f).cad = s.cad := rfl
@[simp] theorem modLink_own (s : State) (l : Nat) (f : Link → Link) : (s.modLink l f).own = s.own := rfl
@[simp] theorem modLink_gt (s : State) (l : Nat) (f : Link → Link) : (s.modLink l f).gt = s.gt := rfl
@[simp] theorem modLink_pat (s : State) (l : Nat) (f : Link → Link) : (s.modLink l f).pat = s.pat := rfl
@[simp] theorem modLink_mem (s : State) (l : Nat) (f : Link → Link) : (s.modLink l f).mem = s.mem := rfl
@[simp] theorem modLink_seq (s : State) (l : Nat) (f : Link → Link) : (s.modLink l f).seq = s.seq := rfl
@[simp] theorem modLink_pwr (s : State) (l : Nat) (f : Link → Link) : (s.modLink l f).pwr = s.pwr := rfl
@[simp] theorem modLink_cool (s : State) (l : Nat) (f : Link → Link) : (s.modLink l f).cool = s.cool := rfl
@[simp] theorem modLink_leak (s : State) (l : Nat) (f : Link → Link) : (s.modLink l f).leak = s.leak := rfl
@[simp] theorem modLink_mon (s : State) (l : Nat) (f : Link → Link) : (s.modLink l f).mon = s.mon := rfl
@[simp] theorem modLink_itg (s : State) (l : Nat) (f : Link → Link) : (s.modLink l f).itg = s.itg := rfl
@[simp] theorem modLink_sdc (s : State) (l : Nat) (f : Link → Link) : (s.modLink l f).sdc = s.sdc := rfl
@[simp] theorem modLink_fw (s : State) (l : Nat) (f : Link → Link) : (s.modLink l f).fw = s.fw := rfl
@[simp] theorem modLink_arb (s : State) (l : Nat) (f : Link → Link) : (s.modLink l f).arb = s.arb := rfl
@[simp] theorem modLink_mgt (s : State) (l : Nat) (f : Link → Link) : (s.modLink l f).mgt = s.mgt := rfl
@[simp] theorem modLink_rcd (s : State) (l : Nat) (f : Link → Link) : (s.modLink l f).rcd = s.rcd := rfl
@[simp] theorem modLink_cfg (s : State) (l : Nat) (f : Link → Link) : (s.modLink l f).cfg = s.cfg := rfl
@[simp] theorem modLink_img (s : State) (l : Nat) (f : Link → Link) : (s.modLink l f).img = s.img := rfl
@[simp] theorem modLink_upd (s : State) (l : Nat) (f : Link → Link) : (s.modLink l f).upd = s.upd := rfl
@[simp] theorem modLink_sec (s : State) (l : Nat) (f : Link → Link) : (s.modLink l f).sec = s.sec := rfl
@[simp] theorem modLink_flash (s : State) (l : Nat) (f : Link → Link) : (s.modLink l f).flash = s.flash := rfl
@[simp] theorem modLink_otp (s : State) (l : Nat) (f : Link → Link) : (s.modLink l f).otp = s.otp := rfl
@[simp] theorem modLink_pin (s : State) (l : Nat) (f : Link → Link) : (s.modLink l f).pin = s.pin := rfl

/-! ## setLinkState -/

@[simp] theorem setLinkState_pending (s : State) (l v : Nat) : (s.setLinkState l v).pending = s.pending := rfl
@[simp] theorem setLinkState_now (s : State) (l v : Nat) : (s.setLinkState l v).now = s.now := rfl
@[simp] theorem setLinkState_wide (s : State) (l v : Nat) : (s.setLinkState l v).wide = s.wide := rfl
@[simp] theorem setLinkState_out (s : State) (l v : Nat) : (s.setLinkState l v).out = s.out := rfl
@[simp] theorem setLinkState_freeCtr (s : State) (l v : Nat) : (s.setLinkState l v).freeCtr = s.freeCtr := rfl
@[simp] theorem setLinkState_sup (s : State) (l v : Nat) : (s.setLinkState l v).sup = s.sup := rfl
@[simp] theorem setLinkState_cad (s : State) (l v : Nat) : (s.setLinkState l v).cad = s.cad := rfl
@[simp] theorem setLinkState_own (s : State) (l v : Nat) : (s.setLinkState l v).own = s.own := rfl
@[simp] theorem setLinkState_gt (s : State) (l v : Nat) : (s.setLinkState l v).gt = s.gt := rfl
@[simp] theorem setLinkState_pat (s : State) (l v : Nat) : (s.setLinkState l v).pat = s.pat := rfl
@[simp] theorem setLinkState_mem (s : State) (l v : Nat) : (s.setLinkState l v).mem = s.mem := rfl
@[simp] theorem setLinkState_lnk (s : State) (l v : Nat) : (s.setLinkState l v).lnk = s.lnk := rfl
@[simp] theorem setLinkState_seq (s : State) (l v : Nat) : (s.setLinkState l v).seq = s.seq := rfl
@[simp] theorem setLinkState_pwr (s : State) (l v : Nat) : (s.setLinkState l v).pwr = s.pwr := rfl
@[simp] theorem setLinkState_cool (s : State) (l v : Nat) : (s.setLinkState l v).cool = s.cool := rfl
@[simp] theorem setLinkState_leak (s : State) (l v : Nat) : (s.setLinkState l v).leak = s.leak := rfl
@[simp] theorem setLinkState_mon (s : State) (l v : Nat) : (s.setLinkState l v).mon = s.mon := rfl
@[simp] theorem setLinkState_itg (s : State) (l v : Nat) : (s.setLinkState l v).itg = s.itg := rfl
@[simp] theorem setLinkState_sdc (s : State) (l v : Nat) : (s.setLinkState l v).sdc = s.sdc := rfl
@[simp] theorem setLinkState_fw (s : State) (l v : Nat) : (s.setLinkState l v).fw = s.fw := rfl
@[simp] theorem setLinkState_arb (s : State) (l v : Nat) : (s.setLinkState l v).arb = s.arb := rfl
@[simp] theorem setLinkState_mgt (s : State) (l v : Nat) : (s.setLinkState l v).mgt = s.mgt := rfl
@[simp] theorem setLinkState_rcd (s : State) (l v : Nat) : (s.setLinkState l v).rcd = s.rcd := rfl
@[simp] theorem setLinkState_cfg (s : State) (l v : Nat) : (s.setLinkState l v).cfg = s.cfg := rfl
@[simp] theorem setLinkState_img (s : State) (l v : Nat) : (s.setLinkState l v).img = s.img := rfl
@[simp] theorem setLinkState_upd (s : State) (l v : Nat) : (s.setLinkState l v).upd = s.upd := rfl
@[simp] theorem setLinkState_sec (s : State) (l v : Nat) : (s.setLinkState l v).sec = s.sec := rfl
@[simp] theorem setLinkState_flash (s : State) (l v : Nat) : (s.setLinkState l v).flash = s.flash := rfl
@[simp] theorem setLinkState_otp (s : State) (l v : Nat) : (s.setLinkState l v).otp = s.otp := rfl
@[simp] theorem setLinkState_pin (s : State) (l v : Nat) : (s.setLinkState l v).pin = s.pin := rfl

/-! ## bump -/

@[simp] theorem bump_pending (s : State) (c : Cnt) : (s.bump c).pending = s.pending := by unfold State.bump; split <;> rfl
@[simp] theorem bump_now (s : State) (c : Cnt) : (s.bump c).now = s.now := by unfold State.bump; split <;> rfl
@[simp] theorem bump_wide (s : State) (c : Cnt) : (s.bump c).wide = s.wide := by unfold State.bump; split <;> rfl
@[simp] theorem bump_out (s : State) (c : Cnt) : (s.bump c).out = s.out := by unfold State.bump; split <;> rfl
@[simp] theorem bump_freeCtr (s : State) (c : Cnt) : (s.bump c).freeCtr = s.freeCtr := by unfold State.bump; split <;> rfl
@[simp] theorem bump_sup (s : State) (c : Cnt) : (s.bump c).sup = s.sup := by unfold State.bump; split <;> rfl
@[simp] theorem bump_cad (s : State) (c : Cnt) : (s.bump c).cad = s.cad := by unfold State.bump; split <;> rfl
@[simp] theorem bump_own (s : State) (c : Cnt) : (s.bump c).own = s.own := by unfold State.bump; split <;> rfl
@[simp] theorem bump_gt (s : State) (c : Cnt) : (s.bump c).gt = s.gt := by unfold State.bump; split <;> rfl
@[simp] theorem bump_pat (s : State) (c : Cnt) : (s.bump c).pat = s.pat := by unfold State.bump; split <;> rfl
@[simp] theorem bump_mem (s : State) (c : Cnt) : (s.bump c).mem = s.mem := by unfold State.bump; split <;> rfl
@[simp] theorem bump_lnk (s : State) (c : Cnt) : (s.bump c).lnk = s.lnk := by unfold State.bump; split <;> rfl
@[simp] theorem bump_seq (s : State) (c : Cnt) : (s.bump c).seq = s.seq := by unfold State.bump; split <;> rfl
@[simp] theorem bump_pwr (s : State) (c : Cnt) : (s.bump c).pwr = s.pwr := by unfold State.bump; split <;> rfl
@[simp] theorem bump_cool (s : State) (c : Cnt) : (s.bump c).cool = s.cool := by unfold State.bump; split <;> rfl
@[simp] theorem bump_leak (s : State) (c : Cnt) : (s.bump c).leak = s.leak := by unfold State.bump; split <;> rfl
@[simp] theorem bump_mon (s : State) (c : Cnt) : (s.bump c).mon = s.mon := by unfold State.bump; split <;> rfl
@[simp] theorem bump_itg (s : State) (c : Cnt) : (s.bump c).itg = s.itg := by unfold State.bump; split <;> rfl
@[simp] theorem bump_sdc (s : State) (c : Cnt) : (s.bump c).sdc = s.sdc := by unfold State.bump; split <;> rfl
@[simp] theorem bump_fw (s : State) (c : Cnt) : (s.bump c).fw = s.fw := by unfold State.bump; split <;> rfl
@[simp] theorem bump_arb (s : State) (c : Cnt) : (s.bump c).arb = s.arb := by unfold State.bump; split <;> rfl
@[simp] theorem bump_mgt (s : State) (c : Cnt) : (s.bump c).mgt = s.mgt := by unfold State.bump; split <;> rfl
@[simp] theorem bump_rcd (s : State) (c : Cnt) : (s.bump c).rcd = s.rcd := by unfold State.bump; split <;> rfl
@[simp] theorem bump_cfg (s : State) (c : Cnt) : (s.bump c).cfg = s.cfg := by unfold State.bump; split <;> rfl
@[simp] theorem bump_img (s : State) (c : Cnt) : (s.bump c).img = s.img := by unfold State.bump; split <;> rfl
@[simp] theorem bump_upd (s : State) (c : Cnt) : (s.bump c).upd = s.upd := by unfold State.bump; split <;> rfl
@[simp] theorem bump_sec (s : State) (c : Cnt) : (s.bump c).sec = s.sec := by unfold State.bump; split <;> rfl
@[simp] theorem bump_flash (s : State) (c : Cnt) : (s.bump c).flash = s.flash := by unfold State.bump; split <;> rfl
@[simp] theorem bump_otp (s : State) (c : Cnt) : (s.bump c).otp = s.otp := by unfold State.bump; split <;> rfl
@[simp] theorem bump_pin (s : State) (c : Cnt) : (s.bump c).pin = s.pin := by unfold State.bump; split <;> rfl

/-! ## bumpN -/

@[simp] theorem bumpN_pending (s : State) (c : Cnt) (n : Nat) : (s.bumpN c n).pending = s.pending := by unfold State.bumpN; split <;> rfl
@[simp] theorem bumpN_now (s : State) (c : Cnt) (n : Nat) : (s.bumpN c n).now = s.now := by unfold State.bumpN; split <;> rfl
@[simp] theorem bumpN_wide (s : State) (c : Cnt) (n : Nat) : (s.bumpN c n).wide = s.wide := by unfold State.bumpN; split <;> rfl
@[simp] theorem bumpN_out (s : State) (c : Cnt) (n : Nat) : (s.bumpN c n).out = s.out := by unfold State.bumpN; split <;> rfl
@[simp] theorem bumpN_freeCtr (s : State) (c : Cnt) (n : Nat) : (s.bumpN c n).freeCtr = s.freeCtr := by unfold State.bumpN; split <;> rfl
@[simp] theorem bumpN_sup (s : State) (c : Cnt) (n : Nat) : (s.bumpN c n).sup = s.sup := by unfold State.bumpN; split <;> rfl
@[simp] theorem bumpN_cad (s : State) (c : Cnt) (n : Nat) : (s.bumpN c n).cad = s.cad := by unfold State.bumpN; split <;> rfl
@[simp] theorem bumpN_own (s : State) (c : Cnt) (n : Nat) : (s.bumpN c n).own = s.own := by unfold State.bumpN; split <;> rfl
@[simp] theorem bumpN_gt (s : State) (c : Cnt) (n : Nat) : (s.bumpN c n).gt = s.gt := by unfold State.bumpN; split <;> rfl
@[simp] theorem bumpN_pat (s : State) (c : Cnt) (n : Nat) : (s.bumpN c n).pat = s.pat := by unfold State.bumpN; split <;> rfl
@[simp] theorem bumpN_mem (s : State) (c : Cnt) (n : Nat) : (s.bumpN c n).mem = s.mem := by unfold State.bumpN; split <;> rfl
@[simp] theorem bumpN_lnk (s : State) (c : Cnt) (n : Nat) : (s.bumpN c n).lnk = s.lnk := by unfold State.bumpN; split <;> rfl
@[simp] theorem bumpN_seq (s : State) (c : Cnt) (n : Nat) : (s.bumpN c n).seq = s.seq := by unfold State.bumpN; split <;> rfl
@[simp] theorem bumpN_pwr (s : State) (c : Cnt) (n : Nat) : (s.bumpN c n).pwr = s.pwr := by unfold State.bumpN; split <;> rfl
@[simp] theorem bumpN_cool (s : State) (c : Cnt) (n : Nat) : (s.bumpN c n).cool = s.cool := by unfold State.bumpN; split <;> rfl
@[simp] theorem bumpN_leak (s : State) (c : Cnt) (n : Nat) : (s.bumpN c n).leak = s.leak := by unfold State.bumpN; split <;> rfl
@[simp] theorem bumpN_mon (s : State) (c : Cnt) (n : Nat) : (s.bumpN c n).mon = s.mon := by unfold State.bumpN; split <;> rfl
@[simp] theorem bumpN_itg (s : State) (c : Cnt) (n : Nat) : (s.bumpN c n).itg = s.itg := by unfold State.bumpN; split <;> rfl
@[simp] theorem bumpN_sdc (s : State) (c : Cnt) (n : Nat) : (s.bumpN c n).sdc = s.sdc := by unfold State.bumpN; split <;> rfl
@[simp] theorem bumpN_fw (s : State) (c : Cnt) (n : Nat) : (s.bumpN c n).fw = s.fw := by unfold State.bumpN; split <;> rfl
@[simp] theorem bumpN_arb (s : State) (c : Cnt) (n : Nat) : (s.bumpN c n).arb = s.arb := by unfold State.bumpN; split <;> rfl
@[simp] theorem bumpN_mgt (s : State) (c : Cnt) (n : Nat) : (s.bumpN c n).mgt = s.mgt := by unfold State.bumpN; split <;> rfl
@[simp] theorem bumpN_rcd (s : State) (c : Cnt) (n : Nat) : (s.bumpN c n).rcd = s.rcd := by unfold State.bumpN; split <;> rfl
@[simp] theorem bumpN_cfg (s : State) (c : Cnt) (n : Nat) : (s.bumpN c n).cfg = s.cfg := by unfold State.bumpN; split <;> rfl
@[simp] theorem bumpN_img (s : State) (c : Cnt) (n : Nat) : (s.bumpN c n).img = s.img := by unfold State.bumpN; split <;> rfl
@[simp] theorem bumpN_upd (s : State) (c : Cnt) (n : Nat) : (s.bumpN c n).upd = s.upd := by unfold State.bumpN; split <;> rfl
@[simp] theorem bumpN_sec (s : State) (c : Cnt) (n : Nat) : (s.bumpN c n).sec = s.sec := by unfold State.bumpN; split <;> rfl
@[simp] theorem bumpN_flash (s : State) (c : Cnt) (n : Nat) : (s.bumpN c n).flash = s.flash := by unfold State.bumpN; split <;> rfl
@[simp] theorem bumpN_otp (s : State) (c : Cnt) (n : Nat) : (s.bumpN c n).otp = s.otp := by unfold State.bumpN; split <;> rfl
@[simp] theorem bumpN_pin (s : State) (c : Cnt) (n : Nat) : (s.bumpN c n).pin = s.pin := by unfold State.bumpN; split <;> rfl

/-! ## modRail -/

@[simp] theorem modRail_pending (s : State) (c : Nat) (f : Rail → Rail) : (s.modRail c f).pending = s.pending := rfl
@[simp] theorem modRail_now (s : State) (c : Nat) (f : Rail → Rail) : (s.modRail c f).now = s.now := rfl
@[simp] theorem modRail_regs (s : State) (c : Nat) (f : Rail → Rail) : (s.modRail c f).regs = s.regs := rfl
@[simp] theorem modRail_wide (s : State) (c : Nat) (f : Rail → Rail) : (s.modRail c f).wide = s.wide := rfl
@[simp] theorem modRail_out (s : State) (c : Nat) (f : Rail → Rail) : (s.modRail c f).out = s.out := rfl
@[simp] theorem modRail_freeCtr (s : State) (c : Nat) (f : Rail → Rail) : (s.modRail c f).freeCtr = s.freeCtr := rfl
@[simp] theorem modRail_sup (s : State) (c : Nat) (f : Rail → Rail) : (s.modRail c f).sup = s.sup := rfl
@[simp] theorem modRail_cad (s : State) (c : Nat) (f : Rail → Rail) : (s.modRail c f).cad = s.cad := rfl
@[simp] theorem modRail_own (s : State) (c : Nat) (f : Rail → Rail) : (s.modRail c f).own = s.own := rfl
@[simp] theorem modRail_gt (s : State) (c : Nat) (f : Rail → Rail) : (s.modRail c f).gt = s.gt := rfl
@[simp] theorem modRail_pat (s : State) (c : Nat) (f : Rail → Rail) : (s.modRail c f).pat = s.pat := rfl
@[simp] theorem modRail_mem (s : State) (c : Nat) (f : Rail → Rail) : (s.modRail c f).mem = s.mem := rfl
@[simp] theorem modRail_lnk (s : State) (c : Nat) (f : Rail → Rail) : (s.modRail c f).lnk = s.lnk := rfl
@[simp] theorem modRail_pwr (s : State) (c : Nat) (f : Rail → Rail) : (s.modRail c f).pwr = s.pwr := rfl
@[simp] theorem modRail_cool (s : State) (c : Nat) (f : Rail → Rail) : (s.modRail c f).cool = s.cool := rfl
@[simp] theorem modRail_leak (s : State) (c : Nat) (f : Rail → Rail) : (s.modRail c f).leak = s.leak := rfl
@[simp] theorem modRail_mon (s : State) (c : Nat) (f : Rail → Rail) : (s.modRail c f).mon = s.mon := rfl
@[simp] theorem modRail_itg (s : State) (c : Nat) (f : Rail → Rail) : (s.modRail c f).itg = s.itg := rfl
@[simp] theorem modRail_sdc (s : State) (c : Nat) (f : Rail → Rail) : (s.modRail c f).sdc = s.sdc := rfl
@[simp] theorem modRail_fw (s : State) (c : Nat) (f : Rail → Rail) : (s.modRail c f).fw = s.fw := rfl
@[simp] theorem modRail_arb (s : State) (c : Nat) (f : Rail → Rail) : (s.modRail c f).arb = s.arb := rfl
@[simp] theorem modRail_mgt (s : State) (c : Nat) (f : Rail → Rail) : (s.modRail c f).mgt = s.mgt := rfl
@[simp] theorem modRail_rcd (s : State) (c : Nat) (f : Rail → Rail) : (s.modRail c f).rcd = s.rcd := rfl
@[simp] theorem modRail_cfg (s : State) (c : Nat) (f : Rail → Rail) : (s.modRail c f).cfg = s.cfg := rfl
@[simp] theorem modRail_img (s : State) (c : Nat) (f : Rail → Rail) : (s.modRail c f).img = s.img := rfl
@[simp] theorem modRail_upd (s : State) (c : Nat) (f : Rail → Rail) : (s.modRail c f).upd = s.upd := rfl
@[simp] theorem modRail_sec (s : State) (c : Nat) (f : Rail → Rail) : (s.modRail c f).sec = s.sec := rfl
@[simp] theorem modRail_flash (s : State) (c : Nat) (f : Rail → Rail) : (s.modRail c f).flash = s.flash := rfl
@[simp] theorem modRail_otp (s : State) (c : Nat) (f : Rail → Rail) : (s.modRail c f).otp = s.otp := rfl
@[simp] theorem modRail_pin (s : State) (c : Nat) (f : Rail → Rail) : (s.modRail c f).pin = s.pin := rfl

/-! ## modSlotPower -/

@[simp] theorem modSlotPower_pending (s : State) (c : Nat) (f : SlotPower → SlotPower) : (s.modSlotPower c f).pending = s.pending := rfl
@[simp] theorem modSlotPower_now (s : State) (c : Nat) (f : SlotPower → SlotPower) : (s.modSlotPower c f).now = s.now := rfl
@[simp] theorem modSlotPower_regs (s : State) (c : Nat) (f : SlotPower → SlotPower) : (s.modSlotPower c f).regs = s.regs := rfl
@[simp] theorem modSlotPower_wide (s : State) (c : Nat) (f : SlotPower → SlotPower) : (s.modSlotPower c f).wide = s.wide := rfl
@[simp] theorem modSlotPower_out (s : State) (c : Nat) (f : SlotPower → SlotPower) : (s.modSlotPower c f).out = s.out := rfl
@[simp] theorem modSlotPower_freeCtr (s : State) (c : Nat) (f : SlotPower → SlotPower) : (s.modSlotPower c f).freeCtr = s.freeCtr := rfl
@[simp] theorem modSlotPower_sup (s : State) (c : Nat) (f : SlotPower → SlotPower) : (s.modSlotPower c f).sup = s.sup := rfl
@[simp] theorem modSlotPower_cad (s : State) (c : Nat) (f : SlotPower → SlotPower) : (s.modSlotPower c f).cad = s.cad := rfl
@[simp] theorem modSlotPower_own (s : State) (c : Nat) (f : SlotPower → SlotPower) : (s.modSlotPower c f).own = s.own := rfl
@[simp] theorem modSlotPower_gt (s : State) (c : Nat) (f : SlotPower → SlotPower) : (s.modSlotPower c f).gt = s.gt := rfl
@[simp] theorem modSlotPower_pat (s : State) (c : Nat) (f : SlotPower → SlotPower) : (s.modSlotPower c f).pat = s.pat := rfl
@[simp] theorem modSlotPower_mem (s : State) (c : Nat) (f : SlotPower → SlotPower) : (s.modSlotPower c f).mem = s.mem := rfl
@[simp] theorem modSlotPower_lnk (s : State) (c : Nat) (f : SlotPower → SlotPower) : (s.modSlotPower c f).lnk = s.lnk := rfl
@[simp] theorem modSlotPower_seq (s : State) (c : Nat) (f : SlotPower → SlotPower) : (s.modSlotPower c f).seq = s.seq := rfl
@[simp] theorem modSlotPower_cool (s : State) (c : Nat) (f : SlotPower → SlotPower) : (s.modSlotPower c f).cool = s.cool := rfl
@[simp] theorem modSlotPower_leak (s : State) (c : Nat) (f : SlotPower → SlotPower) : (s.modSlotPower c f).leak = s.leak := rfl
@[simp] theorem modSlotPower_mon (s : State) (c : Nat) (f : SlotPower → SlotPower) : (s.modSlotPower c f).mon = s.mon := rfl
@[simp] theorem modSlotPower_itg (s : State) (c : Nat) (f : SlotPower → SlotPower) : (s.modSlotPower c f).itg = s.itg := rfl
@[simp] theorem modSlotPower_sdc (s : State) (c : Nat) (f : SlotPower → SlotPower) : (s.modSlotPower c f).sdc = s.sdc := rfl
@[simp] theorem modSlotPower_fw (s : State) (c : Nat) (f : SlotPower → SlotPower) : (s.modSlotPower c f).fw = s.fw := rfl
@[simp] theorem modSlotPower_arb (s : State) (c : Nat) (f : SlotPower → SlotPower) : (s.modSlotPower c f).arb = s.arb := rfl
@[simp] theorem modSlotPower_mgt (s : State) (c : Nat) (f : SlotPower → SlotPower) : (s.modSlotPower c f).mgt = s.mgt := rfl
@[simp] theorem modSlotPower_rcd (s : State) (c : Nat) (f : SlotPower → SlotPower) : (s.modSlotPower c f).rcd = s.rcd := rfl
@[simp] theorem modSlotPower_cfg (s : State) (c : Nat) (f : SlotPower → SlotPower) : (s.modSlotPower c f).cfg = s.cfg := rfl
@[simp] theorem modSlotPower_img (s : State) (c : Nat) (f : SlotPower → SlotPower) : (s.modSlotPower c f).img = s.img := rfl
@[simp] theorem modSlotPower_upd (s : State) (c : Nat) (f : SlotPower → SlotPower) : (s.modSlotPower c f).upd = s.upd := rfl
@[simp] theorem modSlotPower_sec (s : State) (c : Nat) (f : SlotPower → SlotPower) : (s.modSlotPower c f).sec = s.sec := rfl
@[simp] theorem modSlotPower_flash (s : State) (c : Nat) (f : SlotPower → SlotPower) : (s.modSlotPower c f).flash = s.flash := rfl
@[simp] theorem modSlotPower_otp (s : State) (c : Nat) (f : SlotPower → SlotPower) : (s.modSlotPower c f).otp = s.otp := rfl
@[simp] theorem modSlotPower_pin (s : State) (c : Nat) (f : SlotPower → SlotPower) : (s.modSlotPower c f).pin = s.pin := rfl

/-! ## What they set -/

@[simp] theorem wr_regs (s : State) (f : Fld) (v : Nat) : (s.wr f v).regs = putField s.regs f v := rfl
@[simp] theorem drawFree_freeCtr (s : State) : s.drawFree.freeCtr = s.freeCtr + 1 := rfl
@[simp] theorem emit_out (s : State) (o : Out) : (s.emit o).out = o :: s.out := rfl
@[simp] theorem answer_out (s : State) (r : Resp) (v h : Nat) : (s.answer r v h).out = .answer r v h :: s.out := rfl
@[simp] theorem modDie_dies (s : State) (d : Nat) (f : Die → Die) : (s.modDie d f).sup.dies = tmod s.sup.dies d f := rfl
@[simp] theorem modProc_procs (s : State) (p : Nat) (f : Proc → Proc) : (s.modProc p f).fw.procs = tmod s.fw.procs p f := rfl
@[simp] theorem modLink_links (s : State) (l : Nat) (f : Link → Link) : (s.modLink l f).lnk.links = tmod s.lnk.links l f := rfl

end Sys2Proof.Laws
end

