-- ==== Sys2Proof/Laws/Registers.lean ====
section
/-! SUPPORT. Tables and register fields: a read after a write of the same key gives what was written, a read of another key what it gave. -/

namespace Sys2Proof.Laws

open Sys2Proof.Machine

/-! ## Tables -/

@[simp] theorem tfind_tput_same {α : Type} (t : Tab α) (i : Nat) (v : α) : tfind (tput t i v) i = some v := by
  induction t with
  | nil => simp [tput, tfind]
  | cons p r ih =>
    obtain ⟨k, u⟩ := p
    simp only [tput]
    split
    · simp [tfind]
    · split
      · simp [tfind]
      · rename_i h; simp [tfind, h, ih]

theorem tfind_tput_other {α : Type} (t : Tab α) {i j : Nat} (v : α) (h : i ≠ j) : tfind (tput t i v) j = tfind t j := by
  induction t with
  | nil => simp [tput, tfind, h]
  | cons p r ih =>
    obtain ⟨k, u⟩ := p
    simp only [tput]
    split
    · simp [tfind, h]
    · split
      · rename_i h2; subst h2; simp [tfind, h]
      · simp only [tfind, ih]

@[simp] theorem tfind_tdel_same {α : Type} (t : Tab α) (i : Nat) : tfind (tdel t i) i = none := by
  induction t with
  | nil => simp [tdel, tfind]
  | cons p r ih =>
    obtain ⟨k, u⟩ := p
    by_cases h : k = i
    · subst h; simpa [tdel, List.filter_cons] using ih
    · simpa [tdel, List.filter_cons, h, tfind] using ih

theorem tfind_tdel_other {α : Type} (t : Tab α) {i j : Nat} (h : i ≠ j) : tfind (tdel t i) j = tfind t j := by
  induction t with
  | nil => simp [tdel, tfind]
  | cons p r ih =>
    obtain ⟨k, u⟩ := p
    by_cases h2 : k = i
    · subst h2
      have : tfind ((k, u) :: r) j = tfind r j := by simp [tfind, h]
      rw [this]; simpa [tdel, List.filter_cons] using ih
    · simp only [tdel, List.filter_cons, bne_iff_ne, ne_eq, h2, not_false_eq_true, if_true, tfind]
      split
      · rfl
      · simpa [tdel] using ih

@[simp] theorem tget_tput_same {α : Type} [Inhabited α] (t : Tab α) (i : Nat) (v : α) : tget (tput t i v) i = v := by
  simp [tget, tgetD]

theorem tget_tput_other {α : Type} [Inhabited α] (t : Tab α) {i j : Nat} (v : α) (h : i ≠ j) :
    tget (tput t i v) j = tget t j := by
  simp [tget, tgetD, tfind_tput_other t v h]

@[simp] theorem tget_tmod_same {α : Type} [Inhabited α] (t : Tab α) (i : Nat) (f : α → α) :
    tget (tmod t i f) i = f (tget t i) := by
  simp [tmod]

theorem tget_tmod_other {α : Type} [Inhabited α] (t : Tab α) {i j : Nat} (f : α → α) (h : i ≠ j) :
    tget (tmod t i f) j = tget t j := by
  simp [tmod, tget_tput_other t _ h]

/-! ## Register fields -/

/-- A field reads what was last written to it, within its width. -/
@[simp] theorem rd_wr_same (s : State) (f : Fld) (v : Nat) : (s.wr f v).rd f = v % 2 ^ f.w := by
  simp only [State.rd, wr_regs, putField]
  split
  · rename_i h; simp [tgetD, h]
  · simp [tgetD]

/-- A write of one field leaves every other as it was. -/
theorem rd_wr_other (s : State) (f g : Fld) (v : Nat) (h : f.key ≠ g.key) : (s.wr f v).rd g = s.rd g := by
  simp only [State.rd, wr_regs, putField]
  split
  · simp [tgetD, tfind_tdel_other _ h]
  · simp [tgetD, tfind_tput_other _ _ h]

/-- What a read of a register field rests on. -/
theorem rd_eq_of_regs (s t : State) (g : Fld) (h : s.regs = t.regs) : s.rd g = t.rd g := by simp [State.rd, h]

@[simp] theorem rd_addWide (s : State) (f g : Fld) (n : Nat) : (s.addWide f n).rd g = s.rd g := rfl
@[simp] theorem rd_drawFree (s : State) (g : Fld) : s.drawFree.rd g = s.rd g := rfl
@[simp] theorem rd_emit (s : State) (o : Out) (g : Fld) : (s.emit o).rd g = s.rd g := rfl
@[simp] theorem rd_answer (s : State) (r : Resp) (v h : Nat) (g : Fld) : (s.answer r v h).rd g = s.rd g := rfl
@[simp] theorem rd_modDie (s : State) (d : Nat) (f : Die → Die) (g : Fld) : (s.modDie d f).rd g = s.rd g := rfl
@[simp] theorem rd_modProc (s : State) (p : Nat) (f : Proc → Proc) (g : Fld) : (s.modProc p f).rd g = s.rd g := rfl
@[simp] theorem rd_modLink (s : State) (l : Nat) (f : Link → Link) (g : Fld) : (s.modLink l f).rd g = s.rd g := rfl

/-- R9: an event count below all-ones goes up by one and its overflow bit stays; one at all-ones stays and its overflow bit is set. -/
theorem bump_count (s : State) (c : Cnt) (hw : c.cnt.w = 32) (h : s.rd c.cnt < 2 ^ 32 - 1) :
    (s.bump c).rd c.cnt = s.rd c.cnt + 1 := by
  have h1 : s.rd c.cnt ≠ 2 ^ 32 - 1 := Nat.ne_of_lt h
  have h2 : s.rd c.cnt + 1 < 2 ^ 32 := by omega
  simp only [State.bump, if_neg h1, rd_wr_same, hw, Nat.mod_eq_of_lt h2]

/-- A count's field and its overflow bit leave every other field as it was. -/
theorem bump_other (s : State) (c : Cnt) (g : Fld) (h1 : c.cnt.key ≠ g.key) (h2 : c.ovf.key ≠ g.key) :
    (s.bump c).rd g = s.rd g := by
  unfold State.bump
  split
  · exact rd_wr_other s _ _ _ h2
  · exact rd_wr_other s _ _ _ h1

end Sys2Proof.Laws
end

