-- ==== Sys2Proof/Laws/Frames.lean ====
section
/-! SUPPORT. Frames of the shared operations over the register fields: of each, which fields it may change (`RegsBut`), and what the record
operations leave. -/

namespace Sys2Proof.Laws

open Sys2Proof.Machine

theorem regsBut_refl (ks : List Fld) (s : State) : RegsBut ks s s := fun _ _ => rfl

theorem regsBut_trans {ks : List Fld} {r s t : State} (h : RegsBut ks r s) (g : RegsBut ks s t) : RegsBut ks r t :=
  fun k hk => (g k hk).trans (h k hk)

theorem regsBut_mono {ks ls : List Fld} {s t : State} (h : RegsBut ks s t) (hs : ∀ k ∈ ks.map Fld.key, k ∈ ls.map Fld.key) : RegsBut ls s t :=
  fun k hk => h k fun hm => hk (hs k hm)

/-- An operation that leaves the field file as it is. -/
theorem regsBut_regs {ks : List Fld} {s t u : State} (h : RegsBut ks s t) (e : u.regs = t.regs) : RegsBut ks s u :=
  fun k hk => by rw [e]; exact h k hk

theorem tfind_putField_other (t : Tab Nat) (f : Fld) (v k : Nat) (h : f.key ≠ k) : tfind (putField t f v) k = tfind t k := by
  unfold putField
  split
  · exact tfind_tdel_other _ h
  · exact tfind_tput_other _ _ h

/-- A field written. -/
theorem regsBut_wr {ks : List Fld} {s t : State} (f : Fld) (v : Nat) (h : RegsBut ks s t) (hf : f.key ∈ ks.map Fld.key) :
    RegsBut ks s (t.wr f v) := by
  intro k hk
  have hne : f.key ≠ k := fun e => hk (e ▸ hf)
  show tfind (putField t.regs f v) k = _
  rw [tfind_putField_other _ _ _ _ hne]
  exact h k hk

theorem regsBut_ite {ks : List Fld} {r a b : State} {c : Prop} [Decidable c] (ha : RegsBut ks r a) (hb : RegsBut ks r b) :
    RegsBut ks r (if c then a else b) := by
  split
  · exact ha
  · exact hb

/-- An event count advanced. -/
theorem regsBut_bump {ks : List Fld} {s t : State} (c : Cnt) (h : RegsBut ks s t) (h1 : c.cnt.key ∈ ks.map Fld.key)
    (h2 : c.ovf.key ∈ ks.map Fld.key) : RegsBut ks s (t.bump c) := by
  unfold State.bump
  exact regsBut_ite (regsBut_wr _ _ h h2) (regsBut_wr _ _ h h1)

/-- A field not listed reads as before. -/
theorem rd_regsBut {ks : List Fld} {s t : State} (h : RegsBut ks s t) (g : Fld) (hg : g.key ∉ ks.map Fld.key) : t.rd g = s.rd g := by
  unfold State.rd tgetD
  rw [h g.key hg]

/-! ## Records -/

theorem regsBut_enqueue {ks : List Fld} {s t : State} (b : CaskBody) (run : Nat) (h : RegsBut ks s t)
    (hr : ∀ k ∈ recordFields.map Fld.key, k ∈ ks.map Fld.key) : RegsBut ks s (t.enqueue b run) := by
  unfold State.enqueue
  refine regsBut_ite ?_ ?_
  · refine regsBut_wr _ _ (regsBut_bump _ (regsBut_regs h rfl) (hr _ ?_) (hr _ ?_)) (hr _ ?_) <;> decide
  · refine regsBut_wr _ _ (regsBut_regs h rfl) (hr _ ?_)
    decide

theorem regsBut_closeRun {ks : List Fld} {s t : State} (r : CaskRun) (h : RegsBut ks s t)
    (hr : ∀ k ∈ recordFields.map Fld.key, k ∈ ks.map Fld.key) : RegsBut ks s (closeRun t r) := by
  unfold closeRun
  exact regsBut_ite (regsBut_regs h rfl) (regsBut_enqueue _ _ (regsBut_regs h rfl) hr)

/-- R418, R420, R421: a record that is submitted changes only the recorder's counts. -/
theorem regsBut_submit {ks : List Fld} {s t : State} (b : CaskBody) (h : RegsBut ks s t)
    (hr : ∀ k ∈ recordFields.map Fld.key, k ∈ ks.map Fld.key) : RegsBut ks s (t.submit b) := by
  unfold State.submit
  extract_lets now stale t1 t2 id run t0 t3
  split
  · unfold repeatRun
    extract_lets now2 r2 t2
    exact regsBut_ite (regsBut_regs h rfl) (regsBut_wr _ _ (regsBut_regs h rfl) (hr _ (by decide)))
  · have h1 : RegsBut ks s t1 := by
      have hm : ∀ o : Option CaskRun, RegsBut ks s (match o with
          | some r => closeRun t r
          | none => t) := fun o => by
        split
        · exact regsBut_closeRun _ h hr
        · exact h
      exact hm stale
    have h2 : RegsBut ks s t2 := by
      unfold t2
      refine regsBut_ite h1 ?_
      split
      · exact regsBut_closeRun _ h1 hr
      · exact h1
    exact regsBut_enqueue _ _ (regsBut_regs h2 rfl) hr

/-- A notice changes no register field. -/
theorem regs_notify (s : State) (code : Nat) (body : List Nat) : (s.notify code body).regs = s.regs := by
  unfold State.notify
  extract_lets t0 t1
  split <;> rfl

theorem itg_notify (s : State) (code : Nat) (body : List Nat) : (s.notify code body).itg = s.itg := by
  unfold State.notify
  extract_lets t0 t1
  split <;> rfl

theorem regsBut_event {ks : List Fld} {s t : State} (code unit data : Nat) (h : RegsBut ks s t)
    (hr : ∀ k ∈ recordFields.map Fld.key, k ∈ ks.map Fld.key) : RegsBut ks s (t.event code unit data) := regsBut_submit _ h hr

/-- R338, R340: an error record changes only the head of the ring and the recorder's counts. -/
theorem regsBut_err {ks : List Fld} {s t : State} (unit op cls severity detail : Nat) (h : RegsBut ks s t)
    (hr : ∀ k ∈ recordFields.map Fld.key, k ∈ ks.map Fld.key) : RegsBut ks s (t.err unit op cls severity detail) := by
  unfold State.err
  extract_lets r k t0 t1 t2 st t3
  have h2 : RegsBut ks s t2 :=
    regsBut_wr _ _ (regsBut_wr _ _ (regsBut_regs h rfl) (hr _ (by decide))) (hr _ (by decide))
  have h3 : RegsBut ks s t3 := regsBut_ite h2 (regsBut_submit _ h2 hr)
  exact regsBut_ite (regsBut_regs h3 (regs_notify _ _ _)) h3

theorem itg_enqueue (s : State) (b : CaskBody) (run : Nat) : (s.enqueue b run).itg = s.itg := by
  unfold State.enqueue State.bump
  split
  · dsimp only
    split <;> rfl
  · rfl

theorem itg_closeRun (s : State) (r : CaskRun) : (closeRun s r).itg = s.itg := by
  unfold closeRun
  split
  · rfl
  · exact itg_enqueue _ _ _

theorem itg_submit (s : State) (b : CaskBody) : (s.submit b).itg = s.itg := by
  unfold State.submit
  extract_lets now stale t1 t2 id run t0 t3
  split
  · unfold repeatRun
    extract_lets now2 r2 t2
    split <;> rfl
  · have h1 : t1.itg = s.itg := by
      have hm : ∀ o : Option CaskRun, State.itg (match o with
          | some r => closeRun s r
          | none => s) = s.itg := fun o => by
        split
        · exact itg_closeRun _ _
        · rfl
      exact hm stale
    have h2 : t2.itg = s.itg := by
      unfold t2
      split
      · exact h1
      · split
        · exact (itg_closeRun _ _).trans h1
        · exact h1
    exact (itg_enqueue _ _ _).trans h2

/-- R340: an error record goes to the ring's next place. -/
theorem err_recorded (s : State) (unit op cls severity detail : Nat) :
    Recorded s (s.err unit op cls severity detail) unit op cls severity (detail % 2 ^ 128) := by
  unfold State.err
  extract_lets r k t0 t1 t2 st t3
  have h : t3.itg = t1.itg := by
    unfold t3
    split
    · rfl
    · exact itg_submit _ _
  have hn : ∀ u : State, u.itg = t1.itg → Recorded s u unit op cls severity (detail % 2 ^ 128) := by
    intro u hu
    refine ⟨r, ?_, rfl, rfl, rfl, rfl, rfl, ?_⟩
    · rw [hu]; exact tfind_tput_same _ _ _
    · rw [hu]
  split
  · exact hn _ ((itg_notify _ _ _).trans h)
  · exact hn _ h

end Sys2Proof.Laws
end

