-- ==== Sys2Proof/Laws/Memory.lean ====
section
/-! SUPPORT. Pool memory: every operation keeps the canonical form, and a read after a write gives the byte written there and the old byte
elsewhere. -/

namespace Sys2Proof.Laws

open Sys2Proof.Machine

/-! ## Numbers and their bytes -/

@[simp] theorem bytesOf_length (n w : Nat) : (bytesOf n w).length = n := by
  induction n generalizing w with
  | zero => rfl
  | succ k ih => simp [bytesOf, ih]

theorem ofBytes_bytesOf {n w : Nat} (h : w < 256 ^ n) : ofBytes (bytesOf n w) = w := by
  induction n generalizing w with
  | zero =>
    simp only [bytesOf, ofBytes]
    omega
  | succ k ih =>
    simp only [bytesOf, ofBytes]
    rw [ih (Nat.div_lt_of_lt_mul (by rwa [Nat.pow_succ, Nat.mul_comm] at h))]
    omega

/-! ## The canonical form -/

theorem wfAbove_weaken {a b : Nat} (h : a ≤ b) : ∀ m, Memory.wfAbove b m = true → Memory.wfAbove a m = true
  | [], _ => rfl
  | (k, c) :: r, hm => by
    simp only [Memory.wfAbove, Bool.and_eq_true, decide_eq_true_eq] at hm ⊢
    exact ⟨⟨by omega, hm.1.2⟩, hm.2⟩

theorem wf_of_wfAbove {a : Nat} : ∀ m, Memory.wfAbove a m = true → Memory.wf m = true
  | [], _ => rfl
  | (k, c) :: r, hm => by
    simp only [Memory.wfAbove, Bool.and_eq_true, decide_eq_true_eq] at hm
    simp only [Memory.wf, Bool.and_eq_true]
    exact ⟨hm.1.2, hm.2⟩

theorem wf_cons (k : Nat) (c : Byte) (r : List Host.Cell) :
    Memory.wf ((k, c) :: r) = true ↔ c ≠ Memory.blank ∧ Memory.wfAbove k r = true := by
  simp [Memory.wf]

theorem wfAbove_write (a : Nat) (b : Byte) : ∀ (m : List Host.Cell) (x : Nat), x < a → Memory.wfAbove x m = true →
    Memory.wfAbove x (Memory.write m a b) = true
  | [], x, hx, _ => by
    simp only [Memory.write]
    split
    · rfl
    · rename_i h; simp [Memory.wfAbove, hx, h]
  | (k, c) :: r, x, hx, hm => by
    simp only [Memory.wfAbove, Bool.and_eq_true, decide_eq_true_eq, bne_iff_ne, ne_eq] at hm
    simp only [Memory.write]
    split
    · rename_i hk
      simp only [Memory.wfAbove, Bool.and_eq_true, decide_eq_true_eq, bne_iff_ne, ne_eq]
      exact ⟨hm.1, wfAbove_write a b r k hk hm.2⟩
    · split
      · split
        · exact wfAbove_weaken (by omega) r hm.2
        · rename_i h1 h2 h3
          simp only [Memory.wfAbove, Bool.and_eq_true, decide_eq_true_eq, bne_iff_ne, ne_eq]
          exact ⟨⟨hx, h3⟩, by rw [← h2]; exact hm.2⟩
      · split
        · simp only [Memory.wfAbove, Bool.and_eq_true, decide_eq_true_eq, bne_iff_ne, ne_eq]; exact hm
        · rename_i h1 h2 h3
          simp only [Memory.wfAbove, Bool.and_eq_true, decide_eq_true_eq, bne_iff_ne, ne_eq]
          exact ⟨⟨hx, h3⟩, ⟨by omega, hm.1.2⟩, hm.2⟩

/-- A write keeps the canonical form. -/
theorem wf_write (m : List Host.Cell) (a : Nat) (b : Byte) (h : Memory.wf m = true) : Memory.wf (Memory.write m a b) = true := by
  cases m with
  | nil =>
    simp only [Memory.write]
    split
    · rfl
    · rename_i hb; simp [Memory.wf, Memory.wfAbove, hb]
  | cons p r =>
    obtain ⟨k, c⟩ := p
    rw [wf_cons] at h
    simp only [Memory.write]
    split
    · rename_i hk; rw [wf_cons]; exact ⟨h.1, wfAbove_write a b r k hk h.2⟩
    · split
      · rename_i h1 h2
        split
        · exact wf_of_wfAbove r h.2
        · rename_i h3; rw [wf_cons]; exact ⟨h3, by rw [← h2]; exact h.2⟩
      · split
        · rw [wf_cons]; exact h
        · rename_i h1 h2 h3
          rw [wf_cons]
          refine ⟨h3, ?_⟩
          simp only [Memory.wfAbove, Bool.and_eq_true, decide_eq_true_eq, bne_iff_ne, ne_eq]
          exact ⟨⟨by omega, h.1⟩, h.2⟩

/-- A run of bytes written keeps the canonical form. -/
theorem wf_writeBytes (l : List Nat) : ∀ (m : List Host.Cell) (a : Nat), Memory.wf m = true → Memory.wf (Memory.writeBytes m a l) = true := by
  induction l with
  | nil => intro m a h; exact h
  | cons b r ih => intro m a h; exact ih _ _ (wf_write m a _ h)

/-- A masked write keeps the canonical form. -/
theorem wf_writeMasked (l : List Nat) : ∀ (m : List Host.Cell) (a mask : Nat), Memory.wf m = true →
    Memory.wf (Memory.writeMasked m a mask l) = true := by
  induction l with
  | nil => intro m a mask h; exact h
  | cons b r ih =>
    intro m a mask h
    simp only [Memory.writeMasked]
    apply ih
    split
    · exact wf_write m a _ h
    · exact h

theorem wfAbove_filter (p : Host.Cell → Bool) : ∀ (m : List Host.Cell) (x : Nat), Memory.wfAbove x m = true →
    Memory.wfAbove x (m.filter p) = true
  | [], _, _ => rfl
  | (k, c) :: r, x, hm => by
    simp only [Memory.wfAbove, Bool.and_eq_true, decide_eq_true_eq, bne_iff_ne, ne_eq] at hm
    simp only [List.filter_cons]
    split
    · simp only [Memory.wfAbove, Bool.and_eq_true, decide_eq_true_eq, bne_iff_ne, ne_eq]
      exact ⟨hm.1, wfAbove_filter p r k hm.2⟩
    · exact wfAbove_filter p r x (wfAbove_weaken (by omega) r hm.2)

/-- Dropping cells keeps the canonical form: the dropped addresses read as blank. -/
theorem wf_filter (p : Host.Cell → Bool) (m : List Host.Cell) (h : Memory.wf m = true) : Memory.wf (m.filter p) = true := by
  cases m with
  | nil => rfl
  | cons q r =>
    obtain ⟨k, c⟩ := q
    rw [wf_cons] at h
    simp only [List.filter_cons]
    split
    · rw [wf_cons]; exact ⟨h.1, wfAbove_filter p r k h.2⟩
    · exact wf_of_wfAbove _ (wfAbove_filter p r k h.2)

/-! ## Reads -/

theorem read_of_wfAbove : ∀ (m : List Host.Cell) (k a : Nat), Memory.wfAbove k m = true → a ≤ k → Memory.read m a = Memory.blank
  | [], _, _, _, _ => rfl
  | (j, c) :: r, k, a, hm, ha => by
    simp only [Memory.wfAbove, Bool.and_eq_true, decide_eq_true_eq, bne_iff_ne, ne_eq] at hm
    have h1 : j ≠ a := by omega
    simp only [Memory.read, if_neg h1]
    exact read_of_wfAbove r j a hm.2 (by omega)

theorem read_write_same_above (a : Nat) (b : Byte) : ∀ (m : List Host.Cell) (x : Nat), x < a → Memory.wfAbove x m = true →
    Memory.read (Memory.write m a b) a = b
  | [], _, _, _ => by
    simp only [Memory.write]
    split
    · rename_i h; simp [Memory.read, h]
    · simp [Memory.read]
  | (k, c) :: r, x, hx, hm => by
    simp only [Memory.wfAbove, Bool.and_eq_true, decide_eq_true_eq, bne_iff_ne, ne_eq] at hm
    simp only [Memory.write]
    split
    · rename_i hk
      have h1 : k ≠ a := by omega
      simp only [Memory.read, if_neg h1]
      exact read_write_same_above a b r k hk hm.2
    · split
      · rename_i h1 h2
        split
        · rename_i h3; rw [h3]; exact read_of_wfAbove r k a hm.2 (by omega)
        · simp [Memory.read]
      · split
        · rename_i h1 h2 h3
          simp only [Memory.read, if_neg h2]
          rw [h3]; exact read_of_wfAbove r k a hm.2 (by omega)
        · simp [Memory.read]

/-- A read after a write to the same address gives the byte written. -/
theorem read_write_same (m : List Host.Cell) (a : Nat) (b : Byte) (h : Memory.wf m = true) : Memory.read (Memory.write m a b) a = b := by
  cases m with
  | nil =>
    simp only [Memory.write]
    split
    · rename_i h; simp [Memory.read, h]
    · simp [Memory.read]
  | cons p r =>
    obtain ⟨k, c⟩ := p
    rw [wf_cons] at h
    simp only [Memory.write]
    split
    · rename_i hk
      have h1 : k ≠ a := by omega
      simp only [Memory.read, if_neg h1]
      exact read_write_same_above a b r k hk h.2
    · split
      · split
        · rename_i h1 h2 h3; rw [h3]; exact read_of_wfAbove r k a h.2 (by omega)
        · simp [Memory.read]
      · split
        · rename_i h1 h2 h3
          simp only [Memory.read, if_neg h2]
          rw [h3]; exact read_of_wfAbove r k a h.2 (by omega)
        · simp [Memory.read]

/-- A write leaves every other address as it was. -/
theorem read_write_other (m : List Host.Cell) (a x : Nat) (b : Byte) (h : a ≠ x) : Memory.read (Memory.write m a b) x = Memory.read m x := by
  induction m with
  | nil =>
    simp only [Memory.write]
    split
    · rfl
    · simp [Memory.read, h]
  | cons p r ih =>
    obtain ⟨k, c⟩ := p
    simp only [Memory.write]
    split
    · simp only [Memory.read, ih]
    · split
      · rename_i h1 h2
        subst h2
        split <;> simp [Memory.read, h]
      · split
        · rfl
        · simp [Memory.read, h]

/-- A run of bytes written leaves every address outside it as it was. -/
theorem read_writeBytes_outside (l : List Nat) : ∀ (m : List Host.Cell) (a x : Nat), (x < a ∨ a + l.length ≤ x) →
    Memory.read (Memory.writeBytes m a l) x = Memory.read m x := by
  induction l with
  | nil => intro m a x _; rfl
  | cons b r ih =>
    intro m a x h
    simp only [List.length_cons] at h
    simp only [Memory.writeBytes]
    rw [ih _ _ _ (by omega), read_write_other _ _ _ _ (by omega)]

/-- A read inside a run of bytes just written gives the byte of the run. -/
theorem read_writeBytes_inside (l : List Nat) : ∀ (m : List Host.Cell) (a i : Nat), Memory.wf m = true → i < l.length →
    Memory.read (Memory.writeBytes m a l) (a + i) = BitVec.ofNat 8 (l.getD i 0) := by
  induction l with
  | nil => intro m a i _ h; simp at h
  | cons b r ih =>
    intro m a i hm h
    simp only [Memory.writeBytes]
    cases i with
    | zero =>
      rw [read_writeBytes_outside r _ _ _ (by omega)]
      simpa using read_write_same m a (BitVec.ofNat 8 b) hm
    | succ n =>
      have := ih (Memory.write m a (BitVec.ofNat 8 b)) (a + 1) n (wf_write m a _ hm) (by simpa using h)
      have e : a + (n + 1) = a + 1 + n := by omega
      rw [e, this]; simp

/-! ## The check line of a group of channel lines (R316) -/

theorem bits7 : ∀ a b c d e f g : Bool, ∀ k : Fin 7,
    (total [cond a 1 0, cond b 2 0, cond c 4 0, cond d 8 0, cond e 16 0, cond f 32 0, cond g 64 0]).testBit k =
      ([a, b, c, d, e, f, g].getD k false) := by decide +kernel

theorem poisonBits_testBit (m : MemState) (c g k : Nat) (h : k < 7) :
    (poisonBits m c g).testBit k = m.isMarked (channelLine c (7 * g + k)) := by
  have hb := bits7 (m.isMarked (channelLine c (7 * g + 0))) (m.isMarked (channelLine c (7 * g + 1))) (m.isMarked (channelLine c (7 * g + 2)))
    (m.isMarked (channelLine c (7 * g + 3))) (m.isMarked (channelLine c (7 * g + 4))) (m.isMarked (channelLine c (7 * g + 5)))
    (m.isMarked (channelLine c (7 * g + 6))) ⟨k, h⟩
  have hc : ∀ (x : Bool) (n : Nat), cond x n 0 = if x = true then n else 0 := by intro x n; cases x <;> rfl
  simp only [hc] at hb
  refine (show (poisonBits m c g).testBit k = _ from hb).trans ?_
  match k, h with
  | 0, _ | 1, _ | 2, _ | 3, _ | 4, _ | 5, _ | 6, _ => rfl

/-- R316: the check line says of each line what the mark says. -/
theorem rawMarked_eq (m : MemState) (c q : Nat) : rawMarked m c q = m.isMarked (channelLine c q) := by
  have hr (i : Nat) (hi : i < 3) : rawByte m c (rawPoison q i) = poisonBits m c (q / 7) := by
    unfold rawByte rawPoison rawCheckLine
    have h1 : (q / 7 * 2048 + 1792 + 224 + i) / 2048 = q / 7 := by omega
    have h2 : (q / 7 * 2048 + 1792 + 224 + i) % 2048 = 2016 + i := by omega
    simp only [h1, h2]
    rw [if_neg (by omega), if_neg (by omega), if_pos (by omega)]
  have hb (i : Nat) (hi : i < 3) : (rawByte m c (rawPoison q i)).testBit (q % 7) = m.isMarked (channelLine c q) := by
    rw [hr i hi, poisonBits_testBit m c _ _ (by omega), show 7 * (q / 7) + q % 7 = q by omega]
  unfold rawMarked
  rw [show List.range 3 = [0, 1, 2] from rfl]
  simp only [List.filter, hb 0 (by omega), hb 1 (by omega), hb 2 (by omega)]
  cases m.isMarked (channelLine c q) <;> rfl

end Sys2Proof.Laws
end

