-- ==== Sys2Proof/Laws/Keeps.lean ====
section
/-! SUPPORT. What every operation of the block does with regard to the queue of commands, the invariant, the OTP and the parts of the
state: the relation `Keeps`, and how it passes through each kind of step. The lemmas of the files Keeps<n> say it once of each operation.
A set of parts is a number here: bit n is the n-th part of `Part`. -/
namespace Sys2Proof.Laws
open Sys2Proof.Machine

/-- `t` is `s` but for the parts in the set `b`. -/
def Touch (b : Nat) (s t : State) : Prop := ∀ p : Part, b.testBit p.ctorIdx = false → p.Same s t

/-- From `r` to `s` no command is taken from the queue or put there, the invariant stays, no one-time bit falls, and only parts in the
set `m` change. -/
structure Keeps (m : Nat) (r s : State) : Prop where
  pending : s.pending = r.pending
  inv : Inv r → Inv s
  otp : OtpRises r.otp s.otp
  touch : Touch m r s

theorem sub_trans {a b m : Nat} (h : a &&& b = a) (g : b &&& m = b) : a &&& m = a := by rw [← h, Nat.and_assoc, g]

theorem testBit_sub {a m i : Nat} (h : a &&& m = a) (g : m.testBit i = false) : a.testBit i = false := by
  rw [← h, Nat.testBit_and, g, Bool.and_false]

theorem same_trans {p : Part} {r s t : State} (h : p.Same r s) (g : p.Same s t) : p.Same r t := by
  cases p <;> exact Eq.trans g h

theorem touch_trans {a m : Nat} {r s t : State} (h : Touch m r s) (hm : a &&& m = a) (g : Touch a s t) : Touch m r t :=
  fun p hp => same_trans (h p hp) (g p (testBit_sub hm hp))

theorem otpRises_refl (a : Otp) : OtpRises a a := ⟨Nat.and_self _, Nat.and_self _, Nat.and_self _, fun _ => Nat.and_self _, fun _ => Nat.le_refl _⟩

theorem bitsIn_trans {a b c : Nat} (h : BitsIn a b) (g : BitsIn b c) : BitsIn a c := by
  unfold BitsIn at *; rw [← h, Nat.and_assoc, g]

theorem otpRises_trans {a b c : Otp} (h : OtpRises a b) (g : OtpRises b c) : OtpRises a c :=
  ⟨bitsIn_trans h.1 g.1, bitsIn_trans h.2.1 g.2.1, bitsIn_trans h.2.2.1 g.2.2.1, fun k => bitsIn_trans (h.2.2.2.1 k) (g.2.2.2.1 k),
   fun k => Nat.le_trans (h.2.2.2.2 k) (g.2.2.2.2 k)⟩

theorem keeps_refl (m : Nat) (s : State) : Keeps m s s := ⟨rfl, id, otpRises_refl _, fun p _ => by cases p <;> rfl⟩

/-- An operation that changes what the invariant speaks of, and keeps it. -/
theorem keeps_by {m b : Nat} {r s t : State} (h : Keeps m r s) (hm : b &&& m = b) (hT : Touch b s t) (hp : t.pending = s.pending)
    (hi : Inv s → Inv t) (ho : OtpRises s.otp t.otp) : Keeps m r t :=
  ⟨hp.trans h.pending, fun hr => hi (h.inv hr), otpRises_trans h.otp ho, touch_trans h.touch hm hT⟩

/-- An operation that leaves alone what the invariant speaks of. -/
theorem keeps_mk {m b : Nat} {r s t : State} (h : Keeps m r s) (hm : b &&& m = b) (hT : Touch b s t) (hp : t.pending = s.pending)
    (h1 : t.mem.pool = s.mem.pool) (h2 : t.itg.next = s.itg.next) (h3 : t.itg.ring = s.itg.ring) (h4 : t.rcd.queue = s.rcd.queue)
    (h5 : (t.cad.phase, t.own) = (s.cad.phase, s.own)) (h6 : t.otp = s.otp) : Keeps m r t := by
  refine keeps_by h hm hT hp (fun hr => ?_) (by rw [h6]; exact otpRises_refl _)
  unfold Inv at *
  have h5a : t.cad.phase = s.cad.phase := congrArg Prod.fst h5
  have h5b : t.own = s.own := congrArg Prod.snd h5
  rwa [h1, h2, h3, h4, h5a, h5b]

/-! One part replaced. -/

theorem keeps_regs {m : Nat} {r s : State} {v} (h : Keeps m r s) (hm : 4 &&& m = 4)  : Keeps m r { s with regs := v } :=
  keeps_mk h hm (by intro p hp; cases p <;> first | rfl | cases hp) rfl rfl rfl rfl rfl rfl rfl

theorem keeps_wide {m : Nat} {r s : State} {v} (h : Keeps m r s) (hm : 8 &&& m = 8)  : Keeps m r { s with wide := v } :=
  keeps_mk h hm (by intro p hp; cases p <;> first | rfl | cases hp) rfl rfl rfl rfl rfl rfl rfl

theorem keeps_out {m : Nat} {r s : State} {v} (h : Keeps m r s) (hm : 16 &&& m = 16)  : Keeps m r { s with out := v } :=
  keeps_mk h hm (by intro p hp; cases p <;> first | rfl | cases hp) rfl rfl rfl rfl rfl rfl rfl

theorem keeps_freeCtr {m : Nat} {r s : State} {v} (h : Keeps m r s) (hm : 32 &&& m = 32)  : Keeps m r { s with freeCtr := v } :=
  keeps_mk h hm (by intro p hp; cases p <;> first | rfl | cases hp) rfl rfl rfl rfl rfl rfl rfl

theorem keeps_sup {m : Nat} {r s : State} {v} (h : Keeps m r s) (hm : 64 &&& m = 64)  : Keeps m r { s with sup := v } :=
  keeps_mk h hm (by intro p hp; cases p <;> first | rfl | cases hp) rfl rfl rfl rfl rfl rfl rfl

theorem keeps_cad {m : Nat} {r s : State} {v} (h : Keeps m r s) (hm : 128 &&& m = 128) (e : v.phase = s.cad.phase) : Keeps m r { s with cad := v } :=
  keeps_mk h hm (by intro p hp; cases p <;> first | rfl | cases hp) rfl rfl rfl rfl rfl (congrArg (·, s.own) e) rfl

theorem keeps_own {m : Nat} {r s : State} {v} (h : Keeps m r s) (hm : 256 &&& m = 256)
    (hv : (∀ o ∈ s.own, o.2.phase ≤ phaseMax) → ∀ o ∈ v, o.2.phase ≤ phaseMax) : Keeps m r { s with own := v } :=
  keeps_by h hm (by intro p hp; cases p <;> first | rfl | cases hp) rfl (fun hi => ⟨hi.1, hi.2.1, hi.2.2.1, hi.2.2.2.1, hv hi.2.2.2.2⟩) (otpRises_refl _)

theorem keeps_gt {m : Nat} {r s : State} {v} (h : Keeps m r s) (hm : 512 &&& m = 512)  : Keeps m r { s with gt := v } :=
  keeps_mk h hm (by intro p hp; cases p <;> first | rfl | cases hp) rfl rfl rfl rfl rfl rfl rfl

theorem keeps_pat {m : Nat} {r s : State} {v} (h : Keeps m r s) (hm : 1024 &&& m = 1024)  : Keeps m r { s with pat := v } :=
  keeps_mk h hm (by intro p hp; cases p <;> first | rfl | cases hp) rfl rfl rfl rfl rfl rfl rfl

theorem keeps_mem {m : Nat} {r s : State} {v} (h : Keeps m r s) (hm : 2048 &&& m = 2048) (e : v.pool = s.mem.pool) : Keeps m r { s with mem := v } :=
  keeps_mk h hm (by intro p hp; cases p <;> first | rfl | cases hp) rfl e rfl rfl rfl rfl rfl

theorem keeps_lnk {m : Nat} {r s : State} {v} (h : Keeps m r s) (hm : 4096 &&& m = 4096)  : Keeps m r { s with lnk := v } :=
  keeps_mk h hm (by intro p hp; cases p <;> first | rfl | cases hp) rfl rfl rfl rfl rfl rfl rfl

theorem keeps_seq {m : Nat} {r s : State} {v} (h : Keeps m r s) (hm : 8192 &&& m = 8192)  : Keeps m r { s with seq := v } :=
  keeps_mk h hm (by intro p hp; cases p <;> first | rfl | cases hp) rfl rfl rfl rfl rfl rfl rfl

theorem keeps_pwr {m : Nat} {r s : State} {v} (h : Keeps m r s) (hm : 16384 &&& m = 16384)  : Keeps m r { s with pwr := v } :=
  keeps_mk h hm (by intro p hp; cases p <;> first | rfl | cases hp) rfl rfl rfl rfl rfl rfl rfl

theorem keeps_cool {m : Nat} {r s : State} {v} (h : Keeps m r s) (hm : 32768 &&& m = 32768)  : Keeps m r { s with cool := v } :=
  keeps_mk h hm (by intro p hp; cases p <;> first | rfl | cases hp) rfl rfl rfl rfl rfl rfl rfl

theorem keeps_leak {m : Nat} {r s : State} {v} (h : Keeps m r s) (hm : 65536 &&& m = 65536)  : Keeps m r { s with leak := v } :=
  keeps_mk h hm (by intro p hp; cases p <;> first | rfl | cases hp) rfl rfl rfl rfl rfl rfl rfl

theorem keeps_mon {m : Nat} {r s : State} {v} (h : Keeps m r s) (hm : 131072 &&& m = 131072)  : Keeps m r { s with mon := v } :=
  keeps_mk h hm (by intro p hp; cases p <;> first | rfl | cases hp) rfl rfl rfl rfl rfl rfl rfl

theorem keeps_itg {m : Nat} {r s : State} {v} (h : Keeps m r s) (hm : 262144 &&& m = 262144) (e : v.next = s.itg.next) (g : v.ring = s.itg.ring) : Keeps m r { s with itg := v } :=
  keeps_mk h hm (by intro p hp; cases p <;> first | rfl | cases hp) rfl rfl e g rfl rfl rfl

theorem keeps_sdc {m : Nat} {r s : State} {v} (h : Keeps m r s) (hm : 524288 &&& m = 524288)  : Keeps m r { s with sdc := v } :=
  keeps_mk h hm (by intro p hp; cases p <;> first | rfl | cases hp) rfl rfl rfl rfl rfl rfl rfl

theorem keeps_fw {m : Nat} {r s : State} {v} (h : Keeps m r s) (hm : 1048576 &&& m = 1048576)  : Keeps m r { s with fw := v } :=
  keeps_mk h hm (by intro p hp; cases p <;> first | rfl | cases hp) rfl rfl rfl rfl rfl rfl rfl

theorem keeps_arb {m : Nat} {r s : State} {v} (h : Keeps m r s) (hm : 2097152 &&& m = 2097152)  : Keeps m r { s with arb := v } :=
  keeps_mk h hm (by intro p hp; cases p <;> first | rfl | cases hp) rfl rfl rfl rfl rfl rfl rfl

theorem keeps_mgt {m : Nat} {r s : State} {v} (h : Keeps m r s) (hm : 4194304 &&& m = 4194304)  : Keeps m r { s with mgt := v } :=
  keeps_mk h hm (by intro p hp; cases p <;> first | rfl | cases hp) rfl rfl rfl rfl rfl rfl rfl

theorem keeps_rcd {m : Nat} {r s : State} {v} (h : Keeps m r s) (hm : 8388608 &&& m = 8388608) (e : v.queue = s.rcd.queue) : Keeps m r { s with rcd := v } :=
  keeps_mk h hm (by intro p hp; cases p <;> first | rfl | cases hp) rfl rfl rfl rfl e rfl rfl

theorem keeps_cfg {m : Nat} {r s : State} {v} (h : Keeps m r s) (hm : 16777216 &&& m = 16777216)  : Keeps m r { s with cfg := v } :=
  keeps_mk h hm (by intro p hp; cases p <;> first | rfl | cases hp) rfl rfl rfl rfl rfl rfl rfl

theorem keeps_img {m : Nat} {r s : State} {v} (h : Keeps m r s) (hm : 33554432 &&& m = 33554432)  : Keeps m r { s with img := v } :=
  keeps_mk h hm (by intro p hp; cases p <;> first | rfl | cases hp) rfl rfl rfl rfl rfl rfl rfl

theorem keeps_upd {m : Nat} {r s : State} {v} (h : Keeps m r s) (hm : 67108864 &&& m = 67108864)  : Keeps m r { s with upd := v } :=
  keeps_mk h hm (by intro p hp; cases p <;> first | rfl | cases hp) rfl rfl rfl rfl rfl rfl rfl

theorem keeps_sec {m : Nat} {r s : State} {v} (h : Keeps m r s) (hm : 134217728 &&& m = 134217728)  : Keeps m r { s with sec := v } :=
  keeps_mk h hm (by intro p hp; cases p <;> first | rfl | cases hp) rfl rfl rfl rfl rfl rfl rfl

theorem keeps_flash {m : Nat} {r s : State} {v} (h : Keeps m r s) (hm : 268435456 &&& m = 268435456)  : Keeps m r { s with flash := v } :=
  keeps_mk h hm (by intro p hp; cases p <;> first | rfl | cases hp) rfl rfl rfl rfl rfl rfl rfl

theorem keeps_pin {m : Nat} {r s : State} {v} (h : Keeps m r s) (hm : 1073741824 &&& m = 1073741824)  : Keeps m r { s with pin := v } :=
  keeps_mk h hm (by intro p hp; cases p <;> first | rfl | cases hp) rfl rfl rfl rfl rfl rfl rfl

/-! Changes of what the invariant speaks of. -/

/-- An operation that writes pool bytes. -/
theorem keeps_pool {m b : Nat} {r s t : State} (h : Keeps m r s) (hm : b &&& m = b) (hT : Touch b s t)
    (hw : Memory.wf s.mem.pool = true → Memory.wf t.mem.pool = true)
    (hp : t.pending = s.pending) (h2 : t.itg = s.itg) (h4 : t.rcd = s.rcd) (h5 : (t.cad, t.own) = (s.cad, s.own)) (h6 : t.otp = s.otp) : Keeps m r t := by
  refine keeps_by h hm hT hp (fun hi => ?_) (by rw [h6]; exact otpRises_refl _)
  unfold Inv at *
  have h5a : t.cad = s.cad := congrArg Prod.fst h5
  have h5b : t.own = s.own := congrArg Prod.snd h5
  rw [h2, h4, h5a, h5b]
  exact ⟨hw hi.1, hi.2⟩

/-- An operation that changes the cask's queue. -/
theorem keeps_queue {m b : Nat} {r s t : State} (h : Keeps m r s) (hm : b &&& m = b) (hT : Touch b s t)
    (hq : s.rcd.queue.length ≤ 1024 → t.rcd.queue.length ≤ 1024)
    (hp : t.pending = s.pending) (h1 : t.mem = s.mem) (h2 : t.itg = s.itg) (h5 : (t.cad, t.own) = (s.cad, s.own)) (h6 : t.otp = s.otp) : Keeps m r t := by
  refine keeps_by h hm hT hp (fun hi => ?_) (by rw [h6]; exact otpRises_refl _)
  unfold Inv at *
  have h5a : t.cad = s.cad := congrArg Prod.fst h5
  have h5b : t.own = s.own := congrArg Prod.snd h5
  rw [h1, h2, h5a, h5b]
  exact ⟨hi.1, hi.2.1, hq hi.2.2.1, hi.2.2.2⟩

/-- An operation that changes the cadence's phase. -/
theorem keeps_phase {m b : Nat} {r s t : State} (h : Keeps m r s) (hm : b &&& m = b) (hT : Touch b s t)
    (hc : (s.cad.phase ≤ phaseMax ∧ ∀ o ∈ s.own, o.2.phase ≤ phaseMax) → t.cad.phase ≤ phaseMax ∧ ∀ o ∈ t.own, o.2.phase ≤ phaseMax)
    (hp : t.pending = s.pending) (h1 : t.mem = s.mem) (h2 : t.itg = s.itg) (h4 : t.rcd = s.rcd) (h6 : t.otp = s.otp) : Keeps m r t := by
  refine keeps_by h hm hT hp (fun hi => ?_) (by rw [h6]; exact otpRises_refl _)
  unfold Inv at *
  rw [h1, h2, h4]
  exact ⟨hi.1, hi.2.1, hi.2.2.1, hc hi.2.2.2⟩

/-- An operation that programs the OTP. -/
theorem keeps_otp {m b : Nat} {r s t : State} (h : Keeps m r s) (hm : b &&& m = b) (hT : Touch b s t) (ho : OtpRises s.otp t.otp)
    (hp : t.pending = s.pending) (h1 : t.mem = s.mem) (h2 : t.itg = s.itg) (h4 : t.rcd = s.rcd) (h5 : (t.cad, t.own) = (s.cad, s.own)) : Keeps m r t := by
  refine keeps_by h hm hT hp (fun hi => ?_) ho
  unfold Inv at *
  have h5a : t.cad = s.cad := congrArg Prod.fst h5
  have h5b : t.own = s.own := congrArg Prod.snd h5
  rwa [h1, h2, h4, h5a, h5b]

theorem bitsIn_or (a b : Nat) : BitsIn a (a ||| b) := by
  apply Nat.eq_of_testBit_eq
  intro i
  simp only [Nat.testBit_and, Nat.testBit_or]
  cases a.testBit i <;> simp

theorem bitsIn_refl (a : Nat) : BitsIn a a := Nat.and_self a

theorem bitsIn_tput_or (t : Tab Nat) (k v : Nat) (j : Nat) : BitsIn (tget t j) (tget (tput t k (tget t k ||| v)) j) := by
  by_cases h : k = j
  · subst h; rw [tget_tput_same]; exact bitsIn_or _ _
  · rw [tget_tput_other _ _ h]; exact bitsIn_refl _

theorem le_tput (t : Tab Nat) (k v : Nat) (h : tget t k ≤ v) (j : Nat) : tget t j ≤ tget (tput t k v) j := by
  by_cases e : k = j
  · subst e; rwa [tget_tput_same]
  · exact Nat.le_of_eq (tget_tput_other _ _ e).symm

/-- The keys of a table after a write. -/
theorem keys_tput {α : Type} (t : Tab α) (i : Nat) (v : α) (P : Nat → Prop) (hi : P i) (ht : ∀ e ∈ t, P e.1) : ∀ e ∈ tput t i v, P e.1 := by
  induction t with
  | nil => intro e he; simp [tput] at he; rw [he]; exact hi
  | cons p r ih =>
    obtain ⟨k, u⟩ := p
    intro e he
    unfold tput at he
    split at he
    · rcases List.mem_cons.mp he with he | he
      · rw [he]; exact hi
      · exact ht e he
    · split at he
      · rcases List.mem_cons.mp he with he | he
        · rw [he]; exact hi
        · exact ht e (List.mem_cons_of_mem _ he)
      · rcases List.mem_cons.mp he with he | he
        · rw [he]; exact ht (k, u) List.mem_cons_self
        · exact ih (fun e h => ht e (List.mem_cons_of_mem _ h)) e he

theorem advance_phase (c : Cadence) : c.advance.phase ≤ phaseMax ∨ c.advance.phase = c.phase := by
  unfold Cadence.advance
  split
  · exact .inr rfl
  · left
    simp only []
    split <;> exact Nat.min_le_right _ _

theorem stall_phase (c : Cadence) : c.stall.phase ≤ phaseMax := Nat.le_refl _

theorem mark_phase (c : Cadence) (a b : Nat) (d e : Bool) : (c.mark a b d e).1.phase ≤ phaseMax := Nat.zero_le _

/-- The phases of the dies' own trackers: what a change of all of them, of one of them, or leaving some out does. -/
theorem own_map {t : Tab Cadence} (g : Nat × Cadence → Nat × Cadence) (hg : ∀ o, o.2.phase ≤ phaseMax → (g o).2.phase ≤ phaseMax)
    (h : ∀ o ∈ t, o.2.phase ≤ phaseMax) : ∀ o ∈ t.map g, o.2.phase ≤ phaseMax := by
  intro o ho
  obtain ⟨x, hx, rfl⟩ := List.mem_map.mp ho
  exact hg x (h x hx)

theorem own_filter {t : Tab Cadence} (q : Nat × Cadence → Bool) (h : ∀ o ∈ t, o.2.phase ≤ phaseMax) :
    ∀ o ∈ t.filter q, o.2.phase ≤ phaseMax := fun o ho => h o (List.mem_filter.mp ho).1

theorem own_tput {t : Tab Cadence} (i : Nat) {v : Cadence} (hv : v.phase ≤ phaseMax) (h : ∀ o ∈ t, o.2.phase ≤ phaseMax) :
    ∀ o ∈ tput t i v, o.2.phase ≤ phaseMax := by
  induction t with
  | nil =>
    intro o ho
    rw [List.mem_singleton.mp ho]
    exact hv
  | cons p r ih =>
    obtain ⟨k, u⟩ := p
    have hr : ∀ o ∈ r, o.2.phase ≤ phaseMax := fun o ho => h o (List.mem_cons_of_mem _ ho)
    intro o ho
    unfold tput at ho
    split at ho
    · rcases List.mem_cons.mp ho with rfl | ho
      · exact hv
      · exact h o ho
    · split at ho
      · rcases List.mem_cons.mp ho with rfl | ho
        · exact hv
        · exact hr o ho
      · rcases List.mem_cons.mp ho with rfl | ho
        · exact h _ (List.mem_cons_self ..)
        · exact ih hr o ho

theorem own_tfind {t : Tab Cadence} {i : Nat} {v : Cadence} (e : tfind t i = some v) (h : ∀ o ∈ t, o.2.phase ≤ phaseMax) : v.phase ≤ phaseMax := by
  induction t with
  | nil => cases e
  | cons p r ih =>
    obtain ⟨k, u⟩ := p
    unfold tfind at e
    split at e
    · cases e
      exact h _ (List.mem_cons_self ..)
    · exact ih e fun o ho => h o (List.mem_cons_of_mem _ ho)

theorem correct_phase (c : Cadence) (k a : Nat) (h : c.phase ≤ phaseMax) : (c.correct k a).phase ≤ phaseMax := by
  unfold Cadence.correct
  split <;> exact h

theorem advance_phase_le (c : Cadence) (h : c.phase ≤ phaseMax) : c.advance.phase ≤ phaseMax := by
  rcases advance_phase c with g | g
  · exact g
  · exact Nat.le_trans (Nat.le_of_eq g) h

theorem keeps_ite {m : Nat} {r a b : State} {c : Prop} [Decidable c] (ha : Keeps m r a) (hb : Keeps m r b) :
    Keeps m r (if c then a else b) := by
  split
  · exact ha
  · exact hb

theorem keeps_ite1 {m : Nat} {r : State} {α : Type} {a b : State × α} {c : Prop} [Decidable c] (ha : Keeps m r a.1) (hb : Keeps m r b.1) :
    Keeps m r (if c then a else b).1 := by
  split
  · exact ha
  · exact hb

theorem keeps_fst {m : Nat} {r a : State} {α : Type} {b : α} (h : Keeps m r a) : Keeps m r (a, b).1 := h

theorem keeps_foldl1 {m : Nat} {r : State} {α β : Type} {s : State × α} {f : State × α → β → State × α} {l : List β} (h : Keeps m r s.1)
    (hf : ∀ t x, Keeps m r t.1 → Keeps m r (f t x).1) : Keeps m r (l.foldl f s).1 := by
  induction l generalizing s with
  | nil => exact h
  | cons x xs ih => exact ih (hf s x h)

theorem keeps_foldl {m : Nat} {r s : State} {α : Type} {f : State → α → State} {l : List α} (h : Keeps m r s)
    (hf : ∀ t x, Keeps m r t → Keeps m r (f t x)) : Keeps m r (l.foldl f s) := by
  induction l generalizing s with
  | nil => exact h
  | cons x xs ih => exact ih (hf s x h)

/-- The set of the listed parts. -/
def partMask : List Part → Nat
  | [] => 0
  | p :: r => 2 ^ p.ctorIdx ||| partMask r

theorem ctorIdx_inj {p q : Part} (h : p.ctorIdx = q.ctorIdx) : p = q := by
  cases p <;> cases q <;> first | rfl | exact absurd h (by decide)

theorem testBit_partMask (p : Part) : ∀ ps, p ∉ ps → (partMask ps).testBit p.ctorIdx = false
  | [], _ => Nat.zero_testBit _
  | q :: r, h => by
    have hq : q.ctorIdx ≠ p.ctorIdx := fun e => h (by rw [ctorIdx_inj e]; exact List.mem_cons_self)
    simp only [partMask, Nat.testBit_or, Nat.testBit_two_pow, testBit_partMask p r (fun e => h (List.mem_cons_of_mem _ e)), Bool.or_false]
    exact decide_eq_false hq

/-- The parts outside a set are as before, by the list of the set. -/
theorem onlyIn_of_keeps {ps : List Part} {m : Nat} {s t : State} (e : m = partMask ps) (h : Keeps m s t) : OnlyIn ps s t :=
  fun p hp => h.touch p (by rw [e]; exact testBit_partMask p ps hp)

theorem keeps_of_eq {m : Nat} {r s t : State} (e : s = t) (h : Keeps m r s) : Keeps m r t := e ▸ h

end Sys2Proof.Laws
end

