-- ==== Sys2Proof/Laws/Keeps1.lean ====
section
/-! SUPPORT. What the operations of Ops, Arbiter, Cadence, Access, Flits, Units, Hub keep (the relation `Keeps`): of each, that it passes on the relation of the
state it is given, where the parts it writes are among those named. -/
namespace Sys2Proof.Laws
open Sys2Proof.Machine

/-! ## Ops -/

theorem State_addWide_keeps {m : Nat} {r : State} {p0 : State} {p1} {p2} (hm : 8 &&& m = 8) (h0_ : Keeps m r p0) : Keeps m r (@State.addWide p0 p1 p2) := by
  unfold State.addWide
  exact keeps_wide h0_ (sub_trans rfl hm)

theorem State_emit_keeps {m : Nat} {r : State} {p0 : State} {p1} (hm : 16 &&& m = 16) (h0_ : Keeps m r p0) : Keeps m r (@State.emit p0 p1) := by
  unfold State.emit
  exact keeps_out h0_ (sub_trans rfl hm)

theorem State_answer_keeps {m : Nat} {r : State} {p0 : State} {p1} {p2} {p3} (hm : 16 &&& m = 16) (h0_ : Keeps m r p0) : Keeps m r (@State.answer p0 p1 p2 p3) := by
  unfold State.answer
  refine State_emit_keeps (sub_trans rfl hm) h0_

theorem State_wr_keeps {m : Nat} {r : State} {p0 : State} {p1} {p2} (hm : 4 &&& m = 4) (h0_ : Keeps m r p0) : Keeps m r (@State.wr p0 p1 p2) := by
  unfold State.wr
  exact keeps_regs h0_ (sub_trans rfl hm)

theorem State_bump_keeps {m : Nat} {r : State} {p0 : State} {p1} (hm : 4 &&& m = 4) (h0_ : Keeps m r p0) : Keeps m r (@State.bump p0 p1) := by
  unfold State.bump
  refine keeps_ite ?_ ?_
  · refine State_wr_keeps (sub_trans rfl hm) h0_
  · refine State_wr_keeps (sub_trans rfl hm) h0_

theorem State_onDies_keeps {m : Nat} {r : State} {p0 : State} {p1} (hm : 0 &&& m = 0) (h0_ : Keeps m r p0) (h1_ : ∀ q0, ∀ q1, Keeps m r q1 → Keeps m r (p1 q0 q1)) : Keeps m r (@State.onDies p0 p1) := by
  unfold State.onDies
  extract_lets -lift -merge -underBinder s_1
  have h_s_1 : Keeps m r s_1 := by
    unfold s_1
    refine keeps_ite ?_ ?_
    · refine h1_ _ _ h0_
    · exact h0_
  try clear_value s_1
  refine keeps_ite ?_ ?_
  · refine h1_ _ _ h_s_1
  · exact h_s_1

theorem State_bumpDies_keeps {m : Nat} {r : State} {p0 : State} {p1} (hm : 4 &&& m = 4) (h0_ : Keeps m r p0) : Keeps m r (@State.bumpDies p0 p1) := by
  unfold State.bumpDies
  refine State_onDies_keeps (sub_trans rfl hm) h0_ ?_
  · intro a_1 a_2 h_3
    refine State_bump_keeps (sub_trans rfl hm) h_3

theorem State_bumpN_keeps {m : Nat} {r : State} {p0 : State} {p1} {p2} (hm : 4 &&& m = 4) (h0_ : Keeps m r p0) : Keeps m r (@State.bumpN p0 p1 p2) := by
  unfold State.bumpN
  refine keeps_ite ?_ ?_
  · refine State_wr_keeps (sub_trans rfl hm) h0_
  · refine State_wr_keeps (sub_trans rfl hm) ?_
    · refine State_wr_keeps (sub_trans rfl hm) h0_

theorem State_reach_keeps {m : Nat} {r : State} {p0 : State} {p1} {p2} (hm : 0 &&& m = 0) (h0_ : Keeps m r p0) (h2_ : ∀ q0, Keeps m r q0 → Keeps m r (p2 q0)) : Keeps m r (@State.reach p0 p1 p2) := by
  unfold State.reach
  refine keeps_ite ?_ ?_
  · exact h0_
  · refine h2_ _ h0_

theorem State_deny_keeps {m : Nat} {r : State} {p0 : State} {p1} (hm : 16 &&& m = 16) (h0_ : Keeps m r p0) : Keeps m r (@State.deny p0 p1) := by
  unfold State.deny
  refine State_reach_keeps (sub_trans rfl hm) h0_ ?_
  · intro a_1 h_2
    refine State_answer_keeps (sub_trans rfl hm) h_2

theorem State_drawFree_keeps {m : Nat} {r : State} {p0 : State} (hm : 32 &&& m = 32) (h0_ : Keeps m r p0) : Keeps m r (@State.drawFree p0) := by
  unfold State.drawFree
  exact keeps_freeCtr h0_ (sub_trans rfl hm)

theorem State_enqueue_keeps {m : Nat} {r : State} {p0 : State} {p1} {p2} (hm : 8388612 &&& m = 8388612) (h0_ : Keeps m r p0) : Keeps m r (@State.enqueue p0 p1 p2) := by
  unfold State.enqueue
  split
  · extract_lets -lift -merge -underBinder __src_1 s_2
    have h_s_2 : Keeps m r s_2 := by
      unfold s_2
      exact keeps_rcd h0_ (sub_trans rfl hm) rfl
    try clear_value s_2
    refine State_wr_keeps (sub_trans rfl hm) ?_
    · refine State_bump_keeps (sub_trans rfl hm) h_s_2
  · extract_lets -lift -merge -underBinder r_3 __src_4 s_5
    try clear_value r_3
    have h_s_5 : Keeps m r s_5 := by
      unfold s_5
      refine keeps_queue (b := 8388608) h0_ (sub_trans rfl hm) (by intro p hp; cases p <;> first | rfl | cases hp) (fun _ => ?_) rfl rfl rfl rfl rfl
      simp only [List.length_append, List.length_cons, List.length_nil]
      omega
    try clear_value s_5
    refine State_wr_keeps (sub_trans rfl hm) h_s_5

theorem repeatRun_keeps {m : Nat} {r : State} {p0 : State} {p1} (hm : 8388612 &&& m = 8388612) (h0_ : Keeps m r p0) : Keeps m r (@repeatRun p0 p1) := by
  unfold repeatRun
  extract_lets -lift -merge -underBinder now_1 r__2 __src_3 s_4
  try clear_value now_1
  try clear_value r__2
  have h_s_4 : Keeps m r s_4 := by
    unfold s_4
    exact keeps_rcd h0_ (sub_trans rfl hm) rfl
  try clear_value s_4
  refine keeps_ite ?_ ?_
  · exact h_s_4
  · refine State_wr_keeps (sub_trans rfl hm) h_s_4

theorem closeRun_keeps {m : Nat} {r : State} {p0 : State} {p1} (hm : 8388612 &&& m = 8388612) (h0_ : Keeps m r p0) : Keeps m r (@closeRun p0 p1) := by
  unfold closeRun
  extract_lets -lift -merge -underBinder __src_1 s_2
  have h_s_2 : Keeps m r s_2 := by
    unfold s_2
    exact keeps_rcd h0_ (sub_trans rfl hm) rfl
  try clear_value s_2
  refine keeps_ite ?_ ?_
  · exact h_s_2
  · refine State_enqueue_keeps (sub_trans rfl hm) h_s_2

theorem State_submit_keeps {m : Nat} {r : State} {p0 : State} {p1} (hm : 8388612 &&& m = 8388612) (h0_ : Keeps m r p0) : Keeps m r (@State.submit p0 p1) := by
  unfold State.submit
  extract_lets -lift -merge -underBinder now_1
  try clear_value now_1
  split
  · refine repeatRun_keeps (sub_trans rfl hm) h0_
  · extract_lets -lift -merge -underBinder stale_2 s_3 s_4 id_5 run_6 __src_7 s_8
    try clear_value stale_2
    try clear_value id_5
    try clear_value run_6
    have h_s_3 : Keeps m r s_3 := by
      unfold s_3
      split
      · refine closeRun_keeps (sub_trans rfl hm) h0_
      · exact h0_
    try clear_value s_3
    have h_s_4 : Keeps m r s_4 := by
      unfold s_4
      refine keeps_ite ?_ ?_
      · exact h_s_3
      · split
        · refine closeRun_keeps (sub_trans rfl hm) h_s_3
        · exact h_s_3
    try clear_value s_4
    have h_s_8 : Keeps m r s_8 := by
      unfold s_8
      exact keeps_rcd h_s_4 (sub_trans rfl hm) rfl
    try clear_value s_8
    refine State_enqueue_keeps (sub_trans rfl hm) h_s_8

theorem State_notify_keeps {m : Nat} {r : State} {p0 : State} {p1} {p2} (hm : 4194320 &&& m = 4194320) (h0_ : Keeps m r p0) : Keeps m r (@State.notify p0 p1 p2) := by
  unfold State.notify
  extract_lets -lift -merge -underBinder __src_1 s_2 s_3
  have h_s_2 : Keeps m r s_2 := by
    unfold s_2
    exact keeps_mgt h0_ (sub_trans rfl hm)
  try clear_value s_2
  have h_s_3 : Keeps m r s_3 := by
    unfold s_3
    refine State_emit_keeps (sub_trans rfl hm) h_s_2
  try clear_value s_3
  refine keeps_ite ?_ ?_
  · refine State_emit_keeps (sub_trans rfl hm) h_s_3
  · exact h_s_3

theorem State_err_keeps {m : Nat} {r : State} {p0 : State} {p1} {p2} {p3} {p4} {p5} (hm : 12845076 &&& m = 12845076) (h0_ : Keeps m r p0) : Keeps m r (@State.err p0 p1 p2 p3 p4 p5) := by
  unfold State.err
  extract_lets -lift -merge -underBinder r_1 k_2 __src_3 s_4 s_5 st_6 s_7
  try clear_value r_1
  try clear_value st_6
  have h_s_4 : Keeps m r s_4 := by
    unfold s_4
    refine keeps_by (b := 262144) h0_ (sub_trans rfl hm) (by intro p hp; cases p <;> first | rfl | cases hp) rfl (fun hi => ?_) (otpRises_refl _)
    exact ⟨hi.1, ⟨Nat.mod_lt _ (by decide), keys_tput _ _ _ (· < 256) hi.2.1.1 hi.2.1.2⟩, hi.2.2⟩
  try clear_value s_4
  have h_s_5 : Keeps m r s_5 := by
    unfold s_5
    refine State_wr_keeps (sub_trans rfl hm) ?_
    · refine State_wr_keeps (sub_trans rfl hm) h_s_4
  try clear_value s_5
  have h_s_7 : Keeps m r s_7 := by
    unfold s_7
    refine keeps_ite ?_ ?_
    · exact h_s_5
    · refine State_submit_keeps (sub_trans rfl hm) h_s_5
  try clear_value s_7
  refine keeps_ite ?_ ?_
  · refine State_notify_keeps (sub_trans rfl hm) h_s_7
  · exact h_s_7

theorem State_event_keeps {m : Nat} {r : State} {p0 : State} {p1} {p2} {p3} (hm : 8388612 &&& m = 8388612) (h0_ : Keeps m r p0) : Keeps m r (@State.event p0 p1 p2 p3) := by
  unfold State.event
  refine State_submit_keeps (sub_trans rfl hm) h0_

theorem State_gateDie_keeps {m : Nat} {r : State} {p0 : State} {p1} {p2} {p3} (hm : 16 &&& m = 16) (h0_ : Keeps m r p0) (h3_ : ∀ q0, Keeps m r q0 → Keeps m r (p3 q0)) : Keeps m r (@State.gateDie p0 p1 p2 p3) := by
  unfold State.gateDie
  refine keeps_ite ?_ ?_
  · refine h3_ _ h0_
  · refine keeps_ite ?_ ?_
    · refine keeps_ite ?_ ?_
      · refine State_answer_keeps (sub_trans rfl hm) h0_
      · exact h0_
    · refine State_answer_keeps (sub_trans rfl hm) h0_

theorem State_hostGate_keeps {m : Nat} {r : State} {p0 : State} {p1} {p2} (hm : 16 &&& m = 16) (h0_ : Keeps m r p0) (h2_ : ∀ q0, Keeps m r q0 → Keeps m r (p2 q0)) : Keeps m r (@State.hostGate p0 p1 p2) := by
  unfold State.hostGate
  refine keeps_ite ?_ ?_
  · refine State_deny_keeps (sub_trans rfl hm) h0_
  · refine State_reach_keeps (sub_trans rfl hm) h0_ h2_

theorem State_modProc_keeps {m : Nat} {r : State} {p0 : State} {p1} {p2} (hm : 1048576 &&& m = 1048576) (h0_ : Keeps m r p0) : Keeps m r (@State.modProc p0 p1 p2) := by
  unfold State.modProc
  exact keeps_fw h0_ (sub_trans rfl hm)

theorem State_logEntry_keeps {m : Nat} {r : State} {p0 : State} {p1} {p2} {p3} {p4} (hm : 1048576 &&& m = 1048576) (h0_ : Keeps m r p0) : Keeps m r (@State.logEntry p0 p1 p2 p3 p4) := by
  unfold State.logEntry
  refine State_modProc_keeps (sub_trans rfl hm) h0_

theorem State_modDie_keeps {m : Nat} {r : State} {p0 : State} {p1} {p2} (hm : 64 &&& m = 64) (h0_ : Keeps m r p0) : Keeps m r (@State.modDie p0 p1 p2) := by
  unfold State.modDie
  exact keeps_sup h0_ (sub_trans rfl hm)

theorem State_modLink_keeps {m : Nat} {r : State} {p0 : State} {p1} {p2} (hm : 4096 &&& m = 4096) (h0_ : Keeps m r p0) : Keeps m r (@State.modLink p0 p1 p2) := by
  unfold State.modLink
  exact keeps_lnk h0_ (sub_trans rfl hm)

theorem State_openIn_keeps {m : Nat} {r : State} {p0 : State} {p1} {p2} (hm : 4096 &&& m = 4096) (h0_ : Keeps m r p0) : Keeps m r (@State.openIn p0 p1 p2) := by
  unfold State.openIn
  refine State_modLink_keeps (sub_trans rfl hm) h0_

theorem State_plannedIn_keeps {m : Nat} {r : State} {p0 : State} {p1} {p2} (hm : 4096 &&& m = 4096) (h0_ : Keeps m r p0) : Keeps m r (@State.plannedIn p0 p1 p2) := by
  unfold State.plannedIn
  refine State_modLink_keeps (sub_trans rfl hm) h0_

theorem State_plannedOut_keeps {m : Nat} {r : State} {p0 : State} {p1} {p2} (hm : 4096 &&& m = 4096) (h0_ : Keeps m r p0) : Keeps m r (@State.plannedOut p0 p1 p2) := by
  unfold State.plannedOut
  refine State_modLink_keeps (sub_trans rfl hm) h0_

theorem State_requeue_keeps {m : Nat} {r : State} {p0 : State} {p1} (hm : 8388612 &&& m = 8388612) (h0_ : Keeps m r p0) : Keeps m r (@State.requeue p0 p1) := by
  unfold State.requeue
  extract_lets -lift -merge -underBinder room_1 lost_2 __src_3 s_4 s_5
  have h_s_4 : Keeps m r s_4 := by
    unfold s_4
    refine keeps_queue (b := 8388608) h0_ (sub_trans rfl hm) (by intro p hp; cases p <;> first | rfl | cases hp) (fun hq => ?_) rfl rfl rfl rfl rfl
    simp only [List.length_append, List.length_take]
    omega
  try clear_value s_4
  have h_s_5 : Keeps m r s_5 := by
    unfold s_5
    refine keeps_ite ?_ ?_
    · exact h_s_4
    · refine State_wr_keeps (sub_trans rfl hm) ?_
      · refine State_bumpN_keeps (sub_trans rfl hm) h_s_4
  try clear_value s_5
  refine State_wr_keeps (sub_trans rfl hm) h_s_5

theorem State_setLinkState_keeps {m : Nat} {r : State} {p0 : State} {p1} {p2} (hm : 4 &&& m = 4) (h0_ : Keeps m r p0) : Keeps m r (@State.setLinkState p0 p1 p2) := by
  unfold State.setLinkState
  refine State_wr_keeps (sub_trans rfl hm) h0_

theorem State_summary_keeps {m : Nat} {r : State} {p0 : State} {p1} (hm : 8388612 &&& m = 8388612) (h0_ : Keeps m r p0) : Keeps m r (@State.summary p0 p1) := by
  unfold State.summary
  refine State_enqueue_keeps (sub_trans rfl hm) h0_

theorem State_wrDies_keeps {m : Nat} {r : State} {p0 : State} {p1} {p2} (hm : 4 &&& m = 4) (h0_ : Keeps m r p0) : Keeps m r (@State.wrDies p0 p1 p2) := by
  unfold State.wrDies
  refine State_onDies_keeps (sub_trans rfl hm) h0_ ?_
  · intro a_1 a_2 h_3
    refine State_wr_keeps (sub_trans rfl hm) h_3

/-! ## Arbiter -/

theorem grant_keeps {m : Nat} {r : State} {p0 : State} {p1} {p2} (hm : 4 &&& m = 4) (h0_ : Keeps m r p0) : Keeps m r (@grant p0 p1 p2) := by
  unfold grant
  split
  · extract_lets -lift -merge -underBinder s_1 s_2 s_3 s_4
    have h_s_1 : Keeps m r s_1 := by
      unfold s_1
      refine State_wr_keeps (sub_trans rfl hm) h0_
    try clear_value s_1
    have h_s_2 : Keeps m r s_2 := by
      unfold s_2
      refine State_wr_keeps (sub_trans rfl hm) h_s_1
    try clear_value s_2
    have h_s_3 : Keeps m r s_3 := by
      unfold s_3
      refine State_wr_keeps (sub_trans rfl hm) h_s_2
    try clear_value s_3
    have h_s_4 : Keeps m r s_4 := by
      unfold s_4
      refine State_wr_keeps (sub_trans rfl hm) h_s_3
    try clear_value s_4
    refine State_wr_keeps (sub_trans rfl hm) h_s_4
  · extract_lets -lift -merge -underBinder others_5 susp_6 wait_7 o_8 s_9 s_10 s_11 s_12 s_13
    try clear_value others_5
    try clear_value susp_6
    try clear_value wait_7
    try clear_value o_8
    have h_s_9 : Keeps m r s_9 := by
      unfold s_9
      refine State_wr_keeps (sub_trans rfl hm) h0_
    try clear_value s_9
    have h_s_10 : Keeps m r s_10 := by
      unfold s_10
      refine State_wr_keeps (sub_trans rfl hm) h_s_9
    try clear_value s_10
    have h_s_11 : Keeps m r s_11 := by
      unfold s_11
      refine State_wr_keeps (sub_trans rfl hm) h_s_10
    try clear_value s_11
    have h_s_12 : Keeps m r s_12 := by
      unfold s_12
      refine State_wr_keeps (sub_trans rfl hm) h_s_11
    try clear_value s_12
    have h_s_13 : Keeps m r s_13 := by
      unfold s_13
      refine State_wr_keeps (sub_trans rfl hm) h_s_12
    try clear_value s_13
    refine State_wr_keeps (sub_trans rfl hm) h_s_13

theorem draw_keeps {m : Nat} {r : State} {p0 : State} {p1} (hm : 4 &&& m = 4) (h0_ : Keeps m r p0) : Keeps m r (@draw p0 p1) := by
  unfold draw
  refine grant_keeps (sub_trans rfl hm) h0_

theorem arbCrash_keeps {m : Nat} {r : State} {p0 : State} {p1} (hm : 2097172 &&& m = 2097172) (h0_ : Keeps m r p0) : Keeps m r (@arbCrash p0 p1) := by
  unfold arbCrash
  refine keeps_foldl h0_ ?_
  · intro t_1 x_2 h_3
    refine keeps_ite ?_ ?_
    · exact h_3
    · extract_lets -lift -merge -underBinder __src_4 s_5
      have h_s_5 : Keeps m r s_5 := by
        unfold s_5
        exact keeps_arb h_3 (sub_trans rfl hm)
      try clear_value s_5
      refine keeps_ite ?_ ?_
      · refine draw_keeps (sub_trans rfl hm) ?_
        · refine State_emit_keeps (sub_trans rfl hm) h_s_5
      · refine keeps_ite ?_ ?_
        · refine grant_keeps (sub_trans rfl hm) h_s_5
        · exact h_s_5

theorem seedArbiter_keeps {m : Nat} {r : State} {p0 : State} (hm : 36 &&& m = 36) (h0_ : Keeps m r p0) : Keeps m r (@seedArbiter p0) := by
  unfold seedArbiter
  extract_lets -lift -merge -underBinder v_1
  try clear_value v_1
  refine State_wr_keeps (sub_trans rfl hm) ?_
  · refine State_drawFree_keeps (sub_trans rfl hm) h0_

theorem runLfsr_keeps {m : Nat} {r : State} {p0 : State} {p1} (hm : 4 &&& m = 4) (h0_ : Keeps m r p0) : Keeps m r (@runLfsr p0 p1) := by
  unfold runLfsr
  refine State_wr_keeps (sub_trans rfl hm) h0_

theorem arbDraw_keeps {m : Nat} {r : State} {p0} {p1} {p2 : State} (hm : 2097156 &&& m = 2097156) (h2_ : Keeps m r p2) : Keeps m r (@arbDraw p0 p1 p2) := by
  unfold arbDraw
  extract_lets -lift -merge -underBinder s_1 h_2
  try clear_value h_2
  have h_s_1 : Keeps m r s_1 := by
    unfold s_1
    refine runLfsr_keeps (sub_trans rfl hm) h2_
  try clear_value s_1
  refine keeps_ite ?_ ?_
  · exact h_s_1
  · split
    · refine draw_keeps (sub_trans rfl hm) h_s_1
    · extract_lets -lift -merge -underBinder k_3 lockedNow_4 ops_5 __src_6 s_7
      try clear_value k_3
      try clear_value lockedNow_4
      try clear_value ops_5
      have h_s_7 : Keeps m r s_7 := by
        unfold s_7
        exact keeps_arb h_s_1 (sub_trans rfl hm)
      try clear_value s_7
      refine keeps_ite ?_ ?_
      · refine grant_keeps (sub_trans rfl hm) h_s_7
      · refine draw_keeps (sub_trans rfl hm) h_s_7

theorem arbPost_keeps {m : Nat} {r : State} {p0} {p1} {p2} {p3} {p4 : State} (hm : 2097156 &&& m = 2097156) (h4_ : Keeps m r p4) : Keeps m r (@arbPost p0 p1 p2 p3 p4) := by
  unfold arbPost
  extract_lets -lift -merge -underBinder s_1 __src_2 s_3
  have h_s_1 : Keeps m r s_1 := by
    unfold s_1
    refine runLfsr_keeps (sub_trans rfl hm) h4_
  try clear_value s_1
  have h_s_3 : Keeps m r s_3 := by
    unfold s_3
    exact keeps_arb h_s_1 (sub_trans rfl hm)
  try clear_value s_3
  refine keeps_ite ?_ ?_
  · exact h_s_1
  · refine keeps_ite ?_ ?_
    · refine State_wr_keeps (sub_trans rfl hm) h_s_3
    · refine draw_keeps (sub_trans rfl hm) h_s_3

theorem arbTicketWrite_keeps {m : Nat} {r : State} {p0} {p1} {p2} {p3} {p4 : State} (hm : 20 &&& m = 20) (h4_ : Keeps m r p4) : Keeps m r (@arbTicketWrite p0 p1 p2 p3 p4) := by
  unfold arbTicketWrite
  refine keeps_ite ?_ ?_
  · refine State_deny_keeps (sub_trans rfl hm) h4_
  · refine keeps_ite ?_ ?_
    · refine State_answer_keeps (sub_trans rfl hm) h4_
    · refine State_answer_keeps (sub_trans rfl hm) ?_
      · refine keeps_ite ?_ ?_
        · refine State_wr_keeps (sub_trans rfl hm) h4_
        · refine State_wr_keeps (sub_trans rfl hm) h4_

/-! ## Cadence -/

theorem stepMarkMessage_keeps {m : Nat} {r : State} {p0} {p1} {p2 : State} (hm : 128 &&& m = 128) (h2_ : Keeps m r p2) : Keeps m r (@stepMarkMessage p0 p1 p2) := by
  unfold stepMarkMessage
  refine keeps_ite ?_ ?_
  · exact h2_
  · exact keeps_cad h2_ (sub_trans rfl hm) rfl

theorem markRejectOn_keeps {m : Nat} {r : State} {p0} {p1} {p2} {p3} {p4} {p5 : State} (hm : 4 &&& m = 4) (h5_ : Keeps m r p5) : Keeps m r (@markRejectOn p0 p1 p2 p3 p4 p5) := by
  unfold markRejectOn
  extract_lets -lift -merge -underBinder s_1 s_2 s_3 s_4 s_5
  have h_s_1 : Keeps m r s_1 := by
    unfold s_1
    refine State_bump_keeps (sub_trans rfl hm) h5_
  try clear_value s_1
  have h_s_2 : Keeps m r s_2 := by
    unfold s_2
    refine State_wr_keeps (sub_trans rfl hm) h_s_1
  try clear_value s_2
  have h_s_3 : Keeps m r s_3 := by
    unfold s_3
    refine State_wr_keeps (sub_trans rfl hm) h_s_2
  try clear_value s_3
  have h_s_4 : Keeps m r s_4 := by
    unfold s_4
    refine State_wr_keeps (sub_trans rfl hm) h_s_3
  try clear_value s_4
  have h_s_5 : Keeps m r s_5 := by
    unfold s_5
    refine State_wr_keeps (sub_trans rfl hm) h_s_4
  try clear_value s_5
  refine State_wr_keeps (sub_trans rfl hm) h_s_5

theorem markReject_keeps {m : Nat} {r : State} {p0 : State} {p1} {p2} {p3} {p4} (hm : 4 &&& m = 4) (h0_ : Keeps m r p0) : Keeps m r (@markReject p0 p1 p2 p3 p4) := by
  unfold markReject
  refine State_onDies_keeps (sub_trans rfl hm) h0_ ?_
  · intro a_1 a_2 h_3
    refine markRejectOn_keeps (sub_trans rfl hm) h_3

theorem phaseMarkAt_keeps {m : Nat} {r : State} {p0 : State} {p1} {p2} {p3} {p4} (hm : 132 &&& m = 132) (h0_ : Keeps m r p0) : Keeps m r (@phaseMarkAt p0 p1 p2 p3 p4) := by
  unfold phaseMarkAt
  refine keeps_ite ?_ ?_
  · exact h0_
  · split
    · refine markReject_keeps (sub_trans rfl hm) h0_
    · refine keeps_ite ?_ ?_
      · refine markReject_keeps (sub_trans rfl hm) h0_
      · refine keeps_ite ?_ ?_
        · refine markReject_keeps (sub_trans rfl hm) h0_
        · refine keeps_ite ?_ ?_
          · exact keeps_cad h0_ (sub_trans rfl hm) rfl
          · extract_lets -lift -merge -underBinder set_1 __src_2 c_3
            try clear_value set_1
            refine keeps_ite ?_ ?_
            · exact keeps_cad h0_ (sub_trans rfl hm) rfl
            · exact keeps_cad h0_ (sub_trans rfl hm) rfl

theorem toleranceWrite_keeps {m : Nat} {r : State} {p0} {p1} {p2} {p3 : State} (hm : 148 &&& m = 148) (h3_ : Keeps m r p3) : Keeps m r (@toleranceWrite p0 p1 p2 p3) := by
  unfold toleranceWrite
  refine State_gateDie_keeps (sub_trans rfl hm) h3_ ?_
  · intro a_1 h_2
    refine State_hostGate_keeps (sub_trans rfl hm) h_2 ?_
    · intro a_3 h_4
      refine keeps_ite ?_ ?_
      · refine State_answer_keeps (sub_trans rfl hm) h_4
      · extract_lets -lift -merge -underBinder s_5 __src_6
        have h_s_5 : Keeps m r s_5 := by
          unfold s_5
          refine State_onDies_keeps (sub_trans rfl hm) h_4 ?_
          · intro a_7 a_8 h_9
            refine State_wr_keeps (sub_trans rfl hm) h_9
        try clear_value s_5
        refine State_answer_keeps (sub_trans rfl hm) ?_
        · exact keeps_cad h_s_5 (sub_trans rfl hm) rfl

theorem stallCadence_keeps {m : Nat} {r : State} {p0 : State} (hm : 8388740 &&& m = 8388740) (h0_ : Keeps m r p0) : Keeps m r (@stallCadence p0) := by
  unfold stallCadence
  extract_lets -lift -merge -underBinder step_1 s_2 s_3
  try clear_value step_1
  have h_s_2 : Keeps m r s_2 := by
    unfold s_2
    exact keeps_phase (b := 128) h0_ (sub_trans rfl hm) (by intro p hp; cases p <;> first | rfl | cases hp) (fun h => ⟨stall_phase _, h.2⟩) rfl rfl rfl rfl rfl
  try clear_value s_2
  have h_s_3 : Keeps m r s_3 := by
    unfold s_3
    refine State_onDies_keeps (sub_trans rfl hm) h_s_2 ?_
    · intro a_4 a_5 h_6
      refine keeps_ite ?_ ?_
      · exact h_6
      · refine State_bump_keeps (sub_trans rfl hm) h_6
  try clear_value s_3
  refine State_event_keeps (sub_trans rfl hm) h_s_3

theorem cadenceStall_keeps {m : Nat} {r : State} {p0 : State} (hm : 8388740 &&& m = 8388740) (h0_ : Keeps m r p0) : Keeps m r (@cadenceStall p0) := by
  unfold cadenceStall
  refine keeps_ite ?_ ?_
  · refine stallCadence_keeps (sub_trans rfl hm) h0_
  · exact h0_

theorem nominalTakes_keeps {m : Nat} {r : State} {p0 : State} (hm : 128 &&& m = 128) (h0_ : Keeps m r p0) : Keeps m r (@nominalTakes p0) := by
  unfold nominalTakes
  refine keeps_ite ?_ ?_
  · exact h0_
  · extract_lets -lift -merge -underBinder due_1 __src_2
    try clear_value due_1
    exact keeps_cad h0_ (sub_trans rfl hm) rfl

theorem stallOwn_keeps {m : Nat} {r : State} {p0 : State} {p1} {p2} (hm : 260 &&& m = 260) (h0_ : Keeps m r p0) : Keeps m r (@stallOwn p0 p1 p2) := by
  unfold stallOwn
  split
  · exact h0_
  · refine keeps_ite ?_ ?_
    · refine State_bump_keeps (sub_trans rfl hm) ?_
      · exact keeps_own h0_ (sub_trans rfl hm) (own_tput _ (stall_phase _))
    · exact h0_

theorem cadenceTick_keeps {m : Nat} {r : State} {p0 : State} (hm : 8389508 &&& m = 8389508) (h0_ : Keeps m r p0) : Keeps m r (@cadenceTick p0) := by
  unfold cadenceTick
  refine keeps_ite ?_ ?_
  · exact h0_
  · extract_lets -lift -merge -underBinder now_1 __src_2 s_3 go_4 s_5 s_6
    try clear_value now_1
    have h_s_3 : Keeps m r s_3 := by
      unfold s_3
      exact keeps_gt h0_ (sub_trans rfl hm)
    try clear_value s_3
    have h_s_5 : Keeps m r s_5 := by
      unfold s_5
      exact keeps_phase (b := 384) h_s_3 (sub_trans rfl hm) (by intro p hp; cases p <;> first | rfl | cases hp) (fun h => ⟨advance_phase_le _ h.1, own_map _ (fun o => advance_phase_le o.2) h.2⟩) rfl rfl rfl rfl rfl
    try clear_value s_5
    have h_s_6 : Keeps m r s_6 := by
      unfold s_6
      refine keeps_ite ?_ ?_
      · refine stallCadence_keeps (sub_trans rfl hm) h_s_5
      · exact h_s_5
    try clear_value s_6
    refine nominalTakes_keeps (sub_trans rfl hm) ?_
    · refine stallOwn_keeps (sub_trans rfl hm) ?_
      · refine stallOwn_keeps (sub_trans rfl hm) h_s_6

theorem markEffect_keeps {m : Nat} {r : State} {p0 : State} (hm : 388 &&& m = 388) (h0_ : Keeps m r p0) : Keeps m r (@markEffect p0) := by
  unfold markEffect
  split
  · exact h0_
  · refine keeps_ite ?_ ?_
    · exact h0_
    · extract_lets -lift -merge -underBinder e_1 __src_2 s_3 k_4 f_5 go_6
      try clear_value e_1
      try clear_value k_4
      have h_s_3 : Keeps m r s_3 := by
        unfold s_3
        exact keeps_cad h0_ (sub_trans rfl hm) rfl
      try clear_value s_3
      have h_f_5 : Keeps m r f_5 := by
        unfold f_5
        refine State_onDies_keeps (sub_trans rfl hm) h_s_3 ?_
        · intro a_7 a_8 h_9
          extract_lets -lift -merge -underBinder c_10
          refine keeps_ite ?_ ?_
          · refine markRejectOn_keeps (sub_trans rfl hm) h_9
          · refine State_bump_keeps (sub_trans rfl hm) h_9
      try clear_value f_5
      refine keeps_ite ?_ ?_
      · refine State_bumpDies_keeps (sub_trans rfl hm) h_s_3
      · exact keeps_phase (b := 384) h_f_5 (sub_trans rfl hm) (by intro p hp; cases p <;> first | rfl | cases hp) (fun h => ⟨correct_phase _ _ _ h.1, own_map _ (fun o => correct_phase o.2 _ _) h.2⟩) rfl rfl rfl rfl rfl

theorem phaseMark_keeps {m : Nat} {r : State} {p0} {p1} {p2} {p3 : State} (hm : 132 &&& m = 132) (h3_ : Keeps m r p3) : Keeps m r (@phaseMark p0 p1 p2 p3) := by
  unfold phaseMark
  refine phaseMarkAt_keeps (sub_trans rfl hm) h3_

theorem toleranceApply_keeps {m : Nat} {r : State} {p0 : State} (hm : 128 &&& m = 128) (h0_ : Keeps m r p0) : Keeps m r (@toleranceApply p0) := by
  unfold toleranceApply
  split
  · exact h0_
  · refine keeps_ite ?_ ?_
    · exact h0_
    · exact keeps_cad h0_ (sub_trans rfl hm) rfl

/-! ## Access -/

theorem markPoison_keeps {m : Nat} {r : State} {p0 : State} {p1} (hm : 2052 &&& m = 2052) (h0_ : Keeps m r p0) : Keeps m r (@markPoison p0 p1) := by
  unfold markPoison
  refine keeps_ite ?_ ?_
  · exact h0_
  · refine State_bump_keeps (sub_trans rfl hm) ?_
    · exact keeps_mem h0_ (sub_trans rfl hm) rfl

theorem writeLine_keeps {m : Nat} {r : State} {p0 : State} {p1} {p2} (hm : 2052 &&& m = 2052) (h0_ : Keeps m r p0) : Keeps m r (@writeLine p0 p1 p2) := by
  unfold writeLine
  extract_lets -lift -merge -underBinder line_1 __src_2
  try clear_value line_1
  refine keeps_ite ?_ ?_
  · exact h0_
  · refine keeps_ite ?_ ?_
    · refine markPoison_keeps (sub_trans rfl hm) h0_
    · refine keeps_ite ?_ ?_
      · exact h0_
      · refine keeps_pool (b := 2048) h0_ (sub_trans rfl hm) (by intro p hp; cases p <;> first | rfl | cases hp) (fun hw => ?_) rfl rfl rfl rfl rfl
        exact wf_writeBytes _ _ _ hw

theorem writeSpan_keeps {m : Nat} {r : State} {p0 : State} {p1} {p2} (hm : 2052 &&& m = 2052) (h0_ : Keeps m r p0) : Keeps m r (@writeSpan p0 p1 p2) := by
  unfold writeSpan
  refine keeps_foldl h0_ ?_
  · intro t_1 x_2 h_3
    extract_lets -lift -merge -underBinder p_4
    try clear_value p_4
    refine writeLine_keeps (sub_trans rfl hm) h_3

theorem countPart_keeps {m : Nat} {r : State} {p0 : State} {p1} {p2} (hm : 16384 &&& m = 16384) (h0_ : Keeps m r p0) : Keeps m r (@countPart p0 p1 p2) := by
  unfold countPart
  exact keeps_pwr h0_ (sub_trans rfl hm)

theorem modMemStat_keeps {m : Nat} {r : State} {p0 : State} {p1} {p2} (hm : 2048 &&& m = 2048) (h0_ : Keeps m r p0) : Keeps m r (@modMemStat p0 p1 p2) := by
  unfold modMemStat
  exact keeps_mem h0_ (sub_trans rfl hm) rfl

theorem countSpan_keeps {m : Nat} {r : State} {p0 : State} {p1} {p2} {p3} (hm : 2048 &&& m = 2048) (h0_ : Keeps m r p0) : Keeps m r (@countSpan p0 p1 p2 p3) := by
  unfold countSpan
  refine keeps_foldl h0_ ?_
  · intro t_1 x_2 h_3
    extract_lets -lift -merge -underBinder b_4
    try clear_value b_4
    refine keeps_ite ?_ ?_
    · exact h_3
    · refine modMemStat_keeps (sub_trans rfl hm) h_3

theorem countAccess_keeps {m : Nat} {r : State} {p0 : State} {p1} {p2} {p3} {p4} (hm : 18432 &&& m = 18432) (h0_ : Keeps m r p0) : Keeps m r (@countAccess p0 p1 p2 p3 p4) := by
  unfold countAccess
  refine keeps_foldl h0_ ?_
  · intro t_1 x_2 h_3
    extract_lets -lift -merge -underBinder lo_4 k_5
    try clear_value lo_4
    try clear_value k_5
    refine keeps_ite ?_ ?_
    · exact h_3
    · refine countPart_keeps (sub_trans rfl hm) ?_
      · refine countSpan_keeps (sub_trans rfl hm) h_3

theorem rowWrites_keeps {m : Nat} {r : State} {p0 : State} {p1} (hm : 18436 &&& m = 18436) (h0_ : Keeps m r p0) : Keeps m r (@rowWrites p0 p1) := by
  unfold rowWrites
  refine keeps_foldl h0_ ?_
  · intro t_1 x_2 h_3
    extract_lets -lift -merge -underBinder parts_4 whole_5 s_6
    try clear_value parts_4
    try clear_value whole_5
    have h_s_6 : Keeps m r s_6 := by
      unfold s_6
      refine keeps_foldl h_3 ?_
      · intro t_7 x_8 h_9
        refine countAccess_keeps (sub_trans rfl hm) h_9
    try clear_value s_6
    refine keeps_ite ?_ ?_
    · refine writeLine_keeps (sub_trans rfl hm) h_s_6
    · refine keeps_foldl h_s_6 ?_
      · intro t_10 x_11 h_12
        refine writeLine_keeps (sub_trans rfl hm) h_12

theorem countConv_keeps {m : Nat} {r : State} {p0 : State} {p1} {p2} {p3} (hm : 4 &&& m = 4) (h0_ : Keeps m r p0) : Keeps m r (@countConv p0 p1 p2 p3) := by
  unfold countConv
  extract_lets -lift -merge -underBinder s_1
  have h_s_1 : Keeps m r s_1 := by
    unfold s_1
    refine keeps_ite ?_ ?_
    · exact h0_
    · refine State_wr_keeps (sub_trans rfl hm) ?_
      · refine State_bumpN_keeps (sub_trans rfl hm) h0_
  try clear_value s_1
  refine keeps_ite ?_ ?_
  · exact h_s_1
  · refine State_wr_keeps (sub_trans rfl hm) ?_
    · refine State_bumpN_keeps (sub_trans rfl hm) h_s_1

/-! ## Flits -/

theorem emitFlit_keeps {m : Nat} {r : State} {p0 : State} {p1} {p2} {p3} (hm : 16 &&& m = 16) (h0_ : Keeps m r p0) : Keeps m r (@emitFlit p0 p1 p2 p3) := by
  unfold emitFlit
  refine State_emit_keeps (sub_trans rfl hm) h0_

theorem formFlit_keeps {m : Nat} {r s t : State} {l : Nat} {z : Bool} (hm : 4112 &&& m = 4112) (e : formFlit s l z = some t) (h : Keeps m r s) : Keeps m r t := by
  unfold formFlit at e
  extract_lets -lift -merge -underBinder k ch due c vc q x f k' s1 at e
  split at e
  · cases e
  · cases e
    have h1 : Keeps m r s1 := by
      unfold s1
      exact emitFlit_keeps (sub_trans rfl hm) (State_modLink_keeps (sub_trans rfl hm) h)
    clear_value s1
    exact keeps_foldl h1 fun t x ht => State_emit_keeps (sub_trans rfl hm) ht

theorem pumpFlits_keeps {m : Nat} {r : State} {p0} {p1} {p2 : State} (hm : 4112 &&& m = 4112) (h2_ : Keeps m r p2) : Keeps m r (@pumpFlits p0 p1 p2) := by
  induction p1 generalizing p2 with
  | zero => exact h2_
  | succ k ih =>
    unfold pumpFlits
    split
    · exact h2_
    · rename_i heq
      exact ih (formFlit_keeps (sub_trans rfl hm) heq h2_)

theorem pump_keeps {m : Nat} {r : State} {p0 : State} {p1} (hm : 4112 &&& m = 4112) (h0_ : Keeps m r p0) : Keeps m r (@pump p0 p1) := by
  unfold pump
  refine keeps_ite ?_ ?_
  · refine pumpFlits_keeps (sub_trans rfl hm) h0_
  · exact h0_

theorem State_send_keeps {m : Nat} {r : State} {p0 : State} {p1} {p2} (hm : 4112 &&& m = 4112) (h0_ : Keeps m r p0) : Keeps m r (@State.send p0 p1 p2) := by
  unfold State.send
  split
  · refine State_emit_keeps (sub_trans rfl hm) h0_
  · refine keeps_ite ?_ ?_
    · exact h0_
    · extract_lets -lift -merge -underBinder p_1
      try clear_value p_1
      refine pump_keeps (sub_trans rfl hm) ?_
      · refine State_modLink_keeps (sub_trans rfl hm) h0_

theorem emitIdle_keeps {m : Nat} {r : State} {p0 : State} {p1} (hm : 16 &&& m = 16) (h0_ : Keeps m r p0) : Keeps m r (@emitIdle p0 p1) := by
  unfold emitIdle
  extract_lets -lift -merge -underBinder k_1
  try clear_value k_1
  refine State_emit_keeps (sub_trans rfl hm) h0_

theorem zeroFlit_keeps {m : Nat} {r : State} {p0 : State} {p1} (hm : 4112 &&& m = 4112) (h0_ : Keeps m r p0) : Keeps m r (@zeroFlit p0 p1) := by
  unfold zeroFlit
  split
  · rename_i heq
    exact formFlit_keeps (sub_trans rfl hm) heq h0_
  · refine State_modLink_keeps (sub_trans rfl hm) ?_
    · refine emitIdle_keeps (sub_trans rfl hm) h0_

/-! ## Units -/

theorem modUnit_keeps {m : Nat} {r : State} {p0 : State} {p1} {p2} (hm : 524288 &&& m = 524288) (h0_ : Keeps m r p0) : Keeps m r (@modUnit p0 p1 p2) := by
  unfold modUnit
  exact keeps_sdc h0_ (sub_trans rfl hm)

theorem modKept_keeps {m : Nat} {r : State} {p0 : State} {p1} {p2} (hm : 268435456 &&& m = 268435456) (h0_ : Keeps m r p0) : Keeps m r (@modKept p0 p1 p2) := by
  unfold modKept
  exact keeps_flash h0_ (sub_trans rfl hm)

theorem unitRecord_keeps {m : Nat} {r : State} {p0 : State} {p1} {p2} {p3} {p4} (hm : 12845076 &&& m = 12845076) (h0_ : Keeps m r p0) : Keeps m r (@unitRecord p0 p1 p2 p3 p4) := by
  unfold unitRecord
  refine State_err_keeps (sub_trans rfl hm) h0_

theorem setLevel_keeps {m : Nat} {r : State} {p0 : State} {p1} {p2} (hm : 281280532 &&& m = 281280532) (h0_ : Keeps m r p0) : Keeps m r (@setLevel p0 p1 p2) := by
  unfold setLevel
  refine keeps_ite ?_ ?_
  · exact h0_
  · refine unitRecord_keeps (sub_trans rfl hm) ?_
    · refine modKept_keeps (sub_trans rfl hm) h0_

theorem passLevel_keeps {m : Nat} {r : State} {p0 : State} {p1} (hm : 281280532 &&& m = 281280532) (h0_ : Keeps m r p0) : Keeps m r (@passLevel p0 p1) := by
  unfold passLevel
  extract_lets -lift -merge -underBinder k_1
  try clear_value k_1
  refine keeps_ite ?_ ?_
  · exact h0_
  · refine keeps_ite ?_ ?_
    · refine setLevel_keeps (sub_trans rfl hm) ?_
      · refine modKept_keeps (sub_trans rfl hm) h0_
    · refine keeps_ite ?_ ?_
      · refine setLevel_keeps (sub_trans rfl hm) ?_
        · refine modKept_keeps (sub_trans rfl hm) h0_
      · exact h0_

theorem addHistory_keeps {m : Nat} {r : State} {p0 : State} {p1} (hm : 268959744 &&& m = 268959744) (h0_ : Keeps m r p0) : Keeps m r (@addHistory p0 p1) := by
  unfold addHistory
  extract_lets -lift -merge -underBinder s_1
  have h_s_1 : Keeps m r s_1 := by
    unfold s_1
    refine modUnit_keeps (sub_trans rfl hm) h0_
  try clear_value s_1
  refine modKept_keeps (sub_trans rfl hm) h_s_1

theorem finishSwatch_keeps {m : Nat} {r : State} {p0 : State} {p1} {p2} {p3} {p4} (hm : 281804820 &&& m = 281804820) (h0_ : Keeps m r p0) : Keeps m r (@finishSwatch p0 p1 p2 p3 p4) := by
  unfold finishSwatch
  extract_lets -lift -merge -underBinder u_1 ms_2 s_3 __src_4 s_5 s_6 s_7 s_8 s_9 s_10 s_11 s_12 s_13
  try clear_value u_1
  try clear_value ms_2
  have h_s_3 : Keeps m r s_3 := by
    unfold s_3
    refine modUnit_keeps (sub_trans rfl hm) h0_
  try clear_value s_3
  have h_s_5 : Keeps m r s_5 := by
    unfold s_5
    exact keeps_sdc h_s_3 (sub_trans rfl hm)
  try clear_value s_5
  have h_s_6 : Keeps m r s_6 := by
    unfold s_6
    refine State_bump_keeps (sub_trans rfl hm) h_s_5
  try clear_value s_6
  have h_s_7 : Keeps m r s_7 := by
    unfold s_7
    refine modKept_keeps (sub_trans rfl hm) h_s_6
  try clear_value s_7
  have h_s_8 : Keeps m r s_8 := by
    unfold s_8
    refine modUnit_keeps (sub_trans rfl hm) ?_
    · refine passLevel_keeps (sub_trans rfl hm) h_s_7
  try clear_value s_8
  have h_s_9 : Keeps m r s_9 := by
    unfold s_9
    refine State_wr_keeps (sub_trans rfl hm) ?_
    · refine State_bump_keeps (sub_trans rfl hm) h_s_6
  try clear_value s_9
  have h_s_10 : Keeps m r s_10 := by
    unfold s_10
    refine addHistory_keeps (sub_trans rfl hm) h_s_9
  try clear_value s_10
  have h_s_11 : Keeps m r s_11 := by
    unfold s_11
    refine modKept_keeps (sub_trans rfl hm) h_s_10
  try clear_value s_11
  have h_s_12 : Keeps m r s_12 := by
    unfold s_12
    refine keeps_ite ?_ ?_
    · refine keeps_ite ?_ ?_
      · refine modUnit_keeps (sub_trans rfl hm) h_s_8
      · refine keeps_ite ?_ ?_
        · refine modUnit_keeps (sub_trans rfl hm) h_s_8
        · exact h_s_8
    · refine keeps_ite ?_ ?_
      · refine modUnit_keeps (sub_trans rfl hm) h_s_11
      · exact h_s_6
  try clear_value s_12
  have h_s_13 : Keeps m r s_13 := by
    unfold s_13
    refine unitRecord_keeps (sub_trans rfl hm) h_s_12
  try clear_value s_13
  refine modUnit_keeps (sub_trans rfl hm) h_s_13

theorem abortSwatches_keeps {m : Nat} {r : State} {p0 : State} {p1} (hm : 281804820 &&& m = 281804820) (h0_ : Keeps m r p0) : Keeps m r (@abortSwatches p0 p1) := by
  unfold abortSwatches
  refine keeps_foldl h0_ ?_
  · intro t_1 x_2 h_3
    refine keeps_ite ?_ ?_
    · exact h_3
    · extract_lets -lift -merge -underBinder s_4
      have h_s_4 : Keeps m r s_4 := by
        unfold s_4
        refine finishSwatch_keeps (sub_trans rfl hm) h_3
      try clear_value s_4
      refine keeps_ite ?_ ?_
      · refine modUnit_keeps (sub_trans rfl hm) h_s_4
      · exact h_s_4

theorem fenceTile_keeps {m : Nat} {r : State} {p0 : State} {p1} (hm : 2048 &&& m = 2048) (h0_ : Keeps m r p0) : Keeps m r (@fenceTile p0 p1) := by
  unfold fenceTile
  exact keeps_mem h0_ (sub_trans rfl hm) rfl

theorem expelSlot_keeps {m : Nat} {r : State} {p0 : State} {p1} (hm : 1024 &&& m = 1024) (h0_ : Keeps m r p0) : Keeps m r (@expelSlot p0 p1) := by
  unfold expelSlot
  exact keeps_pat h0_ (sub_trans rfl hm)

theorem judgeFault_keeps {m : Nat} {r : State} {p0 : State} {p1} {p2} (hm : 281807892 &&& m = 281807892) (h0_ : Keeps m r p0) : Keeps m r (@judgeFault p0 p1 p2) := by
  unfold judgeFault
  refine keeps_ite ?_ ?_
  · extract_lets -lift -merge -underBinder s_1 s_2 s_3 s_4
    have h_s_1 : Keeps m r s_1 := by
      unfold s_1
      refine modKept_keeps (sub_trans rfl hm) h0_
    try clear_value s_1
    have h_s_2 : Keeps m r s_2 := by
      unfold s_2
      refine modUnit_keeps (sub_trans rfl hm) h_s_1
    try clear_value s_2
    have h_s_3 : Keeps m r s_3 := by
      unfold s_3
      refine State_wr_keeps (sub_trans rfl hm) ?_
      · refine State_bump_keeps (sub_trans rfl hm) h_s_2
    try clear_value s_3
    have h_s_4 : Keeps m r s_4 := by
      unfold s_4
      refine keeps_ite ?_ ?_
      · refine fenceTile_keeps (sub_trans rfl hm) h_s_3
      · refine State_bump_keeps (sub_trans rfl hm) ?_
        · refine expelSlot_keeps (sub_trans rfl hm) h_s_3
    try clear_value s_4
    refine unitRecord_keeps (sub_trans rfl hm) h_s_4
  · refine setLevel_keeps (sub_trans rfl hm) h0_

theorem unitFault_keeps {m : Nat} {r : State} {p0 : State} {p1} {p2} {p3} (hm : 281807892 &&& m = 281807892) (h0_ : Keeps m r p0) : Keeps m r (@unitFault p0 p1 p2 p3) := by
  unfold unitFault
  extract_lets -lift -merge -underBinder s_1
  have h_s_1 : Keeps m r s_1 := by
    unfold s_1
    refine addHistory_keeps (sub_trans rfl hm) h0_
  try clear_value s_1
  refine keeps_ite ?_ ?_
  · exact h_s_1
  · refine keeps_ite ?_ ?_
    · refine keeps_ite ?_ ?_
      · exact h_s_1
      · refine modUnit_keeps (sub_trans rfl hm) h_s_1
    · refine judgeFault_keeps (sub_trans rfl hm) h_s_1

theorem unfenceTile_keeps {m : Nat} {r : State} {p0 : State} {p1} (hm : 2048 &&& m = 2048) (h0_ : Keeps m r p0) : Keeps m r (@unfenceTile p0 p1) := by
  unfold unfenceTile
  exact keeps_mem h0_ (sub_trans rfl hm) rfl

theorem shadowComplete_keeps {m : Nat} {r : State} {p0} {p1} {p2 : State} (hm : 281807892 &&& m = 281807892) (h2_ : Keeps m r p2) : Keeps m r (@shadowComplete p0 p1 p2) := by
  unfold shadowComplete
  split
  · exact h2_
  · extract_lets -lift -merge -underBinder s_1
    have h_s_1 : Keeps m r s_1 := by
      unfold s_1
      refine modUnit_keeps (sub_trans rfl hm) h2_
    try clear_value s_1
    refine keeps_ite ?_ ?_
    · refine judgeFault_keeps (sub_trans rfl hm) h_s_1
    · refine judgeFault_keeps (sub_trans rfl hm) ?_
      · refine unitRecord_keeps (sub_trans rfl hm) ?_
        · refine State_bump_keeps (sub_trans rfl hm) h_s_1

/-! ## Hub -/

theorem clearXfer_keeps {m : Nat} {r : State} {p0 : State} (hm : 67108868 &&& m = 67108868) (h0_ : Keeps m r p0) : Keeps m r (@clearXfer p0) := by
  unfold clearXfer
  extract_lets -lift -merge -underBinder __src_1 s_2
  have h_s_2 : Keeps m r s_2 := by
    unfold s_2
    exact keeps_upd h0_ (sub_trans rfl hm)
  try clear_value s_2
  refine State_wr_keeps (sub_trans rfl hm) ?_
  · refine State_wr_keeps (sub_trans rfl hm) ?_
    · refine State_wr_keeps (sub_trans rfl hm) h_s_2

theorem abandonXfer_keeps {m : Nat} {r : State} {p0 : State} (hm : 343932932 &&& m = 343932932) (h0_ : Keeps m r p0) : Keeps m r (@abandonXfer p0) := by
  unfold abandonXfer
  split
  · exact h0_
  · extract_lets -lift -merge -underBinder s_1
    have h_s_1 : Keeps m r s_1 := by
      unfold s_1
      split
      · refine keeps_ite ?_ ?_
        · exact keeps_flash h0_ (sub_trans rfl hm)
        · exact h0_
      · exact h0_
    try clear_value s_1
    refine State_event_keeps (sub_trans rfl hm) ?_
    · refine clearXfer_keeps (sub_trans rfl hm) ?_
      · refine State_wr_keeps (sub_trans rfl hm) h_s_1

theorem abandonBlock_keeps {m : Nat} {r : State} {p0 : State} (hm : 343932932 &&& m = 343932932) (h0_ : Keeps m r p0) : Keeps m r (@abandonBlock p0) := by
  unfold abandonBlock
  split
  · refine keeps_ite ?_ ?_
    · exact h0_
    · refine abandonXfer_keeps (sub_trans rfl hm) h0_
  · exact h0_

theorem modQueueStat_keeps {m : Nat} {r : State} {p0 : State} {p1} {p2} (hm : 2048 &&& m = 2048) (h0_ : Keeps m r p0) : Keeps m r (@modQueueStat p0 p1 p2) := by
  unfold modQueueStat
  exact keeps_mem h0_ (sub_trans rfl hm) rfl

theorem noteRefusal_keeps {m : Nat} {r : State} {p0 : State} {p1} {p2} (hm : 12847132 &&& m = 12847132) (h0_ : Keeps m r p0) : Keeps m r (@noteRefusal p0 p1 p2) := by
  unfold noteRefusal
  extract_lets -lift -merge -underBinder d_1
  try clear_value d_1
  split
  · exact h0_
  · extract_lets -lift -merge -underBinder s_2 s_3 s_4 s_5 s_6 key_7 recent_8 __src_9 s_10 unit_11
    try clear_value key_7
    try clear_value recent_8
    try clear_value unit_11
    have h_s_2 : Keeps m r s_2 := by
      unfold s_2
      refine State_bump_keeps (sub_trans rfl hm) h0_
    try clear_value s_2
    have h_s_3 : Keeps m r s_3 := by
      unfold s_3
      refine State_wr_keeps (sub_trans rfl hm) ?_
      · refine State_wr_keeps (sub_trans rfl hm) ?_
        · refine State_wr_keeps (sub_trans rfl hm) ?_
          · refine State_wr_keeps (sub_trans rfl hm) h_s_2
    try clear_value s_3
    have h_s_4 : Keeps m r s_4 := by
      unfold s_4
      exact keeps_wide h_s_3 (sub_trans rfl hm)
    try clear_value s_4
    have h_s_5 : Keeps m r s_5 := by
      unfold s_5
      refine State_wr_keeps (sub_trans rfl hm) ?_
      · refine State_wr_keeps (sub_trans rfl hm) ?_
        · refine State_wr_keeps (sub_trans rfl hm) h_s_4
    try clear_value s_5
    have h_s_6 : Keeps m r s_6 := by
      unfold s_6
      refine keeps_ite ?_ ?_
      · refine State_wr_keeps (sub_trans rfl hm) h_s_5
      · refine keeps_ite ?_ ?_
        · refine State_wr_keeps (sub_trans rfl hm) h_s_5
        · exact h_s_5
    try clear_value s_6
    have h_s_10 : Keeps m r s_10 := by
      unfold s_10
      exact keeps_mem h_s_6 (sub_trans rfl hm) rfl
    try clear_value s_10
    refine keeps_ite ?_ ?_
    · exact h_s_6
    · refine State_err_keeps (sub_trans rfl hm) h_s_10

theorem answerOpenHint_keeps {m : Nat} {r : State} {p0 : State} {p1} {p2} {p3} {p4} {p5} (hm : 12851228 &&& m = 12851228) (h0_ : Keeps m r p0) : Keeps m r (@answerOpenHint p0 p1 p2 p3 p4 p5) := by
  unfold answerOpenHint
  extract_lets -lift -merge -underBinder q_1 s_2 s_3 s_4
  try clear_value q_1
  have h_s_2 : Keeps m r s_2 := by
    unfold s_2
    refine modQueueStat_keeps (sub_trans rfl hm) h0_
  try clear_value s_2
  have h_s_3 : Keeps m r s_3 := by
    unfold s_3
    refine keeps_ite ?_ ?_
    · refine State_addWide_keeps (sub_trans rfl hm) h_s_2
    · exact h_s_2
  try clear_value s_3
  have h_s_4 : Keeps m r s_4 := by
    unfold s_4
    refine noteRefusal_keeps (sub_trans rfl hm) h_s_3
  try clear_value s_4
  refine State_send_keeps (sub_trans rfl hm) ?_
  · refine State_modLink_keeps (sub_trans rfl hm) h_s_4

theorem freeCtx_keeps {m : Nat} {r : State} {p0 : State} {p1} (hm : 2052 &&& m = 2052) (h0_ : Keeps m r p0) : Keeps m r (@freeCtx p0 p1) := by
  unfold freeCtx
  extract_lets -lift -merge -underBinder __src_1 s_2
  have h_s_2 : Keeps m r s_2 := by
    unfold s_2
    exact keeps_mem h0_ (sub_trans rfl hm) rfl
  try clear_value s_2
  refine State_wr_keeps (sub_trans rfl hm) h_s_2

theorem finishOpenHint_keeps {m : Nat} {r : State} {p0 : State} {p1} {p2} {p3} {p4} {p5} (hm : 12851228 &&& m = 12851228) (h0_ : Keeps m r p0) : Keeps m r (@finishOpenHint p0 p1 p2 p3 p4 p5) := by
  unfold finishOpenHint
  split
  · exact h0_
  · refine answerOpenHint_keeps (sub_trans rfl hm) ?_
    · refine freeCtx_keeps (sub_trans rfl hm) h0_

theorem answerOpen_keeps {m : Nat} {r : State} {p0 : State} {p1} {p2} {p3} {p4} (hm : 12851228 &&& m = 12851228) (h0_ : Keeps m r p0) : Keeps m r (@answerOpen p0 p1 p2 p3 p4) := by
  unfold answerOpen
  refine answerOpenHint_keeps (sub_trans rfl hm) h0_

theorem finishOpen_keeps {m : Nat} {r : State} {p0 : State} {p1} {p2} {p3} {p4} (hm : 12851228 &&& m = 12851228) (h0_ : Keeps m r p0) : Keeps m r (@finishOpen p0 p1 p2 p3 p4) := by
  unfold finishOpen
  split
  · exact h0_
  · refine answerOpen_keeps (sub_trans rfl hm) ?_
    · refine freeCtx_keeps (sub_trans rfl hm) h0_

theorem timeoutCtx_keeps {m : Nat} {r : State} {p0 : State} {p1} (hm : 12851228 &&& m = 12851228) (h0_ : Keeps m r p0) : Keeps m r (@timeoutCtx p0 p1) := by
  unfold timeoutCtx
  refine keeps_ite ?_ ?_
  · refine finishOpen_keeps (sub_trans rfl hm) h0_
  · refine finishOpen_keeps (sub_trans rfl hm) h0_

theorem timeoutLink_keeps {m : Nat} {r : State} {p0 : State} {p1} (hm : 12851228 &&& m = 12851228) (h0_ : Keeps m r p0) : Keeps m r (@timeoutLink p0 p1) := by
  unfold timeoutLink
  refine keeps_foldl h0_ ?_
  · intro t_1 x_2 h_3
    refine timeoutCtx_keeps (sub_trans rfl hm) h_3

theorem fenceAcc_keeps {m : Nat} {r : State} {p0 : State} {p1} (hm : 1028 &&& m = 1028) (h0_ : Keeps m r p0) : Keeps m r (@fenceAcc p0 p1) := by
  unfold fenceAcc
  extract_lets -lift -merge -underBinder __src_1 s_2
  have h_s_2 : Keeps m r s_2 := by
    unfold s_2
    exact keeps_pat h0_ (sub_trans rfl hm)
  try clear_value s_2
  refine State_wr_keeps (sub_trans rfl hm) h_s_2

theorem leaveUp_keeps {m : Nat} {r : State} {p0 : State} {p1} (hm : 12852252 &&& m = 12852252) (h0_ : Keeps m r p0) : Keeps m r (@leaveUp p0 p1) := by
  unfold leaveUp
  extract_lets -lift -merge -underBinder s_1 s_2 __src_3 s_4
  have h_s_1 : Keeps m r s_1 := by
    unfold s_1
    refine State_modLink_keeps (sub_trans rfl hm) h0_
  try clear_value s_1
  have h_s_2 : Keeps m r s_2 := by
    unfold s_2
    refine timeoutLink_keeps (sub_trans rfl hm) h_s_1
  try clear_value s_2
  have h_s_4 : Keeps m r s_4 := by
    unfold s_4
    exact keeps_pat h_s_2 (sub_trans rfl hm)
  try clear_value s_4
  refine keeps_ite ?_ ?_
  · refine fenceAcc_keeps (sub_trans rfl hm) h_s_4
  · exact h_s_4

theorem refreshLink_keeps {m : Nat} {r : State} {p0 : State} {p1} (hm : 12852252 &&& m = 12852252) (h0_ : Keeps m r p0) : Keeps m r (@refreshLink p0 p1) := by
  unfold refreshLink
  refine keeps_ite ?_ ?_
  · exact h0_
  · extract_lets -lift -merge -underBinder st_1 s_2 s_3
    try clear_value st_1
    have h_s_2 : Keeps m r s_2 := by
      unfold s_2
      refine keeps_ite ?_ ?_
      · refine leaveUp_keeps (sub_trans rfl hm) h0_
      · refine keeps_ite ?_ ?_
        · refine fenceAcc_keeps (sub_trans rfl hm) h0_
        · exact h0_
    try clear_value s_2
    have h_s_3 : Keeps m r s_3 := by
      unfold s_3
      refine State_modLink_keeps (sub_trans rfl hm) h_s_2
    try clear_value s_3
    refine keeps_ite ?_ ?_
    · refine keeps_ite ?_ ?_
      · exact h0_
      · refine State_setLinkState_keeps (sub_trans rfl hm) h_s_3
    · refine keeps_ite ?_ ?_
      · refine keeps_ite ?_ ?_
        · refine State_setLinkState_keeps (sub_trans rfl hm) h0_
        · refine State_setLinkState_keeps (sub_trans rfl hm) h0_
      · exact h0_

theorem refreshLinks_keeps {m : Nat} {r : State} {p0 : State} (hm : 12852252 &&& m = 12852252) (h0_ : Keeps m r p0) : Keeps m r (@refreshLinks p0) := by
  unfold refreshLinks
  refine keeps_foldl h0_ ?_
  · intro t_1 x_2 h_3
    refine refreshLink_keeps (sub_trans rfl hm) h_3

theorem resetTraffic_keeps {m : Nat} {r : State} {p0 : State} {p1} (hm : 12851228 &&& m = 12851228) (h0_ : Keeps m r p0) : Keeps m r (@resetTraffic p0 p1) := by
  unfold resetTraffic
  extract_lets -lift -merge -underBinder through_1 __src_2 s_3 s_4
  try clear_value through_1
  have h_s_3 : Keeps m r s_3 := by
    unfold s_3
    exact keeps_mem h0_ (sub_trans rfl hm) rfl
  try clear_value s_3
  have h_s_4 : Keeps m r s_4 := by
    unfold s_4
    refine keeps_foldl h_s_3 ?_
    · intro t_5 x_6 h_7
      refine timeoutCtx_keeps (sub_trans rfl hm) h_7
  try clear_value s_4
  refine keeps_foldl h_s_4 ?_
  · intro t_8 x_9 h_10
    refine State_wr_keeps (sub_trans rfl hm) ?_
    · refine State_wr_keeps (sub_trans rfl hm) h_10

theorem dutiesPass_keeps {m : Nat} {r : State} {p0 : State} {p1} (hm : 344981508 &&& m = 344981508) (h0_ : Keeps m r p0) : Keeps m r (@dutiesPass p0 p1) := by
  unfold dutiesPass
  refine keeps_ite ?_ ?_
  · refine abandonBlock_keeps (sub_trans rfl hm) h0_
  · refine keeps_ite ?_ ?_
    · refine State_wr_keeps (sub_trans rfl hm) ?_
      · refine State_wr_keeps (sub_trans rfl hm) h0_
    · refine keeps_ite ?_ ?_
      · exact keeps_fw h0_ (sub_trans rfl hm)
      · refine keeps_ite ?_ ?_
        · refine State_wr_keeps (sub_trans rfl hm) h0_
        · exact h0_

theorem beginRestart_keeps {m : Nat} {r : State} {p0 : State} {p1} {p2} {p3} {p4} (hm : 347078676 &&& m = 347078676) (h0_ : Keeps m r p0) : Keeps m r (@beginRestart p0 p1 p2 p3 p4) := by
  unfold beginRestart
  extract_lets -lift -merge -underBinder s_1 s_2 s_3 s_4 s_5 s_6
  have h_s_1 : Keeps m r s_1 := by
    unfold s_1
    refine State_modProc_keeps (sub_trans rfl hm) h0_
  try clear_value s_1
  have h_s_2 : Keeps m r s_2 := by
    unfold s_2
    refine State_wr_keeps (sub_trans rfl hm) ?_
    · refine State_wr_keeps (sub_trans rfl hm) h_s_1
  try clear_value s_2
  have h_s_3 : Keeps m r s_3 := by
    unfold s_3
    refine State_wr_keeps (sub_trans rfl hm) h_s_2
  try clear_value s_3
  have h_s_4 : Keeps m r s_4 := by
    unfold s_4
    refine State_wr_keeps (sub_trans rfl hm) h_s_3
  try clear_value s_4
  have h_s_5 : Keeps m r s_5 := by
    unfold s_5
    refine State_logEntry_keeps (sub_trans rfl hm) h_s_4
  try clear_value s_5
  have h_s_6 : Keeps m r s_6 := by
    unfold s_6
    refine arbCrash_keeps (sub_trans rfl hm) h_s_5
  try clear_value s_6
  refine dutiesPass_keeps (sub_trans rfl hm) h_s_6

theorem nextActivation_keeps {m : Nat} {r : State} {p0 : State} (hm : 347078676 &&& m = 347078676) (h0_ : Keeps m r p0) : Keeps m r (@nextActivation p0) := by
  unfold nextActivation
  split
  · exact h0_
  · split
    · refine beginRestart_keeps (sub_trans rfl hm) ?_
      · exact keeps_upd h0_ (sub_trans rfl hm)
    · exact keeps_upd h0_ (sub_trans rfl hm)

theorem procLost_keeps {m : Nat} {r : State} {p0 : State} {p1} (hm : 347078676 &&& m = 347078676) (h0_ : Keeps m r p0) : Keeps m r (@procLost p0 p1) := by
  unfold procLost
  extract_lets -lift -merge -underBinder s_1 s_2 s_3 s_4
  have h_s_1 : Keeps m r s_1 := by
    unfold s_1
    refine arbCrash_keeps (sub_trans rfl hm) h0_
  try clear_value s_1
  have h_s_2 : Keeps m r s_2 := by
    unfold s_2
    refine State_wr_keeps (sub_trans rfl hm) h_s_1
  try clear_value s_2
  have h_s_3 : Keeps m r s_3 := by
    unfold s_3
    refine State_wr_keeps (sub_trans rfl hm) h_s_2
  try clear_value s_3
  have h_s_4 : Keeps m r s_4 := by
    unfold s_4
    refine State_modProc_keeps (sub_trans rfl hm) h_s_3
  try clear_value s_4
  refine keeps_ite ?_ ?_
  · refine nextActivation_keeps (sub_trans rfl hm) h_s_4
  · exact h_s_4

theorem resetTracker_keeps {m : Nat} {r : State} {p0 : State} {p1} (hm : 384 &&& m = 384) (h0_ : Keeps m r p0) : Keeps m r (@resetTracker p0 p1) := by
  unfold resetTracker
  split
  · rename_i o heq
    refine keeps_ite ?_ ?_
    · exact keeps_phase (b := 384) h0_ (sub_trans rfl hm) (by intro p hp; cases p <;> first | rfl | cases hp) (fun h => ⟨(own_tfind heq h.2 : o.phase ≤ phaseMax), fun _ ho => nomatch ho⟩) rfl rfl rfl rfl rfl
    · exact keeps_own h0_ (sub_trans rfl hm) (fun _ _ ho => nomatch ho)
  · exact keeps_own h0_ (sub_trans rfl hm) (fun _ _ ho => nomatch ho)

theorem resetDie_keeps {m : Nat} {r : State} {p0 : State} {p1} (hm : 352067548 &&& m = 352067548) (h0_ : Keeps m r p0) : Keeps m r (@resetDie p0 p1) := by
  unfold resetDie
  extract_lets -lift -merge -underBinder s_1 latched_2 s_3 links_4 gone_5 __src_6 s_7 s_8 kept_9 __src_10 s_11 s_12 s_13 s_14 s_15 __src_16 s_17 __src_18 __src_19
  try clear_value latched_2
  try clear_value links_4
  try clear_value gone_5
  try clear_value kept_9
  have h_s_1 : Keeps m r s_1 := by
    unfold s_1
    refine abortSwatches_keeps (sub_trans rfl hm) h0_
  try clear_value s_1
  have h_s_3 : Keeps m r s_3 := by
    unfold s_3
    exact keeps_mk (b := 12) h_s_1 (sub_trans rfl hm) (by intro p hp; cases p <;> first | rfl | cases hp) rfl rfl rfl rfl rfl rfl rfl
  try clear_value s_3
  have h_s_7 : Keeps m r s_7 := by
    unfold s_7
    exact keeps_pat h_s_3 (sub_trans rfl hm)
  try clear_value s_7
  have h_s_8 : Keeps m r s_8 := by
    unfold s_8
    refine resetTraffic_keeps (sub_trans rfl hm) h_s_7
  try clear_value s_8
  have h_s_11 : Keeps m r s_11 := by
    unfold s_11
    exact keeps_lnk h_s_8 (sub_trans rfl hm)
  try clear_value s_11
  have h_s_12 : Keeps m r s_12 := by
    unfold s_12
    refine keeps_foldl h_s_11 ?_
    · intro t_20 x_21 h_22
      refine fenceAcc_keeps (sub_trans rfl hm) h_22
  try clear_value s_12
  have h_s_13 : Keeps m r s_13 := by
    unfold s_13
    refine State_wr_keeps (sub_trans rfl hm) ?_
    · refine State_wr_keeps (sub_trans rfl hm) h_s_12
  try clear_value s_13
  have h_s_14 : Keeps m r s_14 := by
    unfold s_14
    refine State_modDie_keeps (sub_trans rfl hm) h_s_13
  try clear_value s_14
  have h_s_15 : Keeps m r s_15 := by
    unfold s_15
    refine keeps_foldl h_s_14 ?_
    · intro t_23 x_24 h_25
      refine procLost_keeps (sub_trans rfl hm) h_25
  try clear_value s_15
  have h___src_16 : Keeps m r __src_16 := by
    unfold __src_16
    refine resetTracker_keeps (sub_trans rfl hm) h_s_15
  try clear_value __src_16
  have h_s_17 : Keeps m r s_17 := by
    unfold s_17
    exact keeps_gt h___src_16 (sub_trans rfl hm)
  try clear_value s_17
  refine keeps_ite ?_ ?_
  · exact h_s_17
  · exact keeps_phase (b := 1664) h_s_17 (sub_trans rfl hm) (by intro p hp; cases p <;> first | rfl | cases hp) (fun h => ⟨Nat.zero_le _, h.2⟩) rfl rfl rfl rfl rfl

theorem linkDown_keeps {m : Nat} {r : State} {p0 : State} {p1} {p2} {p3} (hm : 12852252 &&& m = 12852252) (h0_ : Keeps m r p0) : Keeps m r (@linkDown p0 p1 p2 p3) := by
  unfold linkDown
  extract_lets -lift -merge -underBinder d_1 i_2 attempts_3 s_4 downs_5 latch_6 s_7 s_8 s_9 s_10
  try clear_value d_1
  try clear_value i_2
  try clear_value attempts_3
  try clear_value downs_5
  try clear_value latch_6
  have h_s_4 : Keeps m r s_4 := by
    unfold s_4
    refine keeps_ite ?_ ?_
    · refine leaveUp_keeps (sub_trans rfl hm) h0_
    · exact h0_
  try clear_value s_4
  have h_s_7 : Keeps m r s_7 := by
    unfold s_7
    refine State_modLink_keeps (sub_trans rfl hm) h_s_4
  try clear_value s_7
  have h_s_8 : Keeps m r s_8 := by
    unfold s_8
    refine State_bump_keeps (sub_trans rfl hm) h_s_7
  try clear_value s_8
  have h_s_9 : Keeps m r s_9 := by
    unfold s_9
    refine State_wr_keeps (sub_trans rfl hm) ?_
    · refine State_wr_keeps (sub_trans rfl hm) h_s_8
  try clear_value s_9
  have h_s_10 : Keeps m r s_10 := by
    unfold s_10
    refine State_setLinkState_keeps (sub_trans rfl hm) h_s_9
  try clear_value s_10
  refine State_err_keeps (sub_trans rfl hm) h_s_10

theorem dutiesReturn_keeps {m : Nat} {r : State} {p0 : State} {p1} (hm : 76547076 &&& m = 76547076) (h0_ : Keeps m r p0) : Keeps m r (@dutiesReturn p0 p1) := by
  unfold dutiesReturn
  refine keeps_ite ?_ ?_
  · extract_lets -lift -merge -underBinder due_1 __src_2 __src_3
    try clear_value due_1
    exact keeps_mk (b := 67109888) h0_ (sub_trans rfl hm) (by intro p hp; cases p <;> first | rfl | cases hp) rfl rfl rfl rfl rfl rfl rfl
  · refine keeps_ite ?_ ?_
    · split
      · exact h0_
      · extract_lets -lift -merge -underBinder n_4 __src_5 s_6
        try clear_value n_4
        have h_s_6 : Keeps m r s_6 := by
          unfold s_6
          exact keeps_fw h0_ (sub_trans rfl hm)
        try clear_value s_6
        refine keeps_foldl h_s_6 ?_
        · intro t_7 x_8 h_9
          split
          · refine State_submit_keeps (sub_trans rfl hm) h_9
          · exact h_9
    · refine keeps_ite ?_ ?_
      · refine State_wr_keeps (sub_trans rfl hm) h0_
      · exact h0_

theorem startErase_keeps {m : Nat} {r : State} {p0 : State} {p1} (hm : 8388612 &&& m = 8388612) (h0_ : Keeps m r p0) : Keeps m r (@startErase p0 p1) := by
  unfold startErase
  refine keeps_ite ?_ ?_
  · refine State_wr_keeps (sub_trans rfl hm) ?_
    · exact keeps_rcd h0_ (sub_trans rfl hm) rfl
  · extract_lets -lift -merge -underBinder __src_1 s_2
    have h_s_2 : Keeps m r s_2 := by
      unfold s_2
      exact keeps_rcd h0_ (sub_trans rfl hm) rfl
    try clear_value s_2
    refine keeps_ite ?_ ?_
    · refine State_wr_keeps (sub_trans rfl hm) h_s_2
    · exact h_s_2

theorem closeRuns_keeps {m : Nat} {r : State} {p0 : State} (hm : 8388612 &&& m = 8388612) (h0_ : Keeps m r p0) : Keeps m r (@closeRuns p0) := by
  unfold closeRuns
  refine keeps_foldl h0_ ?_
  · intro t_1 x_2 h_3
    refine closeRun_keeps (sub_trans rfl hm) h_3

theorem dutiesUnhalt_keeps {m : Nat} {r : State} {p0 : State} {p1} (hm : 4 &&& m = 4) (h0_ : Keeps m r p0) : Keeps m r (@dutiesUnhalt p0 p1) := by
  unfold dutiesUnhalt
  refine keeps_ite ?_ ?_
  · refine State_wr_keeps (sub_trans rfl hm) h0_
  · refine keeps_ite ?_ ?_
    · refine State_wr_keeps (sub_trans rfl hm) h0_
    · exact h0_

theorem releaseFreeze_keeps {m : Nat} {r : State} {p0 : State} (hm : 8388612 &&& m = 8388612) (h0_ : Keeps m r p0) : Keeps m r (@releaseFreeze p0) := by
  unfold releaseFreeze
  extract_lets -lift -merge -underBinder s_1
  have h_s_1 : Keeps m r s_1 := by
    unfold s_1
    refine State_wr_keeps (sub_trans rfl hm) ?_
    · refine State_wr_keeps (sub_trans rfl hm) h0_
  try clear_value s_1
  split
  · refine startErase_keeps (sub_trans rfl hm) h_s_1
  · exact h_s_1

theorem endFreezeOf_keeps {m : Nat} {r : State} {p0 : State} {p1} (hm : 8388612 &&& m = 8388612) (h0_ : Keeps m r p0) : Keeps m r (@endFreezeOf p0 p1) := by
  unfold endFreezeOf
  refine keeps_ite ?_ ?_
  · refine releaseFreeze_keeps (sub_trans rfl hm) h0_
  · exact h0_

theorem dutiesHalt_keeps {m : Nat} {r : State} {p0 : State} {p1} (hm : 4 &&& m = 4) (h0_ : Keeps m r p0) : Keeps m r (@dutiesHalt p0 p1) := by
  unfold dutiesHalt
  refine keeps_ite ?_ ?_
  · refine State_wr_keeps (sub_trans rfl hm) h0_
  · refine keeps_ite ?_ ?_
    · refine State_wr_keeps (sub_trans rfl hm) h0_
    · exact h0_

end Sys2Proof.Laws
end

