-- ==== Sys2Proof/Laws/Keeps2.lean ====
section
/-! SUPPORT. What the operations of Images, Rails keep (the relation `Keeps`): of each, that it passes on the relation of the
state it is given, where the parts it writes are among those named. -/
namespace Sys2Proof.Laws
open Sys2Proof.Machine

/-! ## Images -/

theorem cutPushes_keeps {m : Nat} {r : State} {p0 : State} {p1} (hm : 67108868 &&& m = 67108868) (h0_ : Keeps m r p0) : Keeps m r (@cutPushes p0 p1) := by
  unfold cutPushes
  extract_lets -lift -merge -underBinder cut_1 __src_2 s_3
  try clear_value cut_1
  have h_s_3 : Keeps m r s_3 := by
    unfold s_3
    exact keeps_upd h0_ (sub_trans rfl hm)
  try clear_value s_3
  refine keeps_ite ?_ ?_
  · refine State_wr_keeps (sub_trans rfl hm) h_s_3
  · exact h_s_3

theorem milestone_keeps {m : Nat} {r : State} {p0 : State} {p1} (hm : 4 &&& m = 4) (h0_ : Keeps m r p0) : Keeps m r (@milestone p0 p1) := by
  unfold milestone
  refine keeps_ite ?_ ?_
  · refine State_wr_keeps (sub_trans rfl hm) h0_
  · exact h0_

theorem setRegion_keeps {m : Nat} {r : State} {p0 : State} {p1} {p2} (hm : 4 &&& m = 4) (h0_ : Keeps m r p0) : Keeps m r (@setRegion p0 p1 p2) := by
  unfold setRegion
  extract_lets -lift -merge -underBinder w_1 i_2
  try clear_value w_1
  try clear_value i_2
  refine State_wr_keeps (sub_trans rfl hm) h0_

theorem verifyFailed_keeps {m : Nat} {r : State} {p0 : State} {p1} {p2} {p3} (hm : 12845076 &&& m = 12845076) (h0_ : Keeps m r p0) : Keeps m r (@verifyFailed p0 p1 p2 p3) := by
  unfold verifyFailed
  extract_lets -lift -merge -underBinder s_1 s_2 s_3
  have h_s_1 : Keeps m r s_1 := by
    unfold s_1
    refine State_wr_keeps (sub_trans rfl hm) ?_
    · refine State_bump_keeps (sub_trans rfl hm) h0_
  try clear_value s_1
  have h_s_2 : Keeps m r s_2 := by
    unfold s_2
    refine setRegion_keeps (sub_trans rfl hm) h_s_1
  try clear_value s_2
  have h_s_3 : Keeps m r s_3 := by
    unfold s_3
    refine State_err_keeps (sub_trans rfl hm) h_s_2
  try clear_value s_3
  refine State_event_keeps (sub_trans rfl hm) h_s_3

theorem verifiedImage_keeps {m : Nat} {r : State} {p0 : State} {p1} {p2} (hm : 268435460 &&& m = 268435460) (h0_ : Keeps m r p0) : Keeps m r (@verifiedImage p0 p1 p2) := by
  unfold verifiedImage
  extract_lets -lift -merge -underBinder __src_1 s_2
  have h_s_2 : Keeps m r s_2 := by
    unfold s_2
    exact keeps_flash h0_ (sub_trans rfl hm)
  try clear_value s_2
  refine State_wr_keeps (sub_trans rfl hm) ?_
  · refine setRegion_keeps (sub_trans rfl hm) h_s_2

theorem beginPushes_keeps {m : Nat} {r : State} {p0 : State} {p1} (hm : 348389396 &&& m = 348389396) (h0_ : Keeps m r p0) : Keeps m r (@beginPushes p0 p1) := by
  unfold beginPushes
  split
  · exact h0_
  · refine keeps_ite ?_ ?_
    · exact h0_
    · split
      · refine verifyFailed_keeps (sub_trans rfl hm) h0_
      · extract_lets -lift -merge -underBinder s_1 l_2 first_3 __src_4 s_5
        try clear_value l_2
        try clear_value first_3
        have h_s_1 : Keeps m r s_1 := by
          unfold s_1
          refine verifiedImage_keeps (sub_trans rfl hm) h0_
        try clear_value s_1
        have h_s_5 : Keeps m r s_5 := by
          unfold s_5
          exact keeps_upd h_s_1 (sub_trans rfl hm)
        try clear_value s_5
        refine keeps_foldl h_s_5 ?_
        · intro t_6 x_7 h_8
          refine State_emit_keeps (sub_trans rfl hm) h_8

theorem startSvn_keeps {m : Nat} {r : State} {p0 : State} {p1} (hm : 67108864 &&& m = 67108864) (h0_ : Keeps m r p0) : Keeps m r (@startSvn p0 p1) := by
  unfold startSvn
  exact keeps_upd h0_ (sub_trans rfl hm)

theorem measure_keeps {m : Nat} {r : State} {p0 : State} {p1} {p2} (hm : 134217728 &&& m = 134217728) (h0_ : Keeps m r p0) : Keeps m r (@Machine.measure p0 p1 p2) := by
  unfold Machine.measure
  exact keeps_sec h0_ (sub_trans rfl hm)

/-! ## Rails -/

theorem State_modRail_keeps {m : Nat} {r : State} {p0 : State} {p1} {p2} (hm : 8192 &&& m = 8192) (h0_ : Keeps m r p0) : Keeps m r (@State.modRail p0 p1 p2) := by
  unfold State.modRail
  exact keeps_seq h0_ (sub_trans rfl hm)

theorem abandonContainment_keeps {m : Nat} {r : State} {p0 : State} (hm : 262148 &&& m = 262148) (h0_ : Keeps m r p0) : Keeps m r (@abandonContainment p0) := by
  unfold abandonContainment
  extract_lets -lift -merge -underBinder __src_1 s_2
  have h_s_2 : Keeps m r s_2 := by
    unfold s_2
    exact keeps_itg h0_ (sub_trans rfl hm) rfl rfl
  try clear_value s_2
  refine State_wr_keeps (sub_trans rfl hm) ?_
  · refine State_wr_keeps (sub_trans rfl hm) h_s_2

theorem assertPerst_keeps {m : Nat} {r : State} {p0 : State} {p1} (hm : 348929052 &&& m = 348929052) (h0_ : Keeps m r p0) : Keeps m r (@assertPerst p0 p1) := by
  unfold assertPerst
  extract_lets -lift -merge -underBinder s_1 s_2 __src_3 s_4
  have h_s_1 : Keeps m r s_1 := by
    unfold s_1
    refine cutPushes_keeps (sub_trans rfl hm) ?_
    · refine abortSwatches_keeps (sub_trans rfl hm) h0_
  try clear_value s_1
  have h_s_2 : Keeps m r s_2 := by
    unfold s_2
    refine State_wr_keeps (sub_trans rfl hm) h_s_1
  try clear_value s_2
  have h_s_4 : Keeps m r s_4 := by
    unfold s_4
    exact keeps_seq h_s_2 (sub_trans rfl hm)
  try clear_value s_4
  refine refreshLinks_keeps (sub_trans rfl hm) ?_
  · refine keeps_foldl h_s_4 ?_
    · intro t_5 x_6 h_7
      refine fenceAcc_keeps (sub_trans rfl hm) h_7

theorem traceSeq_keeps {m : Nat} {r : State} {p0 : State} {p1} {p2} (hm : 8196 &&& m = 8196) (h0_ : Keeps m r p0) : Keeps m r (@traceSeq p0 p1 p2) := by
  unfold traceSeq
  extract_lets -lift -merge -underBinder r_1 e_2 k_3 __src_4 s_5
  try clear_value r_1
  try clear_value e_2
  try clear_value k_3
  have h_s_5 : Keeps m r s_5 := by
    unfold s_5
    exact keeps_seq h0_ (sub_trans rfl hm)
  try clear_value s_5
  refine State_wr_keeps (sub_trans rfl hm) ?_
  · refine State_wr_keeps (sub_trans rfl hm) h_s_5

theorem setEnable_keeps {m : Nat} {r : State} {p0 : State} {p1} {p2} (hm : 8196 &&& m = 8196) (h0_ : Keeps m r p0) : Keeps m r (@setEnable p0 p1 p2) := by
  unfold setEnable
  refine keeps_ite ?_ ?_
  · exact h0_
  · refine traceSeq_keeps (sub_trans rfl hm) ?_
    · exact keeps_seq h0_ (sub_trans rfl hm)

theorem seqSummary_keeps {m : Nat} {r : State} {p0 : State} {p1} {p2} {p3} {p4} {p5} (hm : 8388612 &&& m = 8388612) (h0_ : Keeps m r p0) : Keeps m r (@seqSummary p0 p1 p2 p3 p4 p5) := by
  unfold seqSummary
  refine State_summary_keeps (sub_trans rfl hm) h0_

theorem dropGroup_keeps {m : Nat} {r : State} {p0 : State} {p1} (hm : 8196 &&& m = 8196) (h0_ : Keeps m r p0) : Keeps m r (@dropGroup p0 p1) := by
  unfold dropGroup
  refine keeps_foldl h0_ ?_
  · intro t_1 x_2 h_3
    refine keeps_ite ?_ ?_
    · extract_lets -lift -merge -underBinder s_4 __src_5
      have h_s_4 : Keeps m r s_4 := by
        unfold s_4
        refine State_modRail_keeps (sub_trans rfl hm) ?_
        · refine setEnable_keeps (sub_trans rfl hm) h_3
      try clear_value s_4
      exact keeps_seq h_s_4 (sub_trans rfl hm)
    · exact h_3

theorem takeBind_keeps {m : Nat} {r : State} {p0 : State} {p1} {p2} (hm : 8196 &&& m = 8196) (h0_ : Keeps m r p0) : Keeps m r (@takeBind p0 p1 p2).1 := by
  induction p2 with
  | nil => exact h0_
  | cons g rest ih =>
    unfold takeBind
    extract_lets live
    clear_value live
    split
    · exact ih
    · exact keeps_fst (dropGroup_keeps (sub_trans rfl hm) (State_wr_keeps (sub_trans rfl hm) h0_))

theorem takeCast_keeps {m : Nat} {r : State} {p0 : State} {p1} {p2} (hm : 8196 &&& m = 8196) (h0_ : Keeps m r p0) : Keeps m r (@takeCast p0 p1 p2).1 := by
  induction p2 generalizing p0 with
  | nil => exact h0_
  | cons g rest ih =>
    unfold takeCast
    extract_lets -lift -merge -underBinder s live
    have hs : Keeps m r s := by
      unfold s
      exact keeps_foldl h0_ fun t x h => State_modRail_keeps (sub_trans rfl hm) h
    clear_value live
    clear_value s
    split
    · exact ih hs
    · exact keeps_fst (State_wr_keeps (sub_trans rfl hm) hs)

theorem setRun_keeps {m : Nat} {r : State} {p0 : State} {p1} (hm : 8192 &&& m = 8192) (h0_ : Keeps m r p0) : Keeps m r (@setRun p0 p1) := by
  unfold setRun
  exact keeps_seq h0_ (sub_trans rfl hm)

theorem setSeqState_keeps {m : Nat} {r : State} {p0 : State} {p1} (hm : 8196 &&& m = 8196) (h0_ : Keeps m r p0) : Keeps m r (@setSeqState p0 p1) := by
  unfold setSeqState
  refine State_wr_keeps (sub_trans rfl hm) ?_
  · exact keeps_seq h0_ (sub_trans rfl hm)

theorem schedulePerst_keeps {m : Nat} {r : State} {p0 : State} {p1} (hm : 8192 &&& m = 8192) (h0_ : Keeps m r p0) : Keeps m r (@schedulePerst p0 p1) := by
  unfold schedulePerst
  extract_lets -lift -merge -underBinder due_1 __src_2
  try clear_value due_1
  exact keeps_seq h0_ (sub_trans rfl hm)

theorem castOnDone_keeps {m : Nat} {r : State} {p0 : State} (hm : 348397588 &&& m = 348397588) (h0_ : Keeps m r p0) : Keeps m r (@castOnDone p0) := by
  unfold castOnDone
  extract_lets -lift -merge -underBinder s_1
  have h_s_1 : Keeps m r s_1 := by
    unfold s_1
    refine milestone_keeps (sub_trans rfl hm) ?_
    · refine setSeqState_keeps (sub_trans rfl hm) h0_
  try clear_value s_1
  refine schedulePerst_keeps (sub_trans rfl hm) ?_
  · refine beginPushes_keeps (sub_trans rfl hm) h_s_1

theorem endTrayOff_keeps {m : Nat} {r : State} {p0 : State} {p1} (hm : 8196 &&& m = 8196) (h0_ : Keeps m r p0) : Keeps m r (@endTrayOff p0 p1) := by
  unfold endTrayOff
  extract_lets -lift -merge -underBinder late_1
  try clear_value late_1
  refine keeps_ite ?_ ?_
  · refine setSeqState_keeps (sub_trans rfl hm) ?_
    · refine traceSeq_keeps (sub_trans rfl hm) ?_
      · refine State_wr_keeps (sub_trans rfl hm) h0_
  · refine setSeqState_keeps (sub_trans rfl hm) h0_

theorem holdDie_keeps {m : Nat} {r : State} {p0 : State} {p1} {p2} (hm : 352067548 &&& m = 352067548) (h0_ : Keeps m r p0) : Keeps m r (@holdDie p0 p1 p2) := by
  unfold holdDie
  extract_lets -lift -merge -underBinder s_1
  have h_s_1 : Keeps m r s_1 := by
    unfold s_1
    refine State_modDie_keeps (sub_trans rfl hm) h0_
  try clear_value s_1
  refine keeps_ite ?_ ?_
  · refine resetDie_keeps (sub_trans rfl hm) h_s_1
  · exact h_s_1

theorem refreshHolds_keeps {m : Nat} {r : State} {p0 : State} (hm : 352067548 &&& m = 352067548) (h0_ : Keeps m r p0) : Keeps m r (@refreshHolds p0) := by
  unfold refreshHolds
  extract_lets -lift -merge -underBinder flags_1 byFlag_2 byFault_3 one_4 s_5 s_6 s_7
  try clear_value flags_1
  try clear_value byFlag_2
  try clear_value byFault_3
  have h_one_4 : ∀ a_8, Keeps m r a_8 → ∀ a_9, Keeps m r (one_4 a_8 a_9) := by
    intro a_8 h_10 a_9
    unfold one_4
    extract_lets -lift -merge -underBinder s_11
    have h_s_11 : Keeps m r s_11 := by
      unfold s_11
      refine keeps_ite ?_ ?_
      · refine holdDie_keeps (sub_trans rfl hm) h_10
      · refine State_modDie_keeps (sub_trans rfl hm) h_10
    try clear_value s_11
    refine keeps_ite ?_ ?_
    · refine holdDie_keeps (sub_trans rfl hm) h_s_11
    · refine State_modDie_keeps (sub_trans rfl hm) h_s_11
  have h_s_5 : Keeps m r s_5 := by
    unfold s_5
    refine h_one_4 _ ?_ _
    · refine h_one_4 _ h0_ _
  try clear_value s_5
  have h_s_6 : Keeps m r s_6 := by
    unfold s_6
    refine State_wr_keeps (sub_trans rfl hm) ?_
    · refine State_wr_keeps (sub_trans rfl hm) h_s_5
  try clear_value s_6
  have h_s_7 : Keeps m r s_7 := by
    unfold s_7
    refine State_wr_keeps (sub_trans rfl hm) h_s_6
  try clear_value s_7
  try clear_value one_4
  refine refreshLinks_keeps (sub_trans rfl hm) ?_
  · refine State_wr_keeps (sub_trans rfl hm) h_s_7

theorem railRecord_keeps {m : Nat} {r : State} {p0 : State} {p1} {p2} (hm : 12845076 &&& m = 12845076) (h0_ : Keeps m r p0) : Keeps m r (@railRecord p0 p1 p2) := by
  unfold railRecord
  extract_lets -lift -merge -underBinder b147416
  try clear_value b147416
  refine State_err_keeps (sub_trans rfl hm) h0_

theorem flagNotFallen_keeps {m : Nat} {r : State} {p0 : State} {p1} (hm : 12853268 &&& m = 12853268) (h0_ : Keeps m r p0) : Keeps m r (@flagNotFallen p0 p1) := by
  unfold flagNotFallen
  extract_lets -lift -merge -underBinder s_1 __src_2
  have h_s_1 : Keeps m r s_1 := by
    unfold s_1
    refine traceSeq_keeps (sub_trans rfl hm) ?_
    · refine State_modRail_keeps (sub_trans rfl hm) h0_
  try clear_value s_1
  refine railRecord_keeps (sub_trans rfl hm) ?_
  · exact keeps_seq h_s_1 (sub_trans rfl hm)

theorem endSlotsOff_keeps {m : Nat} {r : State} {p0 : State} {p1} (hm : 352075740 &&& m = 352075740) (h0_ : Keeps m r p0) : Keeps m r (@endSlotsOff p0 p1) := by
  unfold endSlotsOff
  extract_lets -lift -merge -underBinder late_1
  try clear_value late_1
  refine refreshHolds_keeps (sub_trans rfl hm) ?_
  · refine keeps_foldl h0_ ?_
    · intro t_2 x_3 h_4
      refine flagNotFallen_keeps (sub_trans rfl hm) h_4

theorem endRun_keeps {m : Nat} {r : State} {p0 : State} {p1} (hm : 352075740 &&& m = 352075740) (h0_ : Keeps m r p0) : Keeps m r (@endRun p0 p1) := by
  unfold endRun
  extract_lets -lift -merge -underBinder __src_1 s_2 s_3 all_4 s_5 s_6
  try clear_value all_4
  have h_s_2 : Keeps m r s_2 := by
    unfold s_2
    exact keeps_seq h0_ (sub_trans rfl hm)
  try clear_value s_2
  have h_s_3 : Keeps m r s_3 := by
    unfold s_3
    refine State_wr_keeps (sub_trans rfl hm) ?_
    · refine State_wr_keeps (sub_trans rfl hm) h_s_2
  try clear_value s_3
  have h_s_5 : Keeps m r s_5 := by
    unfold s_5
    split
    · refine castOnDone_keeps (sub_trans rfl hm) ?_
      · exact keeps_seq h_s_3 (sub_trans rfl hm)
    · refine castOnDone_keeps (sub_trans rfl hm) ?_
      · exact keeps_seq h_s_3 (sub_trans rfl hm)
    · refine schedulePerst_keeps (sub_trans rfl hm) h_s_3
    · refine endTrayOff_keeps (sub_trans rfl hm) h_s_3
    · refine endSlotsOff_keeps (sub_trans rfl hm) h_s_3
  try clear_value s_5
  have h_s_6 : Keeps m r s_6 := by
    unfold s_6
    refine traceSeq_keeps (sub_trans rfl hm) ?_
    · refine refreshHolds_keeps (sub_trans rfl hm) h_s_5
  try clear_value s_6
  split
  · refine seqSummary_keeps (sub_trans rfl hm) h_s_6
  · refine seqSummary_keeps (sub_trans rfl hm) h_s_6
  · refine seqSummary_keeps (sub_trans rfl hm) h_s_6
  · refine seqSummary_keeps (sub_trans rfl hm) h_s_6
  · refine seqSummary_keeps (sub_trans rfl hm) h_s_6

theorem advanceRun_keeps {m : Nat} {r : State} {p0 : State} {p1} (hm : 352075740 &&& m = 352075740) (h0_ : Keeps m r p0) : Keeps m r (@advanceRun p0 p1).1 := by
  unfold advanceRun
  split
  · rename_i heq
    have h_1 := congrArg Prod.fst heq
    replace h_1 := keeps_of_eq (m := m) (r := r) h_1 (by
      refine keeps_ite1 ?_ ?_
      · refine takeBind_keeps (sub_trans rfl hm) h0_
      · refine takeCast_keeps (sub_trans rfl hm) h0_
      )
    split
    · refine keeps_fst ?_
      · refine setRun_keeps (sub_trans rfl hm) h_1
    · refine keeps_ite1 ?_ ?_
      · split
        · rename_i heq
          have h_2 := congrArg Prod.fst heq
          replace h_2 := keeps_of_eq (m := m) (r := r) h_2 (by
            refine takeCast_keeps (sub_trans rfl hm) h_1
            )
          split
          · refine keeps_fst ?_
            · refine setRun_keeps (sub_trans rfl hm) h_2
          · refine keeps_fst ?_
            · refine endRun_keeps (sub_trans rfl hm) h_2
      · refine keeps_fst ?_
        · refine endRun_keeps (sub_trans rfl hm) h_1

theorem releaseInput_keeps {m : Nat} {r : State} {p0 : State} (hm : 8196 &&& m = 8196) (h0_ : Keeps m r p0) : Keeps m r (@releaseInput p0) := by
  unfold releaseInput
  extract_lets -lift -merge -underBinder s_1 __src_2
  have h_s_1 : Keeps m r s_1 := by
    unfold s_1
    refine traceSeq_keeps (sub_trans rfl hm) ?_
    · refine State_wr_keeps (sub_trans rfl hm) h0_
  try clear_value s_1
  exact keeps_seq h_s_1 (sub_trans rfl hm)

theorem openRun_keeps {m : Nat} {r : State} {p0 : State} {p1} (hm : 8196 &&& m = 8196) (h0_ : Keeps m r p0) : Keeps m r (@openRun p0 p1) := by
  unfold openRun
  extract_lets -lift -merge -underBinder slotRun_1 __src_2 s_3 s_4
  try clear_value slotRun_1
  have h_s_3 : Keeps m r s_3 := by
    unfold s_3
    exact keeps_seq h0_ (sub_trans rfl hm)
  try clear_value s_3
  have h_s_4 : Keeps m r s_4 := by
    unfold s_4
    refine traceSeq_keeps (sub_trans rfl hm) ?_
    · refine State_bump_keeps (sub_trans rfl hm) h_s_3
  try clear_value s_4
  refine State_wr_keeps (sub_trans rfl hm) ?_
  · refine State_wr_keeps (sub_trans rfl hm) h_s_4

theorem startAdopt_keeps {m : Nat} {r : State} {p0 : State} (hm : 352075740 &&& m = 352075740) (h0_ : Keeps m r p0) : Keeps m r (@startAdopt p0) := by
  unfold startAdopt
  extract_lets -lift -merge -underBinder __src_1 s_2 q_3
  try clear_value q_3
  have h_s_2 : Keeps m r s_2 := by
    unfold s_2
    exact keeps_seq h0_ (sub_trans rfl hm)
  try clear_value s_2
  refine keeps_ite ?_ ?_
  · refine releaseInput_keeps (sub_trans rfl hm) h_s_2
  · refine advanceRun_keeps (sub_trans rfl hm) ?_
    · refine openRun_keeps (sub_trans rfl hm) ?_
      · refine setSeqState_keeps (sub_trans rfl hm) h_s_2

theorem castFrom_keeps {m : Nat} {r : State} {p0 : State} {p1} (hm : 352075740 &&& m = 352075740) (h0_ : Keeps m r p0) : Keeps m r (@castFrom p0 p1) := by
  unfold castFrom
  split
  · rename_i heq
    have h_1 := congrArg Prod.fst heq
    replace h_1 := keeps_of_eq (m := m) (r := r) h_1 (by
      refine takeCast_keeps (sub_trans rfl hm) ?_
      · refine setSeqState_keeps (sub_trans rfl hm) ?_
        · refine openRun_keeps (sub_trans rfl hm) h0_
      )
    split
    · refine setRun_keeps (sub_trans rfl hm) h_1
    · refine endRun_keeps (sub_trans rfl hm) h_1

theorem startTrayOn_keeps {m : Nat} {r : State} {p0 : State} (hm : 352075740 &&& m = 352075740) (h0_ : Keeps m r p0) : Keeps m r (@startTrayOn p0) := by
  unfold startTrayOn
  refine keeps_ite ?_ ?_
  · refine releaseInput_keeps (sub_trans rfl hm) h0_
  · refine castFrom_keeps (sub_trans rfl hm) h0_

theorem startSlotsOn_keeps {m : Nat} {r : State} {p0 : State} {p1} (hm : 352075740 &&& m = 352075740) (h0_ : Keeps m r p0) : Keeps m r (@startSlotsOn p0 p1) := by
  unfold startSlotsOn
  extract_lets -lift -merge -underBinder q_1 __src_2 s_3
  try clear_value q_1
  have h_s_3 : Keeps m r s_3 := by
    unfold s_3
    refine openRun_keeps (sub_trans rfl hm) ?_
    · exact keeps_seq h0_ (sub_trans rfl hm)
  try clear_value s_3
  split
  · rename_i heq
    have h_4 := congrArg Prod.fst heq
    replace h_4 := keeps_of_eq (m := m) (r := r) h_4 (by
      refine takeCast_keeps (sub_trans rfl hm) h_s_3
      )
    split
    · refine setRun_keeps (sub_trans rfl hm) h_4
    · refine endRun_keeps (sub_trans rfl hm) h_4

theorem startSlotsOff_keeps {m : Nat} {r : State} {p0 : State} {p1} (hm : 348929052 &&& m = 348929052) (h0_ : Keeps m r p0) : Keeps m r (@startSlotsOff p0 p1) := by
  unfold startSlotsOff
  extract_lets -lift -merge -underBinder s_1 s_2 gs_3 __src_4
  try clear_value gs_3
  have h_s_1 : Keeps m r s_1 := by
    unfold s_1
    refine assertPerst_keeps (sub_trans rfl hm) h0_
  try clear_value s_1
  have h_s_2 : Keeps m r s_2 := by
    unfold s_2
    refine openRun_keeps (sub_trans rfl hm) h_s_1
  try clear_value s_2
  exact keeps_seq h_s_2 (sub_trans rfl hm)

theorem runHeld_keeps {m : Nat} {r : State} {p0} {p1 : State} (hm : 352075740 &&& m = 352075740) (h1_ : Keeps m r p1) : Keeps m r (@runHeld p0 p1) := by
  induction p0 generalizing p1 with
  | zero => exact h1_
  | succ k ih =>
    unfold runHeld
    refine keeps_ite h1_ ?_
    refine keeps_ite (ih (startAdopt_keeps (sub_trans rfl hm) h1_)) ?_
    split
    · exact h1_
    · rename_i on tray slots rest heq
      extract_lets -lift -merge -underBinder s0 s s2
      have hs : Keeps m r s := by
        unfold s
        exact keeps_seq h1_ (sub_trans rfl hm)
      try clear_value s0
      have hs2 : Keeps m r s2 := by
        unfold s2
        exact keeps_ite (keeps_ite (startTrayOn_keeps (sub_trans rfl hm) hs) hs) (keeps_ite (keeps_ite (startSlotsOn_keeps (sub_trans rfl hm) hs) (startSlotsOff_keeps (sub_trans rfl hm) hs)) hs)
      exact ih hs2

theorem pushRun_keeps {m : Nat} {r : State} {p0 : State} (hm : 352075740 &&& m = 352075740) (h0_ : Keeps m r p0) : Keeps m r (@pushRun p0) := by
  unfold pushRun
  split
  · exact h0_
  · refine keeps_ite ?_ ?_
    · split
      · rename_i heq
        have h_1 := congrArg Prod.fst heq
        replace h_1 := keeps_of_eq (m := m) (r := r) h_1 (by
          refine advanceRun_keeps (sub_trans rfl hm) h0_
          )
        refine keeps_ite ?_ ?_
        · extract_lets -lift -merge -underBinder __src_2 s_3
          have h_s_3 : Keeps m r s_3 := by
            unfold s_3
            refine keeps_ite ?_ ?_
            · exact h_1
            · exact keeps_seq h_1 (sub_trans rfl hm)
          try clear_value s_3
          refine runHeld_keeps (sub_trans rfl hm) h_s_3
        · exact h_1
    · exact h0_

theorem cutSlots_keeps {m : Nat} {r : State} {p0 : State} {p1} (hm : 352075740 &&& m = 352075740) (h0_ : Keeps m r p0) : Keeps m r (@cutSlots p0 p1) := by
  unfold cutSlots
  extract_lets -lift -merge -underBinder chans_1 s_2 s_3 __src_4 s_5 __src_6 s_7 s_8
  try clear_value chans_1
  have h_s_2 : Keeps m r s_2 := by
    unfold s_2
    refine assertPerst_keeps (sub_trans rfl hm) h0_
  try clear_value s_2
  have h_s_3 : Keeps m r s_3 := by
    unfold s_3
    refine keeps_foldl h_s_2 ?_
    · intro t_9 x_10 h_11
      refine keeps_ite ?_ ?_
      · extract_lets -lift -merge -underBinder s_12
        have h_s_12 : Keeps m r s_12 := by
          unfold s_12
          refine setEnable_keeps (sub_trans rfl hm) h_11
        try clear_value s_12
        refine traceSeq_keeps (sub_trans rfl hm) ?_
        · refine State_modRail_keeps (sub_trans rfl hm) h_s_12
      · exact h_11
  try clear_value s_3
  have h_s_5 : Keeps m r s_5 := by
    unfold s_5
    exact keeps_seq h_s_3 (sub_trans rfl hm)
  try clear_value s_5
  have h_s_7 : Keeps m r s_7 := by
    unfold s_7
    exact keeps_seq h_s_5 (sub_trans rfl hm)
  try clear_value s_7
  have h_s_8 : Keeps m r s_8 := by
    unfold s_8
    refine seqSummary_keeps (sub_trans rfl hm) h_s_7
  try clear_value s_8
  refine pushRun_keeps (sub_trans rfl hm) h_s_8

theorem accRemoved_keeps {m : Nat} {r : State} {p0} {p1 : State} (hm : 352075740 &&& m = 352075740) (h1_ : Keeps m r p1) : Keeps m r (@accRemoved p0 p1) := by
  unfold accRemoved
  refine keeps_ite ?_ ?_
  · exact h1_
  · extract_lets -lift -merge -underBinder __src_1 __src_2 s_3
    have h_s_3 : Keeps m r s_3 := by
      unfold s_3
      exact keeps_mk (b := 12288) h1_ (sub_trans rfl hm) (by intro p hp; cases p <;> first | rfl | cases hp) rfl rfl rfl rfl rfl rfl rfl
    try clear_value s_3
    refine keeps_ite ?_ ?_
    · refine cutSlots_keeps (sub_trans rfl hm) h_s_3
    · refine refreshLinks_keeps (sub_trans rfl hm) h_s_3

theorem startFan_keeps {m : Nat} {r : State} {p0 : State} {p1} (hm : 32772 &&& m = 32772) (h0_ : Keeps m r p0) : Keeps m r (@startFan p0 p1) := by
  unfold startFan
  extract_lets -lift -merge -underBinder __src_1 s_2
  have h_s_2 : Keeps m r s_2 := by
    unfold s_2
    exact keeps_cool h0_ (sub_trans rfl hm)
  try clear_value s_2
  refine State_wr_keeps (sub_trans rfl hm) ?_
  · refine State_wr_keeps (sub_trans rfl hm) ?_
    · refine State_wr_keeps (sub_trans rfl hm) ?_
      · refine State_wr_keeps (sub_trans rfl hm) h_s_2

theorem adoptTable_keeps {m : Nat} {r : State} {p0 : State} {p1} (hm : 352075740 &&& m = 352075740) (h0_ : Keeps m r p0) : Keeps m r (@adoptTable p0 p1) := by
  unfold adoptTable
  extract_lets -lift -merge -underBinder listed_1 __src_2 s_3 __src_4
  try clear_value listed_1
  have h_s_3 : Keeps m r s_3 := by
    unfold s_3
    exact keeps_seq h0_ (sub_trans rfl hm)
  try clear_value s_3
  refine keeps_ite ?_ ?_
  · exact h_s_3
  · refine keeps_ite ?_ ?_
    · exact keeps_seq h_s_3 (sub_trans rfl hm)
    · refine runHeld_keeps (sub_trans rfl hm) ?_
      · refine startAdopt_keeps (sub_trans rfl hm) h_s_3

theorem holdOrder_keeps {m : Nat} {r : State} {p0 : State} {p1} {p2} {p3} (hm : 8192 &&& m = 8192) (h0_ : Keeps m r p0) : Keeps m r (@holdOrder p0 p1 p2 p3) := by
  unfold holdOrder
  exact keeps_seq h0_ (sub_trans rfl hm)

theorem orderSlotsOn_keeps {m : Nat} {r : State} {p0 : State} {p1} (hm : 352075740 &&& m = 352075740) (h0_ : Keeps m r p0) : Keeps m r (@orderSlotsOn p0 p1) := by
  unfold orderSlotsOn
  split
  · refine startSlotsOn_keeps (sub_trans rfl hm) h0_
  · refine holdOrder_keeps (sub_trans rfl hm) h0_

theorem dropHeldOn_keeps {m : Nat} {r : State} {p0 : State} {p1} {p2} (hm : 8192 &&& m = 8192) (h0_ : Keeps m r p0) : Keeps m r (@dropHeldOn p0 p1 p2) := by
  unfold dropHeldOn
  extract_lets -lift -merge -underBinder keep_1 __src_2
  try clear_value keep_1
  exact keeps_seq h0_ (sub_trans rfl hm)

theorem orderSlotsOff_keeps {m : Nat} {r : State} {p0 : State} {p1} (hm : 352075740 &&& m = 352075740) (h0_ : Keeps m r p0) : Keeps m r (@orderSlotsOff p0 p1) := by
  unfold orderSlotsOff
  extract_lets -lift -merge -underBinder s_1
  have h_s_1 : Keeps m r s_1 := by
    unfold s_1
    refine dropHeldOn_keeps (sub_trans rfl hm) h0_
  try clear_value s_1
  split
  · refine startSlotsOff_keeps (sub_trans rfl hm) h_s_1
  · split
    · exact h_s_1
    · extract_lets -lift -merge -underBinder mine_2 chans_3 s_4 s_5 s_6 other_7
      try clear_value mine_2
      try clear_value chans_3
      try clear_value other_7
      have h_s_4 : Keeps m r s_4 := by
        unfold s_4
        refine assertPerst_keeps (sub_trans rfl hm) h_s_1
      try clear_value s_4
      have h_s_5 : Keeps m r s_5 := by
        unfold s_5
        refine setRun_keeps (sub_trans rfl hm) h_s_4
      try clear_value s_5
      have h_s_6 : Keeps m r s_6 := by
        unfold s_6
        refine State_wr_keeps (sub_trans rfl hm) h_s_5
      try clear_value s_6
      refine pushRun_keeps (sub_trans rfl hm) ?_
      · refine keeps_ite ?_ ?_
        · exact h_s_6
        · refine holdOrder_keeps (sub_trans rfl hm) h_s_6
    · refine holdOrder_keeps (sub_trans rfl hm) h_s_1

theorem resetHubs_keeps {m : Nat} {r : State} {p0 : State} (hm : 352067548 &&& m = 352067548) (h0_ : Keeps m r p0) : Keeps m r (@resetHubs p0) := by
  unfold resetHubs
  extract_lets -lift -merge -underBinder s_1
  have h_s_1 : Keeps m r s_1 := by
    unfold s_1
    refine keeps_ite ?_ ?_
    · refine resetDie_keeps (sub_trans rfl hm) h0_
    · exact h0_
  try clear_value s_1
  refine keeps_ite ?_ ?_
  · refine resetDie_keeps (sub_trans rfl hm) h_s_1
  · exact h_s_1

theorem startTrayOff_keeps {m : Nat} {r : State} {p0 : State} {p1} (hm : 352075740 &&& m = 352075740) (h0_ : Keeps m r p0) : Keeps m r (@startTrayOff p0 p1) := by
  unfold startTrayOff
  extract_lets -lift -merge -underBinder s_1 s_2 s_3 __src_4
  have h_s_1 : Keeps m r s_1 := by
    unfold s_1
    refine abandonContainment_keeps (sub_trans rfl hm) ?_
    · refine resetHubs_keeps (sub_trans rfl hm) ?_
      · refine assertPerst_keeps (sub_trans rfl hm) h0_
  try clear_value s_1
  have h_s_2 : Keeps m r s_2 := by
    unfold s_2
    refine setSeqState_keeps (sub_trans rfl hm) ?_
    · refine openRun_keeps (sub_trans rfl hm) h_s_1
  try clear_value s_2
  have h_s_3 : Keeps m r s_3 := by
    unfold s_3
    refine State_wr_keeps (sub_trans rfl hm) ?_
    · refine State_wr_keeps (sub_trans rfl hm) h_s_2
  try clear_value s_3
  exact keeps_seq h_s_3 (sub_trans rfl hm)

theorem orderTrayOff_keeps {m : Nat} {r : State} {p0 : State} {p1} (hm : 352075740 &&& m = 352075740) (h0_ : Keeps m r p0) : Keeps m r (@orderTrayOff p0 p1) := by
  unfold orderTrayOff
  extract_lets -lift -merge -underBinder s_1 __src_2 __src_3
  have h_s_1 : Keeps m r s_1 := by
    unfold s_1
    refine dropHeldOn_keeps (sub_trans rfl hm) h0_
  try clear_value s_1
  refine keeps_ite ?_ ?_
  · exact keeps_seq h_s_1 (sub_trans rfl hm)
  · refine startTrayOff_keeps (sub_trans rfl hm) ?_
    · exact keeps_seq h_s_1 (sub_trans rfl hm)

theorem orderTrayOn_keeps {m : Nat} {r : State} {p0 : State} (hm : 352075740 &&& m = 352075740) (h0_ : Keeps m r p0) : Keeps m r (@orderTrayOn p0) := by
  unfold orderTrayOn
  refine keeps_ite ?_ ?_
  · refine holdOrder_keeps (sub_trans rfl hm) h0_
  · refine keeps_ite ?_ ?_
    · exact h0_
    · refine runHeld_keeps (sub_trans rfl hm) ?_
      · refine startTrayOn_keeps (sub_trans rfl hm) h0_

theorem bindOffGroupDrop_keeps {m : Nat} {r : State} {p0 : State} (hm : 352075740 &&& m = 352075740) (h0_ : Keeps m r p0) : Keeps m r (@bindOffGroupDrop p0) := by
  unfold bindOffGroupDrop
  split
  · exact h0_
  · refine keeps_ite ?_ ?_
    · exact h0_
    · refine pushRun_keeps (sub_trans rfl hm) ?_
      · refine setRun_keeps (sub_trans rfl hm) h0_

theorem dropSettling_keeps {m : Nat} {r : State} {p0 : State} (hm : 8196 &&& m = 8196) (h0_ : Keeps m r p0) : Keeps m r (@dropSettling p0) := by
  unfold dropSettling
  refine keeps_ite ?_ ?_
  · exact h0_
  · refine traceSeq_keeps (sub_trans rfl hm) ?_
    · refine State_wr_keeps (sub_trans rfl hm) ?_
      · exact keeps_seq h0_ (sub_trans rfl hm)

theorem castOnGroupEnable_keeps {m : Nat} {r : State} {p0 : State} (hm : 352092124 &&& m = 352092124) (h0_ : Keeps m r p0) : Keeps m r (@castOnGroupEnable p0) := by
  unfold castOnGroupEnable
  split
  · exact h0_
  · refine keeps_ite ?_ ?_
    · exact h0_
    · extract_lets -lift -merge -underBinder late_1 s_2 live_3 s_4
      try clear_value late_1
      try clear_value live_3
      have h_s_2 : Keeps m r s_2 := by
        unfold s_2
        refine keeps_foldl h0_ ?_
        · intro t_5 x_6 h_7
          split
          · refine State_modRail_keeps (sub_trans rfl hm) h_7
          · exact h_7
      try clear_value s_2
      have h_s_4 : Keeps m r s_4 := by
        unfold s_4
        refine keeps_foldl h_s_2 ?_
        · intro t_8 x_9 h_10
          extract_lets -lift -merge -underBinder s_11 s_12 s_13 __src_14
          have h_s_11 : Keeps m r s_11 := by
            unfold s_11
            refine setEnable_keeps (sub_trans rfl hm) h_10
          try clear_value s_11
          have h_s_12 : Keeps m r s_12 := by
            unfold s_12
            refine State_modRail_keeps (sub_trans rfl hm) h_s_11
          try clear_value s_12
          have h_s_13 : Keeps m r s_13 := by
            unfold s_13
            split
            · refine keeps_ite ?_ ?_
              · refine State_wr_keeps (sub_trans rfl hm) ?_
                · exact keeps_pwr h_s_12 (sub_trans rfl hm)
              · exact h_s_12
            · exact h_s_12
          try clear_value s_13
          exact keeps_seq h_s_13 (sub_trans rfl hm)
      try clear_value s_4
      refine pushRun_keeps (sub_trans rfl hm) ?_
      · refine setRun_keeps (sub_trans rfl hm) h_s_4

theorem orderFaultOff_keeps {m : Nat} {r : State} {p0 : State} (hm : 352075740 &&& m = 352075740) (h0_ : Keeps m r p0) : Keeps m r (@orderFaultOff p0) := by
  unfold orderFaultOff
  extract_lets -lift -merge -underBinder slots_1 __src_2 s_3
  try clear_value slots_1
  have h_s_3 : Keeps m r s_3 := by
    unfold s_3
    exact keeps_seq h0_ (sub_trans rfl hm)
  try clear_value s_3
  refine keeps_ite ?_ ?_
  · exact h0_
  · refine keeps_ite ?_ ?_
    · refine orderSlotsOff_keeps (sub_trans rfl hm) h_s_3
    · exact h_s_3

theorem faultAction_keeps {m : Nat} {r : State} {p0 : State} {p1} (hm : 352075740 &&& m = 352075740) (h0_ : Keeps m r p0) : Keeps m r (@faultAction p0 p1) := by
  unfold faultAction
  extract_lets -lift -merge -underBinder act_1 s_2 __src_3 s_4 s_5 __src_6 s_7
  try clear_value act_1
  have h_s_2 : Keeps m r s_2 := by
    unfold s_2
    refine assertPerst_keeps (sub_trans rfl hm) h0_
  try clear_value s_2
  have h_s_4 : Keeps m r s_4 := by
    unfold s_4
    refine setEnable_keeps (sub_trans rfl hm) h0_
  try clear_value s_4
  have h_s_5 : Keeps m r s_5 := by
    unfold s_5
    refine State_modRail_keeps (sub_trans rfl hm) h_s_4
  try clear_value s_5
  have h_s_7 : Keeps m r s_7 := by
    unfold s_7
    exact keeps_seq h_s_5 (sub_trans rfl hm)
  try clear_value s_7
  refine keeps_ite ?_ ?_
  · exact h0_
  · refine keeps_ite ?_ ?_
    · refine orderTrayOff_keeps (sub_trans rfl hm) h0_
    · refine keeps_ite ?_ ?_
      · refine orderTrayOff_keeps (sub_trans rfl hm) h0_
      · refine keeps_ite ?_ ?_
        · refine keeps_ite ?_ ?_
          · refine cutSlots_keeps (sub_trans rfl hm) h_s_2
          · refine orderFaultOff_keeps (sub_trans rfl hm) ?_
            · exact keeps_seq h_s_2 (sub_trans rfl hm)
        · refine keeps_ite ?_ ?_
          · refine refreshHolds_keeps (sub_trans rfl hm) h_s_7
          · exact h0_

theorem declareFault_keeps {m : Nat} {r : State} {p0 : State} {p1} (hm : 352075740 &&& m = 352075740) (h0_ : Keeps m r p0) : Keeps m r (@declareFault p0 p1) := by
  unfold declareFault
  extract_lets -lift -merge -underBinder s_1 __src_2 s_3 s_4 s_5
  have h_s_1 : Keeps m r s_1 := by
    unfold s_1
    refine traceSeq_keeps (sub_trans rfl hm) ?_
    · refine State_modRail_keeps (sub_trans rfl hm) h0_
  try clear_value s_1
  have h_s_3 : Keeps m r s_3 := by
    unfold s_3
    exact keeps_seq h_s_1 (sub_trans rfl hm)
  try clear_value s_3
  have h_s_4 : Keeps m r s_4 := by
    unfold s_4
    refine railRecord_keeps (sub_trans rfl hm) ?_
    · refine State_bump_keeps (sub_trans rfl hm) h_s_3
  try clear_value s_4
  have h_s_5 : Keeps m r s_5 := by
    unfold s_5
    refine seqSummary_keeps (sub_trans rfl hm) h_s_4
  try clear_value s_5
  refine keeps_ite ?_ ?_
  · exact h_s_1
  · refine faultAction_keeps (sub_trans rfl hm) h_s_5

theorem flagRail_keeps {m : Nat} {r : State} {p0 : State} {p1} {p2} (hm : 352075740 &&& m = 352075740) (h0_ : Keeps m r p0) : Keeps m r (@flagRail p0 p1 p2) := by
  unfold flagRail
  extract_lets -lift -merge -underBinder c_1 s_2 __src_3 s_4 s_5 s_6 s_7
  try clear_value c_1
  have h_s_2 : Keeps m r s_2 := by
    unfold s_2
    refine traceSeq_keeps (sub_trans rfl hm) ?_
    · refine State_modRail_keeps (sub_trans rfl hm) h0_
  try clear_value s_2
  have h_s_4 : Keeps m r s_4 := by
    unfold s_4
    exact keeps_seq h_s_2 (sub_trans rfl hm)
  try clear_value s_4
  have h_s_5 : Keeps m r s_5 := by
    unfold s_5
    refine railRecord_keeps (sub_trans rfl hm) h_s_4
  try clear_value s_5
  have h_s_6 : Keeps m r s_6 := by
    unfold s_6
    refine keeps_ite ?_ ?_
    · refine setEnable_keeps (sub_trans rfl hm) h_s_5
    · exact h_s_5
  try clear_value s_6
  have h_s_7 : Keeps m r s_7 := by
    unfold s_7
    refine keeps_ite ?_ ?_
    · refine assertPerst_keeps (sub_trans rfl hm) h_s_6
    · exact h_s_6
  try clear_value s_7
  refine pushRun_keeps (sub_trans rfl hm) ?_
  · refine refreshHolds_keeps (sub_trans rfl hm) h_s_7

theorem inputSettleExpire_keeps {m : Nat} {r : State} {p0 : State} (hm : 352075740 &&& m = 352075740) (h0_ : Keeps m r p0) : Keeps m r (@inputSettleExpire p0) := by
  unfold inputSettleExpire
  split
  · exact h0_
  · refine keeps_ite ?_ ?_
    · exact h0_
    · refine runHeld_keeps (sub_trans rfl hm) ?_
      · refine castFrom_keeps (sub_trans rfl hm) ?_
        · exact keeps_seq h0_ (sub_trans rfl hm)

theorem perstRelease_keeps {m : Nat} {r : State} {p0 : State} (hm : 12860444 &&& m = 12860444) (h0_ : Keeps m r p0) : Keeps m r (@perstRelease p0) := by
  unfold perstRelease
  extract_lets -lift -merge -underBinder due_1 slots_2 __src_3 s_4 go_5
  try clear_value due_1
  try clear_value slots_2
  try clear_value go_5
  have h_s_4 : Keeps m r s_4 := by
    unfold s_4
    exact keeps_seq h0_ (sub_trans rfl hm)
  try clear_value s_4
  refine refreshLinks_keeps (sub_trans rfl hm) ?_
  · refine State_wr_keeps (sub_trans rfl hm) h_s_4

theorem railFallen_keeps {m : Nat} {r : State} {p0} {p1 : State} (hm : 352075740 &&& m = 352075740) (h1_ : Keeps m r p1) : Keeps m r (@railFallen p0 p1) := by
  unfold railFallen
  split
  · exact h1_
  · refine keeps_ite ?_ ?_
    · refine pushRun_keeps (sub_trans rfl hm) ?_
      · refine traceSeq_keeps (sub_trans rfl hm) ?_
        · refine State_modRail_keeps (sub_trans rfl hm) h1_
    · exact h1_

theorem railFault_keeps {m : Nat} {r : State} {p0} {p1 : State} (hm : 352075740 &&& m = 352075740) (h1_ : Keeps m r p1) : Keeps m r (@railFault p0 p1) := by
  unfold railFault
  split
  · extract_lets -lift -merge -underBinder met_1
    try clear_value met_1
    refine keeps_ite ?_ ?_
    · refine declareFault_keeps (sub_trans rfl hm) h1_
    · exact h1_
  · exact h1_

theorem startFans_keeps {m : Nat} {r : State} {p0 : State} {p1} (hm : 32772 &&& m = 32772) (h0_ : Keeps m r p0) : Keeps m r (@startFans p0 p1) := by
  unfold startFans
  refine keeps_ite ?_ ?_
  · refine keeps_foldl h0_ ?_
    · intro t_1 x_2 h_3
      refine startFan_keeps (sub_trans rfl hm) h_3
  · exact h0_

theorem railGood_keeps {m : Nat} {r : State} {p0} {p1 : State} (hm : 352108508 &&& m = 352108508) (h1_ : Keeps m r p1) : Keeps m r (@railGood p0 p1) := by
  unfold railGood
  split
  · extract_lets -lift -merge -underBinder x_1 s_2 __src_3 s_4
    try clear_value x_1
    have h_s_2 : Keeps m r s_2 := by
      unfold s_2
      refine State_modRail_keeps (sub_trans rfl hm) h1_
    try clear_value s_2
    have h_s_4 : Keeps m r s_4 := by
      unfold s_4
      exact keeps_seq h_s_2 (sub_trans rfl hm)
    try clear_value s_4
    refine keeps_ite ?_ ?_
    · refine pushRun_keeps (sub_trans rfl hm) ?_
      · refine refreshHolds_keeps (sub_trans rfl hm) ?_
        · refine startFans_keeps (sub_trans rfl hm) ?_
          · refine traceSeq_keeps (sub_trans rfl hm) h_s_4
    · exact h1_
  · exact h1_

theorem railNotFallen_keeps {m : Nat} {r : State} {p0} {p1 : State} (hm : 352075740 &&& m = 352075740) (h1_ : Keeps m r p1) : Keeps m r (@railNotFallen p0 p1) := by
  unfold railNotFallen
  split
  · exact h1_
  · extract_lets -lift -merge -underBinder x_1
    try clear_value x_1
    refine keeps_ite ?_ ?_
    · refine pushRun_keeps (sub_trans rfl hm) ?_
      · refine refreshHolds_keeps (sub_trans rfl hm) ?_
        · refine flagNotFallen_keeps (sub_trans rfl hm) h1_
    · exact h1_

theorem railNotGood_keeps {m : Nat} {r : State} {p0} {p1 : State} (hm : 352075740 &&& m = 352075740) (h1_ : Keeps m r p1) : Keeps m r (@railNotGood p0 p1) := by
  unfold railNotGood
  split
  · exact h1_
  · extract_lets -lift -merge -underBinder x_1
    try clear_value x_1
    refine keeps_ite ?_ ?_
    · refine flagRail_keeps (sub_trans rfl hm) h1_
    · exact h1_

theorem sampleAwaiting_keeps {m : Nat} {r : State} {p0 : State} {p1} {p2} (hm : 352075740 &&& m = 352075740) (h0_ : Keeps m r p0) : Keeps m r (@sampleAwaiting p0 p1 p2) := by
  unfold sampleAwaiting
  extract_lets -lift -merge -underBinder c_1 x_2 s_3 s_4
  try clear_value c_1
  try clear_value x_2
  have h_s_3 : Keeps m r s_3 := by
    unfold s_3
    refine State_modRail_keeps (sub_trans rfl hm) h0_
  try clear_value s_3
  have h_s_4 : Keeps m r s_4 := by
    unfold s_4
    refine traceSeq_keeps (sub_trans rfl hm) h_s_3
  try clear_value s_4
  refine keeps_ite ?_ ?_
  · refine traceSeq_keeps (sub_trans rfl hm) ?_
    · refine State_modRail_keeps (sub_trans rfl hm) h0_
  · refine keeps_ite ?_ ?_
    · refine flagRail_keeps (sub_trans rfl hm) h_s_4
    · exact h_s_4

theorem sampleGood_keeps {m : Nat} {r : State} {p0 : State} {p1} {p2} {p3} (hm : 352075740 &&& m = 352075740) (h0_ : Keeps m r p0) : Keeps m r (@sampleGood p0 p1 p2 p3) := by
  unfold sampleGood
  extract_lets -lift -merge -underBinder c_1 faulted_2 s_3
  try clear_value c_1
  try clear_value faulted_2
  have h_s_3 : Keeps m r s_3 := by
    unfold s_3
    refine traceSeq_keeps (sub_trans rfl hm) h0_
  try clear_value s_3
  refine keeps_ite ?_ ?_
  · exact h_s_3
  · split
    · exact h_s_3
    · refine keeps_ite ?_ ?_
      · refine traceSeq_keeps (sub_trans rfl hm) ?_
        · refine State_bump_keeps (sub_trans rfl hm) h_s_3
      · refine keeps_ite ?_ ?_
        · exact h_s_3
        · refine declareFault_keeps (sub_trans rfl hm) h_s_3

theorem railPgChange_keeps {m : Nat} {r : State} {p0} {p1} {p2 : State} (hm : 352075740 &&& m = 352075740) (h2_ : Keeps m r p2) : Keeps m r (@railPgChange p0 p1 p2) := by
  unfold railPgChange
  refine keeps_ite ?_ ?_
  · exact h2_
  · extract_lets -lift -merge -underBinder was_1 __src_2 s_3 s_4 st_5
    try clear_value was_1
    try clear_value st_5
    have h_s_3 : Keeps m r s_3 := by
      unfold s_3
      exact keeps_seq h2_ (sub_trans rfl hm)
    try clear_value s_3
    have h_s_4 : Keeps m r s_4 := by
      unfold s_4
      refine State_modRail_keeps (sub_trans rfl hm) h_s_3
    try clear_value s_4
    split
    · exact h_s_4
    · extract_lets -lift -merge -underBinder s_6
      have h_s_6 : Keeps m r s_6 := by
        unfold s_6
        refine keeps_ite ?_ ?_
        · refine sampleAwaiting_keeps (sub_trans rfl hm) h_s_4
        · refine keeps_ite ?_ ?_
          · refine sampleGood_keeps (sub_trans rfl hm) h_s_4
          · refine keeps_ite ?_ ?_
            · refine traceSeq_keeps (sub_trans rfl hm) h_s_4
            · exact h_s_4
      try clear_value s_6
      refine keeps_ite ?_ ?_
      · refine State_modRail_keeps (sub_trans rfl hm) h_s_6
      · exact h_s_6

theorem railVoutRead_keeps {m : Nat} {r : State} {p0} {p1} {p2 : State} (hm : 8192 &&& m = 8192) (h2_ : Keeps m r p2) : Keeps m r (@railVoutRead p0 p1 p2) := by
  unfold railVoutRead
  refine keeps_ite ?_ ?_
  · exact h2_
  · refine State_modRail_keeps (sub_trans rfl hm) ?_
    · exact keeps_seq h2_ (sub_trans rfl hm)

theorem seqOrder_keeps {m : Nat} {r : State} {p0 : State} {p1} {p2} {p3} (hm : 16 &&& m = 16) (h0_ : Keeps m r p0) (h3_ : ∀ q0, Keeps m r q0 → Keeps m r (p3 q0)) : Keeps m r (@seqOrder p0 p1 p2 p3) := by
  unfold seqOrder
  refine keeps_ite ?_ ?_
  · refine State_deny_keeps (sub_trans rfl hm) h0_
  · refine keeps_ite ?_ ?_
    · refine h3_ _ ?_
      · refine State_answer_keeps (sub_trans rfl hm) h0_
    · refine State_answer_keeps (sub_trans rfl hm) h0_

theorem setPresent_keeps {m : Nat} {r : State} {p0 : State} {p1} (hm : 8192 &&& m = 8192) (h0_ : Keeps m r p0) : Keeps m r (@setPresent p0 p1) := by
  unfold setPresent
  exact keeps_seq h0_ (sub_trans rfl hm)

theorem slotBindOff_keeps {m : Nat} {r : State} {p0} {p1} {p2 : State} (hm : 352075740 &&& m = 352075740) (h2_ : Keeps m r p2) : Keeps m r (@slotBindOff p0 p1 p2) := by
  unfold slotBindOff
  refine seqOrder_keeps (sub_trans rfl hm) h2_ ?_
  · intro a_1 h_2
    refine keeps_ite ?_ ?_
    · exact h_2
    · refine orderSlotsOff_keeps (sub_trans rfl hm) h_2

theorem slotCastOn_keeps {m : Nat} {r : State} {p0} {p1} {p2 : State} (hm : 352075740 &&& m = 352075740) (h2_ : Keeps m r p2) : Keeps m r (@slotCastOn p0 p1 p2) := by
  unfold slotCastOn
  refine seqOrder_keeps (sub_trans rfl hm) h2_ ?_
  · intro a_1 h_2
    refine keeps_ite ?_ ?_
    · exact h_2
    · refine orderSlotsOn_keeps (sub_trans rfl hm) h_2

theorem trayBindOff_keeps {m : Nat} {r : State} {p0} {p1 : State} (hm : 352075740 &&& m = 352075740) (h1_ : Keeps m r p1) : Keeps m r (@trayBindOff p0 p1) := by
  unfold trayBindOff
  refine seqOrder_keeps (sub_trans rfl hm) h1_ ?_
  · intro a_1 h_2
    refine orderTrayOff_keeps (sub_trans rfl hm) h_2

theorem trayCastOn_keeps {m : Nat} {r : State} {p0} {p1 : State} (hm : 352075740 &&& m = 352075740) (h1_ : Keeps m r p1) : Keeps m r (@trayCastOn p0 p1) := by
  unfold trayCastOn
  refine seqOrder_keeps (sub_trans rfl hm) h1_ ?_
  · intro a_1 h_2
    refine orderTrayOn_keeps (sub_trans rfl hm) h_2

end Sys2Proof.Laws
end

