-- ==== Sys2Proof/Laws/Keeps3.lean ====
section
/-! SUPPORT. What the operations of Power, Shares, Governor keep (the relation `Keeps`): of each, that it passes on the relation of the
state it is given, where the parts it writes are among those named. -/
namespace Sys2Proof.Laws
open Sys2Proof.Machine

/-! ## Power -/

theorem State_modSlotPower_keeps {m : Nat} {r : State} {p0 : State} {p1} {p2} (hm : 16384 &&& m = 16384) (h0_ : Keeps m r p0) : Keeps m r (@State.modSlotPower p0 p1 p2) := by
  unfold State.modSlotPower
  exact keeps_pwr h0_ (sub_trans rfl hm)

theorem profileWrites_keeps {m : Nat} {r : State} {p0 : State} {p1} {p2} {p3} (hm : 16 &&& m = 16) (h0_ : Keeps m r p0) : Keeps m r (@profileWrites p0 p1 p2 p3) := by
  unfold profileWrites
  split
  · exact h0_
  · extract_lets -lift -merge -underBinder before_1
    try clear_value before_1
    refine keeps_foldl1 ?_ ?_
    · exact keeps_fst h0_
    · intro t_2 x_3 h_4
      extract_lets -lift -merge -underBinder s_5
      have h_s_5 : Keeps m r s_5 := by
        unfold s_5
        refine keeps_ite ?_ ?_
        · exact h_4
        · refine State_emit_keeps (sub_trans rfl hm) ?_
          · exact h_4
      try clear_value s_5
      refine keeps_fst ?_
      · refine State_emit_keeps (sub_trans rfl hm) h_s_5

theorem prePosition_keeps {m : Nat} {r : State} {p0 : State} {p1} {p2} (hm : 16400 &&& m = 16400) (h0_ : Keeps m r p0) : Keeps m r (@prePosition p0 p1 p2) := by
  unfold prePosition
  split
  · exact h0_
  · extract_lets -lift -merge -underBinder s_1 __src_2
    have h_s_1 : Keeps m r s_1 := by
      unfold s_1
      refine profileWrites_keeps (sub_trans rfl hm) h0_
    try clear_value s_1
    exact keeps_pwr h_s_1 (sub_trans rfl hm)

theorem scheduleLoad_keeps {m : Nat} {r : State} {p0 : State} {p1} {p2} {p3} (hm : 32768 &&& m = 32768) (h0_ : Keeps m r p0) : Keeps m r (@scheduleLoad p0 p1 p2 p3) := by
  unfold scheduleLoad
  exact keeps_cool h0_ (sub_trans rfl hm)

theorem clearLagging_keeps {m : Nat} {r : State} {p0 : State} (hm : 4 &&& m = 4) (h0_ : Keeps m r p0) : Keeps m r (@clearLagging p0) := by
  unfold clearLagging
  refine keeps_ite ?_ ?_
  · refine State_wr_keeps (sub_trans rfl hm) h0_
  · exact h0_

theorem refreshDuty_keeps {m : Nat} {r : State} {p0 : State} (hm : 4 &&& m = 4) (h0_ : Keeps m r p0) : Keeps m r (@refreshDuty p0) := by
  unfold refreshDuty
  extract_lets -lift -merge -underBinder s_1 s_2
  have h_s_1 : Keeps m r s_1 := by
    unfold s_1
    refine State_wr_keeps (sub_trans rfl hm) h0_
  try clear_value s_1
  have h_s_2 : Keeps m r s_2 := by
    unfold s_2
    refine State_wr_keeps (sub_trans rfl hm) h_s_1
  try clear_value s_2
  refine clearLagging_keeps (sub_trans rfl hm) ?_
  · refine State_wr_keeps (sub_trans rfl hm) h_s_2

theorem startRamp_keeps {m : Nat} {r : State} {p0 : State} {p1} {p2} (hm : 16388 &&& m = 16388) (h0_ : Keeps m r p0) : Keeps m r (@startRamp p0 p1 p2) := by
  unfold startRamp
  extract_lets -lift -merge -underBinder e_1 w_2 __src_3
  try clear_value e_1
  try clear_value w_2
  refine refreshDuty_keeps (sub_trans rfl hm) ?_
  · exact keeps_pwr h0_ (sub_trans rfl hm)

theorem hintDue_keeps {m : Nat} {r : State} {p0 : State} {p1} (hm : 49172 &&& m = 49172) (h0_ : Keeps m r p0) : Keeps m r (@hintDue p0 p1).1 := by
  unfold hintDue
  extract_lets -lift -merge -underBinder a_1 s147769 pos_2
  try clear_value a_1
  try clear_value pos_2
  have h_s147769 : Keeps m r s147769 := by
    unfold s147769
    refine keeps_ite ?_ ?_
    · refine prePosition_keeps (sub_trans rfl hm) h0_
    · exact h0_
  try clear_value s147769
  refine keeps_ite1 ?_ ?_
  · refine keeps_fst ?_
    · refine scheduleLoad_keeps (sub_trans rfl hm) ?_
      · refine startRamp_keeps (sub_trans rfl hm) h_s147769
  · exact keeps_fst h_s147769

theorem hintsDue_keeps {m : Nat} {r : State} {p0 : State} (hm : 49172 &&& m = 49172) (h0_ : Keeps m r p0) : Keeps m r (@hintsDue p0) := by
  unfold hintsDue
  extract_lets -lift -merge -underBinder hs_1 __src_2
  try clear_value hs_1
  refine keeps_foldl ?_ ?_
  · exact keeps_pwr h0_ (sub_trans rfl hm)
  · intro t_3 x_4 h_5
    split
    · rename_i heq
      have h_6 := congrArg Prod.fst heq
      replace h_6 := keeps_of_eq (m := m) (r := r) h_6 (by
        refine hintDue_keeps (sub_trans rfl hm) h_5
        )
      exact h_6
    · rename_i heq
      have h_7 := congrArg Prod.fst heq
      replace h_7 := keeps_of_eq (m := m) (r := r) h_7 (by
        refine hintDue_keeps (sub_trans rfl hm) h_5
        )
      exact keeps_pwr h_7 (sub_trans rfl hm)

theorem hintMessage_keeps {m : Nat} {r : State} {p0} {p1} {p2} {p3} {p4} {p5 : State} (hm : 49172 &&& m = 49172) (h5_ : Keeps m r p5) : Keeps m r (@hintMessage p0 p1 p2 p3 p4 p5) := by
  unfold hintMessage
  refine keeps_ite ?_ ?_
  · exact h5_
  · refine keeps_ite ?_ ?_
    · refine State_bump_keeps (sub_trans rfl hm) h5_
    · extract_lets -lift -merge -underBinder s_1 lead_2 h_3 __src_4
      try clear_value lead_2
      try clear_value h_3
      have h_s_1 : Keeps m r s_1 := by
        unfold s_1
        refine State_modSlotPower_keeps (sub_trans rfl hm) h5_
      try clear_value s_1
      refine keeps_ite ?_ ?_
      · exact h_s_1
      · refine hintsDue_keeps (sub_trans rfl hm) ?_
        · exact keeps_pwr h_s_1 (sub_trans rfl hm)

theorem addSlotEnergy_keeps {m : Nat} {r : State} {p0 : State} {p1} {p2} (hm : 16392 &&& m = 16392) (h0_ : Keeps m r p0) : Keeps m r (@addSlotEnergy p0 p1 p2) := by
  unfold addSlotEnergy
  extract_lets -lift -merge -underBinder r_1 whole_2 s_3
  try clear_value r_1
  try clear_value whole_2
  have h_s_3 : Keeps m r s_3 := by
    unfold s_3
    refine State_modSlotPower_keeps (sub_trans rfl hm) h0_
  try clear_value s_3
  refine State_addWide_keeps (sub_trans rfl hm) ?_
  · refine State_addWide_keeps (sub_trans rfl hm) h_s_3

theorem activityPower_keeps {m : Nat} {r : State} {p0} {p1} {p2} {p3 : State} (hm : 16392 &&& m = 16392) (h3_ : Keeps m r p3) : Keeps m r (@activityPower p0 p1 p2 p3) := by
  unfold activityPower
  extract_lets -lift -merge -underBinder x_1 now_2 s_3
  try clear_value x_1
  try clear_value now_2
  have h_s_3 : Keeps m r s_3 := by
    unfold s_3
    refine State_modSlotPower_keeps (sub_trans rfl hm) h3_
  try clear_value s_3
  split
  · exact h_s_3
  · refine keeps_ite ?_ ?_
    · exact h_s_3
    · extract_lets -lift -merge -underBinder dt_4 e_5 v_6 work_7 p_8 s_9
      try clear_value dt_4
      try clear_value e_5
      try clear_value v_6
      try clear_value work_7
      try clear_value p_8
      have h_s_9 : Keeps m r s_9 := by
        unfold s_9
        refine State_modSlotPower_keeps (sub_trans rfl hm) h_s_3
      try clear_value s_9
      refine addSlotEnergy_keeps (sub_trans rfl hm) h_s_9

theorem addHubEnergy_keeps {m : Nat} {r : State} {p0 : State} {p1} (hm : 16392 &&& m = 16392) (h0_ : Keeps m r p0) : Keeps m r (@addHubEnergy p0 p1) := by
  unfold addHubEnergy
  extract_lets -lift -merge -underBinder r_1 whole_2 __src_3
  try clear_value r_1
  try clear_value whole_2
  refine State_addWide_keeps (sub_trans rfl hm) ?_
  · exact keeps_pwr h0_ (sub_trans rfl hm)

theorem refreshPin_keeps {m : Nat} {r : State} {p0 : State} (hm : 8388612 &&& m = 8388612) (h0_ : Keeps m r p0) : Keeps m r (@refreshPin p0) := by
  unfold refreshPin
  refine keeps_ite ?_ ?_
  · exact h0_
  · extract_lets -lift -merge -underBinder s_1 s_2
    have h_s_1 : Keeps m r s_1 := by
      unfold s_1
      refine State_wr_keeps (sub_trans rfl hm) h0_
    try clear_value s_1
    have h_s_2 : Keeps m r s_2 := by
      unfold s_2
      refine State_wr_keeps (sub_trans rfl hm) ?_
      · refine State_bump_keeps (sub_trans rfl hm) h_s_1
    try clear_value s_2
    refine State_event_keeps (sub_trans rfl hm) h_s_2

theorem refreshCaps_keeps {m : Nat} {r : State} {p0 : State} (hm : 4 &&& m = 4) (h0_ : Keeps m r p0) : Keeps m r (@refreshCaps p0) := by
  unfold refreshCaps
  split
  · extract_lets -lift -merge -underBinder s_1 s_2
    have h_s_1 : Keeps m r s_1 := by
      unfold s_1
      refine State_wr_keeps (sub_trans rfl hm) ?_
      · refine State_wr_keeps (sub_trans rfl hm) h0_
    try clear_value s_1
    have h_s_2 : Keeps m r s_2 := by
      unfold s_2
      refine keeps_foldl h_s_1 ?_
      · intro t_3 x_4 h_5
        refine State_wr_keeps (sub_trans rfl hm) h_5
    try clear_value s_2
    refine State_wr_keeps (sub_trans rfl hm) h_s_2

theorem auxUpdate_keeps {m : Nat} {r : State} {p0} {p1 : State} (hm : 16388 &&& m = 16388) (h1_ : Keeps m r p1) : Keeps m r (@auxUpdate p0 p1) := by
  unfold auxUpdate
  split
  · exact h1_
  · refine keeps_ite ?_ ?_
    · exact h1_
    · extract_lets -lift -merge -underBinder floor_1 left_2 aux_3 __src_4
      try clear_value floor_1
      try clear_value left_2
      try clear_value aux_3
      refine State_wr_keeps (sub_trans rfl hm) ?_
      · exact keeps_pwr h1_ (sub_trans rfl hm)

theorem notePeak_keeps {m : Nat} {r : State} {p0 : State} {p1} {p2} {p3} (hm : 16384 &&& m = 16384) (h0_ : Keeps m r p0) : Keeps m r (@notePeak p0 p1 p2 p3) := by
  unfold notePeak
  extract_lets -lift -merge -underBinder k_1
  try clear_value k_1
  split
  · exact keeps_pwr h0_ (sub_trans rfl hm)
  · refine keeps_ite ?_ ?_
    · exact keeps_pwr h0_ (sub_trans rfl hm)
    · exact h0_

theorem stepDown_keeps {m : Nat} {r : State} {p0 : State} {p1} (hm : 16384 &&& m = 16384) (h0_ : Keeps m r p0) : Keeps m r (@stepDown p0 p1) := by
  unfold stepDown
  refine keeps_foldl h0_ ?_
  · intro t_1 x_2 h_3
    refine State_modSlotPower_keeps (sub_trans rfl hm) h_3

theorem lowerCapDuty_keeps {m : Nat} {r : State} {p0 : State} {p1} {p2} (hm : 16384 &&& m = 16384) (h0_ : Keeps m r p0) : Keeps m r (@lowerCapDuty p0 p1 p2) := by
  unfold lowerCapDuty
  refine keeps_foldl h0_ ?_
  · intro t_1 x_2 h_3
    refine State_modSlotPower_keeps (sub_trans rfl hm) h_3

theorem enterLagging_keeps {m : Nat} {r : State} {p0 : State} (hm : 4 &&& m = 4) (h0_ : Keeps m r p0) : Keeps m r (@enterLagging p0) := by
  unfold enterLagging
  refine keeps_ite ?_ ?_
  · exact h0_
  · refine State_wr_keeps (sub_trans rfl hm) ?_
    · refine State_wr_keeps (sub_trans rfl hm) ?_
      · refine State_bump_keeps (sub_trans rfl hm) h0_

theorem throttle_keeps {m : Nat} {r : State} {p0 : State} (hm : 16388 &&& m = 16388) (h0_ : Keeps m r p0) : Keeps m r (@throttle p0) := by
  unfold throttle
  extract_lets -lift -merge -underBinder k_1 s_2 s_3 __src_4
  try clear_value k_1
  have h_s_2 : Keeps m r s_2 := by
    unfold s_2
    refine keeps_ite ?_ ?_
    · exact h0_
    · refine keeps_ite ?_ ?_
      · refine stepDown_keeps (sub_trans rfl hm) h0_
      · refine lowerCapDuty_keeps (sub_trans rfl hm) h0_
  try clear_value s_2
  have h_s_3 : Keeps m r s_3 := by
    unfold s_3
    refine keeps_foldl h_s_2 ?_
    · intro t_5 x_6 h_7
      split
      · exact h_7
      · refine keeps_ite ?_ ?_
        · extract_lets -lift -merge -underBinder l_8
          try clear_value l_8
          refine lowerCapDuty_keeps (sub_trans rfl hm) h_7
        · exact h_7
  try clear_value s_3
  refine refreshDuty_keeps (sub_trans rfl hm) ?_
  · refine enterLagging_keeps (sub_trans rfl hm) ?_
    · exact keeps_pwr h_s_3 (sub_trans rfl hm)

theorem lookAtExcess_keeps {m : Nat} {r : State} {p0 : State} {p1} (hm : 16388 &&& m = 16388) (h0_ : Keeps m r p0) : Keeps m r (@lookAtExcess p0 p1) := by
  unfold lookAtExcess
  refine keeps_ite ?_ ?_
  · exact h0_
  · extract_lets -lift -merge -underBinder now_1 fresh_2 start_3 __src_4 s_5 hold_6 late_7
    try clear_value now_1
    try clear_value fresh_2
    try clear_value start_3
    try clear_value hold_6
    try clear_value late_7
    have h_s_5 : Keeps m r s_5 := by
      unfold s_5
      exact keeps_pwr h0_ (sub_trans rfl hm)
    try clear_value s_5
    refine keeps_ite ?_ ?_
    · refine throttle_keeps (sub_trans rfl hm) h_s_5
    · exact h_s_5

theorem showCapLevel_keeps {m : Nat} {r : State} {p0 : State} (hm : 4 &&& m = 4) (h0_ : Keeps m r p0) : Keeps m r (@showCapLevel p0) := by
  unfold showCapLevel
  extract_lets -lift -merge -underBinder cl_1
  try clear_value cl_1
  refine State_wr_keeps (sub_trans rfl hm) ?_
  · refine State_wr_keeps (sub_trans rfl hm) h0_

theorem averageRefresh_keeps {m : Nat} {r : State} {p0 : State} (hm : 16388 &&& m = 16388) (h0_ : Keeps m r p0) : Keeps m r (@averageRefresh p0) := by
  unfold averageRefresh
  refine keeps_ite ?_ ?_
  · exact h0_
  · extract_lets -lift -merge -underBinder bs_1 n_2 slots_3 hub_4 aux_5 parts_6 __src_7 s_8 s_9 s_10 s_11
    try clear_value bs_1
    try clear_value n_2
    try clear_value slots_3
    try clear_value hub_4
    try clear_value aux_5
    try clear_value parts_6
    have h_s_8 : Keeps m r s_8 := by
      unfold s_8
      exact keeps_pwr h0_ (sub_trans rfl hm)
    try clear_value s_8
    have h_s_9 : Keeps m r s_9 := by
      unfold s_9
      refine State_wr_keeps (sub_trans rfl hm) h_s_8
    try clear_value s_9
    have h_s_10 : Keeps m r s_10 := by
      unfold s_10
      refine keeps_foldl h_s_9 ?_
      · intro t_12 x_13 h_14
        refine State_wr_keeps (sub_trans rfl hm) ?_
        · refine State_wr_keeps (sub_trans rfl hm) h_14
    try clear_value s_10
    have h_s_11 : Keeps m r s_11 := by
      unfold s_11
      refine notePeak_keeps (sub_trans rfl hm) h_s_10
    try clear_value s_11
    refine lookAtExcess_keeps (sub_trans rfl hm) ?_
    · refine keeps_ite ?_ ?_
      · refine showCapLevel_keeps (sub_trans rfl hm) h_s_11
      · exact h_s_11

theorem releaseWrites_keeps {m : Nat} {r : State} {p0 : State} {p1} (hm : 16 &&& m = 16) (h0_ : Keeps m r p0) : Keeps m r (@releaseWrites p0 p1) := by
  unfold releaseWrites
  split
  · exact h0_
  · refine profileWrites_keeps (sub_trans rfl hm) h0_

theorem powerStepMark_keeps {m : Nat} {r : State} {p0 : State} (hm : 16400 &&& m = 16400) (h0_ : Keeps m r p0) : Keeps m r (@powerStepMark p0).1 := by
  unfold powerStepMark
  extract_lets -lift -merge -underBinder s_1 held_2 g_3 clear_4 __src_5 s_6
  try clear_value held_2
  try clear_value g_3
  try clear_value clear_4
  have h_s_1 : Keeps m r s_1 := by
    unfold s_1
    refine keeps_foldl h0_ ?_
    · intro t_7 x_8 h_9
      refine releaseWrites_keeps (sub_trans rfl hm) h_9
  try clear_value s_1
  have h_s_6 : Keeps m r s_6 := by
    unfold s_6
    exact keeps_pwr h_s_1 (sub_trans rfl hm)
  try clear_value s_6
  exact keeps_fst h_s_6

theorem capDutyStep_keeps {m : Nat} {r : State} {p0 : State} (hm : 16388 &&& m = 16388) (h0_ : Keeps m r p0) : Keeps m r (@capDutyStep p0) := by
  unfold capDutyStep
  refine keeps_ite ?_ ?_
  · exact h0_
  · extract_lets -lift -merge -underBinder tray_1 excess_2 __src_3 s_4 s_5 low_6 since_7 rise_8 __src_9 s_10
    try clear_value tray_1
    try clear_value excess_2
    try clear_value low_6
    try clear_value since_7
    try clear_value rise_8
    have h_s_4 : Keeps m r s_4 := by
      unfold s_4
      exact keeps_pwr h0_ (sub_trans rfl hm)
    try clear_value s_4
    have h_s_5 : Keeps m r s_5 := by
      unfold s_5
      refine keeps_ite ?_ ?_
      · exact h0_
      · refine State_wr_keeps (sub_trans rfl hm) ?_
        · refine State_wr_keeps (sub_trans rfl hm) h0_
    try clear_value s_5
    have h_s_10 : Keeps m r s_10 := by
      unfold s_10
      exact keeps_pwr h_s_5 (sub_trans rfl hm)
    try clear_value s_10
    refine keeps_ite ?_ ?_
    · refine refreshDuty_keeps (sub_trans rfl hm) ?_
      · refine enterLagging_keeps (sub_trans rfl hm) ?_
        · refine stepDown_keeps (sub_trans rfl hm) h_s_4
    · refine keeps_ite ?_ ?_
      · exact h_s_10
      · refine refreshDuty_keeps (sub_trans rfl hm) ?_
        · refine keeps_foldl h_s_10 ?_
          · intro t_11 x_12 h_13
            refine State_modSlotPower_keeps (sub_trans rfl hm) h_13

theorem capUnmet_keeps {m : Nat} {r : State} {p0 : State} (hm : 4210708 &&& m = 4210708) (h0_ : Keeps m r p0) : Keeps m r (@capUnmet p0) := by
  unfold capUnmet
  extract_lets -lift -merge -underBinder due_1 short_2 __src_3 s_4 s_5 s_6
  try clear_value due_1
  try clear_value short_2
  have h_s_4 : Keeps m r s_4 := by
    unfold s_4
    exact keeps_pwr h0_ (sub_trans rfl hm)
  try clear_value s_4
  have h_s_5 : Keeps m r s_5 := by
    unfold s_5
    refine State_wr_keeps (sub_trans rfl hm) ?_
    · refine State_wr_keeps (sub_trans rfl hm) ?_
      · refine State_bump_keeps (sub_trans rfl hm) h_s_4
  try clear_value s_5
  have h_s_6 : Keeps m r s_6 := by
    unfold s_6
    refine State_wr_keeps (sub_trans rfl hm) h_s_5
  try clear_value s_6
  refine keeps_ite ?_ ?_
  · refine State_notify_keeps (sub_trans rfl hm) h_s_6
  · exact h0_

theorem energyAttribute_keeps {m : Nat} {r : State} {p0 : State} (hm : 16392 &&& m = 16392) (h0_ : Keeps m r p0) : Keeps m r (@energyAttribute p0) := by
  unfold energyAttribute
  extract_lets -lift -merge -underBinder e_1 moved_2 counts_3 live_4 w_5 t_6 __src_7 s_8 __src_9 shares_10 big_11 shares_12 __src_13 s_14
  try clear_value e_1
  try clear_value moved_2
  try clear_value counts_3
  try clear_value live_4
  try clear_value w_5
  try clear_value t_6
  try clear_value shares_10
  try clear_value big_11
  try clear_value shares_12
  have h_s_8 : Keeps m r s_8 := by
    unfold s_8
    exact keeps_pwr h0_ (sub_trans rfl hm)
  try clear_value s_8
  have h_s_14 : Keeps m r s_14 := by
    unfold s_14
    exact keeps_pwr h_s_8 (sub_trans rfl hm)
  try clear_value s_14
  refine keeps_ite ?_ ?_
  · exact keeps_pwr h_s_8 (sub_trans rfl hm)
  · refine keeps_foldl h_s_14 ?_
    · intro t_15 x_16 h_17
      refine State_addWide_keeps (sub_trans rfl hm) h_17

theorem writeCore_keeps {m : Nat} {r : State} {p0 : State} {p1} {p2} (hm : 16400 &&& m = 16400) (h0_ : Keeps m r p0) : Keeps m r (@writeCore p0 p1 p2) := by
  unfold writeCore
  refine keeps_ite ?_ ?_
  · exact h0_
  · refine State_emit_keeps (sub_trans rfl hm) ?_
    · refine State_modSlotPower_keeps (sub_trans rfl hm) h0_

theorem takeGaugeResult_keeps {m : Nat} {r : State} {p0 : State} {p1} {p2} (hm : 8406036 &&& m = 8406036) (h0_ : Keeps m r p0) : Keeps m r (@takeGaugeResult p0 p1 p2) := by
  unfold takeGaugeResult
  extract_lets -lift -merge -underBinder hubs_1 res_2 act_3 ann_4 lost_5 g_6 __src_7 __src_8 s_9 s_10 s_11
  try clear_value hubs_1
  try clear_value res_2
  try clear_value act_3
  try clear_value ann_4
  try clear_value lost_5
  try clear_value g_6
  have h_s_9 : Keeps m r s_9 := by
    unfold s_9
    exact keeps_mk (b := 17408) h0_ (sub_trans rfl hm) (by intro p hp; cases p <;> first | rfl | cases hp) rfl rfl rfl rfl rfl rfl rfl
  try clear_value s_9
  have h_s_10 : Keeps m r s_10 := by
    unfold s_10
    refine State_wr_keeps (sub_trans rfl hm) ?_
    · refine State_wr_keeps (sub_trans rfl hm) ?_
      · refine State_wr_keeps (sub_trans rfl hm) h_s_9
  try clear_value s_10
  have h_s_11 : Keeps m r s_11 := by
    unfold s_11
    refine keeps_ite ?_ ?_
    · refine State_event_keeps (sub_trans rfl hm) h_s_10
    · exact h_s_10
  try clear_value s_11
  refine keeps_ite ?_ ?_
  · refine keeps_foldl h_s_11 ?_
    · intro t_12 x_13 h_14
      refine writeCore_keeps (sub_trans rfl hm) h_14
  · exact h_s_11

theorem gaugeApply_keeps {m : Nat} {r : State} {p0 : State} (hm : 16404 &&& m = 16404) (h0_ : Keeps m r p0) : Keeps m r (@gaugeApply p0) := by
  unfold gaugeApply
  split
  · exact h0_
  · refine keeps_ite ?_ ?_
    · exact h0_
    · extract_lets -lift -merge -underBinder old_1 __src_2 s_3 s_4 s_5 s_6 hold_7 __src_8 s_9 s_10 fits_11 s_12
      try clear_value old_1
      try clear_value hold_7
      try clear_value fits_11
      have h_s_3 : Keeps m r s_3 := by
        unfold s_3
        exact keeps_pwr h0_ (sub_trans rfl hm)
      try clear_value s_3
      have h_s_4 : Keeps m r s_4 := by
        unfold s_4
        refine State_wr_keeps (sub_trans rfl hm) h_s_3
      try clear_value s_4
      have h_s_5 : Keeps m r s_5 := by
        unfold s_5
        refine keeps_foldl h_s_4 ?_
        · intro t_13 x_14 h_15
          refine State_modSlotPower_keeps (sub_trans rfl hm) h_15
      try clear_value s_5
      have h_s_6 : Keeps m r s_6 := by
        unfold s_6
        refine keeps_foldl h_s_5 ?_
        · intro t_16 x_17 h_18
          refine keeps_ite ?_ ?_
          · exact h_18
          · refine writeCore_keeps (sub_trans rfl hm) h_18
      try clear_value s_6
      have h_s_9 : Keeps m r s_9 := by
        unfold s_9
        exact keeps_pwr h_s_6 (sub_trans rfl hm)
      try clear_value s_9
      have h_s_10 : Keeps m r s_10 := by
        unfold s_10
        refine keeps_ite ?_ ?_
        · exact h_s_9
        · refine enterLagging_keeps (sub_trans rfl hm) h_s_9
      try clear_value s_10
      have h_s_12 : Keeps m r s_12 := by
        unfold s_12
        refine keeps_ite ?_ ?_
        · refine keeps_foldl h_s_10 ?_
          · intro t_19 x_20 h_21
            refine State_modSlotPower_keeps (sub_trans rfl hm) h_21
        · exact h_s_10
      try clear_value s_12
      refine refreshDuty_keeps (sub_trans rfl hm) h_s_12

theorem gaugeMismatch_keeps {m : Nat} {r : State} {p0} {p1 : State} (hm : 12861460 &&& m = 12861460) (h1_ : Keeps m r p1) : Keeps m r (@gaugeMismatch p0 p1) := by
  unfold gaugeMismatch
  extract_lets -lift -merge -underBinder x_1
  try clear_value x_1
  refine keeps_ite ?_ ?_
  · refine State_err_keeps (sub_trans rfl hm) ?_
    · refine State_modSlotPower_keeps (sub_trans rfl hm) h1_
  · exact h1_

theorem pinAtGauge_keeps {m : Nat} {r : State} {p0 : State} (hm : 8388612 &&& m = 8388612) (h0_ : Keeps m r p0) : Keeps m r (@pinAtGauge p0) := by
  unfold pinAtGauge
  refine keeps_ite ?_ ?_
  · refine State_wr_keeps (sub_trans rfl hm) h0_
  · refine refreshPin_keeps (sub_trans rfl hm) h0_

theorem gaugeTrigger_keeps {m : Nat} {r : State} {p0 : State} {p1} (hm : 8406020 &&& m = 8406020) (h0_ : Keeps m r p0) : Keeps m r (@gaugeTrigger p0 p1) := by
  unfold gaugeTrigger
  extract_lets -lift -merge -underBinder s_1 req_2 s_3 __src_4 __src_5 s_6
  try clear_value req_2
  have h_s_1 : Keeps m r s_1 := by
    unfold s_1
    refine pinAtGauge_keeps (sub_trans rfl hm) h0_
  try clear_value s_1
  have h_s_3 : Keeps m r s_3 := by
    unfold s_3
    refine showCapLevel_keeps (sub_trans rfl hm) h_s_1
  try clear_value s_3
  have h_s_6 : Keeps m r s_6 := by
    unfold s_6
    exact keeps_mk (b := 17408) h_s_3 (sub_trans rfl hm) (by intro p hp; cases p <;> first | rfl | cases hp) rfl rfl rfl rfl rfl rfl rfl
  try clear_value s_6
  refine State_wr_keeps (sub_trans rfl hm) h_s_6

theorem guardDutyStep_keeps {m : Nat} {r : State} {p0 : State} (hm : 16388 &&& m = 16388) (h0_ : Keeps m r p0) : Keeps m r (@guardDutyStep p0) := by
  unfold guardDutyStep
  extract_lets -lift -merge -underBinder st_1 __src_2 s_3 t_4 __src_5 s_6 t_7 __src_8 __src_9 s_10 __src_11
  try clear_value st_1
  try clear_value t_4
  try clear_value t_7
  have h_s_3 : Keeps m r s_3 := by
    unfold s_3
    exact keeps_pwr h0_ (sub_trans rfl hm)
  try clear_value s_3
  have h_s_6 : Keeps m r s_6 := by
    unfold s_6
    exact keeps_pwr h_s_3 (sub_trans rfl hm)
  try clear_value s_6
  have h_s_10 : Keeps m r s_10 := by
    unfold s_10
    exact keeps_pwr h_s_3 (sub_trans rfl hm)
  try clear_value s_10
  refine keeps_ite ?_ ?_
  · exact h0_
  · refine keeps_ite ?_ ?_
    · refine keeps_ite ?_ ?_
      · exact h_s_6
      · refine refreshDuty_keeps (sub_trans rfl hm) ?_
        · refine keeps_foldl h_s_6 ?_
          · intro t_12 x_13 h_14
            refine State_modSlotPower_keeps (sub_trans rfl hm) h_14
    · refine keeps_ite ?_ ?_
      · refine keeps_ite ?_ ?_
        · exact keeps_pwr h_s_3 (sub_trans rfl hm)
        · refine refreshDuty_keeps (sub_trans rfl hm) ?_
          · refine keeps_foldl h_s_10 ?_
            · intro t_15 x_16 h_17
              refine State_modSlotPower_keeps (sub_trans rfl hm) h_17
      · exact keeps_pwr h_s_3 (sub_trans rfl hm)

theorem hubAllowance_keeps {m : Nat} {r : State} {p0 : State} (hm : 4 &&& m = 4) (h0_ : Keeps m r p0) : Keeps m r (@hubAllowance p0) := by
  unfold hubAllowance
  refine keeps_ite ?_ ?_
  · refine State_wr_keeps (sub_trans rfl hm) h0_
  · exact h0_

theorem takePowerTable_keeps {m : Nat} {r : State} {p0 : State} {p1} {p2} (hm : 12861460 &&& m = 12861460) (h0_ : Keeps m r p0) : Keeps m r (@takePowerTable p0 p1 p2) := by
  unfold takePowerTable
  extract_lets -lift -merge -underBinder s_1
  have h_s_1 : Keeps m r s_1 := by
    unfold s_1
    refine State_modSlotPower_keeps (sub_trans rfl hm) h0_
  try clear_value s_1
  split
  · refine State_err_keeps (sub_trans rfl hm) h_s_1
  · split
    · refine State_err_keeps (sub_trans rfl hm) h_s_1
    · exact h_s_1

theorem ksCalibrate_keeps {m : Nat} {r : State} {p0} {p1} {p2 : State} (hm : 16388 &&& m = 16388) (h2_ : Keeps m r p2) : Keeps m r (@ksCalibrate p0 p1 p2) := by
  unfold ksCalibrate
  refine keeps_ite ?_ ?_
  · exact h2_
  · extract_lets -lift -merge -underBinder x_1 e_2 s_3
    try clear_value x_1
    try clear_value e_2
    have h_s_3 : Keeps m r s_3 := by
      unfold s_3
      refine State_modSlotPower_keeps (sub_trans rfl hm) h2_
    try clear_value s_3
    split
    · exact h_s_3
    · refine keeps_ite ?_ ?_
      · exact h_s_3
      · extract_lets -lift -merge -underBinder k_4 k_5
        try clear_value k_4
        try clear_value k_5
        refine State_wr_keeps (sub_trans rfl hm) ?_
        · refine State_modSlotPower_keeps (sub_trans rfl hm) h_s_3

theorem powerReleaseWrites_keeps {m : Nat} {r : State} {p0 : State} (hm : 49172 &&& m = 49172) (h0_ : Keeps m r p0) : Keeps m r (@powerReleaseWrites p0) := by
  unfold powerReleaseWrites
  refine keeps_ite ?_ ?_
  · exact h0_
  · extract_lets -lift -merge -underBinder s_1 due_2 __src_3 s_4
    try clear_value due_2
    have h_s_1 : Keeps m r s_1 := by
      unfold s_1
      refine hintsDue_keeps (sub_trans rfl hm) h0_
    try clear_value s_1
    have h_s_4 : Keeps m r s_4 := by
      unfold s_4
      exact keeps_pwr h_s_1 (sub_trans rfl hm)
    try clear_value s_4
    refine keeps_foldl h_s_4 ?_
    · intro t_5 x_6 h_7
      refine releaseWrites_keeps (sub_trans rfl hm) h_7

theorem powerResumes_keeps {m : Nat} {r : State} {p0 : State} (hm : 16404 &&& m = 16404) (h0_ : Keeps m r p0) : Keeps m r (@powerResumes p0) := by
  unfold powerResumes
  extract_lets -lift -merge -underBinder s_1 s_2 __src_3
  have h_s_1 : Keeps m r s_1 := by
    unfold s_1
    refine keeps_foldl h0_ ?_
    · intro t_4 x_5 h_6
      refine writeCore_keeps (sub_trans rfl hm) h_6
  try clear_value s_1
  have h_s_2 : Keeps m r s_2 := by
    unfold s_2
    refine keeps_foldl h_s_1 ?_
    · intro t_7 x_8 h_9
      refine State_modSlotPower_keeps (sub_trans rfl hm) h_9
  try clear_value s_2
  refine refreshDuty_keeps (sub_trans rfl hm) ?_
  · refine refreshCaps_keeps (sub_trans rfl hm) ?_
    · exact keeps_pwr h_s_2 (sub_trans rfl hm)

theorem powerRow_keeps {m : Nat} {r : State} {p0 : State} {p1} {p2} {p3} {p4} {p5} (hm : 49172 &&& m = 49172) (h0_ : Keeps m r p0) : Keeps m r (@powerRow p0 p1 p2 p3 p4 p5) := by
  unfold powerRow
  refine keeps_ite ?_ ?_
  · exact h0_
  · extract_lets -lift -merge -underBinder s_1 s_2
    have h_s_1 : Keeps m r s_1 := by
      unfold s_1
      refine keeps_ite ?_ ?_
      · refine prePosition_keeps (sub_trans rfl hm) h0_
      · exact h0_
    try clear_value s_1
    have h_s_2 : Keeps m r s_2 := by
      unfold s_2
      refine keeps_ite ?_ ?_
      · refine startRamp_keeps (sub_trans rfl hm) h_s_1
      · exact h_s_1
    try clear_value s_2
    refine keeps_ite ?_ ?_
    · refine scheduleLoad_keeps (sub_trans rfl hm) h_s_2
    · exact h_s_2

theorem rampWindowEnd_keeps {m : Nat} {r : State} {p0 : State} (hm : 16388 &&& m = 16388) (h0_ : Keeps m r p0) : Keeps m r (@rampWindowEnd p0) := by
  unfold rampWindowEnd
  split
  · refine keeps_ite ?_ ?_
    · refine refreshDuty_keeps (sub_trans rfl hm) ?_
      · exact keeps_pwr h0_ (sub_trans rfl hm)
    · exact h0_
  · refine keeps_ite ?_ ?_
    · refine refreshDuty_keeps (sub_trans rfl hm) ?_
      · exact keeps_pwr h0_ (sub_trans rfl hm)
    · exact h0_

theorem rampLimiterTick_keeps {m : Nat} {r : State} {p0 : State} (hm : 16388 &&& m = 16388) (h0_ : Keeps m r p0) : Keeps m r (@rampLimiterTick p0) := by
  unfold rampLimiterTick
  split
  · exact h0_
  · refine keeps_ite ?_ ?_
    · refine rampWindowEnd_keeps (sub_trans rfl hm) h0_
    · extract_lets -lift -merge -underBinder c_1 a_2 __src_3 s_4 __src_5 __src_6
      try clear_value c_1
      try clear_value a_2
      have h_s_4 : Keeps m r s_4 := by
        unfold s_4
        exact keeps_pwr h0_ (sub_trans rfl hm)
      try clear_value s_4
      refine keeps_ite ?_ ?_
      · refine keeps_ite ?_ ?_
        · exact h_s_4
        · refine refreshDuty_keeps (sub_trans rfl hm) ?_
          · exact keeps_pwr h_s_4 (sub_trans rfl hm)
      · refine keeps_ite ?_ ?_
        · refine refreshDuty_keeps (sub_trans rfl hm) ?_
          · exact keeps_pwr h_s_4 (sub_trans rfl hm)
        · exact h_s_4

theorem slowPeriod_keeps {m : Nat} {r : State} {p0 : State} (hm : 16388 &&& m = 16388) (h0_ : Keeps m r p0) : Keeps m r (@slowPeriod p0) := by
  unfold slowPeriod
  refine keeps_ite ?_ ?_
  · exact h0_
  · extract_lets -lift -merge -underBinder __src_1 s_2
    have h_s_2 : Keeps m r s_2 := by
      unfold s_2
      exact keeps_pwr h0_ (sub_trans rfl hm)
    try clear_value s_2
    refine refreshDuty_keeps (sub_trans rfl hm) ?_
    · refine State_wr_keeps (sub_trans rfl hm) h_s_2

theorem throttleHoldExpire_keeps {m : Nat} {r : State} {p0 : State} (hm : 16388 &&& m = 16388) (h0_ : Keeps m r p0) : Keeps m r (@throttleHoldExpire p0) := by
  unfold throttleHoldExpire
  extract_lets -lift -merge -underBinder hold_1
  try clear_value hold_1
  refine keeps_ite ?_ ?_
  · refine throttle_keeps (sub_trans rfl hm) h0_
  · exact h0_

theorem trayEstimate_keeps {m : Nat} {r : State} {p0 : State} (hm : 16396 &&& m = 16396) (h0_ : Keeps m r p0) : Keeps m r (@trayEstimate p0) := by
  unfold trayEstimate
  extract_lets -lift -merge -underBinder now_1 subs_2 hub_3 a_4 acc_5 __src_6 s_7 s_8 s_9
  try clear_value now_1
  try clear_value subs_2
  try clear_value hub_3
  try clear_value a_4
  try clear_value acc_5
  have h_s_7 : Keeps m r s_7 := by
    unfold s_7
    exact keeps_pwr h0_ (sub_trans rfl hm)
  try clear_value s_7
  have h_s_8 : Keeps m r s_8 := by
    unfold s_8
    refine keeps_foldl h_s_7 ?_
    · intro t_10 x_11 h_12
      extract_lets -lift -merge -underBinder s_13 s_14
      have h_s_13 : Keeps m r s_13 := by
        unfold s_13
        refine State_modSlotPower_keeps (sub_trans rfl hm) h_12
      try clear_value s_13
      have h_s_14 : Keeps m r s_14 := by
        unfold s_14
        refine keeps_ite ?_ ?_
        · refine addSlotEnergy_keeps (sub_trans rfl hm) h_s_13
        · exact h_s_13
      try clear_value s_14
      refine State_wr_keeps (sub_trans rfl hm) ?_
      · refine State_wr_keeps (sub_trans rfl hm) h_s_14
  try clear_value s_8
  have h_s_9 : Keeps m r s_9 := by
    unfold s_9
    refine State_wr_keeps (sub_trans rfl hm) h_s_8
  try clear_value s_9
  refine State_wr_keeps (sub_trans rfl hm) ?_
  · refine addHubEnergy_keeps (sub_trans rfl hm) h_s_9

theorem voltageConfirm_keeps {m : Nat} {r : State} {p0} {p1} {p2 : State} (hm : 16388 &&& m = 16388) (h2_ : Keeps m r p2) : Keeps m r (@voltageConfirm p0 p1 p2) := by
  unfold voltageConfirm
  split
  · exact h2_
  · extract_lets -lift -merge -underBinder v_1 s_2 __src_3 s_4
    try clear_value v_1
    have h_s_2 : Keeps m r s_2 := by
      unfold s_2
      refine State_modSlotPower_keeps (sub_trans rfl hm) h2_
    try clear_value s_2
    have h_s_4 : Keeps m r s_4 := by
      unfold s_4
      refine keeps_ite ?_ ?_
      · exact h_s_2
      · exact keeps_pwr h_s_2 (sub_trans rfl hm)
    try clear_value s_4
    refine keeps_ite ?_ ?_
    · exact h2_
    · refine clearLagging_keeps (sub_trans rfl hm) h_s_4

theorem voltageCutWrite_keeps {m : Nat} {r : State} {p0 : State} (hm : 16400 &&& m = 16400) (h0_ : Keeps m r p0) : Keeps m r (@voltageCutWrite p0) := by
  unfold voltageCutWrite
  split
  · exact h0_
  · refine keeps_ite ?_ ?_
    · exact h0_
    · refine keeps_foldl ?_ ?_
      · exact keeps_pwr h0_ (sub_trans rfl hm)
      · intro t_1 x_2 h_3
        refine writeCore_keeps (sub_trans rfl hm) h_3

/-! ## Shares -/

theorem settleBuckets_keeps {m : Nat} {r : State} {p0 : State} (hm : 2048 &&& m = 2048) (h0_ : Keeps m r p0) : Keeps m r (@settleBuckets p0) := by
  unfold settleBuckets
  exact keeps_mem h0_ (sub_trans rfl hm) rfl

theorem spend_keeps {m : Nat} {r : State} {p0 : State} {p1} (hm : 2048 &&& m = 2048) (h0_ : Keeps m r p0) : Keeps m r (@spend p0 p1) := by
  unfold spend
  exact keeps_mem h0_ (sub_trans rfl hm) rfl

/-! ## Governor -/

theorem refreshShares_keeps {m : Nat} {r : State} {p0 : State} {p1} (hm : 2052 &&& m = 2052) (h0_ : Keeps m r p0) : Keeps m r (@refreshShares p0 p1) := by
  unfold refreshShares
  refine keeps_ite ?_ ?_
  · exact h0_
  · split
    · extract_lets -lift -merge -underBinder s_1
      have h_s_1 : Keeps m r s_1 := by
        unfold s_1
        refine State_wr_keeps (sub_trans rfl hm) ?_
        · refine State_wr_keeps (sub_trans rfl hm) ?_
          · refine settleBuckets_keeps (sub_trans rfl hm) h0_
      try clear_value s_1
      refine State_wr_keeps (sub_trans rfl hm) ?_
      · refine State_wr_keeps (sub_trans rfl hm) h_s_1

theorem governorEstimate_keeps {m : Nat} {r : State} {p0} {p1} {p2 : State} (hm : 2116 &&& m = 2116) (h2_ : Keeps m r p2) : Keeps m r (@governorEstimate p0 p1 p2) := by
  unfold governorEstimate
  refine keeps_ite ?_ ?_
  · exact h2_
  · extract_lets -lift -merge -underBinder e_1 half_2 s_3
    try clear_value e_1
    try clear_value half_2
    have h_s_3 : Keeps m r s_3 := by
      unfold s_3
      refine State_modDie_keeps (sub_trans rfl hm) h2_
    try clear_value s_3
    refine keeps_ite ?_ ?_
    · split
      · extract_lets -lift -merge -underBinder shareFree_4 s_5 floors_6 s_7
        try clear_value shareFree_4
        try clear_value floors_6
        have h_s_5 : Keeps m r s_5 := by
          unfold s_5
          refine State_modDie_keeps (sub_trans rfl hm) h_s_3
        try clear_value s_5
        have h_s_7 : Keeps m r s_7 := by
          unfold s_7
          refine State_modDie_keeps (sub_trans rfl hm) h_s_5
        try clear_value s_7
        refine refreshShares_keeps (sub_trans rfl hm) h_s_7
    · refine State_modDie_keeps (sub_trans rfl hm) h_s_3

theorem governorRelease_keeps {m : Nat} {r : State} {p0} {p1 : State} (hm : 2116 &&& m = 2116) (h1_ : Keeps m r p1) : Keeps m r (@governorRelease p0 p1) := by
  unfold governorRelease
  extract_lets -lift -merge -underBinder x_1
  try clear_value x_1
  split
  · exact h1_
  · refine keeps_ite ?_ ?_
    · exact h1_
    · extract_lets -lift -merge -underBinder s_2
      have h_s_2 : Keeps m r s_2 := by
        unfold s_2
        refine State_modDie_keeps (sub_trans rfl hm) h1_
      try clear_value s_2
      refine refreshShares_keeps (sub_trans rfl hm) h_s_2

theorem governorRescale_keeps {m : Nat} {r : State} {p0} {p1} {p2 : State} (hm : 16448 &&& m = 16448) (h2_ : Keeps m r p2) : Keeps m r (@governorRescale p0 p1 p2) := by
  unfold governorRescale
  refine keeps_ite ?_ ?_
  · exact h2_
  · extract_lets -lift -merge -underBinder __src_1 s_2 x_3
    try clear_value x_3
    have h_s_2 : Keeps m r s_2 := by
      unfold s_2
      exact keeps_pwr h2_ (sub_trans rfl hm)
    try clear_value s_2
    refine keeps_ite ?_ ?_
    · refine State_modDie_keeps (sub_trans rfl hm) h_s_2
    · exact h_s_2

theorem packageLimitClear_keeps {m : Nat} {r : State} {p0} {p1 : State} (hm : 64 &&& m = 64) (h1_ : Keeps m r p1) : Keeps m r (@packageLimitClear p0 p1) := by
  unfold packageLimitClear
  extract_lets -lift -merge -underBinder x_1
  try clear_value x_1
  split
  · exact h1_
  · refine keeps_ite ?_ ?_
    · refine State_modDie_keeps (sub_trans rfl hm) h1_
    · exact h1_

theorem packageLimitUnmet_keeps {m : Nat} {r : State} {p0} {p1 : State} (hm : 12845140 &&& m = 12845140) (h1_ : Keeps m r p1) : Keeps m r (@packageLimitUnmet p0 p1) := by
  unfold packageLimitUnmet
  extract_lets -lift -merge -underBinder x_1
  try clear_value x_1
  split
  · exact h1_
  · refine keeps_ite ?_ ?_
    · exact h1_
    · refine State_err_keeps (sub_trans rfl hm) ?_
      · refine State_modDie_keeps (sub_trans rfl hm) h1_

end Sys2Proof.Laws
end

