-- ==== Sys2Proof/Laws/Keeps4.lean ====
section
/-! SUPPORT. What the operations of Cooling, Firmware, GroupTime, Leak keep (the relation `Keeps`): of each, that it passes on the relation of the
state it is given, where the parts it writes are among those named. -/
namespace Sys2Proof.Laws
open Sys2Proof.Machine

/-! ## Cooling -/

theorem State_modSensor_keeps {m : Nat} {r : State} {p0 : State} {p1} {p2} (hm : 32768 &&& m = 32768) (h0_ : Keeps m r p0) : Keeps m r (@State.modSensor p0 p1 p2) := by
  unfold State.modSensor
  exact keeps_cool h0_ (sub_trans rfl hm)

theorem accTempRead_keeps {m : Nat} {r : State} {p0} {p1} {p2 : State} (hm : 32772 &&& m = 32772) (h2_ : Keeps m r p2) : Keeps m r (@accTempRead p0 p1 p2) := by
  unfold accTempRead
  refine keeps_ite ?_ ?_
  · exact h2_
  · split
    · extract_lets -lift -merge -underBinder __src_1 s_2
      have h_s_2 : Keeps m r s_2 := by
        unfold s_2
        exact keeps_cool h2_ (sub_trans rfl hm)
      try clear_value s_2
      refine State_wr_keeps (sub_trans rfl hm) ?_
      · refine State_wr_keeps (sub_trans rfl hm) h_s_2
    · extract_lets -lift -merge -underBinder n_3 fresh_4 __src_5 s_6 s_7
      try clear_value n_3
      try clear_value fresh_4
      have h_s_6 : Keeps m r s_6 := by
        unfold s_6
        exact keeps_cool h2_ (sub_trans rfl hm)
      try clear_value s_6
      have h_s_7 : Keeps m r s_7 := by
        unfold s_7
        refine State_wr_keeps (sub_trans rfl hm) h_s_6
      try clear_value s_7
      refine keeps_ite ?_ ?_
      · exact h_s_6
      · split
        · refine State_wr_keeps (sub_trans rfl hm) h_s_7
        · refine keeps_ite ?_ ?_
          · refine State_wr_keeps (sub_trans rfl hm) h_s_7
          · exact h_s_7

theorem wakeFans_keeps {m : Nat} {r : State} {p0 : State} (hm : 32772 &&& m = 32772) (h0_ : Keeps m r p0) : Keeps m r (@wakeFans p0) := by
  unfold wakeFans
  refine keeps_foldl h0_ ?_
  · intro t_1 x_2 h_3
    refine keeps_ite ?_ ?_
    · refine startFan_keeps (sub_trans rfl hm) h_3
    · exact h_3

theorem drivePins_keeps {m : Nat} {r : State} {p0 : State} (hm : 32772 &&& m = 32772) (h0_ : Keeps m r p0) : Keeps m r (@drivePins p0) := by
  unfold drivePins
  extract_lets -lift -merge -underBinder s_1 row_2 s_3 s_4 raising_5
  try clear_value row_2
  try clear_value raising_5
  have h_s_1 : Keeps m r s_1 := by
    unfold s_1
    refine wakeFans_keeps (sub_trans rfl hm) h0_
  try clear_value s_1
  have h_s_3 : Keeps m r s_3 := by
    unfold s_3
    refine keeps_foldl h_s_1 ?_
    · intro t_6 x_7 h_8
      refine State_wr_keeps (sub_trans rfl hm) ?_
      · refine State_wr_keeps (sub_trans rfl hm) h_8
  try clear_value s_3
  have h_s_4 : Keeps m r s_4 := by
    unfold s_4
    refine keeps_foldl h_s_3 ?_
    · intro t_9 x_10 h_11
      extract_lets -lift -merge -underBinder p_12
      try clear_value p_12
      refine State_wr_keeps (sub_trans rfl hm) ?_
      · refine State_wr_keeps (sub_trans rfl hm) h_11
  try clear_value s_4
  refine State_wr_keeps (sub_trans rfl hm) h_s_4

theorem accThermtrip_keeps {m : Nat} {r : State} {p0} {p1 : State} (hm : 1425850332 &&& m = 1425850332) (h1_ : Keeps m r p1) : Keeps m r (@accThermtrip p0 p1) := by
  unfold accThermtrip
  refine keeps_ite ?_ ?_
  · exact h1_
  · extract_lets -lift -merge -underBinder __src_1 s_2 __src_3 s_4 s_5 s_6
    have h_s_2 : Keeps m r s_2 := by
      unfold s_2
      refine cutSlots_keeps (sub_trans rfl hm) ?_
      · exact keeps_pin h1_ (sub_trans rfl hm)
    try clear_value s_2
    have h_s_4 : Keeps m r s_4 := by
      unfold s_4
      exact keeps_cool h_s_2 (sub_trans rfl hm)
    try clear_value s_4
    have h_s_5 : Keeps m r s_5 := by
      unfold s_5
      refine State_wr_keeps (sub_trans rfl hm) ?_
      · refine State_bump_keeps (sub_trans rfl hm) h_s_4
    try clear_value s_5
    have h_s_6 : Keeps m r s_6 := by
      unfold s_6
      refine State_err_keeps (sub_trans rfl hm) ?_
      · refine State_event_keeps (sub_trans rfl hm) h_s_5
    try clear_value s_6
    refine drivePins_keeps (sub_trans rfl hm) h_s_6

theorem setMode_keeps {m : Nat} {r : State} {p0 : State} {p1} (hm : 4 &&& m = 4) (h0_ : Keeps m r p0) : Keeps m r (@setMode p0 p1) := by
  unfold setMode
  extract_lets -lift -merge -underBinder m_1 old_2 m_3
  try clear_value m_1
  try clear_value old_2
  try clear_value m_3
  refine State_wr_keeps (sub_trans rfl hm) ?_
  · refine State_wr_keeps (sub_trans rfl hm) h0_

theorem refreshCoolFlags_keeps {m : Nat} {r : State} {p0 : State} (hm : 32772 &&& m = 32772) (h0_ : Keeps m r p0) : Keeps m r (@refreshCoolFlags p0) := by
  unfold refreshCoolFlags
  extract_lets -lift -merge -underBinder s_1 s_2 s_3 s_4 s_5
  have h_s_1 : Keeps m r s_1 := by
    unfold s_1
    refine State_wr_keeps (sub_trans rfl hm) h0_
  try clear_value s_1
  have h_s_2 : Keeps m r s_2 := by
    unfold s_2
    refine State_wr_keeps (sub_trans rfl hm) h_s_1
  try clear_value s_2
  have h_s_3 : Keeps m r s_3 := by
    unfold s_3
    refine State_wr_keeps (sub_trans rfl hm) h_s_2
  try clear_value s_3
  have h_s_4 : Keeps m r s_4 := by
    unfold s_4
    refine State_wr_keeps (sub_trans rfl hm) h_s_3
  try clear_value s_4
  have h_s_5 : Keeps m r s_5 := by
    unfold s_5
    refine State_wr_keeps (sub_trans rfl hm) h_s_4
  try clear_value s_5
  refine keeps_ite ?_ ?_
  · refine drivePins_keeps (sub_trans rfl hm) ?_
    · refine State_wr_keeps (sub_trans rfl hm) h_s_5
  · refine drivePins_keeps (sub_trans rfl hm) h_s_5

theorem clearFan_keeps {m : Nat} {r : State} {p0 : State} {p1} (hm : 32772 &&& m = 32772) (h0_ : Keeps m r p0) : Keeps m r (@clearFan p0 p1) := by
  unfold clearFan
  refine keeps_ite ?_ ?_
  · refine refreshCoolFlags_keeps (sub_trans rfl hm) ?_
    · refine startFan_keeps (sub_trans rfl hm) h0_
  · exact h0_

theorem modPump_keeps {m : Nat} {r : State} {p0 : State} {p1} {p2} (hm : 32768 &&& m = 32768) (h0_ : Keeps m r p0) : Keeps m r (@modPump p0 p1 p2) := by
  unfold modPump
  exact keeps_cool h0_ (sub_trans rfl hm)

theorem clearPump_keeps {m : Nat} {r : State} {p0 : State} {p1} (hm : 32772 &&& m = 32772) (h0_ : Keeps m r p0) : Keeps m r (@clearPump p0 p1) := by
  unfold clearPump
  refine keeps_ite ?_ ?_
  · exact h0_
  · refine refreshCoolFlags_keeps (sub_trans rfl hm) ?_
    · refine modPump_keeps (sub_trans rfl hm) ?_
      · refine State_wr_keeps (sub_trans rfl hm) h0_

theorem clearValve_keeps {m : Nat} {r : State} {p0 : State} {p1} (hm : 32772 &&& m = 32772) (h0_ : Keeps m r p0) : Keeps m r (@clearValve p0 p1) := by
  unfold clearValve
  refine refreshCoolFlags_keeps (sub_trans rfl hm) ?_
  · extract_lets -lift -merge -underBinder __src_1 __src_2
    have h___src_1 : Keeps m r __src_1 := by
      unfold __src_1
      refine State_wr_keeps (sub_trans rfl hm) h0_
    try clear_value __src_1
    exact keeps_cool h___src_1 (sub_trans rfl hm)

theorem clearImplausible_keeps {m : Nat} {r : State} {p0 : State} (hm : 4 &&& m = 4) (h0_ : Keeps m r p0) : Keeps m r (@clearImplausible p0) := by
  unfold clearImplausible
  refine setMode_keeps (sub_trans rfl hm) ?_
  · refine State_wr_keeps (sub_trans rfl hm) h0_

theorem clearCooling_keeps {m : Nat} {r : State} {p0 : State} {p1} (hm : 32772 &&& m = 32772) (h0_ : Keeps m r p0) : Keeps m r (@clearCooling p0 p1) := by
  unfold clearCooling
  extract_lets -lift -merge -underBinder s_1 s_2 s_3
  have h_s_1 : Keeps m r s_1 := by
    unfold s_1
    refine keeps_foldl h0_ ?_
    · intro t_4 x_5 h_6
      refine clearFan_keeps (sub_trans rfl hm) h_6
  try clear_value s_1
  have h_s_2 : Keeps m r s_2 := by
    unfold s_2
    refine keeps_foldl h_s_1 ?_
    · intro t_7 x_8 h_9
      refine clearPump_keeps (sub_trans rfl hm) h_9
  try clear_value s_2
  have h_s_3 : Keeps m r s_3 := by
    unfold s_3
    refine keeps_foldl h_s_2 ?_
    · intro t_10 x_11 h_12
      refine clearValve_keeps (sub_trans rfl hm) h_12
  try clear_value s_3
  refine keeps_ite ?_ ?_
  · refine clearImplausible_keeps (sub_trans rfl hm) h_s_3
  · exact h_s_3

theorem checkPlausible_keeps {m : Nat} {r : State} {p0 : State} (hm : 12877844 &&& m = 12877844) (h0_ : Keeps m r p0) : Keeps m r (@checkPlausible p0) := by
  unfold checkPlausible
  extract_lets -lift -merge -underBinder n_1 s_2 fresh_3 __src_4 s_5
  try clear_value n_1
  try clear_value fresh_3
  have h_s_2 : Keeps m r s_2 := by
    unfold s_2
    refine keeps_foldl h0_ ?_
    · intro t_6 x_7 h_8
      refine State_wr_keeps (sub_trans rfl hm) h_8
  try clear_value s_2
  have h_s_5 : Keeps m r s_5 := by
    unfold s_5
    exact keeps_cool h_s_2 (sub_trans rfl hm)
  try clear_value s_5
  refine keeps_ite ?_ ?_
  · exact h0_
  · refine State_err_keeps (sub_trans rfl hm) ?_
    · refine setMode_keeps (sub_trans rfl hm) ?_
      · refine State_wr_keeps (sub_trans rfl hm) h_s_5

theorem compareSensor_keeps {m : Nat} {r : State} {p0 : State} {p1} {p2} {p3} (hm : 32772 &&& m = 32772) (h0_ : Keeps m r p0) : Keeps m r (@compareSensor p0 p1 p2 p3) := by
  unfold compareSensor
  extract_lets -lift -merge -underBinder x_1 t_2 t_3
  try clear_value x_1
  try clear_value t_2
  try clear_value t_3
  refine keeps_ite ?_ ?_
  · refine keeps_ite ?_ ?_
    · refine State_modSensor_keeps (sub_trans rfl hm) h0_
    · refine keeps_ite ?_ ?_
      · refine State_modSensor_keeps (sub_trans rfl hm) ?_
        · refine State_wr_keeps (sub_trans rfl hm) h0_
      · refine State_modSensor_keeps (sub_trans rfl hm) h0_
  · refine keeps_ite ?_ ?_
    · refine State_modSensor_keeps (sub_trans rfl hm) h0_
    · refine keeps_ite ?_ ?_
      · refine State_modSensor_keeps (sub_trans rfl hm) ?_
        · refine State_bump_keeps (sub_trans rfl hm) ?_
          · refine State_wr_keeps (sub_trans rfl hm) h0_
      · refine State_modSensor_keeps (sub_trans rfl hm) h0_

theorem compareAll_keeps {m : Nat} {r : State} {p0 : State} (hm : 32772 &&& m = 32772) (h0_ : Keeps m r p0) : Keeps m r (@compareAll p0) := by
  unfold compareAll
  extract_lets -lift -merge -underBinder temp_1 flow_2
  have h_temp_1 : ∀ a_3, Keeps m r a_3 → ∀ a_4, Keeps m r (temp_1 a_3 a_4) := by
    intro a_3 h_5 a_4
    unfold temp_1
    split
    · exact h_5
    · extract_lets -lift -merge -underBinder d_6
      try clear_value d_6
      refine keeps_ite ?_ ?_
      · refine compareSensor_keeps (sub_trans rfl hm) h_5
      · exact h_5
  have h_flow_2 : ∀ a_7, Keeps m r a_7 → ∀ a_8, Keeps m r (flow_2 a_7 a_8) := by
    intro a_7 h_9 a_8
    unfold flow_2
    split
    · exact h_9
    · extract_lets -lift -merge -underBinder v_10 d_11
      try clear_value v_10
      try clear_value d_11
      refine keeps_ite ?_ ?_
      · refine compareSensor_keeps (sub_trans rfl hm) h_9
      · exact h_9
  try clear_value temp_1
  try clear_value flow_2
  refine keeps_foldl ?_ ?_
  · refine keeps_foldl h0_ ?_
    · intro t_12 x_13 h_14
      refine h_temp_1 _ h_14 _
  · intro t_15 x_16 h_17
    refine h_flow_2 _ h_17 _

theorem coolClear_keeps {m : Nat} {r : State} {p0 : State} {p1} {p2} (hm : 16 &&& m = 16) (h0_ : Keeps m r p0) (h2_ : ∀ q0, Keeps m r q0 → Keeps m r (p2 q0)) : Keeps m r (@coolClear p0 p1 p2) := by
  unfold coolClear
  refine keeps_ite ?_ ?_
  · refine h2_ _ ?_
    · refine State_answer_keeps (sub_trans rfl hm) h0_
  · refine State_deny_keeps (sub_trans rfl hm) h0_

theorem coolClearFan_keeps {m : Nat} {r : State} {p0} {p1} {p2 : State} (hm : 32788 &&& m = 32788) (h2_ : Keeps m r p2) : Keeps m r (@coolClearFan p0 p1 p2) := by
  unfold coolClearFan
  refine coolClear_keeps (sub_trans rfl hm) h2_ ?_
  · intro a_1 h_2
    refine keeps_foldl h_2 ?_
    · intro t_3 x_4 h_5
      refine clearFan_keeps (sub_trans rfl hm) h_5

theorem coolClearModel_keeps {m : Nat} {r : State} {p0} {p1 : State} (hm : 20 &&& m = 20) (h1_ : Keeps m r p1) : Keeps m r (@coolClearModel p0 p1) := by
  unfold coolClearModel
  refine coolClear_keeps (sub_trans rfl hm) h1_ ?_
  · intro a_1 h_2
    refine clearImplausible_keeps (sub_trans rfl hm) h_2

theorem coolClearPump_keeps {m : Nat} {r : State} {p0} {p1} {p2 : State} (hm : 32788 &&& m = 32788) (h2_ : Keeps m r p2) : Keeps m r (@coolClearPump p0 p1 p2) := by
  unfold coolClearPump
  refine coolClear_keeps (sub_trans rfl hm) h2_ ?_
  · intro a_1 h_2
    refine keeps_foldl h_2 ?_
    · intro t_3 x_4 h_5
      refine clearPump_keeps (sub_trans rfl hm) h_5

theorem coolClearValve_keeps {m : Nat} {r : State} {p0} {p1} {p2 : State} (hm : 32788 &&& m = 32788) (h2_ : Keeps m r p2) : Keeps m r (@coolClearValve p0 p1 p2) := by
  unfold coolClearValve
  refine coolClear_keeps (sub_trans rfl hm) h2_ ?_
  · intro a_1 h_2
    refine keeps_foldl h_2 ?_
    · intro t_3 x_4 h_5
      refine clearValve_keeps (sub_trans rfl hm) h_5

theorem modFan_keeps {m : Nat} {r : State} {p0 : State} {p1} {p2} (hm : 32768 &&& m = 32768) (h0_ : Keeps m r p0) : Keeps m r (@modFan p0 p1 p2) := by
  unfold modFan
  exact keeps_cool h0_ (sub_trans rfl hm)

theorem failFan_keeps {m : Nat} {r : State} {p0 : State} {p1} {p2} (hm : 12877844 &&& m = 12877844) (h0_ : Keeps m r p0) : Keeps m r (@failFan p0 p1 p2) := by
  unfold failFan
  extract_lets -lift -merge -underBinder s_1 s_2
  have h_s_1 : Keeps m r s_1 := by
    unfold s_1
    refine modFan_keeps (sub_trans rfl hm) h0_
  try clear_value s_1
  have h_s_2 : Keeps m r s_2 := by
    unfold s_2
    refine State_wr_keeps (sub_trans rfl hm) ?_
    · refine State_wr_keeps (sub_trans rfl hm) h_s_1
  try clear_value s_2
  refine refreshCoolFlags_keeps (sub_trans rfl hm) ?_
  · refine State_err_keeps (sub_trans rfl hm) ?_
    · refine State_bump_keeps (sub_trans rfl hm) h_s_2

theorem failPump_keeps {m : Nat} {r : State} {p0 : State} {p1} (hm : 12877844 &&& m = 12877844) (h0_ : Keeps m r p0) : Keeps m r (@failPump p0 p1) := by
  unfold failPump
  extract_lets -lift -merge -underBinder s_1 both_2 s_3
  try clear_value both_2
  have h_s_1 : Keeps m r s_1 := by
    unfold s_1
    refine modPump_keeps (sub_trans rfl hm) h0_
  try clear_value s_1
  have h_s_3 : Keeps m r s_3 := by
    unfold s_3
    refine State_bump_keeps (sub_trans rfl hm) ?_
    · refine State_wr_keeps (sub_trans rfl hm) h_s_1
  try clear_value s_3
  refine refreshCoolFlags_keeps (sub_trans rfl hm) ?_
  · refine keeps_ite ?_ ?_
    · refine State_err_keeps (sub_trans rfl hm) h_s_3
    · exact h_s_3

theorem runFan_keeps {m : Nat} {r : State} {p0 : State} {p1} (hm : 32772 &&& m = 32772) (h0_ : Keeps m r p0) : Keeps m r (@runFan p0 p1) := by
  unfold runFan
  extract_lets -lift -merge -underBinder s_1
  have h_s_1 : Keeps m r s_1 := by
    unfold s_1
    refine modFan_keeps (sub_trans rfl hm) h0_
  try clear_value s_1
  refine refreshCoolFlags_keeps (sub_trans rfl hm) ?_
  · refine State_wr_keeps (sub_trans rfl hm) ?_
    · refine State_wr_keeps (sub_trans rfl hm) ?_
      · refine State_wr_keeps (sub_trans rfl hm) h_s_1

theorem fanKick_keeps {m : Nat} {r : State} {p0} {p1} {p2 : State} (hm : 32772 &&& m = 32772) (h2_ : Keeps m r p2) : Keeps m r (@fanKick p0 p1 p2) := by
  unfold fanKick
  extract_lets -lift -merge -underBinder x_1 s_2 s_3
  try clear_value x_1
  have h_s_2 : Keeps m r s_2 := by
    unfold s_2
    refine State_wr_keeps (sub_trans rfl hm) h2_
  try clear_value s_2
  have h_s_3 : Keeps m r s_3 := by
    unfold s_3
    refine modFan_keeps (sub_trans rfl hm) h_s_2
  try clear_value s_3
  refine keeps_ite ?_ ?_
  · exact h2_
  · refine keeps_ite ?_ ?_
    · refine runFan_keeps (sub_trans rfl hm) h_s_3
    · refine drivePins_keeps (sub_trans rfl hm) h_s_3

theorem fanProbe_keeps {m : Nat} {r : State} {p0} {p1} {p2 : State} (hm : 32772 &&& m = 32772) (h2_ : Keeps m r p2) : Keeps m r (@fanProbe p0 p1 p2) := by
  unfold fanProbe
  refine keeps_ite ?_ ?_
  · exact h2_
  · refine keeps_ite ?_ ?_
    · extract_lets -lift -merge -underBinder back_1 s_2
      try clear_value back_1
      have h_s_2 : Keeps m r s_2 := by
        unfold s_2
        refine modFan_keeps (sub_trans rfl hm) ?_
        · refine State_wr_keeps (sub_trans rfl hm) h2_
      try clear_value s_2
      refine keeps_ite ?_ ?_
      · refine refreshCoolFlags_keeps (sub_trans rfl hm) ?_
        · refine startFan_keeps (sub_trans rfl hm) h_s_2
      · exact h_s_2
    · extract_lets -lift -merge -underBinder t_3 s_4
      try clear_value t_3
      have h_s_4 : Keeps m r s_4 := by
        unfold s_4
        refine modFan_keeps (sub_trans rfl hm) h2_
      try clear_value s_4
      refine keeps_ite ?_ ?_
      · refine State_wr_keeps (sub_trans rfl hm) h_s_4
      · exact h_s_4

theorem fanStartTimeout_keeps {m : Nat} {r : State} {p0} {p1} {p2 : State} (hm : 12877844 &&& m = 12877844) (h2_ : Keeps m r p2) : Keeps m r (@fanStartTimeout p0 p1 p2) := by
  unfold fanStartTimeout
  refine keeps_ite ?_ ?_
  · exact h2_
  · split
    · exact h2_
    · refine keeps_ite ?_ ?_
      · refine runFan_keeps (sub_trans rfl hm) h2_
      · refine keeps_ite ?_ ?_
        · exact h2_
        · refine keeps_ite ?_ ?_
          · extract_lets -lift -merge -underBinder s_1
            have h_s_1 : Keeps m r s_1 := by
              unfold s_1
              refine modFan_keeps (sub_trans rfl hm) h2_
            try clear_value s_1
            refine keeps_ite ?_ ?_
            · refine failFan_keeps (sub_trans rfl hm) h_s_1
            · refine refreshCoolFlags_keeps (sub_trans rfl hm) h_s_1
          · extract_lets -lift -merge -underBinder s_2
            have h_s_2 : Keeps m r s_2 := by
              unfold s_2
              refine modFan_keeps (sub_trans rfl hm) h2_
            try clear_value s_2
            refine refreshCoolFlags_keeps (sub_trans rfl hm) ?_
            · refine State_wr_keeps (sub_trans rfl hm) ?_
              · refine State_wr_keeps (sub_trans rfl hm) h_s_2

theorem fanWindow_keeps {m : Nat} {r : State} {p0 : State} {p1} {p2} {p3} (hm : 12877844 &&& m = 12877844) (h0_ : Keeps m r p0) : Keeps m r (@fanWindow p0 p1 p2 p3) := by
  unfold fanWindow
  extract_lets -lift -merge -underBinder s_1 x_2 ok_3
  try clear_value x_2
  try clear_value ok_3
  have h_s_1 : Keeps m r s_1 := by
    unfold s_1
    refine State_wr_keeps (sub_trans rfl hm) h0_
  try clear_value s_1
  refine keeps_ite ?_ ?_
  · exact h_s_1
  · refine keeps_ite ?_ ?_
    · refine modFan_keeps (sub_trans rfl hm) h_s_1
    · refine keeps_ite ?_ ?_
      · refine modFan_keeps (sub_trans rfl hm) h_s_1
      · refine failFan_keeps (sub_trans rfl hm) ?_
        · refine modFan_keeps (sub_trans rfl hm) h_s_1

theorem haltedCeiling_keeps {m : Nat} {r : State} {p0 : State} {p1} (hm : 32772 &&& m = 32772) (h0_ : Keeps m r p0) : Keeps m r (@haltedCeiling p0 p1) := by
  unfold haltedCeiling
  extract_lets -lift -merge -underBinder held_1 __src_2 s_3
  try clear_value held_1
  have h_s_3 : Keeps m r s_3 := by
    unfold s_3
    exact keeps_cool h0_ (sub_trans rfl hm)
  try clear_value s_3
  refine State_wr_keeps (sub_trans rfl hm) h_s_3

theorem floorTick_keeps {m : Nat} {r : State} {p0 : State} (hm : 32772 &&& m = 32772) (h0_ : Keeps m r p0) : Keeps m r (@floorTick p0) := by
  unfold floorTick
  extract_lets -lift -merge -underBinder __src_1 s_2 hot_3
  try clear_value hot_3
  have h_s_2 : Keeps m r s_2 := by
    unfold s_2
    exact keeps_cool h0_ (sub_trans rfl hm)
  try clear_value s_2
  refine drivePins_keeps (sub_trans rfl hm) ?_
  · refine keeps_ite ?_ ?_
    · refine haltedCeiling_keeps (sub_trans rfl hm) h_s_2
    · exact h_s_2

theorem hubThermalThrottle_keeps {m : Nat} {r : State} {p0} {p1} {p2 : State} (hm : 165892 &&& m = 165892) (h2_ : Keeps m r p2) : Keeps m r (@hubThermalThrottle p0 p1 p2) := by
  unfold hubThermalThrottle
  refine keeps_ite ?_ ?_
  · exact h2_
  · split
    · exact h2_
    · split
      · split
        · extract_lets -lift -merge -underBinder s_1 __src_2 s_3 n_4 s_5 __src_6 __src_7 s_8
          try clear_value n_4
          have h_s_1 : Keeps m r s_1 := by
            unfold s_1
            refine State_wr_keeps (sub_trans rfl hm) ?_
            · refine State_wr_keeps (sub_trans rfl hm) h2_
          try clear_value s_1
          have h_s_3 : Keeps m r s_3 := by
            unfold s_3
            exact keeps_mon h_s_1 (sub_trans rfl hm)
          try clear_value s_3
          have h_s_5 : Keeps m r s_5 := by
            unfold s_5
            refine State_wr_keeps (sub_trans rfl hm) ?_
            · refine State_wr_keeps (sub_trans rfl hm) h_s_3
          try clear_value s_5
          have h_s_8 : Keeps m r s_8 := by
            unfold s_8
            refine keeps_ite ?_ ?_
            · exact keeps_cool h_s_5 (sub_trans rfl hm)
            · exact keeps_cool h_s_5 (sub_trans rfl hm)
          try clear_value s_8
          refine refreshShares_keeps (sub_trans rfl hm) h_s_8

theorem kilnTrip_keeps {m : Nat} {r : State} {p0} {p1} {p2 : State} (hm : 352100316 &&& m = 352100316) (h2_ : Keeps m r p2) : Keeps m r (@kilnTrip p0 p1 p2) := by
  unfold kilnTrip
  refine keeps_ite ?_ ?_
  · exact h2_
  · extract_lets -lift -merge -underBinder __src_1 s_2
    have h_s_2 : Keeps m r s_2 := by
      unfold s_2
      exact keeps_cool h2_ (sub_trans rfl hm)
    try clear_value s_2
    split
    · refine keeps_ite ?_ ?_
      · refine State_wr_keeps (sub_trans rfl hm) h_s_2
      · extract_lets -lift -merge -underBinder s_3 s_4 s_5 s_6 s_7 unit_8 s_9
        try clear_value unit_8
        have h_s_3 : Keeps m r s_3 := by
          unfold s_3
          refine State_wr_keeps (sub_trans rfl hm) ?_
          · refine State_wr_keeps (sub_trans rfl hm) h_s_2
        try clear_value s_3
        have h_s_4 : Keeps m r s_4 := by
          unfold s_4
          refine State_wr_keeps (sub_trans rfl hm) ?_
          · refine State_wr_keeps (sub_trans rfl hm) h_s_3
        try clear_value s_4
        have h_s_5 : Keeps m r s_5 := by
          unfold s_5
          refine holdDie_keeps (sub_trans rfl hm) h_s_4
        try clear_value s_5
        have h_s_6 : Keeps m r s_6 := by
          unfold s_6
          refine State_modDie_keeps (sub_trans rfl hm) h_s_5
        try clear_value s_6
        have h_s_7 : Keeps m r s_7 := by
          unfold s_7
          refine State_bump_keeps (sub_trans rfl hm) h_s_6
        try clear_value s_7
        have h_s_9 : Keeps m r s_9 := by
          unfold s_9
          refine State_event_keeps (sub_trans rfl hm) h_s_7
        try clear_value s_9
        refine State_err_keeps (sub_trans rfl hm) h_s_9

theorem kilnTripClear_keeps {m : Nat} {r : State} {p0} {p1} {p2} {p3 : State} (hm : 32836 &&& m = 32836) (h3_ : Keeps m r p3) : Keeps m r (@kilnTripClear p0 p1 p2 p3) := by
  unfold kilnTripClear
  refine keeps_ite ?_ ?_
  · exact h3_
  · refine keeps_ite ?_ ?_
    · exact keeps_cool h3_ (sub_trans rfl hm)
    · refine keeps_ite ?_ ?_
      · exact keeps_cool h3_ (sub_trans rfl hm)
      · extract_lets -lift -merge -underBinder __src_1 s_2 s_3
        have h_s_2 : Keeps m r s_2 := by
          unfold s_2
          exact keeps_cool h3_ (sub_trans rfl hm)
        try clear_value s_2
        have h_s_3 : Keeps m r s_3 := by
          unfold s_3
          refine State_wr_keeps (sub_trans rfl hm) h_s_2
        try clear_value s_3
        refine State_modDie_keeps (sub_trans rfl hm) h_s_3

theorem modelResume_keeps {m : Nat} {r : State} {p0 : State} (hm : 4 &&& m = 4) (h0_ : Keeps m r p0) : Keeps m r (@modelResume p0) := by
  unfold modelResume
  refine keeps_ite ?_ ?_
  · refine clearImplausible_keeps (sub_trans rfl hm) h0_
  · exact h0_

theorem overJunction_keeps {m : Nat} {r : State} {p0} {p1 : State} (hm : 12877844 &&& m = 12877844) (h1_ : Keeps m r p1) : Keeps m r (@overJunction p0 p1) := by
  unfold overJunction
  split
  · exact h1_
  · refine keeps_ite ?_ ?_
    · exact h1_
    · extract_lets -lift -merge -underBinder __src_1 s_2 i_3
      try clear_value i_3
      have h_s_2 : Keeps m r s_2 := by
        unfold s_2
        exact keeps_cool h1_ (sub_trans rfl hm)
      try clear_value s_2
      refine State_err_keeps (sub_trans rfl hm) ?_
      · refine State_wr_keeps (sub_trans rfl hm) h_s_2

theorem pumpFanControl_keeps {m : Nat} {r : State} {p0 : State} (hm : 32772 &&& m = 32772) (h0_ : Keeps m r p0) : Keeps m r (@pumpFanControl p0) := by
  unfold pumpFanControl
  extract_lets -lift -merge -underBinder s_1 m_2 r_3 __src_4 e_5 i_6 duty_7 __src_8
  try clear_value m_2
  try clear_value r_3
  try clear_value e_5
  try clear_value i_6
  try clear_value duty_7
  have h_s_1 : Keeps m r s_1 := by
    unfold s_1
    refine setMode_keeps (sub_trans rfl hm) h0_
  try clear_value s_1
  refine keeps_ite ?_ ?_
  · refine drivePins_keeps (sub_trans rfl hm) h_s_1
  · refine keeps_ite ?_ ?_
    · refine drivePins_keeps (sub_trans rfl hm) ?_
      · exact keeps_cool h_s_1 (sub_trans rfl hm)
    · refine drivePins_keeps (sub_trans rfl hm) ?_
      · exact keeps_cool h_s_1 (sub_trans rfl hm)

theorem pumpSpeedFail_keeps {m : Nat} {r : State} {p0} {p1 : State} (hm : 12877844 &&& m = 12877844) (h1_ : Keeps m r p1) : Keeps m r (@pumpSpeedFail p0 p1) := by
  unfold pumpSpeedFail
  split
  · exact h1_
  · refine keeps_ite ?_ ?_
    · exact h1_
    · refine failPump_keeps (sub_trans rfl hm) h1_

theorem pumpWindow_keeps {m : Nat} {r : State} {p0 : State} {p1} {p2} (hm : 12877844 &&& m = 12877844) (h0_ : Keeps m r p0) : Keeps m r (@pumpWindow p0 p1 p2) := by
  unfold pumpWindow
  extract_lets -lift -merge -underBinder s_1 duty_2 slow_3 x_4 s_5
  try clear_value duty_2
  try clear_value slow_3
  try clear_value x_4
  have h_s_1 : Keeps m r s_1 := by
    unfold s_1
    refine State_wr_keeps (sub_trans rfl hm) h0_
  try clear_value s_1
  have h_s_5 : Keeps m r s_5 := by
    unfold s_5
    refine modPump_keeps (sub_trans rfl hm) h_s_1
  try clear_value s_5
  refine keeps_ite ?_ ?_
  · refine modPump_keeps (sub_trans rfl hm) h_s_1
  · refine keeps_ite ?_ ?_
    · refine failPump_keeps (sub_trans rfl hm) h_s_5
    · exact h_s_5

theorem surrogateTick_keeps {m : Nat} {r : State} {p0} {p1} {p2 : State} (hm : 12877844 &&& m = 12877844) (h2_ : Keeps m r p2) : Keeps m r (@surrogateTick p0 p1 p2) := by
  unfold surrogateTick
  extract_lets -lift -merge -underBinder s_1 s_2 __src_3 s_4
  have h_s_1 : Keeps m r s_1 := by
    unfold s_1
    refine keeps_foldl h2_ ?_
    · intro t_5 x_6 h_7
      refine keeps_ite ?_ ?_
      · refine State_wr_keeps (sub_trans rfl hm) h_7
      · exact h_7
  try clear_value s_1
  have h_s_2 : Keeps m r s_2 := by
    unfold s_2
    refine keeps_foldl h_s_1 ?_
    · intro t_8 x_9 h_10
      refine keeps_ite ?_ ?_
      · refine State_wr_keeps (sub_trans rfl hm) h_10
      · exact h_10
  try clear_value s_2
  have h_s_4 : Keeps m r s_4 := by
    unfold s_4
    exact keeps_cool h_s_2 (sub_trans rfl hm)
  try clear_value s_4
  split
  · exact h_s_4
  · refine keeps_ite ?_ ?_
    · exact h_s_4
    · extract_lets -lift -merge -underBinder h_11
      try clear_value h_11
      split
      · extract_lets -lift -merge -underBinder __src_12 s_13
        have h_s_13 : Keeps m r s_13 := by
          unfold s_13
          exact keeps_cool h_s_4 (sub_trans rfl hm)
        try clear_value s_13
        refine keeps_ite ?_ ?_
        · refine refreshCoolFlags_keeps (sub_trans rfl hm) ?_
          · refine checkPlausible_keeps (sub_trans rfl hm) ?_
            · refine compareAll_keeps (sub_trans rfl hm) h_s_13
        · exact h_s_13

theorem tachWindow_keeps {m : Nat} {r : State} {p0} {p1} {p2} {p3 : State} (hm : 12877844 &&& m = 12877844) (h3_ : Keeps m r p3) : Keeps m r (@tachWindow p0 p1 p2 p3) := by
  unfold tachWindow
  extract_lets -lift -merge -underBinder s_1
  have h_s_1 : Keeps m r s_1 := by
    unfold s_1
    refine keeps_foldl h3_ ?_
    · intro t_2 x_3 h_4
      refine fanWindow_keeps (sub_trans rfl hm) h_4
  try clear_value s_1
  refine keeps_foldl h_s_1 ?_
  · intro t_5 x_6 h_7
    refine pumpWindow_keeps (sub_trans rfl hm) h_7

theorem thermalCeiling_keeps {m : Nat} {r : State} {p0 : State} (hm : 32772 &&& m = 32772) (h0_ : Keeps m r p0) : Keeps m r (@thermalCeiling p0) := by
  unfold thermalCeiling
  refine keeps_ite ?_ ?_
  · exact h0_
  · extract_lets -lift -merge -underBinder __src_1 s_2 x_3 worst_4
    try clear_value x_3
    try clear_value worst_4
    have h_s_2 : Keeps m r s_2 := by
      unfold s_2
      exact keeps_cool h0_ (sub_trans rfl hm)
    try clear_value s_2
    split
    · refine State_wr_keeps (sub_trans rfl hm) h_s_2
    · extract_lets -lift -merge -underBinder c_5
      try clear_value c_5
      refine State_wr_keeps (sub_trans rfl hm) ?_
      · refine State_wr_keeps (sub_trans rfl hm) ?_
        · refine State_wr_keeps (sub_trans rfl hm) h_s_2

theorem thermistorSample_keeps {m : Nat} {r : State} {p0} {p1} {p2 : State} (hm : 32772 &&& m = 32772) (h2_ : Keeps m r p2) : Keeps m r (@thermistorSample p0 p1 p2) := by
  unfold thermistorSample
  refine keeps_ite ?_ ?_
  · exact h2_
  · extract_lets -lift -merge -underBinder s_1 v_2 t_3
    try clear_value v_2
    try clear_value t_3
    have h_s_1 : Keeps m r s_1 := by
      unfold s_1
      refine State_wr_keeps (sub_trans rfl hm) h2_
    try clear_value s_1
    refine keeps_ite ?_ ?_
    · refine State_modSensor_keeps (sub_trans rfl hm) ?_
      · refine State_wr_keeps (sub_trans rfl hm) h_s_1
    · refine keeps_ite ?_ ?_
      · exact h_s_1
      · refine keeps_ite ?_ ?_
        · refine State_modSensor_keeps (sub_trans rfl hm) ?_
          · refine State_wr_keeps (sub_trans rfl hm) h_s_1
        · refine State_modSensor_keeps (sub_trans rfl hm) h_s_1

theorem thermtripValveExpire_keeps {m : Nat} {r : State} {p0} {p1 : State} (hm : 1073774596 &&& m = 1073774596) (h1_ : Keeps m r p1) : Keeps m r (@thermtripValveExpire p0 p1) := by
  unfold thermtripValveExpire
  split
  · exact h1_
  · refine keeps_ite ?_ ?_
    · exact h1_
    · refine drivePins_keeps (sub_trans rfl hm) ?_
      · exact keeps_mk (b := 1073774592) h1_ (sub_trans rfl hm) (by intro p hp; cases p <;> first | rfl | cases hp) rfl rfl rfl rfl rfl rfl rfl

theorem valveControl_keeps {m : Nat} {r : State} {p0 : State} (hm : 32772 &&& m = 32772) (h0_ : Keeps m r p0) : Keeps m r (@valveControl p0) := by
  unfold valveControl
  extract_lets -lift -merge -underBinder s_1
  have h_s_1 : Keeps m r s_1 := by
    unfold s_1
    refine setMode_keeps (sub_trans rfl hm) h0_
  try clear_value s_1
  refine keeps_ite ?_ ?_
  · refine drivePins_keeps (sub_trans rfl hm) h_s_1
  · split
    · refine drivePins_keeps (sub_trans rfl hm) ?_
      · refine keeps_foldl h_s_1 ?_
        · intro t_2 x_3 h_4
          refine keeps_ite ?_ ?_
          · exact keeps_cool h_4 (sub_trans rfl hm)
          · extract_lets -lift -merge -underBinder c_5 __src_6
            try clear_value c_5
            exact keeps_cool h_4 (sub_trans rfl hm)
    · extract_lets -lift -merge -underBinder v_7 __src_8
      try clear_value v_7
      refine drivePins_keeps (sub_trans rfl hm) ?_
      · exact keeps_cool h_s_1 (sub_trans rfl hm)

theorem valveFlag_keeps {m : Nat} {r : State} {p0} {p1} {p2 : State} (hm : 12877844 &&& m = 12877844) (h2_ : Keeps m r p2) : Keeps m r (@valveFlag p0 p1 p2) := by
  unfold valveFlag
  refine keeps_ite ?_ ?_
  · exact h2_
  · extract_lets -lift -merge -underBinder p_1 s_2 c_3 __src_4 t_5 __src_6 s_7 s_8 __src_9
    try clear_value p_1
    try clear_value c_3
    try clear_value t_5
    have h_s_2 : Keeps m r s_2 := by
      unfold s_2
      refine State_wr_keeps (sub_trans rfl hm) h2_
    try clear_value s_2
    have h_s_7 : Keeps m r s_7 := by
      unfold s_7
      exact keeps_cool h_s_2 (sub_trans rfl hm)
    try clear_value s_7
    have h_s_8 : Keeps m r s_8 := by
      unfold s_8
      refine State_bump_keeps (sub_trans rfl hm) ?_
      · refine State_wr_keeps (sub_trans rfl hm) h_s_7
    try clear_value s_8
    refine keeps_ite ?_ ?_
    · exact keeps_cool h_s_2 (sub_trans rfl hm)
    · refine keeps_ite ?_ ?_
      · refine refreshCoolFlags_keeps (sub_trans rfl hm) ?_
        · refine State_err_keeps (sub_trans rfl hm) h_s_8
      · exact keeps_cool h_s_2 (sub_trans rfl hm)

/-! ## Firmware -/

theorem activationStep_keeps {m : Nat} {r : State} {p0 : State} {p1} (hm : 347078676 &&& m = 347078676) (h0_ : Keeps m r p0) : Keeps m r (@activationStep p0 p1) := by
  unfold activationStep
  split
  · exact h0_
  · refine keeps_ite ?_ ?_
    · refine State_event_keeps (sub_trans rfl hm) ?_
      · exact keeps_upd h0_ (sub_trans rfl hm)
    · refine keeps_ite ?_ ?_
      · refine nextActivation_keeps (sub_trans rfl hm) h0_
      · exact h0_

theorem revive_keeps {m : Nat} {r : State} {p0 : State} {p1} (hm : 1048580 &&& m = 1048580) (h0_ : Keeps m r p0) : Keeps m r (@revive p0 p1) := by
  unfold revive
  refine keeps_ite ?_ ?_
  · exact h0_
  · extract_lets -lift -merge -underBinder s_1 s_2 s_3 s_4
    have h_s_1 : Keeps m r s_1 := by
      unfold s_1
      refine State_modProc_keeps (sub_trans rfl hm) h0_
    try clear_value s_1
    have h_s_2 : Keeps m r s_2 := by
      unfold s_2
      refine State_wr_keeps (sub_trans rfl hm) ?_
      · refine State_wr_keeps (sub_trans rfl hm) h_s_1
    try clear_value s_2
    have h_s_3 : Keeps m r s_3 := by
      unfold s_3
      refine State_wr_keeps (sub_trans rfl hm) h_s_2
    try clear_value s_3
    have h_s_4 : Keeps m r s_4 := by
      unfold s_4
      refine State_wr_keeps (sub_trans rfl hm) h_s_3
    try clear_value s_4
    refine keeps_ite ?_ ?_
    · refine State_wr_keeps (sub_trans rfl hm) h_s_3
    · refine dutiesUnhalt_keeps (sub_trans rfl hm) h_s_4

theorem orderRestart_keeps {m : Nat} {r : State} {p0 : State} {p1} (hm : 347078676 &&& m = 347078676) (h0_ : Keeps m r p0) : Keeps m r (@orderRestart p0 p1) := by
  unfold orderRestart
  refine keeps_ite ?_ ?_
  · exact h0_
  · refine beginRestart_keeps (sub_trans rfl hm) h0_

theorem watchdogKick_keeps {m : Nat} {r : State} {p0} {p1} {p2 : State} (hm : 1048592 &&& m = 1048592) (h2_ : Keeps m r p2) : Keeps m r (@watchdogKick p0 p1 p2) := by
  unfold watchdogKick
  split
  · refine State_deny_keeps (sub_trans rfl hm) h2_
  · refine keeps_ite ?_ ?_
    · refine State_answer_keeps (sub_trans rfl hm) h2_
    · refine keeps_ite ?_ ?_
      · refine State_answer_keeps (sub_trans rfl hm) ?_
        · refine State_modProc_keeps (sub_trans rfl hm) h2_
      · refine State_answer_keeps (sub_trans rfl hm) h2_

theorem crash_keeps {m : Nat} {r : State} {p0 : State} {p1} {p2} {p3} (hm : 351535124 &&& m = 351535124) (h0_ : Keeps m r p0) : Keeps m r (@crash p0 p1 p2 p3) := by
  unfold crash
  extract_lets -lift -merge -underBinder s_1 s_2 n_3 s_4 s_5 s_6 s_7 s_8 __src_9 s_10 s_11 s_12 s_13 s_14
  try clear_value n_3
  have h_s_1 : Keeps m r s_1 := by
    unfold s_1
    refine State_modProc_keeps (sub_trans rfl hm) h0_
  try clear_value s_1
  have h_s_2 : Keeps m r s_2 := by
    unfold s_2
    refine State_bump_keeps (sub_trans rfl hm) h_s_1
  try clear_value s_2
  have h_s_4 : Keeps m r s_4 := by
    unfold s_4
    refine State_wr_keeps (sub_trans rfl hm) h_s_2
  try clear_value s_4
  have h_s_5 : Keeps m r s_5 := by
    unfold s_5
    refine State_wr_keeps (sub_trans rfl hm) h_s_4
  try clear_value s_5
  have h_s_6 : Keeps m r s_6 := by
    unfold s_6
    refine State_wr_keeps (sub_trans rfl hm) h_s_5
  try clear_value s_6
  have h_s_7 : Keeps m r s_7 := by
    unfold s_7
    refine State_wr_keeps (sub_trans rfl hm) h_s_6
  try clear_value s_7
  have h_s_8 : Keeps m r s_8 := by
    unfold s_8
    refine State_wr_keeps (sub_trans rfl hm) h_s_7
  try clear_value s_8
  have h_s_10 : Keeps m r s_10 := by
    unfold s_10
    refine keeps_ite ?_ ?_
    · exact keeps_rcd h_s_8 (sub_trans rfl hm) rfl
    · exact h_s_8
  try clear_value s_10
  have h_s_11 : Keeps m r s_11 := by
    unfold s_11
    refine beginRestart_keeps (sub_trans rfl hm) h_s_10
  try clear_value s_11
  have h_s_12 : Keeps m r s_12 := by
    unfold s_12
    refine State_wr_keeps (sub_trans rfl hm) ?_
    · refine State_wr_keeps (sub_trans rfl hm) h_s_11
  try clear_value s_12
  have h_s_13 : Keeps m r s_13 := by
    unfold s_13
    refine State_wr_keeps (sub_trans rfl hm) h_s_12
  try clear_value s_13
  have h_s_14 : Keeps m r s_14 := by
    unfold s_14
    refine dutiesHalt_keeps (sub_trans rfl hm) h_s_13
  try clear_value s_14
  refine keeps_ite ?_ ?_
  · exact h_s_11
  · refine activationStep_keeps (sub_trans rfl hm) ?_
    · refine State_err_keeps (sub_trans rfl hm) h_s_14

theorem dutiesResumed_keeps {m : Nat} {r : State} {p0} {p1 : State} (hm : 352075740 &&& m = 352075740) (h1_ : Keeps m r p1) : Keeps m r (@dutiesResumed p0 p1) := by
  unfold dutiesResumed
  refine keeps_ite ?_ ?_
  · exact h1_
  · extract_lets -lift -merge -underBinder s_1 s_2 s_3 s_4 s_5
    have h_s_1 : Keeps m r s_1 := by
      unfold s_1
      refine State_modProc_keeps (sub_trans rfl hm) h1_
    try clear_value s_1
    have h_s_2 : Keeps m r s_2 := by
      unfold s_2
      refine State_wr_keeps (sub_trans rfl hm) h_s_1
    try clear_value s_2
    have h_s_3 : Keeps m r s_3 := by
      unfold s_3
      refine State_wr_keeps (sub_trans rfl hm) h_s_2
    try clear_value s_3
    have h_s_4 : Keeps m r s_4 := by
      unfold s_4
      refine dutiesReturn_keeps (sub_trans rfl hm) h_s_3
    try clear_value s_4
    have h_s_5 : Keeps m r s_5 := by
      unfold s_5
      refine keeps_ite ?_ ?_
      · refine orderFaultOff_keeps (sub_trans rfl hm) h_s_4
      · exact h_s_4
    try clear_value s_5
    refine activationStep_keeps (sub_trans rfl hm) ?_
    · refine State_event_keeps (sub_trans rfl hm) h_s_5

theorem processorRelease_keeps {m : Nat} {r : State} {p0} {p1} {p2 : State} (hm : 1048592 &&& m = 1048592) (h2_ : Keeps m r p2) : Keeps m r (@processorRelease p0 p1 p2) := by
  unfold processorRelease
  refine keeps_ite ?_ ?_
  · exact h2_
  · extract_lets -lift -merge -underBinder s_1
    have h_s_1 : Keeps m r s_1 := by
      unfold s_1
      refine State_modProc_keeps (sub_trans rfl hm) h2_
    try clear_value s_1
    refine keeps_ite ?_ ?_
    · refine State_emit_keeps (sub_trans rfl hm) h_s_1
    · exact h_s_1

theorem processorRestartOrder_keeps {m : Nat} {r : State} {p0} {p1} {p2 : State} (hm : 347078676 &&& m = 347078676) (h2_ : Keeps m r p2) : Keeps m r (@processorRestartOrder p0 p1 p2) := by
  unfold processorRestartOrder
  refine keeps_ite ?_ ?_
  · refine State_deny_keeps (sub_trans rfl hm) h2_
  · refine State_answer_keeps (sub_trans rfl hm) ?_
    · refine keeps_foldl h2_ ?_
      · intro t_1 x_2 h_3
        refine orderRestart_keeps (sub_trans rfl hm) h_3

theorem processorRevive_keeps {m : Nat} {r : State} {p0} {p1} {p2 : State} (hm : 1048596 &&& m = 1048596) (h2_ : Keeps m r p2) : Keeps m r (@processorRevive p0 p1 p2) := by
  unfold processorRevive
  refine keeps_ite ?_ ?_
  · refine State_deny_keeps (sub_trans rfl hm) h2_
  · refine State_answer_keeps (sub_trans rfl hm) ?_
    · refine keeps_foldl h2_ ?_
      · intro t_1 x_2 h_3
        refine revive_keeps (sub_trans rfl hm) h_3

theorem processorTrap_keeps {m : Nat} {r : State} {p0} {p1} {p2} {p3 : State} (hm : 351535124 &&& m = 351535124) (h3_ : Keeps m r p3) : Keeps m r (@processorTrap p0 p1 p2 p3) := by
  unfold processorTrap
  refine keeps_ite ?_ ?_
  · exact h3_
  · split
    · refine crash_keeps (sub_trans rfl hm) h3_
    · extract_lets -lift -merge -underBinder s_1 s_2
      have h_s_1 : Keeps m r s_1 := by
        unfold s_1
        refine State_wr_keeps (sub_trans rfl hm) ?_
        · refine State_bump_keeps (sub_trans rfl hm) h3_
      try clear_value s_1
      have h_s_2 : Keeps m r s_2 := by
        unfold s_2
        refine State_err_keeps (sub_trans rfl hm) h_s_1
      try clear_value s_2
      refine crash_keeps (sub_trans rfl hm) h_s_2

theorem restartTimeout_keeps {m : Nat} {r : State} {p0} {p1 : State} (hm : 351535124 &&& m = 351535124) (h1_ : Keeps m r p1) : Keeps m r (@restartTimeout p0 p1) := by
  unfold restartTimeout
  refine keeps_ite ?_ ?_
  · exact h1_
  · refine crash_keeps (sub_trans rfl hm) h1_

theorem watchdogExpire_keeps {m : Nat} {r : State} {p0} {p1} {p2 : State} (hm : 351535124 &&& m = 351535124) (h2_ : Keeps m r p2) : Keeps m r (@watchdogExpire p0 p1 p2) := by
  unfold watchdogExpire
  extract_lets -lift -merge -underBinder q_1 __src_2
  try clear_value q_1
  refine keeps_ite ?_ ?_
  · exact h2_
  · refine crash_keeps (sub_trans rfl hm) ?_
    · exact keeps_fw h2_ (sub_trans rfl hm)

/-! ## GroupTime -/

theorem answerTime_keeps {m : Nat} {r : State} {p0 : State} {p1} {p2} {p3} {p4} {p5} (hm : 4112 &&& m = 4112) (h0_ : Keeps m r p0) : Keeps m r (@answerTime p0 p1 p2 p3 p4 p5) := by
  unfold answerTime
  refine keeps_ite ?_ ?_
  · exact h0_
  · refine State_send_keeps (sub_trans rfl hm) h0_

theorem missedReply_keeps {m : Nat} {r : State} {p0 : State} {p1} (hm : 512 &&& m = 512) (h0_ : Keeps m r p0) : Keeps m r (@missedReply p0 p1) := by
  unfold missedReply
  extract_lets -lift -merge -underBinder __src_1 g_2 g_3 n_4
  try clear_value g_2
  try clear_value g_3
  try clear_value n_4
  refine keeps_ite ?_ ?_
  · refine keeps_ite ?_ ?_
    · exact keeps_gt h0_ (sub_trans rfl hm)
    · exact keeps_gt h0_ (sub_trans rfl hm)
  · exact keeps_gt h0_ (sub_trans rfl hm)

theorem enterHoldover_keeps {m : Nat} {r : State} {p0 : State} (hm : 8405508 &&& m = 8405508) (h0_ : Keeps m r p0) : Keeps m r (@enterHoldover p0) := by
  unfold enterHoldover
  extract_lets -lift -merge -underBinder __src_1 __src_2 s_3
  have h_s_3 : Keeps m r s_3 := by
    unfold s_3
    exact keeps_mk (b := 16896) h0_ (sub_trans rfl hm) (by intro p hp; cases p <;> first | rfl | cases hp) rfl rfl rfl rfl rfl rfl rfl
  try clear_value s_3
  refine State_event_keeps (sub_trans rfl hm) h_s_3

theorem enterLocked_keeps {m : Nat} {r : State} {p0 : State} (hm : 16896 &&& m = 16896) (h0_ : Keeps m r p0) : Keeps m r (@enterLocked p0) := by
  unfold enterLocked
  exact keeps_mk (b := 16896) h0_ (sub_trans rfl hm) (by intro p hp; cases p <;> first | rfl | cases hp) rfl rfl rfl rfl rfl rfl rfl

theorem leaveHoldover_keeps {m : Nat} {r : State} {p0 : State} (hm : 8389124 &&& m = 8389124) (h0_ : Keeps m r p0) : Keeps m r (@leaveHoldover p0) := by
  unfold leaveHoldover
  extract_lets -lift -merge -underBinder ms_1 __src_2 s_3
  try clear_value ms_1
  have h_s_3 : Keeps m r s_3 := by
    unfold s_3
    exact keeps_gt h0_ (sub_trans rfl hm)
  try clear_value s_3
  refine State_event_keeps (sub_trans rfl hm) h_s_3

theorem validReply_keeps {m : Nat} {r : State} {p0 : State} {p1} {p2} {p3} (hm : 8405508 &&& m = 8405508) (h0_ : Keeps m r p0) : Keeps m r (@validReply p0 p1 p2 p3) := by
  unfold validReply
  extract_lets -lift -merge -underBinder lm_1 near_2 __src_3 g_4
  try clear_value lm_1
  try clear_value near_2
  try clear_value g_4
  split
  · exact keeps_gt h0_ (sub_trans rfl hm)
  · extract_lets -lift -merge -underBinder s_5
    have h_s_5 : Keeps m r s_5 := by
      unfold s_5
      exact keeps_gt h0_ (sub_trans rfl hm)
    try clear_value s_5
    refine keeps_ite ?_ ?_
    · refine enterHoldover_keeps (sub_trans rfl hm) h_s_5
    · refine keeps_ite ?_ ?_
      · refine enterLocked_keeps (sub_trans rfl hm) h_s_5
      · exact h_s_5
  · extract_lets -lift -merge -underBinder s_6 __src_7
    have h_s_6 : Keeps m r s_6 := by
      unfold s_6
      exact keeps_gt h0_ (sub_trans rfl hm)
    try clear_value s_6
    refine keeps_ite ?_ ?_
    · refine enterHoldover_keeps (sub_trans rfl hm) h_s_6
    · refine keeps_ite ?_ ?_
      · exact keeps_gt h_s_6 (sub_trans rfl hm)
      · exact h_s_6
  · extract_lets -lift -merge -underBinder __src_8 s_9
    have h_s_9 : Keeps m r s_9 := by
      unfold s_9
      exact keeps_gt h0_ (sub_trans rfl hm)
    try clear_value s_9
    refine keeps_ite ?_ ?_
    · refine leaveHoldover_keeps (sub_trans rfl hm) h_s_9
    · exact h_s_9
  · exact keeps_gt h0_ (sub_trans rfl hm)

theorem takeTimeReply_keeps {m : Nat} {r : State} {p0 : State} {p1} {p2} {p3} {p4} {p5} {p6} {p7} {p8} (hm : 8405508 &&& m = 8405508) (h0_ : Keeps m r p0) : Keeps m r (@takeTimeReply p0 p1 p2 p3 p4 p5 p6 p7 p8) := by
  unfold takeTimeReply
  split
  · exact h0_
  · refine keeps_ite ?_ ?_
    · exact h0_
    · refine keeps_ite ?_ ?_
      · extract_lets -lift -merge -underBinder s_1 __src_2
        have h_s_1 : Keeps m r s_1 := by
          unfold s_1
          refine missedReply_keeps (sub_trans rfl hm) h0_
        try clear_value s_1
        refine keeps_ite ?_ ?_
        · exact keeps_gt h_s_1 (sub_trans rfl hm)
        · exact h_s_1
      · extract_lets -lift -merge -underBinder asym_3 offset_4 delay_5 __src_6 s_7 n_8 __src_9 __src_10
        try clear_value asym_3
        try clear_value offset_4
        try clear_value delay_5
        try clear_value n_8
        have h_s_7 : Keeps m r s_7 := by
          unfold s_7
          exact keeps_gt h0_ (sub_trans rfl hm)
        try clear_value s_7
        refine keeps_ite ?_ ?_
        · refine keeps_ite ?_ ?_
          · exact keeps_gt h_s_7 (sub_trans rfl hm)
          · exact keeps_gt h_s_7 (sub_trans rfl hm)
        · refine validReply_keeps (sub_trans rfl hm) h_s_7

theorem gtHoldover_keeps {m : Nat} {r : State} {p0 : State} (hm : 8405508 &&& m = 8405508) (h0_ : Keeps m r p0) : Keeps m r (@gtHoldover p0) := by
  unfold gtHoldover
  refine keeps_ite ?_ ?_
  · refine enterHoldover_keeps (sub_trans rfl hm) ?_
    · exact keeps_gt h0_ (sub_trans rfl hm)
  · exact h0_

theorem timeReply_keeps {m : Nat} {r : State} {p0} {p1} {p2} {p3} {p4} {p5} {p6} {p7} {p8} {p9 : State} (hm : 8405508 &&& m = 8405508) (h9_ : Keeps m r p9) : Keeps m r (@timeReply p0 p1 p2 p3 p4 p5 p6 p7 p8 p9) := by
  unfold timeReply
  refine takeTimeReply_keeps (sub_trans rfl hm) h9_

theorem timeReplyMissed_keeps {m : Nat} {r : State} {p0} {p1 : State} (hm : 512 &&& m = 512) (h1_ : Keeps m r p1) : Keeps m r (@timeReplyMissed p0 p1) := by
  unfold timeReplyMissed
  split
  · exact h1_
  · refine keeps_ite ?_ ?_
    · exact h1_
    · refine missedReply_keeps (sub_trans rfl hm) h1_

theorem timeRequest_keeps {m : Nat} {r : State} {p0} {p1} {p2} {p3} {p4} {p5} {p6 : State} (hm : 4112 &&& m = 4112) (h6_ : Keeps m r p6) : Keeps m r (@timeRequest p0 p1 p2 p3 p4 p5 p6) := by
  unfold timeRequest
  refine answerTime_keeps (sub_trans rfl hm) h6_

theorem timeRequestSend_keeps {m : Nat} {r : State} {p0 : State} (hm : 4656 &&& m = 4656) (h0_ : Keeps m r p0) : Keeps m r (@timeRequestSend p0) := by
  unfold timeRequestSend
  refine keeps_ite ?_ ?_
  · exact h0_
  · extract_lets -lift -merge -underBinder seq_1 ports_2 ns_3 __src_4 s_5
    try clear_value seq_1
    try clear_value ports_2
    try clear_value ns_3
    have h_s_5 : Keeps m r s_5 := by
      unfold s_5
      refine State_drawFree_keeps (sub_trans rfl hm) ?_
      · exact keeps_gt h0_ (sub_trans rfl hm)
    try clear_value s_5
    refine keeps_foldl h_s_5 ?_
    · intro t_6 x_7 h_8
      extract_lets -lift -merge -underBinder __src_9 s_10
      have h_s_10 : Keeps m r s_10 := by
        unfold s_10
        exact keeps_gt h_8 (sub_trans rfl hm)
      try clear_value s_10
      refine keeps_ite ?_ ?_
      · refine State_send_keeps (sub_trans rfl hm) h_s_10
      · exact h_s_10

/-! ## Leak -/

theorem writeOff_keeps {m : Nat} {r : State} {p0 : State} {p1} {p2} (hm : 268435460 &&& m = 268435460) (h0_ : Keeps m r p0) : Keeps m r (@writeOff p0 p1 p2) := by
  unfold writeOff
  extract_lets -lift -merge -underBinder old_1 v_2 s_3 __src_4 __src_5
  try clear_value old_1
  try clear_value v_2
  have h_s_3 : Keeps m r s_3 := by
    unfold s_3
    refine State_wr_keeps (sub_trans rfl hm) h0_
  try clear_value s_3
  exact keeps_flash h_s_3 (sub_trans rfl hm)

theorem setWet_keeps {m : Nat} {r : State} {p0 : State} {p1} {p2} (hm : 4 &&& m = 4) (h0_ : Keeps m r p0) : Keeps m r (@setWet p0 p1 p2) := by
  unfold setWet
  refine State_wr_keeps (sub_trans rfl hm) ?_
  · refine State_wr_keeps (sub_trans rfl hm) h0_

theorem clearWet_keeps {m : Nat} {r : State} {p0 : State} {p1} (hm : 4 &&& m = 4) (h0_ : Keeps m r p0) : Keeps m r (@clearWet p0 p1) := by
  unfold clearWet
  extract_lets -lift -merge -underBinder iso_1 s_2 others_3
  try clear_value iso_1
  try clear_value others_3
  have h_s_2 : Keeps m r s_2 := by
    unfold s_2
    refine setWet_keeps (sub_trans rfl hm) h0_
  try clear_value s_2
  refine keeps_ite ?_ ?_
  · exact h_s_2
  · refine State_wr_keeps (sub_trans rfl hm) h_s_2

theorem leakClearWrite_keeps {m : Nat} {r : State} {p0} {p1} {p2 : State} (hm : 20 &&& m = 20) (h2_ : Keeps m r p2) : Keeps m r (@leakClearWrite p0 p1 p2) := by
  unfold leakClearWrite
  refine keeps_ite ?_ ?_
  · refine State_deny_keeps (sub_trans rfl hm) h2_
  · extract_lets -lift -merge -underBinder wet_1 s_2
    try clear_value wet_1
    have h_s_2 : Keeps m r s_2 := by
      unfold s_2
      refine keeps_foldl h2_ ?_
      · intro t_3 x_4 h_5
        refine clearWet_keeps (sub_trans rfl hm) h_5
    try clear_value s_2
    refine State_answer_keeps (sub_trans rfl hm) h_s_2

theorem sampleLoop_keeps {m : Nat} {r : State} {p0 : State} {p1} (hm : 65540 &&& m = 65540) (h0_ : Keeps m r p0) : Keeps m r (@sampleLoop p0 p1) := by
  unfold sampleLoop
  split
  · extract_lets -lift -merge -underBinder st_1 s_2 k_3
    try clear_value st_1
    try clear_value k_3
    have h_s_2 : Keeps m r s_2 := by
      unfold s_2
      refine State_wr_keeps (sub_trans rfl hm) ?_
      · refine State_wr_keeps (sub_trans rfl hm) h0_
    try clear_value s_2
    exact keeps_leak h_s_2 (sub_trans rfl hm)

theorem turnWet_keeps {m : Nat} {r : State} {p0 : State} {p1} {p2} (hm : 65540 &&& m = 65540) (h0_ : Keeps m r p0) : Keeps m r (@turnWet p0 p1 p2) := by
  unfold turnWet
  extract_lets -lift -merge -underBinder q_1 s_2 s_3 __src_4
  try clear_value q_1
  have h_s_2 : Keeps m r s_2 := by
    unfold s_2
    refine State_bump_keeps (sub_trans rfl hm) ?_
    · refine setWet_keeps (sub_trans rfl hm) h0_
  try clear_value s_2
  have h_s_3 : Keeps m r s_3 := by
    unfold s_3
    refine keeps_ite ?_ ?_
    · exact h_s_2
    · refine State_wr_keeps (sub_trans rfl hm) h_s_2
  try clear_value s_3
  exact keeps_leak h_s_3 (sub_trans rfl hm)

theorem lookWet_keeps {m : Nat} {r : State} {p0 : State} {p1} (hm : 65540 &&& m = 65540) (h0_ : Keeps m r p0) : Keeps m r (@lookWet p0 p1) := by
  unfold lookWet
  refine keeps_ite ?_ ?_
  · exact h0_
  · split
    · exact h0_
    · refine turnWet_keeps (sub_trans rfl hm) h0_

theorem leakSample_keeps {m : Nat} {r : State} {p0} {p1 : State} (hm : 65540 &&& m = 65540) (h1_ : Keeps m r p1) : Keeps m r (@leakSample p0 p1) := by
  unfold leakSample
  extract_lets -lift -merge -underBinder s_1
  have h_s_1 : Keeps m r s_1 := by
    unfold s_1
    refine keeps_foldl h1_ ?_
    · intro t_2 x_3 h_4
      refine sampleLoop_keeps (sub_trans rfl hm) h_4
  try clear_value s_1
  refine keeps_foldl h_s_1 ?_
  · intro t_5 x_6 h_7
    refine lookWet_keeps (sub_trans rfl hm) h_7

theorem setUnguarded_keeps {m : Nat} {r : State} {p0 : State} {p1} {p2} (hm : 4 &&& m = 4) (h0_ : Keeps m r p0) : Keeps m r (@setUnguarded p0 p1 p2) := by
  unfold setUnguarded
  refine State_wr_keeps (sub_trans rfl hm) ?_
  · refine State_wr_keeps (sub_trans rfl hm) h0_

theorem wetBindOff_keeps {m : Nat} {r : State} {p0 : State} {p1} (hm : 352075740 &&& m = 352075740) (h0_ : Keeps m r p0) : Keeps m r (@wetBindOff p0 p1) := by
  unfold wetBindOff
  extract_lets -lift -merge -underBinder slots_1
  try clear_value slots_1
  refine keeps_ite ?_ ?_
  · exact h0_
  · refine orderSlotsOff_keeps (sub_trans rfl hm) h0_

theorem wetZoneOrder_keeps {m : Nat} {r : State} {p0} {p1 : State} (hm : 352141276 &&& m = 352141276) (h1_ : Keeps m r p1) : Keeps m r (@wetZoneOrder p0 p1) := by
  unfold wetZoneOrder
  refine keeps_ite ?_ ?_
  · exact h1_
  · refine keeps_ite ?_ ?_
    · extract_lets -lift -merge -underBinder q_1 s_2 s_3 __src_4 s_5 wet_6
      try clear_value q_1
      try clear_value wet_6
      have h_s_2 : Keeps m r s_2 := by
        unfold s_2
        refine wetBindOff_keeps (sub_trans rfl hm) h1_
      try clear_value s_2
      have h_s_3 : Keeps m r s_3 := by
        unfold s_3
        refine writeOff_keeps (sub_trans rfl hm) h_s_2
      try clear_value s_3
      have h_s_5 : Keeps m r s_5 := by
        unfold s_5
        exact keeps_leak h_s_3 (sub_trans rfl hm)
      try clear_value s_5
      refine State_err_keeps (sub_trans rfl hm) h_s_5
    · refine keeps_ite ?_ ?_
      · extract_lets -lift -merge -underBinder s_7 __src_8
        have h_s_7 : Keeps m r s_7 := by
          unfold s_7
          refine wetBindOff_keeps (sub_trans rfl hm) h1_
        try clear_value s_7
        exact keeps_leak h_s_7 (sub_trans rfl hm)
      · exact h1_

theorem zoneUnguardClear_keeps {m : Nat} {r : State} {p0} {p1 : State} (hm : 4 &&& m = 4) (h1_ : Keeps m r p1) : Keeps m r (@zoneUnguardClear p0 p1) := by
  unfold zoneUnguardClear
  extract_lets -lift -merge -underBinder dry_1
  try clear_value dry_1
  refine keeps_ite ?_ ?_
  · refine setUnguarded_keeps (sub_trans rfl hm) h1_
  · exact h1_

theorem zoneUnguarded_keeps {m : Nat} {r : State} {p0} {p1 : State} (hm : 12845076 &&& m = 12845076) (h1_ : Keeps m r p1) : Keeps m r (@zoneUnguarded p0 p1) := by
  unfold zoneUnguarded
  refine keeps_ite ?_ ?_
  · exact h1_
  · split
    · exact h1_
    · extract_lets -lift -merge -underBinder s_1
      have h_s_1 : Keeps m r s_1 := by
        unfold s_1
        refine State_bump_keeps (sub_trans rfl hm) ?_
        · refine setUnguarded_keeps (sub_trans rfl hm) h1_
      try clear_value s_1
      refine State_err_keeps (sub_trans rfl hm) h_s_1

end Sys2Proof.Laws
end

