-- ==== Sys2Proof/Laws/Keeps5.lean ====
section
/-! SUPPORT. What the operations of Sdc, Integrity, OpenTraffic, Links keep (the relation `Keeps`): of each, that it passes on the relation of the
state it is given, where the parts it writes are among those named. -/
namespace Sys2Proof.Laws
open Sys2Proof.Machine

/-! ## Sdc -/

theorem actOnVote_keeps {m : Nat} {r : State} {p0 : State} {p1} {p2} {p3} {p4} {p5} {p6} (hm : 281805844 &&& m = 281805844) (h0_ : Keeps m r p0) : Keeps m r (@actOnVote p0 p1 p2 p3 p4 p5 p6) := by
  unfold actOnVote
  extract_lets -lift -merge -underBinder n_1 s_2 s_3 s_4 s_5 s_6 s_7
  try clear_value n_1
  have h_s_2 : Keeps m r s_2 := by
    unfold s_2
    refine State_bump_keeps (sub_trans rfl hm) h0_
  try clear_value s_2
  have h_s_3 : Keeps m r s_3 := by
    unfold s_3
    refine keeps_ite ?_ ?_
    · refine addHistory_keeps (sub_trans rfl hm) h_s_2
    · exact h_s_2
  try clear_value s_3
  have h_s_4 : Keeps m r s_4 := by
    unfold s_4
    refine keeps_ite ?_ ?_
    · exact h_s_3
    · refine setLevel_keeps (sub_trans rfl hm) h_s_3
  try clear_value s_4
  have h_s_5 : Keeps m r s_5 := by
    unfold s_5
    refine keeps_ite ?_ ?_
    · refine modUnit_keeps (sub_trans rfl hm) h_s_4
    · exact h_s_4
  try clear_value s_5
  have h_s_6 : Keeps m r s_6 := by
    unfold s_6
    refine keeps_ite ?_ ?_
    · refine State_wr_keeps (sub_trans rfl hm) ?_
      · refine State_bump_keeps (sub_trans rfl hm) ?_
        · refine expelSlot_keeps (sub_trans rfl hm) h_s_5
    · refine State_wr_keeps (sub_trans rfl hm) h_s_5
  try clear_value s_6
  have h_s_7 : Keeps m r s_7 := by
    unfold s_7
    refine keeps_ite ?_ ?_
    · refine unitRecord_keeps (sub_trans rfl hm) ?_
      · refine State_wr_keeps (sub_trans rfl hm) ?_
        · refine State_bump_keeps (sub_trans rfl hm) ?_
          · refine modKept_keeps (sub_trans rfl hm) h_s_6
    · exact h_s_6
  try clear_value s_7
  refine keeps_ite ?_ ?_
  · exact h0_
  · refine unitRecord_keeps (sub_trans rfl hm) h_s_7

theorem actVote_keeps {m : Nat} {r : State} {p0 : State} {p1} {p2} {p3} {p4} {p5} (hm : 281805844 &&& m = 281805844) (h0_ : Keeps m r p0) : Keeps m r (@actVote p0 p1 p2 p3 p4 p5) := by
  unfold actVote
  extract_lets -lift -merge -underBinder s_1 mine_2 s_3 s_4
  try clear_value mine_2
  have h_s_1 : Keeps m r s_1 := by
    unfold s_1
    refine State_bump_keeps (sub_trans rfl hm) h0_
  try clear_value s_1
  have h_s_3 : Keeps m r s_3 := by
    unfold s_3
    refine State_wr_keeps (sub_trans rfl hm) ?_
    · refine State_wr_keeps (sub_trans rfl hm) ?_
      · refine State_wr_keeps (sub_trans rfl hm) ?_
        · refine State_wr_keeps (sub_trans rfl hm) h_s_1
  try clear_value s_3
  have h_s_4 : Keeps m r s_4 := by
    unfold s_4
    refine keeps_ite ?_ ?_
    · exact h_s_1
    · refine State_wr_keeps (sub_trans rfl hm) ?_
      · refine State_wr_keeps (sub_trans rfl hm) h_s_3
  try clear_value s_4
  refine keeps_foldl h_s_4 ?_
  · intro t_5 x_6 h_7
    refine actOnVote_keeps (sub_trans rfl hm) h_7

theorem releaseSwatched_keeps {m : Nat} {r : State} {p0 : State} {p1} (hm : 8192 &&& m = 8192) (h0_ : Keeps m r p0) : Keeps m r (@releaseSwatched p0 p1) := by
  unfold releaseSwatched
  refine keeps_ite ?_ ?_
  · exact h0_
  · refine schedulePerst_keeps (sub_trans rfl hm) h0_

theorem endSwatch_keeps {m : Nat} {r : State} {p0 : State} {p1} {p2} {p3} {p4} (hm : 281813012 &&& m = 281813012) (h0_ : Keeps m r p0) : Keeps m r (@endSwatch p0 p1 p2 p3 p4) := by
  unfold endSwatch
  refine releaseSwatched_keeps (sub_trans rfl hm) ?_
  · refine finishSwatch_keeps (sub_trans rfl hm) h0_

theorem startSwatch_keeps {m : Nat} {r : State} {p0 : State} {p1} (hm : 348929052 &&& m = 348929052) (h0_ : Keeps m r p0) : Keeps m r (@startSwatch p0 p1) := by
  unfold startSwatch
  extract_lets -lift -merge -underBinder s_1 s_2 slot_3
  try clear_value slot_3
  have h_s_1 : Keeps m r s_1 := by
    unfold s_1
    refine keeps_ite ?_ ?_
    · exact h0_
    · refine assertPerst_keeps (sub_trans rfl hm) h0_
  try clear_value s_1
  have h_s_2 : Keeps m r s_2 := by
    unfold s_2
    refine modUnit_keeps (sub_trans rfl hm) h_s_1
  try clear_value s_2
  refine keeps_ite ?_ ?_
  · exact h_s_2
  · refine keeps_ite ?_ ?_
    · exact h_s_2
    · refine endSwatch_keeps (sub_trans rfl hm) h_s_2

theorem tryStart_keeps {m : Nat} {r : State} {p0 : State} {p1} (hm : 348929052 &&& m = 348929052) (h0_ : Keeps m r p0) : Keeps m r (@tryStart p0 p1) := by
  unfold tryStart
  refine keeps_ite ?_ ?_
  · refine startSwatch_keeps (sub_trans rfl hm) h0_
  · exact h0_

theorem orderSwatch_keeps {m : Nat} {r : State} {p0 : State} {p1} (hm : 348929052 &&& m = 348929052) (h0_ : Keeps m r p0) : Keeps m r (@orderSwatch p0 p1) := by
  unfold orderSwatch
  extract_lets -lift -merge -underBinder s_1
  have h_s_1 : Keeps m r s_1 := by
    unfold s_1
    refine modUnit_keeps (sub_trans rfl hm) h0_
  try clear_value s_1
  refine keeps_ite ?_ ?_
  · refine keeps_ite ?_ ?_
    · refine tryStart_keeps (sub_trans rfl hm) h_s_1
    · exact h_s_1
  · refine keeps_ite ?_ ?_
    · refine modUnit_keeps (sub_trans rfl hm) h_s_1
    · refine keeps_ite ?_ ?_
      · refine State_bump_keeps (sub_trans rfl hm) ?_
        · refine expelSlot_keeps (sub_trans rfl hm) h_s_1
      · refine tryStart_keeps (sub_trans rfl hm) h_s_1

theorem swatchOrder_keeps {m : Nat} {r : State} {p0} {p1} {p2} {p3 : State} (hm : 348929052 &&& m = 348929052) (h3_ : Keeps m r p3) : Keeps m r (@swatchOrder p0 p1 p2 p3) := by
  unfold swatchOrder
  refine keeps_ite ?_ ?_
  · refine State_deny_keeps (sub_trans rfl hm) h3_
  · refine keeps_ite ?_ ?_
    · refine State_answer_keeps (sub_trans rfl hm) h3_
    · refine keeps_ite ?_ ?_
      · refine State_answer_keeps (sub_trans rfl hm) h3_
      · split
        · refine State_answer_keeps (sub_trans rfl hm) h3_
        · refine State_answer_keeps (sub_trans rfl hm) ?_
          · refine orderSwatch_keeps (sub_trans rfl hm) h3_

theorem startExpelled_keeps {m : Nat} {r : State} {p0 : State} (hm : 348929052 &&& m = 348929052) (h0_ : Keeps m r p0) : Keeps m r (@startExpelled p0) := by
  unfold startExpelled
  refine keeps_foldl h0_ ?_
  · intro t_1 x_2 h_3
    refine keeps_ite ?_ ?_
    · refine tryStart_keeps (sub_trans rfl hm) h_3
    · exact h_3

theorem fenceForSwatch_keeps {m : Nat} {r : State} {p0 : State} (hm : 348929052 &&& m = 348929052) (h0_ : Keeps m r p0) : Keeps m r (@fenceForSwatch p0) := by
  unfold fenceForSwatch
  refine keeps_foldl h0_ ?_
  · intro t_1 x_2 h_3
    refine keeps_ite ?_ ?_
    · refine tryStart_keeps (sub_trans rfl hm) ?_
      · refine modUnit_keeps (sub_trans rfl hm) ?_
        · refine fenceTile_keeps (sub_trans rfl hm) h_3
    · exact h_3

theorem readmitTiles_keeps {m : Nat} {r : State} {p0 : State} (hm : 281806868 &&& m = 281806868) (h0_ : Keeps m r p0) : Keeps m r (@readmitTiles p0) := by
  unfold readmitTiles
  refine keeps_foldl h0_ ?_
  · intro t_1 x_2 h_3
    refine keeps_ite ?_ ?_
    · exact h_3
    · extract_lets -lift -merge -underBinder failed_4 s_5 s_6
      try clear_value failed_4
      have h_s_5 : Keeps m r s_5 := by
        unfold s_5
        refine modUnit_keeps (sub_trans rfl hm) h_3
      try clear_value s_5
      have h_s_6 : Keeps m r s_6 := by
        unfold s_6
        refine modKept_keeps (sub_trans rfl hm) h_s_5
      try clear_value s_6
      refine unfenceTile_keeps (sub_trans rfl hm) ?_
      · refine keeps_ite ?_ ?_
        · refine setLevel_keeps (sub_trans rfl hm) h_s_6
        · exact h_s_6

theorem takeSerial_keeps {m : Nat} {r : State} {p0 : State} {p1} {p2} (hm : 268959744 &&& m = 268959744) (h0_ : Keeps m r p0) : Keeps m r (@takeSerial p0 p1 p2) := by
  unfold takeSerial
  refine keeps_ite ?_ ?_
  · exact h0_
  · refine modUnit_keeps (sub_trans rfl hm) ?_
    · refine modKept_keeps (sub_trans rfl hm) h0_

theorem startNextTile_keeps {m : Nat} {r : State} {p0 : State} {p1} (hm : 348929052 &&& m = 348929052) (h0_ : Keeps m r p0) : Keeps m r (@startNextTile p0 p1) := by
  unfold startNextTile
  split
  · refine tryStart_keeps (sub_trans rfl hm) h0_
  · exact h0_

theorem swatchDue_keeps {m : Nat} {r : State} {p0} {p1 : State} (hm : 348929052 &&& m = 348929052) (h1_ : Keeps m r p1) : Keeps m r (@swatchDue p0 p1) := by
  unfold swatchDue
  refine keeps_ite ?_ ?_
  · exact h1_
  · extract_lets -lift -merge -underBinder s_1
    have h_s_1 : Keeps m r s_1 := by
      unfold s_1
      refine keeps_ite ?_ ?_
      · refine modUnit_keeps (sub_trans rfl hm) ?_
        · refine fenceTile_keeps (sub_trans rfl hm) h1_
      · exact h1_
    try clear_value s_1
    refine startSwatch_keeps (sub_trans rfl hm) h_s_1

theorem swatchEnd_keeps {m : Nat} {r : State} {p0} {p1} {p2} {p3} {p4} {p5 : State} (hm : 348929052 &&& m = 348929052) (h5_ : Keeps m r p5) : Keeps m r (@swatchEnd p0 p1 p2 p3 p4 p5) := by
  unfold swatchEnd
  refine keeps_ite ?_ ?_
  · exact h5_
  · extract_lets -lift -merge -underBinder s_1
    have h_s_1 : Keeps m r s_1 := by
      unfold s_1
      refine endSwatch_keeps (sub_trans rfl hm) h5_
    try clear_value s_1
    refine keeps_ite ?_ ?_
    · refine startNextTile_keeps (sub_trans rfl hm) h_s_1
    · exact h_s_1

/-! ## Integrity -/

theorem partitionReset_keeps {m : Nat} {r : State} {p0 : State} {p1} {p2} {p3} (hm : 348929052 &&& m = 348929052) (h0_ : Keeps m r p0) : Keeps m r (@partitionReset p0 p1 p2 p3) := by
  unfold partitionReset
  refine keeps_ite ?_ ?_
  · exact h0_
  · extract_lets -lift -merge -underBinder step_1 recent_2 s_3 s_4 s_5 __src_6 s_7 s_8 s_9 keep_10 __src_11 s_12 s_13 s_14
    try clear_value step_1
    try clear_value recent_2
    try clear_value keep_10
    have h_s_3 : Keeps m r s_3 := by
      unfold s_3
      refine State_wr_keeps (sub_trans rfl hm) ?_
      · refine State_bump_keeps (sub_trans rfl hm) h0_
    try clear_value s_3
    have h_s_4 : Keeps m r s_4 := by
      unfold s_4
      refine State_wr_keeps (sub_trans rfl hm) ?_
      · refine State_wr_keeps (sub_trans rfl hm) ?_
        · refine State_wr_keeps (sub_trans rfl hm) h_s_3
    try clear_value s_4
    have h_s_5 : Keeps m r s_5 := by
      unfold s_5
      refine State_wr_keeps (sub_trans rfl hm) ?_
      · refine State_wr_keeps (sub_trans rfl hm) h_s_4
    try clear_value s_5
    have h_s_7 : Keeps m r s_7 := by
      unfold s_7
      exact keeps_itg h_s_5 (sub_trans rfl hm) rfl rfl
    try clear_value s_7
    have h_s_8 : Keeps m r s_8 := by
      unfold s_8
      refine assertPerst_keeps (sub_trans rfl hm) h_s_7
    try clear_value s_8
    have h_s_9 : Keeps m r s_9 := by
      unfold s_9
      refine keeps_foldl h_s_8 ?_
      · intro t_15 x_16 h_17
        refine timeoutCtx_keeps (sub_trans rfl hm) h_17
    try clear_value s_9
    have h_s_12 : Keeps m r s_12 := by
      unfold s_12
      exact keeps_mem h_s_9 (sub_trans rfl hm) rfl
    try clear_value s_12
    have h_s_13 : Keeps m r s_13 := by
      unfold s_13
      refine keeps_foldl h_s_12 ?_
      · intro t_18 x_19 h_20
        refine modUnit_keeps (sub_trans rfl hm) ?_
        · refine fenceTile_keeps (sub_trans rfl hm) h_20
    try clear_value s_13
    have h_s_14 : Keeps m r s_14 := by
      unfold s_14
      refine State_err_keeps (sub_trans rfl hm) h_s_13
    try clear_value s_14
    refine keeps_ite ?_ ?_
    · refine writeOff_keeps (sub_trans rfl hm) h_s_14
    · exact h_s_14

theorem nativeContain_keeps {m : Nat} {r : State} {p0 : State} {p1} {p2} (hm : 352067548 &&& m = 352067548) (h0_ : Keeps m r p0) : Keeps m r (@nativeContain p0 p1 p2) := by
  unfold nativeContain
  refine keeps_ite ?_ ?_
  · exact h0_
  · extract_lets -lift -merge -underBinder step_1 recent_2 latch_3 s_4 s_5 s_6 up_7 __src_8 s_9 s_10 s_11 s_12
    try clear_value step_1
    try clear_value recent_2
    try clear_value latch_3
    try clear_value up_7
    have h_s_4 : Keeps m r s_4 := by
      unfold s_4
      refine State_wr_keeps (sub_trans rfl hm) ?_
      · refine State_bump_keeps (sub_trans rfl hm) h0_
    try clear_value s_4
    have h_s_5 : Keeps m r s_5 := by
      unfold s_5
      refine State_wr_keeps (sub_trans rfl hm) ?_
      · refine State_wr_keeps (sub_trans rfl hm) ?_
        · refine State_wr_keeps (sub_trans rfl hm) h_s_4
    try clear_value s_5
    have h_s_6 : Keeps m r s_6 := by
      unfold s_6
      refine State_wr_keeps (sub_trans rfl hm) ?_
      · refine State_wr_keeps (sub_trans rfl hm) h_s_5
    try clear_value s_6
    have h_s_9 : Keeps m r s_9 := by
      unfold s_9
      exact keeps_itg h_s_6 (sub_trans rfl hm) rfl rfl
    try clear_value s_9
    have h_s_10 : Keeps m r s_10 := by
      unfold s_10
      refine keeps_ite ?_ ?_
      · refine resetDie_keeps (sub_trans rfl hm) h_s_9
      · exact h_s_9
    try clear_value s_10
    have h_s_11 : Keeps m r s_11 := by
      unfold s_11
      refine keeps_ite ?_ ?_
      · refine resetDie_keeps (sub_trans rfl hm) h_s_10
      · exact h_s_10
    try clear_value s_11
    have h_s_12 : Keeps m r s_12 := by
      unfold s_12
      refine State_err_keeps (sub_trans rfl hm) h_s_11
    try clear_value s_12
    refine keeps_ite ?_ ?_
    · refine State_err_keeps (sub_trans rfl hm) ?_
      · refine State_wr_keeps (sub_trans rfl hm) h_s_12
    · exact h_s_12

theorem contain_keeps {m : Nat} {r : State} {p0 : State} {p1} {p2} {p3} (hm : 352075740 &&& m = 352075740) (h0_ : Keeps m r p0) : Keeps m r (@contain p0 p1 p2 p3) := by
  unfold contain
  refine keeps_ite ?_ ?_
  · split
    · refine keeps_ite ?_ ?_
      · exact h0_
      · refine partitionReset_keeps (sub_trans rfl hm) h0_
    · refine nativeContain_keeps (sub_trans rfl hm) h0_
  · refine nativeContain_keeps (sub_trans rfl hm) h0_

theorem parityMismatch_keeps {m : Nat} {r : State} {p0 : State} {p1} {p2} {p3} {p4} {p5} {p6} (hm : 281807892 &&& m = 281807892) (h0_ : Keeps m r p0) : Keeps m r (@parityMismatch p0 p1 p2 p3 p4 p5 p6) := by
  unfold parityMismatch
  extract_lets -lift -merge -underBinder s_1 s_2
  have h_s_1 : Keeps m r s_1 := by
    unfold s_1
    refine State_wr_keeps (sub_trans rfl hm) ?_
    · refine State_bump_keeps (sub_trans rfl hm) h0_
  try clear_value s_1
  have h_s_2 : Keeps m r s_2 := by
    unfold s_2
    refine State_err_keeps (sub_trans rfl hm) h_s_1
  try clear_value s_2
  refine unitFault_keeps (sub_trans rfl hm) h_s_2

theorem bridgeResend_keeps {m : Nat} {r : State} {p0 : State} {p1} {p2} {p3} (hm : 352075740 &&& m = 352075740) (h0_ : Keeps m r p0) : Keeps m r (@bridgeResend p0 p1 p2 p3) := by
  unfold bridgeResend
  extract_lets -lift -merge -underBinder __src_1 s_2 unit_3 s_4 s_5
  try clear_value unit_3
  have h_s_2 : Keeps m r s_2 := by
    unfold s_2
    exact keeps_itg h0_ (sub_trans rfl hm) rfl rfl
  try clear_value s_2
  have h_s_4 : Keeps m r s_4 := by
    unfold s_4
    refine State_wr_keeps (sub_trans rfl hm) ?_
    · refine State_bump_keeps (sub_trans rfl hm) h_s_2
  try clear_value s_4
  have h_s_5 : Keeps m r s_5 := by
    unfold s_5
    refine State_err_keeps (sub_trans rfl hm) h_s_4
  try clear_value s_5
  refine keeps_ite ?_ ?_
  · exact h_s_2
  · refine contain_keeps (sub_trans rfl hm) h_s_5

theorem residueFailure_keeps {m : Nat} {r : State} {p0 : State} {p1} {p2} {p3} {p4} {p5} {p6} (hm : 281807892 &&& m = 281807892) (h0_ : Keeps m r p0) : Keeps m r (@residueFailure p0 p1 p2 p3 p4 p5 p6) := by
  unfold residueFailure
  extract_lets -lift -merge -underBinder s_1 unit_2 s_3
  try clear_value unit_2
  have h_s_1 : Keeps m r s_1 := by
    unfold s_1
    refine State_wr_keeps (sub_trans rfl hm) ?_
    · refine State_bump_keeps (sub_trans rfl hm) h0_
  try clear_value s_1
  have h_s_3 : Keeps m r s_3 := by
    unfold s_3
    refine State_err_keeps (sub_trans rfl hm) h_s_1
  try clear_value s_3
  refine unitFault_keeps (sub_trans rfl hm) h_s_3

theorem innerCorrected_keeps {m : Nat} {r : State} {p0 : State} {p1} {p2} (hm : 2048 &&& m = 2048) (h0_ : Keeps m r p0) : Keeps m r (@innerCorrected p0 p1 p2) := by
  unfold innerCorrected
  extract_lets -lift -merge -underBinder unit_1
  try clear_value unit_1
  refine keeps_ite ?_ ?_
  · refine modMemStat_keeps (sub_trans rfl hm) h0_
  · exact h0_

theorem correctedError_keeps {m : Nat} {r : State} {p0 : State} {p1} {p2} {p3} {p4} (hm : 12847124 &&& m = 12847124) (h0_ : Keeps m r p0) : Keeps m r (@correctedError p0 p1 p2 p3 p4) := by
  unfold correctedError
  extract_lets -lift -merge -underBinder unit_1 s_2 s_3 __src_4 s_5 __src_6
  try clear_value unit_1
  have h_s_2 : Keeps m r s_2 := by
    unfold s_2
    refine State_wr_keeps (sub_trans rfl hm) ?_
    · refine State_bump_keeps (sub_trans rfl hm) h0_
  try clear_value s_2
  have h_s_3 : Keeps m r s_3 := by
    unfold s_3
    refine modMemStat_keeps (sub_trans rfl hm) h_s_2
  try clear_value s_3
  have h_s_5 : Keeps m r s_5 := by
    unfold s_5
    exact keeps_mem h_s_3 (sub_trans rfl hm) rfl
  try clear_value s_5
  refine keeps_ite ?_ ?_
  · refine State_err_keeps (sub_trans rfl hm) ?_
    · exact keeps_itg h_s_5 (sub_trans rfl hm) rfl rfl
  · exact h_s_5

theorem poolUncorrectable_keeps {m : Nat} {r : State} {p0 : State} {p1} {p2} {p3} {p4} (hm : 352075740 &&& m = 352075740) (h0_ : Keeps m r p0) : Keeps m r (@poolUncorrectable p0 p1 p2 p3 p4) := by
  unfold poolUncorrectable
  extract_lets -lift -merge -underBinder unit_1 s_2 s_3 s_4 s_5
  try clear_value unit_1
  have h_s_2 : Keeps m r s_2 := by
    unfold s_2
    refine State_wr_keeps (sub_trans rfl hm) ?_
    · refine State_bump_keeps (sub_trans rfl hm) h0_
  try clear_value s_2
  have h_s_3 : Keeps m r s_3 := by
    unfold s_3
    refine modMemStat_keeps (sub_trans rfl hm) h_s_2
  try clear_value s_3
  have h_s_4 : Keeps m r s_4 := by
    unfold s_4
    refine markPoison_keeps (sub_trans rfl hm) h_s_3
  try clear_value s_4
  have h_s_5 : Keeps m r s_5 := by
    unfold s_5
    refine State_err_keeps (sub_trans rfl hm) h_s_4
  try clear_value s_5
  refine keeps_ite ?_ ?_
  · exact h_s_5
  · refine contain_keeps (sub_trans rfl hm) h_s_5

theorem hubLatchRelease_keeps {m : Nat} {r : State} {p0} {p1 : State} (hm : 20 &&& m = 20) (h1_ : Keeps m r p1) : Keeps m r (@hubLatchRelease p0 p1) := by
  unfold hubLatchRelease
  refine keeps_ite ?_ ?_
  · refine State_deny_keeps (sub_trans rfl hm) h1_
  · refine State_answer_keeps (sub_trans rfl hm) ?_
    · refine State_wr_keeps (sub_trans rfl hm) h1_

theorem containOver_keeps {m : Nat} {r : State} {p0 : State} (hm : 262148 &&& m = 262148) (h0_ : Keeps m r p0) : Keeps m r (@containOver p0) := by
  unfold containOver
  refine keeps_ite ?_ ?_
  · exact h0_
  · refine State_wr_keeps (sub_trans rfl hm) ?_
    · exact keeps_itg h0_ (sub_trans rfl hm) rfl rfl

theorem correctionWriteback_keeps {m : Nat} {r : State} {p0} {p1 : State} (hm : 2048 &&& m = 2048) (h1_ : Keeps m r p1) : Keeps m r (@correctionWriteback p0 p1) := by
  unfold correctionWriteback
  exact keeps_mem h1_ (sub_trans rfl hm) rfl

theorem crossFailure_keeps {m : Nat} {r : State} {p0 : State} {p1} {p2} {p3} {p4} (hm : 12845076 &&& m = 12845076) (h0_ : Keeps m r p0) : Keeps m r (@crossFailure p0 p1 p2 p3 p4) := by
  unfold crossFailure
  extract_lets -lift -merge -underBinder s_1
  have h_s_1 : Keeps m r s_1 := by
    unfold s_1
    refine State_wr_keeps (sub_trans rfl hm) ?_
    · refine State_bump_keeps (sub_trans rfl hm) h0_
  try clear_value s_1
  refine State_err_keeps (sub_trans rfl hm) h_s_1

theorem crossCheckMissing_keeps {m : Nat} {r : State} {p0 : State} (hm : 12845076 &&& m = 12845076) (h0_ : Keeps m r p0) : Keeps m r (@crossCheckMissing p0) := by
  unfold crossCheckMissing
  extract_lets -lift -merge -underBinder d_1 since_2 __src_3
  try clear_value d_1
  try clear_value since_2
  refine keeps_ite ?_ ?_
  · exact h0_
  · refine crossFailure_keeps (sub_trans rfl hm) ?_
    · exact keeps_itg h0_ (sub_trans rfl hm) rfl rfl

theorem crossCheckReport_keeps {m : Nat} {r : State} {p0} {p1} {p2} {p3} {p4 : State} (hm : 12845076 &&& m = 12845076) (h4_ : Keeps m r p4) : Keeps m r (@crossCheckReport p0 p1 p2 p3 p4) := by
  unfold crossCheckReport
  refine keeps_ite ?_ ?_
  · exact h4_
  · extract_lets -lift -merge -underBinder d_1 w050977 w150979 bad_2 __src_3 s_4
    try clear_value d_1
    try clear_value w050977
    try clear_value w150979
    try clear_value bad_2
    have h_s_4 : Keeps m r s_4 := by
      unfold s_4
      exact keeps_itg h4_ (sub_trans rfl hm) rfl rfl
    try clear_value s_4
    split
    · exact keeps_itg h_s_4 (sub_trans rfl hm) rfl rfl
    · extract_lets -lift -merge -underBinder n_5 __src_6 s_7
      try clear_value n_5
      have h_s_7 : Keeps m r s_7 := by
        unfold s_7
        exact keeps_itg h_s_4 (sub_trans rfl hm) rfl rfl
      try clear_value s_7
      refine keeps_ite ?_ ?_
      · refine crossFailure_keeps (sub_trans rfl hm) h_s_7
      · exact h_s_7

theorem memoryRetrainComplete_keeps {m : Nat} {r : State} {p0 : State} (hm : 262148 &&& m = 262148) (h0_ : Keeps m r p0) : Keeps m r (@memoryRetrainComplete p0) := by
  unfold memoryRetrainComplete
  refine keeps_ite ?_ ?_
  · refine containOver_keeps (sub_trans rfl hm) ?_
    · exact keeps_itg h0_ (sub_trans rfl hm) rfl rfl
  · exact h0_

theorem partitionWipeComplete_keeps {m : Nat} {r : State} {p0} {p1 : State} (hm : 348929052 &&& m = 348929052) (h1_ : Keeps m r p1) : Keeps m r (@partitionWipeComplete p0 p1) := by
  unfold partitionWipeComplete
  refine keeps_ite ?_ ?_
  · exact h1_
  · extract_lets -lift -merge -underBinder mine_1 __src_2 s_3 __src_4 s_5 s_6 s_7
    try clear_value mine_1
    have h_s_3 : Keeps m r s_3 := by
      unfold s_3
      exact keeps_pool (b := 2048) h1_ (sub_trans rfl hm) (by intro p hp; cases p <;> first | rfl | cases hp) (fun hw => wf_filter _ _ hw) rfl rfl rfl rfl rfl
    try clear_value s_3
    have h_s_5 : Keeps m r s_5 := by
      unfold s_5
      exact keeps_itg h_s_3 (sub_trans rfl hm) rfl rfl
    try clear_value s_5
    have h_s_6 : Keeps m r s_6 := by
      unfold s_6
      refine State_wr_keeps (sub_trans rfl hm) h_s_5
    try clear_value s_6
    have h_s_7 : Keeps m r s_7 := by
      unfold s_7
      refine startNextTile_keeps (sub_trans rfl hm) ?_
      · refine startNextTile_keeps (sub_trans rfl hm) h_s_6
    try clear_value s_7
    refine schedulePerst_keeps (sub_trans rfl hm) h_s_7

theorem sramUncorrectable_keeps {m : Nat} {r : State} {p0 : State} {p1} {p2} {p3} {p4} {p5} (hm : 352075740 &&& m = 352075740) (h0_ : Keeps m r p0) : Keeps m r (@sramUncorrectable p0 p1 p2 p3 p4 p5) := by
  unfold sramUncorrectable
  extract_lets -lift -merge -underBinder unit_1 s_2 s_3 s_4 s_5
  try clear_value unit_1
  have h_s_2 : Keeps m r s_2 := by
    unfold s_2
    refine State_wr_keeps (sub_trans rfl hm) ?_
    · refine State_bump_keeps (sub_trans rfl hm) h0_
  try clear_value s_2
  have h_s_3 : Keeps m r s_3 := by
    unfold s_3
    refine State_bump_keeps (sub_trans rfl hm) h_s_2
  try clear_value s_3
  have h_s_4 : Keeps m r s_4 := by
    unfold s_4
    refine State_err_keeps (sub_trans rfl hm) h_s_3
  try clear_value s_4
  have h_s_5 : Keeps m r s_5 := by
    unfold s_5
    refine keeps_ite ?_ ?_
    · refine unitFault_keeps (sub_trans rfl hm) h_s_4
    · exact h_s_4
  try clear_value s_5
  refine contain_keeps (sub_trans rfl hm) h_s_5

theorem wordCorrected_keeps {m : Nat} {r : State} {p0 : State} {p1} {p2} {p3} {p4} {p5} (hm : 12845076 &&& m = 12845076) (h0_ : Keeps m r p0) : Keeps m r (@wordCorrected p0 p1 p2 p3 p4 p5) := by
  unfold wordCorrected
  extract_lets -lift -merge -underBinder s_1 key_2 __src_3
  try clear_value key_2
  have h_s_1 : Keeps m r s_1 := by
    unfold s_1
    refine State_wr_keeps (sub_trans rfl hm) ?_
    · refine State_bump_keeps (sub_trans rfl hm) h0_
  try clear_value s_1
  refine keeps_ite ?_ ?_
  · exact h_s_1
  · refine State_err_keeps (sub_trans rfl hm) ?_
    · exact keeps_itg h_s_1 (sub_trans rfl hm) rfl rfl

theorem scrubRead_keeps {m : Nat} {r : State} {p0} {p1} {p2 : State} (hm : 352075740 &&& m = 352075740) (h2_ : Keeps m r p2) : Keeps m r (@scrubRead p0 p1 p2) := by
  unfold scrubRead
  extract_lets -lift -merge -underBinder off_1 s_2 s_3
  try clear_value off_1
  have h_s_2 : Keeps m r s_2 := by
    unfold s_2
    refine keeps_ite ?_ ?_
    · refine State_wr_keeps (sub_trans rfl hm) h2_
    · refine State_wr_keeps (sub_trans rfl hm) h2_
  try clear_value s_2
  have h_s_3 : Keeps m r s_3 := by
    unfold s_3
    refine keeps_ite ?_ ?_
    · refine State_wr_keeps (sub_trans rfl hm) ?_
      · refine State_wr_keeps (sub_trans rfl hm) ?_
        · refine State_wr_keeps (sub_trans rfl hm) h_s_2
    · exact h_s_2
  try clear_value s_3
  refine keeps_ite ?_ ?_
  · exact h2_
  · refine keeps_ite ?_ ?_
    · exact h_s_3
    · split
      · refine innerCorrected_keeps (sub_trans rfl hm) h_s_3
      · refine correctedError_keeps (sub_trans rfl hm) h_s_3
      · refine poolUncorrectable_keeps (sub_trans rfl hm) h_s_3
      · exact h_s_3

/-! ## OpenTraffic -/

theorem accOpenResponse_keeps {m : Nat} {r : State} {p0} {p1} {p2} {p3} {p4 : State} (hm : 12851228 &&& m = 12851228) (h4_ : Keeps m r p4) : Keeps m r (@accOpenResponse p0 p1 p2 p3 p4) := by
  unfold accOpenResponse
  split
  · exact h4_
  · split
    · refine keeps_ite ?_ ?_
      · refine finishOpenHint_keeps (sub_trans rfl hm) ?_
        · refine State_openIn_keeps (sub_trans rfl hm) h4_
      · exact h4_
    · exact h4_

theorem forwardOn_keeps {m : Nat} {r : State} {p0 : State} {p1} (hm : 6160 &&& m = 6160) (h0_ : Keeps m r p0) : Keeps m r (@forwardOn p0 p1) := by
  unfold forwardOn
  refine keeps_ite ?_ ?_
  · exact keeps_mem h0_ (sub_trans rfl hm) rfl
  · refine State_send_keeps (sub_trans rfl hm) ?_
    · refine keeps_foldl h0_ ?_
      · intro t_1 x_2 h_3
        refine spend_keeps (sub_trans rfl hm) h_3

theorem passOn_keeps {m : Nat} {r : State} {p0 : State} {p1} (hm : 12851228 &&& m = 12851228) (h0_ : Keeps m r p0) : Keeps m r (@passOn p0 p1) := by
  unfold passOn
  refine keeps_ite ?_ ?_
  · refine answerOpen_keeps (sub_trans rfl hm) h0_
  · split
    · exact h0_
    · extract_lets -lift -merge -underBinder l_1 c_2 n_3 inn_4 out_5 __src_6 s_7 s_8
      try clear_value l_1
      try clear_value c_2
      try clear_value n_3
      try clear_value inn_4
      try clear_value out_5
      have h_s_7 : Keeps m r s_7 := by
        unfold s_7
        exact keeps_mem h0_ (sub_trans rfl hm) rfl
      try clear_value s_7
      have h_s_8 : Keeps m r s_8 := by
        unfold s_8
        refine State_modLink_keeps (sub_trans rfl hm) h_s_7
      try clear_value s_8
      refine forwardOn_keeps (sub_trans rfl hm) h_s_8

theorem joinQueue_keeps {m : Nat} {r : State} {p0 : State} {p1} (hm : 2052 &&& m = 2052) (h0_ : Keeps m r p0) : Keeps m r (@joinQueue p0 p1) := by
  unfold joinQueue
  extract_lets -lift -merge -underBinder w_1 q_2 __src_3 s_4
  try clear_value w_1
  try clear_value q_2
  have h_s_4 : Keeps m r s_4 := by
    unfold s_4
    exact keeps_mem h0_ (sub_trans rfl hm) rfl
  try clear_value s_4
  refine State_wrDies_keeps (sub_trans rfl hm) h_s_4

theorem enterOpen_keeps {m : Nat} {r : State} {p0} {p1 : State} (hm : 12851228 &&& m = 12851228) (h1_ : Keeps m r p1) : Keeps m r (@enterOpen p0 p1) := by
  unfold enterOpen
  refine keeps_ite ?_ ?_
  · exact h1_
  · extract_lets -lift -merge -underBinder r_1 s_2
    try clear_value r_1
    have h_s_2 : Keeps m r s_2 := by
      unfold s_2
      refine State_modLink_keeps (sub_trans rfl hm) h1_
    try clear_value s_2
    refine keeps_ite ?_ ?_
    · refine passOn_keeps (sub_trans rfl hm) h_s_2
    · split
      · extract_lets -lift -merge -underBinder s_3
        have h_s_3 : Keeps m r s_3 := by
          unfold s_3
          refine keeps_ite ?_ ?_
          · refine State_wr_keeps (sub_trans rfl hm) h_s_2
          · exact h_s_2
        try clear_value s_3
        refine answerOpen_keeps (sub_trans rfl hm) h_s_3
      · refine joinQueue_keeps (sub_trans rfl hm) h_s_2

theorem passBack_keeps {m : Nat} {r : State} {p0 : State} {p1} {p2} {p3} {p4} {p5} (hm : 6160 &&& m = 6160) (h0_ : Keeps m r p0) : Keeps m r (@passBack p0 p1 p2 p3 p4 p5) := by
  unfold passBack
  split
  · exact h0_
  · extract_lets -lift -merge -underBinder __src_1 s_2 s_3
    have h_s_2 : Keeps m r s_2 := by
      unfold s_2
      exact keeps_mem h0_ (sub_trans rfl hm) rfl
    try clear_value s_2
    have h_s_3 : Keeps m r s_3 := by
      unfold s_3
      split
      · refine State_openIn_keeps (sub_trans rfl hm) h_s_2
      · exact h_s_2
    try clear_value s_3
    refine State_send_keeps (sub_trans rfl hm) ?_
    · refine State_modLink_keeps (sub_trans rfl hm) h_s_3

theorem openResponse_keeps {m : Nat} {r : State} {p0} {p1} {p2} {p3} {p4} {p5 : State} (hm : 12851228 &&& m = 12851228) (h5_ : Keeps m r p5) : Keeps m r (@openResponse p0 p1 p2 p3 p4 p5) := by
  unfold openResponse
  split
  · refine passBack_keeps (sub_trans rfl hm) h5_
  · split
    · refine keeps_ite ?_ ?_
      · refine finishOpenHint_keeps (sub_trans rfl hm) ?_
        · refine State_openIn_keeps (sub_trans rfl hm) h5_
      · exact h5_
    · exact h5_

theorem memOpenCfgWrite_keeps {m : Nat} {r : State} {p0} {p1} {p2} {p3} {p4 : State} (hm : 20 &&& m = 20) (h4_ : Keeps m r p4) : Keeps m r (@memOpenCfgWrite p0 p1 p2 p3 p4) := by
  unfold memOpenCfgWrite
  refine State_gateDie_keeps (sub_trans rfl hm) h4_ ?_
  · intro a_1 h_2
    refine State_hostGate_keeps (sub_trans rfl hm) h_2 ?_
    · intro a_3 h_4
      refine keeps_ite ?_ ?_
      · refine State_answer_keeps (sub_trans rfl hm) h_4
      · extract_lets -lift -merge -underBinder s_5
        have h_s_5 : Keeps m r s_5 := by
          unfold s_5
          refine State_onDies_keeps (sub_trans rfl hm) h_4 ?_
          · intro a_6 a_7 h_8
            refine State_wr_keeps (sub_trans rfl hm) ?_
            · refine State_wr_keeps (sub_trans rfl hm) h_8
        try clear_value s_5
        refine State_answer_keeps (sub_trans rfl hm) h_s_5

theorem drainCrossing_keeps {m : Nat} {r : State} {p0 : State} (hm : 6160 &&& m = 6160) (h0_ : Keeps m r p0) : Keeps m r (@drainCrossing p0) := by
  unfold drainCrossing
  refine keeps_foldl ?_ ?_
  · exact keeps_mem h0_ (sub_trans rfl hm) rfl
  · intro t_1 x_2 h_3
    refine forwardOn_keeps (sub_trans rfl hm) h_3

theorem takeContext_keeps {m : Nat} {r : State} {p0 : State} {p1} {p2} {p3} {p4} {p5} {p6} (hm : 2052 &&& m = 2052) (h0_ : Keeps m r p0) : Keeps m r (@takeContext p0 p1 p2 p3 p4 p5 p6) := by
  unfold takeContext
  extract_lets -lift -merge -underBinder s_1 c_2 __src_3 s_4 s_5 cfg_6 s_7 n_8 s_9
  try clear_value c_2
  try clear_value cfg_6
  try clear_value n_8
  have h_s_1 : Keeps m r s_1 := by
    unfold s_1
    refine keeps_foldl h0_ ?_
    · intro t_10 x_11 h_12
      refine spend_keeps (sub_trans rfl hm) h_12
  try clear_value s_1
  have h_s_4 : Keeps m r s_4 := by
    unfold s_4
    exact keeps_mem h_s_1 (sub_trans rfl hm) rfl
  try clear_value s_4
  have h_s_5 : Keeps m r s_5 := by
    unfold s_5
    refine State_wrDies_keeps (sub_trans rfl hm) h_s_4
  try clear_value s_5
  have h_s_7 : Keeps m r s_7 := by
    unfold s_7
    refine keeps_ite ?_ ?_
    · refine State_wrDies_keeps (sub_trans rfl hm) h_s_5
    · exact h_s_5
  try clear_value s_7
  have h_s_9 : Keeps m r s_9 := by
    unfold s_9
    refine State_wr_keeps (sub_trans rfl hm) h_s_7
  try clear_value s_9
  refine keeps_ite ?_ ?_
  · refine State_wr_keeps (sub_trans rfl hm) h_s_9
  · exact h_s_9

theorem sendRequest_keeps {m : Nat} {r : State} {p0 : State} {p1} {p2} {p3} (hm : 4112 &&& m = 4112) (h0_ : Keeps m r p0) : Keeps m r (@sendRequest p0 p1 p2 p3) := by
  unfold sendRequest
  refine State_send_keeps (sub_trans rfl hm) ?_
  · refine State_modLink_keeps (sub_trans rfl hm) h0_

theorem openDispatch_keeps {m : Nat} {r : State} {p0} {p1 : State} (hm : 12851228 &&& m = 12851228) (h1_ : Keeps m r p1) : Keeps m r (@openDispatch p0 p1) := by
  unfold openDispatch
  refine keeps_ite ?_ ?_
  · exact h1_
  · extract_lets -lift -merge -underBinder s_1
    have h_s_1 : Keeps m r s_1 := by
      unfold s_1
      refine drainCrossing_keeps (sub_trans rfl hm) h1_
    try clear_value s_1
    refine keeps_ite ?_ ?_
    · exact h_s_1
    · split
      · exact h_s_1
      · split
        · exact h_s_1
        · extract_lets -lift -merge -underBinder link_2 s_3
          try clear_value link_2
          have h_s_3 : Keeps m r s_3 := by
            unfold s_3
            refine takeContext_keeps (sub_trans rfl hm) h_s_1
          try clear_value s_3
          split
          · exact h_s_3
          · refine keeps_ite ?_ ?_
            · split
              · refine finishOpen_keeps (sub_trans rfl hm) h_s_3
              · refine sendRequest_keeps (sub_trans rfl hm) h_s_3
            · refine sendRequest_keeps (sub_trans rfl hm) h_s_3

theorem openTimeout_keeps {m : Nat} {r : State} {p0} {p1 : State} (hm : 12851228 &&& m = 12851228) (h1_ : Keeps m r p1) : Keeps m r (@openTimeout p0 p1) := by
  unfold openTimeout
  extract_lets -lift -merge -underBinder due_1
  try clear_value due_1
  split
  · refine keeps_ite ?_ ?_
    · exact h1_
    · extract_lets -lift -merge -underBinder s_2
      have h_s_2 : Keeps m r s_2 := by
        unfold s_2
        refine State_wr_keeps (sub_trans rfl hm) ?_
        · refine State_bump_keeps (sub_trans rfl hm) h1_
      try clear_value s_2
      refine timeoutCtx_keeps (sub_trans rfl hm) h_s_2
  · split
    · refine keeps_ite ?_ ?_
      · exact keeps_mem h1_ (sub_trans rfl hm) rfl
      · exact h1_
    · split
      · exact h1_
      · split
        · exact h1_
        · extract_lets -lift -merge -underBinder d_3 __src_4 s_5 s_6 s_7
          try clear_value d_3
          have h_s_5 : Keeps m r s_5 := by
            unfold s_5
            exact keeps_mem h1_ (sub_trans rfl hm) rfl
          try clear_value s_5
          have h_s_6 : Keeps m r s_6 := by
            unfold s_6
            refine State_wrDies_keeps (sub_trans rfl hm) h_s_5
          try clear_value s_6
          have h_s_7 : Keeps m r s_7 := by
            unfold s_7
            refine State_wr_keeps (sub_trans rfl hm) ?_
            · refine State_bump_keeps (sub_trans rfl hm) h_s_6
          try clear_value s_7
          refine keeps_ite ?_ ?_
          · exact h1_
          · refine answerOpen_keeps (sub_trans rfl hm) h_s_7

/-! ## Links -/

theorem clearLatchedLink_keeps {m : Nat} {r : State} {p0 : State} {p1} (hm : 4100 &&& m = 4100) (h0_ : Keeps m r p0) : Keeps m r (@clearLatchedLink p0 p1) := by
  unfold clearLatchedLink
  refine keeps_ite ?_ ?_
  · refine State_setLinkState_keeps (sub_trans rfl hm) ?_
    · refine State_modLink_keeps (sub_trans rfl hm) h0_
  · refine keeps_ite ?_ ?_
    · refine State_modLink_keeps (sub_trans rfl hm) h0_
    · exact h0_

theorem accPresentEvent_keeps {m : Nat} {r : State} {p0} {p1 : State} (hm : 12292 &&& m = 12292) (h1_ : Keeps m r p1) : Keeps m r (@accPresentEvent p0 p1) := by
  unfold accPresentEvent
  refine keeps_ite ?_ ?_
  · exact h1_
  · extract_lets -lift -merge -underBinder __src_1 s_2 d_3
    try clear_value d_3
    have h_s_2 : Keeps m r s_2 := by
      unfold s_2
      exact keeps_seq h1_ (sub_trans rfl hm)
    try clear_value s_2
    refine keeps_ite ?_ ?_
    · refine State_modLink_keeps (sub_trans rfl hm) h_s_2
    · refine clearLatchedLink_keeps (sub_trans rfl hm) h_s_2

theorem replayStore_keeps {m : Nat} {r : State} {p0 : State} {p1} (hm : 4116 &&& m = 4116) (h0_ : Keeps m r p0) : Keeps m r (@replayStore p0 p1) := by
  unfold replayStore
  extract_lets -lift -merge -underBinder s_1
  have h_s_1 : Keeps m r s_1 := by
    unfold s_1
    refine State_modLink_keeps (sub_trans rfl hm) h0_
  try clear_value s_1
  refine keeps_foldl ?_ ?_
  · refine State_bump_keeps (sub_trans rfl hm) h_s_1
  · intro t_2 x_3 h_4
    refine emitFlit_keeps (sub_trans rfl hm) h_4

theorem headerFields_keeps {m : Nat} {r : State} {p0 : State} {p1} {p2} {p3} (hm : 12852252 &&& m = 12852252) (h0_ : Keeps m r p0) : Keeps m r (@headerFields p0 p1 p2 p3) := by
  unfold headerFields
  extract_lets -lift -merge -underBinder ack_1 s_2 k_3
  try clear_value ack_1
  try clear_value k_3
  have h_s_2 : Keeps m r s_2 := by
    unfold s_2
    refine State_modLink_keeps (sub_trans rfl hm) h0_
  try clear_value s_2
  refine keeps_ite ?_ ?_
  · exact h_s_2
  · refine keeps_ite ?_ ?_
    · refine linkDown_keeps (sub_trans rfl hm) h_s_2
    · refine keeps_ite ?_ ?_
      · exact h_s_2
      · refine replayStore_keeps (sub_trans rfl hm) ?_
        · refine State_modLink_keeps (sub_trans rfl hm) h_s_2

theorem hint_keeps {m : Nat} {r : State} {p0} {p1} {p2} {p3} {p4} {p5 : State} (hm : 49172 &&& m = 49172) (h5_ : Keeps m r p5) : Keeps m r (@hint p0 p1 p2 p3 p4 p5) := by
  unfold hint
  refine hintMessage_keeps (sub_trans rfl hm) h5_

theorem activity_keeps {m : Nat} {r : State} {p0} {p1} {p2} {p3} {p4} {p5 : State} (hm : 20488 &&& m = 20488) (h5_ : Keeps m r p5) : Keeps m r (@activity p0 p1 p2 p3 p4 p5) := by
  unfold activity
  refine keeps_ite ?_ ?_
  · exact h5_
  · extract_lets -lift -merge -underBinder s_1
    have h_s_1 : Keeps m r s_1 := by
      unfold s_1
      refine State_modLink_keeps (sub_trans rfl hm) h5_
    try clear_value s_1
    refine activityPower_keeps (sub_trans rfl hm) h_s_1

theorem mgmtForwardOn_keeps {m : Nat} {r : State} {p0 : State} {p1} {p2} {p3} {p4} {p5} (hm : 6160 &&& m = 6160) (h0_ : Keeps m r p0) : Keeps m r (@mgmtForwardOn p0 p1 p2 p3 p4 p5) := by
  unfold mgmtForwardOn
  extract_lets -lift -merge -underBinder on_1
  have h_on_1 : ∀ a_2, Keeps m r (on_1 a_2) := by
    intro a_2
    unfold on_1
    extract_lets -lift -merge -underBinder n_3
    try clear_value n_3
    refine forwardOn_keeps (sub_trans rfl hm) h0_
  try clear_value on_1
  refine keeps_ite ?_ ?_
  · refine keeps_ite ?_ ?_
    · refine h_on_1 _
    · exact h0_
  · split
    · exact h0_
    · refine h_on_1 _

theorem mgmtReq_keeps {m : Nat} {r : State} {p0} {p1} {p2} {p3} {p4 : State} (hm : 12852252 &&& m = 12852252) (h4_ : Keeps m r p4) : Keeps m r (@mgmtReq p0 p1 p2 p3 p4) := by
  unfold mgmtReq
  refine keeps_ite ?_ ?_
  · exact h4_
  · refine keeps_ite ?_ ?_
    · refine linkDown_keeps (sub_trans rfl hm) h4_
    · refine keeps_ite ?_ ?_
      · refine State_bump_keeps (sub_trans rfl hm) h4_
      · refine keeps_ite ?_ ?_
        · refine State_emit_keeps (sub_trans rfl hm) h4_
        · refine mgmtForwardOn_keeps (sub_trans rfl hm) h4_

theorem mgmtResp_keeps {m : Nat} {r : State} {p0} {p1} {p2} {p3} {p4 : State} (hm : 12852252 &&& m = 12852252) (h4_ : Keeps m r p4) : Keeps m r (@mgmtResp p0 p1 p2 p3 p4) := by
  unfold mgmtResp
  refine keeps_ite ?_ ?_
  · exact h4_
  · refine keeps_ite ?_ ?_
    · refine linkDown_keeps (sub_trans rfl hm) h4_
    · refine keeps_ite ?_ ?_
      · refine State_bump_keeps (sub_trans rfl hm) h4_
      · refine mgmtForwardOn_keeps (sub_trans rfl hm) h4_

theorem activityLost_keeps {m : Nat} {r : State} {p0} {p1 : State} (hm : 4096 &&& m = 4096) (h1_ : Keeps m r p1) : Keeps m r (@activityLost p0 p1) := by
  unfold activityLost
  refine keeps_ite ?_ ?_
  · exact h1_
  · refine State_modLink_keeps (sub_trans rfl hm) h1_

theorem putForward_keeps {m : Nat} {r : State} {p0 : State} {p1} (hm : 1024 &&& m = 1024) (h0_ : Keeps m r p0) : Keeps m r (@putForward p0 p1) := by
  unfold putForward
  exact keeps_pat h0_ (sub_trans rfl hm)

theorem clearLinks_keeps {m : Nat} {r : State} {p0 : State} {p1} {p2} (hm : 4100 &&& m = 4100) (h0_ : Keeps m r p0) : Keeps m r (@clearLinks p0 p1 p2) := by
  unfold clearLinks
  refine keeps_foldl h0_ ?_
  · intro t_1 x_2 h_3
    refine clearLatchedLink_keeps (sub_trans rfl hm) h_3

theorem retrainLinks_keeps {m : Nat} {r : State} {p0 : State} {p1} {p2} (hm : 12852252 &&& m = 12852252) (h0_ : Keeps m r p0) : Keeps m r (@retrainLinks p0 p1 p2) := by
  unfold retrainLinks
  refine keeps_foldl h0_ ?_
  · intro t_1 x_2 h_3
    refine keeps_ite ?_ ?_
    · refine linkDown_keeps (sub_trans rfl hm) h_3
    · exact h_3

theorem autoAdmit_keeps {m : Nat} {r : State} {p0} {p1 : State} (hm : 1024 &&& m = 1024) (h1_ : Keeps m r p1) : Keeps m r (@autoAdmit p0 p1) := by
  unfold autoAdmit
  extract_lets -lift -merge -underBinder d_1 i_2
  try clear_value d_1
  try clear_value i_2
  refine keeps_ite ?_ ?_
  · exact h1_
  · refine putForward_keeps (sub_trans rfl hm) h1_

theorem discardFlit_keeps {m : Nat} {r : State} {p0 : State} {p1} (hm : 4096 &&& m = 4096) (h0_ : Keeps m r p0) : Keeps m r (@discardFlit p0 p1) := by
  unfold discardFlit
  refine State_modLink_keeps (sub_trans rfl hm) h0_

theorem uncorrectableCodeword_keeps {m : Nat} {r : State} {p0 : State} {p1} (hm : 12852252 &&& m = 12852252) (h0_ : Keeps m r p0) : Keeps m r (@uncorrectableCodeword p0 p1) := by
  unfold uncorrectableCodeword
  extract_lets -lift -merge -underBinder s_1 s_2
  have h_s_1 : Keeps m r s_1 := by
    unfold s_1
    refine State_bump_keeps (sub_trans rfl hm) h0_
  try clear_value s_1
  have h_s_2 : Keeps m r s_2 := by
    unfold s_2
    refine State_modLink_keeps (sub_trans rfl hm) h_s_1
  try clear_value s_2
  refine keeps_ite ?_ ?_
  · refine linkDown_keeps (sub_trans rfl hm) h_s_2
  · refine discardFlit_keeps (sub_trans rfl hm) h_s_2

theorem takeIdentity_keeps {m : Nat} {r : State} {p0 : State} {p1} {p2} (hm : 281821204 &&& m = 281821204) (h0_ : Keeps m r p0) : Keeps m r (@takeIdentity p0 p1 p2) := by
  unfold takeIdentity
  refine takeSerial_keeps (sub_trans rfl hm) ?_
  · refine takePowerTable_keeps (sub_trans rfl hm) h0_

theorem identityReadEvent_keeps {m : Nat} {r : State} {p0} {p1} {p2 : State} (hm : 281825300 &&& m = 281825300) (h2_ : Keeps m r p2) : Keeps m r (@identityReadEvent p0 p1 p2) := by
  unfold identityReadEvent
  extract_lets -lift -merge -underBinder mem_1 __src_2 s_3
  try clear_value mem_1
  have h_s_3 : Keeps m r s_3 := by
    unfold s_3
    exact keeps_lnk h2_ (sub_trans rfl hm)
  try clear_value s_3
  refine keeps_ite ?_ ?_
  · exact h2_
  · refine keeps_ite ?_ ?_
    · exact h_s_3
    · refine takeIdentity_keeps (sub_trans rfl hm) h_s_3

theorem keepaliveFlit_keeps {m : Nat} {r : State} {p0} {p1 : State} (hm : 4112 &&& m = 4112) (h1_ : Keeps m r p1) : Keeps m r (@keepaliveFlit p0 p1) := by
  unfold keepaliveFlit
  refine keeps_ite ?_ ?_
  · exact h1_
  · extract_lets -lift -merge -underBinder k_1
    try clear_value k_1
    refine keeps_ite ?_ ?_
    · exact h1_
    · refine zeroFlit_keeps (sub_trans rfl hm) h1_

theorem laneSignalLoss_keeps {m : Nat} {r : State} {p0} {p1} {p2 : State} (hm : 12852252 &&& m = 12852252) (h2_ : Keeps m r p2) : Keeps m r (@laneSignalLoss p0 p1 p2) := by
  unfold laneSignalLoss
  refine keeps_ite ?_ ?_
  · exact h2_
  · refine linkDown_keeps (sub_trans rfl hm) h2_

theorem linkClear_keeps {m : Nat} {r : State} {p0} {p1} {p2} {p3 : State} (hm : 4116 &&& m = 4116) (h3_ : Keeps m r p3) : Keeps m r (@linkClear p0 p1 p2 p3) := by
  unfold linkClear
  refine State_gateDie_keeps (sub_trans rfl hm) h3_ ?_
  · intro a_1 h_2
    refine keeps_ite ?_ ?_
    · refine State_answer_keeps (sub_trans rfl hm) h_2
    · refine State_answer_keeps (sub_trans rfl hm) ?_
      · refine clearLinks_keeps (sub_trans rfl hm) h_2

theorem linkHoldoffExpire_keeps {m : Nat} {r : State} {p0} {p1 : State} (hm : 4 &&& m = 4) (h1_ : Keeps m r p1) : Keeps m r (@linkHoldoffExpire p0 p1) := by
  unfold linkHoldoffExpire
  refine keeps_ite ?_ ?_
  · exact h1_
  · refine State_setLinkState_keeps (sub_trans rfl hm) h1_

theorem linkRetrain_keeps {m : Nat} {r : State} {p0} {p1} {p2} {p3 : State} (hm : 12852252 &&& m = 12852252) (h3_ : Keeps m r p3) : Keeps m r (@linkRetrain p0 p1 p2 p3) := by
  unfold linkRetrain
  refine State_gateDie_keeps (sub_trans rfl hm) h3_ ?_
  · intro a_1 h_2
    refine keeps_ite ?_ ?_
    · refine State_answer_keeps (sub_trans rfl hm) h_2
    · refine State_answer_keeps (sub_trans rfl hm) ?_
      · refine retrainLinks_keeps (sub_trans rfl hm) h_2

theorem linkSilenceTimeout_keeps {m : Nat} {r : State} {p0} {p1 : State} (hm : 12852252 &&& m = 12852252) (h1_ : Keeps m r p1) : Keeps m r (@linkSilenceTimeout p0 p1) := by
  unfold linkSilenceTimeout
  refine keeps_ite ?_ ?_
  · exact h1_
  · refine linkDown_keeps (sub_trans rfl hm) h1_

theorem linkTrainStart_keeps {m : Nat} {r : State} {p0} {p1 : State} (hm : 4100 &&& m = 4100) (h1_ : Keeps m r p1) : Keeps m r (@linkTrainStart p0 p1) := by
  unfold linkTrainStart
  refine keeps_ite ?_ ?_
  · exact h1_
  · extract_lets -lift -merge -underBinder a_1 s_2 s_3
    try clear_value a_1
    have h_s_2 : Keeps m r s_2 := by
      unfold s_2
      refine State_wr_keeps (sub_trans rfl hm) h1_
    try clear_value s_2
    have h_s_3 : Keeps m r s_3 := by
      unfold s_3
      refine State_modLink_keeps (sub_trans rfl hm) h_s_2
    try clear_value s_3
    refine State_setLinkState_keeps (sub_trans rfl hm) h_s_3

theorem lookTrained_keeps {m : Nat} {r : State} {p0 : State} (hm : 4 &&& m = 4) (h0_ : Keeps m r p0) : Keeps m r (@lookTrained p0) := by
  unfold lookTrained
  refine keeps_ite ?_ ?_
  · refine milestone_keeps (sub_trans rfl hm) h0_
  · exact h0_

theorem linkUp_keeps {m : Nat} {r : State} {p0 : State} {p1} (hm : 282628 &&& m = 282628) (h0_ : Keeps m r p0) : Keeps m r (@linkUp p0 p1) := by
  unfold linkUp
  extract_lets -lift -merge -underBinder c052177 s_1 s_2 s_3
  try clear_value c052177
  have h_s_1 : Keeps m r s_1 := by
    unfold s_1
    refine State_modLink_keeps (sub_trans rfl hm) h0_
  try clear_value s_1
  have h_s_2 : Keeps m r s_2 := by
    unfold s_2
    refine State_wr_keeps (sub_trans rfl hm) h_s_1
  try clear_value s_2
  have h_s_3 : Keeps m r s_3 := by
    unfold s_3
    refine keeps_ite ?_ ?_
    · refine State_modSlotPower_keeps (sub_trans rfl hm) h_s_2
    · exact h_s_2
  try clear_value s_3
  refine lookTrained_keeps (sub_trans rfl hm) ?_
  · refine containOver_keeps (sub_trans rfl hm) ?_
    · refine State_setLinkState_keeps (sub_trans rfl hm) h_s_3

theorem steerModule_keeps {m : Nat} {r : State} {p0 : State} {p1} {p2} (hm : 16 &&& m = 16) (h0_ : Keeps m r p0) : Keeps m r (@steerModule p0 p1 p2) := by
  unfold steerModule
  extract_lets -lift -merge -underBinder cfg_1
  try clear_value cfg_1
  refine keeps_ite ?_ ?_
  · exact h0_
  · refine keeps_ite ?_ ?_
    · refine State_emit_keeps (sub_trans rfl hm) h0_
    · refine keeps_ite ?_ ?_
      · exact h0_
      · refine keeps_ite ?_ ?_
        · refine State_emit_keeps (sub_trans rfl hm) ?_
          · refine State_emit_keeps (sub_trans rfl hm) h0_
        · refine keeps_ite ?_ ?_
          · exact h0_
          · refine State_emit_keeps (sub_trans rfl hm) h0_

theorem recordModule_keeps {m : Nat} {r : State} {p0 : State} {p1} {p2} (hm : 4100 &&& m = 4100) (h0_ : Keeps m r p0) : Keeps m r (@recordModule p0 p1 p2) := by
  unfold recordModule
  extract_lets -lift -merge -underBinder d_1 i_2 __src_3 s_4 s_5 s_6 s_7 s_8 s_9 s_10 s_11
  try clear_value d_1
  try clear_value i_2
  have h_s_4 : Keeps m r s_4 := by
    unfold s_4
    exact keeps_lnk h0_ (sub_trans rfl hm)
  try clear_value s_4
  have h_s_5 : Keeps m r s_5 := by
    unfold s_5
    refine State_wr_keeps (sub_trans rfl hm) h_s_4
  try clear_value s_5
  have h_s_6 : Keeps m r s_6 := by
    unfold s_6
    refine State_wr_keeps (sub_trans rfl hm) h_s_5
  try clear_value s_6
  have h_s_7 : Keeps m r s_7 := by
    unfold s_7
    refine State_wr_keeps (sub_trans rfl hm) h_s_6
  try clear_value s_7
  have h_s_8 : Keeps m r s_8 := by
    unfold s_8
    refine State_wr_keeps (sub_trans rfl hm) h_s_7
  try clear_value s_8
  have h_s_9 : Keeps m r s_9 := by
    unfold s_9
    refine State_wr_keeps (sub_trans rfl hm) h_s_8
  try clear_value s_9
  have h_s_10 : Keeps m r s_10 := by
    unfold s_10
    refine State_wr_keeps (sub_trans rfl hm) h_s_9
  try clear_value s_10
  have h_s_11 : Keeps m r s_11 := by
    unfold s_11
    refine State_wr_keeps (sub_trans rfl hm) h_s_10
  try clear_value s_11
  refine State_wr_keeps (sub_trans rfl hm) h_s_11

theorem moduleFlagPoll_keeps {m : Nat} {r : State} {p0} {p1} {p2 : State} (hm : 12852252 &&& m = 12852252) (h2_ : Keeps m r p2) : Keeps m r (@moduleFlagPoll p0 p1 p2) := by
  unfold moduleFlagPoll
  refine keeps_ite ?_ ?_
  · exact h2_
  · extract_lets -lift -merge -underBinder l_1 s_2
    try clear_value l_1
    have h_s_2 : Keeps m r s_2 := by
      unfold s_2
      refine steerModule_keeps (sub_trans rfl hm) ?_
      · refine recordModule_keeps (sub_trans rfl hm) h2_
    try clear_value s_2
    refine keeps_ite ?_ ?_
    · refine linkDown_keeps (sub_trans rfl hm) h_s_2
    · exact h_s_2

theorem modulePresencePoll_keeps {m : Nat} {r : State} {p0} {p1} {p2 : State} (hm : 12852252 &&& m = 12852252) (h2_ : Keeps m r p2) : Keeps m r (@modulePresencePoll p0 p1 p2) := by
  unfold modulePresencePoll
  refine keeps_ite ?_ ?_
  · exact h2_
  · extract_lets -lift -merge -underBinder l_1 was_2 s_3
    try clear_value l_1
    try clear_value was_2
    have h_s_3 : Keeps m r s_3 := by
      unfold s_3
      refine steerModule_keeps (sub_trans rfl hm) ?_
      · refine recordModule_keeps (sub_trans rfl hm) h2_
    try clear_value s_3
    refine keeps_ite ?_ ?_
    · refine keeps_ite ?_ ?_
      · refine linkDown_keeps (sub_trans rfl hm) h_s_3
      · exact h_s_3
    · refine keeps_ite ?_ ?_
      · refine clearLatchedLink_keeps (sub_trans rfl hm) h_s_3
      · exact h_s_3

theorem peerId_keeps {m : Nat} {r : State} {p0} {p1} {p2} {p3} {p4} {p5} {p6} {p7 : State} (hm : 12852252 &&& m = 12852252) (h7_ : Keeps m r p7) : Keeps m r (@peerId p0 p1 p2 p3 p4 p5 p6 p7) := by
  unfold peerId
  extract_lets -lift -merge -underBinder l_1 k_2 d_3 i_4 cfg_5 host_6 ok_7 s_8 s_9 s_10 asym_11 s_12
  try clear_value l_1
  try clear_value k_2
  try clear_value d_3
  try clear_value i_4
  try clear_value cfg_5
  try clear_value host_6
  try clear_value ok_7
  try clear_value asym_11
  have h_s_8 : Keeps m r s_8 := by
    unfold s_8
    refine State_wr_keeps (sub_trans rfl hm) h7_
  try clear_value s_8
  have h_s_9 : Keeps m r s_9 := by
    unfold s_9
    refine State_wr_keeps (sub_trans rfl hm) h_s_8
  try clear_value s_9
  have h_s_10 : Keeps m r s_10 := by
    unfold s_10
    refine State_wr_keeps (sub_trans rfl hm) h_s_9
  try clear_value s_10
  have h_s_12 : Keeps m r s_12 := by
    unfold s_12
    refine State_wr_keeps (sub_trans rfl hm) h_s_10
  try clear_value s_12
  refine keeps_ite ?_ ?_
  · exact h7_
  · refine keeps_ite ?_ ?_
    · refine lookTrained_keeps (sub_trans rfl hm) ?_
      · refine linkDown_keeps (sub_trans rfl hm) h7_
    · refine State_modLink_keeps (sub_trans rfl hm) h_s_12

theorem sendPeerId_keeps {m : Nat} {r : State} {p0 : State} {p1} (hm : 16 &&& m = 16) (h0_ : Keeps m r p0) : Keeps m r (@sendPeerId p0 p1) := by
  unfold sendPeerId
  extract_lets -lift -merge -underBinder k_1
  try clear_value k_1
  refine State_emit_keeps (sub_trans rfl hm) h0_

theorem trainStepComplete_keeps {m : Nat} {r : State} {p0} {p1} {p2} {p3} {p4} {p5 : State} (hm : 12868636 &&& m = 12868636) (h5_ : Keeps m r p5) : Keeps m r (@trainStepComplete p0 p1 p2 p3 p4 p5) := by
  unfold trainStepComplete
  refine keeps_ite ?_ ?_
  · exact h5_
  · extract_lets -lift -merge -underBinder k_1 straight_2 s_3 next_4 s_5
    try clear_value k_1
    try clear_value straight_2
    try clear_value next_4
    have h_s_3 : Keeps m r s_3 := by
      unfold s_3
      refine keeps_ite ?_ ?_
      · refine State_modLink_keeps (sub_trans rfl hm) ?_
        · refine State_wr_keeps (sub_trans rfl hm) h5_
      · refine keeps_ite ?_ ?_
        · refine State_modLink_keeps (sub_trans rfl hm) h5_
        · exact h5_
    try clear_value s_3
    have h_s_5 : Keeps m r s_5 := by
      unfold s_5
      refine State_modLink_keeps (sub_trans rfl hm) h_s_3
    try clear_value s_5
    refine keeps_ite ?_ ?_
    · exact h5_
    · refine keeps_ite ?_ ?_
      · refine lookTrained_keeps (sub_trans rfl hm) ?_
        · refine linkDown_keeps (sub_trans rfl hm) h5_
      · refine keeps_ite ?_ ?_
        · exact h_s_3
        · refine keeps_ite ?_ ?_
          · refine linkUp_keeps (sub_trans rfl hm) h_s_3
          · refine keeps_ite ?_ ?_
            · refine sendPeerId_keeps (sub_trans rfl hm) h_s_5
            · exact h_s_5

theorem trainTimeout_keeps {m : Nat} {r : State} {p0} {p1 : State} (hm : 12852252 &&& m = 12852252) (h1_ : Keeps m r p1) : Keeps m r (@trainTimeout p0 p1) := by
  unfold trainTimeout
  refine keeps_ite ?_ ?_
  · exact h1_
  · extract_lets -lift -merge -underBinder k_1
    try clear_value k_1
    refine keeps_ite ?_ ?_
    · refine lookTrained_keeps (sub_trans rfl hm) ?_
      · refine linkDown_keeps (sub_trans rfl hm) h1_
    · exact h1_

end Sys2Proof.Laws
end

