-- ==== Sys2Proof/Laws/Keeps6.lean ====
section
/-! SUPPORT. What the operations of Selection, Slice keep (the relation `Keeps`): of each, that it passes on the relation of the
state it is given, where the parts it writes are among those named. -/
namespace Sys2Proof.Laws
open Sys2Proof.Machine

/-! ## Selection -/

theorem clearNext_keeps {m : Nat} {r : State} {p0 : State} (hm : 4 &&& m = 4) (h0_ : Keeps m r p0) : Keeps m r (@clearNext p0) := by
  unfold clearNext
  refine State_wrDies_keeps (sub_trans rfl hm) h0_

theorem patErrorOn_keeps {m : Nat} {r : State} {p0} {p1} {p2} {p3} {p4 : State} (hm : 4 &&& m = 4) (h4_ : Keeps m r p4) : Keeps m r (@patErrorOn p0 p1 p2 p3 p4) := by
  unfold patErrorOn
  refine State_wr_keeps (sub_trans rfl hm) ?_
  · refine State_wr_keeps (sub_trans rfl hm) ?_
    · refine State_wr_keeps (sub_trans rfl hm) ?_
      · refine State_wr_keeps (sub_trans rfl hm) h4_

theorem refusePattern_keeps {m : Nat} {r : State} {p0 : State} {p1} (hm : 12845076 &&& m = 12845076) (h0_ : Keeps m r p0) : Keeps m r (@refusePattern p0 p1) := by
  unfold refusePattern
  extract_lets -lift -merge -underBinder s_1
  have h_s_1 : Keeps m r s_1 := by
    unfold s_1
    refine State_onDies_keeps (sub_trans rfl hm) h0_ ?_
    · intro a_2 a_3 h_4
      refine patErrorOn_keeps (sub_trans rfl hm) h_4
  try clear_value s_1
  refine State_err_keeps (sub_trans rfl hm) h_s_1

theorem acceptPattern_keeps {m : Nat} {r : State} {p0 : State} {p1} (hm : 12846100 &&& m = 12846100) (h0_ : Keeps m r p0) : Keeps m r (@acceptPattern p0 p1) := by
  unfold acceptPattern
  extract_lets -lift -merge -underBinder s_1 __src_2
  have h_s_1 : Keeps m r s_1 := by
    unfold s_1
    refine clearNext_keeps (sub_trans rfl hm) h0_
  try clear_value s_1
  refine keeps_ite ?_ ?_
  · refine refusePattern_keeps (sub_trans rfl hm) h_s_1
  · exact keeps_pat h_s_1 (sub_trans rfl hm)

theorem activateSets_keeps {m : Nat} {r : State} {p0 : State} (hm : 1024 &&& m = 1024) (h0_ : Keeps m r p0) : Keeps m r (@activateSets p0) := by
  unfold activateSets
  extract_lets -lift -merge -underBinder take_1 __src_2
  try clear_value take_1
  exact keeps_pat h0_ (sub_trans rfl hm)

theorem writeNext_keeps {m : Nat} {r : State} {p0} {p1} {p2} {p3} {p4 : State} (hm : 12846100 &&& m = 12846100) (h4_ : Keeps m r p4) : Keeps m r (@writeNext p0 p1 p2 p3 p4) := by
  unfold writeNext
  extract_lets -lift -merge -underBinder s_1 __src_2 s_3
  have h_s_1 : Keeps m r s_1 := by
    unfold s_1
    refine State_onDies_keeps (sub_trans rfl hm) h4_ ?_
    · intro a_4 a_5 h_6
      refine State_wr_keeps (sub_trans rfl hm) ?_
      · refine State_wr_keeps (sub_trans rfl hm) ?_
        · refine State_wr_keeps (sub_trans rfl hm) ?_
          · refine State_wr_keeps (sub_trans rfl hm) h_6
  try clear_value s_1
  have h_s_3 : Keeps m r s_3 := by
    unfold s_3
    exact keeps_pat h_s_1 (sub_trans rfl hm)
  try clear_value s_3
  refine keeps_ite ?_ ?_
  · refine acceptPattern_keeps (sub_trans rfl hm) h_s_3
  · exact h_s_3

theorem applyAnnounce_keeps {m : Nat} {r : State} {p0 : State} {p1} (hm : 1024 &&& m = 1024) (h0_ : Keeps m r p0) : Keeps m r (@applyAnnounce p0 p1) := by
  unfold applyAnnounce
  extract_lets -lift -merge -underBinder set_1 joined_2 adm_3 adm_4 mine_5 __src_6
  try clear_value set_1
  try clear_value joined_2
  try clear_value adm_3
  try clear_value adm_4
  try clear_value mine_5
  exact keeps_pat h0_ (sub_trans rfl hm)

theorem markTrackers_keeps {m : Nat} {r : State} {p0 : State} {p1} {p2} {p3} {p4} (hm : 388 &&& m = 388) (h0_ : Keeps m r p0) : Keeps m r (@markTrackers p0 p1 p2 p3 p4) := by
  unfold markTrackers
  extract_lets -lift -merge -underBinder late_1 s_2 hub_3 go_4
  try clear_value late_1
  have h_s_2 : Keeps m r s_2 := by
    unfold s_2
    refine State_onDies_keeps (sub_trans rfl hm) h0_ ?_
    · intro a_5 a_6 h_7
      refine keeps_ite ?_ ?_
      · refine State_wr_keeps (sub_trans rfl hm) h_7
      · exact h_7
  try clear_value s_2
  exact keeps_phase (b := 384) h_s_2 (sub_trans rfl hm) (by intro p hp; cases p <;> first | rfl | cases hp) (fun h => ⟨Nat.zero_le _, own_filter _ (own_map _ (fun o _ => Nat.zero_le _) h.2)⟩) rfl rfl rfl rfl rfl

theorem showAdmitted_keeps {m : Nat} {r : State} {p0 : State} (hm : 4 &&& m = 4) (h0_ : Keeps m r p0) : Keeps m r (@showAdmitted p0) := by
  unfold showAdmitted
  refine keeps_foldl h0_ ?_
  · intro t_1 x_2 h_3
    refine keeps_ite ?_ ?_
    · refine State_wr_keeps (sub_trans rfl hm) h_3
    · exact h_3

theorem setSeqAll_keeps {m : Nat} {r : State} {p0 : State} {p1} (hm : 4 &&& m = 4) (h0_ : Keeps m r p0) : Keeps m r (@setSeqAll p0 p1) := by
  unfold setSeqAll
  refine State_wrDies_keeps (sub_trans rfl hm) h0_

theorem startPattern_keeps {m : Nat} {r : State} {p0 : State} {p1} {p2} (hm : 3076 &&& m = 3076) (h0_ : Keeps m r p0) : Keeps m r (@startPattern p0 p1 p2) := by
  unfold startPattern
  extract_lets -lift -merge -underBinder fresh_1 __src_2 s_3 __src_4 s_5
  try clear_value fresh_1
  have h_s_3 : Keeps m r s_3 := by
    unfold s_3
    exact keeps_pat h0_ (sub_trans rfl hm)
  try clear_value s_3
  have h_s_5 : Keeps m r s_5 := by
    unfold s_5
    exact keeps_mem h_s_3 (sub_trans rfl hm) rfl
  try clear_value s_5
  refine refreshShares_keeps (sub_trans rfl hm) ?_
  · refine refreshShares_keeps (sub_trans rfl hm) ?_
    · refine setSeqAll_keeps (sub_trans rfl hm) h_s_5

theorem openPlanned_keeps {m : Nat} {r : State} {p0 : State} (hm : 4096 &&& m = 4096) (h0_ : Keeps m r p0) : Keeps m r (@openPlanned p0) := by
  unfold openPlanned
  refine keeps_foldl h0_ ?_
  · intro t_1 x_2 h_3
    refine keeps_ite ?_ ?_
    · refine State_modLink_keeps (sub_trans rfl hm) h_3
    · exact h_3

theorem renewQueues_keeps {m : Nat} {r : State} {p0 : State} (hm : 2052 &&& m = 2052) (h0_ : Keeps m r p0) : Keeps m r (@renewQueues p0) := by
  unfold renewQueues
  extract_lets -lift -merge -underBinder stays_1 held_2 renewed_3 s_4 __src_5
  try clear_value stays_1
  try clear_value held_2
  try clear_value renewed_3
  have h_s_4 : Keeps m r s_4 := by
    unfold s_4
    refine keeps_foldl h0_ ?_
    · intro t_6 x_7 h_8
      refine State_wrDies_keeps (sub_trans rfl hm) h_8
  try clear_value s_4
  exact keeps_mem h_s_4 (sub_trans rfl hm) rfl

theorem sendBoundary_keeps {m : Nat} {r : State} {p0 : State} {p1} {p2} {p3} (hm : 4112 &&& m = 4112) (h0_ : Keeps m r p0) : Keeps m r (@sendBoundary p0 p1 p2 p3) := by
  unfold sendBoundary
  refine keeps_foldl h0_ ?_
  · intro t_1 x_2 h_3
    refine keeps_ite ?_ ?_
    · exact h_3
    · extract_lets -lift -merge -underBinder a_4
      try clear_value a_4
      refine State_send_keeps (sub_trans rfl hm) h_3

theorem switchOff_keeps {m : Nat} {r : State} {p0 : State} {p1} {p2} (hm : 12852316 &&& m = 12852316) (h0_ : Keeps m r p0) : Keeps m r (@switchOff p0 p1 p2) := by
  unfold switchOff
  extract_lets -lift -merge -underBinder s_1 s_2
  have h_s_1 : Keeps m r s_1 := by
    unfold s_1
    refine State_wr_keeps (sub_trans rfl hm) h0_
  try clear_value s_1
  have h_s_2 : Keeps m r s_2 := by
    unfold s_2
    refine State_modDie_keeps (sub_trans rfl hm) h_s_1
  try clear_value s_2
  refine refreshLinks_keeps (sub_trans rfl hm) ?_
  · refine State_wr_keeps (sub_trans rfl hm) h_s_2

theorem boundaryDomains_keeps {m : Nat} {r : State} {p0 : State} {p1} (hm : 12852316 &&& m = 12852316) (h0_ : Keeps m r p0) : Keeps m r (@boundaryDomains p0 p1) := by
  unfold boundaryDomains
  refine keeps_foldl h0_ ?_
  · intro t_1 x_2 h_3
    extract_lets -lift -merge -underBinder used_4 off_5
    try clear_value used_4
    try clear_value off_5
    refine keeps_ite ?_ ?_
    · exact h_3
    · refine switchOff_keeps (sub_trans rfl hm) h_3

theorem lookReady_keeps {m : Nat} {r : State} {p0 : State} (hm : 4 &&& m = 4) (h0_ : Keeps m r p0) : Keeps m r (@lookReady p0) := by
  unfold lookReady
  extract_lets -lift -merge -underBinder dieOk_1
  try clear_value dieOk_1
  refine keeps_ite ?_ ?_
  · exact h0_
  · refine State_wr_keeps (sub_trans rfl hm) ?_
    · refine State_wr_keeps (sub_trans rfl hm) h0_

theorem takeMirror_keeps {m : Nat} {r : State} {p0 : State} (hm : 1024 &&& m = 1024) (h0_ : Keeps m r p0) : Keeps m r (@takeMirror p0) := by
  unfold takeMirror
  exact keeps_pat h0_ (sub_trans rfl hm)

theorem beginStep_keeps {m : Nat} {r : State} {p0 : State} {p1} {p2} {p3} (hm : 348945884 &&& m = 348945884) (h0_ : Keeps m r p0) : Keeps m r (@beginStep p0 p1 p2 p3) := by
  unfold beginStep
  extract_lets -lift -merge -underBinder changed_1 p_2 nominal_3 master_4 s_5 s_6 s_7 s_8 __src_9 s_10
  try clear_value changed_1
  try clear_value p_2
  try clear_value nominal_3
  try clear_value master_4
  have h_s_5 : Keeps m r s_5 := by
    unfold s_5
    refine markTrackers_keeps (sub_trans rfl hm) h0_
  try clear_value s_5
  have h_s_6 : Keeps m r s_6 := by
    unfold s_6
    split
    · refine keeps_ite ?_ ?_
      · exact h_s_5
      · refine State_wrDies_keeps (sub_trans rfl hm) ?_
        · exact keeps_cad h_s_5 (sub_trans rfl hm) rfl
    · exact h_s_5
  try clear_value s_6
  have h_s_7 : Keeps m r s_7 := by
    unfold s_7
    split
    · refine applyAnnounce_keeps (sub_trans rfl hm) h_s_6
    · exact h_s_6
  try clear_value s_7
  have h_s_8 : Keeps m r s_8 := by
    unfold s_8
    refine showAdmitted_keeps (sub_trans rfl hm) ?_
    · refine activateSets_keeps (sub_trans rfl hm) h_s_7
  try clear_value s_8
  have h_s_10 : Keeps m r s_10 := by
    unfold s_10
    exact keeps_cad h_s_8 (sub_trans rfl hm) rfl
  try clear_value s_10
  split
  · rename_i heq
    have h_11 := congrArg Prod.fst heq
    replace h_11 := keeps_of_eq (m := m) (r := r) h_11 (by
      refine powerStepMark_keeps (sub_trans rfl hm) h_s_10
      )
    extract_lets -lift -merge -underBinder s_12 s_13 s_14 s_15 __src_16 s_17
    have h_s_12 : Keeps m r s_12 := by
      unfold s_12
      split
      · refine startPattern_keeps (sub_trans rfl hm) h_11
      · refine setSeqAll_keeps (sub_trans rfl hm) ?_
        · exact keeps_pat h_11 (sub_trans rfl hm)
    try clear_value s_12
    have h_s_13 : Keeps m r s_13 := by
      unfold s_13
      refine openPlanned_keeps (sub_trans rfl hm) ?_
      · refine renewQueues_keeps (sub_trans rfl hm) h_s_12
    try clear_value s_13
    have h_s_14 : Keeps m r s_14 := by
      unfold s_14
      refine sendBoundary_keeps (sub_trans rfl hm) h_s_13
    try clear_value s_14
    have h_s_15 : Keeps m r s_15 := by
      unfold s_15
      refine boundaryDomains_keeps (sub_trans rfl hm) h_s_14
    try clear_value s_15
    have h_s_17 : Keeps m r s_17 := by
      unfold s_17
      refine startExpelled_keeps (sub_trans rfl hm) ?_
      · exact keeps_sdc h_s_15 (sub_trans rfl hm)
    try clear_value s_17
    refine lookReady_keeps (sub_trans rfl hm) ?_
    · refine takeMirror_keeps (sub_trans rfl hm) h_s_17

theorem forcedStepMark_keeps {m : Nat} {r : State} {p0 : State} (hm : 348945884 &&& m = 348945884) (h0_ : Keeps m r p0) : Keeps m r (@forcedStepMark p0) := by
  unfold forcedStepMark
  split
  · exact h0_
  · refine keeps_ite ?_ ?_
    · exact h0_
    · refine beginStep_keeps (sub_trans rfl hm) ?_
      · refine fenceForSwatch_keeps (sub_trans rfl hm) ?_
        · refine readmitTiles_keeps (sub_trans rfl hm) h0_

theorem latchPattern_keeps {m : Nat} {r : State} {p0 : State} {p1} (hm : 12845076 &&& m = 12845076) (h0_ : Keeps m r p0) : Keeps m r (@latchPattern p0 p1).1 := by
  unfold latchPattern
  split
  · rename_i heq
    have h_1 := congrArg Prod.fst heq
    replace h_1 := keeps_of_eq (m := m) (r := r) h_1 (by
      split
      · extract_lets -lift -merge -underBinder n_2 s_3
        try clear_value n_2
        have h_s_3 : Keeps m r s_3 := by
          unfold s_3
          refine keeps_ite ?_ ?_
          · refine State_wrDies_keeps (sub_trans rfl hm) h0_
          · exact h0_
        try clear_value s_3
        refine keeps_fst ?_
        · refine clearNext_keeps (sub_trans rfl hm) h_s_3
      · exact keeps_fst h0_
      )
    split
    · exact keeps_fst h_1
    · refine keeps_ite1 ?_ ?_
      · exact keeps_fst h_1
      · extract_lets -lift -merge -underBinder s_4
        have h_s_4 : Keeps m r s_4 := by
          unfold s_4
          refine refusePattern_keeps (sub_trans rfl hm) h_1
        try clear_value s_4
        split
        · refine keeps_ite1 ?_ ?_
          · exact keeps_fst h_s_4
          · exact keeps_fst h_s_4
        · exact keeps_fst h_s_4

theorem lookStepEnd_keeps {m : Nat} {r : State} {p0 : State} (hm : 128 &&& m = 128) (h0_ : Keeps m r p0) : Keeps m r (@lookStepEnd p0) := by
  unfold lookStepEnd
  split
  · exact h0_
  · extract_lets -lift -merge -underBinder ended_1 __src_2
    try clear_value ended_1
    refine keeps_ite ?_ ?_
    · exact keeps_cad h0_ (sub_trans rfl hm) rfl
    · exact h0_

theorem msetPendingWrite_keeps {m : Nat} {r : State} {p0} {p1} {p2} {p3 : State} (hm : 1040 &&& m = 1040) (h3_ : Keeps m r p3) : Keeps m r (@msetPendingWrite p0 p1 p2 p3) := by
  unfold msetPendingWrite
  refine keeps_ite ?_ ?_
  · refine State_reach_keeps (sub_trans rfl hm) h3_ ?_
    · intro a_1 h_2
      refine State_answer_keeps (sub_trans rfl hm) h_2
  · refine keeps_ite ?_ ?_
    · refine State_answer_keeps (sub_trans rfl hm) h3_
    · refine keeps_ite ?_ ?_
      · refine State_answer_keeps (sub_trans rfl hm) h3_
      · refine State_answer_keeps (sub_trans rfl hm) ?_
        · exact keeps_pat h3_ (sub_trans rfl hm)

theorem patNextWrite_keeps {m : Nat} {r : State} {p0} {p1} {p2} {p3} {p4} {p5 : State} (hm : 12846100 &&& m = 12846100) (h5_ : Keeps m r p5) : Keeps m r (@patNextWrite p0 p1 p2 p3 p4 p5) := by
  unfold patNextWrite
  refine keeps_ite ?_ ?_
  · refine State_reach_keeps (sub_trans rfl hm) h5_ ?_
    · intro a_1 h_2
      refine State_answer_keeps (sub_trans rfl hm) h_2
  · refine keeps_ite ?_ ?_
    · refine State_answer_keeps (sub_trans rfl hm) h5_
    · refine State_answer_keeps (sub_trans rfl hm) ?_
      · refine writeNext_keeps (sub_trans rfl hm) h5_

theorem stepMarkEffect_keeps {m : Nat} {r : State} {p0 : State} (hm : 348945884 &&& m = 348945884) (h0_ : Keeps m r p0) : Keeps m r (@stepMarkEffect p0) := by
  unfold stepMarkEffect
  split
  · exact h0_
  · refine keeps_ite ?_ ?_
    · exact h0_
    · extract_lets -lift -merge -underBinder s_1 step_2
      try clear_value step_2
      have h_s_1 : Keeps m r s_1 := by
        unfold s_1
        refine fenceForSwatch_keeps (sub_trans rfl hm) ?_
        · refine readmitTiles_keeps (sub_trans rfl hm) h0_
      try clear_value s_1
      split
      · rename_i heq
        have h_3 := congrArg Prod.fst heq
        replace h_3 := keeps_of_eq (m := m) (r := r) h_3 (by
          refine latchPattern_keeps (sub_trans rfl hm) h_s_1
          )
        refine beginStep_keeps (sub_trans rfl hm) h_3

/-! ## Slice -/

theorem countLoad_keeps {m : Nat} {r : State} {p0 : State} {p1} {p2} {p3} {p4} (hm : 18432 &&& m = 18432) (h0_ : Keeps m r p0) : Keeps m r (@countLoad p0 p1 p2 p3 p4) := by
  unfold countLoad
  refine keeps_ite ?_ ?_
  · exact h0_
  · extract_lets -lift -merge -underBinder d_1
    try clear_value d_1
    split
    · exact h0_
    · refine countAccess_keeps (sub_trans rfl hm) h0_

theorem storeLanes_keeps {m : Nat} {r : State} {p0 : State} {p1} {p2} {p3} {p4} {p5} {p6} (hm : 18436 &&& m = 18436) (h0_ : Keeps m r p0) : Keeps m r (@storeLanes p0 p1 p2 p3 p4 p5 p6).1 := by
  unfold storeLanes
  refine keeps_ite1 ?_ ?_
  · exact keeps_fst h0_
  · refine keeps_ite1 ?_ ?_
    · exact keeps_fst h0_
    · extract_lets -lift -merge -underBinder d_1
      try clear_value d_1
      split
      · exact keeps_fst h0_
      · extract_lets -lift -merge -underBinder first_2 p_3 lo_4 hi_5 code_6 put_7 all_8 ws_9
        try clear_value first_2
        try clear_value p_3
        try clear_value lo_4
        try clear_value hi_5
        try clear_value code_6
        try clear_value put_7
        try clear_value all_8
        try clear_value ws_9
        refine keeps_fst ?_
        · refine rowWrites_keeps (sub_trans rfl hm) h0_

theorem sliceStep_keeps {m : Nat} {r : State} {p0} {p1} {p2} {p3} (hm : 18436 &&& m = 18436) (h3_ : Keeps m r p3.1) : Keeps m r (@sliceStep p0 p1 p2 p3).1 := by
  unfold sliceStep
  extract_lets -lift -merge -underBinder s_1 c_2 o_3 k_4 nxt_5 sel_6
  try clear_value c_2
  try clear_value o_3
  try clear_value k_4
  try clear_value nxt_5
  try clear_value sel_6
  have h_s_1 : Keeps m r s_1 := by
    unfold s_1
    exact h3_
  try clear_value s_1
  refine keeps_ite1 ?_ ?_
  · exact h3_
  · split
    · extract_lets -lift -merge -underBinder n_7 off_8 f_9
      try clear_value n_7
      try clear_value off_8
      try clear_value f_9
      refine keeps_fst ?_
      · refine countLoad_keeps (sub_trans rfl hm) h_s_1
    · extract_lets -lift -merge -underBinder n_10
      try clear_value n_10
      refine storeLanes_keeps (sub_trans rfl hm) h_s_1
    · extract_lets -lift -merge -underBinder v_11 s_12
      try clear_value v_11
      have h_s_12 : Keeps m r s_12 := by
        unfold s_12
        refine keeps_ite ?_ ?_
        · exact h_s_1
        · refine countAccess_keeps (sub_trans rfl hm) h_s_1
      try clear_value s_12
      exact keeps_fst h_s_12
    · exact keeps_fst h_s_1
    · exact keeps_fst h_s_1
    · split
      · exact keeps_fst h_s_1
      · refine keeps_ite1 ?_ ?_
        · exact keeps_fst h_s_1
        · exact keeps_fst h_s_1
    · exact keeps_fst h_s_1
    · extract_lets -lift -merge -underBinder wide_13 n_14 k_15 t_16 g_17 l_18
      try clear_value wide_13
      try clear_value n_14
      try clear_value k_15
      try clear_value t_16
      try clear_value g_17
      try clear_value l_18
      exact keeps_fst h_s_1

theorem sliceRun_keeps {m : Nat} {r : State} {p0} {p1} {p2} {p3} {p4} (hm : 18436 &&& m = 18436) (h4_ : Keeps m r p4.1) : Keeps m r (@sliceRun p0 p1 p2 p3 p4).1 := by
  induction p3 generalizing p4 with
  | zero => exact h4_
  | succ k ih => exact ih (sliceStep_keeps (sub_trans rfl hm) h4_)

theorem runLine_keeps {m : Nat} {r : State} {p0 : State} {p1} {p2} {p3} (hm : 18436 &&& m = 18436) (h0_ : Keeps m r p0) : Keeps m r (@runLine p0 p1 p2 p3).1 := by
  unfold runLine
  refine sliceRun_keeps (sub_trans rfl hm) ?_
  · exact keeps_fst h0_

theorem healLines_keeps {m : Nat} {r : State} {p0 : State} {p1} (hm : 2052 &&& m = 2052) (h0_ : Keeps m r p0) : Keeps m r (@healLines p0 p1) := by
  unfold healLines
  refine keeps_foldl h0_ ?_
  · intro t_1 x_2 h_3
    extract_lets -lift -merge -underBinder whole_4
    try clear_value whole_4
    refine keeps_ite ?_ ?_
    · refine writeLine_keeps (sub_trans rfl hm) h_3
    · exact h_3

theorem computeSlice_keeps {m : Nat} {r : State} {p0 : State} {p1} {p2} (hm : 18436 &&& m = 18436) (h0_ : Keeps m r p0) : Keeps m r (@computeSlice p0 p1 p2).1 := by
  unfold computeSlice
  extract_lets -lift -merge -underBinder ws_1 q_2 d_3 ops_4 params_5 stored_6 r_7
  try clear_value ws_1
  try clear_value q_2
  try clear_value d_3
  try clear_value ops_4
  try clear_value params_5
  try clear_value stored_6
  have h_r_7 : Keeps m r r_7.1 := by
    unfold r_7
    refine keeps_foldl1 ?_ ?_
    · exact keeps_fst h0_
    · intro t_8 x_9 h_10
      extract_lets -lift -merge -underBinder e_11 w_12 r_13
      try clear_value e_11
      try clear_value w_12
      have h_r_13 : Keeps m r r_13.1 := by
        unfold r_13
        refine runLine_keeps (sub_trans rfl hm) ?_
        · exact h_10
      try clear_value r_13
      refine keeps_ite1 ?_ ?_
      · refine keeps_fst ?_
        · refine rowWrites_keeps (sub_trans rfl hm) ?_
          · exact h_10
      · refine keeps_fst ?_
        · exact h_r_13
  try clear_value r_7
  refine keeps_fst ?_
  · refine healLines_keeps (sub_trans rfl hm) ?_
    · exact h_r_7

theorem fusedLine_keeps {m : Nat} {r : State} {p0} {p1 : State} {p2} {p3} {p4} (hm : 18436 &&& m = 18436) (h1_ : Keeps m r p1) : Keeps m r (@fusedLine p0 p1 p2 p3 p4).1 := by
  unfold fusedLine
  extract_lets -lift -merge -underBinder ws_1 q_2 master_3 st_4 e_5 z_6 out_7
  try clear_value ws_1
  try clear_value q_2
  try clear_value master_3
  try clear_value st_4
  try clear_value e_5
  try clear_value out_7
  have h_z_6 : Keeps m r z_6.1 := by
    unfold z_6
    refine runLine_keeps (sub_trans rfl hm) h1_
  try clear_value z_6
  refine keeps_fst ?_
  · refine healLines_keeps (sub_trans rfl hm) ?_
    · exact h_z_6

end Sys2Proof.Laws
end

