-- ==== Sys2Proof/Laws/Keeps7.lean ====
section
/-! SUPPORT. What the operations of Sequencer, Package keep (the relation `Keeps`): of each, that it passes on the relation of the
state it is given, where the parts it writes are among those named. -/
namespace Sys2Proof.Laws
open Sys2Proof.Machine

/-! ## Sequencer -/

theorem bumpT_keeps {m : Nat} {r : State} {p0 : State} {p1} (hm : 2052 &&& m = 2052) (h0_ : Keeps m r p0) : Keeps m r (@bumpT p0 p1) := by
  unfold bumpT
  extract_lets -lift -merge -underBinder off_1
  try clear_value off_1
  refine keeps_ite ?_ ?_
  · exact h0_
  · split
    · refine writeSpan_keeps (sub_trans rfl hm) h0_
    · exact h0_

theorem advanceHall_keeps {m : Nat} {r : State} {p0 : State} {p1} {p2} {p3} (hm : 1024 &&& m = 1024) (h0_ : Keeps m r p0) : Keeps m r (@advanceHall p0 p1 p2 p3) := by
  unfold advanceHall
  extract_lets -lift -merge -underBinder r_1 k_2 __src_3
  try clear_value r_1
  try clear_value k_2
  refine keeps_ite ?_ ?_
  · exact keeps_pat h0_ (sub_trans rfl hm)
  · exact h0_

theorem modSeq_keeps {m : Nat} {r : State} {p0 : State} {p1} {p2} (hm : 1024 &&& m = 1024) (h0_ : Keeps m r p0) : Keeps m r (@modSeq p0 p1 p2) := by
  unfold modSeq
  exact keeps_pat h0_ (sub_trans rfl hm)

theorem rowDone_keeps {m : Nat} {r : State} {p0 : State} {p1} {p2} (hm : 1024 &&& m = 1024) (h0_ : Keeps m r p0) : Keeps m r (@rowDone p0 p1 p2) := by
  unfold rowDone
  refine modSeq_keeps (sub_trans rfl hm) h0_

theorem completeRow_keeps {m : Nat} {r : State} {p0 : State} {p1} (hm : 3072 &&& m = 3072) (h0_ : Keeps m r p0) : Keeps m r (@completeRow p0 p1) := by
  unfold completeRow
  extract_lets -lift -merge -underBinder s_1 __src_2 s_3
  have h_s_1 : Keeps m r s_1 := by
    unfold s_1
    refine keeps_ite ?_ ?_
    · refine settleBuckets_keeps (sub_trans rfl hm) h0_
    · exact h0_
  try clear_value s_1
  have h_s_3 : Keeps m r s_3 := by
    unfold s_3
    exact keeps_pat h_s_1 (sub_trans rfl hm)
  try clear_value s_3
  refine advanceHall_keeps (sub_trans rfl hm) ?_
  · refine rowDone_keeps (sub_trans rfl hm) h_s_3

theorem completeFused_keeps {m : Nat} {r : State} {p0 : State} {p1} (hm : 3076 &&& m = 3076) (h0_ : Keeps m r p0) : Keeps m r (@completeFused p0 p1) := by
  unfold completeFused
  refine bumpT_keeps (sub_trans rfl hm) ?_
  · refine completeRow_keeps (sub_trans rfl hm) h0_

theorem countPoison_keeps {m : Nat} {r : State} {p0 : State} {p1} {p2} (hm : 4 &&& m = 4) (h0_ : Keeps m r p0) : Keeps m r (@countPoison p0 p1 p2) := by
  unfold countPoison
  extract_lets -lift -merge -underBinder d_1 s_2
  try clear_value d_1
  have h_s_2 : Keeps m r s_2 := by
    unfold s_2
    refine State_wr_keeps (sub_trans rfl hm) ?_
    · refine State_bumpN_keeps (sub_trans rfl hm) h0_
  try clear_value s_2
  refine keeps_ite ?_ ?_
  · exact h0_
  · refine State_wr_keeps (sub_trans rfl hm) ?_
    · refine State_wr_keeps (sub_trans rfl hm) ?_
      · refine State_wr_keeps (sub_trans rfl hm) ?_
        · refine State_wr_keeps (sub_trans rfl hm) h_s_2

theorem guardRefusal_keeps {m : Nat} {r : State} {p0 : State} {p1} {p2} (hm : 12845076 &&& m = 12845076) (h0_ : Keeps m r p0) : Keeps m r (@guardRefusal p0 p1 p2) := by
  unfold guardRefusal
  extract_lets -lift -merge -underBinder n_1 k_2 s_3 d_4
  try clear_value n_1
  try clear_value k_2
  try clear_value d_4
  have h_s_3 : Keeps m r s_3 := by
    unfold s_3
    refine State_err_keeps (sub_trans rfl hm) h0_
  try clear_value s_3
  refine State_wr_keeps (sub_trans rfl hm) ?_
  · refine State_wr_keeps (sub_trans rfl hm) ?_
    · refine State_wr_keeps (sub_trans rfl hm) ?_
      · refine State_wr_keeps (sub_trans rfl hm) h_s_3

theorem recordRefused_keeps {m : Nat} {r : State} {p0 : State} {p1} {p2} (hm : 12845076 &&& m = 12845076) (h0_ : Keeps m r p0) : Keeps m r (@recordRefused p0 p1 p2) := by
  unfold recordRefused
  refine keeps_foldl h0_ ?_
  · intro t_1 x_2 h_3
    split
    · refine guardRefusal_keeps (sub_trans rfl hm) h_3
    · exact h_3

theorem modFlight_keeps {m : Nat} {r : State} {p0 : State} {p1} {p2} {p3} (hm : 1024 &&& m = 1024) (h0_ : Keeps m r p0) : Keeps m r (@modFlight p0 p1 p2 p3) := by
  unfold modFlight
  exact keeps_pat h0_ (sub_trans rfl hm)

theorem deliver_keeps {m : Nat} {r : State} {p0 : State} {p1} {p2} (hm : 12868628 &&& m = 12868628) (h0_ : Keeps m r p0) : Keeps m r (@deliver p0 p1 p2) := by
  unfold deliver
  extract_lets -lift -merge -underBinder s_1 s_2
  have h_s_1 : Keeps m r s_1 := by
    unfold s_1
    refine recordRefused_keeps (sub_trans rfl hm) h0_
  try clear_value s_1
  have h_s_2 : Keeps m r s_2 := by
    unfold s_2
    refine rowWrites_keeps (sub_trans rfl hm) h_s_1
  try clear_value s_2
  refine keeps_foldl h_s_2 ?_
  · intro t_3 x_4 h_5
    extract_lets -lift -merge -underBinder l_6 s_7
    try clear_value l_6
    have h_s_7 : Keeps m r s_7 := by
      unfold s_7
      refine modFlight_keeps (sub_trans rfl hm) h_5
    try clear_value s_7
    refine keeps_foldl h_s_7 ?_
    · intro t_8 x_9 h_10
      refine State_send_keeps (sub_trans rfl hm) ?_
      · refine State_plannedOut_keeps (sub_trans rfl hm) h_10

theorem abandonRow_keeps {m : Nat} {r : State} {p0 : State} {p1} (hm : 12868628 &&& m = 12868628) (h0_ : Keeps m r p0) : Keeps m r (@abandonRow p0 p1) := by
  unfold abandonRow
  extract_lets -lift -merge -underBinder finish_1 out_2
  try clear_value out_2
  have h_finish_1 : ∀ a_3, Keeps m r a_3 → Keeps m r (finish_1 a_3) := by
    intro a_3 h_4
    unfold finish_1
    refine keeps_ite ?_ ?_
    · refine completeFused_keeps (sub_trans rfl hm) h_4
    · refine completeRow_keeps (sub_trans rfl hm) h_4
  try clear_value finish_1
  refine keeps_ite ?_ ?_
  · refine h_finish_1 _ ?_
    · refine keeps_foldl h0_ ?_
      · intro t_5 x_6 h_7
        refine State_send_keeps (sub_trans rfl hm) h_7
  · refine h_finish_1 _ ?_
    · refine countPoison_keeps (sub_trans rfl hm) ?_
      · refine deliver_keeps (sub_trans rfl hm) h0_

theorem lateDrop_keeps {m : Nat} {r : State} {p0 : State} {p1} (hm : 12846100 &&& m = 12846100) (h0_ : Keeps m r p0) : Keeps m r (@lateDrop p0 p1) := by
  unfold lateDrop
  extract_lets -lift -merge -underBinder d_1 s_2 s_3 key_4 ws_5 __src_6
  try clear_value d_1
  try clear_value key_4
  try clear_value ws_5
  have h_s_2 : Keeps m r s_2 := by
    unfold s_2
    refine State_wr_keeps (sub_trans rfl hm) ?_
    · refine State_bump_keeps (sub_trans rfl hm) h0_
  try clear_value s_2
  have h_s_3 : Keeps m r s_3 := by
    unfold s_3
    refine State_wr_keeps (sub_trans rfl hm) ?_
    · refine State_wr_keeps (sub_trans rfl hm) ?_
      · refine State_wr_keeps (sub_trans rfl hm) ?_
        · refine State_wr_keeps (sub_trans rfl hm) h_s_2
  try clear_value s_3
  refine keeps_ite ?_ ?_
  · exact h_s_3
  · refine State_err_keeps (sub_trans rfl hm) ?_
    · exact keeps_pat h_s_3 (sub_trans rfl hm)

theorem sendUnit_keeps {m : Nat} {r : State} {p0 : State} {p1} {p2} (hm : 4116 &&& m = 4116) (h0_ : Keeps m r p0) : Keeps m r (@sendUnit p0 p1 p2) := by
  unfold sendUnit
  extract_lets -lift -merge -underBinder route_1 g_2 ports_3 hops_4 path_5
  try clear_value route_1
  try clear_value g_2
  try clear_value ports_3
  try clear_value hops_4
  try clear_value path_5
  refine keeps_foldl ?_ ?_
  · refine countConv_keeps (sub_trans rfl hm) h0_
  · intro t_6 x_7 h_8
    refine keeps_foldl h_8 ?_
    · intro t_9 x_10 h_11
      refine keeps_ite ?_ ?_
      · exact h_11
      · refine State_send_keeps (sub_trans rfl hm) ?_
        · refine State_plannedOut_keeps (sub_trans rfl hm) h_11

theorem sendOn_keeps {m : Nat} {r : State} {p0 : State} {p1} {p2} (hm : 5140 &&& m = 5140) (h0_ : Keeps m r p0) : Keeps m r (@sendOn p0 p1 p2) := by
  unfold sendOn
  split
  · exact h0_
  · extract_lets -lift -merge -underBinder key_1 due_2
    try clear_value key_1
    try clear_value due_2
    refine keeps_foldl ?_ ?_
    · refine modFlight_keeps (sub_trans rfl hm) h0_
    · intro t_3 x_4 h_5
      refine sendUnit_keeps (sub_trans rfl hm) h_5

theorem pdata_keeps {m : Nat} {r : State} {p0} {p1} {p2} {p3 : State} (hm : 12850196 &&& m = 12850196) (h3_ : Keeps m r p3) : Keeps m r (@pdata p0 p1 p2 p3) := by
  unfold pdata
  refine keeps_ite ?_ ?_
  · exact h3_
  · extract_lets -lift -merge -underBinder s_1
    have h_s_1 : Keeps m r s_1 := by
      unfold s_1
      refine State_plannedIn_keeps (sub_trans rfl hm) h3_
    try clear_value s_1
    split
    · refine keeps_ite ?_ ?_
      · refine lateDrop_keeps (sub_trans rfl hm) h_s_1
      · extract_lets -lift -merge -underBinder key_2
        try clear_value key_2
        refine keeps_ite ?_ ?_
        · exact h_s_1
        · refine sendOn_keeps (sub_trans rfl hm) ?_
          · refine modFlight_keeps (sub_trans rfl hm) h_s_1
    · refine lateDrop_keeps (sub_trans rfl hm) h_s_1

theorem forwardPlanned_keeps {m : Nat} {r : State} {p0 : State} {p1} {p2} {p3} {p4} {p5} (hm : 4120 &&& m = 4120) (h0_ : Keeps m r p0) : Keeps m r (@forwardPlanned p0 p1 p2 p3 p4 p5) := by
  unfold forwardPlanned
  extract_lets -lift -merge -underBinder out_1
  try clear_value out_1
  refine keeps_ite ?_ ?_
  · exact h0_
  · refine State_send_keeps (sub_trans rfl hm) ?_
    · refine State_plannedOut_keeps (sub_trans rfl hm) ?_
      · refine State_addWide_keeps (sub_trans rfl hm) h0_

theorem refreshStaging_keeps {m : Nat} {r : State} {p0 : State} {p1} (hm : 4 &&& m = 4) (h0_ : Keeps m r p0) : Keeps m r (@refreshStaging p0 p1) := by
  unfold refreshStaging
  extract_lets -lift -merge -underBinder mib_1 s_2
  try clear_value mib_1
  have h_s_2 : Keeps m r s_2 := by
    unfold s_2
    refine State_wr_keeps (sub_trans rfl hm) h0_
  try clear_value s_2
  refine keeps_ite ?_ ?_
  · refine State_wr_keeps (sub_trans rfl hm) h_s_2
  · exact h_s_2

theorem stageLine_keeps {m : Nat} {r s t : State} {g : RowTag} {x : Option (List Nat)} (hm : 12850196 &&& m = 12850196) (e : stageLine s g x = some t) (h : Keeps m r s) :
    Keeps m r t := by
  unfold stageLine at e
  extract_lets -lift -merge -underBinder d route held all y s1 s2 at e
  split at e
  · cases e
  · cases e
    have h1 : Keeps m r s2 := by
      unfold s2
      exact keeps_pat h (sub_trans rfl hm)
    clear_value s2
    exact refreshStaging_keeps (sub_trans rfl hm) (State_bump_keeps (sub_trans rfl hm) h1)

theorem landLine_keeps {m : Nat} {r s t : State} {g : RowTag} {x : Option (List Nat)} (hm : 12850196 &&& m = 12850196) (e : landLine s g x = some t) (h : Keeps m r s) :
    Keeps m r t := by
  unfold landLine at e
  split at e
  · split at e
    · split at e
      · cases e; exact h
      · cases e; exact sendOn_keeps (sub_trans rfl hm) (modFlight_keeps (sub_trans rfl hm) h)
    · split at e
      · exact stageLine_keeps hm e h
      · cases e; exact lateDrop_keeps (sub_trans rfl hm) h
  · split at e
    · exact stageLine_keeps hm e h
    · cases e; exact lateDrop_keeps (sub_trans rfl hm) h

theorem arriveLine_keeps {m : Nat} {r : State} {p0 : State} {p1} {p2} (hm : 12850196 &&& m = 12850196) (h0_ : Keeps m r p0) : Keeps m r (@arriveLine p0 p1 p2) := by
  unfold arriveLine
  extract_lets -lift -merge -underBinder __src_1 wait_2
  have h_wait_2 : Keeps m r wait_2 := by
    unfold wait_2
    exact keeps_pat h0_ (sub_trans rfl hm)
  try clear_value wait_2
  refine keeps_ite ?_ ?_
  · exact h_wait_2
  · cases hl : landLine p0 p2.tag p2.data with
    | none => exact h_wait_2
    | some t => exact landLine_keeps hm hl h0_

theorem showFull_keeps {m : Nat} {r : State} {p0 : State} (hm : 4 &&& m = 4) (h0_ : Keeps m r p0) : Keeps m r (@showFull p0) := by
  unfold showFull
  refine State_onDies_keeps (sub_trans rfl hm) h0_ ?_
  · intro a_1 a_2 h_3
    refine State_wr_keeps (sub_trans rfl hm) h_3

theorem drainBlocked_keeps {m : Nat} {r : State} {p0 : State} (hm : 12850196 &&& m = 12850196) (h0_ : Keeps m r p0) : Keeps m r (@drainBlocked p0) := by
  unfold drainBlocked
  refine keeps_ite ?_ ?_
  · exact h0_
  · extract_lets -lift -merge -underBinder waiting_1 __src_2 s_3
    try clear_value waiting_1
    have h_s_3 : Keeps m r s_3 := by
      unfold s_3
      refine keeps_foldl ?_ ?_
      · exact keeps_pat h0_ (sub_trans rfl hm)
      · intro t_4 x_5 h_6
        refine arriveLine_keeps (sub_trans rfl hm) h_6
    try clear_value s_3
    refine keeps_foldl ?_ ?_
    · refine showFull_keeps (sub_trans rfl hm) h_s_3
    · intro t_7 x_8 h_9
      refine pump_keeps (sub_trans rfl hm) h_9

theorem purgeStaging_keeps {m : Nat} {r : State} {p0 : State} (hm : 12846100 &&& m = 12846100) (h0_ : Keeps m r p0) : Keeps m r (@purgeStaging p0) := by
  unfold purgeStaging
  extract_lets -lift -merge -underBinder live_1 stale_2 __src_3 s_4
  try clear_value live_1
  try clear_value stale_2
  have h_s_4 : Keeps m r s_4 := by
    unfold s_4
    exact keeps_pat h0_ (sub_trans rfl hm)
  try clear_value s_4
  refine keeps_ite ?_ ?_
  · exact h0_
  · refine refreshStaging_keeps (sub_trans rfl hm) ?_
    · refine refreshStaging_keeps (sub_trans rfl hm) ?_
      · refine keeps_foldl h_s_4 ?_
        · intro t_5 x_6 h_7
          refine lateDrop_keeps (sub_trans rfl hm) h_7

theorem checkTransfer_keeps {m : Nat} {r : State} {p0 : State} {p1} {p2} {p3} (hm : 352075740 &&& m = 352075740) (h0_ : Keeps m r p0) : Keeps m r (@checkTransfer p0 p1 p2 p3).1 := by
  unfold checkTransfer
  extract_lets -lift -merge -underBinder d_1 ws_2 op_3
  try clear_value d_1
  try clear_value ws_2
  try clear_value op_3
  split
  · exact keeps_fst h0_
  · refine keeps_fst ?_
    · refine modMemStat_keeps (sub_trans rfl hm) h0_
  · extract_lets -lift -merge -underBinder s_4 key_5 __src_6
    try clear_value key_5
    have h_s_4 : Keeps m r s_4 := by
      unfold s_4
      refine State_wr_keeps (sub_trans rfl hm) ?_
      · refine State_bump_keeps (sub_trans rfl hm) h0_
    try clear_value s_4
    refine keeps_ite1 ?_ ?_
    · exact keeps_fst h_s_4
    · refine keeps_fst ?_
      · refine State_err_keeps (sub_trans rfl hm) ?_
        · exact keeps_itg h_s_4 (sub_trans rfl hm) rfl rfl
  · extract_lets -lift -merge -underBinder s_7
    have h_s_7 : Keeps m r s_7 := by
      unfold s_7
      refine State_err_keeps (sub_trans rfl hm) ?_
      · refine State_wr_keeps (sub_trans rfl hm) ?_
        · refine State_bump_keeps (sub_trans rfl hm) h0_
    try clear_value s_7
    refine keeps_fst ?_
    · refine contain_keeps (sub_trans rfl hm) h_s_7
  · refine keeps_fst ?_
    · refine parityMismatch_keeps (sub_trans rfl hm) h0_
  · refine keeps_fst ?_
    · refine bridgeResend_keeps (sub_trans rfl hm) h0_

theorem plannedFlitArrive_keeps {m : Nat} {r : State} {p0} {p1} {p2} {p3} {p4} {p5} {p6 : State} (hm : 352075740 &&& m = 352075740) (h6_ : Keeps m r p6) : Keeps m r (@plannedFlitArrive p0 p1 p2 p3 p4 p5 p6) := by
  unfold plannedFlitArrive
  refine keeps_ite ?_ ?_
  · exact h6_
  · extract_lets -lift -merge -underBinder s_1 s_2
    have h_s_1 : Keeps m r s_1 := by
      unfold s_1
      refine State_plannedIn_keeps (sub_trans rfl hm) h6_
    try clear_value s_1
    have h_s_2 : Keeps m r s_2 := by
      unfold s_2
      refine drainBlocked_keeps (sub_trans rfl hm) ?_
      · refine purgeStaging_keeps (sub_trans rfl hm) h_s_1
    try clear_value s_2
    refine keeps_ite ?_ ?_
    · refine forwardPlanned_keeps (sub_trans rfl hm) h_s_1
    · split
      · rename_i heq
        have h_3 := congrArg Prod.fst heq
        replace h_3 := keeps_of_eq (m := m) (r := r) h_3 (by
          refine checkTransfer_keeps (sub_trans rfl hm) h_s_2
          )
        refine keeps_ite ?_ ?_
        · exact h_3
        · refine showFull_keeps (sub_trans rfl hm) ?_
          · refine arriveLine_keeps (sub_trans rfl hm) h_3

theorem pack_keeps {m : Nat} {r : State} {p0} {p1} {p2 : State} (hm : 1024 &&& m = 1024) (h2_ : Keeps m r p2) : Keeps m r (@pack p0 p1 p2) := by
  unfold pack
  refine keeps_ite ?_ ?_
  · exact h2_
  · split
    · refine keeps_ite ?_ ?_
      · exact h2_
      · refine modFlight_keeps (sub_trans rfl hm) h2_
    · exact h2_

theorem restartNext_keeps {m : Nat} {r : State} {p0 : State} (hm : 12868756 &&& m = 12868756) (h0_ : Keeps m r p0) : Keeps m r (@restartNext p0) := by
  unfold restartNext
  refine keeps_ite ?_ ?_
  · exact h0_
  · extract_lets -lift -merge -underBinder n_1 s_2 s_3 __src_4
    try clear_value n_1
    have h_s_2 : Keeps m r s_2 := by
      unfold s_2
      refine keeps_foldl h0_ ?_
      · intro t_5 x_6 h_7
        refine abandonRow_keeps (sub_trans rfl hm) h_7
    try clear_value s_2
    have h_s_3 : Keeps m r s_3 := by
      unfold s_3
      refine modSeq_keeps (sub_trans rfl hm) ?_
      · refine modSeq_keeps (sub_trans rfl hm) h_s_2
    try clear_value s_3
    refine keeps_ite ?_ ?_
    · refine acceptPattern_keeps (sub_trans rfl hm) h0_
    · refine acceptPattern_keeps (sub_trans rfl hm) ?_
      · exact keeps_cad h_s_3 (sub_trans rfl hm) rfl

theorem arrError_keeps {m : Nat} {r : State} {p0 : State} {p1} {p2} {p3} (hm : 4 &&& m = 4) (h0_ : Keeps m r p0) : Keeps m r (@arrError p0 p1 p2 p3) := by
  unfold arrError
  extract_lets -lift -merge -underBinder d_1 s_2
  try clear_value d_1
  have h_s_2 : Keeps m r s_2 := by
    unfold s_2
    refine State_wr_keeps (sub_trans rfl hm) ?_
    · refine State_bump_keeps (sub_trans rfl hm) h0_
  try clear_value s_2
  refine State_wr_keeps (sub_trans rfl hm) ?_
  · refine State_wr_keeps (sub_trans rfl hm) ?_
    · refine State_wr_keeps (sub_trans rfl hm) ?_
      · refine State_wr_keeps (sub_trans rfl hm) ?_
        · refine State_wr_keeps (sub_trans rfl hm) h_s_2

theorem countReads_keeps {m : Nat} {r : State} {p0 : State} {p1} (hm : 18432 &&& m = 18432) (h0_ : Keeps m r p0) : Keeps m r (@countReads p0 p1) := by
  unfold countReads
  refine keeps_foldl h0_ ?_
  · intro t_1 x_2 h_3
    refine countAccess_keeps (sub_trans rfl hm) h_3

theorem blockFailure_keeps {m : Nat} {r : State} {p0 : State} {p1} {p2} {p3} (hm : 281807892 &&& m = 281807892) (h0_ : Keeps m r p0) : Keeps m r (@blockFailure p0 p1 p2 p3) := by
  unfold blockFailure
  extract_lets -lift -merge -underBinder t_1 s_2 s_3
  try clear_value t_1
  have h_s_2 : Keeps m r s_2 := by
    unfold s_2
    refine arrError_keeps (sub_trans rfl hm) h0_
  try clear_value s_2
  have h_s_3 : Keeps m r s_3 := by
    unfold s_3
    refine State_err_keeps (sub_trans rfl hm) h_s_2
  try clear_value s_3
  refine keeps_ite ?_ ?_
  · refine residueFailure_keeps (sub_trans rfl hm) h_s_2
  · refine unitFault_keeps (sub_trans rfl hm) h_s_3

theorem showBasis_keeps {m : Nat} {r : State} {p0 : State} {p1} {p2} (hm : 4 &&& m = 4) (h0_ : Keeps m r p0) : Keeps m r (@showBasis p0 p1 p2) := by
  unfold showBasis
  extract_lets -lift -merge -underBinder d_1
  try clear_value d_1
  split
  · exact h0_
  · extract_lets -lift -merge -underBinder s_2 s_3
    have h_s_2 : Keeps m r s_2 := by
      unfold s_2
      refine State_wr_keeps (sub_trans rfl hm) ?_
      · refine State_wr_keeps (sub_trans rfl hm) ?_
        · refine State_wr_keeps (sub_trans rfl hm) h0_
    try clear_value s_2
    have h_s_3 : Keeps m r s_3 := by
      unfold s_3
      refine keeps_ite ?_ ?_
      · refine State_wr_keeps (sub_trans rfl hm) ?_
        · refine State_bump_keeps (sub_trans rfl hm) h_s_2
      · exact h_s_2
    try clear_value s_3
    refine keeps_ite ?_ ?_
    · refine arrError_keeps (sub_trans rfl hm) h_s_3
    · exact h_s_3

theorem arrayComplete_keeps {m : Nat} {r : State} {p0} {p1} {p2} {p3} {p4 : State} (hm : 281828380 &&& m = 281828380) (h4_ : Keeps m r p4) : Keeps m r (@arrayComplete p0 p1 p2 p3 p4) := by
  unfold arrayComplete
  split
  · exact h4_
  · refine keeps_ite ?_ ?_
    · exact h4_
    · extract_lets -lift -merge -underBinder checks_1 inj_2 bad_3 residue_4 s_5 r_6 s_7 s_8 s_9 s_10
      try clear_value checks_1
      try clear_value inj_2
      try clear_value bad_3
      try clear_value residue_4
      try clear_value r_6
      have h_s_5 : Keeps m r s_5 := by
        unfold s_5
        refine keeps_ite ?_ ?_
        · refine State_wr_keeps (sub_trans rfl hm) h4_
        · exact h4_
      try clear_value s_5
      have h_s_7 : Keeps m r s_7 := by
        unfold s_7
        refine deliver_keeps (sub_trans rfl hm) ?_
        · refine countReads_keeps (sub_trans rfl hm) h_s_5
      try clear_value s_7
      have h_s_8 : Keeps m r s_8 := by
        unfold s_8
        refine State_addWide_keeps (sub_trans rfl hm) ?_
        · refine countConv_keeps (sub_trans rfl hm) h_s_7
      try clear_value s_8
      have h_s_9 : Keeps m r s_9 := by
        unfold s_9
        refine keeps_ite ?_ ?_
        · exact h_s_8
        · refine keeps_foldl h_s_8 ?_
          · intro t_11 x_12 h_13
            refine blockFailure_keeps (sub_trans rfl hm) h_13
      try clear_value s_9
      have h_s_10 : Keeps m r s_10 := by
        unfold s_10
        refine keeps_foldl h_s_9 ?_
        · intro t_14 x_15 h_16
          refine blockFailure_keeps (sub_trans rfl hm) h_16
      try clear_value s_10
      refine completeRow_keeps (sub_trans rfl hm) ?_
      · refine showBasis_keeps (sub_trans rfl hm) h_s_10

theorem patternRestart_keeps {m : Nat} {r : State} {p0} {p1 : State} (hm : 12868756 &&& m = 12868756) (h1_ : Keeps m r p1) : Keeps m r (@patternRestart p0 p1) := by
  unfold patternRestart
  refine keeps_ite ?_ ?_
  · refine State_reach_keeps (sub_trans rfl hm) h1_ ?_
    · intro a_1 h_2
      refine State_answer_keeps (sub_trans rfl hm) h_2
  · refine keeps_ite ?_ ?_
    · refine State_answer_keeps (sub_trans rfl hm) h1_
    · refine State_answer_keeps (sub_trans rfl hm) ?_
      · refine restartNext_keeps (sub_trans rfl hm) h1_

theorem completeIfDone_keeps {m : Nat} {r : State} {p0 : State} {p1} {p2} {p3} (hm : 0 &&& m = 0) (h0_ : Keeps m r p0) (h3_ : ∀ q0, Keeps m r q0 → ∀ q1, Keeps m r (p3 q0 q1)) : Keeps m r (@completeIfDone p0 p1 p2 p3) := by
  unfold completeIfDone
  split
  · refine keeps_ite ?_ ?_
    · refine h3_ _ h0_ _
    · exact h0_
  · exact h0_

theorem residues_keeps {m : Nat} {r : State} {p0 : State} {p1} {p2} (hm : 281807892 &&& m = 281807892) (h0_ : Keeps m r p0) : Keeps m r (@residues p0 p1 p2) := by
  unfold residues
  refine keeps_foldl h0_ ?_
  · intro t_1 x_2 h_3
    extract_lets -lift -merge -underBinder t_4
    try clear_value t_4
    refine residueFailure_keeps (sub_trans rfl hm) h_3

theorem deliverFormed_keeps {m : Nat} {r : State} {p0 : State} {p1} {p2} (hm : 12868636 &&& m = 12868636) (h0_ : Keeps m r p0) : Keeps m r (@deliverFormed p0 p1 p2) := by
  unfold deliverFormed
  extract_lets -lift -merge -underBinder s_1 s_2 s_3
  have h_s_1 : Keeps m r s_1 := by
    unfold s_1
    refine modFlight_keeps (sub_trans rfl hm) h0_
  try clear_value s_1
  have h_s_2 : Keeps m r s_2 := by
    unfold s_2
    refine deliver_keeps (sub_trans rfl hm) h_s_1
  try clear_value s_2
  have h_s_3 : Keeps m r s_3 := by
    unfold s_3
    refine countPoison_keeps (sub_trans rfl hm) ?_
    · refine countConv_keeps (sub_trans rfl hm) h_s_2
  try clear_value s_3
  refine State_addWide_keeps (sub_trans rfl hm) h_s_3

theorem collectiveComplete_keeps {m : Nat} {r : State} {p0} {p1} {p2} {p3 : State} (hm : 281828380 &&& m = 281828380) (h3_ : Keeps m r p3) : Keeps m r (@collectiveComplete p0 p1 p2 p3) := by
  unfold collectiveComplete
  split
  · exact h3_
  · refine keeps_ite ?_ ?_
    · exact h3_
    · refine keeps_ite ?_ ?_
      · refine completeIfDone_keeps (sub_trans rfl hm) h3_ ?_
        · intro a_1 h_2 a_3
          refine completeRow_keeps (sub_trans rfl hm) h_2
      · refine keeps_ite ?_ ?_
        · exact h3_
        · extract_lets -lift -merge -underBinder res_4 fl_5 s_6
          try clear_value res_4
          try clear_value fl_5
          have h_s_6 : Keeps m r s_6 := by
            unfold s_6
            refine residues_keeps (sub_trans rfl hm) ?_
            · refine modFlight_keeps (sub_trans rfl hm) h3_
          try clear_value s_6
          refine completeIfDone_keeps (sub_trans rfl hm) ?_ ?_
          · refine deliverFormed_keeps (sub_trans rfl hm) ?_
            · refine sendOn_keeps (sub_trans rfl hm) h_s_6
          · intro a_7 h_8 a_9
            refine completeRow_keeps (sub_trans rfl hm) h_8

theorem countHeld_keeps {m : Nat} {r : State} {p0 : State} {p1} {p2} (hm : 12845076 &&& m = 12845076) (h0_ : Keeps m r p0) : Keeps m r (@countHeld p0 p1 p2) := by
  unfold countHeld
  extract_lets -lift -merge -underBinder d_1 s_2 s_3
  try clear_value d_1
  have h_s_2 : Keeps m r s_2 := by
    unfold s_2
    refine State_wr_keeps (sub_trans rfl hm) ?_
    · refine State_bumpN_keeps (sub_trans rfl hm) h0_
  try clear_value s_2
  have h_s_3 : Keeps m r s_3 := by
    unfold s_3
    refine State_wr_keeps (sub_trans rfl hm) ?_
    · refine State_wr_keeps (sub_trans rfl hm) ?_
      · refine State_wr_keeps (sub_trans rfl hm) ?_
        · refine State_wr_keeps (sub_trans rfl hm) h_s_2
  try clear_value s_3
  refine keeps_ite ?_ ?_
  · exact h0_
  · refine State_err_keeps (sub_trans rfl hm) h_s_3

theorem takeWord_keeps {m : Nat} {r : State} {p0} {p1} {p2} (hm : 12847124 &&& m = 12847124) (h0_ : Keeps m r p0.1) : Keeps m r (@takeWord p0 p1 p2).1 := by
  unfold takeWord
  extract_lets -lift -merge -underBinder s_1 off_2
  try clear_value off_2
  have h_s_1 : Keeps m r s_1 := by
    unfold s_1
    exact h0_
  try clear_value s_1
  split
  · refine keeps_ite1 ?_ ?_
    · refine keeps_fst ?_
      · refine State_err_keeps (sub_trans rfl hm) h_s_1
    · exact h0_
  · refine keeps_ite1 ?_ ?_
    · exact h0_
    · refine keeps_fst ?_
      · refine writeSpan_keeps (sub_trans rfl hm) h_s_1

theorem takeDesc_keeps {m : Nat} {r : State} {p0 : State} {p1} {p2} (hm : 12846100 &&& m = 12846100) (h0_ : Keeps m r p0) : Keeps m r (@takeDesc p0 p1 p2) := by
  unfold takeDesc
  extract_lets -lift -merge -underBinder d_1 staged_2 old_3
  try clear_value d_1
  try clear_value staged_2
  try clear_value old_3
  split
  · extract_lets -lift -merge -underBinder __src_4 s_5
    have h_s_5 : Keeps m r s_5 := by
      unfold s_5
      exact keeps_pat h0_ (sub_trans rfl hm)
    try clear_value s_5
    refine State_bump_keeps (sub_trans rfl hm) h_s_5
  · extract_lets -lift -merge -underBinder s_6
    have h_s_6 : Keeps m r s_6 := by
      unfold s_6
      refine State_wr_keeps (sub_trans rfl hm) ?_
      · refine State_bump_keeps (sub_trans rfl hm) h0_
    try clear_value s_6
    refine State_err_keeps (sub_trans rfl hm) h_s_6

theorem descriptorTakeUp_keeps {m : Nat} {r : State} {p0} {p1 : State} (hm : 352075740 &&& m = 352075740) (h1_ : Keeps m r p1) : Keeps m r (@descriptorTakeUp p0 p1) := by
  unfold descriptorTakeUp
  split
  · exact h1_
  · refine keeps_ite ?_ ?_
    · exact h1_
    · extract_lets -lift -merge -underBinder base_1 __src_2 s_3 hit_4 ok_5 r_6 s_7
      try clear_value base_1
      try clear_value hit_4
      try clear_value ok_5
      have h_s_3 : Keeps m r s_3 := by
        unfold s_3
        exact keeps_pat h1_ (sub_trans rfl hm)
      try clear_value s_3
      have h_r_6 : Keeps m r r_6.1 := by
        unfold r_6
        refine keeps_foldl1 ?_ ?_
        · exact keeps_fst h_s_3
        · intro t_8 x_9 h_10
          refine takeWord_keeps (sub_trans rfl hm) h_10
      try clear_value r_6
      have h_s_7 : Keeps m r s_7 := by
        unfold s_7
        refine keeps_foldl ?_ ?_
        · exact h_r_6
        · intro t_11 x_12 h_13
          refine takeDesc_keeps (sub_trans rfl hm) h_13
      try clear_value s_7
      refine keeps_ite ?_ ?_
      · exact h_s_3
      · split
        · refine poolUncorrectable_keeps (sub_trans rfl hm) h_s_7
        · exact h_s_7

theorem formDigest_keeps {m : Nat} {r : State} {p0 : State} {p1} (hm : 281824276 &&& m = 281824276) (h0_ : Keeps m r p0) : Keeps m r (@formDigest p0 p1) := by
  unfold formDigest
  extract_lets -lift -merge -underBinder ws_1 res_2 table_3 v_4 off_5 s_6 ranks_7
  try clear_value ws_1
  try clear_value res_2
  try clear_value table_3
  try clear_value v_4
  try clear_value off_5
  try clear_value ranks_7
  have h_s_6 : Keeps m r s_6 := by
    unfold s_6
    refine rowWrites_keeps (sub_trans rfl hm) h0_
  try clear_value s_6
  refine keeps_ite ?_ ?_
  · exact h0_
  · refine actVote_keeps (sub_trans rfl hm) h_s_6

theorem digestComplete_keeps {m : Nat} {r : State} {p0} {p1} {p2 : State} (hm : 281828372 &&& m = 281828372) (h2_ : Keeps m r p2) : Keeps m r (@digestComplete p0 p1 p2) := by
  unfold digestComplete
  split
  · exact h2_
  · refine keeps_ite ?_ ?_
    · exact h2_
    · refine keeps_ite ?_ ?_
      · refine completeIfDone_keeps (sub_trans rfl hm) h2_ ?_
        · intro a_1 h_2 a_3
          refine completeRow_keeps (sub_trans rfl hm) h_2
      · refine completeIfDone_keeps (sub_trans rfl hm) ?_ ?_
        · refine formDigest_keeps (sub_trans rfl hm) ?_
          · refine modFlight_keeps (sub_trans rfl hm) ?_
            · refine sendOn_keeps (sub_trans rfl hm) h2_
        · intro a_4 h_5 a_6
          refine completeRow_keeps (sub_trans rfl hm) h_5

theorem fenceDone_keeps {m : Nat} {r : State} {p0 : State} {p1} {p2} (hm : 1028 &&& m = 1028) (h0_ : Keeps m r p0) : Keeps m r (@fenceDone p0 p1 p2) := by
  unfold fenceDone
  extract_lets -lift -merge -underBinder off_1
  try clear_value off_1
  refine State_wr_keeps (sub_trans rfl hm) ?_
  · refine rowDone_keeps (sub_trans rfl hm) ?_
    · refine modSeq_keeps (sub_trans rfl hm) h0_

theorem fenceComplete_keeps {m : Nat} {r : State} {p0 : State} (hm : 1028 &&& m = 1028) (h0_ : Keeps m r p0) : Keeps m r (@fenceComplete p0) := by
  unfold fenceComplete
  split
  · exact h0_
  · extract_lets -lift -merge -underBinder a_1 b_2
    try clear_value a_1
    try clear_value b_2
    refine keeps_foldl ?_ ?_
    · refine keeps_foldl h0_ ?_
      · intro t_3 x_4 h_5
        refine fenceDone_keeps (sub_trans rfl hm) h_5
    · intro t_6 x_7 h_8
      refine fenceDone_keeps (sub_trans rfl hm) h_8

theorem sliceComplete_keeps {m : Nat} {r : State} {p0} {p1} {p2} {p3 : State} (hm : 281824276 &&& m = 281824276) (h3_ : Keeps m r p3) : Keeps m r (@sliceComplete p0 p1 p2 p3) := by
  unfold sliceComplete
  split
  · exact h3_
  · refine keeps_ite ?_ ?_
    · exact h3_
    · extract_lets -lift -merge -underBinder r_1 s_2 s_3
      have h_r_1 : Keeps m r r_1.1 := by
        unfold r_1
        refine computeSlice_keeps (sub_trans rfl hm) h3_
      try clear_value r_1
      have h_s_2 : Keeps m r s_2 := by
        unfold s_2
        refine countConv_keeps (sub_trans rfl hm) ?_
        · exact h_r_1
      try clear_value s_2
      have h_s_3 : Keeps m r s_3 := by
        unfold s_3
        refine keeps_foldl h_s_2 ?_
        · intro t_4 x_5 h_6
          extract_lets -lift -merge -underBinder c_7
          try clear_value c_7
          refine residueFailure_keeps (sub_trans rfl hm) h_6
      try clear_value s_3
      refine completeRow_keeps (sub_trans rfl hm) h_s_3

theorem computeFused_keeps {m : Nat} {r s : State} {fl : Flight} {l : List Nat} (hm : 18436 &&& m = 18436) (h : Keeps m r s) : Keeps m r (computeFused s fl l).state := by
  unfold computeFused
  extract_lets
  refine keeps_foldl1 h fun t x ht => ?_
  exact keeps_ite1 (keeps_fst ht) (keeps_fst (fusedLine_keeps (sub_trans rfl hm) ht))

theorem fusedUpdate_keeps {m : Nat} {r : State} {p0 : State} {p1} {p2} (hm : 281828380 &&& m = 281828380) (h0_ : Keeps m r p0) : Keeps m r (@fusedUpdate p0 p1 p2) := by
  unfold fusedUpdate
  extract_lets -lift -merge -underBinder s_1 r_2 s_3 s_4
  have h_s_1 : Keeps m r s_1 := by
    unfold s_1
    refine residues_keeps (sub_trans rfl hm) h0_
  try clear_value s_1
  have h_s_3 : Keeps m r s_3 := by
    unfold s_3
    refine modFlight_keeps (sub_trans rfl hm) ?_
    · unfold r_2
      exact computeFused_keeps (sub_trans rfl hm) h_s_1
  try clear_value s_3
  have h_s_4 : Keeps m r s_4 := by
    unfold s_4
    refine countHeld_keeps (sub_trans rfl hm) ?_
    · refine countConv_keeps (sub_trans rfl hm) h_s_3
  try clear_value s_4
  refine sendOn_keeps (sub_trans rfl hm) ?_
  · refine State_addWide_keeps (sub_trans rfl hm) h_s_4

theorem finishByLimit_keeps {m : Nat} {r : State} {p0 : State} {p1} (hm : 281828380 &&& m = 281828380) (h0_ : Keeps m r p0) : Keeps m r (@finishByLimit p0 p1) := by
  unfold finishByLimit
  refine keeps_ite ?_ ?_
  · refine keeps_ite ?_ ?_
    · refine completeFused_keeps (sub_trans rfl hm) h0_
    · refine completeRow_keeps (sub_trans rfl hm) h0_
  · split
    · refine completeRow_keeps (sub_trans rfl hm) ?_
      · refine deliverFormed_keeps (sub_trans rfl hm) h0_
    · refine arrayComplete_keeps (sub_trans rfl hm) h0_
    · refine sliceComplete_keeps (sub_trans rfl hm) h0_
    · extract_lets -lift -merge -underBinder s_1
      have h_s_1 : Keeps m r s_1 := by
        unfold s_1
        refine keeps_ite ?_ ?_
        · refine fusedUpdate_keeps (sub_trans rfl hm) h0_
        · exact h0_
      try clear_value s_1
      split
      · refine completeFused_keeps (sub_trans rfl hm) ?_
        · refine deliverFormed_keeps (sub_trans rfl hm) h_s_1
      · exact h_s_1
    · refine completeRow_keeps (sub_trans rfl hm) ?_
      · refine formDigest_keeps (sub_trans rfl hm) h0_
    · refine completeRow_keeps (sub_trans rfl hm) ?_
      · refine takeGaugeResult_keeps (sub_trans rfl hm) h0_
    · refine completeRow_keeps (sub_trans rfl hm) h0_

theorem fusedComplete_keeps {m : Nat} {r : State} {p0} {p1} {p2} {p3 : State} (hm : 281828380 &&& m = 281828380) (h3_ : Keeps m r p3) : Keeps m r (@fusedComplete p0 p1 p2 p3) := by
  unfold fusedComplete
  split
  · exact h3_
  · refine keeps_ite ?_ ?_
    · exact h3_
    · refine keeps_ite ?_ ?_
      · refine completeIfDone_keeps (sub_trans rfl hm) h3_ ?_
        · intro a_1 h_2 a_3
          refine completeFused_keeps (sub_trans rfl hm) h_2
      · extract_lets -lift -merge -underBinder s_4
        have h_s_4 : Keeps m r s_4 := by
          unfold s_4
          refine keeps_ite ?_ ?_
          · refine fusedUpdate_keeps (sub_trans rfl hm) h3_
          · exact h3_
        try clear_value s_4
        split
        · exact h_s_4
        · refine keeps_ite ?_ ?_
          · exact h_s_4
          · refine completeIfDone_keeps (sub_trans rfl hm) ?_ ?_
            · refine deliverFormed_keeps (sub_trans rfl hm) h_s_4
            · intro a_5 h_6 a_7
              refine completeFused_keeps (sub_trans rfl hm) h_6

theorem gaugeResult_keeps {m : Nat} {r : State} {p0} {p1} {p2} {p3 : State} (hm : 8408084 &&& m = 8408084) (h3_ : Keeps m r p3) : Keeps m r (@gaugeResult p0 p1 p2 p3) := by
  unfold gaugeResult
  split
  · exact h3_
  · refine keeps_ite ?_ ?_
    · exact h3_
    · refine completeRow_keeps (sub_trans rfl hm) ?_
      · refine takeGaugeResult_keeps (sub_trans rfl hm) h3_

theorem limitRecord_keeps {m : Nat} {r : State} {p0 : State} {p1} {p2} {p3} (hm : 12845076 &&& m = 12845076) (h0_ : Keeps m r p0) : Keeps m r (@limitRecord p0 p1 p2 p3) := by
  unfold limitRecord
  extract_lets -lift -merge -underBinder n_1
  try clear_value n_1
  refine State_err_keeps (sub_trans rfl hm) ?_
  · refine State_bump_keeps (sub_trans rfl hm) h0_

theorem newFlight_keeps {m : Nat} {r : State} {p0 : State} {p1} {p2} {p3} {p4} (hm : 19456 &&& m = 19456) (h0_ : Keeps m r p0) : Keeps m r (@newFlight p0 p1 p2 p3 p4) := by
  unfold newFlight
  extract_lets -lift -merge -underBinder reads_1 params_2 fl_3 count_4 s_5 s_6 s_7 __src_8
  try clear_value reads_1
  try clear_value params_2
  try clear_value fl_3
  have h_count_4 : ∀ a_9, Keeps m r a_9 → ∀ a_10, ∀ a_11, Keeps m r (count_4 a_9 a_10 a_11) := by
    intro a_9 h_12 a_10 a_11
    unfold count_4
    refine countAccess_keeps (sub_trans rfl hm) h_12
  have h_s_5 : Keeps m r s_5 := by
    unfold s_5
    refine keeps_foldl h0_ ?_
    · intro t_13 x_14 h_15
      refine h_count_4 _ h_15 _ _
  try clear_value s_5
  have h_s_6 : Keeps m r s_6 := by
    unfold s_6
    refine keeps_ite ?_ ?_
    · refine h_count_4 _ h_s_5 _ _
    · exact h_s_5
  try clear_value s_6
  have h_s_7 : Keeps m r s_7 := by
    unfold s_7
    refine keeps_ite ?_ ?_
    · refine settleBuckets_keeps (sub_trans rfl hm) h_s_6
    · exact h_s_6
  try clear_value s_7
  try clear_value count_4
  exact keeps_pat h_s_7 (sub_trans rfl hm)

theorem rowLimitExpire_keeps {m : Nat} {r : State} {p0} {p1} {p2 : State} (hm : 281828380 &&& m = 281828380) (h2_ : Keeps m r p2) : Keeps m r (@rowLimitExpire p0 p1 p2) := by
  unfold rowLimitExpire
  split
  · refine keeps_ite ?_ ?_
    · exact h2_
    · refine limitRecord_keeps (sub_trans rfl hm) ?_
      · refine finishByLimit_keeps (sub_trans rfl hm) h2_
  · split
    · extract_lets -lift -merge -underBinder ws_1
      try clear_value ws_1
      refine keeps_ite ?_ ?_
      · exact h2_
      · refine limitRecord_keeps (sub_trans rfl hm) ?_
        · refine fenceDone_keeps (sub_trans rfl hm) h2_
    · exact h2_

theorem stopRow_keeps {m : Nat} {r : State} {p0 : State} {p1} {p2} {p3} {p4} (hm : 12845076 &&& m = 12845076) (h0_ : Keeps m r p0) : Keeps m r (@stopRow p0 p1 p2 p3 p4) := by
  unfold stopRow
  extract_lets -lift -merge -underBinder n_1 s_2 s_3 s_4
  try clear_value n_1
  have h_s_2 : Keeps m r s_2 := by
    unfold s_2
    refine patErrorOn_keeps (sub_trans rfl hm) ?_
    · refine State_wr_keeps (sub_trans rfl hm) h0_
  try clear_value s_2
  have h_s_3 : Keeps m r s_3 := by
    unfold s_3
    refine State_bump_keeps (sub_trans rfl hm) h_s_2
  try clear_value s_3
  have h_s_4 : Keeps m r s_4 := by
    unfold s_4
    refine State_err_keeps (sub_trans rfl hm) h_s_3
  try clear_value s_4
  refine keeps_ite ?_ ?_
  · exact h_s_4
  · refine State_err_keeps (sub_trans rfl hm) ?_
    · refine State_wr_keeps (sub_trans rfl hm) ?_
      · refine State_bump_keeps (sub_trans rfl hm) h_s_4

theorem triggerFence_keeps {m : Nat} {r : State} {p0 : State} {p1} {p2} {p3} {p4} (hm : 12846100 &&& m = 12846100) (h0_ : Keeps m r p0) : Keeps m r (@triggerFence p0 p1 p2 p3 p4) := by
  unfold triggerFence
  extract_lets -lift -merge -underBinder n_1 go_2
  try clear_value n_1
  have h_go_2 : Keeps m r go_2 := by
    unfold go_2
    refine modSeq_keeps (sub_trans rfl hm) h0_
  try clear_value go_2
  split
  · refine keeps_ite ?_ ?_
    · exact h_go_2
    · extract_lets -lift -merge -underBinder off_3
      try clear_value off_3
      refine stopRow_keeps (sub_trans rfl hm) ?_
      · refine modSeq_keeps (sub_trans rfl hm) ?_
        · refine stopRow_keeps (sub_trans rfl hm) h0_
  · exact h_go_2

theorem startReads_keeps {m : Nat} {r : State} {p0 : State} {p1} {p2} (hm : 12850196 &&& m = 12850196) (h0_ : Keeps m r p0) : Keeps m r (@startReads p0 p1 p2) := by
  unfold startReads
  split
  · exact h0_
  · extract_lets -lift -merge -underBinder need_1 at__2 addr_3 refused_4 s_5 s_6
    try clear_value need_1
    try clear_value at__2
    try clear_value addr_3
    try clear_value refused_4
    have h_s_5 : Keeps m r s_5 := by
      unfold s_5
      refine modFlight_keeps (sub_trans rfl hm) h0_
    try clear_value s_5
    have h_s_6 : Keeps m r s_6 := by
      unfold s_6
      refine keeps_foldl h_s_5 ?_
      · intro t_7 x_8 h_9
        refine guardRefusal_keeps (sub_trans rfl hm) h_9
    try clear_value s_6
    refine keeps_foldl h_s_6 ?_
    · intro t_10 x_11 h_12
      refine keeps_foldl h_12 ?_
      · intro t_13 x_14 h_15
        refine State_send_keeps (sub_trans rfl hm) h_15

theorem takeOff_keeps {m : Nat} {r : State} {p0 : State} {p1} {p2} {p3} (hm : 12868628 &&& m = 12868628) (h0_ : Keeps m r p0) : Keeps m r (@takeOff p0 p1 p2 p3) := by
  unfold takeOff
  extract_lets -lift -merge -underBinder mine_1 take_2 s_3 __src_4 s_5 s_6
  try clear_value mine_1
  try clear_value take_2
  have h_s_3 : Keeps m r s_3 := by
    unfold s_3
    refine newFlight_keeps (sub_trans rfl hm) h0_
  try clear_value s_3
  have h_s_5 : Keeps m r s_5 := by
    unfold s_5
    exact keeps_pat h_s_3 (sub_trans rfl hm)
  try clear_value s_5
  have h_s_6 : Keeps m r s_6 := by
    unfold s_6
    refine keeps_ite ?_ ?_
    · exact h_s_5
    · refine refreshStaging_keeps (sub_trans rfl hm) h_s_5
  try clear_value s_6
  refine drainBlocked_keeps (sub_trans rfl hm) ?_
  · refine sendOn_keeps (sub_trans rfl hm) ?_
    · refine startReads_keeps (sub_trans rfl hm) h_s_6

theorem triggerRow_keeps {m : Nat} {r : State} {p0 : State} {p1} {p2} {p3} {p4} (hm : 12901524 &&& m = 12901524) (h0_ : Keeps m r p0) : Keeps m r (@triggerRow p0 p1 p2 p3 p4) := by
  unfold triggerRow
  refine keeps_ite ?_ ?_
  · refine triggerFence_keeps (sub_trans rfl hm) h0_
  · extract_lets -lift -merge -underBinder s_1 s_2 s_3
    have h_s_1 : Keeps m r s_1 := by
      unfold s_1
      refine modSeq_keeps (sub_trans rfl hm) h0_
    try clear_value s_1
    have h_s_2 : Keeps m r s_2 := by
      unfold s_2
      refine advanceHall_keeps (sub_trans rfl hm) ?_
      · refine rowDone_keeps (sub_trans rfl hm) h_s_1
    try clear_value s_2
    have h_s_3 : Keeps m r s_3 := by
      unfold s_3
      refine keeps_ite ?_ ?_
      · refine gaugeTrigger_keeps (sub_trans rfl hm) h_s_1
      · exact h_s_1
    try clear_value s_3
    refine keeps_ite ?_ ?_
    · split
      · refine powerRow_keeps (sub_trans rfl hm) h_s_2
      · refine refreshShares_keeps (sub_trans rfl hm) ?_
        · exact keeps_mem h_s_2 (sub_trans rfl hm) rfl
      · refine lookStepEnd_keeps (sub_trans rfl hm) ?_
        · refine modSeq_keeps (sub_trans rfl hm) h_s_2
      · exact h_s_2
    · refine takeOff_keeps (sub_trans rfl hm) h_s_3

theorem rowTrigger_keeps {m : Nat} {r : State} {p0} {p1} {p2 : State} (hm : 352124892 &&& m = 352124892) (h2_ : Keeps m r p2) : Keeps m r (@rowTrigger p0 p1 p2) := by
  unfold rowTrigger
  split
  · exact h2_
  · extract_lets -lift -merge -underBinder q_1 s_2 i_3
    try clear_value q_1
    try clear_value i_3
    have h_s_2 : Keeps m r s_2 := by
      unfold s_2
      refine drainBlocked_keeps (sub_trans rfl hm) ?_
      · refine purgeStaging_keeps (sub_trans rfl hm) h2_
    try clear_value s_2
    refine keeps_ite ?_ ?_
    · exact h2_
    · split
      · exact h_s_2
      · split
        · refine keeps_ite ?_ ?_
          · exact h_s_2
          · refine stopRow_keeps (sub_trans rfl hm) h_s_2
        · refine keeps_ite ?_ ?_
          · exact h_s_2
          · refine keeps_ite ?_ ?_
            · refine sramUncorrectable_keeps (sub_trans rfl hm) h_s_2
            · refine keeps_ite ?_ ?_
              · refine triggerRow_keeps (sub_trans rfl hm) ?_
                · refine wordCorrected_keeps (sub_trans rfl hm) h_s_2
              · refine triggerRow_keeps (sub_trans rfl hm) h_s_2

/-! ## Package -/

theorem resumeTrickle_keeps {m : Nat} {r : State} {p0 : State} (hm : 67108868 &&& m = 67108868) (h0_ : Keeps m r p0) : Keeps m r (@resumeTrickle p0) := by
  unfold resumeTrickle
  split
  · exact h0_
  · extract_lets -lift -merge -underBinder x_1 __src_2 s_3
    try clear_value x_1
    have h_s_3 : Keeps m r s_3 := by
      unfold s_3
      exact keeps_upd h0_ (sub_trans rfl hm)
    try clear_value s_3
    refine State_wr_keeps (sub_trans rfl hm) ?_
    · refine State_wr_keeps (sub_trans rfl hm) ?_
      · refine State_wr_keeps (sub_trans rfl hm) h_s_3

theorem deviceReset_keeps {m : Nat} {r : State} {p0 : State} {p1} {p2} (hm : 1342177260 &&& m = 1342177260) (h0_ : Keeps m r p0) : Keeps m r (@deviceReset p0 p1 p2) := by
  unfold deviceReset
  extract_lets -lift -merge -underBinder block_1 f_2 m_3 f_4 f_5 f_6 f_7 f_8 id_9 f_10 f_11 f_12 f_13 __src_14
  try clear_value block_1
  try clear_value m_3
  try clear_value id_9
  have h_f_2 : Keeps m r f_2 := by
    unfold f_2
    refine keeps_by (b := 1342177260) h0_ (sub_trans rfl hm) (by intro p hp; cases p <;> first | rfl | cases hp) rfl (fun _ => ?_) (otpRises_refl _)
    exact ⟨rfl, ⟨Nat.zero_lt_succ _, fun e he => absurd he (List.not_mem_nil)⟩, Nat.zero_le _, Nat.zero_le _, fun _ ho => nomatch ho⟩
  try clear_value f_2
  have h_f_4 : Keeps m r f_4 := by
    unfold f_4
    refine State_wr_keeps (sub_trans rfl hm) ?_
    · refine State_wr_keeps (sub_trans rfl hm) h_f_2
  try clear_value f_4
  have h_f_5 : Keeps m r f_5 := by
    unfold f_5
    refine State_wr_keeps (sub_trans rfl hm) ?_
    · refine State_wr_keeps (sub_trans rfl hm) ?_
      · refine State_wr_keeps (sub_trans rfl hm) h_f_4
  try clear_value f_5
  have h_f_6 : Keeps m r f_6 := by
    unfold f_6
    refine State_wr_keeps (sub_trans rfl hm) ?_
    · refine State_wr_keeps (sub_trans rfl hm) h_f_5
  try clear_value f_6
  have h_f_7 : Keeps m r f_7 := by
    unfold f_7
    refine keeps_foldl h_f_6 ?_
    · intro t_15 x_16 h_17
      refine State_wr_keeps (sub_trans rfl hm) h_17
  try clear_value f_7
  have h_f_8 : Keeps m r f_8 := by
    unfold f_8
    refine keeps_foldl h_f_7 ?_
    · intro t_18 x_19 h_20
      refine keeps_ite ?_ ?_
      · refine setRegion_keeps (sub_trans rfl hm) h_20
      · exact h_20
  try clear_value f_8
  have h_f_10 : Keeps m r f_10 := by
    unfold f_10
    refine keeps_foldl h_f_8 ?_
    · intro t_21 x_22 h_23
      refine State_wr_keeps (sub_trans rfl hm) h_23
  try clear_value f_10
  have h_f_11 : Keeps m r f_11 := by
    unfold f_11
    refine keeps_ite ?_ ?_
    · refine State_wr_keeps (sub_trans rfl hm) h_f_10
    · exact h_f_10
  try clear_value f_11
  have h_f_12 : Keeps m r f_12 := by
    unfold f_12
    refine keeps_ite ?_ ?_
    · refine seedArbiter_keeps (sub_trans rfl hm) h_f_11
    · exact h_f_11
  try clear_value f_12
  have h_f_13 : Keeps m r f_13 := by
    unfold f_13
    refine keeps_ite ?_ ?_
    · refine State_event_keeps (sub_trans rfl hm) h_f_12
    · exact h_f_12
  try clear_value f_13
  refine keeps_ite ?_ ?_
  · refine resumeTrickle_keeps (sub_trans rfl hm) ?_
    · split
      · refine State_event_keeps (sub_trans rfl hm) ?_
        · refine State_wr_keeps (sub_trans rfl hm) h_f_13
      · exact h_f_13
  · exact keeps_upd h_f_13 (sub_trans rfl hm)

theorem afterSingleReset_keeps {m : Nat} {r : State} {p0 : State} {p1} (hm : 352083932 &&& m = 352083932) (h0_ : Keeps m r p0) : Keeps m r (@afterSingleReset p0 p1) := by
  unfold afterSingleReset
  refine keeps_ite ?_ ?_
  · exact h0_
  · split
    · refine restartNext_keeps (sub_trans rfl hm) ?_
      · refine writeNext_keeps (sub_trans rfl hm) h0_
    · refine resetDie_keeps (sub_trans rfl hm) h0_

theorem loadGroupTime_keeps {m : Nat} {r : State} {p0 : State} (hm : 512 &&& m = 512) (h0_ : Keeps m r p0) : Keeps m r (@loadGroupTime p0) := by
  unfold loadGroupTime
  extract_lets -lift -merge -underBinder g_1 t_2
  try clear_value g_1
  try clear_value t_2
  exact keeps_gt h0_ (sub_trans rfl hm)

theorem startTime_keeps {m : Nat} {r : State} {p0 : State} (hm : 512 &&& m = 512) (h0_ : Keeps m r p0) : Keeps m r (@startTime p0) := by
  unfold startTime
  refine keeps_ite ?_ ?_
  · exact keeps_gt h0_ (sub_trans rfl hm)
  · exact keeps_gt h0_ (sub_trans rfl hm)

theorem startQueueProc_keeps {m : Nat} {r : State} {p0 : State} {p1} (hm : 1048580 &&& m = 1048580) (h0_ : Keeps m r p0) : Keeps m r (@startQueueProc p0 p1) := by
  unfold startQueueProc
  refine keeps_ite ?_ ?_
  · refine State_wr_keeps (sub_trans rfl hm) h0_
  · refine State_modProc_keeps (sub_trans rfl hm) ?_
    · refine State_wr_keeps (sub_trans rfl hm) h0_

theorem scheduleStarts_keeps {m : Nat} {r : State} {p0 : State} {p1} {p2} (hm : 64 &&& m = 64) (h0_ : Keeps m r p0) : Keeps m r (@scheduleStarts p0 p1 p2) := by
  unfold scheduleStarts
  extract_lets -lift -merge -underBinder x_1 made_2 last_3 first_4 order_5 plan_6
  try clear_value x_1
  try clear_value made_2
  try clear_value last_3
  try clear_value first_4
  try clear_value order_5
  try clear_value plan_6
  refine State_modDie_keeps (sub_trans rfl hm) h0_

theorem requestDomains_keeps {m : Nat} {r : State} {p0 : State} {p1} {p2} (hm : 68 &&& m = 68) (h0_ : Keeps m r p0) : Keeps m r (@requestDomains p0 p1 p2) := by
  unfold requestDomains
  refine keeps_ite ?_ ?_
  · exact h0_
  · extract_lets -lift -merge -underBinder busy_1 new_2 s_3 s_4
    try clear_value busy_1
    try clear_value new_2
    have h_s_3 : Keeps m r s_3 := by
      unfold s_3
      refine State_modDie_keeps (sub_trans rfl hm) h0_
    try clear_value s_3
    have h_s_4 : Keeps m r s_4 := by
      unfold s_4
      refine State_wr_keeps (sub_trans rfl hm) h_s_3
    try clear_value s_4
    refine keeps_ite ?_ ?_
    · exact h_s_4
    · refine scheduleStarts_keeps (sub_trans rfl hm) h_s_4

theorem releaseDie_keeps {m : Nat} {r : State} {p0 : State} {p1} (hm : 1051460 &&& m = 1051460) (h0_ : Keeps m r p0) : Keeps m r (@releaseDie p0 p1) := by
  unfold releaseDie
  extract_lets -lift -merge -underBinder first_1 __src_2 s_3 s_4 s_5 s_6 want_7 __src_8 s_9 s_10
  try clear_value first_1
  try clear_value want_7
  have h_s_3 : Keeps m r s_3 := by
    unfold s_3
    refine keeps_ite ?_ ?_
    · refine loadGroupTime_keeps (sub_trans rfl hm) ?_
      · exact keeps_mem h0_ (sub_trans rfl hm) rfl
    · exact keeps_own h0_ (sub_trans rfl hm) (own_tput _ (by decide))
  try clear_value s_3
  have h_s_4 : Keeps m r s_4 := by
    unfold s_4
    refine keeps_ite ?_ ?_
    · refine startTime_keeps (sub_trans rfl hm) h_s_3
    · exact h_s_3
  try clear_value s_4
  have h_s_5 : Keeps m r s_5 := by
    unfold s_5
    refine State_modDie_keeps (sub_trans rfl hm) h_s_4
  try clear_value s_5
  have h_s_6 : Keeps m r s_6 := by
    unfold s_6
    refine keeps_foldl h_s_5 ?_
    · intro t_11 x_12 h_13
      refine startQueueProc_keeps (sub_trans rfl hm) h_13
  try clear_value s_6
  have h_s_9 : Keeps m r s_9 := by
    unfold s_9
    refine keeps_ite ?_ ?_
    · exact keeps_sup h_s_6 (sub_trans rfl hm)
    · exact h_s_6
  try clear_value s_9
  have h_s_10 : Keeps m r s_10 := by
    unfold s_10
    refine milestone_keeps (sub_trans rfl hm) h_s_9
  try clear_value s_10
  refine requestDomains_keeps (sub_trans rfl hm) h_s_10

theorem containmentRelease_keeps {m : Nat} {r : State} {p0 : State} (hm : 1313604 &&& m = 1313604) (h0_ : Keeps m r p0) : Keeps m r (@containmentRelease p0) := by
  unfold containmentRelease
  split
  · exact h0_
  · refine keeps_ite ?_ ?_
    · refine State_wr_keeps (sub_trans rfl hm) ?_
      · exact keeps_itg h0_ (sub_trans rfl hm) rfl rfl
    · refine keeps_ite ?_ ?_
      · exact h0_
      · refine keeps_foldl h0_ ?_
        · intro t_1 x_2 h_3
          refine keeps_ite ?_ ?_
          · refine releaseDie_keeps (sub_trans rfl hm) h_3
          · exact h_3

theorem crystalFail_keeps {m : Nat} {r : State} {p0 : State} (hm : 12845140 &&& m = 12845140) (h0_ : Keeps m r p0) : Keeps m r (@crystalFail p0) := by
  unfold crystalFail
  extract_lets -lift -merge -underBinder __src_1 s_2
  have h_s_2 : Keeps m r s_2 := by
    unfold s_2
    exact keeps_sup h0_ (sub_trans rfl hm)
  try clear_value s_2
  refine State_err_keeps (sub_trans rfl hm) ?_
  · refine State_wr_keeps (sub_trans rfl hm) h_s_2

theorem dieLost_keeps {m : Nat} {r : State} {p0 : State} {p1 : State} (hm : 352083932 &&& m = 352083932) (h0_ : Keeps m r p0) (h1_ : Keeps m r p1) : Keeps m r (@dieLost p0 p1) := by
  unfold dieLost
  refine keeps_ite ?_ ?_
  · refine afterSingleReset_keeps (sub_trans rfl hm) h1_
  · refine keeps_ite ?_ ?_
    · refine afterSingleReset_keeps (sub_trans rfl hm) h1_
    · exact h1_

theorem domainOffRequest_keeps {m : Nat} {r : State} {p0} {p1} {p2} {p3 : State} (hm : 12852316 &&& m = 12852316) (h3_ : Keeps m r p3) : Keeps m r (@domainOffRequest p0 p1 p2 p3) := by
  unfold domainOffRequest
  refine keeps_ite ?_ ?_
  · refine State_answer_keeps (sub_trans rfl hm) h3_
  · refine keeps_ite ?_ ?_
    · refine State_answer_keeps (sub_trans rfl hm) h3_
    · extract_lets -lift -merge -underBinder used_1 waits_2 s_3 s_4 s_5
      try clear_value used_1
      try clear_value waits_2
      have h_s_3 : Keeps m r s_3 := by
        unfold s_3
        refine State_modDie_keeps (sub_trans rfl hm) h3_
      try clear_value s_3
      have h_s_4 : Keeps m r s_4 := by
        unfold s_4
        refine keeps_ite ?_ ?_
        · exact h_s_3
        · refine scheduleStarts_keeps (sub_trans rfl hm) h_s_3
      try clear_value s_4
      have h_s_5 : Keeps m r s_5 := by
        unfold s_5
        refine keeps_ite ?_ ?_
        · refine State_wr_keeps (sub_trans rfl hm) ?_
          · refine State_modDie_keeps (sub_trans rfl hm) h_s_4
        · refine switchOff_keeps (sub_trans rfl hm) h_s_4
      try clear_value s_5
      refine State_answer_keeps (sub_trans rfl hm) h_s_5

theorem trySelect_keeps {m : Nat} {r : State} {p0 : State} (hm : 12868820 &&& m = 12868820) (h0_ : Keeps m r p0) : Keeps m r (@trySelect p0) := by
  unfold trySelect
  split
  · exact h0_
  · extract_lets -lift -merge -underBinder idle_1
    try clear_value idle_1
    split
    · exact h0_
    · refine keeps_ite ?_ ?_
      · exact h0_
      · refine keeps_ite ?_ ?_
        · refine requestDomains_keeps (sub_trans rfl hm) ?_
          · refine requestDomains_keeps (sub_trans rfl hm) h0_
        · refine keeps_ite ?_ ?_
          · exact h0_
          · extract_lets -lift -merge -underBinder __src_2 s_3
            have h_s_3 : Keeps m r s_3 := by
              unfold s_3
              refine writeNext_keeps (sub_trans rfl hm) ?_
              · exact keeps_sup h0_ (sub_trans rfl hm)
            try clear_value s_3
            refine keeps_ite ?_ ?_
            · refine restartNext_keeps (sub_trans rfl hm) h_s_3
            · exact h_s_3

theorem domainOnComplete_keeps {m : Nat} {r : State} {p0} {p1} {p2 : State} (hm : 12868828 &&& m = 12868828) (h2_ : Keeps m r p2) : Keeps m r (@domainOnComplete p0 p1 p2) := by
  unfold domainOnComplete
  split
  · exact h2_
  · refine keeps_ite ?_ ?_
    · exact h2_
    · extract_lets -lift -merge -underBinder s_1 s_2
      have h_s_1 : Keeps m r s_1 := by
        unfold s_1
        refine State_modDie_keeps (sub_trans rfl hm) h2_
      try clear_value s_1
      have h_s_2 : Keeps m r s_2 := by
        unfold s_2
        refine State_wr_keeps (sub_trans rfl hm) h_s_1
      try clear_value s_2
      refine trySelect_keeps (sub_trans rfl hm) ?_
      · refine refreshLinks_keeps (sub_trans rfl hm) h_s_2

theorem domainSwitchRequest_keeps {m : Nat} {r : State} {p0} {p1} {p2} {p3 : State} (hm : 84 &&& m = 84) (h3_ : Keeps m r p3) : Keeps m r (@domainSwitchRequest p0 p1 p2 p3) := by
  unfold domainSwitchRequest
  refine keeps_ite ?_ ?_
  · refine State_answer_keeps (sub_trans rfl hm) h3_
  · refine keeps_ite ?_ ?_
    · refine State_answer_keeps (sub_trans rfl hm) h3_
    · refine keeps_ite ?_ ?_
      · refine State_answer_keeps (sub_trans rfl hm) h3_
      · refine State_answer_keeps (sub_trans rfl hm) ?_
        · refine requestDomains_keeps (sub_trans rfl hm) h3_

theorem hubReferenceFail_keeps {m : Nat} {r : State} {p0 : State} {p1} (hm : 352067548 &&& m = 352067548) (h0_ : Keeps m r p0) : Keeps m r (@hubReferenceFail p0 p1) := by
  unfold hubReferenceFail
  extract_lets -lift -merge -underBinder __src_1 s_2 s_3 s_4 __src_5 s_6
  have h_s_2 : Keeps m r s_2 := by
    unfold s_2
    exact keeps_sup h0_ (sub_trans rfl hm)
  try clear_value s_2
  have h_s_3 : Keeps m r s_3 := by
    unfold s_3
    refine keeps_foldl h_s_2 ?_
    · intro t_7 x_8 h_9
      refine State_modDie_keeps (sub_trans rfl hm) h_9
  try clear_value s_3
  have h_s_4 : Keeps m r s_4 := by
    unfold s_4
    refine nativeContain_keeps (sub_trans rfl hm) h_s_3
  try clear_value s_4
  have h_s_6 : Keeps m r s_6 := by
    unfold s_6
    refine keeps_ite ?_ ?_
    · exact keeps_itg h_s_4 (sub_trans rfl hm) rfl rfl
    · exact h_s_4
  try clear_value s_6
  refine keeps_foldl h_s_6 ?_
  · intro t_10 x_11 h_12
    refine keeps_ite ?_ ?_
    · refine resetDie_keeps (sub_trans rfl hm) h_12
    · exact h_12

theorem hubReferenceRecover_keeps {m : Nat} {r : State} {p0 : State} (hm : 64 &&& m = 64) (h0_ : Keeps m r p0) : Keeps m r (@hubReferenceRecover p0) := by
  unfold hubReferenceRecover
  refine keeps_ite ?_ ?_
  · exact h0_
  · extract_lets -lift -merge -underBinder __src_1 s_2
    have h_s_2 : Keeps m r s_2 := by
      unfold s_2
      exact keeps_sup h0_ (sub_trans rfl hm)
    try clear_value s_2
    refine keeps_foldl h_s_2 ?_
    · intro t_3 x_4 h_5
      refine State_modDie_keeps (sub_trans rfl hm) h_5

theorem hubRelease_keeps {m : Nat} {r : State} {p0} {p1} {p2 : State} (hm : 1051476 &&& m = 1051476) (h2_ : Keeps m r p2) : Keeps m r (@hubRelease p0 p1 p2) := by
  unfold hubRelease
  refine keeps_ite ?_ ?_
  · refine State_answer_keeps (sub_trans rfl hm) h2_
  · refine keeps_ite ?_ ?_
    · refine State_answer_keeps (sub_trans rfl hm) h2_
    · refine keeps_ite ?_ ?_
      · refine State_answer_keeps (sub_trans rfl hm) h2_
      · refine keeps_ite ?_ ?_
        · refine State_answer_keeps (sub_trans rfl hm) h2_
        · refine State_answer_keeps (sub_trans rfl hm) ?_
          · refine releaseDie_keeps (sub_trans rfl hm) h2_

theorem hubResetSingle_keeps {m : Nat} {r : State} {p0} {p1} {p2 : State} (hm : 352083932 &&& m = 352083932) (h2_ : Keeps m r p2) : Keeps m r (@hubResetSingle p0 p1 p2) := by
  unfold hubResetSingle
  refine keeps_ite ?_ ?_
  · refine State_answer_keeps (sub_trans rfl hm) h2_
  · refine keeps_ite ?_ ?_
    · refine State_answer_keeps (sub_trans rfl hm) h2_
    · refine keeps_ite ?_ ?_
      · refine State_answer_keeps (sub_trans rfl hm) h2_
      · refine State_answer_keeps (sub_trans rfl hm) ?_
        · refine afterSingleReset_keeps (sub_trans rfl hm) ?_
          · refine resetDie_keeps (sub_trans rfl hm) h2_

theorem kilnTripEvent_keeps {m : Nat} {r : State} {p0} {p1} {p2 : State} (hm : 352116700 &&& m = 352116700) (h2_ : Keeps m r p2) : Keeps m r (@kilnTripEvent p0 p1 p2) := by
  unfold kilnTripEvent
  refine dieLost_keeps (sub_trans rfl hm) h2_ ?_
  · refine kilnTrip_keeps (sub_trans rfl hm) h2_

theorem noteReferences_keeps {m : Nat} {r : State} {p0 : State} {p1} (hm : 64 &&& m = 64) (h0_ : Keeps m r p0) : Keeps m r (@noteReferences p0 p1) := by
  unfold noteReferences
  extract_lets -lift -merge -underBinder out_1 t_2 hubBad_3 __src_4
  try clear_value out_1
  try clear_value t_2
  try clear_value hubBad_3
  exact keeps_sup h0_ (sub_trans rfl hm)

theorem railFaultEvent_keeps {m : Nat} {r : State} {p0} {p1 : State} (hm : 352092124 &&& m = 352092124) (h1_ : Keeps m r p1) : Keeps m r (@railFaultEvent p0 p1) := by
  unfold railFaultEvent
  refine dieLost_keeps (sub_trans rfl hm) h1_ ?_
  · refine railFault_keeps (sub_trans rfl hm) h1_

theorem railPgEvent_keeps {m : Nat} {r : State} {p0} {p1} {p2 : State} (hm : 352092124 &&& m = 352092124) (h2_ : Keeps m r p2) : Keeps m r (@railPgEvent p0 p1 p2) := by
  unfold railPgEvent
  refine dieLost_keeps (sub_trans rfl hm) h2_ ?_
  · refine railPgChange_keeps (sub_trans rfl hm) h2_

theorem referenceCheck_keeps {m : Nat} {r : State} {p0} {p1 : State} (hm : 352067548 &&& m = 352067548) (h1_ : Keeps m r p1) : Keeps m r (@referenceCheck p0 p1) := by
  unfold referenceCheck
  extract_lets -lift -merge -underBinder s_1 failed_2 s_3
  try clear_value failed_2
  have h_s_1 : Keeps m r s_1 := by
    unfold s_1
    refine noteReferences_keeps (sub_trans rfl hm) h1_
  try clear_value s_1
  have h_s_3 : Keeps m r s_3 := by
    unfold s_3
    refine keeps_ite ?_ ?_
    · refine crystalFail_keeps (sub_trans rfl hm) h_s_1
    · exact h_s_1
  try clear_value s_3
  refine keeps_foldl h_s_3 ?_
  · intro t_4 x_5 h_6
    refine keeps_ite ?_ ?_
    · refine hubReferenceFail_keeps (sub_trans rfl hm) h_6
    · exact h_6

theorem standbyFall_keeps {m : Nat} {r : State} {p0 : State} (hm : 1342177260 &&& m = 1342177260) (h0_ : Keeps m r p0) : Keeps m r (@standbyFall p0) := by
  unfold standbyFall
  extract_lets -lift -merge -underBinder f_1 __src_2
  have h_f_1 : Keeps m r f_1 := by
    unfold f_1
    refine deviceReset_keeps (sub_trans rfl hm) h0_
  try clear_value f_1
  exact keeps_sup h_f_1 (sub_trans rfl hm)

theorem standbyRise_keeps {m : Nat} {r : State} {p0 : State} (hm : 64 &&& m = 64) (h0_ : Keeps m r p0) : Keeps m r (@standbyRise p0) := by
  unfold standbyRise
  refine keeps_ite ?_ ?_
  · exact h0_
  · exact keeps_sup h0_ (sub_trans rfl hm)

theorem wardenPowerOnReset_keeps {m : Nat} {r : State} {p0 : State} (hm : 1342177260 &&& m = 1342177260) (h0_ : Keeps m r p0) : Keeps m r (@wardenPowerOnReset p0) := by
  unfold wardenPowerOnReset
  refine keeps_ite ?_ ?_
  · exact h0_
  · refine deviceReset_keeps (sub_trans rfl hm) h0_

theorem wardenRstN_keeps {m : Nat} {r : State} {p0 : State} (hm : 1342177260 &&& m = 1342177260) (h0_ : Keeps m r p0) : Keeps m r (@wardenRstN p0) := by
  unfold wardenRstN
  refine keeps_ite ?_ ?_
  · refine deviceReset_keeps (sub_trans rfl hm) h0_
  · exact h0_

end Sys2Proof.Laws
end

