-- ==== Sys2Proof/Laws/Keeps8.lean ====
section
/-! SUPPORT. What the operations of RegFile, Startup, Recorder, Protocol keep (the relation `Keeps`): of each, that it passes on the relation of the
state it is given, where the parts it writes are among those named. -/
namespace Sys2Proof.Laws
open Sys2Proof.Machine

/-! ## RegFile -/

theorem loadReg_keeps {m : Nat} {r : State} {p0 : State} {p1} {p2} (hm : 4 &&& m = 4) (h0_ : Keeps m r p0) : Keeps m r (@loadReg p0 p1 p2) := by
  unfold loadReg
  refine keeps_foldl h0_ ?_
  · intro t_1 x_2 h_3
    refine keeps_ite ?_ ?_
    · refine State_wr_keeps (sub_trans rfl hm) h_3
    · exact h_3

theorem applyLoads_keeps {m : Nat} {r : State} {p0 : State} {p1} {p2} (hm : 4 &&& m = 4) (h0_ : Keeps m r p0) : Keeps m r (@applyLoads p0 p1 p2) := by
  unfold applyLoads
  refine keeps_foldl h0_ ?_
  · intro t_1 x_2 h_3
    refine keeps_ite ?_ ?_
    · split
      · refine loadReg_keeps (sub_trans rfl hm) h_3
      · refine loadReg_keeps (sub_trans rfl hm) h_3
    · exact h_3

/-! ## Startup -/

theorem settingsVersion_keeps {m : Nat} {r : State} {p0 : State} {p1} {p2} (hm : 276824068 &&& m = 276824068) (h0_ : Keeps m r p0) : Keeps m r (@settingsVersion p0 p1 p2) := by
  unfold settingsVersion
  extract_lets -lift -merge -underBinder s_1 __src_2 old_3 next_4 __src_5 s_6
  try clear_value old_3
  try clear_value next_4
  have h_s_1 : Keeps m r s_1 := by
    unfold s_1
    refine State_wr_keeps (sub_trans rfl hm) ?_
    · refine State_wr_keeps (sub_trans rfl hm) h0_
  try clear_value s_1
  have h_s_6 : Keeps m r s_6 := by
    unfold s_6
    exact keeps_flash h_s_1 (sub_trans rfl hm)
  try clear_value s_6
  refine keeps_ite ?_ ?_
  · exact h_s_1
  · refine keeps_ite ?_ ?_
    · exact keeps_flash h_s_1 (sub_trans rfl hm)
    · refine State_event_keeps (sub_trans rfl hm) h_s_6

theorem showFeatures_keeps {m : Nat} {r : State} {p0 : State} (hm : 4 &&& m = 4) (h0_ : Keeps m r p0) : Keeps m r (@showFeatures p0) := by
  unfold showFeatures
  extract_lets -lift -merge -underBinder f_1
  try clear_value f_1
  refine keeps_foldl h0_ ?_
  · intro t_2 x_3 h_4
    extract_lets -lift -merge -underBinder w_5
    try clear_value w_5
    refine State_wr_keeps (sub_trans rfl hm) ?_
    · refine State_wr_keeps (sub_trans rfl hm) h_4

theorem showConfig_keeps {m : Nat} {r : State} {p0 : State} (hm : 4 &&& m = 4) (h0_ : Keeps m r p0) : Keeps m r (@showConfig p0) := by
  unfold showConfig
  extract_lets -lift -merge -underBinder i_1 s_2 s_3 s_4
  try clear_value i_1
  have h_s_2 : Keeps m r s_2 := by
    unfold s_2
    refine State_wr_keeps (sub_trans rfl hm) ?_
    · refine State_wr_keeps (sub_trans rfl hm) ?_
      · refine State_wr_keeps (sub_trans rfl hm) h0_
  try clear_value s_2
  have h_s_3 : Keeps m r s_3 := by
    unfold s_3
    refine State_wr_keeps (sub_trans rfl hm) ?_
    · refine State_wr_keeps (sub_trans rfl hm) ?_
      · refine State_wr_keeps (sub_trans rfl hm) h_s_2
  try clear_value s_3
  have h_s_4 : Keeps m r s_4 := by
    unfold s_4
    refine State_wr_keeps (sub_trans rfl hm) ?_
    · refine State_wr_keeps (sub_trans rfl hm) ?_
      · refine State_wr_keeps (sub_trans rfl hm) h_s_3
  try clear_value s_4
  refine keeps_foldl h_s_4 ?_
  · intro t_5 x_6 h_7
    refine State_wr_keeps (sub_trans rfl hm) h_7

theorem settleRates_keeps {m : Nat} {r : State} {p0 : State} (hm : 4194304 &&& m = 4194304) (h0_ : Keeps m r p0) : Keeps m r (@settleRates p0) := by
  unfold settleRates
  exact keeps_mgt h0_ (sub_trans rfl hm)

theorem applyStore_keeps {m : Nat} {r : State} {p0 : State} (hm : 8388612 &&& m = 8388612) (h0_ : Keeps m r p0) : Keeps m r (@applyStore p0) := by
  unfold applyStore
  extract_lets -lift -merge -underBinder k_1 s_2 s_3 s_4 s_5 s_6
  try clear_value k_1
  have h_s_2 : Keeps m r s_2 := by
    unfold s_2
    refine State_wr_keeps (sub_trans rfl hm) h0_
  try clear_value s_2
  have h_s_3 : Keeps m r s_3 := by
    unfold s_3
    split
    · refine State_wr_keeps (sub_trans rfl hm) h_s_2
    · refine keeps_ite ?_ ?_
      · refine State_wr_keeps (sub_trans rfl hm) h_s_2
      · exact h_s_2
  try clear_value s_3
  have h_s_4 : Keeps m r s_4 := by
    unfold s_4
    refine keeps_ite ?_ ?_
    · exact h_s_3
    · refine State_wr_keeps (sub_trans rfl hm) h_s_3
  try clear_value s_4
  have h_s_5 : Keeps m r s_5 := by
    unfold s_5
    refine keeps_ite ?_ ?_
    · exact h_s_4
    · refine State_wr_keeps (sub_trans rfl hm) h_s_4
  try clear_value s_5
  have h_s_6 : Keeps m r s_6 := by
    unfold s_6
    split
    · refine State_wr_keeps (sub_trans rfl hm) ?_
      · refine State_wr_keeps (sub_trans rfl hm) ?_
        · refine State_wr_keeps (sub_trans rfl hm) h_s_5
    · exact h_s_5
  try clear_value s_6
  refine refreshPin_keeps (sub_trans rfl hm) ?_
  · refine refreshCaps_keeps (sub_trans rfl hm) h_s_6

theorem applyConfig_keeps {m : Nat} {r : State} {p0 : State} {p1} (hm : 314597380 &&& m = 314597380) (h0_ : Keeps m r p0) : Keeps m r (@applyConfig p0 p1) := by
  unfold applyConfig
  extract_lets -lift -merge -underBinder s_1 s_2 s_3 s_4 s_5 s_6 s_7 __src_8 __src_9 __src_10 s_11
  have h_s_1 : Keeps m r s_1 := by
    unfold s_1
    refine showConfig_keeps (sub_trans rfl hm) ?_
    · refine settleRates_keeps (sub_trans rfl hm) ?_
      · exact keeps_img h0_ (sub_trans rfl hm)
  try clear_value s_1
  have h_s_2 : Keeps m r s_2 := by
    unfold s_2
    refine applyLoads_keeps (sub_trans rfl hm) h_s_1
  try clear_value s_2
  have h_s_3 : Keeps m r s_3 := by
    unfold s_3
    refine State_wr_keeps (sub_trans rfl hm) h_s_2
  try clear_value s_3
  have h_s_4 : Keeps m r s_4 := by
    unfold s_4
    refine applyStore_keeps (sub_trans rfl hm) h_s_3
  try clear_value s_4
  have h_s_5 : Keeps m r s_5 := by
    unfold s_5
    refine State_wr_keeps (sub_trans rfl hm) h_s_4
  try clear_value s_5
  have h_s_6 : Keeps m r s_6 := by
    unfold s_6
    refine showFeatures_keeps (sub_trans rfl hm) h_s_5
  try clear_value s_6
  have h_s_7 : Keeps m r s_7 := by
    unfold s_7
    refine State_wr_keeps (sub_trans rfl hm) h_s_6
  try clear_value s_7
  have h_s_11 : Keeps m r s_11 := by
    unfold s_11
    exact keeps_mk (b := 268460032) h_s_7 (sub_trans rfl hm) (by intro p hp; cases p <;> first | rfl | cases hp) rfl rfl rfl rfl rfl rfl rfl
  try clear_value s_11
  refine milestone_keeps (sub_trans rfl hm) ?_
  · refine State_wr_keeps (sub_trans rfl hm) h_s_11

theorem configError_keeps {m : Nat} {r : State} {p0 : State} {p1} {p2} {p3} (hm : 12845076 &&& m = 12845076) (h0_ : Keeps m r p0) : Keeps m r (@configError p0 p1 p2 p3) := by
  unfold configError
  extract_lets -lift -merge -underBinder s_1
  have h_s_1 : Keeps m r s_1 := by
    unfold s_1
    refine keeps_ite ?_ ?_
    · exact h0_
    · refine State_wr_keeps (sub_trans rfl hm) ?_
      · refine State_wr_keeps (sub_trans rfl hm) ?_
        · refine State_wr_keeps (sub_trans rfl hm) ?_
          · refine State_wr_keeps (sub_trans rfl hm) h0_
  try clear_value s_1
  refine State_err_keeps (sub_trans rfl hm) h_s_1

theorem enterAwaiting_keeps {m : Nat} {r : State} {p0 : State} (hm : 1048580 &&& m = 1048580) (h0_ : Keeps m r p0) : Keeps m r (@enterAwaiting p0) := by
  unfold enterAwaiting
  extract_lets -lift -merge -underBinder s_1 s_2
  have h_s_1 : Keeps m r s_1 := by
    unfold s_1
    refine State_wr_keeps (sub_trans rfl hm) h0_
  try clear_value s_1
  have h_s_2 : Keeps m r s_2 := by
    unfold s_2
    refine State_wr_keeps (sub_trans rfl hm) ?_
    · refine State_wr_keeps (sub_trans rfl hm) h_s_1
  try clear_value s_2
  refine keeps_foldl h_s_2 ?_
  · intro t_3 x_4 h_5
    refine keeps_ite ?_ ?_
    · exact h_5
    · extract_lets -lift -merge -underBinder s_6
      have h_s_6 : Keeps m r s_6 := by
        unfold s_6
        refine State_wr_keeps (sub_trans rfl hm) h_5
      try clear_value s_6
      refine State_modProc_keeps (sub_trans rfl hm) ?_
      · refine State_wr_keeps (sub_trans rfl hm) h_s_6

theorem configReject_keeps {m : Nat} {r : State} {p0 : State} {p1} {p2} {p3} (hm : 383532060 &&& m = 383532060) (h0_ : Keeps m r p0) : Keeps m r (@configReject p0 p1 p2 p3) := by
  unfold configReject
  extract_lets -lift -merge -underBinder s_1 s_2 __src_3
  have h_s_1 : Keeps m r s_1 := by
    unfold s_1
    refine configError_keeps (sub_trans rfl hm) ?_
    · refine State_wr_keeps (sub_trans rfl hm) h0_
  try clear_value s_1
  have h_s_2 : Keeps m r s_2 := by
    unfold s_2
    refine keeps_ite ?_ ?_
    · refine assertPerst_keeps (sub_trans rfl hm) ?_
      · exact keeps_img h_s_1 (sub_trans rfl hm)
    · exact h_s_1
  try clear_value s_2
  refine enterAwaiting_keeps (sub_trans rfl hm) ?_
  · exact keeps_seq h_s_2 (sub_trans rfl hm)

theorem orderCastOn_keeps {m : Nat} {r : State} {p0 : State} (hm : 368852956 &&& m = 368852956) (h0_ : Keeps m r p0) : Keeps m r (@orderCastOn p0) := by
  unfold orderCastOn
  split
  · refine adoptTable_keeps (sub_trans rfl hm) ?_
    · exact keeps_cfg h0_ (sub_trans rfl hm)
  · refine keeps_ite ?_ ?_
    · refine orderTrayOn_keeps (sub_trans rfl hm) h0_
    · exact h0_

theorem configValidate_keeps {m : Nat} {r : State} {p0} {p1 : State} (hm : 536641500 &&& m = 536641500) (h1_ : Keeps m r p1) : Keeps m r (@configValidate p0 p1) := by
  unfold configValidate
  refine keeps_ite ?_ ?_
  · exact h1_
  · split
    · refine configReject_keeps (sub_trans rfl hm) ?_
      · refine verifyFailed_keeps (sub_trans rfl hm) h1_
    · split
      · refine configReject_keeps (sub_trans rfl hm) ?_
        · refine setRegion_keeps (sub_trans rfl hm) h1_
      · extract_lets -lift -merge -underBinder s_1
        have h_s_1 : Keeps m r s_1 := by
          unfold s_1
          refine startSvn_keeps (sub_trans rfl hm) ?_
          · refine measure_keeps (sub_trans rfl hm) ?_
            · refine verifiedImage_keeps (sub_trans rfl hm) h1_
        try clear_value s_1
        refine orderCastOn_keeps (sub_trans rfl hm) ?_
        · refine applyConfig_keeps (sub_trans rfl hm) h_s_1

theorem showGuard_keeps {m : Nat} {r : State} {p0 : State} {p1} {p2} (hm : 4 &&& m = 4) (h0_ : Keeps m r p0) : Keeps m r (@showGuard p0 p1 p2) := by
  unfold showGuard
  split
  · extract_lets -lift -merge -underBinder s_1 s_2 s_3 s_4
    have h_s_1 : Keeps m r s_1 := by
      unfold s_1
      refine State_wr_keeps (sub_trans rfl hm) ?_
      · refine State_wr_keeps (sub_trans rfl hm) h0_
    try clear_value s_1
    have h_s_2 : Keeps m r s_2 := by
      unfold s_2
      refine State_wr_keeps (sub_trans rfl hm) h_s_1
    try clear_value s_2
    have h_s_3 : Keeps m r s_3 := by
      unfold s_3
      refine State_wr_keeps (sub_trans rfl hm) ?_
      · refine State_wr_keeps (sub_trans rfl hm) ?_
        · refine State_wr_keeps (sub_trans rfl hm) h_s_2
    try clear_value s_3
    have h_s_4 : Keeps m r s_4 := by
      unfold s_4
      refine State_wr_keeps (sub_trans rfl hm) h_s_3
    try clear_value s_4
    refine State_wr_keeps (sub_trans rfl hm) ?_
    · refine State_wr_keeps (sub_trans rfl hm) h_s_4

theorem showSections_keeps {m : Nat} {r : State} {p0 : State} {p1} (hm : 4 &&& m = 4) (h0_ : Keeps m r p0) : Keeps m r (@showSections p0 p1) := by
  unfold showSections
  extract_lets -lift -merge -underBinder i_1 t_2 s_3 s_4 s_5 s_6 s_7 s_8 s_9 s_10
  try clear_value i_1
  try clear_value t_2
  have h_s_3 : Keeps m r s_3 := by
    unfold s_3
    refine State_wr_keeps (sub_trans rfl hm) ?_
    · refine State_wr_keeps (sub_trans rfl hm) h0_
  try clear_value s_3
  have h_s_4 : Keeps m r s_4 := by
    unfold s_4
    refine State_wr_keeps (sub_trans rfl hm) ?_
    · refine State_wr_keeps (sub_trans rfl hm) h_s_3
  try clear_value s_4
  have h_s_5 : Keeps m r s_5 := by
    unfold s_5
    refine State_wr_keeps (sub_trans rfl hm) h_s_4
  try clear_value s_5
  have h_s_6 : Keeps m r s_6 := by
    unfold s_6
    refine keeps_foldl h_s_5 ?_
    · intro t_11 x_12 h_13
      refine showGuard_keeps (sub_trans rfl hm) h_13
  try clear_value s_6
  have h_s_7 : Keeps m r s_7 := by
    unfold s_7
    refine keeps_foldl h_s_6 ?_
    · intro t_14 x_15 h_16
      refine State_wr_keeps (sub_trans rfl hm) ?_
      · refine State_wr_keeps (sub_trans rfl hm) h_16
  try clear_value s_7
  have h_s_8 : Keeps m r s_8 := by
    unfold s_8
    refine keeps_foldl h_s_7 ?_
    · intro t_17 x_18 h_19
      refine State_wr_keeps (sub_trans rfl hm) h_19
  try clear_value s_8
  have h_s_9 : Keeps m r s_9 := by
    unfold s_9
    refine State_wr_keeps (sub_trans rfl hm) ?_
    · refine State_wr_keeps (sub_trans rfl hm) h_s_8
  try clear_value s_9
  have h_s_10 : Keeps m r s_10 := by
    unfold s_10
    refine State_wr_keeps (sub_trans rfl hm) ?_
    · refine State_wr_keeps (sub_trans rfl hm) ?_
      · refine State_wr_keeps (sub_trans rfl hm) h_s_9
  try clear_value s_10
  refine keeps_foldl h_s_10 ?_
  · intro t_20 x_21 h_22
    refine State_wr_keeps (sub_trans rfl hm) h_22

theorem shareSettings_keeps {m : Nat} {r : State} {p0 : State} {p1} (hm : 4 &&& m = 4) (h0_ : Keeps m r p0) : Keeps m r (@shareSettings p0 p1) := by
  unfold shareSettings
  extract_lets -lift -merge -underBinder s_1
  have h_s_1 : Keeps m r s_1 := by
    unfold s_1
    refine State_wr_keeps (sub_trans rfl hm) h0_
  try clear_value s_1
  refine State_wr_keeps (sub_trans rfl hm) ?_
  · refine State_wr_keeps (sub_trans rfl hm) h_s_1

theorem loadSections_keeps {m : Nat} {r : State} {p0 : State} {p1} (hm : 29629660 &&& m = 29629660) (h0_ : Keeps m r p0) : Keeps m r (@loadSections p0 p1) := by
  unfold loadSections
  extract_lets -lift -merge -underBinder i_1 other_2 m_3 __src_4 __src_5 s_6 __src_7 __src_8 __src_9 s_10 s_11 __src_12 __src_13 s_14 s_15
  try clear_value i_1
  try clear_value other_2
  try clear_value m_3
  have h_s_6 : Keeps m r s_6 := by
    unfold s_6
    refine keeps_ite ?_ ?_
    · exact h0_
    · refine keeps_ite ?_ ?_
      · exact keeps_pat h0_ (sub_trans rfl hm)
      · exact keeps_pat h0_ (sub_trans rfl hm)
  try clear_value s_6
  have h_s_10 : Keeps m r s_10 := by
    unfold s_10
    exact keeps_mk (b := 16780288) h_s_6 (sub_trans rfl hm) (by intro p hp; cases p <;> first | rfl | cases hp) rfl rfl rfl rfl rfl rfl rfl
  try clear_value s_10
  have h_s_11 : Keeps m r s_11 := by
    unfold s_11
    refine applyLoads_keeps (sub_trans rfl hm) ?_
    · refine showSections_keeps (sub_trans rfl hm) h_s_10
  try clear_value s_11
  have h_s_14 : Keeps m r s_14 := by
    unfold s_14
    refine keeps_ite ?_ ?_
    · exact h_s_11
    · exact keeps_mk (b := 1152) h_s_11 (sub_trans rfl hm) (by intro p hp; cases p <;> first | rfl | cases hp) rfl rfl rfl rfl rfl rfl rfl
  try clear_value s_14
  have h_s_15 : Keeps m r s_15 := by
    unfold s_15
    refine State_modDie_keeps (sub_trans rfl hm) h_s_14
  try clear_value s_15
  refine refreshLinks_keeps (sub_trans rfl hm) ?_
  · refine keeps_ite ?_ ?_
    · refine shareSettings_keeps (sub_trans rfl hm) h_s_15
    · exact h_s_15

theorem hubSectionsLoad_keeps {m : Nat} {r : State} {p0} {p1} {p2} {p3 : State} (hm : 368844764 &&& m = 368844764) (h3_ : Keeps m r p3) : Keeps m r (@hubSectionsLoad p0 p1 p2 p3) := by
  unfold hubSectionsLoad
  refine keeps_ite ?_ ?_
  · exact h3_
  · refine keeps_ite ?_ ?_
    · refine loadSections_keeps (sub_trans rfl hm) h3_
    · extract_lets -lift -merge -underBinder s_1
      have h_s_1 : Keeps m r s_1 := by
        unfold s_1
        refine configError_keeps (sub_trans rfl hm) h3_
      try clear_value s_1
      refine holdDie_keeps (sub_trans rfl hm) h_s_1

theorem loadTrace_keeps {m : Nat} {r : State} {p0 : State} {p1} {p2} (hm : 4 &&& m = 4) (h0_ : Keeps m r p0) : Keeps m r (@loadTrace p0 p1 p2) := by
  unfold loadTrace
  refine keeps_foldl h0_ ?_
  · intro t_1 x_2 h_3
    refine State_wr_keeps (sub_trans rfl hm) ?_
    · refine State_wr_keeps (sub_trans rfl hm) h_3

theorem startProc_keeps {m : Nat} {r : State} {p0 : State} {p1} (hm : 1048580 &&& m = 1048580) (h0_ : Keeps m r p0) : Keeps m r (@startProc p0 p1) := by
  unfold startProc
  refine keeps_ite ?_ ?_
  · exact h0_
  · refine State_modProc_keeps (sub_trans rfl hm) ?_
    · refine State_wr_keeps (sub_trans rfl hm) h0_

theorem loaderVerify_keeps {m : Nat} {r : State} {p0} {p1 : State} (hm : 470810692 &&& m = 470810692) (h1_ : Keeps m r p1) : Keeps m r (@loaderVerify p0 p1) := by
  unfold loaderVerify
  refine keeps_ite ?_ ?_
  · exact h1_
  · refine keeps_ite ?_ ?_
    · exact keeps_sup h1_ (sub_trans rfl hm)
    · extract_lets -lift -merge -underBinder __src_1 s_2 s_3
      have h_s_2 : Keeps m r s_2 := by
        unfold s_2
        exact keeps_sup h1_ (sub_trans rfl hm)
      try clear_value s_2
      have h_s_3 : Keeps m r s_3 := by
        unfold s_3
        refine measure_keeps (sub_trans rfl hm) ?_
        · refine measure_keeps (sub_trans rfl hm) ?_
          · refine verifiedImage_keeps (sub_trans rfl hm) h_s_2
      try clear_value s_3
      refine startSvn_keeps (sub_trans rfl hm) ?_
      · refine startProc_keeps (sub_trans rfl hm) ?_
        · refine State_wr_keeps (sub_trans rfl hm) h_s_3

theorem preloadRecord_keeps {m : Nat} {r : State} {p0 : State} {p1} {p2} (hm : 2048 &&& m = 2048) (h0_ : Keeps m r p0) : Keeps m r (@preloadRecord p0 p1 p2) := by
  unfold preloadRecord
  refine keeps_foldl h0_ ?_
  · intro t_1 x_2 h_3
    extract_lets -lift -merge -underBinder off_4 __src_5
    try clear_value off_4
    refine keeps_ite ?_ ?_
    · exact keeps_pool (b := 2048) h_3 (sub_trans rfl hm) (by intro p hp; cases p <;> first | rfl | cases hp) (fun hw => wf_write _ _ _ hw) rfl rfl rfl rfl rfl
    · exact h_3

theorem memoryTrained_keeps {m : Nat} {r : State} {p0} {p1 : State} (hm : 29646036 &&& m = 29646036) (h1_ : Keeps m r p1) : Keeps m r (@memoryTrained p0 p1) := by
  unfold memoryTrained
  extract_lets -lift -merge -underBinder x_1 s_2 __src_3 s_4 done_5
  try clear_value x_1
  try clear_value done_5
  have h_s_2 : Keeps m r s_2 := by
    unfold s_2
    refine State_modDie_keeps (sub_trans rfl hm) h1_
  try clear_value s_2
  have h_s_4 : Keeps m r s_4 := by
    unfold s_4
    refine keeps_ite ?_ ?_
    · exact h_s_2
    · refine keeps_foldl ?_ ?_
      · exact keeps_cfg h_s_2 (sub_trans rfl hm)
      · intro t_6 x_7 h_8
        refine preloadRecord_keeps (sub_trans rfl hm) h_8
  try clear_value s_4
  refine keeps_ite ?_ ?_
  · exact h1_
  · refine trySelect_keeps (sub_trans rfl hm) ?_
    · refine keeps_ite ?_ ?_
      · refine lookTrained_keeps (sub_trans rfl hm) ?_
        · refine milestone_keeps (sub_trans rfl hm) h_s_4
      · exact h_s_4

theorem returnedErasure_keeps {m : Nat} {r : State} {p0 : State} (hm : 813694980 &&& m = 813694980) (h0_ : Keeps m r p0) : Keeps m r (@returnedErasure p0) := by
  unfold returnedErasure
  split
  · extract_lets -lift -merge -underBinder __src_1 __src_2 o_3 fresh_4 keep_5 __src_6 s_7 s_8
    try clear_value fresh_4
    try clear_value keep_5
    have h_s_7 : Keeps m r s_7 := by
      unfold s_7
      refine keeps_otp (b := 805306368) h0_ (sub_trans rfl hm) (by intro p hp; cases p <;> first | rfl | cases hp) ?_ rfl rfl rfl rfl rfl
      simp only [o_3]
      split
      · exact ⟨bitsIn_refl _, bitsIn_or _ _, bitsIn_refl _, fun _ => bitsIn_refl _, fun _ => Nat.le_refl _⟩
      · exact ⟨bitsIn_refl _, bitsIn_refl _, bitsIn_or _ _, fun _ => bitsIn_refl _, fun _ => Nat.le_refl _⟩
    try clear_value s_7
    have h_s_8 : Keeps m r s_8 := by
      unfold s_8
      refine State_wr_keeps (sub_trans rfl hm) ?_
      · refine State_wr_keeps (sub_trans rfl hm) h_s_7
    try clear_value s_8
    refine State_event_keeps (sub_trans rfl hm) h_s_8
  · exact h0_

theorem startWarden_keeps {m : Nat} {r : State} {p0 : State} {p1} (hm : 479199236 &&& m = 479199236) (h0_ : Keeps m r p0) : Keeps m r (@startWarden p0 p1) := by
  unfold startWarden
  extract_lets -lift -merge -underBinder s_1 s_2 s_3 __src_4 s_5 s_6 s_7
  have h_s_1 : Keeps m r s_1 := by
    unfold s_1
    refine measure_keeps (sub_trans rfl hm) ?_
    · refine measure_keeps (sub_trans rfl hm) ?_
      · refine verifiedImage_keeps (sub_trans rfl hm) ?_
        · refine verifiedImage_keeps (sub_trans rfl hm) h0_
  try clear_value s_1
  have h_s_2 : Keeps m r s_2 := by
    unfold s_2
    refine settingsVersion_keeps (sub_trans rfl hm) h_s_1
  try clear_value s_2
  have h_s_3 : Keeps m r s_3 := by
    unfold s_3
    refine keeps_foldl h_s_2 ?_
    · intro t_8 x_9 h_10
      refine measure_keeps (sub_trans rfl hm) h_10
  try clear_value s_3
  have h_s_5 : Keeps m r s_5 := by
    unfold s_5
    refine loadTrace_keeps (sub_trans rfl hm) ?_
    · exact keeps_upd h_s_3 (sub_trans rfl hm)
  try clear_value s_5
  have h_s_6 : Keeps m r s_6 := by
    unfold s_6
    refine State_wr_keeps (sub_trans rfl hm) h_s_5
  try clear_value s_6
  have h_s_7 : Keeps m r s_7 := by
    unfold s_7
    refine startProc_keeps (sub_trans rfl hm) ?_
    · refine startProc_keeps (sub_trans rfl hm) ?_
      · refine startProc_keeps (sub_trans rfl hm) h_s_6
  try clear_value s_7
  refine milestone_keeps (sub_trans rfl hm) ?_
  · refine startSvn_keeps (sub_trans rfl hm) ?_
    · refine startSvn_keeps (sub_trans rfl hm) h_s_7

theorem teststoreVerify_keeps {m : Nat} {r : State} {p0} {p1} {p2} {p3} {p4 : State} (hm : 1556873236 &&& m = 1556873236) (h4_ : Keeps m r p4) : Keeps m r (@teststoreVerify p0 p1 p2 p3 p4) := by
  unfold teststoreVerify
  refine keeps_ite ?_ ?_
  · exact h4_
  · extract_lets -lift -merge -underBinder __src_1 s_2 v_3
    try clear_value v_3
    have h_s_2 : Keeps m r s_2 := by
      unfold s_2
      exact keeps_pin h4_ (sub_trans rfl hm)
    try clear_value s_2
    split
    · extract_lets -lift -merge -underBinder __src_4 __src_5
      have h___src_4 : Keeps m r __src_4 := by
        unfold __src_4
        refine verifyFailed_keeps (sub_trans rfl hm) h_s_2
      try clear_value __src_4
      exact keeps_sdc h___src_4 (sub_trans rfl hm)
    · extract_lets -lift -merge -underBinder s_6 __src_7
      have h_s_6 : Keeps m r s_6 := by
        unfold s_6
        refine startSvn_keeps (sub_trans rfl hm) ?_
        · refine measure_keeps (sub_trans rfl hm) ?_
          · refine verifiedImage_keeps (sub_trans rfl hm) h_s_2
      try clear_value s_6
      exact keeps_sdc h_s_6 (sub_trans rfl hm)

theorem wardenVerify_keeps {m : Nat} {r : State} {p0} {p1 : State} (hm : 1020526612 &&& m = 1020526612) (h1_ : Keeps m r p1) : Keeps m r (@wardenVerify p0 p1) := by
  unfold wardenVerify
  refine keeps_ite ?_ ?_
  · exact h1_
  · extract_lets -lift -merge -underBinder s_1
    have h_s_1 : Keeps m r s_1 := by
      unfold s_1
      refine returnedErasure_keeps (sub_trans rfl hm) h1_
    try clear_value s_1
    split
    · refine enterAwaiting_keeps (sub_trans rfl hm) ?_
      · refine verifyFailed_keeps (sub_trans rfl hm) h_s_1
    · split
      · refine enterAwaiting_keeps (sub_trans rfl hm) ?_
        · refine verifyFailed_keeps (sub_trans rfl hm) h_s_1
      · refine startWarden_keeps (sub_trans rfl hm) h_s_1

/-! ## Recorder -/

theorem notePosition_keeps {m : Nat} {r : State} {p0 : State} {p1} {p2} (hm : 8388608 &&& m = 8388608) (h0_ : Keeps m r p0) : Keeps m r (@notePosition p0 p1 p2) := by
  unfold notePosition
  refine keeps_ite ?_ ?_
  · exact h0_
  · exact keeps_queue (b := 8388608) h0_ (sub_trans rfl hm) (by intro p hp; cases p <;> first | rfl | cases hp) (fun hq => by simpa only [List.length_map] using hq) rfl rfl rfl rfl rfl

theorem openBlock_keeps {m : Nat} {r : State} {p0 : State} {p1} (hm : 276824068 &&& m = 276824068) (h0_ : Keeps m r p0) : Keeps m r (@openBlock p0 p1) := by
  unfold openBlock
  extract_lets -lift -merge -underBinder __src_1 __src_2 s_3 s_4
  have h_s_3 : Keeps m r s_3 := by
    unfold s_3
    exact keeps_mk (b := 276824064) h0_ (sub_trans rfl hm) (by intro p hp; cases p <;> first | rfl | cases hp) rfl rfl rfl rfl rfl rfl rfl
  try clear_value s_3
  have h_s_4 : Keeps m r s_4 := by
    unfold s_4
    refine State_wr_keeps (sub_trans rfl hm) h_s_3
  try clear_value s_4
  refine startErase_keeps (sub_trans rfl hm) h_s_4

theorem startErase_eq (s : State) (q : Nat) : startErase s q =
    if eraseWithheld s q = true then
      ({ s with rcd := { s.rcd with erasing := none, heldErase := some q } } : State).wr R.REC_STATUS.withheld 1
    else if 256 ≤ blocksAhead ({ s with rcd := { s.rcd with erasing := some q, heldErase := none } } : State) q then
      ({ s with rcd := { s.rcd with erasing := some q, heldErase := none } } : State).wr R.REC_OLDEST.position
        ((q + 2 ^ 32 - 255) * 2048 % 2 ^ 32)
    else { s with rcd := { s.rcd with erasing := some q, heldErase := none } } := rfl

theorem startErase_queue (s : State) (q : Nat) : (startErase s q).rcd.queue = s.rcd.queue := by
  have hw (s : State) (f : Fld) (v : Nat) : (s.wr f v).rcd.queue = s.rcd.queue := rfl
  have hi (c : Prop) [Decidable c] (a b : State) (x : List CaskRec) (ha : a.rcd.queue = x) (hb : b.rcd.queue = x) :
      (if c then a else b).rcd.queue = x := by split <;> assumption
  rw [startErase_eq]
  exact hi _ _ _ _ (hw _ _ _) (hi _ _ _ _ (hw _ _ _) rfl)

theorem openBlock_queue (s : State) (q : Nat) : (openBlock s q).rcd.queue = s.rcd.queue := by
  unfold openBlock
  rw [startErase_queue]
  rfl

theorem roomFor_keeps {m : Nat} {r s t : State} {n k : Nat} (hm : 276824068 &&& m = 276824068) (e : roomFor s n = some t) (h : Keeps m r s) (hk : k ≤ s.rcd.queue.length) :
    Keeps m r t ∧ k ≤ t.rcd.queue.length := by
  unfold roomFor at e
  extract_lets pos idx q at e
  split at e
  · cases e; exact ⟨h, hk⟩
  · split at e
    · split at e
      · cases e; exact ⟨openBlock_keeps (sub_trans rfl hm) h, by rw [openBlock_queue]; exact hk⟩
      · cases e
    · cases e

theorem caskWrite_keeps {m : Nat} {r : State} {p0} {p1 : State} (hm : 276824068 &&& m = 276824068) (h1_ : Keeps m r p1) : Keeps m r (@caskWrite p0 p1) := by
  unfold caskWrite
  refine keeps_ite ?_ ?_
  · exact h1_
  · split
    · exact h1_
    · rename_i rq rest hrq
      have hrest : rest.length ≤ p1.rcd.queue.length := by rw [hrq]; exact Nat.le_succ _
      extract_lets -lift -merge -underBinder n_1
      try clear_value n_1
      split
      · exact h1_
      · rename_i heq
        have h_2 := roomFor_keeps (sub_trans rfl hm) heq h1_ hrest
        extract_lets -lift -merge -underBinder l_3 pos_4 bad_5 k_6 __src_7 s_8 s_9 __src_10 __src_11 s_12 s_13 s_14 s_15 s_16 n_17 __src_18 s_19
        try clear_value l_3
        try clear_value pos_4
        try clear_value bad_5
        try clear_value k_6
        try clear_value n_17
        have h_s_8 : Keeps m r s_8 := by
          unfold s_8
          exact keeps_flash h_2.1 (sub_trans rfl hm)
        try clear_value s_8
        have h_s_9 : Keeps m r s_9 := by
          unfold s_9
          refine State_wr_keeps (sub_trans rfl hm) h_s_8
        try clear_value s_9
        have h_s_12 : Keeps m r s_12 := by
          unfold s_12
          exact keeps_queue (b := 276824064) h_2.1 (sub_trans rfl hm) (by intro p hp; cases p <;> first | rfl | cases hp) (fun hq => Nat.le_trans h_2.2 hq) rfl rfl rfl rfl rfl
        try clear_value s_12
        have h_s_13 : Keeps m r s_13 := by
          unfold s_13
          refine State_wr_keeps (sub_trans rfl hm) h_s_12
        try clear_value s_13
        have h_s_14 : Keeps m r s_14 := by
          unfold s_14
          refine State_wr_keeps (sub_trans rfl hm) h_s_13
        try clear_value s_14
        have h_s_15 : Keeps m r s_15 := by
          unfold s_15
          refine keeps_ite ?_ ?_
          · refine notePosition_keeps (sub_trans rfl hm) h_s_14
          · exact h_s_14
        try clear_value s_15
        have h_s_16 : Keeps m r s_16 := by
          unfold s_16
          refine State_wr_keeps (sub_trans rfl hm) h_s_15
        try clear_value s_16
        have h_s_19 : Keeps m r s_19 := by
          unfold s_19
          exact keeps_rcd h_s_16 (sub_trans rfl hm) rfl
        try clear_value s_19
        refine keeps_ite ?_ ?_
        · refine State_wr_keeps (sub_trans rfl hm) ?_
          · refine State_bump_keeps (sub_trans rfl hm) h_s_9
        · refine keeps_ite ?_ ?_
          · exact h_s_16
          · refine State_event_keeps (sub_trans rfl hm) h_s_19

theorem blockEraseComplete_keeps {m : Nat} {r : State} {p0} {p1 : State} (hm : 276824068 &&& m = 276824068) (h1_ : Keeps m r p1) : Keeps m r (@blockEraseComplete p0 p1) := by
  unfold blockEraseComplete
  split
  · exact h1_
  · extract_lets -lift -merge -underBinder b_1 keep_2 __src_3 __src_4 torn_5 __src_6 __src_7 s_8 s_9 s_10
    try clear_value b_1
    try clear_value keep_2
    try clear_value torn_5
    have h_s_8 : Keeps m r s_8 := by
      unfold s_8
      exact keeps_mk (b := 276824064) h1_ (sub_trans rfl hm) (by intro p hp; cases p <;> first | rfl | cases hp) rfl rfl rfl rfl rfl rfl rfl
    try clear_value s_8
    have h_s_9 : Keeps m r s_9 := by
      unfold s_9
      refine State_wr_keeps (sub_trans rfl hm) ?_
      · refine State_bump_keeps (sub_trans rfl hm) h_s_8
    try clear_value s_9
    have h_s_10 : Keeps m r s_10 := by
      unfold s_10
      refine keeps_ite ?_ ?_
      · refine State_wr_keeps (sub_trans rfl hm) h_s_9
      · exact h_s_9
    try clear_value s_10
    refine keeps_ite ?_ ?_
    · exact keeps_mk (b := 276824064) h1_ (sub_trans rfl hm) (by intro p hp; cases p <;> first | rfl | cases hp) rfl rfl rfl rfl rfl rfl rfl
    · refine startErase_keeps (sub_trans rfl hm) h_s_10

theorem rebuildHistory_keeps {m : Nat} {r : State} {p0 : State} {p1} (hm : 524288 &&& m = 524288) (h0_ : Keeps m r p0) : Keeps m r (@rebuildHistory p0 p1) := by
  unfold rebuildHistory
  extract_lets -lift -merge -underBinder faults_1
  try clear_value faults_1
  refine keeps_foldl h0_ ?_
  · intro t_2 x_3 h_4
    refine modUnit_keeps (sub_trans rfl hm) h_4

theorem caskScan_keeps {m : Nat} {r : State} {p0 : State} (hm : 277348356 &&& m = 277348356) (h0_ : Keeps m r p0) : Keeps m r (@caskScan p0) := by
  unfold caskScan
  refine keeps_ite ?_ ?_
  · exact h0_
  · extract_lets -lift -merge -underBinder cask_1
    try clear_value cask_1
    split
    · extract_lets -lift -merge -underBinder s_2 s_3 s_4 s_5 waiting_6 __src_7 s_8 s_9 s_10
      try clear_value waiting_6
      have h_s_2 : Keeps m r s_2 := by
        unfold s_2
        refine keeps_ite ?_ ?_
        · exact h0_
        · refine State_wr_keeps (sub_trans rfl hm) ?_
          · refine State_bumpN_keeps (sub_trans rfl hm) h0_
      try clear_value s_2
      have h_s_3 : Keeps m r s_3 := by
        unfold s_3
        split
        · extract_lets -lift -merge -underBinder __src_11 __src_12 s_13 s_14 s_15 s_16 __src_17 s_18
          have h_s_13 : Keeps m r s_13 := by
            unfold s_13
            exact keeps_mk (b := 276824064) h_s_2 (sub_trans rfl hm) (by intro p hp; cases p <;> first | rfl | cases hp) rfl rfl rfl rfl rfl rfl rfl
          try clear_value s_13
          have h_s_14 : Keeps m r s_14 := by
            unfold s_14
            refine State_wr_keeps (sub_trans rfl hm) h_s_13
          try clear_value s_14
          have h_s_15 : Keeps m r s_15 := by
            unfold s_15
            refine State_wr_keeps (sub_trans rfl hm) h_s_14
          try clear_value s_15
          have h_s_16 : Keeps m r s_16 := by
            unfold s_16
            refine openBlock_keeps (sub_trans rfl hm) h_s_15
          try clear_value s_16
          have h_s_18 : Keeps m r s_18 := by
            unfold s_18
            exact keeps_rcd h_s_16 (sub_trans rfl hm) rfl
          try clear_value s_18
          refine State_wr_keeps (sub_trans rfl hm) ?_
          · refine State_wr_keeps (sub_trans rfl hm) h_s_18
        · extract_lets -lift -merge -underBinder b_19 s_20 old_21 s_22 secs_23 s_24 s_25 s_26
          try clear_value b_19
          try clear_value old_21
          try clear_value secs_23
          have h_s_20 : Keeps m r s_20 := by
            unfold s_20
            refine State_wr_keeps (sub_trans rfl hm) h_s_2
          try clear_value s_20
          have h_s_22 : Keeps m r s_22 := by
            unfold s_22
            refine State_wr_keeps (sub_trans rfl hm) h_s_20
          try clear_value s_22
          have h_s_24 : Keeps m r s_24 := by
            unfold s_24
            refine State_wr_keeps (sub_trans rfl hm) h_s_22
          try clear_value s_24
          have h_s_25 : Keeps m r s_25 := by
            unfold s_25
            refine State_wr_keeps (sub_trans rfl hm) h_s_24
          try clear_value s_25
          have h_s_26 : Keeps m r s_26 := by
            unfold s_26
            split
            · exact h_s_25
            · refine State_wr_keeps (sub_trans rfl hm) ?_
              · refine State_wr_keeps (sub_trans rfl hm) h_s_25
          try clear_value s_26
          refine startErase_keeps (sub_trans rfl hm) h_s_26
      try clear_value s_3
      have h_s_4 : Keeps m r s_4 := by
        unfold s_4
        refine rebuildHistory_keeps (sub_trans rfl hm) h_s_3
      try clear_value s_4
      have h_s_5 : Keeps m r s_5 := by
        unfold s_5
        refine State_wr_keeps (sub_trans rfl hm) h_s_4
      try clear_value s_5
      have h_s_8 : Keeps m r s_8 := by
        unfold s_8
        exact keeps_queue (b := 8388608) h_s_5 (sub_trans rfl hm) (by intro p hp; cases p <;> first | rfl | cases hp) (fun _ => Nat.zero_le _) rfl rfl rfl rfl rfl
      try clear_value s_8
      have h_s_9 : Keeps m r s_9 := by
        unfold s_9
        refine State_event_keeps (sub_trans rfl hm) h_s_8
      try clear_value s_9
      have h_s_10 : Keeps m r s_10 := by
        unfold s_10
        refine State_enqueue_keeps (sub_trans rfl hm) h_s_9
      try clear_value s_10
      refine State_requeue_keeps (sub_trans rfl hm) h_s_10

theorem freezeExpire_keeps {m : Nat} {r : State} {p0 : State} (hm : 8388612 &&& m = 8388612) (h0_ : Keeps m r p0) : Keeps m r (@freezeExpire p0) := by
  unfold freezeExpire
  refine keeps_ite ?_ ?_
  · refine releaseFreeze_keeps (sub_trans rfl hm) h0_
  · exact h0_

theorem headerSnapshot_keeps {m : Nat} {r : State} {p0 : State} (hm : 8388612 &&& m = 8388612) (h0_ : Keeps m r p0) : Keeps m r (@headerSnapshot p0) := by
  unfold headerSnapshot
  refine keeps_ite ?_ ?_
  · exact h0_
  · extract_lets -lift -merge -underBinder __src_1 s_2
    have h_s_2 : Keeps m r s_2 := by
      unfold s_2
      exact keeps_rcd h0_ (sub_trans rfl hm) rfl
    try clear_value s_2
    refine State_enqueue_keeps (sub_trans rfl hm) h_s_2

theorem operatingSecond_keeps {m : Nat} {r : State} {p0 : State} (hm : 4 &&& m = 4) (h0_ : Keeps m r p0) : Keeps m r (@operatingSecond p0) := by
  unfold operatingSecond
  refine keeps_ite ?_ ?_
  · exact h0_
  · refine State_wr_keeps (sub_trans rfl hm) h0_

theorem runClose_keeps {m : Nat} {r : State} {p0} {p1 : State} (hm : 8388612 &&& m = 8388612) (h1_ : Keeps m r p1) : Keeps m r (@runClose p0 p1) := by
  unfold runClose
  split
  · exact h1_
  · refine keeps_ite ?_ ?_
    · exact h1_
    · refine closeRun_keeps (sub_trans rfl hm) h1_

/-! ## Protocol -/

theorem retryIn_keeps {m : Nat} {r : State} {p0 : State} {p1} (hm : 0 &&& m = 0) (h0_ : Keeps m r p0) : Keeps m r (@retryIn p0 p1).1 := by
  unfold retryIn
  exact keeps_fst h0_

theorem refuse_keeps {m : Nat} {r : State} {p0} {p1 : State} (hm : 0 &&& m = 0) (h1_ : Keeps m r p1) : Keeps m r (@refuse p0 p1).1 := by
  unfold refuse
  exact keeps_fst h1_

theorem okay_keeps {m : Nat} {r : State} {p0 : State} (hm : 0 &&& m = 0) (h0_ : Keeps m r p0) : Keeps m r (@okay p0).1 := by
  unfold okay
  exact keeps_fst h0_

theorem renewLease_keeps {m : Nat} {r : State} {p0 : State} {p1} (hm : 4194304 &&& m = 4194304) (h0_ : Keeps m r p0) : Keeps m r (@renewLease p0 p1) := by
  unfold renewLease
  refine keeps_ite ?_ ?_
  · exact keeps_mgt h0_ (sub_trans rfl hm)
  · exact h0_

theorem reply_keeps {m : Nat} {r : State} {p0 : State} {p1} {p2} {p3} {p4} (hm : 20 &&& m = 20) (h0_ : Keeps m r p0) : Keeps m r (@reply p0 p1 p2 p3 p4) := by
  unfold reply
  extract_lets -lift -merge -underBinder s_1 s_2
  have h_s_1 : Keeps m r s_1 := by
    unfold s_1
    refine State_emit_keeps (sub_trans rfl hm) h0_
  try clear_value s_1
  have h_s_2 : Keeps m r s_2 := by
    unfold s_2
    split
    · refine State_bump_keeps (sub_trans rfl hm) h_s_1
    · refine State_bump_keeps (sub_trans rfl hm) h_s_1
    · refine State_bump_keeps (sub_trans rfl hm) h_s_1
    · refine State_bump_keeps (sub_trans rfl hm) h_s_1
    · exact h_s_1
  try clear_value s_2
  refine keeps_ite ?_ ?_
  · exact h_s_2
  · refine State_wr_keeps (sub_trans rfl hm) ?_
    · refine State_wr_keeps (sub_trans rfl hm) ?_
      · refine State_wr_keeps (sub_trans rfl hm) ?_
        · refine State_wr_keeps (sub_trans rfl hm) h_s_2

theorem heard_keeps {m : Nat} {r : State} {p0 : State} {p1} (hm : 4194308 &&& m = 4194308) (h0_ : Keeps m r p0) : Keeps m r (@heard p0 p1) := by
  unfold heard
  extract_lets -lift -merge -underBinder s_1
  have h_s_1 : Keeps m r s_1 := by
    unfold s_1
    split
    · exact keeps_mgt h0_ (sub_trans rfl hm)
    · exact keeps_mgt h0_ (sub_trans rfl hm)
  try clear_value s_1
  refine keeps_ite ?_ ?_
  · refine setMode_keeps (sub_trans rfl hm) ?_
    · refine State_wr_keeps (sub_trans rfl hm) h_s_1
  · exact h_s_1

theorem takeToken_keeps {m : Nat} {r : State} {p0 : State} {p1} (hm : 4194304 &&& m = 4194304) (h0_ : Keeps m r p0) : Keeps m r (@takeToken p0 p1).1 := by
  unfold takeToken
  extract_lets -lift -merge -underBinder spent_1 __src_2
  try clear_value spent_1
  refine keeps_ite1 ?_ ?_
  · exact keeps_fst h0_
  · refine keeps_fst ?_
    · exact keeps_mgt h0_ (sub_trans rfl hm)

theorem signatureFailure_keeps {m : Nat} {r : State} {p0 : State} {p1} {p2} (hm : 12845076 &&& m = 12845076) (h0_ : Keeps m r p0) : Keeps m r (@signatureFailure p0 p1 p2) := by
  unfold signatureFailure
  extract_lets -lift -merge -underBinder k_1 l_2 __src_3 s_4 __src_5 s_6
  try clear_value k_1
  try clear_value l_2
  have h_s_4 : Keeps m r s_4 := by
    unfold s_4
    refine State_bump_keeps (sub_trans rfl hm) ?_
    · exact keeps_mgt h0_ (sub_trans rfl hm)
  try clear_value s_4
  have h_s_6 : Keeps m r s_6 := by
    unfold s_6
    exact keeps_mgt h_s_4 (sub_trans rfl hm)
  try clear_value s_6
  refine keeps_ite ?_ ?_
  · exact h_s_4
  · refine State_err_keeps (sub_trans rfl hm) h_s_6

theorem serveBody_keeps {m : Nat} {r : State} {p0} {p1} {p2} {p3} {p4} {p5 : State} (hm : 0 &&& m = 0) (h4_ : ∀ q0, Keeps m r q0 → Keeps m r (p4 q0).1) (h5_ : Keeps m r p5) : Keeps m r (@serveBody p0 p1 p2 p3 p4 p5).1 := by
  unfold serveBody
  refine keeps_ite1 ?_ ?_
  · refine refuse_keeps (sub_trans rfl hm) h5_
  · refine keeps_ite1 ?_ ?_
    · refine refuse_keeps (sub_trans rfl hm) h5_
    · refine keeps_ite1 ?_ ?_
      · refine refuse_keeps (sub_trans rfl hm) h5_
      · refine keeps_ite1 ?_ ?_
        · refine refuse_keeps (sub_trans rfl hm) h5_
        · refine h4_ _ h5_

theorem noteAccepted_keeps {m : Nat} {r : State} {p0 : State} {p1} {p2} (hm : 272629764 &&& m = 272629764) (h0_ : Keeps m r p0) : Keeps m r (@noteAccepted p0 p1 p2) := by
  unfold noteAccepted
  split
  · extract_lets -lift -merge -underBinder __src_1 s_2
    have h_s_2 : Keeps m r s_2 := by
      unfold s_2
      exact keeps_mgt h0_ (sub_trans rfl hm)
    try clear_value s_2
    refine State_wr_keeps (sub_trans rfl hm) h_s_2
  · exact keeps_flash h0_ (sub_trans rfl hm)
  · exact h0_

theorem keepAnswer_keeps {m : Nat} {r : State} {p0 : State} {p1} {p2} {p3} {p4} (hm : 4194304 &&& m = 4194304) (h0_ : Keeps m r p0) : Keeps m r (@keepAnswer p0 p1 p2 p3 p4) := by
  unfold keepAnswer
  split
  · extract_lets -lift -merge -underBinder keep_1 __src_2
    try clear_value keep_1
    exact keeps_mgt h0_ (sub_trans rfl hm)
  · extract_lets -lift -merge -underBinder l_3 __src_4
    try clear_value l_3
    exact keeps_mgt h0_ (sub_trans rfl hm)
  · exact h0_

theorem serve_keeps {m : Nat} {r : State} {p0} {p1} {p2} {p3} {p4} {p5 : State} (hm : 281280532 &&& m = 281280532) (hr_ : ∀ q t, p4 q = some t → Keeps m r q → Keeps m r t) (h3_ : ∀ q0, Keeps m r q0 → Keeps m r (p3 q0).1) (h5_ : Keeps m r p5) : Keeps m r (@serve p0 p1 p2 p3 p4 p5) := by
  unfold serve
  refine keeps_ite ?_ ?_
  · exact h5_
  · refine keeps_ite ?_ ?_
    · refine State_bump_keeps (sub_trans rfl hm) ?_
      · refine State_bump_keeps (sub_trans rfl hm) h5_
    · refine keeps_ite ?_ ?_
      · refine State_bump_keeps (sub_trans rfl hm) h5_
      · refine keeps_ite ?_ ?_
        · exact h5_
        · extract_lets -lift -merge -underBinder s_1
          have h_s_1 : Keeps m r s_1 := by
            unfold s_1
            refine renewLease_keeps (sub_trans rfl hm) h5_
          try clear_value s_1
          refine keeps_ite ?_ ?_
          · split
            · rename_i heq
              have h_2 := hr_ _ _ heq h_s_1
              refine reply_keeps (sub_trans rfl hm) h_2
            · refine reply_keeps (sub_trans rfl hm) ?_
              · refine heard_keeps (sub_trans rfl hm) h_s_1
          · refine keeps_ite ?_ ?_
            · refine reply_keeps (sub_trans rfl hm) h_s_1
            · split
              · rename_i heq
                have h_3 := congrArg Prod.fst heq
                replace h_3 := keeps_of_eq (m := m) (r := r) h_3 (by
                  refine takeToken_keeps (sub_trans rfl hm) h_s_1
                  )
                refine reply_keeps (sub_trans rfl hm) h_3
              · rename_i heq
                have h_4 := congrArg Prod.fst heq
                replace h_4 := keeps_of_eq (m := m) (r := r) h_4 (by
                  refine takeToken_keeps (sub_trans rfl hm) h_s_1
                  )
                split
                · refine reply_keeps (sub_trans rfl hm) ?_
                  · refine keeps_ite ?_ ?_
                    · refine signatureFailure_keeps (sub_trans rfl hm) h_4
                    · exact h_4
                · refine State_emit_keeps (sub_trans rfl hm) ?_
                  · refine heard_keeps (sub_trans rfl hm) h_4
                · extract_lets -lift -merge -underBinder x_5
                  have h_x_5 : Keeps m r x_5.1 := by
                    unfold x_5
                    refine serveBody_keeps (sub_trans rfl hm) h3_ ?_
                    · refine noteAccepted_keeps (sub_trans rfl hm) ?_
                      · refine heard_keeps (sub_trans rfl hm) h_4
                  try clear_value x_5
                  refine keepAnswer_keeps (sub_trans rfl hm) ?_
                  · refine reply_keeps (sub_trans rfl hm) ?_
                    · exact h_x_5

theorem serveOrder_keeps {m : Nat} {r : State} {p0} {p1} {p2} {p3} {p4 : State} (hm : 281280532 &&& m = 281280532) (h3_ : ∀ q0, Keeps m r q0 → Keeps m r (p3 q0).1) (h4_ : Keeps m r p4) : Keeps m r (@serveOrder p0 p1 p2 p3 p4) := by
  unfold serveOrder
  refine serve_keeps (sub_trans rfl hm) (fun _ _ e _ => nomatch e) h3_ h4_

theorem endSession_keeps {m : Nat} {r : State} {p0 : State} (hm : 12582916 &&& m = 12582916) (h0_ : Keeps m r p0) : Keeps m r (@endSession p0) := by
  unfold endSession
  split
  · exact h0_
  · extract_lets -lift -merge -underBinder __src_1 s_2 s_3 s_4
    have h_s_2 : Keeps m r s_2 := by
      unfold s_2
      refine endFreezeOf_keeps (sub_trans rfl hm) ?_
      · exact keeps_mgt h0_ (sub_trans rfl hm)
    try clear_value s_2
    have h_s_3 : Keeps m r s_3 := by
      unfold s_3
      refine State_wr_keeps (sub_trans rfl hm) ?_
      · refine State_wr_keeps (sub_trans rfl hm) h_s_2
    try clear_value s_3
    have h_s_4 : Keeps m r s_4 := by
      unfold s_4
      refine State_wr_keeps (sub_trans rfl hm) ?_
      · refine State_wr_keeps (sub_trans rfl hm) ?_
        · refine State_wr_keeps (sub_trans rfl hm) h_s_3
    try clear_value s_4
    refine keeps_foldl ?_ ?_
    · refine State_wr_keeps (sub_trans rfl hm) h_s_4
    · intro t_5 x_6 h_7
      refine State_wr_keeps (sub_trans rfl hm) h_7

theorem beginSession_keeps {m : Nat} {r : State} {p0 : State} {p1} (hm : 12582948 &&& m = 12582948) (h0_ : Keeps m r p0) : Keeps m r (@beginSession p0 p1) := by
  unfold beginSession
  extract_lets -lift -merge -underBinder s_1 id_2 q_3 __src_4 s_5 s_6 s_7 s_8
  try clear_value id_2
  try clear_value q_3
  have h_s_1 : Keeps m r s_1 := by
    unfold s_1
    refine endSession_keeps (sub_trans rfl hm) h0_
  try clear_value s_1
  have h_s_5 : Keeps m r s_5 := by
    unfold s_5
    refine State_drawFree_keeps (sub_trans rfl hm) ?_
    · exact keeps_mgt h_s_1 (sub_trans rfl hm)
  try clear_value s_5
  have h_s_6 : Keeps m r s_6 := by
    unfold s_6
    refine State_wr_keeps (sub_trans rfl hm) ?_
    · refine State_wr_keeps (sub_trans rfl hm) h_s_5
  try clear_value s_6
  have h_s_7 : Keeps m r s_7 := by
    unfold s_7
    refine State_wr_keeps (sub_trans rfl hm) ?_
    · refine State_wr_keeps (sub_trans rfl hm) h_s_6
  try clear_value s_7
  have h_s_8 : Keeps m r s_8 := by
    unfold s_8
    refine State_wr_keeps (sub_trans rfl hm) h_s_7
  try clear_value s_8
  refine State_wr_keeps (sub_trans rfl hm) h_s_8

theorem keepSetting_keeps {m : Nat} {r : State} {p0 : State} {p1} (hm : 268435456 &&& m = 268435456) (h0_ : Keeps m r p0) : Keeps m r (@keepSetting p0 p1) := by
  unfold keepSetting
  exact keeps_flash h0_ (sub_trans rfl hm)

theorem lockoutExpire_keeps {m : Nat} {r : State} {p0} {p1 : State} (hm : 4194304 &&& m = 4194304) (h1_ : Keeps m r p1) : Keeps m r (@lockoutExpire p0 p1) := by
  unfold lockoutExpire
  split
  · refine keeps_ite ?_ ?_
    · exact h1_
    · exact keeps_mgt h1_ (sub_trans rfl hm)
  · exact h1_

end Sys2Proof.Laws
end

