-- ==== Sys2Proof/Laws/Keeps9.lean ====
section
/-! SUPPORT. What the operations of Messages, Monitor, Update keep (the relation `Keeps`): of each, that it passes on the relation of the
state it is given, where the parts it writes are among those named. -/
namespace Sys2Proof.Laws
open Sys2Proof.Machine

/-! ## Messages -/

theorem actAlone_keeps {m : Nat} {r : State} {p0 : State} (hm : 8388612 &&& m = 8388612) (h0_ : Keeps m r p0) : Keeps m r (@actAlone p0) := by
  unfold actAlone
  extract_lets -lift -merge -underBinder lim_1 s_2
  try clear_value lim_1
  have h_s_2 : Keeps m r s_2 := by
    unfold s_2
    refine State_bump_keeps (sub_trans rfl hm) ?_
    · refine State_wr_keeps (sub_trans rfl hm) h0_
  try clear_value s_2
  refine keeps_ite ?_ ?_
  · exact h0_
  · refine setMode_keeps (sub_trans rfl hm) ?_
    · refine State_event_keeps (sub_trans rfl hm) h_s_2

theorem admitTile_keeps {m : Nat} {r : State} {p0 : State} {p1} (hm : 524288 &&& m = 524288) (h0_ : Keeps m r p0) : Keeps m r (@admitTile p0 p1).1 := by
  unfold admitTile
  refine keeps_ite1 ?_ ?_
  · refine refuse_keeps (sub_trans rfl hm) h0_
  · refine keeps_ite1 ?_ ?_
    · refine okay_keeps (sub_trans rfl hm) ?_
      · refine modUnit_keeps (sub_trans rfl hm) h0_
    · refine okay_keeps (sub_trans rfl hm) h0_

theorem admitSlot_keeps {m : Nat} {r : State} {p0 : State} {p1} (hm : 281281556 &&& m = 281281556) (h0_ : Keeps m r p0) : Keeps m r (@admitSlot p0 p1).1 := by
  unfold admitSlot
  extract_lets -lift -merge -underBinder n_1 back_2 cleared_3
  try clear_value n_1
  try clear_value back_2
  have h_cleared_3 : ∀ a_4, Keeps m r a_4 → Keeps m r (cleared_3 a_4) := by
    intro a_4 h_5
    unfold cleared_3
    refine keeps_ite ?_ ?_
    · refine setLevel_keeps (sub_trans rfl hm) ?_
      · refine modKept_keeps (sub_trans rfl hm) h_5
    · exact h_5
  try clear_value cleared_3
  refine keeps_ite1 ?_ ?_
  · refine okay_keeps (sub_trans rfl hm) h0_
  · refine keeps_ite1 ?_ ?_
    · refine retryIn_keeps (sub_trans rfl hm) h0_
    · refine keeps_ite1 ?_ ?_
      · refine okay_keeps (sub_trans rfl hm) ?_
        · refine putForward_keeps (sub_trans rfl hm) ?_
          · refine h_cleared_3 _ h0_
      · refine refuse_keeps (sub_trans rfl hm) h0_

theorem admitMsg_keeps {m : Nat} {r : State} {p0} {p1} {p2 : State} (hm : 281805844 &&& m = 281805844) (h2_ : Keeps m r p2) : Keeps m r (@admitMsg p0 p1 p2) := by
  unfold admitMsg
  refine serveOrder_keeps (sub_trans rfl hm) ?_ h2_
  · intro a_1 h_2
    split
    · refine refuse_keeps (sub_trans rfl hm) h_2
    · refine keeps_ite1 ?_ ?_
      · refine admitTile_keeps (sub_trans rfl hm) h_2
      · refine admitSlot_keeps (sub_trans rfl hm) h_2

theorem bindOffTray_keeps {m : Nat} {r : State} {p0 : State} (hm : 352075740 &&& m = 352075740) (h0_ : Keeps m r p0) : Keeps m r (@bindOffTray p0) := by
  unfold bindOffTray
  refine keeps_ite ?_ ?_
  · refine orderTrayOff_keeps (sub_trans rfl hm) h0_
  · refine dropSettling_keeps (sub_trans rfl hm) h0_

theorem capsChanged_keeps {m : Nat} {r : State} {p0 : State} (hm : 8404996 &&& m = 8404996) (h0_ : Keeps m r p0) : Keeps m r (@capsChanged p0) := by
  unfold capsChanged
  extract_lets -lift -merge -underBinder old_1 s_2
  try clear_value old_1
  have h_s_2 : Keeps m r s_2 := by
    unfold s_2
    refine refreshPin_keeps (sub_trans rfl hm) ?_
    · refine refreshCaps_keeps (sub_trans rfl hm) h0_
  try clear_value s_2
  refine lookAtExcess_keeps (sub_trans rfl hm) h_s_2

theorem setBudget_keeps {m : Nat} {r : State} {p0} {p1 : State} (hm : 268435460 &&& m = 268435460) (h1_ : Keeps m r p1) : Keeps m r (@setBudget p0 p1) := by
  unfold setBudget
  refine keeps_ite ?_ ?_
  · refine State_wr_keeps (sub_trans rfl hm) ?_
    · refine keepSetting_keeps (sub_trans rfl hm) h1_
  · refine State_wr_keeps (sub_trans rfl hm) ?_
    · refine keepSetting_keeps (sub_trans rfl hm) h1_

theorem budgetSet_keeps {m : Nat} {r : State} {p0} {p1} {p2 : State} (hm : 281296916 &&& m = 281296916) (h2_ : Keeps m r p2) : Keeps m r (@budgetSet p0 p1 p2) := by
  unfold budgetSet
  refine serveOrder_keeps (sub_trans rfl hm) ?_ h2_
  · intro a_1 h_2
    refine okay_keeps (sub_trans rfl hm) ?_
    · refine capsChanged_keeps (sub_trans rfl hm) ?_
      · refine setBudget_keeps (sub_trans rfl hm) h_2

theorem setCap_keeps {m : Nat} {r : State} {p0} {p1} {p2} {p3 : State} (hm : 268435460 &&& m = 268435460) (h3_ : Keeps m r p3) : Keeps m r (@setCap p0 p1 p2 p3) := by
  unfold setCap
  split
  · refine keeps_ite ?_ ?_
    · refine State_wr_keeps (sub_trans rfl hm) ?_
      · refine keepSetting_keeps (sub_trans rfl hm) h3_
    · refine keepSetting_keeps (sub_trans rfl hm) h3_
  · refine keeps_ite ?_ ?_
    · refine State_wr_keeps (sub_trans rfl hm) ?_
      · refine keepSetting_keeps (sub_trans rfl hm) h3_
    · refine keepSetting_keeps (sub_trans rfl hm) h3_

theorem clearHostCaps_keeps {m : Nat} {r : State} {p0 : State} (hm : 268435460 &&& m = 268435460) (h0_ : Keeps m r p0) : Keeps m r (@clearHostCaps p0) := by
  unfold clearHostCaps
  refine State_wr_keeps (sub_trans rfl hm) ?_
  · refine keepSetting_keeps (sub_trans rfl hm) h0_

theorem capSet_keeps {m : Nat} {r : State} {p0} {p1} {p2} {p3} {p4 : State} (hm : 281296916 &&& m = 281296916) (h4_ : Keeps m r p4) : Keeps m r (@capSet p0 p1 p2 p3 p4) := by
  unfold capSet
  refine serveOrder_keeps (sub_trans rfl hm) ?_ h4_
  · intro a_1 h_2
    refine keeps_ite1 ?_ ?_
    · refine refuse_keeps (sub_trans rfl hm) h_2
    · refine okay_keeps (sub_trans rfl hm) ?_
      · refine capsChanged_keeps (sub_trans rfl hm) ?_
        · refine setCap_keeps (sub_trans rfl hm) ?_
          · refine keeps_ite ?_ ?_
            · refine clearHostCaps_keeps (sub_trans rfl hm) h_2
            · exact h_2

theorem clearLatch_keeps {m : Nat} {r : State} {p0} {p1} {p2} {p3} {p4 : State} (hm : 281280532 &&& m = 281280532) (h3_ : ∀ q0, Keeps m r q0 → Keeps m r (p3 q0).1) (h4_ : Keeps m r p4) : Keeps m r (@clearLatch p0 p1 p2 p3 p4) := by
  unfold clearLatch
  refine serveOrder_keeps (sub_trans rfl hm) h3_ h4_

theorem clearLatchFan_keeps {m : Nat} {r : State} {p0} {p1} {p2 : State} (hm : 281313300 &&& m = 281313300) (h2_ : Keeps m r p2) : Keeps m r (@clearLatchFan p0 p1 p2) := by
  unfold clearLatchFan
  refine clearLatch_keeps (sub_trans rfl hm) ?_ h2_
  · intro a_1 h_2
    refine okay_keeps (sub_trans rfl hm) ?_
    · refine clearFan_keeps (sub_trans rfl hm) h_2

theorem clearLatchHubHold_keeps {m : Nat} {r : State} {p0} {p1} {p2 : State} (hm : 281280532 &&& m = 281280532) (h2_ : Keeps m r p2) : Keeps m r (@clearLatchHubHold p0 p1 p2) := by
  unfold clearLatchHubHold
  refine clearLatch_keeps (sub_trans rfl hm) ?_ h2_
  · intro a_1 h_2
    refine okay_keeps (sub_trans rfl hm) ?_
    · refine State_wr_keeps (sub_trans rfl hm) h_2

theorem clearLatchLink_keeps {m : Nat} {r : State} {p0} {p1} {p2 : State} (hm : 281284628 &&& m = 281284628) (h2_ : Keeps m r p2) : Keeps m r (@clearLatchLink p0 p1 p2) := by
  unfold clearLatchLink
  refine clearLatch_keeps (sub_trans rfl hm) ?_ h2_
  · intro a_1 h_2
    refine okay_keeps (sub_trans rfl hm) ?_
    · refine clearLatchedLink_keeps (sub_trans rfl hm) h_2

theorem clearLatchModel_keeps {m : Nat} {r : State} {p0} {p1} {p2 : State} (hm : 281280532 &&& m = 281280532) (h2_ : Keeps m r p2) : Keeps m r (@clearLatchModel p0 p1 p2) := by
  unfold clearLatchModel
  refine clearLatch_keeps (sub_trans rfl hm) ?_ h2_
  · intro a_1 h_2
    refine okay_keeps (sub_trans rfl hm) ?_
    · refine clearImplausible_keeps (sub_trans rfl hm) h_2

theorem clearLatchProcessor_keeps {m : Nat} {r : State} {p0} {p1} {p2 : State} (hm : 282329108 &&& m = 282329108) (h2_ : Keeps m r p2) : Keeps m r (@clearLatchProcessor p0 p1 p2) := by
  unfold clearLatchProcessor
  refine serve_keeps (sub_trans rfl hm) (fun q t e h => by split at e <;> cases e; exact revive_keeps (sub_trans rfl hm) h) ?_ h2_
  · intro a_1 h_2
    refine okay_keeps (sub_trans rfl hm) ?_
    · refine revive_keeps (sub_trans rfl hm) h_2

theorem clearLatchPump_keeps {m : Nat} {r : State} {p0} {p1} {p2 : State} (hm : 281313300 &&& m = 281313300) (h2_ : Keeps m r p2) : Keeps m r (@clearLatchPump p0 p1 p2) := by
  unfold clearLatchPump
  refine clearLatch_keeps (sub_trans rfl hm) ?_ h2_
  · intro a_1 h_2
    refine okay_keeps (sub_trans rfl hm) ?_
    · refine clearPump_keeps (sub_trans rfl hm) h_2

theorem clearLatchValve_keeps {m : Nat} {r : State} {p0} {p1} {p2 : State} (hm : 281313300 &&& m = 281313300) (h2_ : Keeps m r p2) : Keeps m r (@clearLatchValve p0 p1 p2) := by
  unfold clearLatchValve
  refine clearLatch_keeps (sub_trans rfl hm) ?_ h2_
  · intro a_1 h_2
    refine okay_keeps (sub_trans rfl hm) ?_
    · refine clearValve_keeps (sub_trans rfl hm) h_2

theorem clearZone_keeps {m : Nat} {r : State} {p0} {p1 : State} (hm : 4 &&& m = 4) (h1_ : Keeps m r p1) : Keeps m r (@clearZone p0 p1).1 := by
  unfold clearZone
  refine keeps_ite1 ?_ ?_
  · refine okay_keeps (sub_trans rfl hm) h1_
  · refine keeps_ite1 ?_ ?_
    · refine okay_keeps (sub_trans rfl hm) ?_
      · refine clearWet_keeps (sub_trans rfl hm) h1_
    · refine refuse_keeps (sub_trans rfl hm) h1_

theorem clearLatchZone_keeps {m : Nat} {r : State} {p0} {p1} {p2 : State} (hm : 281280532 &&& m = 281280532) (h2_ : Keeps m r p2) : Keeps m r (@clearLatchZone p0 p1 p2) := by
  unfold clearLatchZone
  refine clearLatch_keeps (sub_trans rfl hm) ?_ h2_
  · intro a_1 h_2
    refine clearZone_keeps (sub_trans rfl hm) h_2

theorem clearOff_keeps {m : Nat} {r : State} {p0 : State} {p1} (hm : 268435460 &&& m = 268435460) (h0_ : Keeps m r p0) : Keeps m r (@clearOff p0 p1) := by
  unfold clearOff
  extract_lets -lift -merge -underBinder old_1 v_2
  try clear_value old_1
  try clear_value v_2
  refine keepSetting_keeps (sub_trans rfl hm) ?_
  · refine State_wr_keeps (sub_trans rfl hm) h0_

theorem datagramFragment_keeps {m : Nat} {r : State} {p0} {p1} {p2} {p3 : State} (hm : 4194304 &&& m = 4194304) (h3_ : Keeps m r p3) : Keeps m r (@datagramFragment p0 p1 p2 p3) := by
  unfold datagramFragment
  extract_lets -lift -merge -underBinder l_1 put_2
  try clear_value l_1
  have h_put_2 : ∀ a_3, Keeps m r (put_2 a_3) := by
    intro a_3
    unfold put_2
    exact keeps_mgt h3_ (sub_trans rfl hm)
  try clear_value put_2
  refine keeps_ite ?_ ?_
  · exact h3_
  · split
    · refine keeps_ite ?_ ?_
      · refine h_put_2 _
      · refine h_put_2 _
    · refine keeps_ite ?_ ?_
      · exact h3_
      · refine h_put_2 _

theorem expel_keeps {m : Nat} {r : State} {p0} {p1} {p2 : State} (hm : 281281556 &&& m = 281281556) (h2_ : Keeps m r p2) : Keeps m r (@expel p0 p1 p2) := by
  unfold expel
  refine serveOrder_keeps (sub_trans rfl hm) ?_ h2_
  · intro a_1 h_2
    extract_lets -lift -merge -underBinder slot_3 was_4 s_5
    try clear_value slot_3
    try clear_value was_4
    have h_s_5 : Keeps m r s_5 := by
      unfold s_5
      refine expelSlot_keeps (sub_trans rfl hm) h_2
    try clear_value s_5
    refine okay_keeps (sub_trans rfl hm) ?_
    · refine keeps_ite ?_ ?_
      · refine State_bump_keeps (sub_trans rfl hm) h_s_5
      · exact h_s_5

theorem features_keeps {m : Nat} {r : State} {p0} {p1} {p2 : State} (hm : 281280532 &&& m = 281280532) (h2_ : Keeps m r p2) : Keeps m r (@features p0 p1 p2) := by
  unfold features
  refine serveOrder_keeps (sub_trans rfl hm) ?_ h2_
  · intro a_1 h_2
    extract_lets -lift -merge -underBinder f_3
    try clear_value f_3
    refine keeps_fst ?_
    · refine keeps_foldl h_2 ?_
      · intro t_4 x_5 h_6
        refine State_wr_keeps (sub_trans rfl hm) h_6

theorem freeze_keeps {m : Nat} {r : State} {p0 : State} (hm : 8388612 &&& m = 8388612) (h0_ : Keeps m r p0) : Keeps m r (@freeze p0) := by
  unfold freeze
  extract_lets -lift -merge -underBinder s_1 began_2 __src_3 s_4
  try clear_value began_2
  have h_s_1 : Keeps m r s_1 := by
    unfold s_1
    refine closeRuns_keeps (sub_trans rfl hm) h0_
  try clear_value s_1
  have h_s_4 : Keeps m r s_4 := by
    unfold s_4
    exact keeps_rcd h_s_1 (sub_trans rfl hm) rfl
  try clear_value s_4
  refine State_wr_keeps (sub_trans rfl hm) ?_
  · refine State_wr_keeps (sub_trans rfl hm) h_s_4

theorem gaugeFixOff_keeps {m : Nat} {r : State} {p0} {p1} {p2 : State} (hm : 281280532 &&& m = 281280532) (h2_ : Keeps m r p2) : Keeps m r (@gaugeFixOff p0 p1 p2) := by
  unfold gaugeFixOff
  refine serveOrder_keeps (sub_trans rfl hm) ?_ h2_
  · intro a_1 h_2
    extract_lets -lift -merge -underBinder s_3
    have h_s_3 : Keeps m r s_3 := by
      unfold s_3
      refine keepSetting_keeps (sub_trans rfl hm) h_2
    try clear_value s_3
    refine okay_keeps (sub_trans rfl hm) ?_
    · refine State_wr_keeps (sub_trans rfl hm) ?_
      · refine State_wr_keeps (sub_trans rfl hm) ?_
        · refine State_wr_keeps (sub_trans rfl hm) h_s_3

theorem gaugeFixOn_keeps {m : Nat} {r : State} {p0} {p1} {p2 : State} (hm : 281280532 &&& m = 281280532) (h2_ : Keeps m r p2) : Keeps m r (@gaugeFixOn p0 p1 p2) := by
  unfold gaugeFixOn
  refine serveOrder_keeps (sub_trans rfl hm) ?_ h2_
  · intro a_1 h_2
    extract_lets -lift -merge -underBinder s_3 s_4
    have h_s_3 : Keeps m r s_3 := by
      unfold s_3
      refine keepSetting_keeps (sub_trans rfl hm) h_2
    try clear_value s_3
    have h_s_4 : Keeps m r s_4 := by
      unfold s_4
      refine State_wr_keeps (sub_trans rfl hm) ?_
      · refine State_wr_keeps (sub_trans rfl hm) h_s_3
    try clear_value s_4
    refine okay_keeps (sub_trans rfl hm) ?_
    · refine refreshPin_keeps (sub_trans rfl hm) ?_
      · refine State_wr_keeps (sub_trans rfl hm) h_s_4

theorem icmpv6Echo_keeps {m : Nat} {r : State} {p0} {p1} {p2 : State} (hm : 16 &&& m = 16) (h2_ : Keeps m r p2) : Keeps m r (@icmpv6Echo p0 p1 p2) := by
  unfold icmpv6Echo
  refine keeps_ite ?_ ?_
  · refine State_emit_keeps (sub_trans rfl hm) h2_
  · exact h2_

theorem logRead_keeps {m : Nat} {r : State} {p0} {p1} {p2} {p3} {p4 : State} (hm : 281280532 &&& m = 281280532) (h4_ : Keeps m r p4) : Keeps m r (@logRead p0 p1 p2 p3 p4) := by
  unfold logRead
  refine serveOrder_keeps (sub_trans rfl hm) ?_ h4_
  · intro a_1 h_2
    exact keeps_fst h_2

theorem managementPortLink_keeps {m : Nat} {r : State} {p0} {p1 : State} (hm : 4 &&& m = 4) (h1_ : Keeps m r p1) : Keeps m r (@managementPortLink p0 p1) := by
  unfold managementPortLink
  refine State_wr_keeps (sub_trans rfl hm) h1_

theorem neighbourDiscovery_keeps {m : Nat} {r : State} {p0} {p1} {p2 : State} (hm : 16 &&& m = 16) (h2_ : Keeps m r p2) : Keeps m r (@neighbourDiscovery p0 p1 p2) := by
  unfold neighbourDiscovery
  extract_lets -lift -merge -underBinder has_1
  try clear_value has_1
  refine keeps_ite ?_ ?_
  · exact h2_
  · refine State_emit_keeps (sub_trans rfl hm) h2_

theorem openAnswer_keeps {m : Nat} {r : State} {p0} {p1} {p2 : State} (hm : 12582948 &&& m = 12582948) (h2_ : Keeps m r p2) : Keeps m r (@openAnswer p0 p1 p2).1 := by
  unfold openAnswer
  extract_lets -lift -merge -underBinder opened_1
  have h_opened_1 : ∀ a_2, Keeps m r a_2 → Keeps m r (opened_1 a_2).1 := by
    intro a_2 h_3
    unfold opened_1
    extract_lets -lift -merge -underBinder s_4
    have h_s_4 : Keeps m r s_4 := by
      unfold s_4
      refine beginSession_keeps (sub_trans rfl hm) h_3
    try clear_value s_4
    exact keeps_fst h_s_4
  try clear_value opened_1
  split
  · refine h_opened_1 _ h2_
  · refine keeps_ite1 ?_ ?_
    · refine h_opened_1 _ h2_
    · refine keeps_ite1 ?_ ?_
      · refine h_opened_1 _ ?_
        · refine State_event_keeps (sub_trans rfl hm) ?_
          · refine State_wr_keeps (sub_trans rfl hm) h2_
      · exact keeps_fst h2_

theorem orderOn_keeps {m : Nat} {r : State} {p0 : State} {p1} (hm : 352075740 &&& m = 352075740) (h0_ : Keeps m r p0) : Keeps m r (@orderOn p0 p1).1 := by
  unfold orderOn
  extract_lets -lift -merge -underBinder slots_1
  try clear_value slots_1
  refine keeps_ite1 ?_ ?_
  · refine okay_keeps (sub_trans rfl hm) h0_
  · refine keeps_ite1 ?_ ?_
    · refine okay_keeps (sub_trans rfl hm) ?_
      · refine orderSlotsOn_keeps (sub_trans rfl hm) ?_
        · refine clearOff_keeps (sub_trans rfl hm) h0_
    · refine keeps_ite1 ?_ ?_
      · refine okay_keeps (sub_trans rfl hm) ?_
        · refine orderTrayOn_keeps (sub_trans rfl hm) ?_
          · refine clearOff_keeps (sub_trans rfl hm) h0_
      · refine retryIn_keeps (sub_trans rfl hm) h0_

theorem partitionPowerOff_keeps {m : Nat} {r : State} {p0} {p1} {p2 : State} (hm : 352075740 &&& m = 352075740) (h2_ : Keeps m r p2) : Keeps m r (@partitionPowerOff p0 p1 p2) := by
  unfold partitionPowerOff
  refine serveOrder_keeps (sub_trans rfl hm) ?_ h2_
  · intro a_1 h_2
    extract_lets -lift -merge -underBinder s_3 slots_4
    try clear_value slots_4
    have h_s_3 : Keeps m r s_3 := by
      unfold s_3
      refine keepSetting_keeps (sub_trans rfl hm) ?_
      · refine writeOff_keeps (sub_trans rfl hm) h_2
    try clear_value s_3
    refine okay_keeps (sub_trans rfl hm) ?_
    · refine keeps_ite ?_ ?_
      · refine orderSlotsOff_keeps (sub_trans rfl hm) h_s_3
      · exact h_s_3

theorem partitionPowerOn_keeps {m : Nat} {r : State} {p0} {p1} {p2 : State} (hm : 352075740 &&& m = 352075740) (h2_ : Keeps m r p2) : Keeps m r (@partitionPowerOn p0 p1 p2) := by
  unfold partitionPowerOn
  refine serveOrder_keeps (sub_trans rfl hm) ?_ h2_
  · intro a_1 h_2
    refine keeps_ite1 ?_ ?_
    · refine orderOn_keeps (sub_trans rfl hm) h_2
    · refine refuse_keeps (sub_trans rfl hm) h_2

theorem selectPattern_keeps {m : Nat} {r : State} {p0} {p1} {p2} {p3} {p4 : State} (hm : 12868820 &&& m = 12868820) (h4_ : Keeps m r p4) : Keeps m r (@selectPattern p0 p1 p2 p3 p4).1 := by
  unfold selectPattern
  split
  · refine refuse_keeps (sub_trans rfl hm) h4_
  · refine keeps_ite1 ?_ ?_
    · refine retryIn_keeps (sub_trans rfl hm) h4_
    · refine keeps_ite1 ?_ ?_
      · refine okay_keeps (sub_trans rfl hm) ?_
        · refine trySelect_keeps (sub_trans rfl hm) ?_
          · exact keeps_sup h4_ (sub_trans rfl hm)
      · extract_lets -lift -merge -underBinder s_1
        have h_s_1 : Keeps m r s_1 := by
          unfold s_1
          refine writeNext_keeps (sub_trans rfl hm) h4_
        try clear_value s_1
        refine okay_keeps (sub_trans rfl hm) ?_
        · refine keeps_ite ?_ ?_
          · refine restartNext_keeps (sub_trans rfl hm) h_s_1
          · exact h_s_1

theorem patternSelect_keeps {m : Nat} {r : State} {p0} {p1} {p2} {p3} {p4} {p5 : State} (hm : 281304276 &&& m = 281304276) (h5_ : Keeps m r p5) : Keeps m r (@patternSelect p0 p1 p2 p3 p4 p5) := by
  unfold patternSelect
  refine serveOrder_keeps (sub_trans rfl hm) ?_ h5_
  · intro a_1 h_2
    refine selectPattern_keeps (sub_trans rfl hm) h_2

theorem powerOff_keeps {m : Nat} {r : State} {p0} {p1 : State} (hm : 352075740 &&& m = 352075740) (h1_ : Keeps m r p1) : Keeps m r (@powerOff p0 p1) := by
  unfold powerOff
  refine serve_keeps (sub_trans rfl hm) (fun q t e h => by cases e; exact bindOffTray_keeps (sub_trans rfl hm) h) ?_ h1_
  · intro a_1 h_2
    refine okay_keeps (sub_trans rfl hm) ?_
    · refine bindOffTray_keeps (sub_trans rfl hm) ?_
      · refine keepSetting_keeps (sub_trans rfl hm) ?_
        · refine writeOff_keeps (sub_trans rfl hm) h_2

theorem readRecorder_keeps {m : Nat} {r : State} {p0} {p1} {p2 : State} (hm : 4 &&& m = 4) (h2_ : Keeps m r p2) : Keeps m r (@readRecorder p0 p1 p2).1 := by
  unfold readRecorder
  extract_lets -lift -merge -underBinder o_1 from__2 end__3
  try clear_value o_1
  try clear_value from__2
  try clear_value end__3
  refine keeps_ite1 ?_ ?_
  · refine refuse_keeps (sub_trans rfl hm) h2_
  · split
    · extract_lets -lift -merge -underBinder s_4
      have h_s_4 : Keeps m r s_4 := by
        unfold s_4
        refine keeps_ite ?_ ?_
        · exact h2_
        · refine State_wr_keeps (sub_trans rfl hm) ?_
          · refine State_bumpN_keeps (sub_trans rfl hm) h2_
      try clear_value s_4
      exact keeps_fst h_s_4

theorem reassemblyTimeout_keeps {m : Nat} {r : State} {p0} {p1 : State} (hm : 4194304 &&& m = 4194304) (h1_ : Keeps m r p1) : Keeps m r (@reassemblyTimeout p0 p1) := by
  unfold reassemblyTimeout
  extract_lets -lift -merge -underBinder keep_1 __src_2
  try clear_value keep_1
  exact keeps_mgt h1_ (sub_trans rfl hm)

theorem recorderFreeze_keeps {m : Nat} {r : State} {p0} {p1 : State} (hm : 281280532 &&& m = 281280532) (h1_ : Keeps m r p1) : Keeps m r (@recorderFreeze p0 p1) := by
  unfold recorderFreeze
  refine serveOrder_keeps (sub_trans rfl hm) ?_ h1_
  · intro a_1 h_2
    extract_lets -lift -merge -underBinder s_3
    have h_s_3 : Keeps m r s_3 := by
      unfold s_3
      refine freeze_keeps (sub_trans rfl hm) h_2
    try clear_value s_3
    exact keeps_fst h_s_3

theorem recorderRead_keeps {m : Nat} {r : State} {p0} {p1} {p2} {p3 : State} (hm : 281280532 &&& m = 281280532) (h3_ : Keeps m r p3) : Keeps m r (@recorderRead p0 p1 p2 p3) := by
  unfold recorderRead
  refine serveOrder_keeps (sub_trans rfl hm) ?_ h3_
  · intro a_1 h_2
    refine readRecorder_keeps (sub_trans rfl hm) h_2

theorem recorderRelease_keeps {m : Nat} {r : State} {p0} {p1 : State} (hm : 281280532 &&& m = 281280532) (h1_ : Keeps m r p1) : Keeps m r (@recorderRelease p0 p1) := by
  unfold recorderRelease
  refine serveOrder_keeps (sub_trans rfl hm) ?_ h1_
  · intro a_1 h_2
    refine okay_keeps (sub_trans rfl hm) ?_
    · refine keeps_ite ?_ ?_
      · refine releaseFreeze_keeps (sub_trans rfl hm) h_2
      · exact h_2

theorem reservedMessageCode_keeps {m : Nat} {r : State} {p0} {p1} {p2 : State} (hm : 281280532 &&& m = 281280532) (h2_ : Keeps m r p2) : Keeps m r (@reservedMessageCode p0 p1 p2) := by
  unfold reservedMessageCode
  refine serveOrder_keeps (sub_trans rfl hm) ?_ h2_
  · intro a_1 h_2
    refine okay_keeps (sub_trans rfl hm) h_2

theorem sessionClose_keeps {m : Nat} {r : State} {p0} {p1 : State} (hm : 281280532 &&& m = 281280532) (h1_ : Keeps m r p1) : Keeps m r (@sessionClose p0 p1) := by
  unfold sessionClose
  refine serveOrder_keeps (sub_trans rfl hm) ?_ h1_
  · intro a_1 h_2
    refine okay_keeps (sub_trans rfl hm) ?_
    · refine endSession_keeps (sub_trans rfl hm) h_2

theorem sessionLeaseExpire_keeps {m : Nat} {r : State} {p0 : State} (hm : 12582916 &&& m = 12582916) (h0_ : Keeps m r p0) : Keeps m r (@sessionLeaseExpire p0) := by
  unfold sessionLeaseExpire
  split
  · exact h0_
  · refine keeps_ite ?_ ?_
    · refine endSession_keeps (sub_trans rfl hm) h0_
    · exact h0_

theorem sessionOpen_keeps {m : Nat} {r : State} {p0} {p1} {p2 : State} (hm : 281280564 &&& m = 281280564) (h2_ : Keeps m r p2) : Keeps m r (@sessionOpen p0 p1 p2) := by
  unfold sessionOpen
  refine serveOrder_keeps (sub_trans rfl hm) ?_ h2_
  · intro a_1 h_2
    refine openAnswer_keeps (sub_trans rfl hm) h_2

theorem setTrace_keeps {m : Nat} {r : State} {p0 : State} {p1} {p2} {p3} (hm : 4 &&& m = 4) (h0_ : Keeps m r p0) : Keeps m r (@setTrace p0 p1 p2 p3) := by
  unfold setTrace
  extract_lets -lift -merge -underBinder f_1
  try clear_value f_1
  refine State_wr_keeps (sub_trans rfl hm) h0_

theorem swatchResult_keeps {m : Nat} {r : State} {p0} {p1} {p2 : State} (hm : 281280564 &&& m = 281280564) (h2_ : Keeps m r p2) : Keeps m r (@swatchResult p0 p1 p2) := by
  unfold swatchResult
  refine serveOrder_keeps (sub_trans rfl hm) ?_ h2_
  · intro a_1 h_2
    split
    · exact keeps_fst h_2
    · refine keeps_fst ?_
      · refine State_drawFree_keeps (sub_trans rfl hm) h_2

theorem swatchRun_keeps {m : Nat} {r : State} {p0} {p1} {p2 : State} (hm : 348929052 &&& m = 348929052) (h2_ : Keeps m r p2) : Keeps m r (@swatchRun p0 p1 p2) := by
  unfold swatchRun
  refine serveOrder_keeps (sub_trans rfl hm) ?_ h2_
  · intro a_1 h_2
    split
    · refine retryIn_keeps (sub_trans rfl hm) h_2
    · refine okay_keeps (sub_trans rfl hm) ?_
      · refine orderSwatch_keeps (sub_trans rfl hm) h_2

theorem telemetryRead_keeps {m : Nat} {r : State} {p0} {p1} {p2} {p3 : State} (hm : 281280532 &&& m = 281280532) (h3_ : Keeps m r p3) : Keeps m r (@telemetryRead p0 p1 p2 p3) := by
  unfold telemetryRead
  refine serveOrder_keeps (sub_trans rfl hm) ?_ h3_
  · intro a_1 h_2
    exact keeps_fst h_2

theorem traceSet_keeps {m : Nat} {r : State} {p0} {p1} {p2} {p3} {p4 : State} (hm : 281280532 &&& m = 281280532) (h4_ : Keeps m r p4) : Keeps m r (@traceSet p0 p1 p2 p3 p4) := by
  unfold traceSet
  refine serveOrder_keeps (sub_trans rfl hm) ?_ h4_
  · intro a_1 h_2
    refine okay_keeps (sub_trans rfl hm) ?_
    · refine setTrace_keeps (sub_trans rfl hm) h_2

/-! ## Monitor -/

theorem monSelWrite_keeps {m : Nat} {r : State} {p0} {p1} {p2} {p3} {p4 : State} (hm : 20 &&& m = 20) (h4_ : Keeps m r p4) : Keeps m r (@monSelWrite p0 p1 p2 p3 p4) := by
  unfold monSelWrite
  refine State_hostGate_keeps (sub_trans rfl hm) h4_ ?_
  · intro a_1 h_2
    refine keeps_ite ?_ ?_
    · refine State_answer_keeps (sub_trans rfl hm) h_2
    · refine State_answer_keeps (sub_trans rfl hm) ?_
      · refine State_wr_keeps (sub_trans rfl hm) ?_
        · refine State_wr_keeps (sub_trans rfl hm) ?_
          · refine State_wr_keeps (sub_trans rfl hm) h_2

theorem setReading_keeps {m : Nat} {r : State} {p0 : State} {p1} {p2} {p3} {p4} (hm : 131072 &&& m = 131072) (h0_ : Keeps m r p0) : Keeps m r (@setReading p0 p1 p2 p3 p4) := by
  unfold setReading
  exact keeps_mon h0_ (sub_trans rfl hm)

theorem droopAlarm_keeps {m : Nat} {r : State} {p0} {p1} {p2} {p3 : State} (hm : 12976148 &&& m = 12976148) (h3_ : Keeps m r p3) : Keeps m r (@droopAlarm p0 p1 p2 p3) := by
  unfold droopAlarm
  refine keeps_ite ?_ ?_
  · exact h3_
  · extract_lets -lift -merge -underBinder s_1 s_2
    have h_s_1 : Keeps m r s_1 := by
      unfold s_1
      refine State_bumpN_keeps (sub_trans rfl hm) h3_
    try clear_value s_1
    have h_s_2 : Keeps m r s_2 := by
      unfold s_2
      refine setReading_keeps (sub_trans rfl hm) h_s_1
    try clear_value s_2
    refine keeps_ite ?_ ?_
    · exact h_s_2
    · refine State_err_keeps (sub_trans rfl hm) ?_
      · refine State_wr_keeps (sub_trans rfl hm) h_s_2

theorem rcTrim_keeps {m : Nat} {r : State} {p0} {p1} {p2} {p3 : State} (hm : 131108 &&& m = 131108) (h3_ : Keeps m r p3) : Keeps m r (@rcTrim p0 p1 p2 p3) := by
  unfold rcTrim
  extract_lets -lift -merge -underBinder band_1 s_2 __src_3 s_4
  try clear_value band_1
  have h_s_2 : Keeps m r s_2 := by
    unfold s_2
    refine State_wr_keeps (sub_trans rfl hm) ?_
    · refine State_wr_keeps (sub_trans rfl hm) ?_
      · refine State_wr_keeps (sub_trans rfl hm) h3_
  try clear_value s_2
  have h_s_4 : Keeps m r s_4 := by
    unfold s_4
    exact keeps_mon h_s_2 (sub_trans rfl hm)
  try clear_value s_4
  refine keeps_ite ?_ ?_
  · exact h_s_2
  · refine State_drawFree_keeps (sub_trans rfl hm) ?_
    · refine State_wr_keeps (sub_trans rfl hm) ?_
      · refine State_wr_keeps (sub_trans rfl hm) h_s_4

theorem ringOscMeasure_keeps {m : Nat} {r : State} {p0} {p1} {p2} {p3 : State} (hm : 281411604 &&& m = 281411604) (h3_ : Keeps m r p3) : Keeps m r (@ringOscMeasure p0 p1 p2 p3) := by
  unfold ringOscMeasure
  refine keeps_ite ?_ ?_
  · exact h3_
  · split
    · extract_lets -lift -merge -underBinder __src_1 __src_2 s_3
      have h_s_3 : Keeps m r s_3 := by
        unfold s_3
        exact keeps_flash h3_ (sub_trans rfl hm)
      try clear_value s_3
      refine setReading_keeps (sub_trans rfl hm) h_s_3
    · extract_lets -lift -merge -underBinder d_4 s_5 s_6
      try clear_value d_4
      have h_s_5 : Keeps m r s_5 := by
        unfold s_5
        refine setReading_keeps (sub_trans rfl hm) h3_
      try clear_value s_5
      have h_s_6 : Keeps m r s_6 := by
        unfold s_6
        refine State_err_keeps (sub_trans rfl hm) ?_
        · refine State_wr_keeps (sub_trans rfl hm) h_s_5
      try clear_value s_6
      refine keeps_ite ?_ ?_
      · exact h_s_5
      · refine keeps_ite ?_ ?_
        · refine setLevel_keeps (sub_trans rfl hm) h_s_6
        · exact h_s_6

theorem voltAlarm_keeps {m : Nat} {r : State} {p0} {p1} {p2} {p3 : State} (hm : 12976148 &&& m = 12976148) (h3_ : Keeps m r p3) : Keeps m r (@voltAlarm p0 p1 p2 p3) := by
  unfold voltAlarm
  refine keeps_ite ?_ ?_
  · exact h3_
  · extract_lets -lift -merge -underBinder s_1 v_2 k_3 out_4 __src_5 t_6 __src_7 s_8 __src_9 s_10
    try clear_value v_2
    try clear_value k_3
    try clear_value out_4
    try clear_value t_6
    have h_s_1 : Keeps m r s_1 := by
      unfold s_1
      refine setReading_keeps (sub_trans rfl hm) h3_
    try clear_value s_1
    have h_s_8 : Keeps m r s_8 := by
      unfold s_8
      exact keeps_mon h_s_1 (sub_trans rfl hm)
    try clear_value s_8
    have h_s_10 : Keeps m r s_10 := by
      unfold s_10
      exact keeps_mon h_s_8 (sub_trans rfl hm)
    try clear_value s_10
    refine keeps_ite ?_ ?_
    · exact keeps_mon h_s_1 (sub_trans rfl hm)
    · refine keeps_ite ?_ ?_
      · exact h_s_8
      · refine State_err_keeps (sub_trans rfl hm) ?_
        · refine State_wr_keeps (sub_trans rfl hm) h_s_10

/-! ## Update -/

theorem goVerify_keeps {m : Nat} {r : State} {p0 : State} (hm : 1048580 &&& m = 1048580) (h0_ : Keeps m r p0) : Keeps m r (@goVerify p0) := by
  unfold goVerify
  extract_lets -lift -merge -underBinder s_1 s_2 s_3 s_4
  have h_s_1 : Keeps m r s_1 := by
    unfold s_1
    refine State_wr_keeps (sub_trans rfl hm) ?_
    · refine State_wr_keeps (sub_trans rfl hm) h0_
  try clear_value s_1
  have h_s_2 : Keeps m r s_2 := by
    unfold s_2
    refine keeps_foldl h_s_1 ?_
    · intro t_5 x_6 h_7
      refine keeps_ite ?_ ?_
      · exact h_7
      · refine State_modProc_keeps (sub_trans rfl hm) ?_
        · refine State_wr_keeps (sub_trans rfl hm) h_7
  try clear_value s_2
  have h_s_3 : Keeps m r s_3 := by
    unfold s_3
    refine State_wr_keeps (sub_trans rfl hm) ?_
    · refine State_wr_keeps (sub_trans rfl hm) h_s_2
  try clear_value s_3
  have h_s_4 : Keeps m r s_4 := by
    unfold s_4
    refine keeps_foldl h_s_3 ?_
    · intro t_8 x_9 h_10
      refine State_wr_keeps (sub_trans rfl hm) h_10
  try clear_value s_4
  refine State_wr_keeps (sub_trans rfl hm) ?_
  · refine State_wr_keeps (sub_trans rfl hm) ?_
    · refine State_wr_keeps (sub_trans rfl hm) h_s_4

theorem fullRestart_keeps {m : Nat} {r : State} {p0 : State} (hm : 368852956 &&& m = 368852956) (h0_ : Keeps m r p0) : Keeps m r (@fullRestart p0) := by
  unfold fullRestart
  extract_lets -lift -merge -underBinder held_1 s_2 __src_3 __src_4 __src_5 __src_6 s_7
  try clear_value held_1
  have h_s_2 : Keeps m r s_2 := by
    unfold s_2
    refine keeps_foldl ?_ ?_
    · refine closeRuns_keeps (sub_trans rfl hm) h0_
    · intro t_8 x_9 h_10
      refine keeps_ite ?_ ?_
      · refine resetDie_keeps (sub_trans rfl hm) h_10
      · exact h_10
  try clear_value s_2
  have h_s_7 : Keeps m r s_7 := by
    unfold s_7
    exact keeps_mk (b := 17310784) h_s_2 (sub_trans rfl hm) (by intro p hp; cases p <;> first | rfl | cases hp) rfl rfl rfl rfl rfl rfl rfl
  try clear_value s_7
  refine startSvn_keeps (sub_trans rfl hm) ?_
  · refine goVerify_keeps (sub_trans rfl hm) ?_
    · refine State_wr_keeps (sub_trans rfl hm) h_s_7

theorem activateHub_keeps {m : Nat} {r : State} {p0 : State} {p1} (hm : 469762052 &&& m = 469762052) (h0_ : Keeps m r p0) : Keeps m r (@activateHub p0 p1) := by
  unfold activateHub
  refine State_wr_keeps (sub_trans rfl hm) ?_
  · refine startSvn_keeps (sub_trans rfl hm) ?_
    · refine measure_keeps (sub_trans rfl hm) ?_
      · refine verifiedImage_keeps (sub_trans rfl hm) h0_

theorem activateCode_keeps {m : Nat} {r : State} {p0 : State} {p1} (hm : 481296404 &&& m = 481296404) (h0_ : Keeps m r p0) : Keeps m r (@activateCode p0 p1) := by
  unfold activateCode
  extract_lets -lift -merge -underBinder s_1 s_2 s_3 __src_4 s_5 s_6
  have h_s_1 : Keeps m r s_1 := by
    unfold s_1
    refine measure_keeps (sub_trans rfl hm) ?_
    · refine verifiedImage_keeps (sub_trans rfl hm) ?_
      · refine closeRuns_keeps (sub_trans rfl hm) h0_
  try clear_value s_1
  have h_s_2 : Keeps m r s_2 := by
    unfold s_2
    refine keeps_foldl h_s_1 ?_
    · intro t_7 x_8 h_9
      refine measure_keeps (sub_trans rfl hm) h_9
  try clear_value s_2
  have h_s_3 : Keeps m r s_3 := by
    unfold s_3
    refine startSvn_keeps (sub_trans rfl hm) ?_
    · refine settingsVersion_keeps (sub_trans rfl hm) h_s_2
  try clear_value s_3
  have h_s_5 : Keeps m r s_5 := by
    unfold s_5
    refine showFeatures_keeps (sub_trans rfl hm) ?_
    · exact keeps_upd h_s_3 (sub_trans rfl hm)
  try clear_value s_5
  have h_s_6 : Keeps m r s_6 := by
    unfold s_6
    refine State_wr_keeps (sub_trans rfl hm) h_s_5
  try clear_value s_6
  refine keeps_foldl h_s_6 ?_
  · intro t_10 x_11 h_12
    refine keeps_ite ?_ ?_
    · exact h_12
    · refine beginRestart_keeps (sub_trans rfl hm) h_12

theorem restartFor_keeps {m : Nat} {r : State} {p0 : State} {p1} {p2} (hm : 503070684 &&& m = 503070684) (h0_ : Keeps m r p0) : Keeps m r (@restartFor p0 p1 p2) := by
  unfold restartFor
  extract_lets -lift -merge -underBinder s_1 __src_2 s_3 s_4 __src_5 __src_6 s_7 s_8
  have h_s_1 : Keeps m r s_1 := by
    unfold s_1
    refine State_bump_keeps (sub_trans rfl hm) h0_
  try clear_value s_1
  have h_s_3 : Keeps m r s_3 := by
    unfold s_3
    exact keeps_upd h_s_1 (sub_trans rfl hm)
  try clear_value s_3
  have h_s_4 : Keeps m r s_4 := by
    unfold s_4
    refine keeps_ite ?_ ?_
    · refine activateHub_keeps (sub_trans rfl hm) h_s_3
    · exact h_s_3
  try clear_value s_4
  have h_s_7 : Keeps m r s_7 := by
    unfold s_7
    refine keeps_ite ?_ ?_
    · exact keeps_upd h_s_4 (sub_trans rfl hm)
    · refine State_event_keeps (sub_trans rfl hm) ?_
      · exact keeps_upd h_s_4 (sub_trans rfl hm)
  try clear_value s_7
  have h_s_8 : Keeps m r s_8 := by
    unfold s_8
    refine keeps_ite ?_ ?_
    · refine activateCode_keeps (sub_trans rfl hm) h_s_7
    · exact h_s_7
  try clear_value s_8
  refine keeps_ite ?_ ?_
  · refine fullRestart_keeps (sub_trans rfl hm) h_s_3
  · refine keeps_ite ?_ ?_
    · refine goVerify_keeps (sub_trans rfl hm) h_s_3
    · refine keeps_ite ?_ ?_
      · refine nextActivation_keeps (sub_trans rfl hm) h_s_8
      · exact h_s_8

theorem activate_keeps {m : Nat} {r : State} {p0} {p1} {p2 : State} (hm : 503070684 &&& m = 503070684) (h2_ : Keeps m r p2) : Keeps m r (@activate p0 p1 p2).1 := by
  unfold activate
  refine keeps_ite1 ?_ ?_
  · refine retryIn_keeps (sub_trans rfl hm) h2_
  · refine keeps_ite1 ?_ ?_
    · refine refuse_keeps (sub_trans rfl hm) h2_
    · split
      · refine keeps_fst ?_
        · refine verifyFailed_keeps (sub_trans rfl hm) h2_
      · refine okay_keeps (sub_trans rfl hm) ?_
        · refine restartFor_keeps (sub_trans rfl hm) h2_

theorem activateOrder_keeps {m : Nat} {r : State} {p0} {p1} {p2} {p3 : State} (hm : 503070684 &&& m = 503070684) (h3_ : Keeps m r p3) : Keeps m r (@activateOrder p0 p1 p2 p3) := by
  unfold activateOrder
  refine serveOrder_keeps (sub_trans rfl hm) ?_ h3_
  · intro a_1 h_2
    refine activate_keeps (sub_trans rfl hm) h_2

theorem activateFullRestart_keeps {m : Nat} {r : State} {p0} {p1} {p2 : State} (hm : 503070684 &&& m = 503070684) (h2_ : Keeps m r p2) : Keeps m r (@activateFullRestart p0 p1 p2) := by
  unfold activateFullRestart
  refine activateOrder_keeps (sub_trans rfl hm) h2_

theorem activateHubctl_keeps {m : Nat} {r : State} {p0} {p1} {p2} {p3 : State} (hm : 503070684 &&& m = 503070684) (h3_ : Keeps m r p3) : Keeps m r (@activateHubctl p0 p1 p2 p3) := by
  unfold activateHubctl
  refine activateOrder_keeps (sub_trans rfl hm) h3_

theorem activateWarden_keeps {m : Nat} {r : State} {p0} {p1} {p2} {p3 : State} (hm : 503070684 &&& m = 503070684) (h3_ : Keeps m r p3) : Keeps m r (@activateWarden p0 p1 p2 p3) := by
  unfold activateWarden
  refine activateOrder_keeps (sub_trans rfl hm) h3_

theorem hearXfer_keeps {m : Nat} {r : State} {p0 : State} (hm : 67108864 &&& m = 67108864) (h0_ : Keeps m r p0) : Keeps m r (@hearXfer p0) := by
  unfold hearXfer
  exact keeps_upd h0_ (sub_trans rfl hm)

theorem regionWritten_keeps {m : Nat} {r : State} {p0 : State} {p1} {p2} (hm : 335544324 &&& m = 335544324) (h0_ : Keeps m r p0) : Keeps m r (@regionWritten p0 p1 p2) := by
  unfold regionWritten
  extract_lets -lift -merge -underBinder __src_1 __src_2 s_3
  have h_s_3 : Keeps m r s_3 := by
    unfold s_3
    exact keeps_mk (b := 335544320) h0_ (sub_trans rfl hm) (by intro p hp; cases p <;> first | rfl | cases hp) rfl rfl rfl rfl rfl rfl rfl
  try clear_value s_3
  refine setRegion_keeps (sub_trans rfl hm) h_s_3

theorem endBlocks_keeps {m : Nat} {r : State} {p0} {p1 : State} (hm : 343932932 &&& m = 343932932) (h1_ : Keeps m r p1) : Keeps m r (@endBlocks p0 p1).1 := by
  unfold endBlocks
  split
  · refine refuse_keeps (sub_trans rfl hm) h1_
  · extract_lets -lift -merge -underBinder s_1
    have h_s_1 : Keeps m r s_1 := by
      unfold s_1
      refine hearXfer_keeps (sub_trans rfl hm) h1_
    try clear_value s_1
    refine keeps_ite1 ?_ ?_
    · exact keeps_fst h_s_1
    · refine okay_keeps (sub_trans rfl hm) ?_
      · refine State_event_keeps (sub_trans rfl hm) ?_
        · refine clearXfer_keeps (sub_trans rfl hm) ?_
          · refine regionWritten_keeps (sub_trans rfl hm) h_s_1

theorem finishPushes_keeps {m : Nat} {r : State} {p0 : State} (hm : 343932932 &&& m = 343932932) (h0_ : Keeps m r p0) : Keeps m r (@finishPushes p0) := by
  unfold finishPushes
  extract_lets -lift -merge -underBinder refused_1 took_2 s_3 s_4
  try clear_value refused_1
  try clear_value took_2
  have h_s_3 : Keeps m r s_3 := by
    unfold s_3
    split
    · refine keeps_ite ?_ ?_
      · exact h0_
      · exact keeps_flash h0_ (sub_trans rfl hm)
    · exact h0_
  try clear_value s_3
  have h_s_4 : Keeps m r s_4 := by
    unfold s_4
    refine keeps_ite ?_ ?_
    · refine startSvn_keeps (sub_trans rfl hm) h_s_3
    · exact h_s_3
  try clear_value s_4
  refine State_event_keeps (sub_trans rfl hm) h_s_4

theorem nextPush_keeps {m : Nat} {r : State} {p0 : State} {p1} (hm : 343941140 &&& m = 343941140) (h0_ : Keeps m r p0) : Keeps m r (@nextPush p0 p1) := by
  unfold nextPush
  extract_lets -lift -merge -underBinder rest_1 s_2
  try clear_value rest_1
  have h_s_2 : Keeps m r s_2 := by
    unfold s_2
    split
    · extract_lets -lift -merge -underBinder begin__3 __src_4
      try clear_value begin__3
      refine State_emit_keeps (sub_trans rfl hm) ?_
      · exact keeps_upd h0_ (sub_trans rfl hm)
    · refine schedulePerst_keeps (sub_trans rfl hm) h0_
  try clear_value s_2
  refine keeps_ite ?_ ?_
  · refine finishPushes_keeps (sub_trans rfl hm) h_s_2
  · exact h_s_2

theorem endPush_keeps {m : Nat} {r : State} {p0 : State} {p1} {p2} (hm : 348397588 &&& m = 348397588) (h0_ : Keeps m r p0) : Keeps m r (@endPush p0 p1 p2) := by
  unfold endPush
  extract_lets -lift -merge -underBinder rest_1 __src_2 s_3 __src_4 __src_5 s_6 s_7
  try clear_value rest_1
  have h_s_3 : Keeps m r s_3 := by
    unfold s_3
    refine State_wr_keeps (sub_trans rfl hm) ?_
    · exact keeps_upd h0_ (sub_trans rfl hm)
  try clear_value s_3
  have h_s_6 : Keeps m r s_6 := by
    unfold s_6
    exact keeps_upd h_s_3 (sub_trans rfl hm)
  try clear_value s_6
  have h_s_7 : Keeps m r s_7 := by
    unfold s_7
    refine keeps_ite ?_ ?_
    · exact keeps_upd h_s_3 (sub_trans rfl hm)
    · refine State_err_keeps (sub_trans rfl hm) ?_
      · refine State_bump_keeps (sub_trans rfl hm) h_s_6
  try clear_value s_7
  refine nextPush_keeps (sub_trans rfl hm) h_s_7

theorem gotPart_keeps {m : Nat} {r : State} {p0 : State} {p1} {p2} (hm : 67108868 &&& m = 67108868) (h0_ : Keeps m r p0) : Keeps m r (@gotPart p0 p1 p2) := by
  unfold gotPart
  extract_lets -lift -merge -underBinder __src_1 s_2
  have h_s_2 : Keeps m r s_2 := by
    unfold s_2
    exact keeps_upd h0_ (sub_trans rfl hm)
  try clear_value s_2
  refine State_wr_keeps (sub_trans rfl hm) h_s_2

theorem orderErase_keeps {m : Nat} {r : State} {p0 : State} {p1} (hm : 268435460 &&& m = 268435460) (h0_ : Keeps m r p0) : Keeps m r (@orderErase p0 p1) := by
  unfold orderErase
  extract_lets -lift -merge -underBinder __src_1 s_2
  have h_s_2 : Keeps m r s_2 := by
    unfold s_2
    exact keeps_flash h0_ (sub_trans rfl hm)
  try clear_value s_2
  refine State_wr_keeps (sub_trans rfl hm) ?_
  · refine setRegion_keeps (sub_trans rfl hm) h_s_2

theorem openXfer_keeps {m : Nat} {r : State} {p0 : State} {p1} {p2} {p3} (hm : 67108868 &&& m = 67108868) (h0_ : Keeps m r p0) : Keeps m r (@openXfer p0 p1 p2 p3) := by
  unfold openXfer
  extract_lets -lift -merge -underBinder __src_1 s_2
  have h_s_2 : Keeps m r s_2 := by
    unfold s_2
    exact keeps_upd h0_ (sub_trans rfl hm)
  try clear_value s_2
  refine State_wr_keeps (sub_trans rfl hm) ?_
  · refine State_wr_keeps (sub_trans rfl hm) ?_
    · refine State_wr_keeps (sub_trans rfl hm) h_s_2

theorem openTrickle_keeps {m : Nat} {r : State} {p0 : State} {p1} (hm : 335544324 &&& m = 335544324) (h0_ : Keeps m r p0) : Keeps m r (@openTrickle p0 p1) := by
  unfold openTrickle
  extract_lets -lift -merge -underBinder __src_1 s_2
  have h_s_2 : Keeps m r s_2 := by
    unfold s_2
    refine orderErase_keeps (sub_trans rfl hm) ?_
    · exact keeps_flash h0_ (sub_trans rfl hm)
  try clear_value s_2
  refine openXfer_keeps (sub_trans rfl hm) h_s_2

theorem saveBitmap_keeps {m : Nat} {r : State} {p0 : State} {p1} (hm : 268435456 &&& m = 268435456) (h0_ : Keeps m r p0) : Keeps m r (@saveBitmap p0 p1) := by
  unfold saveBitmap
  exact keeps_flash h0_ (sub_trans rfl hm)

theorem pauseTrickle_keeps {m : Nat} {r : State} {p0 : State} (hm : 335544324 &&& m = 335544324) (h0_ : Keeps m r p0) : Keeps m r (@pauseTrickle p0) := by
  unfold pauseTrickle
  split
  · exact h0_
  · refine State_wr_keeps (sub_trans rfl hm) ?_
    · refine saveBitmap_keeps (sub_trans rfl hm) ?_
      · exact keeps_upd h0_ (sub_trans rfl hm)

theorem pullTrickle_keeps {m : Nat} {r : State} {p0 : State} (hm : 67108868 &&& m = 67108868) (h0_ : Keeps m r p0) : Keeps m r (@pullTrickle p0) := by
  unfold pullTrickle
  split
  · exact h0_
  · refine State_wr_keeps (sub_trans rfl hm) ?_
    · exact keeps_upd h0_ (sub_trans rfl hm)

theorem pushChunkStatus_keeps {m : Nat} {r : State} {p0} {p1} {p2 : State} (hm : 348397588 &&& m = 348397588) (h2_ : Keeps m r p2) : Keeps m r (@pushChunkStatus p0 p1 p2) := by
  unfold pushChunkStatus
  split
  · exact h2_
  · extract_lets -lift -merge -underBinder last_1 set_2
    try clear_value last_1
    have h_set_2 : ∀ a_3, Keeps m r (set_2 a_3) := by
      intro a_3
      unfold set_2
      exact keeps_upd h2_ (sub_trans rfl hm)
    try clear_value set_2
    refine keeps_ite ?_ ?_
    · refine endPush_keeps (sub_trans rfl hm) h2_
    · refine keeps_ite ?_ ?_
      · refine keeps_ite ?_ ?_
        · refine endPush_keeps (sub_trans rfl hm) h2_
        · exact h2_
      · refine keeps_ite ?_ ?_
        · refine h_set_2 _
        · refine keeps_ite ?_ ?_
          · refine State_emit_keeps (sub_trans rfl hm) ?_
            · refine h_set_2 _
          · refine h_set_2 _

theorem pushTimeout_keeps {m : Nat} {r : State} {p0} {p1 : State} (hm : 348397588 &&& m = 348397588) (h1_ : Keeps m r p1) : Keeps m r (@pushTimeout p0 p1) := by
  unfold pushTimeout
  split
  · exact h1_
  · refine keeps_ite ?_ ?_
    · exact h1_
    · refine endPush_keeps (sub_trans rfl hm) h1_

theorem regionEraseComplete_keeps {m : Nat} {r : State} {p0 : State} (hm : 4 &&& m = 4) (h0_ : Keeps m r p0) : Keeps m r (@regionEraseComplete p0) := by
  unfold regionEraseComplete
  refine State_wr_keeps (sub_trans rfl hm) h0_

theorem writeCustody_keeps {m : Nat} {r : State} {p0 : State} {p1} {p2} (hm : 2052 &&& m = 2052) (h0_ : Keeps m r p0) : Keeps m r (@writeCustody p0 p1 p2) := by
  unfold writeCustody
  refine writeSpan_keeps (sub_trans rfl hm) h0_

theorem setCustody_keeps {m : Nat} {r : State} {p0 : State} {p1} {p2} (hm : 67110916 &&& m = 67110916) (h0_ : Keeps m r p0) : Keeps m r (@setCustody p0 p1 p2).1 := by
  unfold setCustody
  refine keeps_ite1 ?_ ?_
  · refine retryIn_keeps (sub_trans rfl hm) h0_
  · refine okay_keeps (sub_trans rfl hm) ?_
    · refine writeCustody_keeps (sub_trans rfl hm) ?_
      · exact keeps_upd h0_ (sub_trans rfl hm)

theorem settingsCompact_keeps {m : Nat} {r : State} {p0 : State} (hm : 268435456 &&& m = 268435456) (h0_ : Keeps m r p0) : Keeps m r (@settingsCompact p0) := by
  unfold settingsCompact
  refine keeps_ite ?_ ?_
  · exact keeps_flash h0_ (sub_trans rfl hm)
  · exact h0_

theorem skein_keeps {m : Nat} {r : State} {p0} {p1} {p2} {p3 : State} (hm : 281280532 &&& m = 281280532) (h2_ : ∀ q0, Keeps m r q0 → Keeps m r (p2 q0).1) (h3_ : Keeps m r p3) : Keeps m r (@skein p0 p1 p2 p3) := by
  unfold skein
  refine serveOrder_keeps (sub_trans rfl hm) h2_ h3_

theorem skeinLoad_keeps {m : Nat} {r : State} {p0} {p1} {p2} {p3 : State} (hm : 348391444 &&& m = 348391444) (h3_ : Keeps m r p3) : Keeps m r (@skeinLoad p0 p1 p2 p3) := by
  unfold skeinLoad
  refine skein_keeps (sub_trans rfl hm) ?_ h3_
  · intro a_1 h_2
    split
    · refine refuse_keeps (sub_trans rfl hm) h_2
    · extract_lets -lift -merge -underBinder n_3 s_4 __src_5
      try clear_value n_3
      have h_s_4 : Keeps m r s_4 := by
        unfold s_4
        refine writeCustody_keeps (sub_trans rfl hm) h_2
      try clear_value s_4
      refine keeps_ite1 ?_ ?_
      · refine refuse_keeps (sub_trans rfl hm) h_2
      · refine keeps_ite1 ?_ ?_
        · refine retryIn_keeps (sub_trans rfl hm) h_2
        · refine okay_keeps (sub_trans rfl hm) ?_
          · exact keeps_upd h_s_4 (sub_trans rfl hm)

theorem skeinOpen_keeps {m : Nat} {r : State} {p0} {p1} {p2 : State} (hm : 348391444 &&& m = 348391444) (h2_ : Keeps m r p2) : Keeps m r (@skeinOpen p0 p1 p2) := by
  unfold skeinOpen
  refine skein_keeps (sub_trans rfl hm) ?_ h2_
  · intro a_1 h_2
    refine setCustody_keeps (sub_trans rfl hm) h_2

theorem skeinPublish_keeps {m : Nat} {r : State} {p0} {p1 : State} (hm : 348391444 &&& m = 348391444) (h1_ : Keeps m r p1) : Keeps m r (@skeinPublish p0 p1) := by
  unfold skeinPublish
  refine skein_keeps (sub_trans rfl hm) ?_ h1_
  · intro a_1 h_2
    split
    · refine refuse_keeps (sub_trans rfl hm) h_2
    · refine keeps_ite1 ?_ ?_
      · refine setCustody_keeps (sub_trans rfl hm) h_2
      · refine refuse_keeps (sub_trans rfl hm) h_2

theorem trickleComplete_keeps {m : Nat} {r : State} {p0 : State} {p1} {p2} (hm : 343932932 &&& m = 343932932) (h0_ : Keeps m r p0) : Keeps m r (@trickleComplete p0 p1 p2) := by
  unfold trickleComplete
  extract_lets -lift -merge -underBinder id_1 s_2 __src_3
  try clear_value id_1
  have h_s_2 : Keeps m r s_2 := by
    unfold s_2
    refine clearXfer_keeps (sub_trans rfl hm) ?_
    · refine regionWritten_keeps (sub_trans rfl hm) h0_
  try clear_value s_2
  refine State_event_keeps (sub_trans rfl hm) ?_
  · exact keeps_flash h_s_2 (sub_trans rfl hm)

theorem skeinReceive_keeps {m : Nat} {r : State} {p0} {p1} {p2} {p3} {p4 : State} (hm : 343932932 &&& m = 343932932) (h4_ : Keeps m r p4) : Keeps m r (@skeinReceive p0 p1 p2 p3 p4) := by
  unfold skeinReceive
  split
  · exact h4_
  · refine keeps_ite ?_ ?_
    · exact h4_
    · refine keeps_ite ?_ ?_
      · refine pauseTrickle_keeps (sub_trans rfl hm) h4_
      · refine keeps_ite ?_ ?_
        · extract_lets -lift -merge -underBinder s_1
          have h_s_1 : Keeps m r s_1 := by
            unfold s_1
            refine orderErase_keeps (sub_trans rfl hm) ?_
            · refine saveBitmap_keeps (sub_trans rfl hm) h4_
          try clear_value s_1
          refine openXfer_keeps (sub_trans rfl hm) h_s_1
        · refine keeps_ite ?_ ?_
          · exact h4_
          · extract_lets -lift -merge -underBinder s_2 got_3 s_4
            try clear_value got_3
            have h_s_2 : Keeps m r s_2 := by
              unfold s_2
              refine gotPart_keeps (sub_trans rfl hm) h4_
            try clear_value s_2
            have h_s_4 : Keeps m r s_4 := by
              unfold s_4
              refine keeps_ite ?_ ?_
              · refine saveBitmap_keeps (sub_trans rfl hm) h_s_2
              · exact h_s_2
            try clear_value s_4
            refine keeps_ite ?_ ?_
            · refine trickleComplete_keeps (sub_trans rfl hm) h_s_4
            · exact h_s_4

theorem skeinWithdraw_keeps {m : Nat} {r : State} {p0} {p1 : State} (hm : 348391444 &&& m = 348391444) (h1_ : Keeps m r p1) : Keeps m r (@skeinWithdraw p0 p1) := by
  unfold skeinWithdraw
  refine skein_keeps (sub_trans rfl hm) ?_ h1_
  · intro a_1 h_2
    split
    · refine refuse_keeps (sub_trans rfl hm) h_2
    · refine setCustody_keeps (sub_trans rfl hm) h_2

theorem svnAdvance_keeps {m : Nat} {r : State} {p0} {p1} {p2 : State} (hm : 616824852 &&& m = 616824852) (h2_ : Keeps m r p2) : Keeps m r (@svnAdvance p0 p1 p2) := by
  unfold svnAdvance
  split
  · exact h2_
  · extract_lets -lift -merge -underBinder v_1 __src_2 __src_3 s_4
    split
    · exact h2_
    · rename_i hn
      refine keeps_ite (State_event_keeps (sub_trans rfl hm) (State_wr_keeps (sub_trans rfl hm) ?_)) (State_err_keeps (sub_trans rfl hm) (startSvn_keeps (sub_trans rfl hm) h2_))
      unfold s_4
      refine keeps_otp (b := 603979776) h2_ (sub_trans rfl hm) (by intro p hp; cases p <;> first | rfl | cases hp) ⟨bitsIn_refl _, bitsIn_refl _, bitsIn_refl _, fun _ => bitsIn_refl _, ?_⟩ rfl rfl rfl rfl rfl
      exact le_tput _ _ _ (by omega)

theorem takeBlock_keeps {m : Nat} {r : State} {p0} {p1} {p2} {p3 : State} (hm : 67108900 &&& m = 67108900) (h3_ : Keeps m r p3) : Keeps m r (@takeBlock p0 p1 p2 p3).1 := by
  unfold takeBlock
  split
  · refine refuse_keeps (sub_trans rfl hm) h3_
  · extract_lets -lift -merge -underBinder s_1 x_2
    try clear_value x_2
    have h_s_1 : Keeps m r s_1 := by
      unfold s_1
      refine hearXfer_keeps (sub_trans rfl hm) h3_
    try clear_value s_1
    refine keeps_ite1 ?_ ?_
    · refine refuse_keeps (sub_trans rfl hm) h_s_1
    · refine keeps_ite1 ?_ ?_
      · refine retryIn_keeps (sub_trans rfl hm) ?_
        · refine State_drawFree_keeps (sub_trans rfl hm) h_s_1
      · refine keeps_ite1 ?_ ?_
        · refine okay_keeps (sub_trans rfl hm) h_s_1
        · refine keeps_ite1 ?_ ?_
          · refine okay_keeps (sub_trans rfl hm) ?_
            · refine gotPart_keeps (sub_trans rfl hm) h_s_1
          · refine retryIn_keeps (sub_trans rfl hm) h_s_1

theorem takeHeader_keeps {m : Nat} {r : State} {p0 : State} {p1} (hm : 335544324 &&& m = 335544324) (h0_ : Keeps m r p0) : Keeps m r (@takeHeader p0 p1) := by
  unfold takeHeader
  extract_lets -lift -merge -underBinder mine_1 going_2
  try clear_value mine_1
  try clear_value going_2
  refine keeps_ite ?_ ?_
  · exact h0_
  · refine keeps_ite ?_ ?_
    · refine pullTrickle_keeps (sub_trans rfl hm) h0_
    · refine keeps_ite ?_ ?_
      · refine openTrickle_keeps (sub_trans rfl hm) h0_
      · exact h0_

theorem transferIdleExpire_keeps {m : Nat} {r : State} {p0 : State} (hm : 343932932 &&& m = 343932932) (h0_ : Keeps m r p0) : Keeps m r (@transferIdleExpire p0) := by
  unfold transferIdleExpire
  split
  · exact h0_
  · refine keeps_ite ?_ ?_
    · refine abandonXfer_keeps (sub_trans rfl hm) h0_
    · exact h0_

theorem tricklePoll_keeps {m : Nat} {r : State} {p0} {p1 : State} (hm : 335544324 &&& m = 335544324) (h1_ : Keeps m r p1) : Keeps m r (@tricklePoll p0 p1) := by
  unfold tricklePoll
  refine keeps_ite ?_ ?_
  · exact h1_
  · extract_lets -lift -merge -underBinder __src_1 s_2
    have h_s_2 : Keeps m r s_2 := by
      unfold s_2
      exact keeps_upd h1_ (sub_trans rfl hm)
    try clear_value s_2
    split
    · refine keeps_ite ?_ ?_
      · refine takeHeader_keeps (sub_trans rfl hm) h_s_2
      · refine pauseTrickle_keeps (sub_trans rfl hm) h_s_2
    · refine pauseTrickle_keeps (sub_trans rfl hm) h_s_2

theorem tricklePull_keeps {m : Nat} {r : State} {p0 : State} (hm : 67108880 &&& m = 67108880) (h0_ : Keeps m r p0) : Keeps m r (@tricklePull p0) := by
  unfold tricklePull
  split
  · exact h0_
  · refine keeps_ite ?_ ?_
    · exact h0_
    · refine State_emit_keeps (sub_trans rfl hm) ?_
      · exact keeps_upd h0_ (sub_trans rfl hm)

theorem updateBegin_keeps {m : Nat} {r : State} {p0} {p1} {p2} {p3} {p4 : State} (hm : 348389396 &&& m = 348389396) (h4_ : Keeps m r p4) : Keeps m r (@updateBegin p0 p1 p2 p3 p4) := by
  unfold updateBegin
  refine serveOrder_keeps (sub_trans rfl hm) ?_ h4_
  · intro a_1 h_2
    refine keeps_ite1 ?_ ?_
    · refine refuse_keeps (sub_trans rfl hm) h_2
    · refine keeps_ite1 ?_ ?_
      · refine retryIn_keeps (sub_trans rfl hm) h_2
      · refine okay_keeps (sub_trans rfl hm) ?_
        · refine openXfer_keeps (sub_trans rfl hm) ?_
          · refine orderErase_keeps (sub_trans rfl hm) ?_
            · refine abandonXfer_keeps (sub_trans rfl hm) h_2

theorem updateBlock_keeps {m : Nat} {r : State} {p0} {p1} {p2} {p3} {p4 : State} (hm : 348389428 &&& m = 348389428) (h4_ : Keeps m r p4) : Keeps m r (@updateBlock p0 p1 p2 p3 p4) := by
  unfold updateBlock
  refine serveOrder_keeps (sub_trans rfl hm) ?_ h4_
  · intro a_1 h_2
    refine takeBlock_keeps (sub_trans rfl hm) h_2

theorem updateEnd_keeps {m : Nat} {r : State} {p0} {p1} {p2 : State} (hm : 348389396 &&& m = 348389396) (h2_ : Keeps m r p2) : Keeps m r (@updateEnd p0 p1 p2) := by
  unfold updateEnd
  refine serveOrder_keeps (sub_trans rfl hm) ?_ h2_
  · intro a_1 h_2
    refine endBlocks_keeps (sub_trans rfl hm) h_2

end Sys2Proof.Laws
end

