-- ==== Sys2Proof/Laws/Keeps10.lean ====
section
/-! SUPPORT. What the operations of Security, Registers, Perform, Telemetry, Transactions, Step keep (the relation `Keeps`): of each, that it passes on the relation of the
state it is given, where the parts it writes are among those named. -/
namespace Sys2Proof.Laws
open Sys2Proof.Machine

/-! ## Security -/

theorem acceptToken_keeps {m : Nat} {r : State} {p0 : State} {p1} (hm : 276824068 &&& m = 276824068) (h0_ : Keeps m r p0) : Keeps m r (@acceptToken p0 p1) := by
  unfold acceptToken
  extract_lets -lift -merge -underBinder __src_1 s_2 source_3 s_4
  try clear_value source_3
  have h_s_2 : Keeps m r s_2 := by
    unfold s_2
    exact keeps_flash h0_ (sub_trans rfl hm)
  try clear_value s_2
  have h_s_4 : Keeps m r s_4 := by
    unfold s_4
    refine State_wr_keeps (sub_trans rfl hm) ?_
    · refine State_wr_keeps (sub_trans rfl hm) ?_
      · refine State_wr_keeps (sub_trans rfl hm) h_s_2
  try clear_value s_4
  refine State_event_keeps (sub_trans rfl hm) ?_
  · refine State_bump_keeps (sub_trans rfl hm) h_s_4

theorem releaseHalt_keeps {m : Nat} {r : State} {p0 : State} {p1} (hm : 76547076 &&& m = 76547076) (h0_ : Keeps m r p0) : Keeps m r (@releaseHalt p0 p1) := by
  unfold releaseHalt
  refine keeps_ite ?_ ?_
  · exact h0_
  · extract_lets -lift -merge -underBinder s_1 s_2
    have h_s_1 : Keeps m r s_1 := by
      unfold s_1
      refine State_modProc_keeps (sub_trans rfl hm) h0_
    try clear_value s_1
    have h_s_2 : Keeps m r s_2 := by
      unfold s_2
      refine State_wr_keeps (sub_trans rfl hm) h_s_1
    try clear_value s_2
    refine dutiesReturn_keeps (sub_trans rfl hm) ?_
    · refine State_wr_keeps (sub_trans rfl hm) h_s_2

theorem closeToken_keeps {m : Nat} {r : State} {p0 : State} {p1} (hm : 76547076 &&& m = 76547076) (h0_ : Keeps m r p0) : Keeps m r (@closeToken p0 p1) := by
  unfold closeToken
  refine keeps_ite ?_ ?_
  · exact h0_
  · extract_lets -lift -merge -underBinder s_1 s_2
    have h_s_1 : Keeps m r s_1 := by
      unfold s_1
      refine State_wr_keeps (sub_trans rfl hm) ?_
      · refine State_wr_keeps (sub_trans rfl hm) ?_
        · refine State_wr_keeps (sub_trans rfl hm) h0_
    try clear_value s_1
    have h_s_2 : Keeps m r s_2 := by
      unfold s_2
      refine State_wr_keeps (sub_trans rfl hm) ?_
      · refine keeps_foldl h_s_1 ?_
        · intro t_3 x_4 h_5
          refine releaseHalt_keeps (sub_trans rfl hm) h_5
    try clear_value s_2
    refine State_event_keeps (sub_trans rfl hm) h_s_2

theorem flushRecords_keeps {m : Nat} {r : State} {p0 : State} (hm : 276824068 &&& m = 276824068) (h0_ : Keeps m r p0) : Keeps m r (@flushRecords p0) := by
  unfold flushRecords
  refine keeps_foldl h0_ ?_
  · intro t_1 x_2 h_3
    refine caskWrite_keeps (sub_trans rfl hm) h_3

theorem transition_keeps {m : Nat} {r : State} {p0 : State} {p1} (hm : 2147483628 &&& m = 2147483628) (h0_ : Keeps m r p0) : Keeps m r (@transition p0 p1) := by
  unfold transition
  extract_lets -lift -merge -underBinder old_1 t_2 s_3 __src_4 s_5 s_6 s_7
  try clear_value old_1
  have h_s_3 : Keeps m r s_3 := by
    unfold s_3
    refine State_wr_keeps (sub_trans rfl hm) ?_
    · refine closeToken_keeps (sub_trans rfl hm) h0_
  try clear_value s_3
  have h_s_5 : Keeps m r s_5 := by
    unfold s_5
    exact keeps_otp (b := 536870912) h_s_3 (sub_trans rfl hm) (by intro p hp; cases p <;> first | rfl | cases hp) ⟨bitsIn_refl _, bitsIn_refl _, bitsIn_refl _, bitsIn_tput_or _ _ _, fun _ => Nat.le_refl _⟩ rfl rfl rfl rfl rfl
  try clear_value s_5
  have h_s_6 : Keeps m r s_6 := by
    unfold s_6
    refine State_wr_keeps (sub_trans rfl hm) ?_
    · refine State_wr_keeps (sub_trans rfl hm) h_s_5
  try clear_value s_6
  have h_s_7 : Keeps m r s_7 := by
    unfold s_7
    refine flushRecords_keeps (sub_trans rfl hm) ?_
    · refine State_event_keeps (sub_trans rfl hm) h_s_6
  try clear_value s_7
  refine keeps_ite ?_ ?_
  · exact h_s_7
  · refine deviceReset_keeps (sub_trans rfl hm) h_s_7

theorem writeBank_keeps {m : Nat} {r : State} {p0 : State} {p1} {p2} (hm : 805306368 &&& m = 805306368) (h0_ : Keeps m r p0) : Keeps m r (@writeBank p0 p1 p2) := by
  unfold writeBank
  extract_lets -lift -merge -underBinder l_1 keys_2 __src_3 __src_4 __src_5
  try clear_value l_1
  try clear_value keys_2
  refine keeps_otp (b := 805306368) h0_ (sub_trans rfl hm) (by intro p hp; cases p <;> first | rfl | cases hp) ?_ rfl rfl rfl rfl rfl
  simp only []
  split <;> exact ⟨bitsIn_refl _, bitsIn_refl _, bitsIn_refl _, fun _ => bitsIn_refl _, fun _ => Nat.le_refl _⟩

theorem takeConsent_keeps {m : Nat} {r : State} {p0 : State} {p1} (hm : 134217732 &&& m = 134217732) (h0_ : Keeps m r p0) : Keeps m r (@takeConsent p0 p1) := by
  unfold takeConsent
  extract_lets -lift -merge -underBinder __src_1 s_2
  have h_s_2 : Keeps m r s_2 := by
    unfold s_2
    exact keeps_sec h0_ (sub_trans rfl hm)
  try clear_value s_2
  refine State_wr_keeps (sub_trans rfl hm) ?_
  · refine State_wr_keeps (sub_trans rfl hm) ?_
    · refine State_wr_keeps (sub_trans rfl hm) h_s_2

theorem dropConsent_keeps {m : Nat} {r : State} {p0 : State} (hm : 134217732 &&& m = 134217732) (h0_ : Keeps m r p0) : Keeps m r (@dropConsent p0) := by
  unfold dropConsent
  extract_lets -lift -merge -underBinder __src_1 s_2
  have h_s_2 : Keeps m r s_2 := by
    unfold s_2
    exact keeps_sec h0_ (sub_trans rfl hm)
  try clear_value s_2
  refine State_wr_keeps (sub_trans rfl hm) ?_
  · refine State_wr_keeps (sub_trans rfl hm) ?_
    · refine State_wr_keeps (sub_trans rfl hm) h_s_2

theorem revokeKey_keeps {m : Nat} {r : State} {p0 : State} {p1} (hm : 545259524 &&& m = 545259524) (h0_ : Keeps m r p0) : Keeps m r (@revokeKey p0 p1) := by
  unfold revokeKey
  extract_lets -lift -merge -underBinder b_1 __src_2 __src_3 __src_4 o_5 s_6 s_7
  try clear_value b_1
  have h_s_6 : Keeps m r s_6 := by
    unfold s_6
    refine keeps_otp (b := 536870912) h0_ (sub_trans rfl hm) (by intro p hp; cases p <;> first | rfl | cases hp) ?_ rfl rfl rfl rfl rfl
    simp only [o_5]
    split
    · exact ⟨bitsIn_or _ _, bitsIn_refl _, bitsIn_refl _, fun _ => bitsIn_refl _, fun _ => Nat.le_refl _⟩
    · split
      · exact ⟨bitsIn_refl _, bitsIn_or _ _, bitsIn_refl _, fun _ => bitsIn_refl _, fun _ => Nat.le_refl _⟩
      · exact ⟨bitsIn_refl _, bitsIn_refl _, bitsIn_or _ _, fun _ => bitsIn_refl _, fun _ => Nat.le_refl _⟩
  try clear_value s_6
  have h_s_7 : Keeps m r s_7 := by
    unfold s_7
    refine State_wr_keeps (sub_trans rfl hm) ?_
    · refine State_wr_keeps (sub_trans rfl hm) ?_
      · refine State_wr_keeps (sub_trans rfl hm) h_s_6
  try clear_value s_7
  refine State_event_keeps (sub_trans rfl hm) h_s_7

theorem actLife_keeps {m : Nat} {r : State} {p0 : State} {p1} {p2} (hm : 2147483628 &&& m = 2147483628) (h0_ : Keeps m r p0) : Keeps m r (@actLife p0 p1 p2) := by
  unfold actLife
  split
  · refine transition_keeps (sub_trans rfl hm) ?_
    · refine writeBank_keeps (sub_trans rfl hm) h0_
  · refine transition_keeps (sub_trans rfl hm) h0_
  · refine takeConsent_keeps (sub_trans rfl hm) h0_
  · refine transition_keeps (sub_trans rfl hm) ?_
    · refine dropConsent_keeps (sub_trans rfl hm) h0_
  · refine transition_keeps (sub_trans rfl hm) h0_
  · refine revokeKey_keeps (sub_trans rfl hm) h0_

theorem attestCertificate_keeps {m : Nat} {r : State} {p0} {p1} {p2 : State} (hm : 281280532 &&& m = 281280532) (h2_ : Keeps m r p2) : Keeps m r (@attestCertificate p0 p1 p2) := by
  unfold attestCertificate
  refine serveOrder_keeps (sub_trans rfl hm) ?_ h2_
  · intro a_1 h_2
    exact keeps_fst h_2

theorem attestReport_keeps {m : Nat} {r : State} {p0} {p1} {p2 : State} (hm : 281280564 &&& m = 281280564) (h2_ : Keeps m r p2) : Keeps m r (@attestReport p0 p1 p2) := by
  unfold attestReport
  refine serveOrder_keeps (sub_trans rfl hm) ?_ h2_
  · intro a_1 h_2
    refine keeps_fst ?_
    · refine State_drawFree_keeps (sub_trans rfl hm) h_2

theorem consentLapse_keeps {m : Nat} {r : State} {p0 : State} (hm : 134217732 &&& m = 134217732) (h0_ : Keeps m r p0) : Keeps m r (@consentLapse p0) := by
  unfold consentLapse
  refine keeps_ite ?_ ?_
  · refine dropConsent_keeps (sub_trans rfl hm) h0_
  · exact h0_

theorem debugHalt_keeps {m : Nat} {r : State} {p0} {p1 : State} (hm : 344981508 &&& m = 344981508) (h1_ : Keeps m r p1) : Keeps m r (@debugHalt p0 p1) := by
  unfold debugHalt
  refine keeps_ite ?_ ?_
  · exact h1_
  · extract_lets -lift -merge -underBinder s_1 s_2 s_3
    have h_s_1 : Keeps m r s_1 := by
      unfold s_1
      refine State_modProc_keeps (sub_trans rfl hm) h1_
    try clear_value s_1
    have h_s_2 : Keeps m r s_2 := by
      unfold s_2
      refine State_wr_keeps (sub_trans rfl hm) ?_
      · refine State_wr_keeps (sub_trans rfl hm) h_s_1
    try clear_value s_2
    have h_s_3 : Keeps m r s_3 := by
      unfold s_3
      refine keeps_ite ?_ ?_
      · exact h_s_2
      · refine dutiesPass_keeps (sub_trans rfl hm) h_s_2
    try clear_value s_3
    refine State_wr_keeps (sub_trans rfl hm) h_s_3

theorem debugLimitExpire_keeps {m : Nat} {r : State} {p0 : State} (hm : 76547076 &&& m = 76547076) (h0_ : Keeps m r p0) : Keeps m r (@debugLimitExpire p0) := by
  unfold debugLimitExpire
  refine keeps_ite ?_ ?_
  · refine closeToken_keeps (sub_trans rfl hm) h0_
  · exact h0_

theorem lifecycle_keeps {m : Nat} {r : State} {p0} {p1} {p2} {p3 : State} (hm : 281280532 &&& m = 281280532) (h2_ : ∀ q0, Keeps m r q0 → Keeps m r (p2 q0).1) (h3_ : Keeps m r p3) : Keeps m r (@lifecycle p0 p1 p2 p3) := by
  unfold lifecycle
  refine serveOrder_keeps (sub_trans rfl hm) h2_ h3_

theorem refuseLife_keeps {m : Nat} {r : State} {p0 : State} {p1} {p2} {p3} (hm : 12845076 &&& m = 12845076) (h0_ : Keeps m r p0) : Keeps m r (@refuseLife p0 p1 p2 p3).1 := by
  unfold refuseLife
  extract_lets -lift -merge -underBinder s_1 s_2 s_3
  have h_s_1 : Keeps m r s_1 := by
    unfold s_1
    refine State_err_keeps (sub_trans rfl hm) h0_
  try clear_value s_1
  have h_s_2 : Keeps m r s_2 := by
    unfold s_2
    refine State_bump_keeps (sub_trans rfl hm) h_s_1
  try clear_value s_2
  have h_s_3 : Keeps m r s_3 := by
    unfold s_3
    refine State_wr_keeps (sub_trans rfl hm) ?_
    · refine State_wr_keeps (sub_trans rfl hm) ?_
      · refine State_wr_keeps (sub_trans rfl hm) ?_
        · refine State_wr_keeps (sub_trans rfl hm) h_s_2
  try clear_value s_3
  refine keeps_ite1 ?_ ?_
  · refine retryIn_keeps (sub_trans rfl hm) h_s_3
  · refine refuse_keeps (sub_trans rfl hm) h_s_3

theorem statement_keeps {m : Nat} {r : State} {p0} {p1} {p2} {p3 : State} (hm : 2147483644 &&& m = 2147483644) (h3_ : Keeps m r p3) : Keeps m r (@statement p0 p1 p2 p3) := by
  unfold statement
  refine lifecycle_keeps (sub_trans rfl hm) ?_ h3_
  · intro a_1 h_2
    split
    · refine refuseLife_keeps (sub_trans rfl hm) h_2
    · refine okay_keeps (sub_trans rfl hm) ?_
      · refine actLife_keeps (sub_trans rfl hm) ?_
        · exact keeps_flash h_2 (sub_trans rfl hm)

theorem deploy_keeps {m : Nat} {r : State} {p0} {p1} {p2 : State} (hm : 2147483644 &&& m = 2147483644) (h2_ : Keeps m r p2) : Keeps m r (@deploy p0 p1 p2) := by
  unfold deploy
  refine statement_keeps (sub_trans rfl hm) h2_

theorem keyStage_keeps {m : Nat} {r : State} {p0} {p1} {p2} {p3 : State} (hm : 415498260 &&& m = 415498260) (h3_ : Keeps m r p3) : Keeps m r (@keyStage p0 p1 p2 p3) := by
  unfold keyStage
  refine lifecycle_keeps (sub_trans rfl hm) ?_ h3_
  · intro a_1 h_2
    extract_lets -lift -merge -underBinder __src_3 s_4
    have h_s_4 : Keeps m r s_4 := by
      unfold s_4
      exact keeps_sec h_2 (sub_trans rfl hm)
    try clear_value s_4
    refine okay_keeps (sub_trans rfl hm) ?_
    · refine State_wr_keeps (sub_trans rfl hm) h_s_4

theorem lock_keeps {m : Nat} {r : State} {p0} {p1 : State} (hm : 349438996 &&& m = 349438996) (h1_ : Keeps m r p1) : Keeps m r (@lock p0 p1) := by
  unfold lock
  refine lifecycle_keeps (sub_trans rfl hm) ?_ h1_
  · intro a_1 h_2
    refine okay_keeps (sub_trans rfl hm) ?_
    · refine closeToken_keeps (sub_trans rfl hm) h_2

theorem makerProgramming_keeps {m : Nat} {r : State} {p0} {p1 : State} (hm : 813694980 &&& m = 813694980) (h1_ : Keeps m r p1) : Keeps m r (@makerProgramming p0 p1) := by
  unfold makerProgramming
  refine keeps_ite ?_ ?_
  · exact h1_
  · extract_lets -lift -merge -underBinder __src_1 o_2 __src_3 s_4 s_5
    have h_s_4 : Keeps m r s_4 := by
      unfold s_4
      exact keeps_otp (b := 805306368) h1_ (sub_trans rfl hm) (by intro p hp; cases p <;> first | rfl | cases hp) ⟨bitsIn_refl _, bitsIn_refl _, bitsIn_refl _, bitsIn_tput_or _ _ _, fun _ => Nat.le_refl _⟩ rfl rfl rfl rfl rfl
    try clear_value s_4
    have h_s_5 : Keeps m r s_5 := by
      unfold s_5
      refine State_wr_keeps (sub_trans rfl hm) ?_
      · refine State_wr_keeps (sub_trans rfl hm) h_s_4
    try clear_value s_5
    refine flushRecords_keeps (sub_trans rfl hm) ?_
    · refine State_event_keeps (sub_trans rfl hm) h_s_5

theorem provision_keeps {m : Nat} {r : State} {p0} {p1} {p2 : State} (hm : 2147483644 &&& m = 2147483644) (h2_ : Keeps m r p2) : Keeps m r (@provision p0 p1 p2) := by
  unfold provision
  refine statement_keeps (sub_trans rfl hm) h2_

theorem retire_keeps {m : Nat} {r : State} {p0} {p1} {p2 : State} (hm : 2147483644 &&& m = 2147483644) (h2_ : Keeps m r p2) : Keeps m r (@retire p0 p1 p2) := by
  unfold retire
  refine statement_keeps (sub_trans rfl hm) h2_

theorem returnConsent_keeps {m : Nat} {r : State} {p0} {p1} {p2 : State} (hm : 2147483644 &&& m = 2147483644) (h2_ : Keeps m r p2) : Keeps m r (@returnConsent p0 p1 p2) := by
  unfold returnConsent
  refine statement_keeps (sub_trans rfl hm) h2_

theorem returnPart_keeps {m : Nat} {r : State} {p0} {p1} {p2 : State} (hm : 2147483644 &&& m = 2147483644) (h2_ : Keeps m r p2) : Keeps m r (@returnPart p0 p1 p2) := by
  unfold returnPart
  refine statement_keeps (sub_trans rfl hm) h2_

theorem revoke_keeps {m : Nat} {r : State} {p0} {p1} {p2 : State} (hm : 2147483644 &&& m = 2147483644) (h2_ : Keeps m r p2) : Keeps m r (@revoke p0 p1 p2) := by
  unfold revoke
  refine statement_keeps (sub_trans rfl hm) h2_

theorem tokenShift_keeps {m : Nat} {r : State} {p0} {p1 : State} (hm : 276824068 &&& m = 276824068) (h1_ : Keeps m r p1) : Keeps m r (@tokenShift p0 p1) := by
  unfold tokenShift
  refine keeps_ite ?_ ?_
  · refine acceptToken_keeps (sub_trans rfl hm) h1_
  · exact h1_

theorem unlock_keeps {m : Nat} {r : State} {p0} {p1} {p2 : State} (hm : 281280532 &&& m = 281280532) (h2_ : Keeps m r p2) : Keeps m r (@unlock p0 p1 p2) := by
  unfold unlock
  refine lifecycle_keeps (sub_trans rfl hm) ?_ h2_
  · intro a_1 h_2
    split
    · refine refuseLife_keeps (sub_trans rfl hm) h_2
    · refine okay_keeps (sub_trans rfl hm) ?_
      · refine acceptToken_keeps (sub_trans rfl hm) h_2

/-! ## Registers -/

theorem writeInject_keeps {m : Nat} {r : State} {p0} {p1} {p2} {p3 : State} (hm : 20 &&& m = 20) (h3_ : Keeps m r p3) : Keeps m r (@writeInject p0 p1 p2 p3) := by
  unfold writeInject
  refine State_answer_keeps (sub_trans rfl hm) ?_
  · refine State_wr_keeps (sub_trans rfl hm) ?_
    · refine State_wr_keeps (sub_trans rfl hm) h3_

theorem arrInjectWrite_keeps {m : Nat} {r : State} {p0} {p1} {p2} {p3} {p4 : State} (hm : 20 &&& m = 20) (h4_ : Keeps m r p4) : Keeps m r (@arrInjectWrite p0 p1 p2 p3 p4) := by
  unfold arrInjectWrite
  refine State_gateDie_keeps (sub_trans rfl hm) h4_ ?_
  · intro a_1 h_2
    refine State_hostGate_keeps (sub_trans rfl hm) h_2 ?_
    · intro a_3 h_4
      refine keeps_ite ?_ ?_
      · refine State_answer_keeps (sub_trans rfl hm) h_4
      · refine writeInject_keeps (sub_trans rfl hm) h_4

theorem registerAccess_keeps {m : Nat} {r : State} {p0} {p1} {p2} {p3 : State} (hm : 16 &&& m = 16) (h2_ : ∀ q0, Keeps m r q0 → Keeps m r (p2 q0)) (h3_ : Keeps m r p3) : Keeps m r (@registerAccess p0 p1 p2 p3) := by
  unfold registerAccess
  refine State_reach_keeps (sub_trans rfl hm) h3_ ?_
  · intro a_1 h_2
    refine keeps_ite ?_ ?_
    · refine State_answer_keeps (sub_trans rfl hm) h_2
    · split
      · refine State_gateDie_keeps (sub_trans rfl hm) h_2 h2_
      · refine h2_ _ h_2

theorem clearOnRead_keeps {m : Nat} {r : State} {p0 : State} {p1} (hm : 4 &&& m = 4) (h0_ : Keeps m r p0) : Keeps m r (@clearOnRead p0 p1) := by
  unfold clearOnRead
  split
  · exact h0_
  · extract_lets -lift -merge -underBinder s_1
    have h_s_1 : Keeps m r s_1 := by
      unfold s_1
      refine keeps_foldl h0_ ?_
      · intro t_2 x_3 h_4
        split
        · refine State_wr_keeps (sub_trans rfl hm) h_4
        · refine State_wr_keeps (sub_trans rfl hm) h_4
        · exact h_4
    try clear_value s_1
    split
    · refine State_wr_keeps (sub_trans rfl hm) h_s_1
    · exact h_s_1

theorem latchHigh_keeps {m : Nat} {r : State} {p0 : State} {p1} (hm : 4 &&& m = 4) (h0_ : Keeps m r p0) : Keeps m r (@latchHigh p0 p1) := by
  unfold latchHigh
  split
  · exact h0_
  · refine keeps_foldl h0_ ?_
    · intro t_1 x_2 h_3
      refine State_wr_keeps (sub_trans rfl hm) h_3

theorem readThrough_keeps {m : Nat} {r : State} {p0} {p1 : State} (hm : 20 &&& m = 20) (h1_ : Keeps m r p1) : Keeps m r (@readThrough p0 p1) := by
  unfold readThrough
  extract_lets -lift -merge -underBinder v_1
  try clear_value v_1
  refine State_answer_keeps (sub_trans rfl hm) ?_
  · refine clearOnRead_keeps (sub_trans rfl hm) ?_
    · refine latchHigh_keeps (sub_trans rfl hm) h1_

theorem registerRead_keeps {m : Nat} {r : State} {p0} {p1} {p2 : State} (hm : 20 &&& m = 20) (h2_ : Keeps m r p2) : Keeps m r (@registerRead p0 p1 p2) := by
  unfold registerRead
  refine registerAccess_keeps (sub_trans rfl hm) ?_ h2_
  · intro a_1 h_2
    refine readThrough_keeps (sub_trans rfl hm) h_2

theorem writeFields_keeps {m : Nat} {r : State} {p0 : State} {p1} {p2} (hm : 4 &&& m = 4) (h0_ : Keeps m r p0) : Keeps m r (@writeFields p0 p1 p2) := by
  unfold writeFields
  refine keeps_foldl h0_ ?_
  · intro t_1 x_2 h_3
    split
    · refine State_wr_keeps (sub_trans rfl hm) h_3
    · refine keeps_ite ?_ ?_
      · exact h_3
      · refine State_wr_keeps (sub_trans rfl hm) h_3
    · exact h_3

theorem writePlain_keeps {m : Nat} {r : State} {p0} {p1} {p2 : State} (hm : 20 &&& m = 20) (h2_ : Keeps m r p2) : Keeps m r (@writePlain p0 p1 p2) := by
  unfold writePlain
  refine State_answer_keeps (sub_trans rfl hm) ?_
  · refine writeFields_keeps (sub_trans rfl hm) h2_

theorem writePatNext_keeps {m : Nat} {r : State} {p0} {p1} {p2 : State} (hm : 12846100 &&& m = 12846100) (h2_ : Keeps m r p2) : Keeps m r (@writePatNext p0 p1 p2) := by
  unfold writePatNext
  refine keeps_ite ?_ ?_
  · refine State_answer_keeps (sub_trans rfl hm) h2_
  · refine State_answer_keeps (sub_trans rfl hm) ?_
    · refine writeNext_keeps (sub_trans rfl hm) h2_

theorem writePatStep_keeps {m : Nat} {r : State} {p0} {p1} {p2 : State} (hm : 1044 &&& m = 1044) (h2_ : Keeps m r p2) : Keeps m r (@writePatStep p0 p1 p2) := by
  unfold writePatStep
  refine keeps_ite ?_ ?_
  · refine State_answer_keeps (sub_trans rfl hm) h2_
  · refine State_answer_keeps (sub_trans rfl hm) ?_
    · extract_lets -lift -merge -underBinder __src_1 __src_2
      have h___src_1 : Keeps m r __src_1 := by
        unfold __src_1
        refine State_wrDies_keeps (sub_trans rfl hm) h2_
      try clear_value __src_1
      exact keeps_pat h___src_1 (sub_trans rfl hm)

theorem writeHub_keeps {m : Nat} {r : State} {p0} {p1} {p2} {p3} {p4 : State} (hm : 12868764 &&& m = 12868764) (h4_ : Keeps m r p4) : Keeps m r (@writeHub p0 p1 p2 p3 p4) := by
  unfold writeHub
  extract_lets -lift -merge -underBinder o_1
  try clear_value o_1
  split
  · refine keeps_ite ?_ ?_
    · refine toleranceWrite_keeps (sub_trans rfl hm) h4_
    · refine writePlain_keeps (sub_trans rfl hm) h4_
  · refine keeps_ite ?_ ?_
    · refine writePatNext_keeps (sub_trans rfl hm) h4_
    · refine keeps_ite ?_ ?_
      · refine writePatStep_keeps (sub_trans rfl hm) h4_
      · refine keeps_ite ?_ ?_
        · refine keeps_ite ?_ ?_
          · refine patternRestart_keeps (sub_trans rfl hm) h4_
          · refine State_answer_keeps (sub_trans rfl hm) h4_
        · refine writePlain_keeps (sub_trans rfl hm) h4_
  · refine keeps_ite ?_ ?_
    · refine writeInject_keeps (sub_trans rfl hm) h4_
    · refine writePlain_keeps (sub_trans rfl hm) h4_
  · refine keeps_ite ?_ ?_
    · refine memOpenCfgWrite_keeps (sub_trans rfl hm) h4_
    · refine writePlain_keeps (sub_trans rfl hm) h4_
  · refine keeps_ite ?_ ?_
    · refine State_answer_keeps (sub_trans rfl hm) ?_
      · refine clearLinks_keeps (sub_trans rfl hm) ?_
        · refine retrainLinks_keeps (sub_trans rfl hm) h4_
    · refine writePlain_keeps (sub_trans rfl hm) h4_
  · refine writePlain_keeps (sub_trans rfl hm) h4_

theorem writeSeqCtrl_keeps {m : Nat} {r : State} {p0} {p1 : State} (hm : 352075740 &&& m = 352075740) (h1_ : Keeps m r p1) : Keeps m r (@writeSeqCtrl p0 p1) := by
  unfold writeSeqCtrl
  extract_lets -lift -merge -underBinder on_1 off_2 ok_3 s_4 s_5 s_6
  try clear_value on_1
  try clear_value off_2
  try clear_value ok_3
  have h_s_4 : Keeps m r s_4 := by
    unfold s_4
    refine State_answer_keeps (sub_trans rfl hm) h1_
  try clear_value s_4
  have h_s_5 : Keeps m r s_5 := by
    unfold s_5
    refine keeps_ite ?_ ?_
    · exact h_s_4
    · refine orderSlotsOn_keeps (sub_trans rfl hm) h_s_4
  try clear_value s_5
  have h_s_6 : Keeps m r s_6 := by
    unfold s_6
    refine keeps_ite ?_ ?_
    · exact h_s_5
    · refine orderSlotsOff_keeps (sub_trans rfl hm) h_s_5
  try clear_value s_6
  refine keeps_ite ?_ ?_
  · refine State_answer_keeps (sub_trans rfl hm) h1_
  · refine keeps_ite ?_ ?_
    · refine orderTrayOff_keeps (sub_trans rfl hm) h_s_6
    · refine keeps_ite ?_ ?_
      · refine orderTrayOn_keeps (sub_trans rfl hm) h_s_6
      · exact h_s_6

theorem writeFwCtrl_keeps {m : Nat} {r : State} {p0} {p1 : State} (hm : 347078676 &&& m = 347078676) (h1_ : Keeps m r p1) : Keeps m r (@writeFwCtrl p0 p1) := by
  unfold writeFwCtrl
  refine State_answer_keeps (sub_trans rfl hm) ?_
  · refine keeps_foldl ?_ ?_
    · refine keeps_foldl h1_ ?_
      · intro t_1 x_2 h_3
        refine orderRestart_keeps (sub_trans rfl hm) h_3
    · intro t_4 x_5 h_6
      refine revive_keeps (sub_trans rfl hm) h_6

theorem writeWarden_keeps {m : Nat} {r : State} {p0} {p1} {p2} {p3 : State} (hm : 352108508 &&& m = 352108508) (h3_ : Keeps m r p3) : Keeps m r (@writeWarden p0 p1 p2 p3) := by
  unfold writeWarden
  extract_lets -lift -merge -underBinder o_1
  try clear_value o_1
  split
  · refine keeps_ite ?_ ?_
    · refine writeSeqCtrl_keeps (sub_trans rfl hm) h3_
    · refine writePlain_keeps (sub_trans rfl hm) h3_
  · refine keeps_ite ?_ ?_
    · refine clearCooling_keeps (sub_trans rfl hm) ?_
      · refine State_answer_keeps (sub_trans rfl hm) h3_
    · refine writePlain_keeps (sub_trans rfl hm) h3_
  · refine keeps_ite ?_ ?_
    · refine leakClearWrite_keeps (sub_trans rfl hm) h3_
    · refine writePlain_keeps (sub_trans rfl hm) h3_
  · refine keeps_ite ?_ ?_
    · refine monSelWrite_keeps (sub_trans rfl hm) h3_
    · refine writePlain_keeps (sub_trans rfl hm) h3_
  · refine keeps_ite ?_ ?_
    · refine hubLatchRelease_keeps (sub_trans rfl hm) h3_
    · refine writePlain_keeps (sub_trans rfl hm) h3_
  · refine keeps_ite ?_ ?_
    · refine swatchOrder_keeps (sub_trans rfl hm) h3_
    · refine writePlain_keeps (sub_trans rfl hm) h3_
  · refine keeps_ite ?_ ?_
    · refine writeFwCtrl_keeps (sub_trans rfl hm) h3_
    · refine keeps_ite ?_ ?_
      · refine watchdogKick_keeps (sub_trans rfl hm) h3_
      · refine writePlain_keeps (sub_trans rfl hm) h3_
  · refine writePlain_keeps (sub_trans rfl hm) h3_

theorem writeThrough_keeps {m : Nat} {r : State} {p0} {p1} {p2} {p3 : State} (hm : 352124892 &&& m = 352124892) (h3_ : Keeps m r p3) : Keeps m r (@writeThrough p0 p1 p2 p3) := by
  unfold writeThrough
  refine State_hostGate_keeps (sub_trans rfl hm) h3_ ?_
  · intro a_1 h_2
    refine keeps_ite ?_ ?_
    · refine State_answer_keeps (sub_trans rfl hm) h_2
    · refine keeps_ite ?_ ?_
      · refine State_answer_keeps (sub_trans rfl hm) h_2
      · split
        · refine writeHub_keeps (sub_trans rfl hm) h_2
        · refine writeWarden_keeps (sub_trans rfl hm) h_2

theorem registerWrite_keeps {m : Nat} {r : State} {p0} {p1} {p2} {p3 : State} (hm : 352124892 &&& m = 352124892) (h3_ : Keeps m r p3) : Keeps m r (@registerWrite p0 p1 p2 p3) := by
  unfold registerWrite
  refine registerAccess_keeps (sub_trans rfl hm) ?_ h3_
  · intro a_1 h_2
    refine writeThrough_keeps (sub_trans rfl hm) h_2

theorem clockHeldLow_keeps {m : Nat} {r : State} {p0} {p1 : State} (hm : 16 &&& m = 16) (h1_ : Keeps m r p1) : Keeps m r (@clockHeldLow p0 p1) := by
  unfold clockHeldLow
  refine keeps_ite ?_ ?_
  · exact h1_
  · refine State_emit_keeps (sub_trans rfl hm) h1_

theorem latchedLowRead_keeps {m : Nat} {r : State} {p0} {p1} {p2 : State} (hm : 20 &&& m = 20) (h2_ : Keeps m r p2) : Keeps m r (@latchedLowRead p0 p1 p2) := by
  unfold latchedLowRead
  refine registerRead_keeps (sub_trans rfl hm) h2_

theorem readClear_keeps {m : Nat} {r : State} {p0} {p1} {p2 : State} (hm : 20 &&& m = 20) (h2_ : Keeps m r p2) : Keeps m r (@readClear p0 p1 p2) := by
  unfold readClear
  refine registerRead_keeps (sub_trans rfl hm) h2_

/-! ## Perform -/

theorem answerPoison_keeps {m : Nat} {r : State} {p0 : State} {p1} {p2} (hm : 12851228 &&& m = 12851228) (h0_ : Keeps m r p0) : Keeps m r (@answerPoison p0 p1 p2) := by
  unfold answerPoison
  refine finishOpen_keeps (sub_trans rfl hm) ?_
  · refine modMemStat_keeps (sub_trans rfl hm) h0_

theorem writePool_keeps {m : Nat} {r : State} {p0 : State} {p1} {p2} (hm : 2048 &&& m = 2048) (h0_ : Keeps m r p0) : Keeps m r (@writePool p0 p1 p2) := by
  unfold writePool
  extract_lets -lift -merge -underBinder off_1 lo_2 l_3 m_4
  try clear_value off_1
  try clear_value lo_2
  try clear_value l_3
  refine keeps_pool (b := 2048) h0_ (sub_trans rfl hm) (by intro p hp; cases p <;> first | rfl | cases hp) (fun hw => ?_) rfl rfl rfl rfl rfl
  have hm : m_4.pool = p0.mem.pool := by
    unfold m_4
    split <;> rfl
  simp only [hm]
  split
  · exact wf_writeMasked _ _ _ _ hw
  · exact wf_writeBytes _ _ _ hw

theorem applyPool_keeps {m : Nat} {r : State} {p0 : State} {p1} (hm : 2048 &&& m = 2048) (h0_ : Keeps m r p0) : Keeps m r (@applyPool p0 p1).1 := by
  unfold applyPool
  extract_lets -lift -merge -underBinder off_1 n_2
  try clear_value off_1
  try clear_value n_2
  split
  · refine keeps_fst ?_
    · refine countSpan_keeps (sub_trans rfl hm) h0_
  · refine keeps_fst ?_
    · refine countSpan_keeps (sub_trans rfl hm) ?_
      · refine keeps_foldl h0_ ?_
        · intro t_3 x_4 h_5
          refine writePool_keeps (sub_trans rfl hm) h_5
  · extract_lets -lift -merge -underBinder old_6 new_7 __src_8 s_9
    try clear_value old_6
    try clear_value new_7
    have h_s_9 : Keeps m r s_9 := by
      unfold s_9
      exact keeps_pool (b := 2048) h0_ (sub_trans rfl hm) (by intro p hp; cases p <;> first | rfl | cases hp) (fun hw => wf_writeBytes _ _ _ hw) rfl rfl rfl rfl rfl
    try clear_value s_9
    refine keeps_fst ?_
    · refine countSpan_keeps (sub_trans rfl hm) ?_
      · refine countSpan_keeps (sub_trans rfl hm) h_s_9
  · exact keeps_fst h0_

theorem countOpen_keeps {m : Nat} {r : State} {p0 : State} {p1} (hm : 16384 &&& m = 16384) (h0_ : Keeps m r p0) : Keeps m r (@countOpen p0 p1) := by
  unfold countOpen
  refine keeps_ite ?_ ?_
  · refine countPart_keeps (sub_trans rfl hm) h0_
  · exact h0_

theorem performPool_keeps {m : Nat} {r : State} {p0 : State} {p1} (hm : 12867612 &&& m = 12867612) (h0_ : Keeps m r p0) : Keeps m r (@performPool p0 p1) := by
  unfold performPool
  extract_lets -lift -merge -underBinder r_1 off_2 bad_3
  try clear_value r_1
  try clear_value off_2
  try clear_value bad_3
  split
  · refine answerPoison_keeps (sub_trans rfl hm) ?_
    · refine keeps_ite ?_ ?_
      · refine countOpen_keeps (sub_trans rfl hm) ?_
        · refine applyPool_keeps (sub_trans rfl hm) h0_
      · exact h0_
  · extract_lets -lift -merge -underBinder p_4
    have h_p_4 : Keeps m r p_4.1 := by
      unfold p_4
      refine applyPool_keeps (sub_trans rfl hm) h0_
    try clear_value p_4
    refine finishOpen_keeps (sub_trans rfl hm) ?_
    · refine countOpen_keeps (sub_trans rfl hm) ?_
      · exact h_p_4

theorem atHomePort_markedOrDone_keeps {m : Nat} {r : State} {p0 : State} {p1} {p2} {p3} (hm : 12867612 &&& m = 12867612) (h0_ : Keeps m r p0) : Keeps m r (@atHomePort.markedOrDone p0 p1 p2 p3) := by
  unfold atHomePort.markedOrDone
  extract_lets -lift -merge -underBinder off_1
  try clear_value off_1
  split
  · refine answerPoison_keeps (sub_trans rfl hm) h0_
  · refine performPool_keeps (sub_trans rfl hm) h0_

theorem atHomePort_keeps {m : Nat} {r : State} {p0 : State} {p1} {p2} (hm : 352092124 &&& m = 352092124) (h0_ : Keeps m r p0) : Keeps m r (@atHomePort p0 p1 p2) := by
  unfold atHomePort
  extract_lets -lift -merge -underBinder r_1 off_2 line_3 home_4 op_5 partial__6
  try clear_value r_1
  try clear_value off_2
  try clear_value line_3
  try clear_value home_4
  try clear_value op_5
  try clear_value partial__6
  refine keeps_ite ?_ ?_
  · refine finishOpen_keeps (sub_trans rfl hm) h0_
  · refine keeps_ite ?_ ?_
    · exact h0_
    · refine keeps_ite ?_ ?_
      · refine performPool_keeps (sub_trans rfl hm) h0_
      · split
        · extract_lets -lift -merge -underBinder s_7
          have h_s_7 : Keeps m r s_7 := by
            unfold s_7
            refine keeps_ite ?_ ?_
            · exact h0_
            · refine markPoison_keeps (sub_trans rfl hm) h0_
          try clear_value s_7
          refine parityMismatch_keeps (sub_trans rfl hm) ?_
          · refine answerPoison_keeps (sub_trans rfl hm) h_s_7
        · refine bridgeResend_keeps (sub_trans rfl hm) ?_
          · refine atHomePort_markedOrDone_keeps (sub_trans rfl hm) h0_
        · refine atHomePort_markedOrDone_keeps (sub_trans rfl hm) ?_
          · refine keeps_ite ?_ ?_
            · refine innerCorrected_keeps (sub_trans rfl hm) h0_
            · exact h0_
        · refine keeps_ite ?_ ?_
          · refine atHomePort_markedOrDone_keeps (sub_trans rfl hm) ?_
            · refine correctedError_keeps (sub_trans rfl hm) h0_
          · refine atHomePort_markedOrDone_keeps (sub_trans rfl hm) h0_
        · refine keeps_ite ?_ ?_
          · refine poolUncorrectable_keeps (sub_trans rfl hm) ?_
            · refine answerPoison_keeps (sub_trans rfl hm) h0_
          · refine atHomePort_markedOrDone_keeps (sub_trans rfl hm) h0_
        · refine atHomePort_markedOrDone_keeps (sub_trans rfl hm) h0_

theorem takeAnswer_keeps {m : Nat} {r s : State} {n : Nat} (hm : 16 &&& m = 16) (h : Keeps m r s) : Keeps m r (takeAnswer n s).2 :=
  keeps_out h hm

theorem atRegister_keeps {m : Nat} {r : State} {p0 : State} {p1} (hm : 352124892 &&& m = 352124892) (h0_ : Keeps m r p0) : Keeps m r (@atRegister p0 p1) := by
  unfold atRegister
  extract_lets -lift -merge -underBinder r_1 off_2 agent_3 o_4 t_5
  try clear_value r_1
  try clear_value off_2
  try clear_value agent_3
  try clear_value o_4
  have h_t_5 : Keeps m r t_5 := by
    unfold t_5
    refine keeps_ite ?_ ?_
    · refine registerRead_keeps (sub_trans rfl hm) h0_
    · refine registerWrite_keeps (sub_trans rfl hm) h0_
  try clear_value t_5
  refine keeps_ite ?_ ?_
  · refine finishOpen_keeps (sub_trans rfl hm) h0_
  · split
    · rename_i heq
      have h_6 := keeps_of_eq (congrArg Prod.snd heq) (takeAnswer_keeps (sub_trans rfl hm) h_t_5)
      exact h_6
    · rename_i heq
      have h_7 := keeps_of_eq (congrArg Prod.snd heq) (takeAnswer_keeps (sub_trans rfl hm) h_t_5)
      refine finishOpenHint_keeps (sub_trans rfl hm) h_7

theorem atTelemetry_keeps {m : Nat} {r : State} {p0 : State} {p1} (hm : 12851228 &&& m = 12851228) (h0_ : Keeps m r p0) : Keeps m r (@atTelemetry p0 p1) := by
  unfold atTelemetry
  extract_lets -lift -merge -underBinder off_1
  try clear_value off_1
  refine keeps_ite ?_ ?_
  · refine finishOpen_keeps (sub_trans rfl hm) h0_
  · refine finishOpen_keeps (sub_trans rfl hm) h0_

theorem openPerformed_keeps {m : Nat} {r : State} {p0} {p1} {p2 : State} (hm : 352124892 &&& m = 352124892) (h2_ : Keeps m r p2) : Keeps m r (@openPerformed p0 p1 p2) := by
  unfold openPerformed
  split
  · exact h2_
  · refine keeps_ite ?_ ?_
    · exact h2_
    · refine keeps_ite ?_ ?_
      · refine keeps_ite ?_ ?_
        · exact h2_
        · refine finishOpen_keeps (sub_trans rfl hm) h2_
      · refine keeps_ite ?_ ?_
        · exact h2_
        · split
          · refine atHomePort_keeps (sub_trans rfl hm) h2_
          · refine atHomePort_keeps (sub_trans rfl hm) h2_
          · refine atTelemetry_keeps (sub_trans rfl hm) h2_
          · refine atRegister_keeps (sub_trans rfl hm) h2_
          · exact h2_

/-! ## Telemetry -/

theorem refreshSnapshot_keeps {m : Nat} {r : State} {p0 : State} {p1} {p2} {p3} (hm : 2048 &&& m = 2048) (h0_ : Keeps m r p0) : Keeps m r (@refreshSnapshot p0 p1 p2 p3) := by
  unfold refreshSnapshot
  extract_lets -lift -merge -underBinder __src_1 s_2 __src_3
  have h_s_2 : Keeps m r s_2 := by
    unfold s_2
    exact keeps_mem h0_ (sub_trans rfl hm) rfl
  try clear_value s_2
  exact keeps_mem h_s_2 (sub_trans rfl hm) rfl

theorem telemetryRefresh_keeps {m : Nat} {r : State} {p0 : State} (hm : 2048 &&& m = 2048) (h0_ : Keeps m r p0) : Keeps m r (@telemetryRefresh p0) := by
  unfold telemetryRefresh
  extract_lets -lift -merge -underBinder k_1
  try clear_value k_1
  refine keeps_ite ?_ ?_
  · exact h0_
  · refine refreshSnapshot_keeps (sub_trans rfl hm) h0_

theorem wardenSnapshot_keeps {m : Nat} {r : State} {p0 : State} (hm : 2048 &&& m = 2048) (h0_ : Keeps m r p0) : Keeps m r (@wardenSnapshot p0) := by
  unfold wardenSnapshot
  extract_lets -lift -merge -underBinder k_1
  try clear_value k_1
  refine keeps_ite ?_ ?_
  · exact h0_
  · refine refreshSnapshot_keeps (sub_trans rfl hm) h0_

/-! ## Transactions -/

theorem takeControl_keeps {m : Nat} {r : State} {p0 : State} {p1} {p2} {p3} {p4} (hm : 8442524 &&& m = 8442524) (h0_ : Keeps m r p0) : Keeps m r (@takeControl p0 p1 p2 p3 p4) := by
  unfold takeControl
  extract_lets -lift -merge -underBinder w_1 param_2
  try clear_value w_1
  try clear_value param_2
  refine keeps_ite ?_ ?_
  · split
    · refine stepMarkMessage_keeps (sub_trans rfl hm) h0_
    · refine phaseMarkAt_keeps (sub_trans rfl hm) h0_
    · refine hint_keeps (sub_trans rfl hm) h0_
    · refine activity_keeps (sub_trans rfl hm) h0_
    · exact h0_
  · split
    · refine answerTime_keeps (sub_trans rfl hm) h0_
    · refine takeTimeReply_keeps (sub_trans rfl hm) h0_
    · exact h0_

theorem controlWord_keeps {m : Nat} {r : State} {p0 : State} {p1} {p2} {p3} (hm : 8442524 &&& m = 8442524) (h0_ : Keeps m r p0) : Keeps m r (@controlWord p0 p1 p2 p3) := by
  unfold controlWord
  extract_lets -lift -merge -underBinder k_1 first_2 part_3 known_4 s_5 t_6 again_7 s_8
  try clear_value k_1
  try clear_value first_2
  try clear_value part_3
  try clear_value known_4
  try clear_value t_6
  try clear_value again_7
  have h_s_5 : Keeps m r s_5 := by
    unfold s_5
    refine keeps_ite ?_ ?_
    · refine State_bump_keeps (sub_trans rfl hm) h0_
    · exact h0_
  try clear_value s_5
  have h_s_8 : Keeps m r s_8 := by
    unfold s_8
    refine State_modLink_keeps (sub_trans rfl hm) h_s_5
  try clear_value s_8
  refine keeps_ite ?_ ?_
  · exact h0_
  · refine keeps_ite ?_ ?_
    · refine State_modLink_keeps (sub_trans rfl hm) h_s_5
    · refine keeps_ite ?_ ?_
      · refine takeControl_keeps (sub_trans rfl hm) h_s_8
      · exact h_s_8

theorem packetResponse_keeps {m : Nat} {r : State} {p0 : State} {p1} {p2} (hm : 12851228 &&& m = 12851228) (h0_ : Keeps m r p0) : Keeps m r (@packetResponse p0 p1 p2) := by
  unfold packetResponse
  extract_lets -lift -merge -underBinder w_1 mine_2
  try clear_value w_1
  try clear_value mine_2
  split
  · refine keeps_ite ?_ ?_
    · refine accOpenResponse_keeps (sub_trans rfl hm) h0_
    · refine openResponse_keeps (sub_trans rfl hm) h0_
  · exact h0_

theorem packetPlanned_keeps {m : Nat} {r : State} {p0 : State} {p1} {p2} (hm : 352075740 &&& m = 352075740) (h0_ : Keeps m r p0) : Keeps m r (@packetPlanned p0 p1 p2) := by
  unfold packetPlanned
  extract_lets -lift -merge -underBinder t_1 data_2
  try clear_value t_1
  try clear_value data_2
  refine keeps_ite ?_ ?_
  · refine keeps_ite ?_ ?_
    · refine pdata_keeps (sub_trans rfl hm) h0_
    · refine plannedFlitArrive_keeps (sub_trans rfl hm) h0_
  · refine keeps_ite ?_ ?_
    · refine pack_keeps (sub_trans rfl hm) h0_
    · exact h0_

theorem takePacket_keeps {m : Nat} {r : State} {p0} {p1 : State} {p2} (hm : 352075740 &&& m = 352075740) (h1_ : Keeps m r p1) : Keeps m r (@takePacket p0 p1 p2) := by
  unfold takePacket
  extract_lets -lift -merge -underBinder t_1
  try clear_value t_1
  split
  · refine enterOpen_keeps (sub_trans rfl hm) h1_
  · refine keeps_ite ?_ ?_
    · refine mgmtReq_keeps (sub_trans rfl hm) h1_
    · refine keeps_ite ?_ ?_
      · refine mgmtResp_keeps (sub_trans rfl hm) h1_
      · refine keeps_ite ?_ ?_
        · refine packetResponse_keeps (sub_trans rfl hm) h1_
        · refine packetPlanned_keeps (sub_trans rfl hm) h1_

theorem takePayload_keeps {m : Nat} {r : State} {p0 : State} {p1} {p2} {p3} (hm : 352075740 &&& m = 352075740) (h0_ : Keeps m r p0) : Keeps m r (@takePayload p0 p1 p2 p3) := by
  unfold takePayload
  extract_lets -lift -merge -underBinder part_1 s_2
  try clear_value part_1
  have h_s_2 : Keeps m r s_2 := by
    unfold s_2
    refine State_modLink_keeps (sub_trans rfl hm) h0_
  try clear_value s_2
  refine keeps_ite ?_ ?_
  · exact h0_
  · refine keeps_ite ?_ ?_
    · refine linkDown_keeps (sub_trans rfl hm) h0_
    · split
      · refine linkDown_keeps (sub_trans rfl hm) h_s_2
      · refine keeps_foldl ?_ ?_
        · refine State_modLink_keeps (sub_trans rfl hm) h_s_2
        · intro t_3 x_4 h_5
          refine takePacket_keeps (sub_trans rfl hm) h_5

theorem acceptFlit_keeps {m : Nat} {r : State} {p0 : State} {p1} {p2} (hm : 352124892 &&& m = 352124892) (h0_ : Keeps m r p0) : Keeps m r (@acceptFlit p0 p1 p2) := by
  unfold acceptFlit
  extract_lets -lift -merge -underBinder h_1 s_2 s_3 s_4
  try clear_value h_1
  have h_s_2 : Keeps m r s_2 := by
    unfold s_2
    refine State_modLink_keeps (sub_trans rfl hm) h0_
  try clear_value s_2
  have h_s_3 : Keeps m r s_3 := by
    unfold s_3
    refine headerFields_keeps (sub_trans rfl hm) h_s_2
  try clear_value s_3
  have h_s_4 : Keeps m r s_4 := by
    unfold s_4
    refine controlWord_keeps (sub_trans rfl hm) h_s_3
  try clear_value s_4
  refine keeps_ite ?_ ?_
  · exact h_s_3
  · refine keeps_ite ?_ ?_
    · exact h_s_4
    · refine pump_keeps (sub_trans rfl hm) ?_
      · refine takePayload_keeps (sub_trans rfl hm) h_s_4

theorem flitReceive_keeps {m : Nat} {r : State} {p0} {p1} {p2} {p3} {p4 : State} (hm : 352124892 &&& m = 352124892) (h4_ : Keeps m r p4) : Keeps m r (@flitReceive p0 p1 p2 p3 p4) := by
  unfold flitReceive
  refine keeps_ite ?_ ?_
  · exact h4_
  · extract_lets -lift -merge -underBinder s_1 h_2 k_3
    try clear_value h_2
    try clear_value k_3
    have h_s_1 : Keeps m r s_1 := by
      unfold s_1
      refine State_addWide_keeps (sub_trans rfl hm) h4_
    try clear_value s_1
    refine keeps_ite ?_ ?_
    · refine uncorrectableCodeword_keeps (sub_trans rfl hm) h_s_1
    · refine keeps_ite ?_ ?_
      · refine discardFlit_keeps (sub_trans rfl hm) h_s_1
      · refine keeps_ite ?_ ?_
        · refine pump_keeps (sub_trans rfl hm) ?_
          · refine headerFields_keeps (sub_trans rfl hm) h_s_1
        · refine keeps_ite ?_ ?_
          · refine discardFlit_keeps (sub_trans rfl hm) h_s_1
          · refine acceptFlit_keeps (sub_trans rfl hm) h_s_1

/-! ## Step -/

end Sys2Proof.Laws
end

