-- ==== Sys2Proof/Laws/Protocol.lean ====
section
/-! SUPPORT. What the order of checks (R398) makes of a message that it lets through. -/

namespace Sys2Proof.Laws
open Sys2Proof Sys2Proof.Machine

/-- A message that the checks let through, and whose body has its fields in range, is acted on and answered with what the action says. -/
theorem serve_takesUp {s u : State} {k : Order} {m : Msg} (h : takesUp s k m = some u) (bodyOk : State → Bool) (act : State → Answered)
    (resp : State → Option State) (hb : bodyOk u = true) :
    ∃ a, serve k m bodyOk act resp s =
      keepAnswer (reply (act u).1 m k.code (act u).2.1 (act u).2.2) m a (act u).2.1 (act u).2.2 := by
  unfold takesUp at h
  split at h
  case isFalse => cases h
  case isTrue hc =>
    obtain ⟨h1, h2, h3, h4, h5, h6, h7⟩ := hc
    have h2' : ¬ (m.role = .host ∧ m.viaHostPort = false) := fun q => by simp [h2 q.1] at q
    split at h
    · cases h
    · rename_i s1 ht
      unfold passes at h
      simp only at h
      split at h
      case isFalse => cases h
      case isTrue hd =>
        obtain ⟨d1, d2, d3, d4, d5, d6⟩ := hd
        have hu := Option.some.inj h
        refine ⟨authenticate s1 k m, ?_⟩
        have hbody : serveBody k m (authenticate s1 k m) bodyOk act u = act u := by
          rw [hu] at d3 d4
          have h8 : (! bodyOk u || m.spare != 0 || (m.flags.testBit 2 && ! m.trailerZero)) = false := by
            cases hf : m.flags.testBit 2
            · simp [hb, d5]
            · simp [hb, d5, d6 hf]
          simp [serveBody, d2, d3, d4, h8]
        have hx : ∀ a, authenticate s1 k m = a → authPasses a = true →
            serve k m bodyOk act resp s = (let x := serveBody k m a bodyOk act (noteAccepted (heard s1 m.role) m a)
              keepAnswer (reply x.1 m k.code x.2.1 x.2.2) m a x.2.1 x.2.2) := by
          intro a ha hp
          unfold serve
          simp only [h1, h2', h3, h4, h5, h6, h7, ht, ha]
          cases a <;> simp_all [authPasses]
        rw [hx _ rfl d1, hu, hbody]

/-- A message that the checks let through, but whose body has a field out of range, is answered INVALID with nothing done. -/
theorem serve_badBody {s u : State} {k : Order} {m : Msg} (h : takesUp s k m = some u) (bodyOk : State → Bool) (act : State → Answered)
    (resp : State → Option State) (hb : bodyOk u = false) :
    ∃ a, serve k m bodyOk act resp s = keepAnswer (reply u m k.code .invalid []) m a .invalid [] := by
  unfold takesUp at h
  split at h
  case isFalse => cases h
  case isTrue hc =>
    obtain ⟨h1, h2, h3, h4, h5, h6, h7⟩ := hc
    have h2' : ¬ (m.role = .host ∧ m.viaHostPort = false) := fun q => by simp [h2 q.1] at q
    split at h
    · cases h
    · rename_i s1 ht
      unfold passes at h
      simp only at h
      split at h
      case isFalse => cases h
      case isTrue hd =>
        obtain ⟨d1, d2, d3, d4, d5, d6⟩ := hd
        have hu := Option.some.inj h
        refine ⟨authenticate s1 k m, ?_⟩
        have hbody : serveBody k m (authenticate s1 k m) bodyOk act u = refuse .invalid u := by
          rw [hu] at d3 d4
          simp [serveBody, d2, d3, d4, hb]
        have hx : ∀ a, authenticate s1 k m = a → authPasses a = true →
            serve k m bodyOk act resp s = (let x := serveBody k m a bodyOk act (noteAccepted (heard s1 m.role) m a)
              keepAnswer (reply x.1 m k.code x.2.1 x.2.2) m a x.2.1 x.2.2) := by
          intro a ha hp
          unfold serve
          simp only [h1, h2', h3, h4, h5, h6, h7, ht, ha]
          cases a <;> simp_all [authPasses]
        rw [hx _ rfl d1, hu, hbody]
        rfl

/-- Keeping an answer for a retransmission changes the sessions' own record alone. -/
theorem keepAnswer_cases (s : State) (m : Msg) (a : Auth) (r : Resp) (b : List Nat) :
    ∃ q, keepAnswer s m a r b = { s with mgt := q } := by
  unfold keepAnswer
  split <;> exact ⟨_, rfl⟩

@[simp] theorem keepAnswer_regs (s : State) (m : Msg) (a : Auth) (r : Resp) (b : List Nat) : (keepAnswer s m a r b).regs = s.regs := by
  obtain ⟨q, h⟩ := keepAnswer_cases s m a r b
  rw [h]
@[simp] theorem keepAnswer_out (s : State) (m : Msg) (a : Auth) (r : Resp) (b : List Nat) : (keepAnswer s m a r b).out = s.out := by
  obtain ⟨q, h⟩ := keepAnswer_cases s m a r b
  rw [h]

/-- An OK answer is sent, and nothing else changes. -/
@[simp] theorem reply_ok (s : State) (m : Msg) (code : Nat) (b : List Nat) : reply s m code .ok b = s.emit (.mgmt m.role code .ok b) := by
  simp [reply]

/-- The floor engine's mode is shown in the registers alone. -/
theorem setMode_cases (s : State) (b : Bool) : ∃ r, setMode s b = { s with regs := r } := ⟨_, rfl⟩

/-- Hearing a commander changes registers and the times at which the commanders were heard. -/
theorem heard_cases (s : State) (r : Role) : ∃ q g, heard s r = { s with regs := q, mgt := g } := by
  unfold heard
  cases r <;> simp only <;> split <;> exact ⟨_, _, rfl⟩

/-- Renewing a lease changes what is held of the session alone. -/
theorem renewLease_cases (s : State) (m : Msg) : ∃ g, renewLease s m = { s with mgt := g } := by
  unfold renewLease
  split
  · exact ⟨_, rfl⟩
  · exact ⟨s.mgt, rfl⟩

/-- Taking a token changes what is held of the buckets alone. -/
theorem takeToken_cases {s t : State} {b : Nat × Nat} (h : takeToken s b = (t, none)) : ∃ g, t = { s with mgt := g } := by
  unfold takeToken at h
  simp only at h
  split at h
  · cases h
  · cases h; exact ⟨_, rfl⟩

/-- The checks of a message that they let through change registers, what is held of the sessions, and the counters of the signing keys. -/
theorem takesUp_cases {s u : State} {k : Order} {m : Msg} (h : takesUp s k m = some u) :
    ∃ r g c, u = { s with regs := r, mgt := g, flash := { s.flash with signCtr := c } } := by
  unfold takesUp at h
  split at h
  case isFalse => cases h
  case isTrue hc =>
    split at h
    · cases h
    · rename_i s1 ht
      unfold passes at h
      simp only at h
      split at h
      · have hu := Option.some.inj h
        obtain ⟨g1, e1⟩ := renewLease_cases s m
        obtain ⟨g2, e2⟩ := takeToken_cases ht
        obtain ⟨q, g3, e3⟩ := heard_cases s1 m.role
        rw [← hu]
        rw [e3, e2, e1]
        cases authenticate ({ s with mgt := g2 }) k m <;> exact ⟨_, _, _, rfl⟩
      · cases h

end Sys2Proof.Laws
end

