-- ==== Sys2Proof/Machine/Pins.lean ====
section
/-! DEFINITION. Where the package's signals lie in its ball grid, what its pinSupplies must be, and the order they come up in
(R491, R494 to R498). No command changes them: they are functions of the part alone. -/

namespace Sys2Proof.Machine

/-- R491: a place in the 84 × 84 grid. -/
structure Ball where
  row : Nat
  col : Nat
  deriving DecidableEq, Repr

/-- R491: a bus at consecutive columns of one row, bit 0 in the lowest column. -/
structure Bus where
  name : String
  row : Nat
  col : Nat
  width : Nat
  deriving DecidableEq, Repr

/-- R491: the five regions of the grid. -/
inductive BallRegion
  | sideband | lpddr (die : Nat) | serdes | core
  deriving DecidableEq, Repr

/-- R491: the region a ball lies in. -/
def ballRegion (b : Ball) : BallRegion :=
  if b.row ≤ 6 then .sideband
  else if b.col ≤ 10 then .lpddr 0
  else if b.col ≥ 75 then .lpddr 1
  else if b.row ≥ 61 then .serdes
  else .core

/-! ## Sideband rows (R494) -/

/-- R494: buses of one row, from column 11 on, each beside the last. -/
def rowFrom (row : Nat) : Nat → List (String × Nat) → List Bus
  | _, [] => []
  | col, (name, width) :: rest => { name, row, col, width } :: rowFrom row (col + width) rest

/-- R494: the signals of rows 1 to 6, in the order of their columns. -/
def sidebandBuses : List Bus :=
  rowFrom 1 11 [("RAIL_EN", 64)] ++
  rowFrom 2 11 [("RAIL_PG", 64)] ++
  rowFrom 3 11 [("ACC_PERST_N", 8), ("ACC_THERMTRIP_N", 8), ("ACC_SLOW_N", 8), ("ACC_PRSNT_N", 8), ("ACC_I3C_SCL", 8),
    ("ACC_I3C_SDA", 8), ("ACC_TCK", 8), ("ACC_TMS", 8)] ++
  rowFrom 4 11 [("ACC_TDI", 8), ("ACC_TDO", 8), ("ACC_TRST_N", 8), ("FAN_PWM", 8), ("FAN_TACH", 8), ("FAN_ISNS", 8),
    ("VALVE_DRV", 8), ("VALVE_POS", 8)] ++
  rowFrom 5 11 [("LEAK_SNS", 16), ("TEMP_SNS", 16), ("FLOW_PLS", 8), ("PUMP_PWM", 2), ("PUMP_TACH", 2), ("PRESS_SNS", 2),
    ("ISO_VALVE", 2), ("PMB_SCL", 4), ("PMB_SDA", 4), ("PMB_ALERT_N", 4), ("AVS_CLK", 4)] ++
  rowFrom 6 11 [("AVS_MDATA", 4), ("AVS_SDATA", 4), ("XSPI_CLK", 1), ("XSPI_DS", 1), ("XSPI_CS_N", 2), ("XSPI_DQ", 8),
    ("XSPI_RST_N", 1), ("EMMC_CLK", 1), ("EMMC_CMD", 1), ("EMMC_DAT", 8), ("EMMC_DS", 1), ("EMMC_RST_N", 1), ("WTP_TCK", 1),
    ("WTP_TMS", 1), ("WTP_TDI", 1), ("WTP_TRST_N", 1), ("WTP_TDO", 1), ("MGT_TXP", 1), ("MGT_TXN", 1), ("MGT_RXP", 1),
    ("MGT_RXN", 1), ("XTAL_IN", 1), ("XTAL_OUT", 1), ("REFCLK_SRD_H0", 2), ("REFCLK_MEM_H0", 2), ("REFCLK_SRD_H1", 2),
    ("REFCLK_MEM_H1", 2), ("TRAY_INPUT_OFF", 1), ("WARDEN_RST_N", 1), ("DNC", 6), ("VDD_STBY", 4)]

/-- R494: the ball of bit `i` of the sideband bus named `name`. -/
def sidebandBall (name : String) (i : Nat) : Option Ball :=
  (sidebandBuses.find? fun b => b.name == name && i < b.width).map fun b => { row := b.row, col := b.col + i }

/-- R494: what columns 1 to 10 and 75 to 84 of rows 1 to 6 hold. -/
def sidebandEdge (b : Ball) : String :=
  if b.row = 1 then "VDD_IO"
  else if b.row = 6 && b.col ≤ 4 then "VDD_STBY"
  else if b.row = 6 && b.col ≤ 8 then "VDD_IO"
  else "VSS"

/-! ## SerDes lanes (R495) -/

/-- R495: a lane's index on its die: lane `l` of accelerator link `k` of the die. -/
def accLane (k l : Nat) : Nat := 16 * k + l

/-- R495: a lane's index on its die: lane `l` of Sotin port `j` of the die. -/
def sotinLane (j l : Nat) : Nat := 64 + 4 * j + l

/-- R495: the four balls of a lane. -/
structure LaneBalls where
  txp : Ball
  txn : Ball
  rxp : Ball
  rxn : Ball
  deriving DecidableEq, Repr

/-- R495: the balls of the lane with index `m` of die `d`. -/
def laneBalls (d m : Nat) : LaneBalls :=
  let col := (if d = 0 then 11 else 43) + 2 * (m / 5)
  let p := m % 5
  { txp := { row := 62 + 2 * p, col }, txn := { row := 62 + 2 * p, col := col + 1 }
    rxp := { row := 74 + 2 * p, col }, rxn := { row := 74 + 2 * p, col := col + 1 } }

/-! ## LPDDR5X channels (R496) -/

/-- R496: what the template gives at row `r0 + k` and column `x` of a channel, columns counted as on H0. -/
def lpddrTemplate (k x : Nat) : String × Nat :=
  if k = 8 then
    if x ≤ 4 then ("DMI", x - 1) else if x = 7 then ("CS", 1) else ("VSS", 0)
  else if x ≤ 4 then ("DQ", 4 * k + (x - 1))
  else if x ≤ 6 then
    if k ≤ 3 then (if x = 5 then "RDQS_t" else "RDQS_c", k)
    else if k ≤ 5 then (if x = 5 then "WCK_t" else "WCK_c", k - 4)
    else if k = 6 then (if x = 5 then "CK_t" else "CK_c", 0)
    else ("VSS", 0)
  else if x = 7 then if k ≤ 6 then ("CA", k) else ("CS", 0)
  else if x = 8 then
    if k = 0 then ("RESET_N", 0) else if k = 1 then ("ZQ", 0) else if k ≤ 4 then ("DNC", k - 2) else ("VSS", 0)
  else if x = 9 then if k % 2 = 0 then ("VDDQ_LP", k / 2) else ("VSS", 0)
  else ("VSS", 0)

/-- R496: the LPDDR5X ball at a place: the package's channel, and the signal of it. Rows 79 to 84 hold VDD_LP in the four
outermost columns, and VSS elsewhere. -/
def lpddrBall (b : Ball) : Option (Nat × String × Nat) :=
  let d := if b.col ≤ 10 then 0 else 1
  let x := if d = 0 then b.col else 85 - b.col
  if b.row < 7 || b.row > 84 || x > 10 then none
  else if b.row ≥ 79 then some (8 * d + 7, if x ≤ 4 then ("VDD_LP", 0) else ("VSS", 0))
  else
    let c := (b.row - 7) / 9
    some (8 * d + c, lpddrTemplate (b.row - 7 - 9 * c) x)

/-! ## Supplies (R497, R498) -/

/-- R497: a supply of the part: its nominal voltage, its tolerance in thousandths, its balls, and its greatest current in mA. -/
structure PinSupply where
  name : String
  nominalMv : Nat
  tolerance : Nat
  balls : Nat
  maxMa : Nat
  deriving DecidableEq, Repr

/-- R497: the pinSupplies. -/
def pinSupplies : List PinSupply :=
  [⟨"VDD_STBY", 3300, 50, 8, 2500⟩, ⟨"VDD_IO", 1800, 50, 24, 4000⟩, ⟨"VDD_SRD", 850, 30, 384, 220000⟩,
   ⟨"VDD_H0", 750, 30, 480, 240000⟩, ⟨"VDD_H1", 750, 30, 480, 240000⟩, ⟨"VDD_HBM", 1100, 30, 240, 60000⟩,
   ⟨"VDD_LP", 750, 30, 48, 24000⟩, ⟨"VDDQ_HBM", 400, 30, 200, 60000⟩, ⟨"VDDQ_LP", 500, 30, 64, 12000⟩]

/-- R497: a voltage in µV at the balls meets the supply's tolerance. -/
def PinSupply.meets (p : PinSupply) (uV : Nat) : Bool :=
  p.nominalMv * (1000 - p.tolerance) ≤ uV && uV ≤ p.nominalMv * (1000 + p.tolerance)

/-- R498: the step at which a supply comes up. -/
def riseStep (name : String) : Option Nat :=
  match name with
  | "VDD_IO" => some 1
  | "VDD_SRD" => some 2
  | "VDD_H0" | "VDD_H1" => some 3
  | "VDD_HBM" | "VDD_LP" => some 4
  | "VDDQ_HBM" | "VDDQ_LP" => some 5
  | _ => none

/-- R498: a cast-on order, the pinSupplies of each group in turn, that keeps the part in its recommended conditions: one group
holds rails of one step only, and no rail comes up after one of a later step. The part itself does not check it. -/
def riseOrderMet (groups : List (List String)) : Bool :=
  let steps := groups.map fun g => g.filterMap riseStep
  (steps.all fun g => g.all fun x => g.all fun y => x == y) &&
    (steps.flatten.zip (steps.flatten.drop 1)).all fun (a, b) => a ≤ b

end Sys2Proof.Machine
end

