-- ==== Sys2Proof/WellFormed.lean ====
section
/-! DEFINITION. When a command's operands lie in the ranges that the spec gives them. The meanings are total: a command that is not well formed
has an effect too, with its fields reduced to their widths where they are stored. -/

namespace Sys2Proof

/-- `v` is at most `n` bits wide. -/
def fits (n v : Nat) : Bool := decide (v < 2 ^ n)

/-- Every member of a list is a byte. -/
def bytesOk (l : List Nat) : Bool := l.all fun b => decide (b < 256)

/-- A line is POISON, or at most 256 bytes (R116, R209). -/
def lineOk (l : Option (List Nat)) : Bool := match l with
  | none => true
  | some b => bytesOk b && decide (b.length ≤ 256)

/-- The fields of an open header (R190, R208). -/
def hdrOk (h : OpenHdr) : Bool :=
  decide (h.link < 16) && decide (h.queue < 256) && fits 24 h.tag && fits 64 h.addr && decide (h.size ≤ 4096) && h.size % 4 == 0 &&
    decide (h.stamp.kind < 3) && decide (h.stamp.slot < 8) && fits 18 h.stamp.hub

/-- The fields of a row tag (R119, R208). -/
def tagOk (t : RowTag) : Bool :=
  decide (t.pattern < 256) && decide (t.die < 2) && decide (t.row < 4096) && decide (t.strand < 2) && decide (t.stage < 16) &&
    fits 16 t.step

/-- The fields of a management message's header and trailer (R391, R392). -/
def msgOk (m : Msg) : Bool :=
  fits 16 m.magic && fits 8 m.version && fits 8 m.flags && fits 4 m.codeHigh && fits 16 m.status && fits 32 m.tag && fits 64 m.session &&
    fits 32 m.sequence && fits 32 m.reserved && fits 64 m.counter && fits 8 m.key

/-- Whether a command's operands are in range. -/
def wellFormed (i : Instr) : Bool := match i with
  | .registerWrite _ off value => fits 32 off && fits 32 value
  | .readClear _ off => fits 32 off
  | .latchedLowRead _ off => fits 32 off
  | .standbyRise => true
  | .standbyFall => true
  | .wardenPowerOnReset => true
  | .wardenRstN => true
  | .loaderVerify _ => true
  | .domainSwitchRequest _ die domain => decide (die < 2) && decide (domain < 27)
  | .domainOnComplete die domain => decide (die < 2) && decide (domain < 27)
  | .referenceCheck ppm => ppm.length == 5
  | .hubReferenceRecover => true
  | .hubResetSingle _ die => decide (die < 2)
  | .hubRelease _ die => decide (die < 2)
  | .governorEstimate die _ => decide (die < 2)
  | .governorRescale die measured => decide (die < 2) && fits 32 measured
  | .governorRelease die => decide (die < 2)
  | .packageLimitUnmet die => decide (die < 2)
  | .packageLimitClear die => decide (die < 2)
  | .domainOffRequest _ die domain => decide (die < 2) && decide (domain < 27)
  | .cadenceTick => true
  | .cadenceStall => true
  | .stepMarkEffect => true
  | .stepMarkMessage slot step => decide (slot < 8) && fits 48 step
  | .phaseMark slot mark tag => decide (slot < 8) && fits 8 mark && fits 16 tag
  | .markEffect => true
  | .toleranceWrite _ die value => decide (die < 2) && fits 16 value
  | .toleranceApply => true
  | .timeRequestSend => true
  | .timeRequest port sequence hub arrival =>
    decide (port < 8) && fits 16 sequence && decide (hub < 250000) && decide (arrival.ns < 32) && decide (arrival.turn ≤ 10000)
  | .timeReply port sequence hub upState master t2 t3 arrival =>
    decide (port < 8) && fits 16 sequence && decide (hub < 250000) &&
      decide (upState < 5) && decide (master < 250000) && fits 64 t2 && fits 64 t3 && decide (arrival.ns < 32)
  | .timeReplyMissed port => decide (port < 8)
  | .gtHoldover => true
  | .rowTrigger die fault => decide (die < 2) && (decide (fault < 3) || (decide (256 ≤ fault) && decide (fault < 768) && decide (fault % 256 < 72)))
  | .fenceComplete => true
  | .collectiveComplete die row _ => decide (die < 2) && decide (row < 4096)
  | .arrayComplete die row _ _ => decide (die < 2) && decide (row < 4096)
  | .sliceComplete die row _ => decide (die < 2) && decide (row < 4096)
  | .fusedComplete die row _ => decide (die < 2) && decide (row < 4096)
  | .digestComplete die row => decide (die < 2) && decide (row < 4096)
  | .rowLimitExpire die row => decide (die < 2) && decide (row < 4096)
  | .descriptorTakeUp _ => true
  | .patNextWrite _ _ _ pattern stepLo => fits 8 pattern && fits 32 stepLo
  | .patternRestart _ => true
  | .forcedStepMark => true
  | .msetPendingWrite _ set bitmap => decide (set < 64) && fits 65536 bitmap
  | .plannedFlitArrive port tag data _ hops path => decide (port < 8) && tagOk tag && lineOk data && decide (hops < 8) && fits 24 path
  | .pdata slot tag data => decide (slot < 8) && tagOk tag && lineOk data
  | .pack slot tag => decide (slot < 8) && tagOk tag
  | .read h => hdrOk h
  | .write h data => hdrOk h && bytesOk data
  | .writeMasked h mask data => hdrOk h && fits 256 mask && bytesOk data
  | .readBulk h => hdrOk h
  | .writeBulk h data => hdrOk h && bytesOk data
  | .swap h operand => hdrOk h && bytesOk operand
  | .cas h compare new => hdrOk h && bytesOk compare && bytesOk new
  | .fetchAdd h operand => hdrOk h && bytesOk operand
  | .fetchAnd h operand => hdrOk h && bytesOk operand
  | .fetchOr h operand => hdrOk h && bytesOk operand
  | .fetchXor h operand => hdrOk h && bytesOk operand
  | .fetchMin h operand => hdrOk h && bytesOk operand
  | .fetchMax h operand => hdrOk h && bytesOk operand
  | .fetchUmin h operand => hdrOk h && bytesOk operand
  | .fetchUmax h operand => hdrOk h && bytesOk operand
  | .fence h => hdrOk h
  | .openDispatch die => decide (die < 2)
  | .openPerformed _ _ => true
  | .correctionWriteback _ => true
  | .accOpenResponse _ _ data hint => bytesOk data && fits 16 hint
  | .openTimeout _ => true
  | .telemetryRefresh => true
  | .wardenSnapshot => true
  | .memOpenCfgWrite _ die timeout hint => decide (die < 2) && fits 32 timeout && fits 32 hint
  | .scrubRead _ _ => true
  | .response _ _ data hint _ => bytesOk data && fits 16 hint
  | .flitReceive link flit _ _ => decide (link < 16) && bytesOk flit && flit.length == 200
  | .keepaliveFlit link => decide (link < 16)
  | .laneSignalLoss link lane => decide (link < 16) && decide (lane < 16)
  | .linkSilenceTimeout link => decide (link < 16)
  | .linkHoldoffExpire link => decide (link < 16)
  | .linkTrainStart link => decide (link < 16)
  | .trainStepComplete link found =>
    decide (link < 16) && (found.order.all fun l => decide (l < 16)) && fits 16 found.polarity && fits 16 found.latTx && fits 16 found.latRx
  | .trainTimeout link => decide (link < 16)
  | .peerId port hub peerPort kind txPeer rxPeer master spare word4 =>
    decide (port < 8) && decide (hub < 250000) && decide (peerPort < 8) && decide (kind < 4) &&
      fits 16 txPeer && fits 16 rxPeer && decide (master < 250000) && fits 11 spare && fits 32 word4
  | .hint slot angle watts duration tag => decide (slot < 8) && fits 16 angle && fits 16 watts && fits 16 duration && fits 16 tag
  | .activity slot gauge _ tag counters => decide (slot < 8) && decide (gauge < 64) && fits 16 tag && counters.length == 16
  | .activityLost slot => decide (slot < 8)
  | .mgmtReq link hub tag payload => decide (link < 16) && fits 18 hub && fits 24 tag && (payload.all fun w => fits 32 w)
  | .autoAdmit slot => decide (slot < 8)
  | .identityRead slot bytes => decide (slot < 8) && bytesOk bytes
  | .modulePresencePoll port _ => decide (port < 8)
  | .moduleFlagPoll port _ => decide (port < 8)
  | .linkRetrain _ die mask => decide (die < 2) && fits 8 mask
  | .linkClear _ die mask => decide (die < 2) && fits 8 mask
  | .accPresent slot => decide (slot < 8)
  | .mgmtResp link hub tag payload => decide (link < 16) && fits 18 hub && fits 24 tag && (payload.all fun w => fits 32 w)
  | .accRemoved slot => decide (slot < 8)
  | .trayCastOn _ => true
  | .trayBindOff _ => true
  | .slotCastOn _ slots => fits 8 slots
  | .slotBindOff _ slots => fits 8 slots
  | .castOnGroupEnable => true
  | .railPgChange channel _ => decide (channel < 64)
  | .railGood channel => decide (channel < 64)
  | .railNotGood channel => decide (channel < 64)
  | .railFault channel => decide (channel < 64)
  | .perstRelease => true
  | .bindOffGroupDrop => true
  | .railVoutRead channel mv => decide (channel < 64) && fits 16 mv
  | .railFallen channel => decide (channel < 64)
  | .railNotFallen channel => decide (channel < 64)
  | .inputSettleExpire => true
  | .ksCalibrate slot _ => decide (slot < 8)
  | .auxUpdate _ => true
  | .trayEstimate => true
  | .averageRefresh => true
  | .throttleHoldExpire => true
  | .capDutyStep => true
  | .capUnmet => true
  | .guardDutyStep => true
  | .voltageCutWrite => true
  | .voltageConfirm slot mv => decide (slot < 8) && fits 16 mv
  | .gaugeMismatch slot => decide (slot < 8)
  | .hubAllowance => true
  | .powerReleaseWrites => true
  | .rampLimiterTick => true
  | .rampWindowEnd => true
  | .energyAttribute => true
  | .gaugeResult die row _ => decide (die < 2) && decide (row < 4096)
  | .gaugeApply => true
  | .slowPeriod => true
  | .accTempRead slot _ => decide (slot < 8)
  | .thermistorSample n value => decide (n < 16) && fits 16 value
  | .surrogateTick _ _ => true
  | .modelResume => true
  | .valveControl => true
  | .pumpFanControl => true
  | .fanStartTimeout fan _ => decide (fan < 8)
  | .fanKick fan _ => decide (fan < 8)
  | .tachWindow _ _ _ => true
  | .pumpSpeedFail pump => decide (pump < 2)
  | .fanProbe fan current => decide (fan < 8) && fits 16 current
  | .valveFlag valve position => decide (valve < 8) && fits 8 position
  | .floorTick => true
  | .thermalCeiling => true
  | .hubThermalThrottle die _ => decide (die < 2)
  | .overJunction die => decide (die < 2)
  | .kilnTrip die sensors => decide (die < 2) && decide (sensors < 4)
  | .kilnTripClear reading => decide (reading.die < 2) && fits 16 reading.sensorA && fits 16 reading.sensorB
  | .accThermtrip slot => decide (slot < 8)
  | .thermtripValveExpire slot => decide (slot < 8)
  | .leakSample _ => true
  | .wetZoneOrder zone => decide (zone < 8)
  | .zoneUnguarded zone => decide (zone < 8)
  | .zoneUnguardClear zone => decide (zone < 8)
  | .leakClearWrite _ zones => fits 8 zones
  | .coolClearFan _ fans => fits 8 fans
  | .coolClearPump _ pumps => fits 8 pumps
  | .coolClearValve _ valves => fits 8 valves
  | .coolClearModel _ => true
  | .rcTrim error temp index => fits 16 error && fits 16 temp && decide (index < 64)
  | .voltAlarm die index mv => decide (die < 2) && decide (index < 64) && fits 16 mv
  | .droopAlarm die group count => decide (die < 2) && decide (group < 16) && fits 32 count
  | .ringOscMeasure die tile value => decide (die < 2) && decide (tile < 64) && fits 16 value
  | .monSelWrite _ die kind index => decide (die < 4) && decide (kind < 4) && decide (index < 64)
  | .crossCheckReport step gauge domains0 domains1 => fits 48 step && decide (gauge < 64) && fits 32 domains0 && fits 32 domains1
  | .crossCheckMissing => true
  | .containmentRelease => true
  | .memoryRetrainComplete => true
  | .partitionWipeComplete part => decide (part < 8)
  | .hubLatchRelease _ => true
  | .shadowComplete unit _ => decide (unit < 128)
  | .swatchOrder _ _ index => fits 8 index
  | .swatchDue unit => decide (unit < 136)
  | .swatchEnd unit _ _ _ failBits => decide (unit < 136) && fits 128 failBits
  | .watchdogExpire p pc => decide (p < 8) && fits 32 pc
  | .watchdogKick _ mask => fits 8 mask
  | .processorTrap p pc _ => decide (p < 8) && fits 32 pc
  | .processorRelease p _ => decide (p < 8)
  | .dutiesResumed p => decide (p < 8)
  | .restartTimeout p => decide (p < 8)
  | .processorRevive _ mask => fits 8 mask
  | .processorRestartOrder _ mask => fits 8 mask
  | .arbPost p c _ _ => decide (p < 8) && decide (c < 6)
  | .arbDraw c _ => decide (c < 6)
  | .arbTicketWrite _ c _ value => decide (c < 6) && fits 32 value
  | .reassemblyTimeout _ => true
  | .sessionOpen m _ => msgOk m
  | .sessionClose m => msgOk m
  | .features m bitmap => msgOk m && fits 128 bitmap
  | .budgetSet m watts => msgOk m && fits 16 watts
  | .capSet m scope _ watts => msgOk m && fits 8 scope && fits 16 watts
  | .gaugeFixOn m pin => msgOk m && fits 8 pin
  | .gaugeFixOff m pin => msgOk m && fits 8 pin
  | .partitionPowerOn m parts => msgOk m && fits 8 parts
  | .partitionPowerOff m parts => msgOk m && fits 8 parts
  | .powerOff m => msgOk m
  | .patternSelect m pattern _ _ stepLo => msgOk m && fits 8 pattern && fits 32 stepLo
  | .admitMsg m _ => msgOk m
  | .expel m unit => msgOk m && fits 16 unit
  | .telemetryRead m offset len => msgOk m && fits 32 offset && fits 16 len
  | .logRead m ring first count => msgOk m && fits 8 ring && fits 16 first && fits 16 count
  | .traceSet m hubctl point _ => msgOk m && fits 8 hubctl && fits 16 point
  | .recorderFreeze m => msgOk m
  | .recorderRelease m => msgOk m
  | .recorderRead m first count => msgOk m && fits 64 first && fits 32 count
  | .swatchRun m unit => msgOk m && fits 16 unit
  | .swatchResult m unit => msgOk m && fits 16 unit
  | .clearLatchFan m index => msgOk m && fits 8 index
  | .clearLatchPump m index => msgOk m && fits 8 index
  | .clearLatchValve m index => msgOk m && fits 8 index
  | .clearLatchModel m index => msgOk m && fits 8 index
  | .clearLatchZone m index => msgOk m && fits 8 index
  | .clearLatchLink m index => msgOk m && fits 8 index
  | .clearLatchProcessor m index => msgOk m && fits 8 index
  | .clearLatchHubHold m index => msgOk m && fits 8 index
  | .sessionLeaseExpire => true
  | .actAlone => true
  | .lockoutExpire _ => true
  | .icmpv6Echo _ _ => true
  | .neighbourDiscovery _ _ => true
  | .datagramFragment _ _ len => fits 16 len
  | .reservedMessageCode m code => msgOk m && fits 16 code
  | .managementPortLink _ => true
  | .caskWrite _ => true
  | .blockEraseComplete _ => true
  | .runClose _ => true
  | .headerSnapshot => true
  | .caskScan => true
  | .freezeExpire => true
  | .operatingSecond => true
  | .wardenVerify _ => true
  | .configValidate _ => true
  | .hubSectionsLoad die _ _ => decide (die < 2)
  | .memoryTrained die => decide (die < 2)
  | .teststoreVerify _ held mode => fits 32 held.hubSet && decide (mode < 4) && (held.sets.all fun x => fits 32 x)
  | .updateBegin m typ _ length => msgOk m && fits 8 typ && fits 32 length
  | .updateBlock m offset length _ => msgOk m && fits 32 offset && fits 32 length
  | .updateEnd m _ => msgOk m
  | .skeinOpen m _ => msgOk m
  | .skeinLoad m offset data => msgOk m && fits 32 offset && bytesOk data
  | .skeinPublish m => msgOk m
  | .skeinWithdraw m => msgOk m
  | .activateWarden m flags _ => msgOk m && fits 8 flags
  | .activateHubctl m flags _ => msgOk m && fits 8 flags
  | .activateFullRestart m flags => msgOk m && fits 8 flags
  | .regionEraseComplete => true
  | .transferIdleExpire => true
  | .tricklePoll _ => true
  | .tricklePull => true
  | .skeinReceive _ _ _ _ => true
  | .pushChunkStatus slot status => decide (slot < 8) && fits 8 status
  | .pushTimeout slot => decide (slot < 8)
  | .svnAdvance typ _ => fits 8 typ
  | .settingsCompact => true
  | .attestReport m nonce => msgOk m && fits 256 nonce
  | .attestCertificate m offset => msgOk m && fits 32 offset
  | .keyStage m slot _ => msgOk m && fits 8 slot
  | .provision m _ => msgOk m
  | .deploy m _ => msgOk m
  | .returnConsent m _ => msgOk m
  | .returnPart m _ => msgOk m
  | .retire m _ => msgOk m
  | .revoke m _ => msgOk m
  | .unlock m _ => msgOk m
  | .lock m => msgOk m
  | .consentLapse => true
  | .debugLimitExpire => true
  | .tokenShift _ => true
  | .makerProgramming _ => true
  | .debugHalt p => decide (p < 8)
  | .clockHeldLow c => decide (c < 6)
  | .arrInjectWrite _ die _ tile => decide (die < 2) && decide (tile < 64)

end Sys2Proof
end

