-- ==== Sys2Proof/Tests/Slice0.lean ====
section
/-! SUPPORT. Tests: ill-formed commands, worked examples of the spec, and, for each statement with hypotheses, concrete states and operands
that meet them. -/

set_option linter.unusedVariables false
set_option Elab.async false

namespace Sys2Proof.Tests

open Sys2Proof Sys2Proof.Machine

/-- A field set. -/
def live : State :=
  { ([0, 1, 2, 3, 4, 5, 6, 7].foldl (fun (s : State) p => s.wr (R.FW_PROC.state p) 1) State.reset) with
    sup := { standby := true, wardenOn := true, dies := [(0, { released := true, trained := true, sections := true }), (1, { released := true, trained := true, sections := true })] },
    seq := { state := 2 } }

/-- The check of an image of type `typ` whose body of `len` bytes is rightly signed by the maker, security version 0. -/
def goodCheck (typ len : Nat) : ImageCheck :=
  { header := bytesOf 4 0x494D4701 ++ [1, typ, 0, 0] ++ bytesOf 8 0 ++ bytesOf 8 len ++ bytesOf 104 0 }

/-- The code images as they verify. -/
def goodCode : CodeImages := { warden := goodCheck 2 256, hubctl := goodCheck 3 256 }

/-- The sections of a small configuration image: type and length. -/
def smallSections : List (Nat × Nat) :=
  [(1, 256), (2, 128), (3, 0), (4, 0), (5, 144), (6, 0), (7, 0), (8, 96), (9, 0), (10, 0), (13, 15616)]

/-- The bytes of a small configuration image that passes validation, section k at 256 k (R430 to R437). -/
def goodRead : ConfigRead :=
  { check := goodCheck 4 18432
    directory := bytesOf 4 0x43464701 ++ bytesOf 12 11 ++
      smallSections.zipIdx.flatMap fun (p : (Nat × Nat) × Nat) => [p.1.1, 1, 0, 0] ++ bytesOf 4 (256 * (p.2 + 1)) ++ bytesOf 4 p.1.2 ++ bytesOf 4 0
    crcs := List.replicate 11 0
    tray := bytesOf 8 0 ++ [8] ++ bytesOf 3 0xFAC688 ++ bytesOf 166 0 ++ [64] ++ bytesOf 77 0
    rails := [(0, 8), (1, 9), (2, 10), (3, 10), (4, 10), (5, 10), (6, 10), (7, 10)].map fun (p : Nat × Nat) =>
      [p.1, p.2 + 16 * p.1] ++ bytesOf 2 1000 ++ bytesOf 2 100 ++ bytesOf 2 50 ++ bytesOf 2 200 ++ bytesOf 4 0 ++ bytesOf 2 20
    power := bytesOf 16 0 ++ (List.replicate 64 (bytesOf 2 1)).flatten
    sliceCount := 4
    slices := ((List.range 4).flatMap fun k => bytesOf 4 (32 + 16 * k) ++ bytesOf 3 2 ++ [k + 1]) ++
      (List.replicate 4 (bytesOf 8 4 ++ bytesOf 8 0xFF)).flatten
    keys := List.replicate 15616 0
    rest := { plant := { table := (List.range 8).map fun (k : Nat) => { breakpoint := (k : Int), floorValve := 100, floorPump := 100, floorFan := 100 } } } }

/-- The image that these bytes give. -/
def image : Image := configImage goodRead

/-- The OTP of a part in MAKER. -/
def madeOtp : Otp := { markers := [(1, 7)], makerKeys := [5, 0, 0, 0] }

/-- `live` with slot 2's accelerator admitted, in a membership set and its link UP, and pattern 3, with one mark, active. -/
def served : State :=
  { live.wr (R.LNK_STATE.state 0 2) 3 with
    pat := { admitted := 4, joined := 1, msets := [(0, { active := 4, pending := 4 })], active := some 3, lib := [(3, { number := 3, marks := [{ mark := 7, quorum := 1, angle := 9 }] })] } }

/-- An END row, the first of its list. -/
def endRow : List Nat :=
  let w := [0xB01B - 0xB000, 0, 0xFFFFFF] ++ List.replicate 12 0
  w ++ [crc32c (rowBytes60 w)]

/-- `served` with pattern 3's only row an END row, running. -/
def running : State :=
  { served.wr (R.PAT_STATUS.state 0) 1 with
    pat := { served.pat with lib := [(3, { number := 3, rows0 := [endRow], domains0 := 1 })], seqs := [(0, {}), (1, {})] } }

/-- `served` with a row of a kind in flight on H0. -/
def inFlightOf (kind : Nat) (f : Flight → Flight) : State :=
  { served with pat := { served.pat with seqs := [(0, {}), (1, {})], flights := [f { die := 0, row := 2, words := [kind] }] } }

/-- `live` with every domain of H0 on, the memory of part 0 open to all, queue 0 open to slot 0, and slot 0 admitted on link 0. -/
def opened : State :=
  { (live.wr (R.LNK_STATE.state 0 0) 3).wr (R.PWR_DOMAIN_H.on 0) 0x7FFFFFF with
    pat := { admitted := 1, joined := 1 }
    mem := { guards := [{ base := 0x20000000, limit := 0x203200000, part := 7 }], queues := [(0, { slots := 1 })] } }

/-- A request of four bytes on slot 0's queue. -/
def poolReq (op : OpenOp) : OpenReq :=
  { op := op, hdr := { queue := 0, addr := 0x200000000000, size := 4 }, data := [1, 2, 3, 4] }

/-- `opened` with one request dispatched. -/
def withCtx (op : OpenOp) : State :=
  { opened with mem := { opened.mem with ctxs := [{ id := 4, req := poolReq op, die := 0, at_ := 0 }] } }

/-- `live` with the management port up, the rack manager's session open and every feature negotiated. -/
def held : State :=
  { (((live.wr R.MGT_STATUS.port_up 1).wr (R.FW_NEG.bits 0) 0xFFFFFFFF).wr R.UPD_STATUS.loader 1).wr R.MGT_STATUS.held 1 with
    mgt := { session := some { id := 9, role := .rackManager, source := 0, key := 0 } }
    seq := { state := 2, verified := true } }

/-- The session's next message. -/
def next1 : Msg := { session := 9, sequence := 1 }

/-- The state in which `next1` is acted on at `s`, a message of code `k`. -/
def upon (s : State) (k : Order) : State := (takesUp s k next1).getD s

/-- `held` as a custodian of 64 MiB at the start of the HBM, whose lines are served. -/
def custody : State :=
  { ((((held.wr R.UPD_CUSTODY_SIZE.mib 64).wr R.UPD_CUSTODY_BASE.unit 0x20000000).wr (R.PWR_DOMAIN_H.on 0) 0x7FFFFFF).wr (R.PWR_DOMAIN_H.on 1) 0x7FFFFFF) with
    upd := { custody := some { typ := 4, id := 7, length := 512 }, loaded := 3 } }

/-- `held` in MAKER, with the tray off and an owner's keys staged. -/
def made : State :=
  { held with otp := madeOtp, seq := { state := 0 }, flash := { cert := 1 } }

/-- `running` with the list of one row on H0, and the sets of hubs and of ranks that its rows name. -/
def atRow (w : List Nat) : State :=
  { running with
    pat := { running.pat with msets := [(0, { hub := true, active := 1 }), (1, { active := 4 })], lib := [(3, { number := 3, rows0 := [w ++ [crc32c (rowBytes60 w)]], domains0 := 1, msets := 3 })] } }

/-- The words of a row without its check: its kind and its words from W4. -/
def rowOf (kind : Nat) (more : List Nat := []) : List Nat :=
  [kind + 16, 0, 0xFFFFFF, 0] ++ more ++ List.replicate (11 - more.length) 0

/-- A pattern with one FENCE row of number 6 on each die. -/
def fences : Pattern := { number := 3, rows0 := [rowOf 9 [6]], rows1 := [rowOf 9 [6]] }

/-- `opened` with a staging area at the start of the HBM and descriptor 65 dirty, staged as 4 FP32 elements in slot 0's window. -/
def staged (old : Desc) (byte13 : Nat) : State :=
  { (opened.wr (R.PWR_DOMAIN_H.on 1) 0x7FFFFFF).wr (R.PAT_DESC_STAGE_HI.addr 0) 8192 with
    pat := { opened.pat with descs := [(65, old)], takeUpAt := some 0 }
    mem := { opened.mem with pool := Memory.writeBytes (Memory.writeBytes [] (2 ^ 45 + 32 * 65) (bytesOf 8 0x20000000 ++ bytesOf 4 4 ++ [0x42, byte13])) (2 ^ 45 + 131072 + 8) [2] } }

/-- A read of a word of slot 0's window. -/
def windowReq : OpenReq := { op := .read, hdr := { queue := 0, addr := 0, size := 4 } }

/-- The header of a read on port 0 of hub 5's memory. -/
def afar : OpenHdr := { link := 8, queue := 0, addr := 5 * 2 ^ 46 + 0x200000000000, size := 4 }

/-- `opened` with ports 0 and 1 UP and hub 5 reached by port 1. -/
def between : State :=
  { (opened.wr (R.LNK_STATE.state 0 4) 3).wr (R.LNK_STATE.state 0 5) 3 with mem := { opened.mem with paths := [{ lo := 5, hi := 5, egress := 1 }] } }

/-- `opened` with a share of 20 % and one request at the head of queue 0. -/
def queued (r : OpenReq) : State :=
  { (opened.wr (R.MEM_SHARE.link_applied 0) 20).wr (R.MEM_SHARE.pool_applied 0) 20 with
    seq := { opened.seq with present := 1 }
    lnk := { identity := [(0, { windowSize := 65536 })] }
    mem := { opened.mem with guards := [{ base := 0, limit := 0xFFFFFFFF, part := 7 }], waiting := [(0, [{ id := 4, req := r, at_ := 0 }])], nextId := 5 } }

/-- The bytes of an identity memory that passes its checks: the header, with serial 77, 64 KiB of window and 16 lanes, and nothing more. -/
def goodIdentity : List Nat :=
  let h := bytesOf 4 0x7EA51D01 ++ bytesOf 2 1 ++ bytesOf 2 64 ++ List.replicate 16 0 ++ bytesOf 8 77 ++ bytesOf 8 65536 ++ [16, 0] ++ List.replicate 18 0
  h ++ bytesOf 4 (crc32c h)

/-! Ill-formed commands: one for each kind of check. -/

theorem test_wellFormed_registers : [Instr.registerWrite .steward (2 ^ 32) 0, .registerWrite .steward 0 (2 ^ 32), .readClear .steward (2 ^ 32),
    .latchedLowRead .host (2 ^ 32), .memOpenCfgWrite .steward 2 0 0, .memOpenCfgWrite .steward 0 (2 ^ 32) 0, .toleranceWrite .steward 2 0,
    .toleranceWrite .steward 0 65536, .arrInjectWrite .steward 0 true 64, .clockHeldLow 6, .arbTicketWrite .steward 6 true 0,
    .leakClearWrite .steward 256, .coolClearFan .steward 256, .coolClearPump .steward 256, .coolClearValve .steward 256,
    .monSelWrite .steward 4 0 0, .monSelWrite .steward 0 4 0, .monSelWrite .steward 0 0 64].all (fun i => ! wellFormed i) = true := by decide

theorem test_wellFormed_dies : [Instr.domainSwitchRequest .steward 2 0, .domainSwitchRequest .steward 0 27, .domainOnComplete 2 0,
    .domainOffRequest .steward 0 27, .referenceCheck [0], .hubResetSingle .steward 2, .hubRelease .steward 2, .governorEstimate 2 [],
    .governorRescale 0 (2 ^ 32), .governorRelease 2, .packageLimitUnmet 2, .packageLimitClear 2, .openDispatch 2, .linkRetrain .steward 2 0,
    .linkRetrain .steward 0 256, .linkClear .steward 2 0, .hubThermalThrottle 2 [], .overJunction 2, .kilnTrip 2 0, .kilnTrip 0 4, .kilnTripClear ⟨2, 0, 0⟩,
    .voltAlarm 2 0 0, .voltAlarm 0 64 0, .droopAlarm 0 16 0, .ringOscMeasure 0 64 0, .hubSectionsLoad 2 true true, .memoryTrained 2].all
      (fun i => ! wellFormed i) = true := by decide

theorem test_wellFormed_groups : [Instr.stepMarkMessage 8 0, .stepMarkMessage 0 (2 ^ 48), .phaseMark 0 256 0, .phaseMark 0 0 65536,
    .timeRequest 8 0 0 ⟨⟨false, 0⟩, 0⟩, .timeRequest 0 65536 0 ⟨⟨false, 0⟩, 0⟩, .timeRequest 0 0 250000 ⟨⟨false, 0⟩, 0⟩,
    .timeRequest 0 0 0 ⟨⟨false, 32⟩, 0⟩, .timeRequest 0 0 0 ⟨⟨false, 0⟩, 10001⟩, .timeReply 0 0 0 5 0 0 0 ⟨false, 0⟩, .timeReply 0 0 0 0 250000 0 0 ⟨false, 0⟩, .timeReply 0 0 0 0 0 0 0 ⟨false, 32⟩, .timeReplyMissed 8, .rowTrigger 2 0,
    .rowTrigger 0 3, .rowTrigger 0 328, .collectiveComplete 0 4096 [], .arrayComplete 2 0 [] [], .sliceComplete 0 4096 [],
    .fusedComplete 0 4096 [], .digestComplete 2 0, .rowLimitExpire 0 4096, .patNextWrite .steward true true 256 0,
    .msetPendingWrite .steward 64 0, .plannedFlitArrive 8 {} none .clean 0 0, .plannedFlitArrive 0 {} none .clean 8 0, .pdata 8 {} none,
    .pack 0 { die := 2 }].all (fun i => ! wellFormed i) = true := by decide

theorem test_wellFormed_open : [Instr.read { link := 16 }, .write { queue := 256 } [], .write {} [256], .writeMasked {} (2 ^ 256) [],
    .readBulk { size := 6 }, .writeBulk { size := 4100 } [], .swap { tag := 2 ^ 24 } [], .cas {} [256] [], .fetchAdd { addr := 2 ^ 64 } [],
    .fence { link := 16 }].all (fun i => ! wellFormed i) = true := by decide

theorem test_wellFormed_links : [Instr.flitReceive 0 [] true 0, .keepaliveFlit 16, .laneSignalLoss 0 16, .linkSilenceTimeout 16, .linkHoldoffExpire 16,
    .linkTrainStart 16, .trainStepComplete 16 {}, .trainStepComplete 0 { order := [16] }, .trainStepComplete 0 { polarity := 65536 }, .trainStepComplete 0 { latTx := 65536 }, .trainTimeout 16, .peerId 8 0 0 0 0 0 0 0 0, .peerId 0 250000 0 0 0 0 0 0 0, .peerId 0 0 0 4 0 0 0 0 0, .peerId 0 0 0 1 0 0 0 2048 0, .hint 8 0 0 0 0, .hint 0 0 0 65536 0, .activity 0 64 true 0 [],
    .activityLost 8, .mgmtReq 16 0 0 [], .mgmtReq 0 0 0 [2 ^ 32], .mgmtResp 0 (2 ^ 18) 0 [], .autoAdmit 8, .modulePresencePoll 8 default, .accPresent 8, .accRemoved 8].all
      (fun i => ! wellFormed i) = true := by decide

theorem test_wellFormed_power : [Instr.slotCastOn .steward 256, .slotBindOff .steward 256, .railPgChange 64 true, .railGood 64, .railNotGood 64,
    .railFault 64, .railVoutRead 0 65536, .railFallen 64, .railNotFallen 64, .ksCalibrate 8 none, .voltageConfirm 8 0, .gaugeMismatch 8,
    .gaugeResult 2 0 [], .accTempRead 8 none, .thermistorSample 16 0, .fanStartTimeout 8 true, .fanKick 8 false, .pumpSpeedFail 2, .fanProbe 8 0,
    .valveFlag 8 0, .accThermtrip 8, .thermtripValveExpire 8, .wetZoneOrder 8, .zoneUnguarded 8, .zoneUnguardClear 8, .rcTrim 0 0 64].all
      (fun i => ! wellFormed i) = true := by decide

theorem test_wellFormed_units : [Instr.crossCheckReport 0 64 0 0, .partitionWipeComplete 8, .shadowComplete 128 true, .swatchOrder .steward true 256,
    .swatchDue 136, .swatchEnd 136 true true true 0, .watchdogExpire 8 0, .watchdogKick .steward 256, .processorTrap 8 0 none, .processorRelease 8 true,
    .dutiesResumed 8, .restartTimeout 8, .processorRevive .steward 256, .processorRestartOrder .steward 256, .arbPost 0 6 [] 0, .arbDraw 6 0,
    .debugHalt 8, .teststoreVerify default ⟨2 ^ 32, []⟩ 0, .teststoreVerify default ⟨0, []⟩ 4, .pushChunkStatus 8 0, .pushTimeout 8, .svnAdvance 256 false].all
      (fun i => ! wellFormed i) = true := by decide

theorem test_wellFormed_messages : [Instr.sessionClose { magic := 65536 }, .sessionClose { version := 256 }, .sessionClose { codeHigh := 16 },
    .features {} (2 ^ 128), .budgetSet {} 65536, .capSet {} 256 true 0, .gaugeFixOn {} 256, .partitionPowerOn {} 256, .patternSelect {} 256 true true 0,
    .expel {} 65536, .telemetryRead {} (2 ^ 32) 0, .logRead {} 256 0 0, .traceSet {} 256 0 true, .recorderRead {} (2 ^ 64) 0, .swatchRun {} 65536,
    .clearLatchFan {} 256, .reservedMessageCode {} 65536, .updateBegin {} 256 false 0, .updateBlock {} (2 ^ 32) 0 true,
    .skeinLoad {} (2 ^ 32) [], .activateWarden {} 256 default, .attestReport {} (2 ^ 256), .attestCertificate {} (2 ^ 32),
    .keyStage {} 256 0].all (fun i => ! wellFormed i) = true := by decide

/-- Commands within every range. -/
theorem test_wellFormed_good : [Instr.registerWrite .steward 0x1010000 1, .read { addr := 0x200000000000, size := 256 }, .swatchDue 135,
    .rowTrigger 1 (512 + 71), .sessionClose {}].all wellFormed = true := by decide

/-! Worked examples of the spec. -/

/-- The address of the memory chapter's example: LPDDR5X channel 8, on H1, home slice 267 of that die, q = 0x0123_4567 (R171). -/
theorem test_home_of_the_example_address :
    homeOf (0x30D4281234567800 % 2 ^ 46) = { unit := 16 + 8, die := 1, core := 267, index := 0x1234567 } ∧
      0x30D4281234567800 / 2 ^ 46 = 50000 := by decide

/-- The same address in the channel's raw memory, and its place among the poison bits (R316). -/
theorem test_raw_channel_of_the_example :
    rawLine 19088743 = 0x14CE19A00 ∧ rawSymbols 19088743 = 0x14CE19F40 ∧ (List.range 3).map (rawPoison 19088743) = [0x14CE19FE0, 0x14CE19FE1, 0x14CE19FE2] ∧
      19088743 % 7 = 2 := by decide

/-- Lane 9 of AL5, which is accelerator link 1 of H1 (R495). -/
theorem test_lane_balls_of_the_example :
    laneBalls 1 (accLane 1 9) = { txp := ⟨62, 53⟩, txn := ⟨62, 54⟩, rxp := ⟨74, 53⟩, rxn := ⟨74, 54⟩ } := by decide

/-- Gauge 48, slot 2 at 86.3 °C with target 85, slot 5 at 80.4 with target 80: the ceiling is 46 (R289). -/
theorem test_thermal_ceiling_of_the_example :
    let s := { (((((live.wr (R.COOL_ACC.temp 2) 690).wr (R.COOL_ACC.temp 5) 643).wr (R.COOL_ACC.target 5) 80).wr R.PWR_GAUGE.gauge 48)) with
      pat := { admitted := 36, joined := 1 } }
    (thermalCeiling s).rd R.COOL_THERMAL.ceiling = 46 := by decide +kernel

/-- H0 at 97.4 °C with target 95: n is 3 and the factor 85% (R291). -/
theorem test_hub_factor_of_the_example :
    let t := hubThermalThrottle 0 [700, 779] { live with img := { live.img with plant := { live.img.plant with hubTarget := 95 } } }
    t.rd R.COOL_HUB_THR.h0_excess = 3 ∧ t.rd R.COOL_HUB_THR.h0_factor = 85 := by decide +kernel

/-- The encoding of a loop's resistance (R301). -/
theorem test_loop_states : [50, 100, 1999, 2000, 7999, 8000, 12000, 12001, 100001].map loopState = [3, 1, 1, 4, 4, 0, 0, 4, 2] := by decide

/-- A write of an unaligned offset is INVALID, one of another die's running state aside (R11). -/
theorem test_unaligned_write : (registerWrite .steward 0x1010001 1 live).out.head? = some (.answer .invalid 0 0) := by decide +kernel


/-! Witnesses of the statements' hypotheses. -/

theorem test_witness_RegisterCommands_1 :
    (let s : State := live.wr (R.CAD_STATUS.out_of_range 0) 1; let v := 0x100; (s.dieUp 0 = true)) := by decide +kernel

theorem test_witness_RegisterCommands_2 :
    (let s : State := live.wr (R.CAD_STALL_COUNT.count 0) 7; (s.dieUp 0 = true)) := by decide +kernel

theorem test_witness_RegisterCommands_3 :
    (let s : State := live.addWide (R.COL_ADDS_LO.count 0) 0x500000007; (s.dieUp 0 = true)) := by decide +kernel

theorem test_witness_RegisterCommands_4 :
    (let s : State := live.wr (R.ARB_CTL.held 2) 1; let c := 2; (1 ≤ c ∧ c ≤ 4) ∧ (s.on (R.ARB_CTL.held c) = true)) := by decide +kernel

theorem test_witness_RegisterCommands_5 :
    (let s : State := live; let a := Agent.steward; let d := 1; let arm := true; let tile := 5; (a ≠ Agent.host) ∧ (debugOpen s = true)
      ∧ (s.dieUp d = true) ∧ (tile < 64)) := by decide +kernel

theorem test_witness_PowerAndResetsKeepFlashAndOtp_1 :
    (let s : State := { live with sup := {} }; (s.sup.standby = false)) := by decide +kernel

theorem test_witness_PowerAndResetsKeepFlashAndOtp_2 :
    (let s : State := live; (s.sup.standby = true)) := by decide +kernel

theorem test_witness_PowerAndResetsKeepFlashAndOtp_3 :
    (let s : State := { live with sup := { standby := true, riseAt := 5 }, now := 1005 }; (s.sup.standby = true) ∧ (s.sup.wardenOn =
      false) ∧ (s.sup.riseAt + 1000 ≤ s.now)) := by decide +kernel

theorem test_witness_PowerAndResetsKeepFlashAndOtp_4 :
    (let s : State := live; (s.sup.standby = true) ∧ (s.sup.wardenOn = true)) := by decide +kernel

theorem test_witness_DomainCommands_1 :
    (let s : State := live; let a := Agent.proc 1; let d := 1; let n := 26; (asksDomains a = true) ∧ (d < 2) ∧ (n < 27) ∧ (kilnActive s
      d = false) ∧ (s.domainOn d n = false) ∧ ((tget s.sup.dies d).starting = []) ∧ ((tget s.sup.dies d).lastStart = none)) := by decide +kernel

theorem test_witness_DomainCommands_2 :
    (let s : State := live.modDie 0 (fun x => { x with starting := [(3, 0)] }); let d := 0; let n := 3; (d < 2) ∧ (n < 27) ∧ ((tfind
      (tget s.sup.dies d).starting n).any (fun at_ => decide (at_ ≤ s.now)) = true)) := by decide +kernel

theorem test_witness_DomainCommands_3 :
    (let s : State := live.wr (R.PWR_DOMAIN_H.on 1) 0xFF; let a := Agent.steward; let d := 1; let n := 2; (asksDomains a = true) ∧ (d <
      2) ∧ (n < 27) ∧ (s.activePattern = none)) := by decide +kernel

theorem test_witness_HubReleaseAndReset_1 :
    (let s : State := ({ live with sup := { standby := true, wardenOn := true } }.wr R.CFG_STATUS.state 1).wr R.UPD_STATUS.loader 1;
      let d := 1; (d < 2) ∧ (mayRelease s d = true) ∧ (s.itg.containAt = none)) := by decide +kernel

theorem test_witness_HubReleaseAndReset_2 :
    (let s : State := live; let d := 0; (s.dieUp d = true)) := by decide +kernel

theorem test_witness_HubReleaseAndReset_3 :
    (let s : State := ({ live with sup := { standby := true, wardenOn := true }, itg := { containAt := some 0 }, now := 10000 }.wr R.CFG_STATUS.state 1).wr R.UPD_STATUS.loader 1;
      (s.itg.containAt.any (fun at_ => decide (at_ + 10000 ≤ s.now)) = true) ∧ (s.sup.refFailed / 2 = 0) ∧ (s.procUp 0 = true) ∧
      (mayRelease s 0 = true) ∧ (mayRelease s 1 = true)) := by decide +kernel

theorem test_witness_FailedReferenceHoldsBothDies_1 :
    (let s : State := { live with sup := { live.sup with refOut := [(3, 0)] }, now := 1000 }; let ppm := [0, 0, 0, 1001]; let i := 3;
      let at_ := 0; (1 ≤ i ∧ i ≤ 4) ∧ (1000 < ppm.getD i 0) ∧ (tfind s.sup.refOut i = some at_) ∧ (at_ + 1000 ≤ s.now) ∧
      (s.sup.refFailed.testBit i = false)) := by decide +kernel

theorem test_witness_FailedReferenceHoldsBothDies_2 :
    (let s : State := { live with sup := { live.sup with refFailed := 4 }, now := 10000 }; (s.sup.refFailed / 2 ≠ 0) ∧
      (s.sup.refGoodSince + 10000 ≤ s.now) ∧ ([1, 2, 3, 4].any (fun i => (tfind s.sup.refOut i).isSome) = false)) := by decide +kernel

theorem test_witness_FailedReferenceHoldsBothDies_3 :
    (let s : State := { live with sup := { live.sup with refFailed := 4 }, now := 9999 }; (s.now < s.sup.refGoodSince + 10000 ∨ [1, 2,
      3, 4].any (fun i => (tfind s.sup.refOut i).isSome) = true)) := by decide +kernel

theorem test_witness_StartUpChecks_1 :
    (let s : State := { State.reset with otp := madeOtp }; let c := goodCheck 1 256; (s.sup.wardenOn = true) ∧ (s.sup.loaderStarted =
      false) ∧ (s.sup.romHold = false) ∧ (imageVerdict s 1 c = none) ∧ (s.lifeState ≠ 0 ∧ s.lifeState ≠ 5) ∧ (s.rd (R.FW_PROC.state 0) ≠
      3)) := by decide +kernel

theorem test_witness_StartUpChecks_2 :
    (let s : State := State.reset; let c := ({ readable := false } : ImageCheck); (s.sup.wardenOn = true) ∧ (s.sup.loaderStarted =
      false) ∧ ((imageVerdict s 1 c).isSome = true)) := by decide +kernel

theorem test_witness_StartUpChecks_3 :
    (let s : State := { State.reset with otp := madeOtp, sup := { standby := true, wardenOn := true, loaderStarted := true } };
      let c := goodCode; (s.sup.loaderStarted = true) ∧ (s.rd R.UPD_STATUS.loader = 0) ∧ (codeVerified s = false) ∧ (s.lifeState ≠ 4) ∧
      (imageVerdict s 2 c.warden = none) ∧ (imageVerdict s 3 c.hubctl = none) ∧ (([1, 2, 3].all fun (p : Nat) => s.rd (R.FW_PROC.state
      p) != 3) = true)) := by decide +kernel

theorem test_witness_StartUpChecks_4 :
    (let s : State := { live.wr (R.CFG_MILESTONE.ms 0) 5 with otp := madeOtp }; let r := goodRead; (s.procUp 0 = true) ∧ (s.rd
      R.UPD_STATUS.loader = 0) ∧ (codeVerified s = true) ∧ (s.rd R.CFG_STATUS.state = 0) ∧ (imageVerdict s 4 r.check = none) ∧
      (configFailure s r = none)) := by decide +kernel

theorem test_witness_StartUpChecks_5 :
    (let s : State := { live.wr (R.CFG_MILESTONE.ms 0) 5 with otp := madeOtp }; let r := { goodRead with tray := [] }; (s.procUp 0 =
      true) ∧ (s.rd R.UPD_STATUS.loader = 0) ∧ (codeVerified s = true) ∧ (s.rd R.CFG_STATUS.state = 0) ∧ (imageVerdict s 4 r.check =
      none) ∧ ((configFailure s r).isSome = true)) := by decide +kernel

theorem test_witness_StartUpChecks_6 :
    (let s : State := (live.modDie 1 (fun x => { x with sections := false })).wr R.CFG_STATUS.state 1; let d := 1; let copyOk := false;
      (s.dieUp d = true) ∧ (s.procUp 0 = true) ∧ ((tget s.sup.dies d).sections = false) ∧ (s.rd R.CFG_STATUS.state = 1)) := by decide +kernel

theorem test_witness_StartUpChecks_7 :
    (let s : State := live.modDie 0 (fun x => { x with trained := false }); let d := 0; (s.dieUp d = true) ∧ ((tget s.sup.dies
      d).sections = true) ∧ ((tget s.sup.dies d).trained = false)) := by decide +kernel

theorem test_witness_StartUpChecks_8 :
    (let s : State := { live with otp := madeOtp }; let c := goodCheck 5 256; let hubSet := 5; let mode := 1; let sets := [7];
      (s.anyDieUp = true) ∧ (s.procUp 0 = true) ∧ (hubSet ≤ 1073741824) ∧ (imageVerdict s 5 c = none)) := by decide +kernel

theorem test_witness_GovernorCommands_1 :
    (let s : State := live; let d := 1; let activity := [5, 6]; (s.dieUp d = true)) := by decide +kernel

theorem test_witness_GovernorCommands_2 :
    (let s : State := live.modDie 0 (fun x => { x with estimate := 9000 }); let d := 0; let measured := 12000; (s.dieUp d = true) ∧
      (s.procUp 1 = true) ∧ (3000 < (tget s.sup.dies d).estimate)) := by decide +kernel

theorem test_witness_GovernorCommands_3 :
    (let s : State := { live.modDie 0 (fun x => { x with marginSince := some 0, issueCut := 1 }) with now := 100 }; let d := 0;
      let at_ := 0; (s.dieUp d = true) ∧ ((tget s.sup.dies d).marginSince = some at_) ∧ (at_ + 100 ≤ s.now) ∧ ((tget s.sup.dies
      d).lastRelease + 10 ≤ s.now) ∧ ((tget s.sup.dies d).issueCut ≠ 0 ∨ (tget s.sup.dies d).shareCut ≠ 0)) := by decide +kernel

theorem test_witness_GovernorCommands_4 :
    (let s : State := { live.modDie 1 (fun x => { x with overSince := some 0 }) with now := 100 }; let d := 1; let at_ := 0; (s.dieUp d
      = true) ∧ ((tget s.sup.dies d).overSince = some at_) ∧ (at_ + 100 ≤ s.now) ∧ ((tget s.sup.dies d).unmet = false)) := by decide +kernel

theorem test_witness_GovernorCommands_5 :
    (let s : State := { live.modDie 1 (fun x => { x with underSince := some 0, unmet := true }) with now := 1000 }; let d := 1;
      let at_ := 0; ((tget s.sup.dies d).underSince = some at_) ∧ (at_ + 1000 ≤ s.now) ∧ ((tget s.sup.dies d).unmet = true)) := by decide +kernel

theorem test_witness_CadenceCommands_1 :
    (let s : State := live; (s.anyDieUp = true)) := by decide +kernel

theorem test_witness_CadenceCommands_2 :
    (let s : State := { live with cad := { live.cad with started := true, est := 4 }, gt := { live.gt with time := 10000 } };
      (s.cad.overdue s.gt.time = true)) := by decide +kernel

theorem test_witness_CadenceCommands_3 :
    (let s : State := served; let slot := 2; let step := 5; (s.marksHeard slot = true)) := by decide +kernel

theorem test_witness_CadenceCommands_4 :
    (let s : State := served; let slot := 2; let mark := 7; let tag := 0; let i := 0; (s.phaseHeard slot = true) ∧ (markIndex
      s.markTable mark = some i) ∧ (tag % 2 ^ 16 = s.cad.step % 2 ^ 16) ∧ (s.cad.mismatch.testBit slot = false) ∧ ((tget s.cad.senders
      i).testBit slot = false) ∧ (s.cad.taken.testBit i = false) ∧ (quorumOf s (s.markTable.getD i default) ≤ popcount (setBit (tget
      s.cad.senders i) slot true) 8)) := by decide +kernel

theorem test_witness_CadenceCommands_5 :
    (let s : State := served; let slot := 2; let mark := 8; let tag := 0; (s.phaseHeard slot = true) ∧ (markIndex s.markTable mark =
      none)) := by decide +kernel

theorem test_witness_CadenceCommands_6 :
    (let s : State := { served with cad := { served.cad with takes := [(0, 0, 2)], tolerance := 0x4000 }, gt := { served.gt with time := 256 } };
      let i := 0; let stamp := 0; let acc := 2; let rest := ([] : List (Nat × Nat × Nat)); (s.cad.takes = (i, stamp, acc) :: rest) ∧
      (stamp + 256 ≤ s.gt.time) ∧ (acc ≠ 8) ∧ (s.cad.held = false) ∧ (s.cad.stalled = false) ∧ ((((s.markTable.getD i default).angle * 2
      ^ 32 : Nat) - (s.cad.phase : Int)).natAbs ≤ s.cad.tolerance * 2 ^ 32)) := by decide +kernel

theorem test_witness_CadenceCommands_7 :
    (let s : State := live; let die := 1; let value := 1024; (s.dieUp die = true) ∧ (1024 ≤ value ∧ value ≤ 32767)) := by decide +kernel

theorem test_witness_CadenceCommands_8 :
    (let s : State := { live with cad := { live.cad with tolerancePending := [(2000, 0)] }, gt := { live.gt with time := 1000 } };
      let v := 2000; let at_ := 0; let rest := ([] : List (Nat × Nat)); (s.cad.tolerancePending = (v, at_) :: rest) ∧ (at_ + 1000 ≤
      s.gt.time)) := by decide +kernel

theorem test_witness_StepMarkCommands_1 :
    (let s : State := { served with cad := { served.cad with markStamp := some 0 }, gt := { served.gt with time := 256 } };
      let stamp := 0; let n := 3; let p := ({ number := 3, marks := [{ mark := 7, quorum := 1, angle := 9 }] } : Pattern);
      (s.cad.markStamp = some stamp) ∧ (stamp + 256 ≤ s.gt.time) ∧ ((latchPattern (fenceForSwatch (readmitTiles s)) (nextStep s)).2 =
      some n) ∧ (tfind s.pat.lib n = some p)) := by decide +kernel

theorem test_witness_StepMarkCommands_2 :
    (let s : State := { live with cad := { live.cad with markStamp := some 0 }, gt := { live.gt with time := 256 } }; let stamp := 0;
      (s.cad.markStamp = some stamp) ∧ (stamp + 256 ≤ s.gt.time) ∧ ((latchPattern (fenceForSwatch (readmitTiles s)) (nextStep s)).2 =
      none)) := by decide +kernel

theorem test_witness_StepMarkCommands_3 :
    (let s : State := (live.wr (R.PAT_STATUS.state 0) 1).wr (R.PAT_STATUS.state 1) 1; let valid := true; let atStep := true;
      let pattern := 255; let stepLo := 7; (s.anyDieUp = true) ∧ (valid = false ∨ (seqMode s ≠ 0 ∧ seqMode s ≠ 3)) ∧ (pattern < 256) ∧
      (stepLo < 2 ^ 32)) := by decide +kernel

theorem test_witness_StepMarkCommands_4 :
    (let s : State := served; let atStep := false; let pattern := 3; let stepLo := 7; (s.anyDieUp = true) ∧ (seqMode s = 0 ∨ seqMode s =
      3) ∧ (pattern < 256) ∧ (stepLo < 2 ^ 32) ∧ (refused s pattern = false)) := by decide +kernel

theorem test_witness_StepMarkCommands_5 :
    (let s : State := { served with pat := { served.pat with forced := some (3, 0) }, gt := { served.gt with time := 32 } }; let n := 3;
      let at_ := 0; let p := ({ number := 3, marks := [{ mark := 7, quorum := 1, angle := 9 }] } : Pattern); (s.pat.forced = some (n,
      at_)) ∧ (at_ < s.gt.time) ∧ (tfind s.pat.lib n = some p)) := by decide +kernel

theorem test_witness_StepMarkCommands_6 :
    (let s : State := live; let set := 3; let bitmap := 5; (s.anyDieUp = true) ∧ (set < 64)) := by decide +kernel

theorem test_witness_GroupTimeCommands_1 :
    (let s : State := { live.wr (R.LNK_STATE.state 0 4) 3 with gt := { live.gt with time := 1000000 } }; (s.dieUp 0 = true) ∧
      (s.gt.state ≠ 4) ∧ (s.gt.lastSend + 1000000 ≤ s.gt.time) ∧ (s.gt.secondary = false) ∧ (s.portUp s.tree.primary = true) ∧ (timePort
      s s.tree.primary = true)) := by decide +kernel

theorem test_witness_GroupTimeCommands_2 :
    (let s : State := live.wr (R.LNK_STATE.state 0 4) 3; let port := 0; let sequence := 9; let hub := 1; let ns := 3; let turn := 500;
      (s.portUp port = true) ∧ (timePort s port = true)) := by decide +kernel

theorem test_witness_GroupTimeCommands_3 :
    (let s : State := { live with gt := { live.gt with time := 96, state := 1, inFlight := [(0, 0, 5)] } }; let port := 0;
      let sequence := 5; let hub := 0; let up := 2; let master := 0; let t2 := 40; let t3 := 50; let t1 := 0; let ns := 4; (s.dieUp 0 =
      true) ∧ (timePort s port = true) ∧ (tfind s.gt.inFlight port = some (t1, sequence)) ∧ (s.gt.time + ns ≤ t1 + 100000) ∧ (master =
      s.tree.master) ∧ (upstreamAllowed s.gt.state up = true) ∧ (port = upstreamPort s)) := by decide +kernel

theorem test_witness_GroupTimeCommands_4 :
    (let s : State := { live with gt := { live.gt with time := 100000, inFlight := [(0, 0, 5)] } }; let port := 0; let t1 := 0;
      let q := 5; (s.dieUp 0 = true) ∧ (tfind s.gt.inFlight port = some (t1, q)) ∧ (t1 + 100000 ≤ s.gt.time) ∧ (port = upstreamPort s) ∧
      (s.tree.secondaryValid = false)) := by decide +kernel

theorem test_witness_GroupTimeCommands_5 :
    (let s : State := { live with gt := { live.gt with time := 10000000, state := 2 } }; (s.gt.state = 1 ∨ s.gt.state = 2) ∧
      (s.gt.lastValid + 10000000 ≤ s.gt.time) ∧ (s.dieUp 0 = true)) := by decide +kernel

theorem test_witness_RowsTriggerAndComplete_1 :
    (let s : State := atRow (rowOf 10 [0x1E0F]); let d := 0; let p := (tfind (atRow (rowOf 10 [0x1E0F])).pat.lib 3).getD default;
      let ws := (rowsOf ((tfind (atRow (rowOf 10 [0x1E0F])).pat.lib 3).getD default) 0).headD []; (s.activePattern = some p) ∧ (s.dieUp
      d = true) ∧ (s.rd (R.PAT_STATUS.state d) = 1) ∧ (usesDie p d = true) ∧ ((tget s.pat.seqs d).ended = false) ∧ (s.pat.forced = none)
      ∧ (s.cad.markStamp = none) ∧ ((tget s.pat.seqs d).startAt ≤ s.gt.time) ∧ (s.pat.staging = []) ∧ (s.pat.blocked = []) ∧ ((rowsOf p
      d)[(tget s.pat.seqs d).next]? = some ws) ∧ (rowKind ws ≠ 9) ∧ (completesAtTrigger s d ws = true) ∧ (malformedReason s p ws (tget
      s.pat.seqs d).next s.img.profiles.length false = none) ∧ (rowReady s p d (tget s.pat.seqs d).next ws = true)) := by decide +kernel

theorem test_witness_RowsTriggerAndComplete_2 :
    (let s : State := atRow (rowOf 8 [0]); let d := 0; let p := (tfind (atRow (rowOf 8 [0])).pat.lib 3).getD default;
      let ws := (rowsOf ((tfind (atRow (rowOf 8 [0])).pat.lib 3).getD default) 0).headD []; (s.activePattern = some p) ∧ (s.dieUp d =
      true) ∧ (s.rd (R.PAT_STATUS.state d) = 1) ∧ (usesDie p d = true) ∧ ((tget s.pat.seqs d).ended = false) ∧ (s.pat.forced = none) ∧
      (s.cad.markStamp = none) ∧ ((tget s.pat.seqs d).startAt ≤ s.gt.time) ∧ (s.pat.staging = []) ∧ (s.pat.blocked = []) ∧ ((rowsOf p
      d)[(tget s.pat.seqs d).next]? = some ws) ∧ (rowKind ws ≠ 9) ∧ (completesAtTrigger s d ws = false) ∧ (flightOf s d (tget s.pat.seqs
      d).next = none) ∧ (malformedReason s p ws (tget s.pat.seqs d).next s.img.profiles.length false = none) ∧ (rowReady s p d (tget
      s.pat.seqs d).next ws = true)) := by decide +kernel

theorem test_witness_RowsTriggerAndComplete_3 :
    (let s : State := atRow (rowOf 9 [6]); let d := 0; let p := (tfind (atRow (rowOf 9 [6])).pat.lib 3).getD default;
      let ws := (rowsOf ((tfind (atRow (rowOf 9 [6])).pat.lib 3).getD default) 0).headD []; (s.activePattern = some p) ∧ (s.dieUp d =
      true) ∧ (s.rd (R.PAT_STATUS.state d) = 1) ∧ (usesDie p d = true) ∧ ((tget s.pat.seqs d).ended = false) ∧ (s.pat.forced = none) ∧
      (s.cad.markStamp = none) ∧ ((tget s.pat.seqs d).startAt ≤ s.gt.time) ∧ (s.pat.staging = []) ∧ (s.pat.blocked = []) ∧ ((rowsOf p
      d)[(tget s.pat.seqs d).next]? = some ws) ∧ (rowKind ws = 9) ∧ (((fencePartner p d (tget s.pat.seqs d).next).all fun (r : List Nat
      × Nat) => rowField r.1 4 15 0 == rowField ws 4 15 0) = true) ∧ (malformedReason s p ws (tget s.pat.seqs d).next
      s.img.profiles.length false = none) ∧ (rowReady s p d (tget s.pat.seqs d).next ws = true)) := by decide +kernel

theorem test_witness_RowsTriggerAndComplete_4 :
    (let s : State := atRow (rowOf 11); let d := 0; let p := (tfind (atRow (rowOf 11)).pat.lib 3).getD default;
      let ws := (rowsOf ((tfind (atRow (rowOf 11)).pat.lib 3).getD default) 0).headD []; (s.activePattern = some p) ∧ (s.dieUp d = true)
      ∧ (s.rd (R.PAT_STATUS.state d) = 1) ∧ (usesDie p d = true) ∧ ((tget s.pat.seqs d).ended = false) ∧ (s.pat.forced = none) ∧
      (s.cad.markStamp = none) ∧ ((tget s.pat.seqs d).startAt ≤ s.gt.time) ∧ (s.pat.staging = []) ∧ (s.pat.blocked = []) ∧ ((rowsOf p
      d)[(tget s.pat.seqs d).next]? = some ws)) := by decide +kernel

theorem test_witness_RowsTriggerAndComplete_5 :
    (let s : State := { running with pat := { running.pat with lib := [(3, fences)], seqs := [(0, { fences := [{ row := 0, number := 6, at_ := 0 }] }), (1, { fences := [{ row := 0, number := 6, at_ := 5 }] })] }, gt := { time := 69 } };
      let i := 0; let j := 0; let n := 6; let a := 0; let b := 5; let p := fences; let w0 := rowOf 9 [6]; let w1 := rowOf 9 [6]; ((tget
      s.pat.seqs 0).fences = [({ row := i, number := n, at_ := a } : FenceRow)]) ∧ ((tget s.pat.seqs 1).fences =
      [({ row := j, number := n, at_ := b } : FenceRow)]) ∧ (s.activePattern = some p) ∧ (max a b + 64 ≤ s.gt.time) ∧ (fencePartner p 0
      i = some (w1, j)) ∧ (fencePartner p 1 j = some (w0, i))) := by decide +kernel

theorem test_witness_RowsTriggerAndComplete_6 :
    (let s : State := inFlightOf 2 (id); let die := 0; let row := 2; let fl := { die := 0, row := 2, words := [2] : Flight };
      let residue := ([] : List Nat); (flightOf s die row = some fl) ∧ (rowKind fl.words = 2) ∧ (fl.written = false) ∧ (inputsArrived s
      fl = true)) := by decide +kernel

theorem test_witness_RowsTriggerAndComplete_7 :
    (let s : State := inFlightOf 2 (fun f => { f with written := true }); let die := 0; let row := 2;
      let fl := { die := 0, row := 2, words := [2], written := true : Flight }; let residue := ([] : List Nat); (flightOf s die row =
      some fl) ∧ (rowKind fl.words = 2) ∧ (fl.written = true) ∧ (allDone s fl = true)) := by decide +kernel

theorem test_witness_RowsTriggerAndComplete_8 :
    (let s : State := inFlightOf 3 (id); let die := 0; let row := 2; let fl := { die := 0, row := 2, words := [3] : Flight };
      let bad := ([] : List Nat); let residue := ([] : List Nat); (flightOf s die row = some fl) ∧ (rowKind fl.words = 3)) := by decide +kernel

theorem test_witness_RowsTriggerAndComplete_9 :
    (let s : State := inFlightOf 4 (id); let die := 0; let row := 2; let fl := { die := 0, row := 2, words := [4] : Flight };
      let bad := ([] : List Nat); (flightOf s die row = some fl) ∧ (rowKind fl.words = 4)) := by decide +kernel

theorem test_witness_RowsTriggerAndComplete_10 :
    (let s : State := inFlightOf 5 (fun f => { f with shard := some [] }); let die := 0; let row := 2;
      let fl := { die := 0, row := 2, words := [5], shard := some [] : Flight }; let residue := ([] : List Nat); (flightOf s die row =
      some fl) ∧ (rowKind fl.words = 5) ∧ (fl.written = false) ∧ (fl.shard.isSome = true) ∧ (inputsArrived s fl = true)) := by decide +kernel

theorem test_witness_RowsTriggerAndComplete_11 :
    (let s : State := inFlightOf 5 (fun f => { f with written := true }); let die := 0; let row := 2;
      let fl := { die := 0, row := 2, words := [5], written := true : Flight }; let residue := ([] : List Nat); (flightOf s die row =
      some fl) ∧ (rowKind fl.words = 5) ∧ (fl.written = true) ∧ (allDone s fl = true)) := by decide +kernel

theorem test_witness_RowsTriggerAndComplete_12 :
    (let s : State := inFlightOf 6 (id); let die := 0; let row := 2; let fl := { die := 0, row := 2, words := [6] : Flight }; (flightOf
      s die row = some fl) ∧ (rowKind fl.words = 6) ∧ (fl.written = false) ∧ (inputsArrived s fl = true)) := by decide +kernel

theorem test_witness_RowsTriggerAndComplete_13 :
    (let s : State := inFlightOf 6 (fun f => { f with written := true }); let die := 0; let row := 2;
      let fl := { die := 0, row := 2, words := [6], written := true : Flight }; (flightOf s die row = some fl) ∧ (rowKind fl.words = 6)
      ∧ (fl.written = true) ∧ (allDone s fl = true) ∧ (inputsArrived s fl = true)) := by decide +kernel

theorem test_witness_RowsTriggerAndComplete_14 :
    (let s : State := inFlightOf 8 (id); let die := 0; let row := 2; let fl := { die := 0, row := 2, words := [8] : Flight };
      let others := ([] : List Nat); (flightOf s die row = some fl) ∧ (rowKind fl.words = 8)) := by decide +kernel

theorem test_witness_RowsTriggerAndComplete_15 :
    (let s : State := { inFlightOf 2 (fun f => { f with written := true, limit := 5 }) with gt := { time := 5 } }; let die := 0;
      let row := 2; let fl := { die := 0, row := 2, words := [2], written := true, limit := 5 : Flight }; (die < 2) ∧ (flightOf s die
      row = some fl) ∧ (fl.limit ≠ 0) ∧ (fl.trigAt + fl.limit ≤ s.gt.time)) := by decide +kernel

theorem test_witness_PlannedTrafficCommands_1 :
    (let s : State := { live with pat := { takeUpAt := some 0 } }; let at_ := 0; (s.pat.takeUpAt = some at_) ∧ (at_ ≤ s.gt.time) ∧
      (s.anyDieUp = true) ∧ (stageBase s = 0)) := by decide +kernel

theorem test_witness_PlannedTrafficCommands_2 :
    (let s : State := staged { stageOk := true, generation := 65535 } 1; let at_ := 0; let base := 2 ^ 45; let i := 65;
      let v := (poolNumber s (2 ^ 45 + 32 * 65) 32).getD 0; (s.pat.takeUpAt = some at_) ∧ (at_ ≤ s.gt.time) ∧ (s.anyDieUp = true) ∧
      (stageBase s = base) ∧ (0 < base) ∧ (base + 131584 ≤ 2 ^ 46) ∧ (base % 256 = 0) ∧ (inPool (base + 131072 + 8 * (i / 64)) = true) ∧
      (i < 4096) ∧ (∀ w ∈ List.range 64, poolNumber s (base + 131072 + 8 * w) 8 = some (if w = i / 64 then 2 ^ (i % 64) else 0)) ∧
      (poolNumber s (base + 32 * i) 32 = some v) ∧ (rejectCause (descOf s i) (some (decodeDesc v)) = none)) := by decide +kernel

theorem test_witness_PlannedTrafficCommands_3 :
    (let s : State := staged { stageOk := true } 0; let cause := 2; let at_ := 0; let base := 2 ^ 45; let i := 65;
      let v := (poolNumber s (2 ^ 45 + 32 * 65) 32).getD 0; (s.pat.takeUpAt = some at_) ∧ (at_ ≤ s.gt.time) ∧ (s.anyDieUp = true) ∧
      (stageBase s = base) ∧ (0 < base) ∧ (base + 131584 ≤ 2 ^ 46) ∧ (base % 256 = 0) ∧ (inPool (base + 131072 + 8 * (i / 64)) = true) ∧
      (i < 4096) ∧ (∀ w ∈ List.range 64, poolNumber s (base + 131072 + 8 * w) 8 = some (if w = i / 64 then 2 ^ (i % 64) else 0)) ∧
      (poolNumber s (base + 32 * i) 32 = some v) ∧ (rejectCause (descOf s i) (some (decodeDesc v)) = some cause)) := by decide +kernel

theorem test_witness_PlannedTrafficCommands_4 :
    (let s : State := ((running.wr (R.PAT_NEXT.valid 0) 1).wr (R.PAT_NEXT.pattern 0) 3).wr (R.PWR_DOMAIN_H.on 0) 1; (s.anyDieUp = true)
      ∧ (s.on (R.PAT_NEXT.valid (leadDie s)) = true) ∧ (seqMode s = 1 ∨ seqMode s = 2) ∧ (refused s (s.rd (R.PAT_NEXT.pattern (leadDie
      s))) = false)) := by decide +kernel

theorem test_witness_PlannedTrafficCommands_5 :
    (let s : State := { live.wr (R.LNK_STATE.state 0 4) 3 with lnk := { links := [(8, { planned := true, credit := [(0, 4)] })] } };
      let port := 0; let tag := ({} : RowTag); let data := some [1]; let check := MemCheck.clean; let hops := 1; let path := 0;
      (portPlanned s port = true) ∧ (0 < hops) ∧ (portPlanned s (path % 8) = true)) := by decide +kernel

theorem test_witness_PlannedTrafficCommands_6 :
    (let s : State := { (inFlightOf 2 id).wr (R.LNK_STATE.state 0 4) 3 with lnk := { links := [(8, { planned := true })] } };
      let port := 0; let tag := { pattern := 3, row := 2 : RowTag }; let data := some [1]; let path := 0;
      let fl := { die := 0, row := 2, words := [2] : Flight }; (portPlanned s port = true) ∧ (s.pat.staging = []) ∧ (s.pat.blocked = [])
      ∧ (tag.die < 2) ∧ (s.dieUp tag.die = true) ∧ (flightOf s tag.die tag.row = some fl) ∧ (tagCurrent s tag = true) ∧ (fl.written =
      false) ∧ (fl.remote = [])) := by decide +kernel

theorem test_witness_PlannedTrafficCommands_7 :
    (let s : State := inFlightOf 2 id; let slot := 2; let tag := { pattern := 3, row := 2 : RowTag }; let data := some [1];
      let fl := { die := 0, row := 2, words := [2] : Flight }; (slot < 8) ∧ (s.linkState slot = 3) ∧ (flightOf s tag.die tag.row = some
      fl) ∧ (tagCurrent s tag = true) ∧ (s.pat.active = some tag.pattern) ∧ (fl.written = false) ∧ (fl.lost.testBit slot = false) ∧
      (fl.lines = [])) := by decide +kernel

theorem test_witness_PlannedTrafficCommands_8 :
    (let s : State := inFlightOf 2 (fun f => { f with written := true }); let slot := 2; let tag := { pattern := 3, row := 2 : RowTag };
      let fl := { die := 0, row := 2, words := [2], written := true : Flight }; (slot < 8) ∧ (s.linkState slot = 3) ∧ (flightOf s
      tag.die tag.row = some fl) ∧ (tagCurrent s tag = true) ∧ (fl.written = true)) := by decide +kernel

theorem test_witness_OpenRequestsQueue :
    (openEntry (.read { queue := 0 }) = some { op := .read, hdr := { queue := 0 } } ∧ opened.linkState 0 = 3 ∧
      passesThrough opened { op := .read, hdr := { queue := 0 } } = false ∧
      entryCheck opened { op := .read, hdr := { queue := 0 }, src := stampOf opened { queue := 0 } } = none) ∧
    entryCheck opened { op := .read, hdr := { queue := 0, size := 3 }, src := stampOf opened { queue := 0, size := 3 } } = some .invalid ∧
    (passesThrough between { op := .read, hdr := afar } = true ∧ addressOk between { op := .read, hdr := afar, src := stampOf between afar } = true ∧
      between.openPath 5 = some { lo := 5, hi := 5, egress := 1 } ∧ between.portUp 1 = true ∧ between.linkState 8 = 3 ∧ between.mem.crossing = []) :=
  by decide +kernel

theorem test_witness_OpenContextCommands_1 :
    (let s : State := queued (poolReq .read); let d := 0; let q := ((nextQueue s 0).getD default).1;
      let turn := ((nextQueue s 0).getD default).2.1; let deficit := ((nextQueue s 0).getD default).2.2;
      let w := ({ id := 4, req := poolReq .read, at_ := 0 } : Waiting); let rest := ([] : List Waiting); (d < 2) ∧ (s.carries d = true)
      ∧ (s.mem.crossing = []) ∧ (dieCtxCount s d < 8192) ∧ (nextQueue s d = some (q, turn, deficit)) ∧ (tget s.mem.waiting q = w ::
      rest) ∧ (dispatchLink s w.req = none)) := by decide +kernel

theorem test_witness_OpenContextCommands_2 :
    (let s : State := queued windowReq; let d := 0; let q := ((nextQueue s 0).getD default).1; let l := 0;
      let turn := ((nextQueue s 0).getD default).2.1; let deficit := ((nextQueue s 0).getD default).2.2;
      let w := ({ id := 4, req := windowReq, at_ := 0 } : Waiting); let rest := ([] : List Waiting); (d < 2) ∧ (s.carries d = true) ∧
      (s.mem.crossing = []) ∧ (dieCtxCount s d < 8192) ∧ (nextQueue s d = some (q, turn, deficit)) ∧ (tget s.mem.waiting q = w :: rest)
      ∧ (dispatchLink s w.req = some l) ∧ (l < 8) ∧ (windowTarget s w.req l = none) ∧ (s.linkState l = 3)) := by decide +kernel

theorem test_witness_OpenContextCommands_3 :
    (let s : State := { opened with mem := { ctxs := [{ id := 4, req := {}, die := 0, at_ := 0, link := some 2 }] } }; let id := 4;
      let hint := 0; let l := 2; let resp := Resp.ok; let data := [7];
      let c := { id := 4, req := {}, die := 0, at_ := 0, link := some 2 : Context }; (ctxOf s id = some c) ∧ (c.link = some l) ∧ (l <
      8)) := by decide +kernel

theorem test_witness_OpenContextCommands_4 :
    (let s : State := { opened with mem := { ctxs := [{ id := 4, req := {}, die := 0, at_ := 0, link := some 9 }] } }; let id := 4;
      let hint := 0; let l := 9; let resp := Resp.ok; let data := [7]; let unknown := false;
      let c := { id := 4, req := {}, die := 0, at_ := 0, link := some 9 : Context }; (ctxOf s id = some c) ∧ (c.link = some l) ∧ (8 ≤
      l)) := by decide +kernel

theorem test_witness_OpenContextCommands_5 :
    (let s : State := { opened with mem := { ctxs := [{ id := 4, req := {}, die := 0, at_ := 0 }] }, gt := { time := 100000000 } };
      let id := 4; let c := { id := 4, req := {}, die := 0, at_ := 0 : Context }; (ctxOf s id = some c) ∧ (c.req.op = OpenOp.read) ∧
      (c.die < 2) ∧ (c.at_ + s.rd (R.MEM_OPEN_CFG.timeout c.die) * 100000 ≤ s.gt.time) ∧ (s.procUp (queueProc c.req.hdr.queue) = true)) := by decide +kernel

theorem test_witness_OpenContextCommands_6 :
    (let s : State := live; let die := 1; let timeout := 1000; let hint := 1; (s.dieUp die = true) ∧ (1 ≤ timeout ∧ timeout ≤ 1000) ∧ (1
      ≤ hint ∧ hint ≤ 1000)) := by decide +kernel

theorem test_witness_PoolReadsPerformed :
    (ctxOf (withCtx .read) 4 = some { id := 4, req := poolReq .read, die := 0, at_ := 0 } ∧ opClass (poolReq .read).op = 0) ∧
    (ctxOf (withCtx .fence) 4 = some { id := 4, req := poolReq .fence, die := 0, at_ := 0 } ∧
      earlierPending (withCtx .fence) 4 (poolReq .fence) = false) ∧
    (let c : Context := { id := 4, req := { op := .read, hdr := { addr := 0x300000000000, size := 4 } }, die := 0, at_ := 0 }
     let s : State := { opened with mem := { guards := [{ base := 0, limit := 0xFFFFFFFF, part := 7 }], ctxs := [c] } }
     ctxOf s 4 = some c ∧ heldByOrder s c = false ∧ regionOf (c.req.hdr.addr % 2 ^ 46) = .telemetry ∧ guardAllows s c.req.src 0x300000000000 0 = true) :=
  by decide +kernel

theorem test_witness_PoolReady : PoolReady (withCtx .read) { id := 4, req := poolReq .read, die := 0, at_ := 0 } ∧
    PoolReady (withCtx .write) { id := 4, req := poolReq .write, die := 0, at_ := 0 } ∧
    PoolReady (withCtx .fetchAdd) { id := 4, req := poolReq .fetchAdd, die := 0, at_ := 0 } := by
  unfold PoolReady
  decide +kernel

theorem test_witness_PoolWritesPerformed_1 :
    ctxOf (withCtx .write) 4 = some { id := 4, req := poolReq .write, die := 0, at_ := 0 } ∧ (poolReq .write).data.length = 4 ∧
    Memory.wf (withCtx .write).mem.pool = true := by decide +kernel

theorem test_witness_PoolWritesPerformed_2 :
    let r : OpenReq := { op := .writeMasked, hdr := { queue := 0, addr := 0x200000000000, size := 256 }, mask := 5, data := List.replicate 256 1 }
    let c : Context := { id := 4, req := r, die := 0, at_ := 0 }
    let s := { opened with mem := { opened.mem with ctxs := [c] } }
    ctxOf s 4 = some c ∧ PoolReady s c ∧ r.hdr.addr % 256 = 0 ∧ r.data.length = 256 := by
  unfold PoolReady
  decide +kernel

theorem test_witness_PoolAtomicsPerformed :
    ctxOf (withCtx .fetchAdd) 4 = some { id := 4, req := poolReq .fetchAdd, die := 0, at_ := 0 } ∧ opClass (poolReq .fetchAdd).op = 2 ∧
    Memory.wf (withCtx .fetchAdd).mem.pool = true := by decide +kernel

theorem test_witness_IntegrityAndTelemetry_1 :
    (let s : State := live.wr R.ERR_CFG.scrub_en 1; let line := 0x2000000000; (s.on R.ERR_CFG.scrub_en = true) ∧ (inPool (line * 256) =
      true) ∧ (s.dieUp (homeOf (line * 256)).die = true) ∧ (line * 256 + 256 < 0x203200000000)) := by decide +kernel

theorem test_witness_IntegrityAndTelemetry_2 :
    (let s : State := live.wr R.ERR_CFG.scrub_en 1; let line := 0x2000000000; let symbols := 9; let first := 1; (s.on R.ERR_CFG.scrub_en
      = true) ∧ (inPool (line * 256) = true) ∧ (s.dieUp (homeOf (line * 256)).die = true) ∧ (s.mem.isMarked line = false)) := by decide +kernel

theorem test_witness_IntegrityAndTelemetry_3 :
    (let s : State := live.wr R.ERR_CFG.cross_en 1; let step := 0; let gauge := live.rd R.PWR_GAUGE.gauge; let d0 := 0; let d1 := 0;
      (s.anyDieUp = true) ∧ (s.on R.ERR_CFG.cross_en = true) ∧ (s.rd R.PWR_GAUGE.gauge = gauge) ∧ (s.rd (R.PWR_DOMAIN_H.on 0) = d0) ∧
      (s.rd (R.PWR_DOMAIN_H.on 1) = d1) ∧ (s.cad.step = step)) := by decide +kernel

theorem test_witness_IntegrityAndTelemetry_4 :
    (let s : State := { live.wr R.ERR_CFG.cross_en 1 with itg := { crossBad := 1 } }; let step := 0; let gauge := 7; let d0 := 0;
      let d1 := 0; (s.anyDieUp = true) ∧ (s.on R.ERR_CFG.cross_en = true) ∧ (s.rd R.PWR_GAUGE.gauge ≠ gauge) ∧ (s.itg.crossBad = 1) ∧
      (s.itg.crossItem = 0)) := by decide +kernel

theorem test_witness_IntegrityAndTelemetry_5 :
    (let s : State := { live.wr R.ERR_CFG.cross_en 1 with now := 10000 }; (s.anyDieUp = true) ∧ (s.on R.ERR_CFG.cross_en = true) ∧
      (s.itg.crossFailed = false) ∧ (max s.itg.reportAt (tget s.sup.dies (reportDie s)).releasedAt + 10000 ≤ s.now)) := by decide +kernel

theorem test_witness_IntegrityAndTelemetry_6 :
    (let s : State := { live with itg := { selfRefresh := 1, containAt := some 0 } }; (s.anyDieUp = true) ∧ (s.itg.selfRefresh ≠ 0) ∧
      (s.itg.containAt.isSome = true) ∧ (((List.range 16).any (linkComing s)) = false)) := by decide +kernel

theorem test_witness_IntegrityAndTelemetry_7 :
    (let s : State := { live with itg := { partitionsResetting := 4 } }; let p := 2; (s.itg.partitionsResetting.testBit p = true) ∧
      (s.anyDieUp = true)) := by decide +kernel

theorem test_witness_IntegrityAndTelemetry_8 :
    (let s : State := live; (s.anyDieUp = true) ∧ (s.mem.snapAt ≠ s.gt.time / 1000000 + 1)) := by decide +kernel

theorem test_witness_IntegrityAndTelemetry_9 :
    (let s : State := { State.reset with now := 5000 }; (s.anyDieUp = false) ∧ (s.sup.wardenOn = true) ∧ (s.mem.snapAt ≠ s.now / 1000 +
      1)) := by decide +kernel

theorem test_witness_LinkStateCommands_1 :
    (let s : State := live.wr (R.LNK_STATE.state 0 2) 3; let l := 2; let lane := 9; (l < 16) ∧ (s.linkState l = 3) ∧ (lane < 16)) := by decide +kernel

theorem test_witness_LinkStateCommands_2 :
    (let s : State := { live.wr (R.LNK_STATE.state 0 2) 3 with now := 10 }; let l := 2; (l < 16) ∧ (s.linkState l = 3) ∧ ((tget
      s.lnk.links l).lastFlit + 10 ≤ s.now)) := by decide +kernel

theorem test_witness_LinkStateCommands_3 :
    (let s : State := { live.wr (R.LNK_STATE.state 1 7) 4 with now := 100000 }; let l := 15; (l < 16) ∧ (s.linkState l = 4) ∧ ((tget
      s.lnk.links l).downAt + 100000 ≤ s.now)) := by decide +kernel

theorem test_witness_LinkStateCommands_4 :
    (let s : State := live.wr (R.LNK_STATE.state 0 4) 1; let l := 8; (l < 16) ∧ (s.linkState l = 1) ∧ (s.procUp (trainerOf l) = true) ∧
      (peerReady s l = true)) := by decide +kernel

theorem test_witness_LinkStateCommands_5 :
    (let s : State := (live.wr (R.LNK_STATE.state 0 4) 2).modLink 8 (fun k => { k with trainStep := 3 }); let l := 8;
      let order := [3, 2, 1, 0]; let polarity := 2; let latTx := 0; let latRx := 0; (l < 16) ∧ (s.linkState l = 2) ∧ (s.now ≤ (tget
      s.lnk.links l).stepAt + trainLimit (tget s.lnk.links l).trainStep) ∧ (s.now ≤ (tget s.lnk.links l).trainAt + 500000) ∧ ((tget
      s.lnk.links l).trainStep < 6) ∧ ((tget s.lnk.links l).trainStep = 3 → order = List.range (linkLanes l) ∨ order = (List.range
      (linkLanes l)).reverse)) := by decide +kernel

theorem test_witness_LinkStateCommands_6 :
    (let s : State := (live.wr (R.LNK_STATE.state 0 4) 2).modLink 8 (fun k => { k with trainStep := 3 }); let l := 8;
      let order := [1, 0, 2, 3]; let polarity := 2; let latTx := 0; let latRx := 0; (l < 16) ∧ (s.linkState l = 2) ∧ (s.now ≤ (tget
      s.lnk.links l).stepAt + trainLimit 3) ∧ (s.now ≤ (tget s.lnk.links l).trainAt + 500000) ∧ ((tget s.lnk.links l).trainStep = 3) ∧
      (order ≠ List.range (linkLanes l)) ∧ (order ≠ (List.range (linkLanes l)).reverse)) := by decide +kernel

theorem test_witness_LinkStateCommands_7 :
    (let s : State := (live.wr (R.LNK_STATE.state 0 4) 2).modLink 8 (fun k => { k with trainStep := 7 }); let l := 8;
      let order := ([] : List Nat); let polarity := 2; let latTx := 0; let latRx := 0; (l < 16) ∧ (s.linkState l = 2) ∧ (s.now ≤ (tget
      s.lnk.links l).stepAt + trainLimit 7) ∧ (s.now ≤ (tget s.lnk.links l).trainAt + 500000) ∧ ((tget s.lnk.links l).trainStep = 7)) := by decide +kernel

theorem test_witness_LinkStateCommands_8 :
    (let s : State := { (live.wr (R.LNK_STATE.state 0 4) 2).modLink 8 (fun k => { k with trainStep := 7 }) with now := 500001 };
      let l := 8; (l < 16) ∧ (s.linkState l = 2) ∧ ((tget s.lnk.links l).stepAt + trainLimit (tget s.lnk.links l).trainStep < s.now ∨
      (tget s.lnk.links l).trainAt + 500000 < s.now)) := by decide +kernel

theorem test_witness_LinkStateCommands_9 :
    (let s : State := (live.wr (R.LNK_STATE.state 1 5) 2).modLink 13 (fun k => { k with trainStep := 6, latTx := 5, latRx := 4 });
      let port := 5; let hub := 0; let peerPort := 0; let kind := 1; let txPeer := 3; let rxPeer := 9; let master := 0; let spare := 0;
      let word4 := 0; (port < 8) ∧ (s.linkState (8 + port) = 2) ∧ ((tget s.lnk.links (8 + port)).trainStep = 6) ∧ (hub = (tget
      s.img.ports port).peerHub) ∧ (peerPort = (tget s.img.ports port).peerPort) ∧ ((port = 7 ∧ s.hostPortMode = true ∧ kind = 2) ∨ (¬
      (port = 7 ∧ s.hostPortMode = true) ∧ kind = 1 ∧ master = s.tree.master)) ∧ (hub < 2 ^ 18) ∧ (peerPort < 8)) := by decide +kernel

theorem test_witness_LinkStateCommands_10 :
    (let s : State := (live.wr (R.LNK_STATE.state 1 5) 2).modLink 13 (fun k => { k with trainStep := 6 }); let l := 13; let port := 5;
      let hub := 0; let peerPort := 0; let kind := 2; let txPeer := 3; let rxPeer := 9; let master := 0; let spare := 0; let word4 := 0;
      (l = 8 + port) ∧ (port < 8) ∧ (s.linkState l = 2) ∧ ((tget s.lnk.links l).trainStep = 6) ∧ (kind ≠ (if port = 7 ∧ s.hostPortMode =
      true then 2 else 1) ∨ hub ≠ (tget s.img.ports port).peerHub ∨ peerPort ≠ (tget s.img.ports port).peerPort)) := by decide +kernel

theorem test_witness_LinkMessageCommands_1 :
    (let s : State := live.wr (R.LNK_STATE.state 0 2) 3; let l := 2; let corrected := 1; let flit := flitBytes 0 0 []; (l < 16) ∧
      (s.linkState l = 3) ∧ (flitOk flit = true) ∧ ((flitWord flit 0).testBit 30 = false) ∧ ((flitWord flit 0).testBit 3 = false) ∧
      (bits (flitWord flit 0) 27 16 = (tget s.lnk.links l).rxSeq) ∧ ((tget s.lnk.links l).nakSent = false ∨ (flitWord flit 0).testBit 31
      = true) ∧ (flitWord flit 1 = 0) ∧ ((tget s.lnk.links l).ctlPart = []) ∧ (tget (tget s.lnk.links l).pktPart (bits (flitWord flit 0)
      29 28) = []) ∧ (((List.range 47).all fun i => flitWord flit (2 + i) == 0) = true)) := by decide +kernel

theorem test_witness_LinkMessageCommands_2 :
    (let s : State := live.wr (R.LNK_STATE.state 0 2) 3; let l := 2; let corrected := 1; let flit := [1]; (l < 16) ∧ (s.linkState l = 3)
      ∧ (flitOk flit = false)) := by decide +kernel

theorem test_witness_LinkMessageCommands_3 :
    (let s : State := { live.wr (R.LNK_STATE.state 0 2) 3 with now := 2 }; let l := 2; (l < 16) ∧ (s.linkState l = 3) ∧ ((tget
      s.lnk.links l).lastSent + 2 ≤ s.now) ∧ ((tget s.lnk.links l).store.length < 2048)) := by decide +kernel

theorem test_witness_LinkMessageCommands_4 :
    (let s : State := served; let slot := 2; let angle := 5; let watts := 100; let duration := 9; let tag := 0; let lead := 0;
      (s.marksHeard slot = true) ∧ (tag % 65536 = s.cad.step % 65536) ∧ ((s.slotPower slot).hints < 8) ∧ (s.procUp 1 = true) ∧
      (s.cad.stalled = false) ∧ (lead = (if s.periodNs = 0 then 0 else s.rd R.PWR_RAMP_CFG.lead * 10000 * 65536 / s.periodNs)) ∧
      (s.cad.angle < angle % 65536 - lead) ∧ (s.pwr.hints = [])) := by decide +kernel

theorem test_witness_LinkMessageCommands_5 :
    (let s : State := served.wr (R.FW_PROC.state 1) 2; let slot := 2; let angle := 5; let watts := 100; let duration := 9; let tag := 0;
      (s.marksHeard slot = true) ∧ (tag % 65536 = s.cad.step % 65536) ∧ ((s.slotPower slot).hints < 8) ∧ (s.procUp 1 = false)) := by decide +kernel

theorem test_witness_LinkMessageCommands_6 :
    (let s : State := served; let slot := 2; let angle := 5; let watts := 100; let duration := 9; let tag := 3; (s.marksHeard slot =
      true) ∧ (tag % 65536 ≠ s.cad.step % 65536 ∨ 8 ≤ (s.slotPower slot).hints)) := by decide +kernel

theorem test_witness_LinkMessageCommands_7 :
    (let s : State := live.wr (R.LNK_STATE.state 0 2) 3; let slot := 2; let gauge := 4; let tag := 0; let slow := false;
      let counters := [1, 2]; (slot < 8) ∧ (s.linkState slot = 3)) := by decide +kernel

theorem test_witness_LinkMessageCommands_8 :
    (let s : State := { live.wr (R.LNK_STATE.state 0 2) 3 with now := 10 }; let slot := 2; (slot < 8) ∧ (s.linkState slot = 3) ∧ ((tget
      s.lnk.links slot).activityAt + 10 ≤ s.now)) := by decide +kernel

theorem test_witness_LinkMessageCommands_9 :
    (let s : State := live.wr (R.LNK_STATE.state 1 7) 3; let l := 15; let hub := 0; let tag := 2; let payload := [3]; (l < 16) ∧ (8 ≤ l)
      ∧ (s.linkState l = 3) ∧ (mgmtLength payload = true) ∧ (hub = s.tree.hub)) := by decide +kernel

theorem test_witness_LinkMessageCommands_10 :
    (let s : State := { (live.wr (R.LNK_STATE.state 1 7) 3).wr (R.LNK_STATE.state 0 7) 3 with mem := { paths := [{ lo := 9, hi := 9, egress := 3 }] } };
      let l := 15; let hub := 9; let tag := 2; let payload := [3]; let p := { lo := 9, hi := 9, egress := 3 : OpenPath }; (8 ≤ l) ∧
      (s.linkState l = 3) ∧ (mgmtLength payload = true) ∧ (hub ≠ s.tree.hub) ∧ (s.openPath hub = some p) ∧ (s.linkState (8 + p.egress) =
      3) ∧ (s.mem.crossing = []) ∧ ((([(2 * l, 4 * (3 + payload.length)), (2 * (8 + p.egress) + 1, 4 * (3 + payload.length))] ++
      bridgeCharges (linkDie l) (linkDie (8 + p.egress)) (4 * (3 + payload.length)) 0).all (hasTokens s)) = true) ∧ (l < 16)) := by decide +kernel

theorem test_witness_LinkMessageCommands_11 :
    (let s : State := live.wr (R.LNK_STATE.state 0 2) 3; let l := 2; let hub := 0; let tag := 2; let payload := [3]; (l < 8) ∧
      (s.linkState l = 3) ∧ (mgmtLength payload = true)) := by decide +kernel

theorem test_witness_LinkMessageCommands_12 :
    (let s : State := live.wr (R.LNK_STATE.state 0 2) 3; let l := 2; let hub := 0; let tag := 2; let payload := ([] : List Nat); (l <
      16) ∧ (s.linkState l = 3) ∧ (mgmtLength payload = false)) := by decide +kernel

theorem test_witness_LinkMessageCommands_13 :
    (let s : State := { (live.wr (R.LNK_STATE.state 1 7) 3).wr (R.LNK_STATE.state 0 7) 3 with mem := { paths := [{ lo := 9, hi := 9, egress := 3 }] } };
      let l := 15; let hub := 9; let tag := 2; let payload := [3]; let p := { lo := 9, hi := 9, egress := 3 : OpenPath }; (8 ≤ l) ∧
      (s.linkState l = 3) ∧ (mgmtLength payload = true) ∧ (hub ≠ s.tree.hub) ∧ (s.openPath hub = some p) ∧ (s.linkState (8 + p.egress) =
      3) ∧ (s.mem.crossing = []) ∧ ((([(2 * l, 4 * (3 + payload.length)), (2 * (8 + p.egress) + 1, 4 * (3 + payload.length))] ++
      bridgeCharges (linkDie l) (linkDie (8 + p.egress)) (4 * (3 + payload.length)) 0).all (hasTokens s)) = true) ∧ (l < 16)) := by decide +kernel

theorem test_witness_LinkMessageCommands_14 :
    (let s : State := live.wr (R.LNK_STATE.state 0 2) 3; let l := 2; let hub := 0; let tag := 2; let payload := [3]; (l < 8) ∧
      (s.linkState l = 3) ∧ (mgmtLength payload = true)) := by decide +kernel

theorem test_witness_LinkMessageCommands_15 :
    (let s : State := live.wr (R.LNK_STATE.state 0 2) 3; let l := 2; let hub := 0; let tag := 2; let payload := ([] : List Nat); (l <
      16) ∧ (s.linkState l = 3) ∧ (mgmtLength payload = false)) := by decide +kernel

theorem test_witness_LinkMessageCommands_16 :
    (let s : State := live; let die := 1; let mask := 0; (die < 2) ∧ (s.dieUp die = true) ∧ (mask = 0)) := by decide +kernel

theorem test_witness_LinkMessageCommands_17 :
    (let s : State := live.wr (R.LNK_STATE.state 0 2) 3; let die := 0; let mask := 4; let i := 2; let l := 2; (die < 2) ∧ (s.dieUp die =
      true) ∧ (i < 8) ∧ (mask = 2 ^ i) ∧ (l = linkOf die i) ∧ (s.linkState l = 3)) := by decide +kernel

theorem test_witness_LinkMessageCommands_18 :
    (let s : State := live.wr (R.LNK_STATE.state 0 2) 5; let die := 0; let mask := 4; let i := 2; let l := 2; (die < 2) ∧ (s.dieUp die =
      true) ∧ (i < 8) ∧ (mask = 2 ^ i) ∧ (l = linkOf die i) ∧ (s.linkState l = 5)) := by decide +kernel

theorem test_witness_IdentityAndModuleCommands_1 :
    (let s : State := live.wr (R.LNK_STATE.state 0 2) 5; let slot := 2; (slot < 8) ∧ (s.accPresent slot = false) ∧ (s.dieUp (slot / 4) =
      true)) := by decide +kernel

theorem test_witness_IdentityAndModuleCommands_2 :
    (let s : State := { live with seq := { present := 4 } }; let slot := 2; let bytes := goodIdentity;
      let mem := decodeIdentity goodIdentity; (slot < 8) ∧ (s.accPresent slot = true) ∧ (s.procUp 0 = true) ∧ (mem = decodeIdentity
      bytes) ∧ (identityValid mem = true)) := by decide +kernel

theorem test_witness_IdentityAndModuleCommands_3 :
    (let s : State := { live with seq := { present := 4 } }; let slot := 2; let bytes := [1, 2]; let mem := decodeIdentity [1, 2]; (slot
      < 8) ∧ (s.accPresent slot = true) ∧ (s.procUp 0 = true) ∧ (mem = decodeIdentity bytes) ∧ (identityValid mem = false)) := by decide +kernel

theorem test_witness_IdentityAndModuleCommands_4 :
    (let s : State := { live.wr (R.LNK_STATE.state 0 4) 3 with img := { ports := [(0, { pluggable := true })] }, lnk := { modules := [(0, { present := true })] } };
      let port := 0; let l := 8; let m := { present := false : ModuleRead }; (l = 8 + port) ∧ (port < 8) ∧ ((tget s.img.ports
      port).pluggable = true) ∧ (s.procUp 0 = true) ∧ (s.dieUp (port / 4) = true) ∧ ((tget s.lnk.modules port).present = true) ∧
      (m.present = false) ∧ (s.linkState l = 3 ∨ s.linkState l = 2)) := by decide +kernel

theorem test_witness_IdentityAndModuleCommands_5 :
    (let s : State := { live.wr (R.LNK_STATE.state 0 4) 3 with img := { ports := [(0, { pluggable := true })] }, lnk := { modules := [(0, { present := true })] } };
      let port := 0; let l := 8; let m := { present := true, fault := true : ModuleRead }; (l = 8 + port) ∧ (port < 8) ∧ ((tget
      s.img.ports port).pluggable = true) ∧ (s.procUp 0 = true) ∧ (s.dieUp (port / 4) = true) ∧ ((tget s.lnk.modules port).present =
      true) ∧ (s.linkState l = 3) ∧ (m.fault = true)) := by decide +kernel

theorem test_witness_SequencerOrders_1 :
    (let s : State := { live with img := { rails := [{ channel := 3, owner := 2, debounce := 10, timeout := 1000, withPrev := false }, { channel := 4, owner := 9, timeout := 1000 }] }, seq := { state := 1 } };
      (trayOnAllowed s = false)) := by decide +kernel

theorem test_witness_SequencerOrders_2 :
    (let s : State := { live with img := { rails := [{ channel := 3, owner := 2, debounce := 10, timeout := 1000, withPrev := false }, { channel := 4, owner := 9, timeout := 1000 }] }, seq := { verified := true } };
      (trayOnAllowed s = true) ∧ (s.seq.state = 0)) := by decide +kernel

theorem test_witness_SequencerOrders_3 :
    (let s : State := { live with img := { rails := [{ channel := 3, owner := 2, debounce := 10, timeout := 1000, withPrev := false }, { channel := 4, owner := 9, timeout := 1000 }] }, seq := { verified := true, state := 4 } };
      (trayOnAllowed s = true) ∧ (s.seq.state = 4)) := by decide +kernel

theorem test_witness_SequencerOrders_4 :
    (let s : State := { live with img := { rails := [{ channel := 3, owner := 2, debounce := 10, timeout := 1000, withPrev := false }, { channel := 4, owner := 9, timeout := 1000 }] }, seq := { verified := true, state := 3 } };
      (trayOnAllowed s = true) ∧ (s.seq.state = 3)) := by decide +kernel

theorem test_witness_SequencerOrders_5 :
    (let s : State := { live with img := { rails := [{ channel := 3, owner := 2, debounce := 10, timeout := 1000, withPrev := false }, { channel := 4, owner := 9, timeout := 1000 }] }, seq := { verified := true, state := 2, en := 24 } };
      (s.seq.state = 1 ∨ s.seq.state = 2)) := by decide +kernel

theorem test_witness_SequencerOrders_6 :
    (let s : State := { live with img := { rails := [{ channel := 3, owner := 2, debounce := 10, timeout := 1000, withPrev := false }, { channel := 4, owner := 9, timeout := 1000 }] }, seq := { verified := true, state := 1, run := some { kind := .trayOn } } };
      let slots := 4; (slotsAllowed s = true) ∧ (s.seq.run.isSome = true) ∧ (slots % 256 ≠ 0)) := by decide +kernel

theorem test_witness_SequencerOrders_7 :
    (let s : State := { live with img := { rails := [{ channel := 3, owner := 2, debounce := 10, timeout := 1000, withPrev := false }, { channel := 4, owner := 9, timeout := 1000 }] }, seq := { verified := true, state := 2, present := 4 } };
      let slots := 4; (slotsAllowed s = true) ∧ (s.seq.run = none) ∧ (slots % 256 ≠ 0)) := by decide +kernel

theorem test_witness_SequencerOrders_8 :
    (let s : State := { live with img := { rails := [{ channel := 3, owner := 2, debounce := 10, timeout := 1000, withPrev := false }, { channel := 4, owner := 9, timeout := 1000 }] }, seq := { state := 4 } };
      let slots := 4; (slotsAllowed s = false)) := by decide +kernel

theorem test_witness_SequencerOrders_9 :
    (let s : State := { live with img := { rails := [{ channel := 3, owner := 2, debounce := 10, timeout := 1000, withPrev := false }, { channel := 4, owner := 9, timeout := 1000 }] }, seq := { verified := true, state := 2, en := 24 } };
      let slots := 4; (slotsAllowed s = true) ∧ (s.seq.run = none) ∧ (slots % 256 ≠ 0)) := by decide +kernel

theorem test_witness_SequencerOrders_10 :
    (let s : State := { live with img := { rails := [{ channel := 3, owner := 2, debounce := 10, timeout := 1000, withPrev := false }, { channel := 4, owner := 9, timeout := 1000 }] }, seq := { state := 4, settle := some 0 } };
      let at_ := 0; (s.seq.settle = some at_) ∧ (at_ ≤ s.now)) := by decide +kernel

theorem test_witness_SequencerProgress_1 :
    (let s : State := live; let c := 3; let high := true; (c < 64) ∧ (s.seq.pg.testBit c = !high)) := by decide +kernel

theorem test_witness_SequencerProgress_2 :
    (let s : State := { live with img := { live.img with rails := [{ channel := 5, owner := 2 }] }, seq := { live.seq with en := 32, rails := [(5, { state := 2, lowAt := some 0 })] }, now := 2001 };
      let c := 5; let at_ := 0; let r := { channel := 5, owner := 2 : RailCfg }; (s.railOf c = some r) ∧ (bindingOff s r = false) ∧
      ((tget s.seq.rails c).lowAt = some at_) ∧ ((tget s.seq.rails c).state = 2) ∧ (s.seq.pg.testBit c = false) ∧ ((tget s.seq.rails
      c).faulted = false) ∧ (at_ + 2000 < s.now)) := by decide +kernel

theorem test_witness_SequencerProgress_3 :
    (let s : State := live; let d := 0; let sensors := 2; (d < 2) ∧ (sensors % 4 ≠ 0) ∧ (kilnActive s d = false)) := by decide +kernel

theorem test_witness_SequencerProgress_4 :
    (let s : State := { live with img := { rails := [{ channel := 3, owner := 2, debounce := 10, timeout := 1000, withPrev := false }, { channel := 4, owner := 9, timeout := 1000 }] }, seq := { verified := true, state := 1, present := 4, run := some { kind := .trayOn, current := [3] } } };
      let q := { kind := .trayOn, current := [3] : SeqRun }; (s.seq.run = some q) ∧ (q.acted = false) ∧ (q.off = false) ∧ (q.kind =
      SeqKind.trayOn ∨ q.kind = SeqKind.slotsOn) ∧ (q.at_ ≤ s.now) ∧ (q.current ≠ []) ∧ ((q.current.any (castResolved s false)) =
      false)) := by decide +kernel

theorem test_witness_SequencerProgress_5 :
    (let s : State := { live with now := 20, img := { rails := [{ channel := 3, owner := 2, debounce := 10, timeout := 1000, withPrev := false }, { channel := 4, owner := 9, timeout := 1000 }] }, seq := { state := 1, rails := [(3, { state := 1, window := some 0 })] } };
      let c := 3; let w := 0; let r := { channel := 3, owner := 2, debounce := 10, timeout := 1000, withPrev := false : RailCfg };
      (s.railOf c = some r) ∧ ((tget s.seq.rails c).window = some w) ∧ ((tget s.seq.rails c).state = 1) ∧ (w + r.debounce ≤ s.now) ∧ (w
      + r.debounce ≤ (tget s.seq.rails c).enableAt + r.timeout) ∧ (runWaits s c 2 = true)) := by decide +kernel

theorem test_witness_SequencerProgress_6 :
    (let s : State := { live with now := 1000, img := { rails := [{ channel := 3, owner := 2, debounce := 10, timeout := 1000, withPrev := false }, { channel := 4, owner := 9, timeout := 1000 }] }, seq := { state := 1, en := 8, rails := [(3, { state := 1 })] } };
      let c := 3; let r := { channel := 3, owner := 2, debounce := 10, timeout := 1000, withPrev := false : RailCfg }; (s.railOf c =
      some r) ∧ ((tget s.seq.rails c).state = 1) ∧ ((tget s.seq.rails c).enableAt + r.timeout ≤ s.now) ∧ (runWaits s c 3 = true)) := by decide +kernel

theorem test_witness_SequencerProgress_7 :
    (let s : State := { live with img := { rails := [{ channel := 3, owner := 2, debounce := 10, timeout := 1000, withPrev := false }, { channel := 4, owner := 9, timeout := 1000 }] }, seq := { state := 3, en := 24, run := some { kind := .trayOff, groups := [[3], [4]] } } };
      let q := { kind := .trayOff, groups := [[3], [4]] : SeqRun }; let g := [3]; let rest := [[4]]; (s.seq.run = some q) ∧ (q.acted =
      false) ∧ (q.kind = SeqKind.trayOff ∨ q.kind = SeqKind.slotsOff) ∧ (q.at_ ≤ s.now) ∧ (q.groups = g :: rest) ∧ ((g.any (fun (c :
      Nat) => s.seq.en.testBit c)) = true)) := by decide +kernel

theorem test_witness_SequencerProgress_8 :
    (let s : State := { live with img := { rails := [{ channel := 3, owner := 2, debounce := 10, timeout := 1000, withPrev := false }, { channel := 4, owner := 9, timeout := 1000 }] }, seq := { state := 1 } };
      let c := 3; let mv := 800; (c < 64) ∧ (s.procUp 1 = true)) := by decide +kernel

theorem test_witness_SequencerProgress_9 :
    (let s : State := { live with now := 100000000, img := { rails := [{ channel := 3, owner := 2, debounce := 10, timeout := 1000, withPrev := false }, { channel := 4, owner := 9, timeout := 1000 }] }, seq := { state := 3, rails := [(3, { state := 5 })] } };
      let c := 3; let r := { channel := 3, owner := 2, debounce := 10, timeout := 1000, withPrev := false : RailCfg }; (s.railOf c =
      some r) ∧ ((tget s.seq.rails c).state = 5) ∧ (railDown s r = true) ∧ (runWaits s c 6 = true)) := by decide +kernel

theorem test_witness_SequencerProgress_10 :
    (let s : State := { live with now := 1000, img := { rails := [{ channel := 3, owner := 2, debounce := 10, timeout := 1000, withPrev := false }, { channel := 4, owner := 9, timeout := 1000 }] }, seq := { state := 3, pg := 8, rails := [(3, { state := 5 })] } };
      let c := 3; let r := { channel := 3, owner := 2, debounce := 10, timeout := 1000, withPrev := false : RailCfg }; (s.railOf c =
      some r) ∧ ((tget s.seq.rails c).state = 5) ∧ ((tget s.seq.rails c).dropAt + r.timeout ≤ s.now) ∧ (railDown s r = false) ∧
      (runWaits s c 7 = true)) := by decide +kernel

theorem test_witness_SequencerProgress_11 :
    (let s : State := { live with img := { rails := [{ channel := 3, owner := 2, debounce := 10, timeout := 1000, withPrev := false }, { channel := 4, owner := 9, timeout := 1000 }] }, seq := { state := 2, present := 4, en := 24 } };
      let slot := 2; (slot < 8) ∧ (s.accPresent slot = true)) := by decide +kernel

theorem test_witness_PowerEstimates_1 :
    (let s : State := { live with pwr := { slots := [(2, { sum := 120, n := 2 })] } }; let slot := 2; let mw := 90000;
      let e := (60 : Rat); (slot < 8) ∧ (s.procUp 1 = true) ∧ ((s.slotPower slot).n ≠ 0) ∧ (e = (s.slotPower slot).sum / (s.slotPower
      slot).n) ∧ (50 ≤ e)) := by decide +kernel

theorem test_witness_PowerEstimates_2 :
    (let s : State := live; let slot := 2; (slot < 8) ∧ (s.procUp 1 = true)) := by decide +kernel

theorem test_witness_PowerEstimates_3 :
    (let s : State := live; let mw := 2000000; (s.procUp 1 = true)) := by decide +kernel

theorem test_witness_PowerEstimates_4 :
    (let s : State := { live with pwr := { acc := { n := 50, tray := 25000 } } }; (s.pwr.acc.n ≠ 0)) := by decide +kernel

theorem test_witness_PowerEstimates_5 :
    (let s : State := live; (s.procUp 1 = true)) := by decide +kernel

theorem test_witness_PowerEstimates_6 :
    (let s : State := { live with pwr := { hubEnergy := 100, partBytes := [(0, 7), (1, 3)] } }; (tget s.pwr.partBytes 0 ≠ 0)) := by decide +kernel

theorem test_witness_ThrottlingCommands_1 :
    (let s : State := { live.wr R.PWR_CAP_EFF.cap 5000 with now := 900000, pwr := { trayAvg := 6000, excess := [(8, 0)] } };
      let at_ := 0; (s.procUp 1 = true) ∧ (trayOver s = true) ∧ (tfind s.pwr.excess 8 = some at_) ∧ (at_ + 1000 * s.rd
      R.PWR_THROTTLE_CFG.hold ≤ s.now) ∧ (s.pwr.throttled.testBit 8 = false)) := by decide +kernel

theorem test_witness_ThrottlingCommands_2 :
    (let s : State := { live.wr R.PWR_CAP_EFF.cap 5000 with now := 900000, seq := { present := 4 }, pwr := { trayAvg := 6000, excess := [(8, 0)], slots := [(2, { capDuty := 5 })] } };
      let slot := 2; (s.procUp 1 = true) ∧ (s.pwr.dutyAt + 1000 ≤ s.now) ∧ (trayOver s = true) ∧ (overFor1ms s 8 = true) ∧ (slot < 8) ∧
      (s.accPresent slot = true) ∧ (1 < (s.slotPower slot).capDuty ∧ (s.slotPower slot).capDuty < 8)) := by decide +kernel

theorem test_witness_ThrottlingCommands_3 :
    (let s : State := { live.wr R.PWR_CAP_EFF.cap 5000 with now := 900000, seq := { present := 4 }, pwr := { trayAvg := 6000, excess := [(8, 0)], slots := [(2, { capDuty := 1 })] } };
      (s.procUp 1 = true) ∧ (trayOver s = true) ∧ (s.presentSlots ≠ []) ∧ (s.pwr.dutyAt + 1000 ≤ s.now) ∧ ((s.presentSlots.all (fun (i :
      Nat) => (s.slotPower i).capDuty == 1)) = true) ∧ (s.pwr.unmetAt = none)) := by decide +kernel

theorem test_witness_ThrottlingCommands_4 :
    (let s : State := { (live.wr R.PWR_CAP_EFF.cap 5000).wr (R.FW_PROC.state 1) 2 with now := 900000, seq := { present := 4 }, pwr := { trayAvg := 6000, guardExcess := some 0 } };
      let slot := 2; let at_ := 0; (s.rd (R.FW_PROC.state 1) = 2 ∨ s.rd (R.FW_PROC.state 1) = 3) ∧ (s.pwr.guardAt + 1000 ≤ s.now) ∧
      (trayOver s = true) ∧ (s.pwr.guardExcess = some at_) ∧ (at_ + 1000 * s.rd R.PWR_THROTTLE_CFG.hold ≤ s.now) ∧ (slot < 8) ∧
      (s.accPresent slot = true)) := by decide +kernel

theorem test_witness_ThrottlingCommands_5 :
    (let s : State := { live.wr R.PWR_DUTY.duty 0x88888478 with now := 900000 }; (s.pwr.slowAt + 10 * s.rd
      R.PWR_THROTTLE_CFG.slow_period ≤ s.now) ∧ ((∀ i ∈ List.range 8, wantedDuty s i ≤ 8))) := by decide +kernel

theorem test_witness_ThrottlingCommands_6 :
    (let s : State := { live with pwr := { releases := [(0, 0), (1, 50)] } }; (s.cad.stalled = false) ∧ (s.pwr.hints = [])) := by decide +kernel

theorem test_witness_ThrottlingCommands_7 :
    (let s : State := { live.wr (R.LNK_STATE.state 0 2) 3 with img := { rails := [{ channel := 3, owner := 2 }] }, seq := { en := 8 }, pwr := { ramp := some { endAt := 9, slope := 0, c := 0 }, slots := [(2, { p := 400 })] } };
      let w := { endAt := 9, slope := 0, c := 0 : RampWindow }; (s.pwr.ramp = some w) ∧ (s.groupNow < w.endAt) ∧ (s.cad.stalled = false)
      ∧ (w.c + (w.slope : Rat) / 500 + 50 < sumW ((List.range 8).map (slotNow s)))) := by decide +kernel

theorem test_witness_ThrottlingCommands_8 :
    (let s : State := { live with pwr := { ramp := some { endAt := 0, slope := 0, c := 0 } } };
      let w := { endAt := 0, slope := 0, c := 0 : RampWindow }; (s.pwr.ramp = some w) ∧ (w.endAt ≤ s.groupNow)) := by decide +kernel

theorem test_witness_ThrottlingCommands_9 :
    (let s : State := { live with pwr := { dRamp := 3 }, gt := { time := 10000 } }; (s.pwr.ramp = none) ∧ (s.pwr.dRamp < 8) ∧
      (s.pwr.rampAt + 10000 ≤ s.groupNow)) := by decide +kernel

theorem test_witness_GaugeAndVoltage_1 :
    (let s : State := { live.wr R.PWR_GAUGE.gauge 9 with pwr := { applyAt := some (0, 5) } }; let at_ := 0; let g := 5; (s.pwr.applyAt =
      some (at_, g)) ∧ (at_ ≤ s.groupNow) ∧ (g < 64)) := by decide +kernel

theorem test_witness_GaugeAndVoltage_2 :
    (let s : State := { served with pwr := { cutAt := some 0 } }; let at_ := 0; (s.pwr.cutAt = some at_) ∧ (at_ ≤ s.groupNow) ∧
      (s.procUp 1 = true)) := by decide +kernel

theorem test_witness_GaugeAndVoltage_3 :
    (let s : State := { served with pwr := { slots := [(2, { want := some 3, table := List.replicate 64 { v := 800 } })] } };
      let slot := 2; let mv := 805; let l := 3; ((s.slotPower slot).want = some l) ∧ (s.procUp 1 = true) ∧ (mv ≤ (s.entryAt slot l).v +
      10) ∧ ((s.entryAt slot l).v ≤ mv + 10)) := by decide +kernel

theorem test_witness_GaugeAndVoltage_4 :
    (let s : State := { live with gt := { time := 100001 }, pwr := { slots := [(2, { stamp := some 0, differs := true, reported := 4 })] } };
      let slot := 2; ((s.slotPower slot).stamp.isSome = true) ∧ ((s.slotPower slot).differs = true) ∧ ((s.slotPower slot).mismatchNoted
      = false) ∧ (s.pwr.appliedAt + 100000 < s.groupNow)) := by decide +kernel

theorem test_witness_CoolingReadings_1 :
    (let s : State := { live with img := { rails := [{ channel := 3, owner := 2 }] }, seq := { en := 8 } }; let slot := 2; let v := 400;
      (slot < 8) ∧ (s.procUp 2 = true) ∧ (slotOn s slot = true)) := by decide +kernel

theorem test_witness_CoolingReadings_2 :
    (let s : State := { live with img := { rails := [{ channel := 3, owner := 2 }] }, seq := { en := 8 }, cool := { readFails := [(2, 2)] } };
      let slot := 2; (slot < 8) ∧ (s.procUp 2 = true) ∧ (slotOn s slot = true) ∧ (tget s.cool.readFails slot = 2) ∧ (predictedTemp s
      slot = none)) := by decide +kernel

theorem test_witness_CoolingReadings_3 :
    (let s : State := { live with img := { plant := { fans := 0xFF, pumps := 3, temps := 0xFFFF, flows := 0xFF } } }; let n := 9;
      let v := 1201; (n < 16) ∧ (tempFitted s n = true) ∧ (toSigned 16 v < -320 ∨ 1200 < toSigned 16 v)) := by decide +kernel

theorem test_witness_CoolingReadings_4 :
    (let s : State := { live with img := { plant := { fans := 0xFF, pumps := 3, temps := 0xFFFF, flows := 0xFF } } }; let n := 9;
      let v := 1200; (n < 16) ∧ (tempFitted s n = true) ∧ (-320 ≤ toSigned 16 v ∧ toSigned 16 v ≤ 1200) ∧ (s.on (R.COOL_TEMP.failed n) =
      false)) := by decide +kernel

theorem test_witness_CoolingReadings_5 :
    (let s : State := { live.wr R.COOL_STATUS.implausible 1 with now := 600000000 }; (s.on R.COOL_STATUS.implausible = true) ∧
      (s.cool.implausibleAt + 600000000 ≤ s.now)) := by decide +kernel

theorem test_witness_CoolingReadings_6 :
    (let s : State := (served.wr (R.COOL_ACC.temp 2) 700).wr R.PWR_GAUGE.gauge 30; let slot := 2; let v := (20 : Int); (s.procUp 2 =
      true) ∧ (s.admittedSlots = [slot]) ∧ (s.on R.COOL_STATUS.no_pump = false) ∧ (v = s.rdSigned (R.COOL_ACC.temp slot) - 8 * (s.rd
      (R.COOL_ACC.target slot) : Int))) := by decide +kernel

theorem test_witness_CoolingReadings_7 :
    (let s : State := live; (s.procUp 2 = true) ∧ (s.admittedSlots = [])) := by decide +kernel

theorem test_witness_CoolingReadings_8 :
    (let s : State := { live with img := { plant := { hubTarget := 60 } } }; let d := 1; let i := 1; let temps := [400, 900];
      let v := (900 : Int); let n := 20; (s.dieUp d = true) ∧ (hottest (temps.take 48) = some (i, v)) ∧ (n = nextExcess (8 *
      (s.img.plant.hubTarget : Int)) v (s.rd (if d = 0 then R.COOL_HUB_THR.h0_excess else R.COOL_HUB_THR.h1_excess)))) := by decide +kernel

theorem test_witness_CoolingReadings_9 :
    (let s : State := { live with now := 1000000, cool := { overSince := [(1, 0)] } }; let d := 1; let at_ := 0; (tfind s.cool.overSince
      d = some at_) ∧ (s.dieUp d = true) ∧ (at_ + 1000000 ≤ s.now) ∧ (s.cool.overNoted.testBit d = false)) := by decide +kernel

theorem test_witness_CoolingActuators_1 :
    (let s : State := live.wr R.CFG_STATUS.state 1; (wantedMode s = 1)) := by decide +kernel

theorem test_witness_CoolingActuators_2 :
    (let s : State := { (live.wr R.CFG_STATUS.state 1).wr R.COOL_STATUS.mode 0 with img := { surrogate := some default } };
      let q := (default : Surrogate); (wantedMode s = 0) ∧ (s.img.surrogate = some q) ∧ (s.rd R.COOL_STATUS.mode = 0)) := by decide +kernel

theorem test_witness_CoolingActuators_3 :
    (let s : State := live; (wantedMode s = 2)) := by decide +kernel

theorem test_witness_CoolingActuators_4 :
    (let s : State := live.wr R.CFG_STATUS.state 1; (wantedMode s = 1)) := by decide +kernel

theorem test_witness_CoolingActuators_5 :
    (let s : State := { live.wr R.CFG_STATUS.state 1 with img := { surrogate := some default } }; (wantedMode s = 0)) := by decide +kernel

theorem test_witness_CoolingActuators_6 :
    (let s : State := { live with now := 4000000, img := { plant := { fans := 0xFF, pumps := 3, temps := 0xFFFF, flows := 0xFF } }, cool := { fans := [(3, { startAt := some 0 })] } };
      let n := 3; let at_ := 0; (n < 8) ∧ ((tget s.cool.fans n).startAt = some at_) ∧ (at_ + 4000000 ≤ s.now) ∧ ((tget s.cool.fans
      n).kicking = false)) := by decide +kernel

theorem test_witness_CoolingActuators_7 :
    (let s : State := { live with img := { plant := { fans := 0xFF, pumps := 3, temps := 0xFFFF, flows := 0xFF } }, cool := { fans := [(3, { startAt := some 0 })] } };
      let n := 3; let at_ := 0; (n < 8) ∧ ((tget s.cool.fans n).startAt = some at_)) := by decide +kernel

theorem test_witness_CoolingActuators_8 :
    (let s : State := { live.wr (R.COOL_FAN.state 3) 3 with now := 30000000 }; let n := 3; (n < 8) ∧ (fanState s n = 3) ∧ ((tget
      s.cool.fans n).kicking = false) ∧ ((tget s.cool.fans n).kickAt + 30000000 ≤ s.now) ∧ (s.rd (R.COOL_FAN.kicks n) < 5)) := by decide +kernel

theorem test_witness_CoolingActuators_9 :
    (let s : State := { live.wr (R.COOL_FAN.state 3) 3 with now := 30000000 }; let n := 3; (n < 8) ∧ (fanState s n = 3) ∧ ((tget
      s.cool.fans n).kicking = false) ∧ ((tget s.cool.fans n).kickAt + 30000000 ≤ s.now) ∧ (s.rd (R.COOL_FAN.kicks n) < 5)) := by decide +kernel

theorem test_witness_CoolingActuators_10 :
    (let s : State := { (live.wr (R.COOL_FAN.state 3) 3).wr (R.COOL_FAN.kicks 3) 5 with now := 30000000, cool := { fans := [(3, { startAt := some 0, kicking := true })] } };
      let n := 3; let at_ := 0; (n < 8) ∧ ((tget s.cool.fans n).startAt = some at_) ∧ (at_ + 4000000 ≤ s.now) ∧ ((tget s.cool.fans
      n).kicking = true) ∧ (5 ≤ s.rd (R.COOL_FAN.kicks n))) := by decide +kernel

theorem test_witness_CoolingActuators_11 :
    (let s : State := { (live.wr (R.COOL_FAN.state 3) 1).wr (R.COOL_FAN.duty 3) 60 with img := { plant := { fans := 0xFF, pumps := 3, temps := 0xFFFF, flows := 0xFF } }, cool := { fans := [(3, { missed := 2 })] } };
      let n := 3; let rpm := [9, 9, 9, 0, 9, 9, 9, 9]; let current := [0]; let pumpRpm := [0]; (n < 8) ∧ (fanFitted s n = true) ∧
      (fanState s n = 1) ∧ (rpm.getD n 0 = 0) ∧ (20 ≤ s.rd (R.COOL_FAN.duty n)) ∧ ((tget s.cool.fans n).missed = 2) ∧ ((∀ i ∈ List.range
      8, i ≠ n → 0 < rpm.getD i 0))) := by decide +kernel

theorem test_witness_CoolingActuators_12 :
    (let s : State := { live with now := 5000000, img := { plant := { fans := 0xFF, pumps := 3, temps := 0xFFFF, flows := 0xFF } }, cool := { pumps := [(1, { slowSince := some 0 })] } };
      let n := 1; let at_ := 0; (n < 2) ∧ ((tget s.cool.pumps n).slowSince = some at_) ∧ (pumpFailed s n = false) ∧ (at_ + 5000000 ≤
      s.now)) := by decide +kernel

theorem test_witness_CoolingActuators_13 :
    (let s : State := { live.wr (R.COOL_FAN.state 3) 4 with img := { plant := { fans := 0xFF, pumps := 3, temps := 0xFFFF, flows := 0xFF } } };
      let n := 3; let current := 51; (n < 8) ∧ (fanState s n = 4) ∧ (s.rd (R.COOL_FAN.duty n) = 0) ∧ (50 < current) ∧ (s.on
      (R.COOL_FAN.present n) = false)) := by decide +kernel

theorem test_witness_CoolingActuators_14 :
    (let s : State := { live.wr (R.COOL_FAN.state 3) 4 with now := 2000000, cool := { fans := [(3, { goneSince := some 0 })] } };
      let n := 3; let current := 50; let at_ := 0; (n < 8) ∧ (fanState s n = 4) ∧ (s.rd (R.COOL_FAN.duty n) = 0) ∧ (current ≤ 50) ∧
      ((tget s.cool.fans n).goneSince = some at_) ∧ (at_ + 2000000 ≤ s.now)) := by decide +kernel

theorem test_witness_CoolingActuators_15 :
    (let s : State := { live with now := 2000000, cool := { valveWrong := [(3, 0)] } }; let n := 3; let position := 4; let at_ := 0; (n
      < 8) ∧ (min 100 position + 10 < s.rd (R.COOL_VALVE.command n)) ∧ (s.on (R.COOL_VALVE.flagged n) = false) ∧ (tfind
      s.cool.valveWrong n = some at_) ∧ (at_ + 2000000 ≤ s.now)) := by decide +kernel

theorem test_witness_CoolingActuators_16 :
    (let s : State := { live.wr R.COOL_KILN.h1_trip 1 with cool := { kilnLow := [(1, 0)] }, now := 1000000 }; let d := 1; let a := 799;
      let b := 65535; let at_ := 0; (d < 2) ∧ (kilnActive s d = true) ∧ (toSigned 16 a < 800 ∧ toSigned 16 b < 800) ∧ (tfind
      s.cool.kilnLow d = some at_) ∧ (at_ + 1000000 ≤ s.now)) := by decide +kernel

theorem test_witness_CoolingActuators_17 :
    (let s : State := live.wr R.COOL_KILN.h1_trip 1; let d := 1; let a := 0; let b := 800; (d < 2) ∧ (kilnActive s d = true) ∧ (800 ≤
      toSigned 16 a ∨ 800 ≤ toSigned 16 b)) := by decide +kernel

theorem test_witness_CoolingActuators_18 :
    (let s : State := { live with img := { rails := [{ channel := 3, owner := 2 }] }, seq := { en := 8, state := 2 } }; let slot := 2;
      (slot < 8) ∧ (slotOn s slot = true)) := by decide +kernel

theorem test_witness_CoolingActuators_19 :
    (let s : State := { live with cool := { openUntil := [(2, 0)] }, pin := { thermtrip := 4 } }; let slot := 2; let at_ := 0; (tfind
      s.cool.openUntil slot = some at_) ∧ (at_ ≤ s.now)) := by decide +kernel

theorem test_witness_CoolingActuators_20 :
    (let s : State := live.wr (R.COOL_FAN.state 3) 4; let fans := 8; let n := 3; (n < 8) ∧ (fans = 2 ^ n) ∧ (fanState s n = 4)) := by decide +kernel

theorem test_witness_CoolingActuators_21 :
    (let s : State := { live.wr (R.COOL_PUMP.state 1) 4 with img := { plant := { fans := 0xFF, pumps := 3, temps := 0xFFFF, flows := 0xFF } } };
      let pumps := 2; let n := 1; (n < 2) ∧ (pumps = 2 ^ n) ∧ (pumpFailed s n = true)) := by decide +kernel

theorem test_witness_CoolingActuators_22 :
    (let s : State := live.wr (R.COOL_VALVE.flagged 3) 1; let valves := 8; let n := 3; (n < 8) ∧ (valves = 2 ^ n)) := by decide +kernel

theorem test_witness_LeakCommands_1 :
    (let s : State := { live with img := { plant := { loops := 4, zones := [{ loops := 3, slots := 4, iso := 2 }] } }, leak := { wetRun := [(1, 3)] } };
      let z := 0; let n := 1; let ohms := [10000, 500]; (z < 8) ∧ (z < s.img.plant.zones.length) ∧ ((s.rd R.LEAK_STATUS.wet).testBit z =
      false) ∧ (n < 16) ∧ (n < s.img.plant.loops) ∧ (n < ohms.length) ∧ ((zoneOf s z).loops.testBit n = true) ∧ (loopState (ohms.getD n
      0) = 1) ∧ (tgetD s.leak.wetRun n 0 = 3)) := by decide +kernel

theorem test_witness_LeakCommands_2 :
    (let s : State := { live with img := { plant := { loops := 4, zones := [{ loops := 3, slots := 4, iso := 2 }] } }, leak := { orders := 1 }, seq := { state := 2 } };
      let z := 0; (s.leak.orders.testBit z = true) ∧ (s.procUp 0 = true) ∧ (slotsAllowed s = true) ∧ (s.leak.ordered.testBit z = false)
      ∧ (s.seq.run = none) ∧ ((zoneOf s z).slots % 256 ≠ 0)) := by decide +kernel

theorem test_witness_LeakCommands_3 :
    (let s : State := { live with img := { plant := { loops := 4, zones := [{ loops := 3, slots := 4, iso := 2 }] } }, leak := { orders := 1 }, seq := { state := 4 } };
      let z := 0; (s.leak.orders.testBit z = true) ∧ (s.procUp 0 = true) ∧ (slotsAllowed s = false)) := by decide +kernel

theorem test_witness_LeakCommands_4 :
    (let s : State := { live with now := 100000, img := { plant := { loops := 4, zones := [{ loops := 3, slots := 4, iso := 2 }] } }, leak := { brokenSince := [(1, 0)] } };
      let z := 0; let n := 1; (z < 8) ∧ ((s.rd R.LEAK_STATUS.unguarded).testBit z = false) ∧ (unguardedBy s z = some n)) := by decide +kernel

theorem test_witness_LeakCommands_5 :
    (let s : State := { live.wr R.LEAK_STATUS.unguarded 1 with now := 1000000, img := { plant := { loops := 4, zones := [{ loops := 3, slots := 4, iso := 2 }] } }, leak := { drySince := [(0, 0), (1, 0)] } };
      let z := 0; (z < 8) ∧ ((s.rd R.LEAK_STATUS.unguarded).testBit z = true) ∧ (((members (zoneOf s z).loops 16).all (fun (n : Nat) =>
      (tfind s.leak.drySince n).any (fun (at_ : Nat) => at_ + 1000000 ≤ s.now))) = true)) := by decide +kernel

theorem test_witness_LeakCommands_6 :
    (let s : State := { ((live.wr R.LEAK_STATUS.wet 1).wr (R.LEAK_LOOP.state 0) 0).wr (R.LEAK_LOOP.state 1) 0 with img := { plant := { loops := 4, zones := [{ loops := 3, slots := 4, iso := 2 }] } } };
      let zones := 1; let z := 0; (z < 8) ∧ (zones = 2 ^ z) ∧ ((s.rd R.LEAK_STATUS.wet).testBit z = true) ∧ (zoneDry s z = true)) := by decide +kernel

theorem test_witness_LeakCommands_7 :
    (let s : State := { (live.wr R.LEAK_STATUS.wet 1).wr (R.LEAK_LOOP.state 1) 1 with img := { plant := { loops := 4, zones := [{ loops := 3, slots := 4, iso := 2 }] } } };
      let zones := 1; let z := 0; (z < 8) ∧ (zones = 2 ^ z) ∧ ((s.rd R.LEAK_STATUS.wet).testBit z = true) ∧ (zoneDry s z = false)) := by decide +kernel

theorem test_witness_MonitorCommands_1 :
    (let s : State := live; let error := 65528; let temp := 200; let index := 1; (s.sup.crystalFailed = false)) := by decide +kernel

theorem test_witness_MonitorCommands_2 :
    (let s : State := { live with sup := { live.sup with crystalFailed := true } }; let error := 8; let temp := 200; let index := 1;
      (s.sup.crystalFailed = true)) := by decide +kernel

theorem test_witness_MonitorCommands_3 :
    (let s : State := { live with now := 1000, img := { rails := [{ channel := 3, owner := 9, role := monitoredRole 1 3, nominal := 800 }] }, mon := { voltSince := [(monKey 1 3 3, 0)] } };
      let die := 1; let index := 3; let v := 800; let mv := 841; let at_ := 0; (die < 2) ∧ (index < 8) ∧ (s.dieUp die = true) ∧
      (monitoredNominal s die index = v) ∧ (v ≠ 0) ∧ (mv * 100 < v * 95 ∨ v * 105 < mv * 100) ∧ (tfind s.mon.voltSince (monKey die 3
      index) = some at_) ∧ (at_ + 1000 ≤ s.now) ∧ (s.mon.voltNoted.contains (monKey die 3 index) = false)) := by decide +kernel

theorem test_witness_MonitorCommands_4 :
    (let s : State := { live with img := { rails := [{ channel := 3, owner := 9, role := monitoredRole 1 3, nominal := 800 }] } };
      let die := 1; let index := 3; let mv := 840; (die < 2) ∧ (index < 8) ∧ (s.dieUp die = true) ∧ (monitoredNominal s die index * 95 ≤
      mv * 100) ∧ (mv * 100 ≤ monitoredNominal s die index * 105)) := by decide +kernel

theorem test_witness_MonitorCommands_5 :
    (let s : State := live; let die := 1; let group := 15; let count := 10001; (die < 2) ∧ (group < 16) ∧ (s.dieUp die = true) ∧ (10000
      < count)) := by decide +kernel

theorem test_witness_MonitorCommands_6 :
    (let s : State := live; let die := 1; let group := 15; let count := 10000; let c := R.MON_DROOP_COUNT_H1.c; (die < 2) ∧ (group < 16)
      ∧ (s.dieUp die = true) ∧ (count ≤ 10000) ∧ (c = (if die = 0 then R.MON_DROOP_COUNT_H0.c else R.MON_DROOP_COUNT_H1.c)) ∧ (s.rd
      c.cnt + count ≤ 2 ^ 32 - 1)) := by decide +kernel

theorem test_witness_MonitorCommands_7 :
    (let s : State := live; let die := 1; let tile := 63; let value := 500; (die < 2) ∧ (tile < 64) ∧ (s.dieUp die = true) ∧ (tfind
      s.flash.settings.ringRef (64 * die + tile) = none)) := by decide +kernel

theorem test_witness_MonitorCommands_8 :
    (let s : State := { live with flash := { settings := { ringRef := [(127, 100)] } } }; let die := 1; let tile := 63;
      let value := 500; let r := 100; (die < 2) ∧ (tile < 64) ∧ (s.dieUp die = true) ∧ (tfind s.flash.settings.ringRef (64 * die + tile)
      = some r) ∧ (s.rd R.MON_CFG.drift * 10 < (ringDrift (value % 65536) r).natAbs)) := by decide +kernel

theorem test_witness_MonitorCommands_9 :
    (let s : State := live; let die := 1; let kind := 2; let index := 63; (die < 2) ∧ (index < monLimit kind)) := by decide +kernel

theorem test_witness_MonitorCommands_10 :
    (let s : State := live; let die := 1; let kind := 1; let index := 16; (2 ≤ die ∨ monLimit kind ≤ index)) := by decide +kernel

theorem test_witness_SwatchCommands_1 :
    (let s : State := live; let index := 70; (index < 128) ∧ ((unitLive s index).running = none) ∧ (tileFenced s index = false)) := by decide +kernel

theorem test_witness_SwatchCommands_2 :
    (let s : State := { live with mem := { fenced := [(1, 64)] } }; let index := 70; (index < 128) ∧ ((unitLive s index).running = none)
      ∧ (tileFenced s index = true) ∧ (swatchFree s index = true)) := by decide +kernel

theorem test_witness_SwatchCommands_3 :
    (let s : State := live; let index := 136; let run := true; (135 < index)) := by decide +kernel

theorem test_witness_SwatchCommands_4 :
    (let s : State := { live with sdc := { units := [(70, { running := some 0, held := true })] } }; let unit := 70; let failBits := 0;
      (unit < 136) ∧ ((unitLive s unit).running.isSome = true) ∧ (isTile unit = true ∨ swatchLate s unit = false)) := by decide +kernel

theorem test_witness_SwatchCommands_5 :
    (let s : State := { live with sdc := { units := [(70, { running := some 0 })] } }; let unit := 70; let failBits := 6;
      let sramBad := false; (unit < 136) ∧ ((unitLive s unit).running.isSome = true) ∧ (isTile unit = true ∨ swatchLate s unit = false)) := by decide +kernel

theorem test_witness_SwatchCommands_6 :
    (let s : State := { live with sdc := { units := [(70, { shadow := some 0 })] } }; let unit := 70; (unit < 128) ∧ ((unitLive s
      unit).shadow.isSome = true) ∧ (tileFenced s unit = false)) := by decide +kernel

theorem test_witness_SwatchCommands_7 :
    (let s : State := { live with sdc := { units := [(70, { shadow := some 0, history := [0, 0] })] } }; let unit := 70; (unit < 128) ∧
      ((unitLive s unit).shadow.isSome = true) ∧ (tileFenced s unit = false) ∧ (historyCount s unit < 3)) := by decide +kernel

theorem test_witness_FirmwareCommands_1 :
    (let s : State := { live.modProc 2 (fun q => { q with armed := true }) with now := 1000000 }; let p := 2; let pc := 5; (p < 8) ∧
      (s.rd (R.FW_PROC.state p) = 1) ∧ ((tget s.fw.procs p).armed = true) ∧ ((tget s.fw.procs p).debugHalt = false) ∧ (procAbsent s p =
      false) ∧ ((tget s.fw.procs p).kickedAt + s.rd (R.FW_PROC.timeout p) * 1000 ≤ s.now)) := by decide +kernel

theorem test_witness_FirmwareCommands_2 :
    (let s : State := live; let p := 2; let mask := 4; (p < 4) ∧ (mask % 256 = 2 ^ p)) := by decide +kernel

theorem test_witness_FirmwareCommands_3 :
    (let s : State := live; let mask := 4; (s.anyDieUp = true)) := by decide +kernel

theorem test_witness_FirmwareCommands_4 :
    (let s : State := { live with fw := { procs := [(2, { crashes := [0, 0] })] } }; let p := 2; let pc := 5; (p < 8) ∧ (s.rd
      (R.FW_PROC.state p) = 1) ∧ (procAbsent s p = false)) := by decide +kernel

theorem test_witness_FirmwareCommands_5 :
    (let s : State := live; let p := 7; let pc := 5; let w := 100; (p < 8) ∧ (s.rd (R.FW_PROC.state p) = 1) ∧ (procAbsent s p = false)) := by decide +kernel

theorem test_witness_FirmwareCommands_6 :
    (let s : State := { live.wr (R.FW_PROC.state 2) 2 with now := 20000 }; let p := 2; let copyBad := true; (p < 8) ∧ (s.rd
      (R.FW_PROC.state p) = 2) ∧ (heldByLoader s p = false) ∧ ((tget s.fw.procs p).restartAt + 20000 ≤ s.now)) := by decide +kernel

theorem test_witness_FirmwareCommands_7 :
    (let s : State := (live.wr (R.FW_PROC.state 2) 2).modProc 2 (fun q => { q with released := true }); let p := 2; (p < 8) ∧ (s.rd
      (R.FW_PROC.state p) = 2) ∧ (heldByLoader s p = false) ∧ ((tget s.fw.procs p).released = true) ∧ (procAbsent s p = false)) := by decide +kernel

theorem test_witness_FirmwareCommands_8 :
    (let s : State := { live.wr (R.FW_PROC.state 2) 2 with now := 200000 }; let p := 2; (p < 8) ∧ (s.rd (R.FW_PROC.state p) = 2) ∧
      (heldByLoader s p = false) ∧ ((tget s.fw.procs p).restartAt + 200000 ≤ s.now)) := by decide +kernel

theorem test_witness_FirmwareCommands_9 :
    (let s : State := live.wr (R.FW_PROC.state 2) 3; let mask := 4; let p := 2; (p < 8) ∧ (mask = 2 ^ p) ∧ (s.rd (R.FW_PROC.state p) =
      3)) := by decide +kernel

theorem test_witness_FirmwareCommands_10 :
    (let s : State := live; let mask := 4; let p := 2; (p < 8) ∧ (mask = 2 ^ p) ∧ (s.rd (R.FW_PROC.state p) = 1) ∧ (procAbsent s p =
      false)) := by decide +kernel

theorem test_witness_ArbiterCommands_1 :
    (let s : State := live.wr (R.ARB_CTL.held 5) 1; let p := 2; let c := 5; let clocks := 1; let locks := [false]; (p < 8) ∧ (c < 6) ∧
      (locks ≠ []) ∧ (locks.length ≤ 4096) ∧ (opOf s c p = none) ∧ (s.procUp p = true) ∧ (s.on (R.ARB_CTL.held c) = true)) := by decide +kernel

theorem test_witness_ArbiterCommands_2 :
    (let s : State := live; let p := 2; let c := 5; let clocks := 1; let locks := [false]; (p < 8) ∧ (c < 6) ∧ (locks ≠ []) ∧
      (locks.length ≤ 4096) ∧ ((∀ q ∈ List.range 8, opOf s c q = none)) ∧ (s.procUp p = true) ∧ (s.on (R.ARB_CTL.held c) = false) ∧
      (lottery ({ s with arb := { s.arb with ops := tput s.arb.ops (8 * c + p) { locks := locks } } } : State) c (lfsrSteps clocks (s.rd
      R.ARB_LFSR.value) % 2 ^ 32) [p] = some p)) := by decide +kernel

theorem test_witness_ArbiterCommands_3 :
    (let s : State := { (live.wr (R.ARB_CTL.held 5) 1).wr (R.ARB_CTL.holder 5) 2 with arb := { ops := [(42, { locks := [true, false] })] } };
      let c := 5; let clocks := 3; let o := { locks := [true, false] : BusOp }; (c < 6) ∧ (s.on (R.ARB_CTL.held c) = true) ∧ (opOf s c
      (s.rd (R.ARB_CTL.holder c)) = some o) ∧ (o.done + 1 < o.locks.length) ∧ (o.locks.getD o.done false = true)) := by decide +kernel

theorem test_witness_ArbiterCommands_4 :
    (let s : State := { (live.wr (R.ARB_CTL.held 5) 1).wr (R.ARB_CTL.holder 5) 2 with arb := { ops := [(42, { locks := [true] })] } };
      let c := 5; let clocks := 3; let o := { locks := [true] : BusOp }; (c < 6) ∧ (s.on (R.ARB_CTL.held c) = true) ∧ (opOf s c (s.rd
      (R.ARB_CTL.holder c)) = some o) ∧ (o.locks.length ≤ o.done + 1) ∧ ((∀ q ∈ List.range 8, q ≠ s.rd (R.ARB_CTL.holder c) → opOf s c q
      = none))) := by decide +kernel

theorem test_witness_ArbiterCommands_5 :
    (let s : State := live; let c := 5; let value := 7; let high := true; (c < 6)) := by decide +kernel

theorem test_witness_RecorderCommands_1 :
    (let s : State := { (live.wr R.REC_HEAD.position 5).wr R.REC_STATUS.scanning 0 with rcd := { queue := [{ body := .event 7 1 2, seconds := 3, cycles := 1, run := 0 }] } };
      let r := { body := .event 7 1 2, seconds := 3, cycles := 1, run := 0 : CaskRec }; let rest := ([] : List CaskRec); let pos := 5;
      let n := 1; (s.procUp 3 = true) ∧ (s.on R.REC_STATUS.scanning = false) ∧ (s.rcd.queue = r :: rest) ∧ (pos = s.rd
      R.REC_HEAD.position) ∧ (n = (slotsOf s r).length) ∧ (pos % 2048 ≠ 0) ∧ (pos % 2048 + n ≤ 2048) ∧ (s.rcd.dropped = 0)) := by decide +kernel

theorem test_witness_RecorderCommands_2 :
    (let s : State := { (live.wr R.REC_HEAD.position 5).wr R.REC_STATUS.scanning 0 with rcd := { queue := [{ body := .event 7 1 2, seconds := 3, cycles := 1, run := 0 }] } };
      let r := { body := .event 7 1 2, seconds := 3, cycles := 1, run := 0 : CaskRec }; let rest := ([] : List CaskRec); let pos := 5;
      let k := 0; (s.procUp 3 = true) ∧ (s.on R.REC_STATUS.scanning = false) ∧ (s.rcd.queue = r :: rest) ∧ (pos = s.rd
      R.REC_HEAD.position) ∧ (k < (slotsOf s r).length) ∧ (pos % 2048 ≠ 0) ∧ (pos % 2048 + (slotsOf s r).length ≤ 2048)) := by decide +kernel

theorem test_witness_RecorderCommands_3 :
    (let s : State := { live with rcd := { erasing := some 257 }, flash := { cask := [(2049, .torn)] } }; let q := 257; (s.rcd.erasing =
      some q)) := by decide +kernel

theorem test_witness_RecorderCommands_4 :
    (let s : State := { live with rcd := { erasing := some 257 }, flash := { cask := [(2049, .torn)] } }; let q := 257; (s.rcd.erasing =
      some q)) := by decide +kernel

theorem test_witness_RecorderCommands_5 :
    (let s : State := { live.wr R.REC_SECONDS.seconds 5000 with rcd := { runs := [{ id := 3, body := .event 7 1 2, first := 1, last := 2, count := 4 }] } };
      let run := 3; let r := { id := 3, body := .event 7 1 2, first := 1, last := 2, count := 4 : CaskRun }; (s.rcd.runs.find? (fun (q :
      CaskRun) => q.id = run) = some r) ∧ (r.last + s.rd R.REC_CFG.repeat_window ≤ s.rd R.REC_SECONDS.seconds) ∧ (0 < r.count) ∧
      (s.rcd.queue.length < 1024)) := by decide +kernel

theorem test_witness_RecorderCommands_6 :
    (let s : State := live.wr R.REC_SECONDS.seconds 600; (s.rcd.snapshotAt + 600 ≤ s.rd R.REC_SECONDS.seconds) ∧ (s.rcd.queue.length <
      1024)) := by decide +kernel

theorem test_witness_RecorderCommands_7 :
    (let s : State := live.wr R.REC_STATUS.scanning 1; (s.on R.REC_STATUS.scanning = true) ∧ (s.procUp 3 = true) ∧ (newestBlock
      s.flash.cask = none)) := by decide +kernel

theorem test_witness_RecorderCommands_8 :
    (let s : State := { live.wr R.REC_STATUS.scanning 1 with flash := { cask := [(0, .slot { kind := 0x7E, part := 0, arg := 1, seconds := 9, cycles := 4, arg2 := 0, payload := 0 })] } };
      let q := 0; (s.on R.REC_STATUS.scanning = true) ∧ (s.procUp 3 = true) ∧ (newestBlock s.flash.cask = some q)) := by decide +kernel

theorem test_witness_RecorderCommands_9 :
    (let s : State := { live.wr R.REC_STATUS.frozen 1 with now := 1000000000000 }; (s.on R.REC_STATUS.frozen = true) ∧ (s.rcd.freezeAt +
      s.rd R.REC_CFG.freeze_max * 1000000 ≤ s.now)) := by decide +kernel

theorem test_witness_RecorderCommands_10 :
    (let s : State := live; (s.sup.wardenOn = true)) := by decide +kernel

theorem test_witness_SessionMessages_1 :
    (let s : State := held; let m := next1; let u := upon (held) { code := 0x002, loader := true : Order }; (takesUp s
      { code := 0x002, loader := true : Order } m = some u)) := by decide +kernel

theorem test_witness_SessionMessages_2 :
    (let s : State := held.wr (R.FW_FEATURES.bits 1) 5; let m := next1;
      let u := upon (held.wr (R.FW_FEATURES.bits 1) 5) { code := 0x003 : Order }; let bitmap := 0x700000001; let f := 0x500000000;
      (takesUp s { code := 0x003 : Order } m = some u) ∧ (f = (bitmap % 2 ^ 128) &&& ownFeatures u)) := by decide +kernel

theorem test_witness_SessionMessages_3 :
    (let s : State := { held with now := 1000000000000 };
      let q := { id := 9, role := Role.rackManager, source := 0, key := 0 : Session }; (s.mgt.session = some q) ∧ (q.heardAt + s.rd
      R.MGT_CFG.lease * 1000000 ≤ s.now)) := by decide +kernel

theorem test_witness_SessionMessages_4 :
    (let s : State := { held with mgt := { lockouts := [(4, 0)] } }; let source := 4; let at_ := 0; (tfind s.mgt.lockouts source = some
      at_) ∧ (at_ ≤ s.now)) := by decide +kernel

theorem test_witness_SessionMessages_5 :
    (let s : State := held; let m := next1; let code := 0x123; (reaches s m = true) ∧ (m.role = Role.rackManager) ∧ (m.magic = 0x4D47) ∧
      (m.version = 1) ∧ (lockedOut s m = false) ∧ (responding s = false)) := by decide +kernel

theorem test_witness_PowerMessages_1 :
    (let s : State := held; let m := next1; let u := upon (held) { code := 0x010, duty := 1, free := Free.rackSigned : Order };
      let watts := 5000; (takesUp s { code := 0x010, duty := 1, free := Free.rackSigned : Order } m = some u) ∧ (500 ≤ watts ∧ watts ≤
      65534)) := by decide +kernel

theorem test_witness_PowerMessages_2 :
    (let s : State := held; let m := next1; let u := upon (held) { code := 0x010, duty := 1, free := Free.rackSigned : Order };
      let watts := 499; (takesUp s { code := 0x010, duty := 1, free := Free.rackSigned : Order } m = some u) ∧ (watts < 500)) := by decide +kernel

theorem test_witness_PowerMessages_3 :
    (let s : State := held; let m := next1; let u := upon (held) { code := 0x011, duty := 1 : Order }; let watts := 5000; (takesUp s
      { code := 0x011, duty := 1 : Order } m = some u) ∧ (500 ≤ watts ∧ watts ≤ 65534)) := by decide +kernel

theorem test_witness_PowerMessages_4 :
    (let s : State := held; let m := next1; let u := upon (held) { code := 0x011, duty := 1 : Order }; let watts := 5000; (takesUp s
      { code := 0x011, duty := 1 : Order } m = some u) ∧ (m.role = Role.rackManager) ∧ (500 ≤ watts ∧ watts ≤ 65534)) := by decide +kernel

theorem test_witness_PowerMessages_5 :
    (let s : State := held; let m := next1; let u := upon (held) { code := 0x012, feature := 2, duty := 1 : Order }; let pin := 12;
      (takesUp s { code := 0x012, feature := 2, duty := 1 : Order } m = some u) ∧ (pin < 64)) := by decide +kernel

theorem test_witness_PowerMessages_6 :
    (let s : State := held; let m := next1; let u := upon (held) { code := 0x012, feature := 2, duty := 1 : Order }; let pin := 12;
      (takesUp s { code := 0x012, feature := 2, duty := 1 : Order } m = some u) ∧ (pin < 64)) := by decide +kernel

theorem test_witness_PowerMessages_7 :
    (let s : State := { held with img := { tray := { map := 0xFAC688, partitions := 8 } } }; let m := next1;
      let u := upon ({ held with img := { tray := { map := 0xFAC688, partitions := 8 } } }) { code := 0x013 : Order }; let parts := 4;
      let p := 2; (takesUp s { code := 0x013 : Order } m = some u) ∧ (p < 8) ∧ (parts = 2 ^ p) ∧ (partsOk parts u = true) ∧ (offRecord u
      p ≠ 1 ∧ offRecord u p ≠ 3)) := by decide +kernel

theorem test_witness_PowerMessages_8 :
    (let s : State := { held with img := { tray := { map := 0xFAC688, partitions := 8 } }, seq := { state := 2, run := some { kind := SeqKind.slotsOn } } };
      let m := next1;
      let u := upon ({ held with img := { tray := { map := 0xFAC688, partitions := 8 } }, seq := { state := 2, run := some { kind := SeqKind.slotsOn } } }) { code := 0x013 : Order };
      let parts := 4; let p := 2; (takesUp s { code := 0x013 : Order } m = some u) ∧ (p < 8) ∧ (parts = 2 ^ p) ∧ (partsOk parts u =
      true) ∧ (mayTurnOn u m.role p = true) ∧ (u.seq.state = 2) ∧ (u.seq.run.isSome = true)) := by decide +kernel

theorem test_witness_PowerMessages_9 :
    (let s : State := held; let m := next1; let u := upon (held) { code := 0x014, free := Free.rackSigned, loader := true : Order };
      (takesUp s { code := 0x014, free := Free.rackSigned, loader := true : Order } m = some u) ∧ (u.seq.state = 2)) := by decide +kernel

theorem test_witness_PowerMessages_10 :
    (let s : State := held.wr (R.FW_PROC.state 0) 3; let m := next1; (reaches s m = true) ∧ (m.role = Role.rackManager) ∧ (m.magic =
      0x4D47) ∧ (m.version = 1) ∧ (lockedOut s m = false) ∧ (responding s = true)) := by decide +kernel

theorem test_witness_SelectionMessages_1 :
    (let s : State := { held.wr (R.PAT_STATUS.state 0) 1 with pat := { lib := [(3, { number := 3 })] } }; let m := next1;
      let u := upon ({ held.wr (R.PAT_STATUS.state 0) 1 with pat := { lib := [(3, { number := 3 })] } }) { code := 0x020 : Order };
      let pattern := 3; let stepLo := 8; let d := 1; let atStep := true; let p := { number := 3 : Pattern }; (takesUp s
      { code := 0x020 : Order } m = some u) ∧ (pattern < 256) ∧ (tfind u.pat.lib pattern = some p) ∧ (seqMode u = 1) ∧ (u.dieUp d =
      true)) := by decide +kernel

theorem test_witness_SelectionMessages_2 :
    (let s : State := held; let m := next1; let u := upon (held) { code := 0x020 : Order }; let pattern := 3; let stepLo := 8;
      let atStep := true; let restart := true; (takesUp s { code := 0x020 : Order } m = some u) ∧ (pattern < 256) ∧ (tfind u.pat.lib
      pattern = none)) := by decide +kernel

theorem test_witness_SelectionMessages_3 :
    (let s : State := { held with flash := { settings := { units := [(5, { failed := true })] } }, sdc := { units := [(5, { passed := true })] } };
      let m := next1;
      let u := upon ({ held with flash := { settings := { units := [(5, { failed := true })] } }, sdc := { units := [(5, { passed := true })] } }) { code := 0x021, feature := 7 : Order };
      let unit := 0x1005; let n := 5; (takesUp s { code := 0x021, feature := 7 : Order } m = some u) ∧ (n < 64) ∧ (unit = 0x1000 + n) ∧
      ((unitKept u n).failed = true) ∧ ((unitLive u n).passed = true)) := by decide +kernel

theorem test_witness_SelectionMessages_4 :
    (let s : State := { held with pat := { admitted := 4, joined := 1 } }; let m := next1;
      let u := upon ({ held with pat := { admitted := 4, joined := 1 } }) { code := 0x022, feature := 7 : Order }; let unit := 0x3002;
      let slot := 2; (takesUp s { code := 0x022, feature := 7 : Order } m = some u) ∧ (slot < 8) ∧ (unit = 0x3000 + slot) ∧
      (u.accAdmitted slot = true)) := by decide +kernel

theorem test_witness_SelectionMessages_5 :
    (let s : State := held; let m := next1; let u := upon (held) { code := 0x040, feature := 6 : Order }; let unit := 70; (takesUp s
      { code := 0x040, feature := 6 : Order } m = some u) ∧ (unit < 128) ∧ ((unitLive u unit).running = none) ∧ (tileFenced u unit =
      false)) := by decide +kernel

theorem test_witness_SelectionMessages_6 :
    (let s : State := { held with sdc := { units := [(70, { running := some 0 })] } }; let m := next1;
      let u := upon ({ held with sdc := { units := [(70, { running := some 0 })] } }) { code := 0x040, feature := 6 : Order };
      let unit := 70; (takesUp s { code := 0x040, feature := 6 : Order } m = some u) ∧ (unit < 136) ∧ ((unitLive u unit).running.isSome
      = true)) := by decide +kernel

theorem test_witness_SelectionMessages_7 :
    (let s : State := held; let m := next1; let u := upon (held) { code := 0x041, feature := 6 : Order }; let unit := 70; (takesUp s
      { code := 0x041, feature := 6 : Order } m = some u) ∧ (unit < 136) ∧ ((unitLive u unit).last = none)) := by decide +kernel

theorem test_witness_ReadingMessages_1 :
    (let s : State := held; let m := next1; let u := upon (held) { code := 0x030, bulk := true, free := Free.unsigned : Order };
      let offset := 0; let len := 8; (takesUp s { code := 0x030, bulk := true, free := Free.unsigned : Order } m = some u) ∧ (4 ≤ len ∧
      len ≤ 4096) ∧ (len % 4 = 0) ∧ (offset + len ≤ 0x40000000)) := by decide +kernel

theorem test_witness_ReadingMessages_2 :
    (let s : State := held; let m := next1; let u := upon (held) { code := 0x031, feature := 0, bulk := true, duty := 3 : Order };
      let ring := 0; let first := 0; let count := 3; (takesUp s
      { code := 0x031, feature := if ring = 0 then 0 else 5, bulk := true, duty := 3 : Order } m = some u) ∧ (ring ≤ 8) ∧ (1 ≤ count ∧
      count ≤ (if ring = 0 then 64 else 128)) ∧ (first < (if ring = 0 then 256 else 2048))) := by decide +kernel

theorem test_witness_ReadingMessages_3 :
    (let s : State := held; let m := next1; let u := upon (held) { code := 0x032, feature := 5 : Order }; let hubctl := 1;
      let point := 255; let enable := true; (takesUp s { code := 0x032, feature := 5 : Order } m = some u) ∧ (hubctl < 2) ∧ (point <
      256)) := by decide +kernel

theorem test_witness_ReadingMessages_4 :
    (let s : State := held; let m := next1; let u := upon (held) { code := 0x033, feature := 4, duty := 3 : Order }; (takesUp s
      { code := 0x033, feature := 4, duty := 3 : Order } m = some u)) := by decide +kernel

theorem test_witness_ReadingMessages_5 :
    (let s : State := held.wr R.REC_STATUS.frozen 1; let m := next1;
      let u := upon (held.wr R.REC_STATUS.frozen 1) { code := 0x033, feature := 4, duty := 3 : Order }; (takesUp s
      { code := 0x033, feature := 4, duty := 3 : Order } m = some u)) := by decide +kernel

theorem test_witness_ReadingMessages_6 :
    (let s : State := (held.wr R.REC_STATUS.frozen 1).wr R.REC_FREEZE_POINT.position 9; let m := next1;
      let u := upon ((held.wr R.REC_STATUS.frozen 1).wr R.REC_FREEZE_POINT.position 9) { code := 0x034, feature := 4, bulk := true, duty := 3 : Order };
      let first := 2; let count := 3; (takesUp s { code := 0x034, feature := 4, bulk := true, duty := 3 : Order } m = some u) ∧ (1 ≤
      count ∧ count ≤ 128) ∧ (first < 2 ^ 32) ∧ (u.on R.REC_STATUS.frozen = true) ∧ ((first + 2 ^ 32 - u.rd R.REC_OLDEST.position % 2 ^
      32) % 2 ^ 32 + count ≤ (u.rd R.REC_FREEZE_POINT.position + 2 ^ 32 - u.rd R.REC_OLDEST.position % 2 ^ 32) % 2 ^ 32)) := by decide +kernel

theorem test_witness_ReadingMessages_7 :
    (let s : State := held; let m := next1; let u := upon (held) { code := 0x034, feature := 4, bulk := true, duty := 3 : Order };
      let first := 2; let count := 3; (takesUp s { code := 0x034, feature := 4, bulk := true, duty := 3 : Order } m = some u) ∧ (u.on
      R.REC_STATUS.frozen = false)) := by decide +kernel

theorem test_witness_LatchMessages_1 :
    (let s : State := held.wr (R.COOL_FAN.state 3) 4; let m := next1;
      let u := upon (held.wr (R.COOL_FAN.state 3) 4) { code := 0x042 : Order }; let i := 3; (takesUp s { code := 0x042 : Order } m =
      some u) ∧ (i < 8) ∧ (fanState u i = 4)) := by decide +kernel

theorem test_witness_LatchMessages_2 :
    (let s : State := held.wr (R.COOL_PUMP.state 1) 4; let m := next1;
      let u := upon (held.wr (R.COOL_PUMP.state 1) 4) { code := 0x042 : Order }; let i := 1; (takesUp s { code := 0x042 : Order } m =
      some u) ∧ (i < 2) ∧ (pumpFailed u i = true)) := by decide +kernel

theorem test_witness_LatchMessages_3 :
    (let s : State := held.wr (R.COOL_VALVE.flagged 7) 1; let m := next1;
      let u := upon (held.wr (R.COOL_VALVE.flagged 7) 1) { code := 0x042 : Order }; let i := 7; (takesUp s { code := 0x042 : Order } m =
      some u) ∧ (i < 8)) := by decide +kernel

theorem test_witness_LatchMessages_4 :
    (let s : State := held; let m := next1; let u := upon (held) { code := 0x042 : Order }; let i := 0; (takesUp s
      { code := 0x042 : Order } m = some u) ∧ (i = 0)) := by decide +kernel

theorem test_witness_LatchMessages_5 :
    (let s : State := held.wr R.LEAK_STATUS.wet 8; let m := next1;
      let u := upon (held.wr R.LEAK_STATUS.wet 8) { code := 0x042 : Order }; let i := 3; (takesUp s { code := 0x042 : Order } m = some
      u) ∧ (i < 8) ∧ ((u.rd R.LEAK_STATUS.wet).testBit i = true) ∧ (zoneDry u i = true)) := by decide +kernel

theorem test_witness_LatchMessages_6 :
    (let s : State := { (held.wr R.LEAK_STATUS.wet 1).wr (R.LEAK_LOOP.state 1) 1 with img := { plant := { loops := 4, zones := [{ loops := 3, slots := 4, iso := 2 }] } } };
      let m := next1;
      let u := upon ({ (held.wr R.LEAK_STATUS.wet 1).wr (R.LEAK_LOOP.state 1) 1 with img := { plant := { loops := 4, zones := [{ loops := 3, slots := 4, iso := 2 }] } } }) { code := 0x042 : Order };
      let i := 0; (takesUp s { code := 0x042 : Order } m = some u) ∧ (i < 8) ∧ ((u.rd R.LEAK_STATUS.wet).testBit i = true) ∧ (zoneDry u
      i = false)) := by decide +kernel

theorem test_witness_LatchMessages_7 :
    (let s : State := held.wr (R.LNK_STATE.state 1 3) 5; let m := next1;
      let u := upon (held.wr (R.LNK_STATE.state 1 3) 5) { code := 0x042 : Order }; let i := 11; (takesUp s { code := 0x042 : Order } m =
      some u) ∧ (i < 16) ∧ (u.linkState (linkOf (i / 8) (i % 8)) = 5)) := by decide +kernel

theorem test_witness_LatchMessages_8 :
    (let s : State := held.wr (R.FW_PROC.state 2) 3; let m := next1;
      let u := upon (held.wr (R.FW_PROC.state 2) 3) { code := 0x042 : Order }; let i := 2; (takesUp s { code := 0x042 : Order } m = some
      u) ∧ (i < 8) ∧ (u.rd (R.FW_PROC.state i) = 3)) := by decide +kernel

theorem test_witness_LatchMessages_9 :
    (let s : State := held.wr R.ERR_STATUS.hub_latched 1; let m := next1;
      let u := upon (held.wr R.ERR_STATUS.hub_latched 1) { code := 0x042 : Order }; let i := 0; (takesUp s { code := 0x042 : Order } m =
      some u) ∧ (i = 0)) := by decide +kernel

theorem test_witness_PortCommands_1 :
    (let s : State := { live with now := 60000000000 }; (s.on R.MGT_STATUS.alone = false) ∧ (s.sup.wardenOn = true) ∧ (s.rd
      R.MGT_CFG.silence ≤ s.silence .host) ∧ (s.rd R.MGT_CFG.silence ≤ s.silence .rackManager)) := by decide +kernel

theorem test_witness_PortCommands_2 :
    (let s : State := held; let source := 3; let ident := 4; (portTakes s = true)) := by decide +kernel

theorem test_witness_PortCommands_3 :
    (let s : State := held; let source := 3; (portTakes s = true)) := by decide +kernel

theorem test_witness_PortCommands_4 :
    (let s : State := held; let id := 3; let need := 4000; let len := 1400; (portTakes s = true) ∧ (need ≤ 4448) ∧
      (s.mgt.reassemblies.find? (fun (r : Reassembly) => r.id = id) = none) ∧ (len < need) ∧ (s.mgt.reassemblies.length < 8)) := by decide +kernel

theorem test_witness_BlockTransfers_1 :
    (let s : State := held; let m := next1; let u := upon (held) { code := 0x050, loader := true : Order }; let typ := 4;
      let length := 8192; let abort := false; (takesUp s { code := 0x050, loader := true : Order } m = some u) ∧ (lengthOk typ length =
      true) ∧ (typ ≠ 1) ∧ (u.upd.xfer = none ∨ abort = true)) := by decide +kernel

theorem test_witness_BlockTransfers_2 :
    (let s : State := held; let m := next1; let u := upon (held) { code := 0x050, loader := true : Order }; let length := 8192;
      let abort := false; (takesUp s { code := 0x050, loader := true : Order } m = some u) ∧ (lengthOk 1 length = true) ∧ (u.lifeState ≠
      1)) := by decide +kernel

theorem test_witness_BlockTransfers_3 :
    (let s : State := { held with upd := { xfer := some { typ := 4, length := 8192, got := 1 } } }; let m := next1;
      let u := upon ({ held with upd := { xfer := some { typ := 4, length := 8192, got := 1 } } }) { code := 0x051, bulk := true, loader := true : Order };
      let offset := 4096; let length := 4096; let x := { typ := 4, length := 8192, got := 1 : Xfer }; (takesUp s
      { code := 0x051, bulk := true, loader := true : Order } m = some u) ∧ (blockXfer u = some x) ∧ (offset % 4096 = 0) ∧ (offset <
      x.length) ∧ (length = min 4096 (x.length - offset)) ∧ (u.on R.UPD_STATUS.erasing = false) ∧ (x.got.testBit (offset / 4096) =
      false)) := by decide +kernel

theorem test_witness_BlockTransfers_4 :
    (let s : State := held; let m := next1; let u := upon (held) { code := 0x051, bulk := true, loader := true : Order };
      let offset := 4096; let length := 4096; let ok := true; (takesUp s { code := 0x051, bulk := true, loader := true : Order } m =
      some u) ∧ (blockXfer u = none)) := by decide +kernel

theorem test_witness_BlockTransfers_5 :
    (let s : State := { held with upd := { xfer := some { typ := 4, length := 8192, got := 3 } } }; let m := next1;
      let u := upon ({ held with upd := { xfer := some { typ := 4, length := 8192, got := 3 } } }) { code := 0x052, loader := true : Order };
      let stage := ({} : StageFile); let x := { typ := 4, length := 8192, got := 3 : Xfer }; (takesUp s
      { code := 0x052, loader := true : Order } m = some u) ∧ (blockXfer u = some x) ∧ (x.got = 2 ^ divUp x.length 4096 - 1)) := by decide +kernel

theorem test_witness_BlockTransfers_6 :
    (let s : State := { held with upd := { xfer := some { typ := 4, length := 8192, got := 1 } } }; let m := next1;
      let u := upon ({ held with upd := { xfer := some { typ := 4, length := 8192, got := 1 } } }) { code := 0x052, loader := true : Order };
      let stage := ({} : StageFile); let x := { typ := 4, length := 8192, got := 1 : Xfer }; (takesUp s
      { code := 0x052, loader := true : Order } m = some u) ∧ (blockXfer u = some x) ∧ (x.got ≠ 2 ^ divUp x.length 4096 - 1)) := by decide +kernel

theorem test_witness_BlockTransfers_7 :
    (let s : State := { held with now := 600000000, upd := { xfer := some { typ := 4, length := 8192, got := 1 } } };
      let x := { typ := 4, length := 8192, got := 1 : Xfer }; (blockXfer s = some x) ∧ (x.heardAt + s.rd R.UPD_XFER_CFG.idle * 1000000 ≤
      s.now)) := by decide +kernel

theorem test_witness_SkeinAndTrickle_1 :
    (let s : State := custody; let m := next1; let u := upon (custody) { code := 0x053, feature := 3, bulk := true : Order };
      let h := { typ := 4, id := 9, length := 512, published := true : CustodyHeader }; (takesUp s
      { code := 0x053, feature := 3, bulk := true : Order } m = some u) ∧ (custodian u h.length = true) ∧ (1 ≤ h.typ ∧ h.typ ≤ 6) ∧
      (h.id ≠ 0) ∧ (lineServed u (custodyBase u) = true)) := by decide +kernel

theorem test_witness_SkeinAndTrickle_2 :
    (let s : State := custody; let m := next1; let u := upon (custody) { code := 0x053, feature := 3, bulk := true : Order };
      let offset := 256; let data := List.replicate 256 7; let h := { typ := 4, id := 7, length := 512 : CustodyHeader }; (takesUp s
      { code := 0x053, feature := 3, bulk := true : Order } m = some u) ∧ (custodian u 0 = true) ∧ (offset % 256 = 0) ∧ (data.length %
      256 = 0) ∧ (256 ≤ data.length ∧ data.length ≤ 4096) ∧ (u.upd.custody = some h) ∧ (offset / 256 + data.length / 256 ≤ divUp
      h.length 256) ∧ (((linesOf (custodyBase u + 4096 + offset) data.length).all (fun (l : Nat) => lineServed u (l * 256))) = true)) := by decide +kernel

theorem test_witness_SkeinAndTrickle_3 :
    (let s : State := custody; let m := next1; let u := upon (custody) { code := 0x053, feature := 3, bulk := true : Order };
      let h := { typ := 4, id := 7, length := 512 : CustodyHeader }; (takesUp s { code := 0x053, feature := 3, bulk := true : Order } m
      = some u) ∧ (custodian u 0 = true) ∧ (u.upd.custody = some h) ∧ (u.upd.loaded = 2 ^ divUp h.length 256 - 1) ∧ (lineServed u
      (custodyBase u) = true)) := by decide +kernel

theorem test_witness_SkeinAndTrickle_4 :
    (let s : State := { custody with upd := { custody := some { typ := 4, id := 7, length := 513 }, loaded := 3 } }; let m := next1;
      let u := upon ({ custody with upd := { custody := some { typ := 4, id := 7, length := 513 }, loaded := 3 } }) { code := 0x053, feature := 3, bulk := true : Order };
      let h := { typ := 4, id := 7, length := 513 : CustodyHeader }; (takesUp s { code := 0x053, feature := 3, bulk := true : Order } m
      = some u) ∧ (custodian u 0 = true) ∧ (u.upd.custody = some h) ∧ (u.upd.loaded ≠ 2 ^ divUp h.length 256 - 1)) := by decide +kernel

theorem test_witness_SkeinAndTrickle_5 :
    (let s : State := custody; let m := next1; let u := upon (custody) { code := 0x053, feature := 3, bulk := true : Order };
      let h := { typ := 4, id := 7, length := 512 : CustodyHeader }; (takesUp s { code := 0x053, feature := 3, bulk := true : Order } m
      = some u) ∧ (custodian u 0 = true) ∧ (u.upd.custody = some h) ∧ (lineServed u (custodyBase u) = true)) := by decide +kernel

theorem test_witness_SkeinAndTrickle_6 :
    (let s : State := held.wr R.UPD_CUSTODIAN.valid 1;
      let h := { published := true, typ := 4, id := 9, length := 8192 : CustodyHeader }; (isTarget s = true) ∧ (s.upd.pollAt = 0) ∧
      (s.upd.xfer = none) ∧ (h.published = true) ∧ (h.lo ≤ s.tree.hub ∧ s.tree.hub ≤ h.hi) ∧ (h.id ≠ s.flash.trickleDone ∧ h.id ≠
      s.flash.trickleAbandoned) ∧ (s.flash.trickle = none) ∧ (h.typ ≠ 1 ∧ lengthOk h.typ h.length = true)) := by decide +kernel

theorem test_witness_SkeinAndTrickle_7 :
    (let s : State := { held.wr R.UPD_CUSTODIAN.valid 1 with now := 500000, upd := { xfer := some { trickle := true, typ := 4, length := 8192, got := 5 } } };
      let x := { trickle := true, typ := 4, length := 8192, got := 5 : Xfer }; (trickleXfer s = some x) ∧ (isTarget s = true) ∧
      (x.paused = false) ∧ (s.on R.UPD_STATUS.erasing = false) ∧ (s.upd.pullAt + 1000000 / max 1 (s.rd R.UPD_TRICKLE_CFG.rate) ≤ s.now)) := by decide +kernel

theorem test_witness_SkeinAndTrickle_8 :
    (let s : State := { held with upd := { xfer := some { trickle := true, typ := 4, length := 8192, got := 5 } } }; let i := 1;
      let page := some true; let stage := ({} : StageFile); let x := { trickle := true, typ := 4, length := 8192, got := 5 : Xfer };
      (trickleXfer s = some x) ∧ (x.paused = false) ∧ (s.on R.UPD_STATUS.erasing = false) ∧ (i < divUp x.length 256) ∧ (page ≠ some
      false) ∧ (x.got.testBit i = false) ∧ (setBit x.got i true ≠ 2 ^ divUp x.length 256 - 1)) := by decide +kernel

theorem test_witness_SkeinAndTrickle_9 :
    (let s : State := { held with upd := { xfer := some { trickle := true, typ := 4, length := 512, got := 1 } } }; let i := 1;
      let page := some true; let stage := ({} : StageFile); let x := { trickle := true, typ := 4, length := 512, got := 1 : Xfer };
      (trickleXfer s = some x) ∧ (x.paused = false) ∧ (s.on R.UPD_STATUS.erasing = false) ∧ (i < divUp x.length 256) ∧ (page ≠ some
      false) ∧ (x.got.testBit i = false) ∧ (setBit x.got i true = 2 ^ divUp x.length 256 - 1)) := by decide +kernel

theorem test_witness_ActivationAndPushes_1 :
    (let s : State := { held with otp := madeOtp }; let m := next1;
      let u := upon ({ held with otp := madeOtp }) { code := 0x054, loader := true : Order }; let code := goodCode; (takesUp s
      { code := 0x054, loader := true : Order } m = some u) ∧ (u.upd.xfer = none) ∧ (u.itg.containAt = none) ∧ (u.seq.state ≠ 3) ∧ (u.rd
      R.UPD_STATUS.loader = 1) ∧ (u.flash.incomplete.testBit 2 = false) ∧ (imageVerdict u 2 code.warden = none)) := by decide +kernel

theorem test_witness_ActivationAndPushes_2 :
    (let s : State := { held with otp := madeOtp }; let m := next1;
      let u := upon ({ held with otp := madeOtp }) { code := 0x054, loader := true : Order };
      let code := { goodCode with warden := { goodCode.warden with sigOk := false } }; let r := 4; (takesUp s
      { code := 0x054, loader := true : Order } m = some u) ∧ (u.upd.xfer = none) ∧ (u.itg.containAt = none) ∧ (u.seq.state ≠ 3) ∧ (u.rd
      R.UPD_STATUS.loader = 1) ∧ (u.flash.incomplete.testBit 2 = false) ∧ (imageVerdict u 2 code.warden = some r)) := by decide +kernel

theorem test_witness_ActivationAndPushes_3 :
    (let s : State := { held with otp := madeOtp }; let m := next1;
      let u := upon ({ held with otp := madeOtp }) { code := 0x054, loader := true : Order }; let code := goodCode; (takesUp s
      { code := 0x054, loader := true : Order } m = some u) ∧ (u.upd.xfer = none) ∧ (u.itg.containAt = none) ∧ (u.seq.state ≠ 3) ∧ (u.rd
      R.UPD_STATUS.loader = 1) ∧ (u.flash.incomplete.testBit 3 = false) ∧ (imageVerdict u 3 code.hubctl = none) ∧ (u.rd (R.FW_PROC.state
      4) = 1) ∧ (procAbsent u 4 = false)) := by decide +kernel

theorem test_witness_ActivationAndPushes_4 :
    (let s : State := held; let m := next1; let u := upon (held) { code := 0x054, loader := true : Order }; (takesUp s
      { code := 0x054, loader := true : Order } m = some u) ∧ (u.upd.xfer = none) ∧ (u.itg.containAt = none) ∧ (u.seq.state ≠ 3)) := by decide +kernel

theorem test_witness_ActivationAndPushes_5 :
    (let s : State := { held with upd := { pushes := [{ slot := 2, comp := 0, chunks := 4 }] } }; let slot := 2;
      let p := { slot := 2, comp := 0, chunks := 4 : Push }; (pushOf s slot = some p) ∧ (p.done + 1 < p.chunks)) := by decide +kernel

theorem test_witness_ActivationAndPushes_6 :
    (let s : State := { held with upd := { pushes := [{ slot := 2, comp := 0, chunks := 4 }] } }; let slot := 2;
      let p := { slot := 2, comp := 0, chunks := 4 : Push }; (pushOf s slot = some p)) := by decide +kernel

theorem test_witness_ActivationAndPushes_7 :
    (let s : State := { held with now := 100000, upd := { pushes := [{ slot := 2, comp := 0, chunks := 4 }] } }; let slot := 2;
      let p := { slot := 2, comp := 0, chunks := 4 : Push }; (pushOf s slot = some p) ∧ (p.done < p.chunks) ∧ (p.at_ + 100000 ≤ s.now)) := by decide +kernel

theorem test_witness_ActivationAndPushes_8 :
    (let s : State := { held.wr (R.UPD_SVN.running 3) 5 with now := 600000000, upd := { svnAt := [(4, 0)] } }; let typ := 4;
      let at_ := 0; let v := 5; (1 ≤ typ ∧ typ ≤ 6) ∧ (tfind s.upd.svnAt typ = some at_) ∧ (ranSince s typ at_ + 600000000 ≤ s.now) ∧ (v
      = s.rd (R.UPD_SVN.running (typ - 1))) ∧ (tget s.otp.svn typ < v)) := by decide +kernel

theorem test_witness_ActivationAndPushes_9 :
    (let s : State := held; (s.procUp 0 = true)) := by decide +kernel

theorem test_witness_LifeCycleCommands_1 :
    (let s : State := held.wr (R.FW_NEG.bits 0) 0xFFFFFFFF; let m := next1;
      let u := upon (held.wr (R.FW_NEG.bits 0) 0xFFFFFFFF) { code := 0x061, feature := 9 : Order }; let slot := 3; let digest := 99;
      (takesUp s { code := 0x061, feature := 9 : Order } m = some u) ∧ (slot < 4)) := by decide +kernel

theorem test_witness_LifeCycleCommands_2 :
    (let s : State := { held with now := 3600000000, sec := { consent := some (1, 0) } }; (s.sec.consent.isSome = true) ∧ (consentValid
      s = false)) := by decide +kernel

theorem test_witness_LifeCycleCommands_3 :
    (let s : State := held; let d := { secret := 5, makerKeys := [1, 2] : MakerData }; (s.lifeState = 0) ∧ (s.sup.wardenOn = true)) := by decide +kernel

theorem test_witness_AttestationAndDebug_1 :
    (let s : State := held; let m := next1; let u := upon (held) { code := 0x060, feature := 8 : Order }; let nonce := 5; (takesUp s
      { code := 0x060, feature := 8 : Order } m = some u)) := by decide +kernel

theorem test_witness_AttestationAndDebug_2 :
    (let s : State := held.wr R.SEC_DEBUG.source 1; let m := next1;
      let u := upon (held.wr R.SEC_DEBUG.source 1) { code := 0x061, feature := 9 : Order }; (takesUp s
      { code := 0x061, feature := 9 : Order } m = some u) ∧ (u.rd R.SEC_DEBUG.source ≠ 0)) := by decide +kernel

theorem test_witness_AttestationAndDebug_3 :
    (let s : State := (held.wr R.SEC_DEBUG.source 1).wr R.SEC_DEBUG_UNTIL.seconds 0; (s.rd R.SEC_DEBUG_UNTIL.seconds ≠ 0xFFFFFFFF) ∧
      (s.rd R.SEC_DEBUG_UNTIL.seconds ≤ s.rd R.REC_SECONDS.seconds) ∧ (s.rd R.SEC_DEBUG.source ≠ 0)) := by decide +kernel

theorem test_witness_AttestationAndDebug_4 :
    (let s : State := held; let p := 5; (p < 8) ∧ (s.procUp p = true) ∧ (procAbsent s p = false) ∧ ((s.rd R.SEC_DEBUG.scope).testBit 0 =
      true)) := by decide +kernel

theorem test_witness_KilnTrippedDieStaysOff :
    let s := { live.wr R.COOL_KILN.h1_trip 1 with cool := { kilnLow := [(1, 0)] }, now := 1000000 }
    1 < 2 ∧ kilnActive s 1 = true ∧ toSigned 16 799 < 800 ∧ tfind s.cool.kilnLow 1 = some 0 := by decide +kernel

theorem test_witness_UnassignedOffsets_1 :
    0x101FFFC % 4 = 0 ∧ inRegBlock 0x101FFFC = true ∧ regAt 0x101FFFC = none ∧ live.dieUp 0 = true ∧ offDie 0x101FFFC = some 0 := by
  decide +kernel
theorem test_witness_UnassignedOffsets_2 :
    0x32FFFC % 4 = 0 ∧ inRegBlock 0x32FFFC = true ∧ regAt 0x32FFFC = none ∧ offDie 0x32FFFC = none ∧ Agent.steward ≠ .host := by
  decide +kernel
theorem test_witness_UnassignedOffsets_3 : inRegBlock 0xFFFFFF = false ∧ inRegBlock 0x3000000 = false := by decide +kernel

theorem test_witness_StoppedDieRegistersRetry :
    let s := { live with sup := { live.sup with dies := [(0, { released := true })] } }
    0x2010000 % 4 = 0 ∧ inRegBlock 0x2010000 = true ∧ offDie 0x2010000 = some 1 ∧ s.dieUp 1 = false := by decide +kernel

theorem test_witness_OverJunctionReported_1 :
    (let s : State := live; let d := 1; let temps := [600, 841]; let i := 1; let v := (841 : Int); (s.dieUp d = true) ∧ (hottest
      (temps.take 48) = some (i, v))) := by decide +kernel

theorem test_witness_OverJunctionReported_2 :
    (let s : State := { live with cool := { overSince := [(0, 5)] }, now := 1000005 }; let d := 0; let at_ := 5; (s.dieUp d = true) ∧
      (tfind s.cool.overSince d = some at_) ∧ (at_ + 1000000 ≤ s.now) ∧ (s.cool.overNoted.testBit d = false)) := by decide +kernel

theorem test_witness_OverJunctionReported_3 :
    (let s : State := { live with cool := { overSince := [(0, 6)] }, now := 1000005 }; let d := 0; let at_ := 6; (tfind s.cool.overSince
      d = some at_) ∧ (s.now < at_ + 1000000)) := by decide +kernel

theorem test_witness_OverJunctionReported_4 :
    (let s : State := live; let d := 0; (tfind s.cool.overSince d = none)) := by decide +kernel

theorem test_witness_UnguardedZones_1 :
    (let s : State := { live with img := { live.img with plant := { live.img.plant with loops := 2 } } }; let ohms := [10000, 150000];
      let n := 1; let r := 150000; (n < min 16 s.img.plant.loops) ∧ (ohms[n]? = some r)) := by decide +kernel

theorem test_witness_UnguardedZones_2 :
    (let s : State := { live with img := { live.img with plant := { live.img.plant with zones := [{ loops := 4 }] } }, leak := { brokenSince := [(2, 5)] }, now := 100005 };
      let z := 0; let n := 2; let at_ := 5; (z < 8) ∧ ((s.rd R.LEAK_STATUS.unguarded).testBit z = false) ∧ (n ∈ members (zoneOf s
      z).loops 16) ∧ (tfind s.leak.brokenSince n = some at_ ∧ at_ + 100000 ≤ s.now ∨ tfind s.leak.bandSince n = some at_ ∧ at_ + 1000000
      ≤ s.now)) := by decide +kernel

theorem test_witness_UnguardedZones_3 :
    (let s : State := { live with img := { live.img with plant := { live.img.plant with zones := [{ loops := 4 }] } }, leak := { brokenSince := [(2, 6)] }, now := 100005 };
      let z := 0; (∀ n ∈ members (zoneOf s z).loops 16, (∀ b ∈ tfind s.leak.brokenSince n, s.now < b + 100000) ∧ ∀ b ∈ tfind
      s.leak.bandSince n, s.now < b + 1000000)) := by decide +kernel

theorem test_witness_UnguardedZones_4 :
    (let s : State := { live.wr R.LEAK_STATUS.unguarded 1 with img := { live.img with plant := { live.img.plant with zones := [{ loops := 4 }] } }, leak := { drySince := [(2, 5)] }, now := 1000005 };
      let z := 0; (z < 8) ∧ (∀ n ∈ members (zoneOf s z).loops 16, (tfind s.leak.drySince n).any (fun (b : Nat) => decide (b + 1000000 ≤
      s.now)) = true)) := by decide +kernel

theorem test_witness_UnguardedZones_5 :
    (let s : State := { live.wr R.LEAK_STATUS.unguarded 1 with img := { live.img with plant := { live.img.plant with zones := [{ loops := 4 }] } }, leak := { drySince := [(2, 6)] }, now := 1000005 };
      let z := 0; let n := 2; (n ∈ members (zoneOf s z).loops 16) ∧ ((tfind s.leak.drySince n).all (fun (b : Nat) => decide (s.now < b +
      1000000)) = true)) := by decide +kernel

theorem test_witness_NewSerialStartsAfresh_1 :
    (let s : State := { live with seq := { live.seq with present := 4 }, flash := { settings := { units := [(130, { serial := 3, level := 2 })] } } };
      let slot := 2; let bytes := goodIdentity; let m := decodeIdentity goodIdentity; (slot < 8) ∧ (s.accPresent slot = true) ∧
      (s.procUp 0 = true) ∧ (m = decodeIdentity bytes) ∧ (identityValid m = true) ∧ ((unitKept s (128 + slot)).serial ≠ m.serial)) := by decide +kernel

theorem test_witness_NewSerialStartsAfresh_2 :
    (let s : State := { live with seq := { live.seq with present := 4 }, flash := { settings := { units := [(130, { serial := 77, level := 2 })] } } };
      let slot := 2; let bytes := goodIdentity; let m := decodeIdentity goodIdentity; (slot < 8) ∧ (s.accPresent slot = true) ∧
      (s.procUp 0 = true) ∧ (m = decodeIdentity bytes) ∧ (identityValid m = true) ∧ ((unitKept s (128 + slot)).serial = m.serial)) := by decide +kernel

theorem test_witness_NewSerialStartsAfresh_3 :
    (let s : State := { live with seq := { live.seq with present := 4 } }; let slot := 2; let bytes := [1]; let m := decodeIdentity [1];
      (m = decodeIdentity bytes) ∧ (identityValid m = false)) := by decide +kernel

theorem test_witness_ThermalCeilingHeld_1 :
    (let s : State := live.wr (R.FW_PROC.state 2) 3; (s.procUp 2 = false)) := by decide +kernel

theorem test_witness_ThermalCeilingHeld_2 :
    (let s : State := live.wr R.COOL_STATUS.no_pump 1; (s.procUp 2 = true) ∧ (s.on R.COOL_STATUS.no_pump = true)) := by decide +kernel

theorem test_witness_ThermalCeilingHeld_3 :
    (let s : State := { live.wr (R.COOL_PUMP.state 0) 4 with cool := { pumps := [(1, { slowSince := some 5 })] }, now := 5000005 };
      let n := 1; let at_ := 5; (n < 2) ∧ ((tget s.cool.pumps n).slowSince = some at_) ∧ (at_ + 5000000 ≤ s.now) ∧ (pumpFailed s n =
      false) ∧ (pumpFailed s (1 - n) = true)) := by decide +kernel

theorem test_witness_StepRunsTheFront : State.reset.pending = [] := rfl

theorem test_witness_MessagesTurnedAway_1 :
    let m : Msg := next1
    messageOf (.sessionClose m) = some ({ code := 0x002, loader := true }, m) ∧ reaches (held.wr R.MGT_STATUS.port_up 0) m = false :=
  ⟨rfl, by decide +kernel⟩
theorem test_witness_MessagesTurnedAway_2 :
    let m : Msg := { next1 with role := .host, viaHostPort := false }
    reaches held m = true ∧ m.role = .host ∧ m.viaHostPort = false := by decide +kernel
theorem test_witness_MessagesTurnedAway_3 :
    let m : Msg := { next1 with version := 2 }
    reaches held m = true ∧ (m.magic ≠ 0x4D47 ∨ m.version ≠ 1) := by decide +kernel
theorem test_witness_MessagesTurnedAway_4 :
    let s := { held with mgt := { held.mgt with lockouts := [(sourceKey next1, 5)] } }
    reaches s next1 = true ∧ next1.magic = 0x4D47 ∧ next1.version = 1 ∧ lockedOut s next1 = true := by decide +kernel
theorem test_witness_MessagesTurnedAway_5 :
    let s := held.wr (R.FW_PROC.state 0) 3
    reaches s next1 = true ∧ lockedOut s next1 = false ∧ responding s = true := by decide +kernel
theorem test_witness_MessagesTurnedAway_6 :
    let k : Order := { code := 0x002, loader := true }
    lockedOut held next1 = false ∧ responding held = false ∧ messageHeaderOk k { next1 with status := 1 } = false ∧
      messageHeaderOk k next1 = true := by decide +kernel
theorem test_witness_MessagesTurnedAway_7 :
    let k : Order := { code := 0x002, loader := true }
    let s := { held with mgt := { held.mgt with spent := [((bucketOf held k next1).1, 50000000, 0)] } }
    let v := renewLease s next1
    takeToken v (bucketOf v k next1) = (v, some 20000) := by decide +kernel
theorem test_witness_MessagesTurnedAway_8 :
    let k : Order := { code := 0x002, loader := true }
    let m : Msg := { next1 with session := 8 }
    let x := takeToken (renewLease held m) (bucketOf (renewLease held m) k m)
    x.2 = none ∧ authenticate x.1 k m = .bad .denied := by
  decide +kernel

theorem test_witness_InvKept : Inv State.reset ∧ step State.reset = .next { State.reset with now := 1 } := by
  refine ⟨⟨?_, ⟨?_, ?_⟩, ?_, ?_⟩, rfl⟩ <;> decide +kernel

theorem test_witness_OtpNeverFalls : step State.reset = .next { State.reset with now := 1 } := rfl

/-- A state in which `next1` is acted on is the one `upon` names. -/
theorem upon_eq {s : State} {k : Order} (h : (takesUp s k next1).isSome = true) : takesUp s k next1 = some (upon s k) := by
  unfold upon
  cases hq : takesUp s k next1 with
  | none => rw [hq] at h; cases h
  | some u => rfl

/-- The checks leave the OTP and the certificate. -/
theorem upon_identity {s : State} {k : Order} (h : (takesUp s k next1).isSome = true) :
    identity (upon s k) = identity s ∧ (upon s k).flash.cert = s.flash.cert := by
  obtain ⟨r, g, c, hu⟩ := Laws.takesUp_cases (upon_eq h)
  rw [hu]
  exact ⟨rfl, rfl⟩

/-- A statement that names this device, rightly signed and with all that its operation asks for, is not refused. -/
theorem test_lifeRefusal_none {s : State} {o : LifeOp} {st : Statement} (hid : st.identity = identity s)
    (hs : lifeSigner o (highestMarker s.otp) st = some st.signer) (hk : keyCounts s st.signer st.key = true) (hg : st.sigOk = true)
    (hc : tget s.flash.signCtr (signerSlot s st.signer st.key) < st.counter)
    (hm : (o == .provision || o == .return_ || o == .retire) = true → trayOffHolds s = true)
    (hp : o = .provision → provisionReady s st = true) (hr : o = .return_ → consentValid s = true)
    (hv : o = .revoke → revokeLeaves s st = true) : lifeRefusal s o st = none := by
  unfold lifeRefusal
  simp only [if_neg (Nat.not_le.mpr hc), hid, ne_eq, not_true, if_false, hs]
  cases o <;> simp_all

/-- A token that names this device, rightly signed and within its cycle and limit, is not refused. -/
theorem test_tokenRefusal_none {s : State} {t : Token} (hid : t.identity = identity s) (hs : tokenSigner s.lifeState = some t.signer)
    (hk : keyCounts s t.signer t.key = true) (hg : t.sigOk = true) (hc : tget s.flash.tokenCtr (signerSlot s t.signer t.key) ≤ t.counter)
    (hy : t.cycle = s.rd R.REC_CYCLES.cycles) (hl : s.rd R.REC_SECONDS.seconds < t.limit ∧ t.limit ≠ 0xFFFFFFFF) :
    tokenRefusal s t = none := by
  unfold tokenRefusal
  simp only [if_neg (Nat.not_lt.mpr hc), hid, ne_eq, not_true, if_false, hs, hy]
  simp [hl, hk, hg]

/-- The order of a message of the life cycle. -/
def lifeOrder : Order := { code := 0x061, feature := 9 }

/-- `made` with the certificate of its identity and an owner's keys staged. -/
def toProvision : State := { made with flash := { cert := identityOf 0 }, sec := { staged := [(0, 7)] } }

/-- `held` in the state whose marker is `n`, with one maker key and one owner key in each bank. -/
def marked (n : Nat) : State :=
  { held with
    otp := { markers := [(n, 7)], makerKeys := [5, 6, 0, 0], owner0 := [7, 0, 0, 0], owner1 := [7, 0, 0, 0] }
    flash := { ownerKeys := [(0, 7), (4, 7)] }
    seq := { state := 0 }
    sec := { consent := some (0, 0) } }

/-- The field that holds an identity digest reads as it. -/
theorem test_fieldAt_identity (a c : List Nat) (h : a.length = 8) : fieldAt (a ++ (bytesOf 64 (identityOf 0) ++ c)) 8 64 = identityOf 0 := by
  have hlt : identityOf 0 < 256 ^ 64 := by
    show Config.identityDigest 0 % (2 ^ 512 - 1) + 1 < 256 ^ 64
    generalize hm : 2 ^ 512 - 1 = n
    have hp : 0 < n := by rw [← hm]; decide +kernel
    have hq : n < 256 ^ 64 := by rw [← hm]; decide +kernel
    exact Nat.lt_of_le_of_lt (Nat.mod_lt _ hp) hq
  unfold fieldAt
  rw [← h, List.drop_left, List.take_append_of_le_length (Nat.le_of_eq (Laws.bytesOf_length 64 _).symm),
    List.take_of_length_le (Nat.le_of_eq (Laws.bytesOf_length 64 _)), Laws.ofBytes_bytesOf hlt]

/-- A statement for a device with the secret 0: its operation, its signer, and what stands from byte 80 on. -/
def signed0 (o : LifeOp) (signer : Nat) (rest : List Nat := []) : Statement :=
  { bytes := (bytesOf 4 0x4C435901 ++ [o.code, signer, 0, 0]) ++ (bytesOf 64 (identityOf 0) ++ (bytesOf 8 1 ++ rest ++ List.replicate (256 - rest.length) 0)) }

/-- A statement names the device that it is for. -/
theorem test_signed0_identity (o : LifeOp) (g : Nat) (r : List Nat) : (signed0 o g r).identity = identityOf 0 := test_fieldAt_identity _ _ rfl

theorem test_witness_LifeCycleCommands_provision : ∃ u, takesUp toProvision lifeOrder next1 = some u ∧
    statementOk .provision (signed0 .provision 0 (bytesOf 64 7)) = true ∧ lifeRefusal u .provision (signed0 .provision 0 (bytesOf 64 7)) = none := by
  have h : (takesUp toProvision lifeOrder next1).isSome = true := by decide +kernel
  obtain ⟨h1, h2⟩ := upon_identity h
  refine ⟨_, upon_eq h, by decide +kernel, test_lifeRefusal_none ((test_signed0_identity .provision 0 (bytesOf 64 7)).trans h1.symm) (by decide +kernel) (by decide +kernel) rfl
    (by decide +kernel) (fun _ => by decide +kernel) (fun _ => ?_) (fun q => by cases q) (fun q => by cases q)⟩
  have h3 : (List.range 4).all (fun i => tget (upon toProvision lifeOrder).sec.staged i == (signed0 .provision 0 (bytesOf 64 7)).owners.getD i 0) = true := by
    decide +kernel
  have h4 : identityOf 0 ≠ 0 := Nat.succ_ne_zero _
  have h5 : ((signed0 .provision 0 (bytesOf 64 7)).owners.take 4).any (· != 0) = true := by decide
  unfold provisionReady
  rw [h2, h1, h3, h5]
  show (identityOf 0 != 0 && identityOf 0 == identityOf 0 && true && true) = true
  simp [h4]

theorem test_witness_LifeCycleCommands_deploy : ∃ u, takesUp (marked 2) lifeOrder next1 = some u ∧
    statementOk .deploy (signed0 .deploy 1) = true ∧ lifeRefusal u .deploy (signed0 .deploy 1) = none := by
  have h : (takesUp (marked 2) lifeOrder next1).isSome = true := by decide +kernel
  exact ⟨_, upon_eq h, by decide +kernel, test_lifeRefusal_none ((test_signed0_identity .deploy 1 []).trans (upon_identity h).1.symm) (by decide +kernel) (by decide +kernel) rfl
    (by decide +kernel) (fun _ => by decide +kernel) (fun q => by cases q) (fun q => by cases q) (fun q => by cases q)⟩

theorem test_witness_LifeCycleCommands_consent : ∃ u, takesUp (marked 3) lifeOrder next1 = some u ∧
    statementOk .consent (signed0 .consent 1) = true ∧ lifeRefusal u .consent (signed0 .consent 1) = none := by
  have h : (takesUp (marked 3) lifeOrder next1).isSome = true := by decide +kernel
  exact ⟨_, upon_eq h, by decide +kernel, test_lifeRefusal_none ((test_signed0_identity .consent 1 []).trans (upon_identity h).1.symm) (by decide +kernel) (by decide +kernel) rfl
    (by decide +kernel) (fun _ => by decide +kernel) (fun q => by cases q) (fun q => by cases q) (fun q => by cases q)⟩

theorem test_witness_LifeCycleCommands_return : ∃ u, takesUp (marked 3) lifeOrder next1 = some u ∧
    statementOk .return_ (signed0 .return_ 0) = true ∧ lifeRefusal u .return_ (signed0 .return_ 0) = none := by
  have h : (takesUp (marked 3) lifeOrder next1).isSome = true := by decide +kernel
  exact ⟨_, upon_eq h, by decide +kernel, test_lifeRefusal_none ((test_signed0_identity .return_ 0 []).trans (upon_identity h).1.symm) (by decide +kernel) (by decide +kernel) rfl
    (by decide +kernel) (fun _ => by decide +kernel) (fun q => by cases q) (fun _ => by decide +kernel) (fun q => by cases q)⟩

theorem test_witness_LifeCycleCommands_retire : ∃ u, takesUp (marked 3) lifeOrder next1 = some u ∧
    statementOk .retire (signed0 .retire 1) = true ∧ lifeRefusal u .retire (signed0 .retire 1) = none := by
  have h : (takesUp (marked 3) lifeOrder next1).isSome = true := by decide +kernel
  exact ⟨_, upon_eq h, by decide +kernel, test_lifeRefusal_none ((test_signed0_identity .retire 1 []).trans (upon_identity h).1.symm) (by decide +kernel) (by decide +kernel) rfl
    (by decide +kernel) (fun _ => by decide +kernel) (fun q => by cases q) (fun q => by cases q) (fun q => by cases q)⟩

theorem test_witness_LifeCycleCommands_revoke : ∃ u, takesUp (marked 3) lifeOrder next1 = some u ∧
    statementOk .revoke (signed0 .revoke 0 [0, 1]) = true ∧ lifeRefusal u .revoke (signed0 .revoke 0 [0, 1]) = none ∧ (signed0 .revoke 0 [0, 1]).revSigner = 0 := by
  have h : (takesUp (marked 3) lifeOrder next1).isSome = true := by decide +kernel
  exact ⟨_, upon_eq h, by decide +kernel, test_lifeRefusal_none ((test_signed0_identity .revoke 0 [0, 1]).trans (upon_identity h).1.symm) (by decide +kernel) (by decide +kernel) rfl
    (by decide +kernel) (fun q => by cases q) (fun q => by cases q) (fun q => by cases q) (fun _ => by decide +kernel), rfl⟩

theorem test_witness_LifeCycleCommands_retireRefused :
    let st : Statement := { signed0 .retire 1 with sigOk := false }
    takesUp (marked 3) lifeOrder next1 = some (upon (marked 3) lifeOrder) ∧ statementOk .retire st = true ∧
      lifeRefusal (upon (marked 3) lifeOrder) .retire st = some (0x20, .denied) := by
  have h : (takesUp (marked 3) lifeOrder next1).isSome = true := by decide +kernel
  exact ⟨upon_eq h, by decide +kernel, by decide +kernel⟩

/-- A token for a device with the secret 0, returned to its maker. -/
def token0 : Token :=
  { bytes := (bytesOf 4 0x554E4C01 ++ [1, 0, 1, 3]) ++ (bytesOf 64 (identityOf 0) ++ (bytesOf 4 0 ++ bytesOf 4 100 ++ bytesOf 8 1 ++ List.replicate 40 0)) }

/-- A token names the device that it is for. -/
theorem test_token0_identity : token0.identity = identityOf 0 := test_fieldAt_identity _ _ rfl

theorem test_witness_AttestationAndDebug_unlock : ∃ u, takesUp (marked 4) lifeOrder next1 = some u ∧ tokenOk token0 = true ∧
    tokenRefusal u token0 = none := by
  have h : (takesUp (marked 4) lifeOrder next1).isSome = true := by decide +kernel
  exact ⟨_, upon_eq h, by decide +kernel, test_tokenRefusal_none (test_token0_identity.trans (upon_identity h).1.symm) (by decide +kernel) (by decide +kernel) rfl
    (by decide +kernel) (by decide +kernel) (by decide +kernel)⟩

theorem test_witness_AttestationAndDebug_unlockRefused :
    takesUp (marked 4) lifeOrder next1 = some (upon (marked 4) lifeOrder) ∧ tokenOk { token0 with sigOk := false } = true ∧
      tokenRefusal (upon (marked 4) lifeOrder) { token0 with sigOk := false } = some (0x20, .denied) := by
  have h : (takesUp (marked 4) lifeOrder next1).isSome = true := by decide +kernel
  exact ⟨upon_eq h, by decide +kernel, by decide +kernel⟩

theorem test_witness_AttestationAndDebug_tokenShift : (marked 4).sup.wardenOn = true ∧ tokenOk token0 = true ∧
    tokenRefusal (marked 4) token0 = none :=
  ⟨rfl, by decide +kernel, test_tokenRefusal_none test_token0_identity (by decide +kernel) (by decide +kernel) rfl (by decide +kernel) (by decide +kernel)
    (by decide +kernel)⟩

theorem test_witness_AttestationAndDebug_certificate :
    (takesUp held { code := 0x060, feature := 8 } next1).isSome = true ∧ (0 = 0 ∨ 0 = 4096) := by decide +kernel

/-- The first signed message of a commander. -/
def signed1 : Msg := { flags := 4, length := 3324, size := 3324, counter := 1, sigOk := true }

theorem test_witness_SessionMessages_open :
    let s := { held with flash := { keys := 1 }, mgt := {} }
    let k : Order := { code := 0x001, free := .signed, loader := true }
    takesUp s k signed1 = some ((takesUp s k signed1).getD s) ∧ ((takesUp s k signed1).getD s).mgt.session = none := by decide +kernel

theorem test_witness_SessionMessages_openHeld :
    let q : Session := { id := 9, role := .host, source := 0, key := 0 }
    let s := { held with flash := { keys := 1 }, mgt := { session := some q } }
    let k : Order := { code := 0x001, free := .signed, loader := true }
    takesUp s k signed1 = some ((takesUp s k signed1).getD s) ∧ ((takesUp s k signed1).getD s).mgt.session = some q ∧
      q.role ≠ signed1.role ∧ (signed1.role = .host ∨ false = false) := by decide +kernel

/-- `held` with the host's session, and the host's message in it. -/
def hostHeld : State := { held with img := image, mgt := { session := some { id := 9, role := .host, source := 0, key := 0 } } }
def hostNext : Msg := { next1 with role := .host }

theorem test_witness_PowerMessages_hostClears :
    let k : Order := { code := 0x011, duty := 1 }
    let u := (takesUp hostHeld k hostNext).getD hostHeld
    takesUp hostHeld k hostNext = some u ∧ hostNext.role = .host ∧ capBodyOk 0xFF 5000 u = true := by decide +kernel

theorem test_witness_PowerMessages_partitionHeldOff :
    let s := hostHeld.wr R.MGT_PART_OFF.off_by 1
    let u := (takesUp s { code := 0x013 } hostNext).getD s
    takesUp s { code := 0x013 } hostNext = some u ∧ 0 < 8 ∧ 1 = 2 ^ 0 ∧ partsOk 1 u = true ∧ mayTurnOn u .host 0 = false := by decide +kernel

/-- A gauge table that may be admitted. -/
def steadyTable : List GaugeEntry := List.replicate 64 { f := 1, v := 1, idle := 1, pmax := 2 }

/-- `s` with slot 0's accelerator read and its link UP for as long as `now` says. -/
def admissible (s : State) : State :=
  ({ s with now := 1000000, lnk := { s.lnk with identity := [(0, {})], identityRead := 1 } }.wr (R.LNK_STATE.state 0 0) 3).modSlotPower 0
    fun x => { x with table := steadyTable }

theorem test_witness_SelectionMessages_accelerator :
    let s := admissible held
    let u := upon s { code := 0x021, feature := 7 }
    takesUp s { code := 0x021, feature := 7 } next1 = some u ∧ 0 < 8 ∧ 0x3000 = 0x3000 + 0 ∧ u.accAdmitted 0 = false ∧
      u.pat.listedAdmit.testBit 0 = false ∧ u.linkState 0 = 3 ∧ (unitKept u 128).failed = false ∧ mayAdmit u 0 = true := by decide +kernel

theorem test_witness_SelectionMessages_result :
    let s := { held with sdc := { held.sdc with units := [(3, { last := some default })] } }
    let u := upon s { code := 0x041, feature := 6 }
    takesUp s { code := 0x041, feature := 6 } next1 = some u ∧ 3 < 136 ∧ (unitLive u 3).last = some default := by decide +kernel

theorem test_witness_LinkMessageCommands_autoAdmit :
    let s := admissible live
    0 < 8 ∧ s.linkState 0 = 3 ∧ s.accAdmitted 0 = false ∧ s.on (R.LNK_CFG.auto_admit 0 0) = true ∧
      (tget s.lnk.links 0).upAt + s.rd (R.LNK_CFG.admit_delay 0 0) * 100000 ≤ s.now ∧ mayAdmit s 0 = true := by decide +kernel

theorem test_witness_CoolingActuators_valves :
    let s := { live.wr R.CFG_STATUS.state 1 with img := { live.img with surrogate := some {} } }
    wantedMode s = 0 ∧ s.img.surrogate = some {} := by decide +kernel

theorem test_witness_SwatchCommands_due :
    let s := { live.wr R.SDC_CFG.auto 1 with
      flash := { live.flash with settings := { live.flash.settings with units := [(3, { level := 1 })] } }
      sdc := { live.sdc with marks := 1000 } }
    3 < 128 ∧ unitDue s 3 1 = true ∧ s.on R.SDC_CFG.auto = true ∧ unitIdle s 3 = true ∧ (unitLive s 3).running = none ∧
      swatchFree s 3 = true := by decide +kernel

theorem test_witness_OpenContextCommands_dispatch :
    let w : Waiting := { id := 4, req := poolReq .read, at_ := 0 }
    let s := { (opened.wr (R.MEM_SHARE.link_applied 0) 20).wr (R.MEM_SHARE.pool_applied 0) 20 with
      mem := { opened.mem with queues := [(0, { slots := 1, minCtx := 1, maxCtx := 8 })], waiting := [(0, [w])] } }
    0 < 2 ∧ s.dieUp 0 = true ∧ dieCtxCount s 0 < 8192 ∧ nextQueue s 0 = some (0, tget s.mem.turn 0, s.mem.deficit) ∧
      tget s.mem.waiting 0 = [w] ∧ dispatchLink s w.req = none := by decide +kernel

end Sys2Proof.Tests
end

section
/-! PROOFS. The scope's statements: what an access to a management register reaches, the register commands, and the state after reset. -/

namespace Sys2Proof.Proofs
open Sys2Proof.Machine Sys2Proof.Laws

/-! ## What the register commands run -/

/-- A command does what holds of the one next state that it answers. -/
theorem does_iff {c : Instr} {s t : State} {P : State → Prop} (h : exec c s = .next t) : Does c s P ↔ P t := by
  simp [Does, h]

@[simp] theorem does_registerWrite (a : Agent) (off v : Nat) (s : State) (P : State → Prop) :
    Does (.registerWrite a off v) s P ↔ P (registerWrite a off v s) :=
  does_iff rfl

@[simp] theorem does_readClear (a : Agent) (off : Nat) (s : State) (P : State → Prop) :
    Does (.readClear a off) s P ↔ P (readClear a off s) :=
  does_iff rfl

@[simp] theorem does_latchedLowRead (a : Agent) (off : Nat) (s : State) (P : State → Prop) :
    Does (.latchedLowRead a off) s P ↔ P (latchedLowRead a off s) :=
  does_iff rfl

@[simp] theorem does_clockHeldLow (c : Nat) (s : State) (P : State → Prop) :
    Does (.clockHeldLow c) s P ↔ P (clockHeldLow c s) :=
  does_iff rfl

@[simp] theorem does_arrInjectWrite (a : Agent) (d : Nat) (arm : Bool) (tile : Nat) (s : State) (P : State → Prop) :
    Does (.arrInjectWrite a d arm tile) s P ↔ P (arrInjectWrite a d arm tile s) :=
  does_iff rfl

/-! ## Which accesses reach a die (R508) -/

theorem die_lt_two_of_dieUp {s : State} {d : Nat} (h : s.dieUp d = true) : d < 2 := by
  unfold State.dieUp at h
  exact of_decide_eq_true (Bool.and_eq_true_iff.mp h).1

theorem eq_zero_or_one {d : Nat} (h : d < 2) : d = 0 ∨ d = 1 := by omega

theorem anyDieUp_of_dieUp {s : State} {d : Nat} (h : s.dieUp d = true) : s.anyDieUp = true := by
  obtain rfl | rfl := eq_zero_or_one (die_lt_two_of_dieUp h)
  · simp only [State.anyDieUp, h, Bool.true_or]
  · simp only [State.anyDieUp, h, Bool.or_true]

/-- Of two dies one of which is stopped, the other alone decides whether any runs. -/
theorem anyDieUp_of_stopped {s : State} {d : Nat} (hd : d < 2) (h : s.dieUp d = false) :
    s.anyDieUp = s.dieUp (1 - d) := by
  obtain rfl | rfl := eq_zero_or_one hd
  · simp only [State.anyDieUp, h, Bool.false_or, Nat.sub_zero]
  · simp only [State.anyDieUp, h, Bool.or_false, Nat.sub_self]

theorem offDie_lt_two {off d : Nat} (h : offDie off = some d) : d < 2 := by
  unfold offDie at h
  split at h <;> simp at h <;> omega

theorem reach_of_dieUp {s : State} {d : Nat} (a : Agent) (f : State → State) (h : s.dieUp d = true) :
    s.reach a f = f s := by
  simp [State.reach, anyDieUp_of_dieUp h]

theorem gateDie_of_dieUp {s : State} {d : Nat} (a : Agent) (f : State → State) (h : s.dieUp d = true) :
    s.gateDie a d f = f s := by
  simp [State.gateDie, h]

theorem hostGate_of_dieUp {s : State} {a : Agent} {d : Nat} (f : State → State) (ha : a ≠ .host) (h : s.dieUp d = true) :
    s.hostGate a f = f s := by
  simp [State.hostGate, ha, reach_of_dieUp a f h]

theorem registerAccess_of_dieUp {s : State} {off d : Nat} (a : Agent) (f : State → State) (h4 : off % 4 = 0)
    (hb : inRegBlock off = true) (hd : offDie off = some d) (h : s.dieUp d = true) : registerAccess a off f s = f s := by
  simp [registerAccess, reach_of_dieUp a _ h, h4, hb, hd, gateDie_of_dieUp a f h]

theorem registerWrite_of_dieUp {s : State} {off d : Nat} (a : Agent) (v : Nat) (h4 : off % 4 = 0) (hb : inRegBlock off = true)
    (hd : offDie off = some d) (h : s.dieUp d = true) : registerWrite a off v s = writeThrough a off v s :=
  registerAccess_of_dieUp a _ h4 hb hd h

theorem registerRead_of_dieUp {s : State} {off d : Nat} (a : Agent) (h4 : off % 4 = 0) (hb : inRegBlock off = true)
    (hd : offDie off = some d) (h : s.dieUp d = true) : registerRead a off s = readThrough off s :=
  registerAccess_of_dieUp a _ h4 hb hd h

/-- R508, R195: Steward's access over the register bus to a stopped die's block. -/
theorem registerAccess_steward_of_stopped {s : State} {off d : Nat} (f : State → State) (h4 : off % 4 = 0)
    (hb : inRegBlock off = true) (hd : offDie off = some d) (h : s.dieUp d = false) :
    registerAccess .steward off f s = s.answer .retry 0 10 := by
  simp [registerAccess, State.reach, State.gateDie, viaWindow, h4, hb, hd, h]

/-- R508: an access to a stopped die's block through the other die's window. -/
theorem registerAccess_window_of_stopped {s : State} {off d : Nat} (f : State → State) (h4 : off % 4 = 0)
    (hb : inRegBlock off = true) (hd : offDie off = some d) (h : s.dieUp d = false) :
    registerAccess .window off f s =
      if s.dieUp (1 - d) = true then s.answer .retry 0 (s.rd (R.MEM_OPEN_CFG.retry_hint (1 - d))) else s := by
  have ha := anyDieUp_of_stopped (offDie_lt_two hd) h
  cases ho : s.dieUp (1 - d) <;> simp [registerAccess, State.reach, State.gateDie, viaWindow, h4, hb, hd, h, ha, ho]

/-- Settles O48: Steward's access is answered before the block's own rule is asked, so the first outcome is the one that occurs. -/
theorem stoppedDieRegistersRetry : Obligations.StoppedDieRegistersRetry := by
  unfold Obligations.StoppedDieRegistersRetry
  refine ⟨fun s off d h4 hb hd h => ⟨?_, ?_⟩, fun s off d v h4 hb hd h => ?_⟩
  · exact (does_readClear ..).mpr (registerAccess_steward_of_stopped _ h4 hb hd h)
  · exact (does_readClear ..).mpr (registerAccess_window_of_stopped _ h4 hb hd h)
  · exact (does_registerWrite ..).mpr (.inl (registerAccess_steward_of_stopped _ h4 hb hd h))

/-! ## CAD_STATUS, a register with W1C fields (R14) -/

/-- A field set to 0 where `b` holds: what a write does to a W1C field whose bit in the word is `b`. -/
def clearIf (b : Bool) (f : Fld) (s : State) : State := if b then s.wr f 0 else s

@[simp] theorem clearIf_out (b : Bool) (f : Fld) (s : State) : (clearIf b f s).out = s.out := by
  cases b <;> rfl

@[simp] theorem rd_clearIf_same (b : Bool) (f : Fld) (s : State) : (clearIf b f s).rd f = if b then 0 else s.rd f := by
  cases b <;> simp [clearIf]

theorem rd_clearIf_other (b : Bool) {f g : Fld} (s : State) (h : f.key ≠ g.key) : (clearIf b f s).rd g = s.rd g := by
  cases b
  · rfl
  · exact rd_wr_other _ _ _ _ h

theorem regsBut_clearIf {ks : List Fld} {s t : State} (b : Bool) (f : Fld) (h : RegsBut ks s t) (hf : f.key ∈ ks.map Fld.key) :
    RegsBut ks s (clearIf b f t) :=
  regsBut_ite (regsBut_wr f 0 h hf) h

/-- The one-bit field at `i` of a word is the word's bit. -/
theorem bits_self_eq_zero_iff (w i : Nat) : bits w i i = 0 ↔ w.testBit i = false := by
  simp [bits, Nat.shiftRight_eq_div_pow, Nat.testBit_eq_decide_div_mod_eq]

theorem ite_bits_eq_clearIf (w i : Nat) (f : Fld) (s : State) :
    (if bits w i i = 0 then s else s.wr f 0) = clearIf (w.testBit i) f s := by
  simp only [bits_self_eq_zero_iff, clearIf]
  cases w.testBit i <;> rfl

/-- The W1C fields of CAD_STATUS of H0 are its bits 8 and 7; the others are RO. -/
theorem writeFields_cadStatus (s : State) (v : Nat) : writeFields s 0x1010000 v =
    clearIf (v.testBit 7) (R.CAD_STATUS.renumbered 0) (clearIf (v.testBit 8) (R.CAD_STATUS.out_of_range 0) s) := by
  rw [← ite_bits_eq_clearIf, ← ite_bits_eq_clearIf]
  rfl

theorem writeThrough_cadStatus {s : State} (v : Nat) (h : s.dieUp 0 = true) :
    writeThrough .steward 0x1010000 v s = writePlain 0x1010000 (v % 2 ^ 32) s := by
  unfold writeThrough
  rw [hostGate_of_dieUp _ (by decide) h]
  rfl

theorem registerWrite_cadStatus {s : State} (v : Nat) (h : s.dieUp 0 = true) : registerWrite .steward 0x1010000 v s =
    (clearIf (v.testBit 7) (R.CAD_STATUS.renumbered 0) (clearIf (v.testBit 8) (R.CAD_STATUS.out_of_range 0) s)).answer .ok 0 0 := by
  rw [registerWrite_of_dieUp _ _ rfl rfl rfl h, writeThrough_cadStatus v h, writePlain, writeFields_cadStatus]
  simp only [Nat.testBit_mod_two_pow, Nat.reduceLT, decide_true, Bool.true_and]

/-! ## CAD_STALL_COUNT, a count that a read clears, and COL_ADDS_LO, the low word of a latched pair (R9, R14, R70) -/

/-- The count is the register's one field, RC, and its overflow bit stands in CAD_OVERFLOW. -/
theorem readThrough_cadStallCount (s : State) : readThrough 0x1010020 s =
    ((s.wr (R.CAD_STALL_COUNT.count 0) 0).wr (R.CAD_STALL_COUNT.c 0).ovf 0).answer .ok (s.rd (R.CAD_STALL_COUNT.count 0) % 2 ^ 32) 0 := by
  have hv : readValue s 0x1010020 = 0 + 1 * (s.rd (R.CAD_STALL_COUNT.count 0) % 2 ^ 32) := rfl
  have hc : clearOnRead (latchHigh s 0x1010020) 0x1010020 =
      (s.wr (R.CAD_STALL_COUNT.count 0) 0).wr (R.CAD_STALL_COUNT.c 0).ovf 0 := rfl
  rw [readThrough, hv, hc, Nat.zero_add, Nat.one_mul]

/-- The high word of the pair is COL_ADDS_HI, and COL_ADDS_LO has no field that a read clears. -/
theorem readThrough_colAddsLo (s : State) : readThrough 0x1030028 s =
    (s.wr (R.COL_ADDS_HI.count 0) (tget s.wide (R.COL_ADDS_LO.count 0).key / 2 ^ 32 % 2 ^ 32)).answer .ok
      (tget s.wide (R.COL_ADDS_LO.count 0).key % 2 ^ 32) 0 := by
  have hv : readValue s 0x1030028 = tget s.wide (R.COL_ADDS_LO.count 0).key % 2 ^ 32 := rfl
  have hc : clearOnRead (latchHigh s 0x1030028) 0x1030028 =
      s.wr (R.COL_ADDS_HI.count 0) (tget s.wide (R.COL_ADDS_LO.count 0).key / 2 ^ 32 % 2 ^ 32) := rfl
  rw [readThrough, hv, hc]

/-! ## ARR_INJECT and the clock held low (R166, R501) -/

theorem arrInjectWrite_of_debugOpen {s : State} {a : Agent} {d : Nat} (arm : Bool) (tile : Nat) (ha : a ≠ .host)
    (ho : debugOpen s = true) (h : s.dieUp d = true) : arrInjectWrite a d arm tile s = writeInject d arm tile s := by
  simp [arrInjectWrite, gateDie_of_dieUp a _ h, hostGate_of_dieUp _ ha h, ho]

theorem arrInject_arm_key_ne_tile_key (d : Nat) : (R.ARR_INJECT.arm d).key ≠ (R.ARR_INJECT.tile d).key := by
  unfold R.ARR_INJECT.arm R.ARR_INJECT.tile R.hfld
  intro h
  have h31 : 31 = 0 := Nat.add_left_cancel h
  omega

theorem rd_arm_writeInject (s : State) (d : Nat) (arm : Bool) (tile : Nat) :
    (writeInject d arm tile s).rd (R.ARR_INJECT.arm d) = b2n arm := by
  rw [writeInject, rd_answer, rd_wr_other _ _ _ _ (arrInject_arm_key_ne_tile_key d).symm, rd_wr_same]
  cases arm <;> rfl

theorem rd_tile_writeInject (s : State) (d : Nat) (arm : Bool) {tile : Nat} (h : tile < 64) :
    (writeInject d arm tile s).rd (R.ARR_INJECT.tile d) = tile := by
  rw [writeInject, rd_answer, rd_wr_same]
  exact Nat.mod_eq_of_lt h

theorem regsBut_writeInject (s : State) (d : Nat) (arm : Bool) (tile : Nat) :
    RegsBut [R.ARR_INJECT.arm d, R.ARR_INJECT.tile d] s (writeInject d arm tile s) :=
  regsBut_regs (regsBut_wr _ _ (regsBut_wr _ _ (regsBut_refl _ s) (by simp)) (by simp)) (answer_regs _ _ _ _)

theorem clockHeldLow_of_held {s : State} {c : Nat} (h1 : 1 ≤ c) (h4 : c ≤ 4) (hh : s.on (R.ARB_CTL.held c) = true) :
    clockHeldLow c s = s.emit (.busRecovery c) := by
  simp [clockHeldLow, hh, Nat.ne_of_gt h1, Nat.not_lt.mpr h4]

/-- Settles O1, register by register: what the access does to the state, then what that leaves in the fields. -/
theorem registerCommands : Obligations.RegisterCommands := by
  unfold Obligations.RegisterCommands
  simp only [does_registerWrite, does_readClear, does_latchedLowRead, does_clockHeldLow, does_arrInjectWrite]
  refine ⟨fun s v h => ?cadStatus, fun s h => ?stallCount, fun s h => ?addsLo, fun s c hc hh => ?clockHeld,
    fun s a d arm tile ha ho h ht => ?arrInject⟩
  case cadStatus =>
    have hk : (R.CAD_STATUS.out_of_range 0).key ≠ (R.CAD_STATUS.renumbered 0).key := by decide
    rw [registerWrite_cadStatus v h]
    refine ⟨?_, ?_, by simp, regsBut_regs ?_ (answer_regs _ _ _ _)⟩
    · rw [rd_answer, rd_clearIf_other _ _ hk.symm, rd_clearIf_same]
    · rw [rd_answer, rd_clearIf_same, rd_clearIf_other _ _ hk]
    · exact regsBut_clearIf _ _ (regsBut_clearIf _ _ (regsBut_refl _ s) (by simp)) (by simp)
  case stallCount =>
    have hk : (R.CAD_STALL_COUNT.c 0).ovf.key ≠ (R.CAD_STALL_COUNT.count 0).key := by decide
    rw [readClear, registerRead_of_dieUp _ rfl rfl rfl h, readThrough_cadStallCount]
    refine ⟨rfl, ?_, ?_, regsBut_regs ?_ (answer_regs _ _ _ _)⟩
    · rw [rd_answer, rd_wr_other _ _ _ _ hk, rd_wr_same, Nat.zero_mod]
    · rw [rd_answer, rd_wr_same, Nat.zero_mod]
    · exact regsBut_wr _ _ (regsBut_wr _ _ (regsBut_refl _ s) (by simp)) (by simp)
  case addsLo =>
    rw [latchedLowRead, registerRead_of_dieUp _ rfl rfl rfl h, readThrough_colAddsLo]
    refine ⟨rfl, ?_, rfl, regsBut_regs (regsBut_wr _ _ (regsBut_refl _ s) (by simp)) (answer_regs _ _ _ _)⟩
    rw [rd_answer, rd_wr_same]
    exact Nat.mod_mod _ _
  case clockHeld => exact clockHeldLow_of_held hc.1 hc.2 hh
  case arrInject =>
    rw [arrInjectWrite_of_debugOpen arm tile ha ho h]
    exact ⟨rd_arm_writeInject s d arm tile, rd_tile_writeInject s d arm ht, rfl, regsBut_writeInject s d arm tile⟩

/-! ## The state after reset (R15, R39) -/

/-- After reset every register field but the debug scope of a BLANK part (R484) reads its Reset value. -/
theorem rd_reset {f : Fld} (h : R.SEC_DEBUG.scope.key ≠ f.key) : State.reset.rd f = f.rst := by
  simp [State.rd, State.reset, tgetD, tfind, h]

/-- Settles O55: the parts outside the field file stand in the definition of the reset state, and each field listed reads its Reset value. -/
theorem resetState : Obligations.ResetState := by
  unfold Obligations.ResetState
  simp (disch := decide) only [rd_reset]
  and_intros <;> rfl

end Sys2Proof.Proofs
end

section
/-! PROOFS. What the shared operations leave: bits of a word, the supply through the reset of a die, and the warden's registers through the
hub's operations. -/

namespace Sys2Proof.Proofs
open Sys2Proof.Machine Sys2Proof.Laws

/-! ## Bits -/

theorem add_two_pow_eq_or {w j : Nat} (h : w.testBit j = false) : w + 2 ^ j = w ||| 2 ^ j := by
  induction j generalizing w with
  | zero =>
    have hw : w % 2 = 0 := by simpa [Nat.testBit_zero] using h
    have h2 : w = 2 ^ 1 * (w / 2) := by omega
    rw [h2]
    exact Nat.two_pow_add_eq_or_of_lt (by decide) _
  | succ j ih =>
    rw [Nat.testBit_succ] at h
    have hdiv : (w + 2 ^ (j + 1)) / 2 = (w ||| 2 ^ (j + 1)) / 2 := by
      rw [Nat.or_div_two, Nat.pow_succ, Nat.mul_div_cancel _ (by decide), Nat.add_mul_div_right _ _ (by decide)]
      exact ih h
    have hmod : (w + 2 ^ (j + 1)) % 2 = (w ||| 2 ^ (j + 1)) % 2 := by
      have hor : (w ||| 2 ^ (j + 1)) % 2 = w % 2 ||| 2 ^ (j + 1) % 2 := Nat.or_mod_two_pow (n := 1)
      rw [hor, Nat.pow_succ, Nat.add_mul_mod_self_right, Nat.mul_mod_left, Nat.or_zero]
    omega

theorem setBit_true (w i : Nat) : setBit w i true = w ||| 2 ^ i := by
  unfold setBit
  cases h : w.testBit i with
  | false => simpa using add_two_pow_eq_or h
  | true =>
    apply Nat.eq_of_testBit_eq
    intro j
    by_cases hj : i = j
    · subst hj; simp [h]
    · simp [hj]

@[simp] theorem testBit_setBit_true (w i j : Nat) : (setBit w i true).testBit j = (w.testBit j || decide (i = j)) := by
  rw [setBit_true, Nat.testBit_or, Nat.testBit_two_pow]

@[simp] theorem testBit_setBit_false_same (w i : Nat) : (setBit w i false).testBit i = false := by
  unfold setBit
  cases h : w.testBit i with
  | false => simpa using h
  | true =>
    have hw : 2 ^ i + (w - 2 ^ i) = w := Nat.add_sub_cancel' (Nat.ge_two_pow_of_testBit h)
    have hn := Nat.testBit_two_pow_add_eq (w - 2 ^ i) i
    rw [hw, h] at hn
    simpa using hn.symm

/-! ## The reset of one die, as the supply shows it -/

/-- Every part but the queue of commands, the time and the supply. -/
def outsideSupply : Nat := 0x7FFFFFBC

theorem bump_sup (s : State) (c : Cnt) : (s.bump c).sup = s.sup :=
  (State_bump_keeps (m := outsideSupply) rfl (keeps_refl _ s)).touch .sup rfl

theorem err_sup (s : State) (unit op cls severity detail : Nat) : (s.err unit op cls severity detail).sup = s.sup :=
  (State_err_keeps (m := outsideSupply) rfl (keeps_refl _ s)).touch .sup rfl

/-- R25: MEM_SHARE is all that shows the cuts: refreshing it leaves the supply. -/
theorem refreshShares_sup (s : State) (d : Nat) : (refreshShares s d).sup = s.sup :=
  (refreshShares_keeps (m := outsideSupply) rfl (keeps_refl _ s)).touch .sup rfl

/-- R39, R31: what a die keeps through its reset: the causes that hold it and its starts. -/
def dieAfterReset (now : Nat) (x : Die) : Die :=
  { holds := x.holds, resetAt := now, starting := x.starting, lastStart := x.lastStart }

/-- The supply and the time are as before. -/
structure SameSupply (s t : State) : Prop where
  sup : t.sup = s.sup
  now : t.now = s.now

theorem sameSupply_of_keeps {s t : State} (h : Keeps outsideSupply s t) : SameSupply s t :=
  ⟨h.touch .sup rfl, h.touch .now rfl⟩

theorem SameSupply.trans {s t u : State} (h : SameSupply s t) (g : SameSupply t u) : SameSupply s u :=
  ⟨g.sup.trans h.sup, g.now.trans h.now⟩

theorem SameSupply.modDie {s t : State} (h : SameSupply s t) (d : Nat) (f : Die → Die) : SameSupply (s.modDie d f) (t.modDie d f) :=
  ⟨by simp only [State.modDie, h.sup], h.now⟩

/-- R39: of the supply, the reset of a die changes that die only. -/
theorem resetDie_sameSupply (s : State) (d : Nat) : SameSupply (s.modDie d (dieAfterReset s.now)) (resetDie s d) := by
  unfold resetDie
  extract_lets -lift -merge -underBinder a latched b links gone src7 c e kept src10 f g h i j src16 k
  have ha : SameSupply s a := sameSupply_of_keeps (abortSwatches_keeps rfl (keeps_refl _ s))
  clear_value a latched links gone kept
  have hc : SameSupply s c := ⟨ha.sup, ha.now⟩
  clear_value c
  have he : SameSupply c e := sameSupply_of_keeps (resetTraffic_keeps rfl (keeps_refl _ c))
  clear_value e
  have hf : SameSupply s f := ⟨(hc.trans he).sup, (hc.trans he).now⟩
  clear_value f
  have hg : Keeps outsideSupply f g := keeps_foldl (keeps_refl _ f) fun _ _ h => fenceAcc_keeps rfl h
  have hh : SameSupply s h := hf.trans (sameSupply_of_keeps (State_wr_keeps rfl (State_wr_keeps rfl hg)))
  clear_value g h
  have hi : SameSupply (s.modDie d (dieAfterReset s.now)) i := by
    rw [← hh.now]
    exact hh.modDie d (dieAfterReset h.now)
  clear_value i
  have hj : Keeps outsideSupply i j := keeps_foldl (keeps_refl _ i) fun _ _ h => procLost_keeps rfl h
  have hk : SameSupply (s.modDie d (dieAfterReset s.now)) src16 := hi.trans (sameSupply_of_keeps (resetTracker_keeps rfl hj))
  clear_value j src16
  split
  · exact ⟨hk.sup, hk.now⟩
  · exact ⟨hk.sup, hk.now⟩

theorem resetDie_sup (s : State) (d : Nat) :
    (resetDie s d).sup = { s.sup with dies := tmod s.sup.dies d (dieAfterReset s.now) } :=
  (resetDie_sameSupply s d).sup

theorem resetDie_holds (s : State) (d e : Nat) : (tget (resetDie s d).sup.dies e).holds = (tget s.sup.dies e).holds := by
  rw [resetDie_sup]
  by_cases h : d = e
  · subst h; simp [dieAfterReset]
  · simp [tget_tmod_other _ _ h]

theorem dieUp_resetDie_same (s : State) (d : Nat) : (resetDie s d).dieUp d = false := by
  simp [State.dieUp, resetDie_sup, dieAfterReset]

theorem dieUp_resetDie_other (s : State) {d e : Nat} (h : d ≠ e) : (resetDie s d).dieUp e = s.dieUp e := by
  simp [State.dieUp, resetDie_sup, tget_tmod_other _ _ h]

/-! ## What the hub's operations leave of the warden's registers -/

/-- The warden's fields that an operation of the hub may change: those of a record, the POISON count, and the pending marks of the domains. -/
def hubTouched : List Fld :=
  recordFields ++ [R.ERR_POISON_COUNT.c.cnt, R.ERR_POISON_COUNT.c.ovf, R.PWR_DOMAIN_H.pending 0, R.PWR_DOMAIN_H.pending 1]

/-- A field of a hub die's block (R10), or one of `hubTouched`. -/
def HubField (f : Fld) : Prop := 0x1000000 * 32 ≤ f.key ∨ f.key ∈ hubTouched.map Fld.key

/-- Of the warden's register fields only those of `hubTouched` have changed. -/
structure WardenSame (s t : State) : Prop where
  field : ∀ k < 0x1000000 * 32, k ∉ hubTouched.map Fld.key → tfind t.regs k = tfind s.regs k

theorem hubField_hfld (d off lo w rst : Nat) : HubField (R.hfld d off lo w rst) := by
  unfold HubField R.hfld
  left
  simp only
  omega

theorem hubField_pending {d : Nat} (h : d < 2) : HubField (R.PWR_DOMAIN_H.pending d) := by
  obtain rfl | rfl := eq_zero_or_one h <;> exact .inr (by decide)

theorem rd_of_wardenSame {s t : State} (h : WardenSame s t) (g : Fld) (hw : g.key < 0x1000000 * 32) (hg : g.key ∉ hubTouched.map Fld.key) :
    t.rd g = s.rd g := by
  unfold State.rd tgetD
  rw [h.field _ hw hg]

theorem wardenSame_refl (s : State) : WardenSame s s := ⟨fun _ _ _ => rfl⟩

section
variable {r s t : State} (h : WardenSame r s)
include h

/-- An operation that leaves the field file as it is. -/
theorem wardenSame_regs (e : t.regs = s.regs := by rfl) : WardenSame r t := ⟨by rw [e]; exact h.field⟩

theorem wardenSame_wr {f : Fld} {v : Nat} (hf : HubField f := by exact hubField_hfld ..) : WardenSame r (s.wr f v) where
  field k hk hn := by
    have hne : f.key ≠ k := by
      rintro rfl
      exact hf.elim (Nat.not_le.mpr hk) hn
    rw [wr_regs, tfind_putField_other _ _ _ _ hne]
    exact h.field k hk hn

theorem wardenSame_regsBut {ks : List Fld} (hk : ∀ k ∈ ks.map Fld.key, k ∈ hubTouched.map Fld.key) (hb : RegsBut ks s t) : WardenSame r t :=
  ⟨fun k hw hn => (hb k fun hm => hn (hk k hm)).trans (h.field k hw hn)⟩

theorem wardenSame_err {unit op cls severity detail : Nat} : WardenSame r (s.err unit op cls severity detail) :=
  wardenSame_regsBut h (ks := recordFields) (by decide) (regsBut_err _ _ _ _ _ (regsBut_refl _ s) fun _ hk => hk)

theorem wardenSame_onDies {f : Nat → State → State} (hf : ∀ d t, WardenSame r t → WardenSame r (f d t)) : WardenSame r (s.onDies f) := by
  unfold State.onDies
  extract_lets a
  have ha : WardenSame r a := by
    unfold a
    split
    · exact hf 0 s h
    · exact h
  split
  · exact hf 1 a ha
  · exact ha

theorem wardenSame_foldl {α : Type} {f : State → α → State} {l : List α} (hf : ∀ t x, WardenSame r t → WardenSame r (f t x)) :
    WardenSame r (l.foldl f s) :=
  List.foldlRecOn l f h fun t ht x _ => hf t x ht

theorem wardenSame_bump {c : Cnt} (hc : HubField c.cnt := by exact hubField_hfld ..)
    (ho : HubField c.ovf := by exact hubField_hfld ..) : WardenSame r (s.bump c) := by
  unfold State.bump
  split
  · exact wardenSame_wr h ho
  · exact wardenSame_wr h hc

theorem wardenSame_bumpN {c : Cnt} {n : Nat} (hc : HubField c.cnt := by exact hubField_hfld ..)
    (ho : HubField c.ovf := by exact hubField_hfld ..) : WardenSame r (s.bumpN c n) := by
  unfold State.bumpN
  split
  · exact wardenSame_wr h hc
  · exact wardenSame_wr (wardenSame_wr h hc) ho

end

theorem wardenSame_ite {r a b : State} {c : Prop} [Decidable c] (ha : WardenSame r a) (hb : WardenSame r b) : WardenSame r (if c then a else b) := by
  split
  · exact ha
  · exact hb

/-- Every part but the queue of commands and the registers. -/
def outsideRegs : Nat := 0x7FFFFFFA

theorem regs_of_keeps {s t : State} (h : Keeps outsideRegs s t) : t.regs = s.regs := h.touch .regs rfl

theorem regs_send (s : State) (o : Out) (transit : Bool) : (s.send o transit).regs = s.regs :=
  regs_of_keeps (State_send_keeps rfl (keeps_refl _ s))

theorem regs_completeRow (s : State) (fl : Flight) : (completeRow s fl).regs = s.regs :=
  regs_of_keeps (completeRow_keeps rfl (keeps_refl _ s))

theorem regs_countAccess (s : State) (owner off n : Nat) (write : Bool) : (countAccess s owner off n write).regs = s.regs :=
  regs_of_keeps (countAccess_keeps rfl (keeps_refl _ s))

/-! ### Links: refreshing them (R33, R215) -/

section
variable {r s : State} (h : WardenSame r s)
include h

theorem wardenSame_noteRefusal (q : OpenReq) (a : Resp) : WardenSame r (noteRefusal s q a) := by
  unfold noteRefusal
  extract_lets d
  split
  · exact h
  next c hc =>
    have hcnt : HubField c.cnt ∧ HubField c.ovf := by
      unfold respCount at hc
      split at hc <;> cases hc <;> exact ⟨hubField_hfld .., hubField_hfld ..⟩
    extract_lets -lift -merge -underBinder s1 s2 s3 s4 s5 key recent s6
    have h1 : WardenSame r s1 := wardenSame_bump h hcnt.1 hcnt.2
    have h2 : WardenSame r s2 := by
      iterate 4 refine wardenSame_wr ?_
      exact h1
    have h3 : WardenSame r s3 := wardenSame_regs h2
    have h4 : WardenSame r s4 := by
      iterate 3 refine wardenSame_wr ?_
      exact h3
    have h5 : WardenSame r s5 :=
      wardenSame_ite (wardenSame_wr h4)
        (wardenSame_ite (wardenSame_wr h4) h4)
    exact wardenSame_ite h5 (wardenSame_err (wardenSame_regs h5))

theorem wardenSame_answerOpenHint (q : OpenReq) (a : Resp) (data : List Nat) (unknown : Bool) (hint : Nat) :
    WardenSame r (answerOpenHint s q a data unknown hint) := by
  unfold answerOpenHint
  extract_lets -lift -merge -underBinder qn s1 s2 s3
  have h2 : WardenSame r s2 := wardenSame_ite (wardenSame_regs h) (wardenSame_regs h)
  have h3 : WardenSame r s3 := wardenSame_noteRefusal h2 q a
  exact wardenSame_regs h3 (regs_send _ _ _)

theorem wardenSame_timeoutCtx (c : Context) : WardenSame r (timeoutCtx s c) := by
  have hf : ∀ a data unknown, WardenSame r (finishOpen s c.id a data unknown) := by
    intro a data unknown
    unfold finishOpen
    split
    · exact h
    · exact wardenSame_answerOpenHint (wardenSame_wr (wardenSame_regs h)) _ _ _ _ _
  exact wardenSame_ite (hf _ _ _) (hf _ _ _)

theorem wardenSame_fenceAcc (slot : Nat) : WardenSame r (fenceAcc s slot) :=
  wardenSame_wr (wardenSame_regs h)

theorem wardenSame_leaveUp (l : Nat) : WardenSame r (leaveUp s l) := by
  unfold leaveUp
  extract_lets -lift -merge -underBinder s1 s2 src s3
  have h2 : WardenSame r s2 := wardenSame_foldl (wardenSame_regs h) fun _ c ht => wardenSame_timeoutCtx ht c
  have h3 : WardenSame r s3 := wardenSame_regs h2
  exact wardenSame_ite (wardenSame_fenceAcc h3 l) h3

theorem wardenSame_setLinkState (l v : Nat) : WardenSame r (s.setLinkState l v) := wardenSame_wr h

theorem wardenSame_refreshLink (l : Nat) : WardenSame r (refreshLink s l) := by
  unfold refreshLink
  refine wardenSame_ite h ?_
  extract_lets -lift -merge -underBinder st s1 s2
  have h1 : WardenSame r s1 :=
    wardenSame_ite (wardenSame_leaveUp h l) (wardenSame_ite (wardenSame_fenceAcc h l) h)
  have h2 : WardenSame r (s2.setLinkState l 0) := wardenSame_setLinkState (wardenSame_regs h1) l 0
  exact wardenSame_ite (wardenSame_ite h h2)
    (wardenSame_ite (wardenSame_ite (wardenSame_setLinkState h l 5) (wardenSame_setLinkState h l 1)) h)

theorem wardenSame_refreshLinks : WardenSame r (refreshLinks s) := wardenSame_foldl h fun _ l ht => wardenSame_refreshLink ht l

/-! ### Rows: ending those in flight (R82, R99) -/

theorem wardenSame_writeLine (lo : Nat) (l : List (Option Nat)) : WardenSame r (writeLine s lo l) := by
  unfold writeLine markPoison
  exact wardenSame_ite h (wardenSame_ite (wardenSame_ite h (wardenSame_bump (wardenSame_regs h) (.inr (by decide)) (.inr (by decide))))
    (wardenSame_ite h (wardenSame_regs h)))

theorem wardenSame_bumpT (fl : Flight) : WardenSame r (bumpT s fl) := by
  unfold bumpT
  refine wardenSame_ite h ?_
  split
  · exact wardenSame_foldl h fun _ _ ht => wardenSame_writeLine ht _ _
  · exact h

theorem wardenSame_lastError (d cause pattern row : Nat) :
    WardenSame r ((((s.wr (R.COL_LAST_ERROR.valid d) 1).wr (R.COL_LAST_ERROR.cause d) cause).wr (R.COL_LAST_ERROR.pattern d) pattern).wr
      (R.COL_LAST_ERROR.row d) row) := by
  iterate 4 refine wardenSame_wr ?_
  exact h

theorem wardenSame_countPoison (fl : Flight) (n : Nat) : WardenSame r (countPoison s fl n) := by
  unfold countPoison
  exact wardenSame_ite h (wardenSame_lastError
    (wardenSame_wr (wardenSame_bumpN h)) _ _ _ _)

theorem wardenSame_recordRefused (fl : Flight) (out : List Delivery) : WardenSame r (recordRefused s fl out) := by
  refine wardenSame_foldl h fun t _ ht => ?_
  split
  · exact wardenSame_lastError (wardenSame_err ht) _ _ _ _
  · exact ht

theorem wardenSame_rowWrites (l : List RowWrite) : WardenSame r (rowWrites s l) := by
  refine wardenSame_foldl h fun t line ht => ?_
  extract_lets parts whole u
  have hu : WardenSame r u := wardenSame_foldl ht fun _ _ hv => wardenSame_regs hv (regs_countAccess _ _ _ _ _)
  exact wardenSame_ite (wardenSame_writeLine hu _ _) (wardenSame_foldl hu fun _ _ hv => wardenSame_writeLine hv _ _)

theorem wardenSame_deliver (fl : Flight) (out : List Delivery) : WardenSame r (deliver s fl out) := by
  unfold deliver
  extract_lets a b
  have hb : WardenSame r b := wardenSame_rowWrites (wardenSame_recordRefused h fl out) _
  refine wardenSame_foldl hb fun t x ht => ?_
  exact wardenSame_foldl (wardenSame_regs ht) fun u _ hu => wardenSame_regs hu (regs_send _ _ _)

theorem wardenSame_abandonRow (fl : Flight) : WardenSame r (abandonRow s fl) := by
  unfold abandonRow
  extract_lets finish out
  have hfin : ∀ t, WardenSame r t → WardenSame r (finish t) := fun t ht =>
    wardenSame_ite (wardenSame_bumpT (wardenSame_regs ht (regs_completeRow t fl)) fl) (wardenSame_regs ht (regs_completeRow t fl))
  refine wardenSame_ite (hfin _ ?_) (hfin _ ?_)
  · exact wardenSame_foldl h fun t _ ht => wardenSame_regs ht (regs_send _ _ _)
  · exact wardenSame_countPoison (wardenSame_deliver h fl out) _ _

/-! ### Selection (R41, R71, R99, R510) -/

theorem wardenSame_acceptPattern (n : Nat) : WardenSame r (acceptPattern s n) := by
  have hc : WardenSame r (clearNext s) := by
    unfold clearNext State.wrDies
    exact wardenSame_onDies h fun _ _ ht => wardenSame_wr ht
  unfold acceptPattern refusePattern patErrorOn
  refine wardenSame_ite (wardenSame_err (wardenSame_onDies hc fun d t ht => ?_)) (wardenSame_regs hc)
  iterate 4 refine wardenSame_wr ?_
  exact ht

theorem wardenSame_writeNext (valid atStep : Bool) (pattern stepLo : Nat) : WardenSame r (writeNext valid atStep pattern stepLo s) := by
  unfold writeNext
  extract_lets -lift -merge -underBinder a src b
  have ha : WardenSame r a := by
    refine wardenSame_onDies h fun d t ht => ?_
    iterate 4 refine wardenSame_wr ?_
    exact ht
  have hb : WardenSame r b := wardenSame_regs ha
  exact wardenSame_ite (wardenSame_acceptPattern hb _) hb

theorem wardenSame_restartNext : WardenSame r (restartNext s) := by
  have hf : WardenSame r (s.pat.flights.foldl abandonRow s) := wardenSame_foldl h fun _ fl ht => wardenSame_abandonRow ht fl
  exact wardenSame_ite h (wardenSame_ite (wardenSame_acceptPattern h _) (wardenSame_acceptPattern (wardenSame_regs hf) _))

theorem wardenSame_requestDomains {d : Nat} (hd : d < 2) (set : Nat) : WardenSame r (requestDomains s d set) := by
  unfold requestDomains
  extract_lets -lift -merge -underBinder busy new a b
  have hb : WardenSame r b := wardenSame_wr (wardenSame_regs h) (hubField_pending hd)
  exact wardenSame_ite h (wardenSame_ite hb (wardenSame_regs hb))

theorem wardenSame_trySelect : WardenSame r (trySelect s) := by
  have hn : ∀ x : Wanted, WardenSame r (writeNext true false x.pattern 0 { s with sup := { s.sup with want := none } }) :=
    fun _ => wardenSame_writeNext (wardenSame_regs h) _ _ _ _
  unfold trySelect
  split
  · exact h
  · extract_lets idle
    split
    · exact h
    · exact wardenSame_ite h (wardenSame_ite (wardenSame_requestDomains (wardenSame_requestDomains h (by decide) _) (by decide) _)
        (wardenSame_ite h (wardenSame_ite (wardenSame_restartNext (hn _)) (hn _))))

end

end Sys2Proof.Proofs
end

section
/-! PROOFS. The package: device resets, the release of dies, references, switched domains, the governor and the management port. -/

namespace Sys2Proof.Proofs
open Sys2Proof.Machine Sys2Proof.Laws

/-! ## Device resets (R17, R39, R66, R499) -/

/-- The state that a device reset starts from: flash and OTP, the time, what has been sent and what waits, and every other part as in a new device. -/
def freshDevice (s : State) (source : Nat) (on : Bool) : State :=
  { pending := s.pending, now := s.now, out := s.out, freeCtr := s.freeCtr, flash := s.flash, otp := s.otp,
    mgt := { heardRm := s.now, heardHost := s.now },
    sup := { standby := s.sup.standby, riseAt := s.sup.riseAt, wardenOn := on, onAt := s.now, resetSource := source } }

/-- The registers, the counter of free values, the recorder and the update state: what a device reset changes of the fresh state. -/
def resetMask : Nat := partMask [.regs, .freeCtr, .rcd, .upd]

/-- R39: on top of the fresh state a device reset loads registers, seeds the arbiter, records what was open and takes up the block transfer. -/
theorem deviceReset_keeps_fresh (s : State) (source : Nat) (on : Bool) :
    Keeps resetMask (freshDevice s source on) (deviceReset s source on) := by
  unfold deviceReset
  extract_lets block f0 m f1 f2 f3 f4 f5 id f6 f7 f8 f9
  have hotp : Keeps resetMask (freshDevice s source on) f3 := by
    iterate 7 refine State_wr_keeps rfl ?_
    exact keeps_refl _ _
  have hregions : Keeps resetMask (freshDevice s source on) f5 :=
    keeps_foldl (keeps_foldl hotp fun _ _ h => State_wr_keeps rfl h) fun _ _ h => keeps_ite (setRegion_keeps rfl h) h
  have hdigest : Keeps resetMask (freshDevice s source on) f6 := keeps_foldl hregions fun _ _ h => State_wr_keeps rfl h
  have hscope : Keeps resetMask (freshDevice s source on) f7 := keeps_ite (State_wr_keeps rfl hdigest) hdigest
  have hseed : Keeps resetMask (freshDevice s source on) f8 := keeps_ite (seedArbiter_keeps rfl hscope) hscope
  have htoken : Keeps resetMask (freshDevice s source on) f9 := keeps_ite (State_event_keeps rfl hseed) hseed
  clear_value block f9
  refine keeps_ite (resumeTrickle_keeps rfl ?_) (keeps_upd htoken rfl)
  split
  · exact State_event_keeps rfl (State_wr_keeps rfl htoken)
  · exact htoken

theorem deviceReset_sup (s : State) (source : Nat) (on : Bool) :
    (deviceReset s source on).sup = (freshDevice s source on).sup :=
  (deviceReset_keeps_fresh s source on).touch .sup rfl

/-- R39, R66: no die runs, the working parts are a new device's, and flash and OTP are as they were. -/
def DeviceEmptied (s t : State) : Prop :=
  t.sup.dies = [] ∧ t.mem = State.reset.mem ∧ t.seq = State.reset.seq ∧ t.pat = State.reset.pat ∧ t.cad = State.reset.cad ∧
  t.lnk = State.reset.lnk ∧ t.cool = State.reset.cool ∧ t.pwr = State.reset.pwr ∧
  t.mgt = { State.reset.mgt with heardRm := s.now, heardHost := s.now } ∧ t.flash = s.flash ∧ t.otp = s.otp

theorem deviceReset_emptied (s : State) (source : Nat) (on : Bool) : DeviceEmptied s (deviceReset s source on) := by
  have h := (deviceReset_keeps_fresh s source on).touch
  exact ⟨congrArg Supply.dies (deviceReset_sup s source on), h .mem rfl, h .seq rfl, h .pat rfl, h .cad rfl, h .lnk rfl,
    h .cool rfl, h .pwr rfl, h .mgt rfl, h .flash rfl, h .otp rfl⟩

theorem standbyRise_of_off {s : State} (h : s.sup.standby = false) :
    standbyRise s = { s with sup := { s.sup with standby := true, riseAt := s.now, wardenOn := false } } := by
  simp [standbyRise, h]

theorem wardenPowerOnReset_of_due {s : State} (h : s.sup.standby = true) (hw : s.sup.wardenOn = false)
    (ht : s.sup.riseAt + 1000 ≤ s.now) : wardenPowerOnReset s = deviceReset s 0 true := by
  unfold wardenPowerOnReset
  refine if_neg ?_
  rintro (hn | hn | hn)
  · exact hn h
  · exact Bool.false_ne_true (hw.symm.trans hn)
  · exact Nat.not_lt.mpr ht hn

theorem wardenRstN_of_on {s : State} (h : s.sup.standby = true) (hw : s.sup.wardenOn = true) :
    wardenRstN s = deviceReset s 1 true :=
  if_pos ⟨h, hw⟩

/-- Settles O2: each of the three resets is `deviceReset`, which leaves the device emptied; the supply tells them apart. -/
theorem powerAndResetsKeepFlashAndOtp : Obligations.PowerAndResetsKeepFlashAndOtp := by
  unfold Obligations.PowerAndResetsKeepFlashAndOtp
  refine ⟨fun s h => (does_iff rfl).mpr (standbyRise_of_off h), fun s _ => (does_iff rfl).mpr ?fall,
    fun s h hw ht => (does_iff rfl).mpr ?powerOn, fun s h hw => (does_iff rfl).mpr ?rstN⟩
  case fall =>
    exact ⟨rfl, congrArg Supply.wardenOn (deviceReset_sup s 0 false), deviceReset_emptied s 0 false⟩
  case powerOn =>
    rw [wardenPowerOnReset_of_due h hw ht]
    exact ⟨congrArg Supply.wardenOn (deviceReset_sup s 0 true), congrArg Supply.resetSource (deviceReset_sup s 0 true),
      deviceReset_emptied s 0 true⟩
  case rstN =>
    rw [wardenRstN_of_on h hw]
    exact ⟨congrArg Supply.wardenOn (deviceReset_sup s 1 true), congrArg Supply.resetSource (deviceReset_sup s 1 true),
      deviceReset_emptied s 1 true⟩

/-! ## Releases (R40, R367, R374) -/

/-- A device whose tray is ON and whose image is valid, both dies stopped, with link-and-queue processor 0 of H0 halted (R374). -/
def haltedQueueProc : State :=
  ((({ seq := { state := 2 } } : State).wr R.CFG_STATUS.state 1).wr R.UPD_STATUS.loader 1).wr (R.FW_PROC.state 4) 3

/-- Refutes O4: in `haltedQueueProc` H0 may be released, and its halted processor stays halted (R374), so the first clause's state 1 fails. -/
theorem not_hubReleaseAndReset : ¬ Obligations.HubReleaseAndReset := by
  unfold Obligations.HubReleaseAndReset
  intro ⟨release, _, _⟩
  have hmay : mayRelease haltedQueueProc 0 = true := by decide
  obtain ⟨_, hstate, _⟩ := (does_iff rfl).mp (release haltedQueueProc 0 (by decide) hmay rfl)
  exact absurd hstate (by decide)

/-! ## The failed reference (R36, R38) -/

/-- A die that is reset where it runs stands in reset. -/
theorem dieUp_resetIfUp_same (s : State) (d : Nat) : (if s.dieUp d = true then resetDie s d else s).dieUp d = false := by
  split
  · exact dieUp_resetDie_same s d
  · simp_all

theorem dieUp_resetIfUp_of_stopped {s : State} {e : Nat} (d : Nat) (h : s.dieUp e = false) :
    (if s.dieUp d = true then resetDie s d else s).dieUp e = false := by
  by_cases hd : d = e
  · subst hd; exact dieUp_resetIfUp_same s d
  · split
    · rw [dieUp_resetDie_other s hd, h]
    · exact h

/-- R38: the hold of both dies for a failed reference set or ended. -/
def holdForReference (on : Bool) (s : State) : State :=
  [0, 1].foldl (fun s d => s.modDie d fun x => { x with holds := setBit x.holds 2 on }) s

theorem holdForReference_holds (on : Bool) (s : State) {d : Nat} (h : d < 2) :
    (tget (holdForReference on s).sup.dies d).holds.testBit 2 = on := by
  have h10 : (1 : Nat) ≠ 0 := by decide
  have h01 : (0 : Nat) ≠ 1 := by decide
  obtain rfl | rfl := eq_zero_or_one h <;> cases on <;> simp [holdForReference, tget_tmod_other, h10, h01]

/-- Reference `i` is marked failed, and both dies are held for a failed reference. -/
def ReferenceHold (i : Nat) (x : Supply) : Prop :=
  x.refFailed.testBit i = true ∧ (tget x.dies 0).holds.testBit 2 = true ∧ (tget x.dies 1).holds.testBit 2 = true

theorem resetDie_referenceHold {s : State} {i : Nat} (d : Nat) (h : ReferenceHold i s.sup) : ReferenceHold i (resetDie s d).sup := by
  unfold ReferenceHold at *
  rw [resetDie_holds, resetDie_holds, resetDie_sup]
  exact h

theorem resetIfUp_referenceHold {s : State} {i : Nat} (d : Nat) (h : ReferenceHold i s.sup) :
    ReferenceHold i (if s.dieUp d = true then resetDie s d else s).sup := by
  split
  · exact resetDie_referenceHold d h
  · exact h

/-- R332: of the supply, native containment changes what the reset of the dies changes. -/
theorem nativeContain_referenceHold {s : State} {i : Nat} (cls unit : Nat) (h : ReferenceHold i s.sup) :
    ReferenceHold i (nativeContain s cls unit).sup := by
  unfold nativeContain
  split
  · exact h
  · extract_lets -lift -merge -underBinder step recent latch a b c up src d e f g
    have hd : ReferenceHold i d.sup := by
      show ReferenceHold i (s.bump R.ERR_CONTAIN_COUNT.c).sup
      rw [bump_sup]
      exact h
    clear_value d
    have hf : ReferenceHold i f.sup := resetIfUp_referenceHold 1 (resetIfUp_referenceHold 0 hd)
    clear_value f
    have hg : ReferenceHold i g.sup := by
      rw [err_sup]
      exact hf
    split
    · rw [err_sup]
      exact hg
    · exact hg

/-- R38: reference `i` is marked failed, both dies are in reset, and both are held. -/
def ReferenceFailed (i : Nat) (t : State) : Prop :=
  t.sup.refFailed.testBit i = true ∧ t.dieUp 0 = false ∧ t.dieUp 1 = false ∧ (tget t.sup.dies 0).holds.testBit 2 = true ∧
    (tget t.sup.dies 1).holds.testBit 2 = true

/-- R38: whatever the containment mode and whatever ran before, the failure of reference `j` stops and holds both dies. -/
theorem hubReferenceFail_referenceFailed {s : State} {i j : Nat} (h : s.sup.refFailed.testBit i = true ∨ j = i) :
    ReferenceFailed i (hubReferenceFail s j) := by
  unfold hubReferenceFail
  extract_lets -lift -merge -underBinder src a b c src2 d
  have hb : ReferenceHold i b.sup := by
    refine ⟨?_, holdForReference_holds true a (by decide), holdForReference_holds true a (by decide)⟩
    show (setBit s.sup.refFailed j true).testBit i = true
    simpa using h
  clear_value b
  have hc : ReferenceHold i c.sup := nativeContain_referenceHold _ _ hb
  clear_value c
  have hd : ReferenceHold i d.sup := by
    unfold d
    split
    · exact hc
    · exact hc
  clear_value d
  obtain ⟨hfail, h0, h1⟩ := resetIfUp_referenceHold 1 (resetIfUp_referenceHold 0 hd)
  exact ⟨hfail, dieUp_resetIfUp_of_stopped 1 (dieUp_resetIfUp_same d 0), dieUp_resetIfUp_same _ 1, h0, h1⟩

/-- What one step of a fold establishes and every step keeps holds at the end of the fold. -/
theorem foldl_of_step {α β : Type} {P : β → Prop} {f : β → α → β} {l : List α} {b : β} {x : α} (hx : x ∈ l) (h : ∀ t, P (f t x))
    (hk : ∀ t y, P t → P (f t y)) : P (l.foldl f b) := by
  induction l generalizing b with
  | nil => exact absurd hx List.not_mem_nil
  | cons y l ih =>
    rcases List.mem_cons.mp hx with rfl | hl
    · exact List.foldlRecOn l f (h b) fun t ht z _ => hk t z ht
    · exact ih hl

/-- A table after the keys of a list are set or deleted by a test. -/
theorem tfind_foldl_mark {α : Type} (out : Nat → Bool) (v : Nat → α) (l : List Nat) (t : Tab α) {i : Nat} (h : i ∈ l) (ho : out i = true) :
    tfind (l.foldl (fun t j => if out j = true then tput t j (v j) else tdel t j) t) i = some (v i) := by
  refine foldl_of_step (P := fun t => tfind t i = some (v i)) h (fun t => ?_) fun t j ht => ?_
  · rw [if_pos ho, tfind_tput_same]
  · by_cases hj : j = i
    · rw [hj, if_pos ho, tfind_tput_same]
    · split
      · rw [tfind_tput_other _ _ hj, ht]
      · rw [tfind_tdel_other _ hj, ht]

/-- R36: a reference out of range keeps the time since which it is. -/
theorem noteReferences_refOut {s : State} {ppm : List Nat} {i at_ : Nat} (hi : i < 5) (hp : 1000 < ppm.getD i 0)
    (h : tfind s.sup.refOut i = some at_) : tfind (noteReferences s ppm).sup.refOut i = some at_ := by
  have ho := tfind_foldl_mark (fun j => decide (1000 < ppm.getD j 0)) (fun j => tgetD s.sup.refOut j s.now) (List.range 5) s.sup.refOut
    (List.mem_range.mpr hi) (decide_eq_true hp)
  simp only [tgetD, h] at ho
  exact ho

theorem referenceCheck_referenceFailed {s : State} {ppm : List Nat} {i at_ : Nat} (hi : 1 ≤ i ∧ i ≤ 4) (hp : 1000 < ppm.getD i 0)
    (ho : tfind s.sup.refOut i = some at_) (ht : at_ + 1000 ≤ s.now) (hf : s.sup.refFailed.testBit i = false) :
    ReferenceFailed i (referenceCheck ppm s) := by
  have hmem : i ∈ [1, 2, 3, 4] := by simp; omega
  unfold referenceCheck
  extract_lets -lift -merge -underBinder a failed b
  have hfailed : failed i = true := by
    have hn : tfind a.sup.refOut i = some at_ := noteReferences_refOut (by omega) hp ho
    have hnow : a.now = s.now := rfl
    have href : a.sup.refFailed = s.sup.refFailed := rfl
    simp only [failed, hn, hnow, href, hf, ht, decide_true, Bool.not_false, Bool.and_self]
  clear_value failed b
  refine foldl_of_step hmem (fun t => ?_) fun t j h => ?_
  · rw [if_pos hfailed]
    exact hubReferenceFail_referenceFailed (.inr rfl)
  · split
    · exact hubReferenceFail_referenceFailed (.inl h.1)
    · exact h

theorem hubReferenceRecover_of_due {s : State} (hf : s.sup.refFailed / 2 ≠ 0) (hg : s.sup.refGoodSince + 10000 ≤ s.now)
    (ho : [1, 2, 3, 4].any (fun i => (tfind s.sup.refOut i).isSome) = false) :
    hubReferenceRecover s = holdForReference false { s with sup := { s.sup with refFailed := s.sup.refFailed % 2 } } := by
  unfold hubReferenceRecover
  refine if_neg ?_
  rintro (h | h | h)
  · exact hf h
  · exact Nat.not_lt.mpr hg h
  · exact Bool.false_ne_true (ho.symm.trans h)

/-- Settles O5: the check finds the reference failed, and each failure stops and holds both dies; the recovery is read off its definition. -/
theorem failedReferenceHoldsBothDies : Obligations.FailedReferenceHoldsBothDies := by
  unfold Obligations.FailedReferenceHoldsBothDies
  refine ⟨fun s ppm i at_ hi hp ho ht hf => (does_iff rfl).mpr (referenceCheck_referenceFailed hi hp ho ht hf),
    fun s hfail hgood hout => (does_iff rfl).mpr ?recovers, fun s h => (does_iff rfl).mpr ?waits⟩
  case recovers =>
    rw [hubReferenceRecover_of_due hfail hgood hout]
    exact ⟨rfl, holdForReference_holds false _ (by decide), holdForReference_holds false _ (by decide), rfl⟩
  case waits =>
    exact if_pos (.inr h)

/-! ## The domain switch requests (R30, R31, R32) -/

theorem domainOn_of_wardenSame {s t : State} (h : WardenSame s t) {d : Nat} (hd : d < 2) (n : Nat) : t.domainOn d n = s.domainOn d n := by
  unfold State.domainOn
  obtain rfl | rfl := eq_zero_or_one hd <;> rw [rd_of_wardenSame h _ (by decide) (by decide)]

theorem domainOn_answer (s : State) (r : Resp) (v h d n : Nat) : (s.answer r v h).domainOn d n = s.domainOn d n := by
  rw [State.domainOn, rd_answer, State.domainOn]

/-- A word of PWR_DOMAIN_H.on written: domain `n` is on where its bit is set. -/
theorem domainOn_wr_on (s : State) (d w : Nat) {n : Nat} (hn : n < 27) : (s.wr (R.PWR_DOMAIN_H.on d) w).domainOn d n = w.testBit n := by
  rw [State.domainOn, rd_wr_same, R.PWR_DOMAIN_H.on, R.fld, Nat.testBit_mod_two_pow, decide_eq_true hn, Bool.true_and]

theorem testBit_setMinus (a b i : Nat) : (setMinus a b).testBit i = (a.testBit i && ! b.testBit i) := by
  rw [setMinus, Nat.testBit_xor, Nat.testBit_and]
  cases a.testBit i <;> cases b.testBit i <;> rfl

theorem filter_range_eq_singleton {n m : Nat} (h : n < m) : (List.range m).filter (fun k => decide (k = n)) = [n] := by
  rw [List.filter_eq, List.count_range, if_pos h, List.replicate_one]

theorem members_one_shiftLeft {n m : Nat} (h : n < m) : members (1 <<< n) m = [n] := by
  rw [members, ← filter_range_eq_singleton h]
  refine List.filter_congr fun k _ => ?_
  rw [Nat.one_shiftLeft, Nat.testBit_two_pow]
  exact decide_eq_decide.mpr eq_comm

/-- R31: a lone start of a die with none made and none waiting is due at once. -/
theorem scheduleStarts_of_idle {s : State} {d n : Nat} (hn : n < 27) (hs : (tget s.sup.dies d).starting = [])
    (hl : (tget s.sup.dies d).lastStart = none) :
    scheduleStarts s d [n] = s.modDie d fun x => { x with starting := [(n, s.now)], lastStart := none } := by
  have ho : (List.range 27).filter (fun k => [n].contains k) = [n] := by
    simpa using filter_range_eq_singleton hn
  unfold scheduleStarts
  simp only [hs, hl, Die.lastMade, List.foldl_nil, List.filter_nil, ho]
  rfl

/-- R31: domain `n`, off, of a die with no start made or waiting is requested: its start is due, and an off request of it is withdrawn. -/
theorem requestDomains_of_idle {s : State} {d n : Nat} (hk : kilnActive s d = false) (hn : n < 27) (hoff : s.domainOn d n = false)
    (hs : (tget s.sup.dies d).starting = []) (hl : (tget s.sup.dies d).lastStart = none) :
    (tget (requestDomains s d (1 <<< n)).sup.dies d).starting = [(n, s.now)] ∧
      (requestDomains s d (1 <<< n)).out = s.out ∧ RegsBut [R.PWR_DOMAIN_H.pending d] s (requestDomains s d (1 <<< n)) := by
  unfold requestDomains
  extract_lets -lift -merge -underBinder busy new a b
  have hnew : new = [n] := by
    simp [new, busy, members_one_shiftLeft hn, hoff, hs]
  have hbs : (tget b.sup.dies d).starting = [] := by simp [b, a, hs]
  have hbl : (tget b.sup.dies d).lastStart = none := by simp [b, a, hl]
  have hw : waitingStarts b d ++ new = [n] := by simp [waitingStarts, hbs, hnew]
  rw [hk, if_neg Bool.false_ne_true, hw, hnew, scheduleStarts_of_idle hn hbs hbl]
  refine ⟨by simp [b, a], rfl, ?_⟩
  exact regsBut_regs (regsBut_wr _ _ (regsBut_regs (regsBut_refl _ s) rfl) (by simp)) rfl

theorem domainSwitchRequest_of_asks {s : State} {a : Agent} {d n : Nat} (ha : asksDomains a = true) (hd : d < 2) (hn : n < 27)
    (hk : kilnActive s d = false) : domainSwitchRequest a d n s = (requestDomains s d (1 <<< n)).answer .ok 0 0 := by
  simp [domainSwitchRequest, ha, Nat.not_le.mpr hd, Nat.not_le.mpr hn, hk]

theorem domainOn_domainOnComplete {s : State} {d n at_ : Nat} (hd : d < 2) (hn : n < 27)
    (hs : tfind (tget s.sup.dies d).starting n = some at_) (ht : at_ ≤ s.now) : (domainOnComplete d n s).domainOn d n = true := by
  unfold domainOnComplete
  simp only [hs]
  rw [if_neg (by omega), domainOn_of_wardenSame (wardenSame_trySelect (wardenSame_refreshLinks (wardenSame_refl _))) hd, domainOn_wr_on _ _ _ hn,
    testBit_setBit_true, decide_eq_true rfl, Bool.or_true]

theorem domainOn_switchOff (s : State) {d n : Nat} (hd : d < 2) (hn : n < 27) : (switchOff s d (1 <<< n)).domainOn d n = false := by
  unfold switchOff
  extract_lets -lift -merge -underBinder a b
  have ha : a.domainOn d n = false := by
    rw [domainOn_wr_on _ _ _ hn, testBit_setMinus, Nat.one_shiftLeft, Nat.testBit_two_pow_self, Bool.not_true, Bool.and_false]
  have hb : WardenSame a (b.wr (R.PWR_DOMAIN_H.pending d) (b2n ((tget b.sup.dies d).offPending != 0))) :=
    wardenSame_wr (wardenSame_regs (wardenSame_refl a)) (hubField_pending hd)
  rw [domainOn_of_wardenSame (wardenSame_refreshLinks hb) hd, ha]

theorem domainOffRequest_of_noPattern {s : State} {a : Agent} {d n : Nat} (ha : asksDomains a = true) (hd : d < 2) (hn : n < 27)
    (hp : s.activePattern = none) : ∃ t, domainOffRequest a d n s = (switchOff t d (1 <<< n)).answer .ok 0 0 := by
  unfold domainOffRequest
  rw [if_neg (by simp [ha]), if_neg (by omega)]
  simp only [hp, Nat.zero_testBit, Bool.false_eq_true, false_and, if_false]
  exact ⟨_, rfl⟩

/-- Settles O3: the request and its due start are read off the die's plan; what the links and the selection do then leaves PWR_DOMAIN_H.on. -/
theorem domainCommands : Obligations.DomainCommands := by
  unfold Obligations.DomainCommands
  refine ⟨fun s a d n ha hd hn hk hoff hs hl => (does_iff rfl).mpr ?request, fun s d n hd hn hs => (does_iff rfl).mpr ?complete,
    fun s a d n ha hd hn hp => (does_iff rfl).mpr ?off⟩
  case request =>
    obtain ⟨hstart, hout, hregs⟩ := requestDomains_of_idle hk hn hoff hs hl
    rw [domainSwitchRequest_of_asks ha hd hn hk]
    exact ⟨hstart, by rw [answer_out, hout], regsBut_regs hregs (answer_regs _ _ _ _)⟩
  case complete =>
    obtain ⟨at_, hstart, ht⟩ := (Option.any_eq_true _ _).mp hs
    exact domainOn_domainOnComplete hd hn hstart (of_decide_eq_true ht)
  case off =>
    obtain ⟨t, ht⟩ := domainOffRequest_of_noPattern ha hd hn hp
    rw [ht, domainOn_answer, answer_out]
    exact ⟨domainOn_switchOff t hd hn, rfl⟩

/-! ## The package power governor (R23 to R28) -/

/-- R25: a control stepped down: the share by two points, or at its floor the issue rate by one. -/
def OneStepDown (x y : Die) : Prop :=
  (y.shareCut = x.shareCut + 2 ∧ y.issueCut = x.issueCut) ∨ (y.shareCut = x.shareCut ∧ y.issueCut = min 12 (x.issueCut + 1))

theorem governorEstimate_over {s : State} {d : Nat} {activity : List Nat} (hd : s.dieUp d = true)
    (h : halfLimit s < dieEstimate (tget s.sup.dies d) activity) :
    (tget (governorEstimate d activity s).sup.dies d).estimate = dieEstimate (tget s.sup.dies d) activity ∧
      OneStepDown (tget s.sup.dies d) (tget (governorEstimate d activity s).sup.dies d) := by
  unfold governorEstimate
  rw [if_neg (by simpa using hd)]
  extract_lets -lift -merge -underBinder e half a
  rw [if_pos h]
  split
  extract_lets -lift -merge -underBinder free b floors c
  rw [refreshShares_sup]
  unfold OneStepDown
  cases hf : free <;> simp [c, b, a, e, hf]

theorem governorEstimate_under {s : State} {d : Nat} {activity : List Nat} (hd : s.dieUp d = true)
    (h : dieEstimate (tget s.sup.dies d) activity ≤ halfLimit s) :
    (tget (governorEstimate d activity s).sup.dies d).estimate = dieEstimate (tget s.sup.dies d) activity ∧
      (governorEstimate d activity s).regs = s.regs ∧ (tget (governorEstimate d activity s).sup.dies d).overSince = none := by
  unfold governorEstimate
  rw [if_neg (by simpa using hd)]
  extract_lets -lift -merge -underBinder e half a
  rw [if_neg (Nat.not_lt.mpr h)]
  simp [a, e]

theorem governorRescale_of_up {s : State} {d : Nat} (measured : Nat) (hd : s.dieUp d = true) (hp : s.procUp 1 = true)
    (he : 3000 < (tget s.sup.dies d).estimate) :
    governorRescale d measured s =
      State.modDie { s with pwr := { s.pwr with dieRead := tput s.pwr.dieRead d (measured, s.now) } } d
        fun x => { x with scale := x.scale * (measured - 3000) / (x.estimate - 3000) } := by
  unfold governorRescale
  rw [if_neg (by simp [hp, die_lt_two_of_dieUp hd])]
  exact if_pos ⟨hd, he⟩

theorem governorRelease_of_due {s : State} {d at_ : Nat} (hd : s.dieUp d = true) (hm : (tget s.sup.dies d).marginSince = some at_)
    (ht : at_ + 100 ≤ s.now) (hl : (tget s.sup.dies d).lastRelease + 10 ≤ s.now)
    (hc : (tget s.sup.dies d).issueCut ≠ 0 ∨ (tget s.sup.dies d).shareCut ≠ 0) :
    governorRelease d s = refreshShares (s.modDie d fun x =>
      { x with lastRelease := s.now, issueCut := x.issueCut - 1,
               shareCut := if x.issueCut = 0 then x.shareCut - 2 else x.shareCut }) d := by
  unfold governorRelease
  simp only [hm]
  refine if_neg ?_
  rintro (h | h | h | ⟨hi, hs⟩)
  · exact h hd
  · exact Nat.not_lt.mpr ht h
  · exact Nat.not_lt.mpr hl h
  · exact hc.elim (· hi) (· hs)

theorem packageLimitUnmet_of_due {s : State} {d at_ : Nat} (hd : s.dieUp d = true) (ho : (tget s.sup.dies d).overSince = some at_)
    (ht : at_ + 100 ≤ s.now) (hu : (tget s.sup.dies d).unmet = false) :
    packageLimitUnmet d s = (s.modDie d fun x => { x with unmet := true }).err (0x1000 * (d + 1) + 0xC0) 0 0x0B 2 0 := by
  unfold packageLimitUnmet
  simp only [ho]
  refine if_neg ?_
  rintro (h | h | h)
  · exact h hd
  · exact Bool.false_ne_true (hu.symm.trans h)
  · exact Nat.not_lt.mpr ht h

theorem packageLimitClear_of_due {s : State} {d at_ : Nat} (hu : (tget s.sup.dies d).underSince = some at_) (ht : at_ + 1000 ≤ s.now)
    (h : (tget s.sup.dies d).unmet = true) : packageLimitClear d s = s.modDie d fun x => { x with unmet := false } := by
  unfold packageLimitClear
  simp only [hu]
  exact if_pos ⟨h, ht⟩

/-- R340: a record with no detail goes to the place that the ring stood at before. -/
theorem err_recorded_of_itg {s t : State} {unit op cls severity : Nat} (h : t.itg = s.itg) :
    Recorded s (t.err unit op cls severity 0) unit op cls severity 0 := by
  have hr := err_recorded t unit op cls severity 0
  rw [Nat.zero_mod] at hr
  unfold Recorded at *
  rwa [h] at hr

/-- Settles O7, command by command: what it does to the die once its condition holds, then what that leaves in the fields. -/
theorem governorCommands : Obligations.GovernorCommands := by
  unfold Obligations.GovernorCommands
  refine ⟨fun s d activity hd => (does_iff rfl).mpr ?estimate, fun s d measured hd hp he => (does_iff rfl).mpr ?rescale,
    fun s d at_ hd hm ht hl hc => (does_iff rfl).mpr ?release, fun s d at_ hd ho ht hu => (does_iff rfl).mpr ?unmet,
    fun s d at_ hu ht h => (does_iff rfl).mpr ?clear⟩
  case estimate =>
    refine ⟨?_, fun h => (governorEstimate_over hd h).2, fun h => (governorEstimate_under hd h).2⟩
    rcases Nat.lt_or_ge (halfLimit s) (dieEstimate (tget s.sup.dies d) activity) with h | h
    · exact (governorEstimate_over hd h).1
    · exact (governorEstimate_under hd h).1
  case rescale =>
    rw [governorRescale_of_up measured hd hp he]
    simp
  case release =>
    rw [governorRelease_of_due hd hm ht hl hc, refreshShares_sup]
    simp
  case unmet =>
    rw [packageLimitUnmet_of_due hd ho ht hu]
    refine ⟨?_, err_recorded_of_itg rfl, regsBut_err _ _ _ _ _ (regsBut_regs (regsBut_refl _ s) rfl) fun _ hk => hk⟩
    rw [err_sup, modDie_dies, tget_tmod_same]
  case clear =>
    rw [packageLimitClear_of_due hu ht h]
    simp

/-! ## The management port and acting alone (R37, R389, R409, R410) -/

theorem actAlone_of_silent {s : State} (ha : s.on R.MGT_STATUS.alone = false) (hw : s.sup.wardenOn = true)
    (hh : s.rd R.MGT_CFG.silence ≤ s.silence .host) (hr : s.rd R.MGT_CFG.silence ≤ s.silence .rackManager) :
    actAlone s = setMode (((s.wr R.MGT_STATUS.alone 1).bump R.MGT_ALONE_COUNT.c).event 0x0009 0 0) false := by
  unfold actAlone
  refine if_neg ?_
  rintro (h | h | h | h)
  · exact Bool.false_ne_true (ha.symm.trans h)
  · exact h hw
  · exact Nat.not_lt.mpr hh h
  · exact Nat.not_lt.mpr hr h

theorem setMode_rd_other (s : State) (period : Bool) {g : Fld} (h1 : R.COOL_STATUS.mode.key ≠ g.key)
    (h2 : R.COOL_STATUS.table_reason.key ≠ g.key) : (setMode s period).rd g = s.rd g := by
  unfold setMode
  extract_lets m old m'
  rw [rd_wr_other _ _ _ _ h2, rd_wr_other _ _ _ _ h1]

theorem datagramFragment_of_first {s : State} {id need len : Nat} (hp : portTakes s = true) (hn : need ≤ 4448)
    (hf : s.mgt.reassemblies.find? (fun (r : Reassembly) => r.id = id) = none) (hl : len < need) (h8 : s.mgt.reassemblies.length < 8) :
    datagramFragment id need len s = { s with mgt := { s.mgt with
      reassemblies := s.mgt.reassemblies ++ [{ id := id, since := s.now, need := need, have_ := len : Reassembly }] } } := by
  unfold datagramFragment
  extract_lets l put
  rw [if_neg (by simp [hp, hn])]
  simp only [l, hf]
  exact if_neg (by omega)

/-- Settles O40: the port's commands are read off their definitions; acting alone sets its mark before a count, an event and the cooling mode,
which leave it. -/
theorem portCommands : Obligations.PortCommands := by
  unfold Obligations.PortCommands
  refine ⟨fun s ha hw hh hr => (does_iff rfl).mpr ?alone, fun s source ident hp => (does_iff rfl).mpr (if_pos hp),
    fun s source hp => (does_iff rfl).mpr ?discovery,
    fun s id need len hp hn hf hl h8 => (does_iff rfl).mpr (datagramFragment_of_first hp hn hf hl h8),
    fun s id => (does_iff rfl).mpr rfl, fun s up => (does_iff rfl).mpr rfl⟩
  case alone =>
    have hk := (actAlone_keeps (m := 8388612) rfl (keeps_refl _ s)).touch
    refine ⟨?_, congrArg CoolState.valveCmd (hk .cool rfl), hk .out rfl⟩
    rw [actAlone_of_silent ha hw hh hr, setMode_rd_other _ _ (by decide) (by decide),
      rd_regsBut (regsBut_event _ _ _ (regsBut_refl recordFields _) fun _ h => h) _ (by decide), bump_other _ _ _ (by decide) (by decide),
      rd_wr_same]
    rfl
  case discovery =>
    simp [neighbourDiscovery, hp]

/-! ## Kiln trips (R34) -/

/-- The end of H0's kiln trip, 1 s after its sensors fell below 80 °C. -/
def kilnTripEnding : State :=
  { (({} : State).wr R.COOL_KILN.h0_trip 1) with cool := { kilnLow := [(0, 0)] }, now := 1000000 }

/-- Refutes O46: its last clause lets `e` pass the two dies, and the field of PWR_DOMAIN_H that index 1027 gives is at the place of
COOL_KILN.h0_trip, which the end of the trip clears. -/
theorem not_kilnTrippedDieStaysOff : ¬ Obligations.KilnTrippedDieStaysOff := by
  unfold Obligations.KilnTrippedDieStaysOff
  intro ⟨_, _, clear⟩
  obtain ⟨_, hsame⟩ := (does_iff rfl).mp
    (clear kilnTripEnding 0 0 0 0 (by decide) (by decide) (by decide) (by decide) rfl (by decide))
  exact absurd ((hsame 1027).2 0) (by decide)

end Sys2Proof.Proofs
end

section
/-! PROOFS. The cadence: the tracker and the phase marks. -/

namespace Sys2Proof.Proofs
open Sys2Proof.Machine Sys2Proof.Laws

/-! ## What is done on each running die -/

section
variable {s : State} {f : Nat → State → State} {P : State → Prop}

/-- What an operation on either die keeps, the operation on each running die keeps. -/
theorem onDies_induct (h : P s) (hf : ∀ d t, d < 2 → P t → P (f d t)) : P (s.onDies f) := by
  unfold State.onDies
  extract_lets a
  have ha : P a := by
    unfold a
    split
    · exact hf 0 s (by decide) h
    · exact h
  split
  · exact hf 1 a (by decide) ha
  · exact ha

/-- What the operation on a running die establishes, and the operation on the other keeps, holds once it is done on each running die. -/
theorem onDies_of_dieUp {d : Nat} (hd : s.dieUp d = true) (hsup : ∀ t, (f 0 t).sup = t.sup) (he : ∀ t, P (f d t))
    (hk : ∀ t, P t → P (f (1 - d) t)) : P (s.onDies f) := by
  unfold State.onDies
  extract_lets a
  have ha : a.sup = s.sup := by
    unfold a
    split
    · exact hsup s
    · rfl
  obtain rfl | rfl := eq_zero_or_one (die_lt_two_of_dieUp hd)
  · have h0 : P a := by
      unfold a
      rw [if_pos hd]
      exact he s
    split
    · exact hk a h0
    · exact h0
  · have h1 : a.dieUp 1 = true := by rw [State.dieUp, ha]; exact hd
    rw [if_pos h1]
    exact he a

end

/-- A field of each running die's block reads what was written to it, within its width. -/
theorem rd_wrDies_same {s : State} {d : Nat} {f : Nat → Fld} (v : Nat) (hd : s.dieUp d = true) (hf : (f (1 - d)).key ≠ (f d).key) :
    (s.wrDies f v).rd (f d) = v % 2 ^ (f d).w :=
  onDies_of_dieUp (P := fun t => t.rd (f d) = v % 2 ^ (f d).w) hd (fun _ => rfl) (fun t => rd_wr_same t _ _)
    fun t h => (rd_wr_other t _ _ _ hf).trans h

/-- A field written in each running die's block changes the registers only. -/
theorem wrDies_keeps (s : State) (f : Nat → Fld) (v : Nat) : Keeps 4 s (s.wrDies f v) := State_wrDies_keeps rfl (keeps_refl _ s)

@[simp] theorem wrDies_cad (s : State) (f : Nat → Fld) (v : Nat) : (s.wrDies f v).cad = s.cad := (wrDies_keeps s f v).touch .cad rfl
@[simp] theorem wrDies_gt (s : State) (f : Nat → Fld) (v : Nat) : (s.wrDies f v).gt = s.gt := (wrDies_keeps s f v).touch .gt rfl
@[simp] theorem wrDies_out (s : State) (f : Nat → Fld) (v : Nat) : (s.wrDies f v).out = s.out := (wrDies_keeps s f v).touch .out rfl

/-! ## The tracker (R46, R53, R55) -/

theorem stallCadence_cad (s : State) : (stallCadence s).cad = s.cad.stall := by
  unfold stallCadence
  extract_lets -lift -merge -underBinder step a b
  have hb : b.cad = a.cad := onDies_induct (P := fun t => t.cad = a.cad) rfl fun d t _ ht => by
    refine .trans ?_ ht
    split
    · rfl
    · exact (State_bump_keeps (m := 4) rfl (keeps_refl _ t)).touch .cad rfl
  exact ((State_event_keeps (m := 8388612) rfl (keeps_refl _ b)).touch .cad rfl).trans hb

/-- The fields that a stall may change: the stall counts, with their overflow bits, and those of a record. -/
def stallFields : List Fld :=
  [R.CAD_STALL_COUNT.count 0, R.CAD_STALL_COUNT.count 1, (R.CAD_STALL_COUNT.c 0).ovf, (R.CAD_STALL_COUNT.c 1).ovf] ++ recordFields

theorem stallCadence_regs (s : State) : RegsBut stallFields s (stallCadence s) := by
  unfold stallCadence
  extract_lets -lift -merge -underBinder step a b
  have hb : RegsBut stallFields s b := onDies_induct (regsBut_refl _ s) fun d t hd ht => by
    split
    · exact ht
    · obtain rfl | rfl := eq_zero_or_one hd <;> exact regsBut_bump _ ht (by decide) (by decide)
  exact regsBut_event _ _ _ hb (by decide)

theorem nominalTakes_phase (s : State) : (nominalTakes s).cad.phase = s.cad.phase := by
  unfold nominalTakes
  split <;> rfl

theorem nominalTakes_gt (s : State) : (nominalTakes s).gt = s.gt :=
  (nominalTakes_keeps (m := 128) rfl (keeps_refl _ s)).touch .gt rfl

theorem stallOwn_keeps_own (s : State) (now d : Nat) : Keeps 260 s (stallOwn s now d) := stallOwn_keeps rfl (keeps_refl _ s)

/-- R46, R55: a tick with a die running: group time goes to the next multiple of 32 ns, and the tracker advances, or stalls. -/
theorem cadenceTick_of_anyDieUp {s : State} (h : s.anyDieUp = true) :
    (cadenceTick s).gt.time = (s.gt.time / 32 + 1) * 32 % 2 ^ 64 ∧
      (cadenceTick s).cad.phase =
        if s.cad.advance.overdue ((s.gt.time / 32 + 1) * 32) then phaseMax else s.cad.advance.phase := by
  unfold cadenceTick
  rw [if_neg (by simp [h])]
  extract_lets -lift -merge -underBinder now src a go b c
  have hgt : c.gt = b.gt := by
    unfold c
    split
    · exact (stallCadence_keeps (m := 8388740) rfl (keeps_refl _ b)).touch .gt rfl
    · rfl
  have hcad : c.cad.phase = if b.cad.overdue now then phaseMax else b.cad.phase := by
    unfold c
    split
    · rw [stallCadence_cad]; rfl
    · rfl
  rw [nominalTakes_gt, nominalTakes_phase, (stallOwn_keeps_own _ _ _).touch .gt rfl, (stallOwn_keeps_own _ _ _).touch .gt rfl,
    (stallOwn_keeps_own _ _ _).touch .cad rfl, (stallOwn_keeps_own _ _ _).touch .cad rfl, hgt, hcad]
  exact ⟨rfl, rfl⟩

/-! ## Phase marks (R50 to R53) -/

theorem phaseMark_of_quorum {s : State} {slot mark tag i : Nat} (hp : s.phaseHeard slot = true) (hm : markIndex s.markTable mark = some i)
    (ht : tag % 2 ^ 16 = s.cad.step % 2 ^ 16) (hs : s.cad.mismatch.testBit slot = false)
    (h2 : (tget s.cad.senders i).testBit slot = false) (htaken : s.cad.taken.testBit i = false)
    (hq : quorumOf s (s.markTable.getD i default) ≤ popcount (setBit (tget s.cad.senders i) slot true) 8) :
    phaseMark slot mark tag s = { s with cad := { s.cad with
      senders := tput s.cad.senders i (setBit (tget s.cad.senders i) slot true), taken := setBit s.cad.taken i true,
      takes := s.cad.takes ++ [(i, s.gt.time, slot)] } } := by
  unfold phaseMark phaseMarkAt
  rw [if_neg (by simp [hp])]
  simp only [hm]
  rw [if_neg (by rw [hs]; simpa using ht), if_neg (by simp [h2]), if_neg (by simp [htaken])]
  exact if_pos hq

theorem phaseMark_of_unknown {s : State} {slot mark : Nat} (tag : Nat) (hp : s.phaseHeard slot = true)
    (hm : markIndex s.markTable mark = none) : phaseMark slot mark tag s = markReject s mark slot 1 0 := by
  simp [phaseMark, phaseMarkAt, hp, hm]

/-- R52: a correction within the tolerance replaces the one outstanding. -/
theorem correct_of_within {c : Cadence} {tolerance angle : Nat} (hh : c.held = false) (hs : c.stalled = false)
    (h : (c.error angle).natAbs ≤ tolerance * 2 ^ 32) : c.correct tolerance angle = { c with corr := c.error angle } := by
  have hb : c.beyond tolerance angle = false := by
    rw [Cadence.beyond, decide_eq_false (Nat.not_lt.mpr h), Bool.and_false]
  simp [Cadence.correct, hh, hs, hb]

theorem markEffect_of_due {s : State} {i stamp acc : Nat} {rest : List (Nat × Nat × Nat)} (ht : s.cad.takes = (i, stamp, acc) :: rest)
    (hd : stamp + 256 ≤ s.gt.time) (ha : acc ≠ 8) : (markEffect s).cad =
      Cadence.correct { s.cad with takes := rest, effective := setBit s.cad.effective i true } s.cad.tolerance
        (s.markTable.getD i default).angle := by
  unfold markEffect
  simp only [ht]
  rw [if_neg (Nat.not_lt.mpr hd), if_neg ha]
  refine congrArg (Cadence.correct · _ _) ?_
  refine onDies_induct (P := fun t => t.cad = _) rfl fun d t _ h => .trans ?_ h
  split
  · exact (markRejectOn_keeps (m := 4) rfl (keeps_refl _ t)).touch .cad rfl
  · exact (State_bump_keeps (m := 4) rfl (keeps_refl _ t)).touch .cad rfl

/-! ## The mark tolerance (R70) -/

theorem toleranceWrite_of_inRange {s : State} {die value : Nat} (hd : s.dieUp die = true) (hv : 1024 ≤ value ∧ value ≤ 32767) :
    toleranceWrite .steward die value s =
      let a := s.wrDies R.CAD_MARK_CFG.tolerance value
      { a with cad := { a.cad with tolerancePending := a.cad.tolerancePending ++ [(value, a.gt.time)] } }.answer .ok 0 0 := by
  unfold toleranceWrite
  rw [gateDie_of_dieUp _ _ hd, hostGate_of_dieUp _ (by decide) hd, if_neg (by omega)]
  rfl

/-- Settles O8, command by command: what it does to the tracker once its condition holds, then what that leaves in the registers. -/
theorem cadenceCommands : Obligations.CadenceCommands := by
  unfold Obligations.CadenceCommands
  refine ⟨fun s h => (does_iff rfl).mpr (cadenceTick_of_anyDieUp h), fun s h => (does_iff rfl).mpr ?stall,
    fun s slot step h => (does_iff rfl).mpr (if_neg (by simp [h])),
    fun s slot mark tag i hp hm ht hs h2 htaken hq => (does_iff rfl).mpr (phaseMark_of_quorum hp hm ht hs h2 htaken hq),
    fun s slot mark tag hp hm => (does_iff rfl).mpr (phaseMark_of_unknown tag hp hm),
    fun s i stamp acc rest ht hd ha hh hs hk => (does_iff rfl).mpr ?effect,
    fun s die value hd hv => (does_iff rfl).mpr ?tolerance, fun s v at_ rest hp ht => (does_iff rfl).mpr ?apply⟩
  case stall =>
    rw [cadenceStall, if_pos h]
    exact ⟨stallCadence_cad s, stallCadence_regs s⟩
  case effect =>
    rw [markEffect_of_due ht hd ha]
    exact correct_of_within hh hs hk
  case tolerance =>
    have hregs : RegsBut [R.CAD_MARK_CFG.tolerance 0, R.CAD_MARK_CFG.tolerance 1] s (s.wrDies R.CAD_MARK_CFG.tolerance value) :=
      onDies_induct (regsBut_refl _ s) fun d t h2 ht => regsBut_wr _ _ ht (by
        obtain rfl | rfl := eq_zero_or_one h2 <;> decide)
    have hne : (R.CAD_MARK_CFG.tolerance (1 - die)).key ≠ (R.CAD_MARK_CFG.tolerance die).key := by
      obtain rfl | rfl := eq_zero_or_one (die_lt_two_of_dieUp hd) <;> decide
    have hlt : value < 2 ^ 16 := Nat.lt_of_le_of_lt hv.2 (by decide)
    rw [toleranceWrite_of_inRange hd hv]
    exact ⟨by simp, (rd_wrDies_same value hd hne).trans (Nat.mod_eq_of_lt hlt), by simp, regsBut_regs hregs rfl⟩
  case apply =>
    unfold toleranceApply
    simp only [hp]
    exact if_neg (Nat.not_lt.mpr ht)

end Sys2Proof.Proofs
end

section
/-! PROOFS. Group time: the exchanges of a member with its upstream hub, and HOLDOVER. -/

namespace Sys2Proof.Proofs
open Sys2Proof.Machine Sys2Proof.Laws

/-! ## The exchanges (R61, R62, R220) -/

/-- R61: with only the primary in use, and that port UP, one TIME_REQUEST leaves on it. -/
theorem timeRequestSend_of_due {s : State} (hd : s.dieUp 0 = true) (hm : s.gt.state ≠ 4) (ht : s.gt.lastSend + 1000000 ≤ s.gt.time)
    (hs : s.gt.secondary = false) (hu : s.portUp s.tree.primary = true) (hp : timePort s s.tree.primary = true) :
    timeRequestSend s =
      State.send (State.drawFree { s with gt := { s.gt with
          sequence := (s.gt.sequence + 1) % 2 ^ 16, lastSend := s.gt.time,
          inFlight := tput s.gt.inFlight s.tree.primary (s.gt.time + Config.freeWord s.freeCtr % 32, (s.gt.sequence + 1) % 2 ^ 16) } })
        (.control (8 + s.tree.primary) 0x20 ((s.gt.sequence + 1) % 2 ^ 16) [s.tree.hub]) := by
  unfold timeRequestSend
  rw [if_neg (by simp [hd, hm]; omega), hs]
  exact if_pos ⟨hu, hp⟩

theorem answerTime_of_portUp {s : State} {port : Nat} (sequence t2 t3 : Nat) (hu : s.portUp port = true) (hp : timePort s port = true) :
    answerTime s port sequence false t2 t3 = s.send (.control (8 + port) 0x21 sequence [s.tree.hub + s.gt.state * 2 ^ 18, s.tree.master,
      bits t2 31 0, bits t2 63 32, bits t3 31 0, bits t3 63 32]) :=
  if_neg (by simp [hu, hp])

/-- R62, R63: a reply missed where no secondary is configured. -/
theorem missedReply_of_only {s : State} {port : Nat} (hp : port = upstreamPort s) (h2 : s.tree.secondaryValid = false) :
    missedReply s port = { s with gt := { s.gt with
      inFlight := tdel s.gt.inFlight port, lockRun := 0, lockedRun := 0, holdRun := 0,
      rate := if s.gt.state = 3 then s.gt.freq else s.gt.rate, missed := s.gt.missed + 1 } } := by
  unfold missedReply
  rw [if_pos hp]
  exact if_neg (by simp [h2])

theorem timeReplyMissed_of_due {s : State} {port t1 q : Nat} (hd : s.dieUp 0 = true) (hf : tfind s.gt.inFlight port = some (t1, q))
    (ht : t1 + 100000 ≤ s.gt.time) : timeReplyMissed port s = missedReply s port := by
  unfold timeReplyMissed
  simp only [hf]
  exact if_neg (by simp [hd, ht])

/-! ## HOLDOVER (R63, R69) -/

theorem event_keeps (s : State) (code unit data : Nat) : Keeps 8388612 s (s.event code unit data) := State_event_keeps rfl (keeps_refl _ s)

theorem enterHoldover_gt (s : State) : (enterHoldover s).gt =
    { s.gt with state := 3, holdStart := s.gt.time, holdMs := 0, holdRun := 0, lockedRun := 0 } :=
  (event_keeps _ _ _ _).touch .gt rfl

theorem enterHoldover_gaugeHeld (s : State) : (enterHoldover s).pwr.gaugeHeld = true :=
  congrArg PwrState.gaugeHeld ((event_keeps _ _ _ _).touch .pwr rfl)

theorem enterHoldover_regs (s : State) : RegsBut recordFields s (enterHoldover s) :=
  regsBut_event _ _ _ (regsBut_regs (regsBut_refl _ s) rfl) fun _ h => h

theorem leaveHoldover_regs (s : State) : RegsBut recordFields s (leaveHoldover s) :=
  regsBut_event _ _ _ (regsBut_regs (regsBut_refl _ s) rfl) fun _ h => h

theorem gtHoldover_of_due {s : State} (hs : s.gt.state = 1 ∨ s.gt.state = 2) (ht : s.gt.lastValid + 10000000 ≤ s.gt.time)
    (hd : s.dieUp 0 = true) : gtHoldover s = enterHoldover { s with gt := { s.gt with rate := s.gt.freq } } :=
  if_pos ⟨hs, ht, hd⟩

/-! ## A valid reply (R61 to R63) -/

/-- What a valid reply leaves of group time, whatever the member's state: its offset and delay, no missed reply, and, past ACQUIRE, its time
as the last valid one's. The exchanges in flight are as before. -/
structure ReplyTaken (s : State) (offset delay : Int) (t : State) : Prop where
  offset : t.gt.offset = offset
  delay : t.gt.delay = delay
  missed : t.gt.missed = 0
  lastValid : s.gt.state = 0 ∨ t.gt.lastValid = s.gt.time
  inFlight : t.gt.inFlight = s.gt.inFlight
  regs : RegsBut recordFields s t

theorem ReplyTaken.enterHoldover {s t : State} {offset delay : Int} (h : ReplyTaken s offset delay t) :
    ReplyTaken s offset delay (enterHoldover t) := by
  obtain ⟨ho, hd, hm, hl, hi, hr⟩ := h
  have hg := enterHoldover_gt t
  exact ⟨by rw [hg, ← ho], by rw [hg, ← hd], by rw [hg, ← hm], hl.imp_right fun h => by rw [hg, ← h], by rw [hg, ← hi],
    regsBut_trans hr (enterHoldover_regs t)⟩

theorem ReplyTaken.leaveHoldover {s t : State} {offset delay : Int} (h : ReplyTaken s offset delay t) :
    ReplyTaken s offset delay (leaveHoldover t) := by
  obtain ⟨ho, hd, hm, hl, hi, hr⟩ := h
  have hg : (Machine.leaveHoldover t).gt = { t.gt with
      state := 1, holdMs := min (2 ^ 32 - 1) ((t.gt.time - t.gt.holdStart) / 1000000), lockedRun := 0 } :=
    (event_keeps _ _ _ _).touch .gt rfl
  exact ⟨by rw [hg, ← ho], by rw [hg, ← hd], by rw [hg, ← hm], hl.imp_right fun h => by rw [hg, ← h], by rw [hg, ← hi],
    regsBut_trans hr (leaveHoldover_regs t)⟩

theorem validReply_taken (s : State) (offset delay : Int) (up : Nat) : ReplyTaken s offset delay (validReply s offset delay up) := by
  unfold validReply
  extract_lets -lift -merge -underBinder lm near old g
  have hsame : ∀ t : State, t.regs = s.regs → RegsBut recordFields s t := fun _ => regsBut_regs (regsBut_refl _ s)
  have hservo : ∀ run, ReplyTaken s offset delay { s with gt := { servo g offset with holdRun := run } } :=
    fun _ => ⟨rfl, rfl, rfl, .inr rfl, rfl, hsame _ rfl⟩
  split
  next hstate => exact ⟨rfl, rfl, rfl, .inl hstate, rfl, hsame _ rfl⟩
  next => -- TRACKING
    split
    · exact (hservo _).enterHoldover
    · split
      · exact ⟨rfl, rfl, rfl, .inr rfl, rfl, hsame _ rfl⟩
      · exact hservo _
  next => -- LOCKED
    split
    · exact (hservo _).enterHoldover
    · split
      · exact ⟨rfl, rfl, rfl, .inr rfl, rfl, hsame _ rfl⟩
      · exact hservo _
  next => -- HOLDOVER
    extract_lets -lift -merge -underBinder src t
    split
    · exact (hservo _).leaveHoldover
    · exact hservo _
  next => exact ⟨rfl, rfl, rfl, .inr rfl, rfl, hsame _ rfl⟩

/-- R61, R62: a reply in time on the port in use that answers the exchange in flight there, and may be followed. -/
theorem timeReply_of_valid {s : State} {port sequence up master t1 ns : Nat} (hub t2 t3 : Nat) (hd : s.dieUp 0 = true)
    (hp : timePort s port = true) (hf : tfind s.gt.inFlight port = some (t1, sequence)) (ht : s.gt.time + ns ≤ t1 + 100000)
    (hm : master = s.tree.master) (hu : upstreamAllowed s.gt.state up = true) (hport : port = upstreamPort s) :
    timeReply port sequence hub up master t2 t3 false ns s =
      validReply { s with gt := { s.gt with inFlight := tdel s.gt.inFlight port } }
        ((((t1 : Int) - t2) + (((s.gt.time + ns : Nat) : Int) - t3)) * 4 - toSigned 32 (s.rd (R.LNK_ASYM.asym (port / 4) (port % 4))))
        (((((s.gt.time + ns : Nat) : Int) - t1) - ((t3 : Int) - t2)) * 4) up := by
  unfold timeReply takeTimeReply
  simp only [hf]
  rw [if_neg (by simp [hd, hp]), if_neg (by simp [hm, hu, ht])]
  exact if_neg (fun h => h hport)

/-- Settles O10, command by command: what the exchange does once its conditions hold; a valid reply by the member's state. -/
theorem groupTimeCommands : Obligations.GroupTimeCommands := by
  unfold Obligations.GroupTimeCommands
  refine ⟨fun s hd hm ht hs hu hp => (does_iff rfl).mpr (timeRequestSend_of_due hd hm ht hs hu hp),
    fun s port sequence hub ns turn hu hp => (does_iff rfl).mpr (answerTime_of_portUp sequence _ _ hu hp),
    fun s port sequence hub up master t2 t3 t1 ns hd hp hf ht hm hu hport => (does_iff rfl).mpr ?reply,
    fun s port t1 q hd hf ht hp h2 => (does_iff rfl).mpr ((timeReplyMissed_of_due hd hf ht).trans (missedReply_of_only hp h2)),
    fun s hs ht hd => (does_iff rfl).mpr ?holdover⟩
  case reply =>
    rw [timeReply_of_valid hub t2 t3 hd hp hf ht hm hu hport]
    obtain ⟨hoffset, hdelay, hmissed, hlast, hflight, hregs⟩ := validReply_taken
      { s with gt := { s.gt with inFlight := tdel s.gt.inFlight port } } _ _ up
    exact ⟨hoffset, hdelay, hmissed, hlast, by rw [hflight]; exact tfind_tdel_same _ _, hregs⟩
  case holdover =>
    have hg := enterHoldover_gt { s with gt := { s.gt with rate := s.gt.freq } }
    rw [gtHoldover_of_due hs ht hd]
    exact ⟨by rw [hg], by rw [hg], by rw [hg], enterHoldover_gaugeHeld _, enterHoldover_regs _⟩

end Sys2Proof.Proofs
end

section
/-! PROOFS. What a step mark settles, and what the operations about it leave of that: the selected pattern and its start, the membership sets,
the shares, the count of step marks and PAT_STATUS.state. -/

namespace Sys2Proof.Proofs
open Sys2Proof.Machine Sys2Proof.Laws

/-! ## What a step mark settles -/

/-- What a step mark settles outside the tracker and the registers; of the rows in flight, how many there are. -/
structure StepView where
  lib : Tab Sys2Proof.Pattern
  active : Option Nat
  seqs : Tab Sequencer
  forced : Option (Nat × Nat)
  takeUpAt : Option Nat
  msets : Tab MSet
  announce : Option Announce
  flights : Nat
  shares : Tab (Nat × Nat)
  marks : Nat

abbrev stepView (s : State) : StepView where
  lib := s.pat.lib
  active := s.pat.active
  seqs := s.pat.seqs
  forced := s.pat.forced
  takeUpAt := s.pat.takeUpAt
  msets := s.pat.msets
  announce := s.pat.announce
  flights := s.pat.flights.length
  shares := s.mem.shares
  marks := s.sdc.marks

/-- A field that stands at another place of its block than PAT_STATUS.state does (R10). -/
structure OffStatus (f : Fld) : Prop where
  key : f.key % 0x20000000 ≠ 0x400000

/-- What a step mark settles is as before, and so is PAT_STATUS.state of either die. -/
structure StepSame (s t : State) : Prop where
  view : stepView t = stepView s
  status : ∀ d, tfind t.regs (R.PAT_STATUS.state d).key = tfind s.regs (R.PAT_STATUS.state d).key

theorem status_key (d : Nat) : (R.PAT_STATUS.state d).key % 0x20000000 = 0x400000 := by
  unfold R.PAT_STATUS.state R.hfld
  simp only
  omega

theorem offStatus_hfld {d off lo w rst : Nat} (h : (off * 32 + lo) % 0x20000000 ≠ 0x400000) : OffStatus (R.hfld d off lo w rst) := by
  constructor
  unfold R.hfld
  simp only
  omega

theorem offStatus_fld {off lo w rst : Nat} (h : (off * 32 + lo) % 0x20000000 ≠ 0x400000) : OffStatus (R.fld off lo w rst) := ⟨h⟩

theorem linkIdx_lt (l : Nat) : linkIdx l < 8 := by
  unfold linkIdx
  split <;> omega

theorem stepSame_refl (s : State) : StepSame s s := ⟨rfl, fun _ => rfl⟩

theorem StepSame.trans {r s t : State} (h : StepSame r s) (g : StepSame s t) : StepSame r t :=
  ⟨g.view.trans h.view, fun d => (g.status d).trans (h.status d)⟩

theorem StepSame.rd_status {s t : State} (h : StepSame s t) (d : Nat) : t.rd (R.PAT_STATUS.state d) = s.rd (R.PAT_STATUS.state d) := by
  unfold State.rd tgetD
  rw [h.status d]

/-- An operation that leaves the patterns, the memory and the swatches. -/
theorem stepView_of_keeps {m : Nat} {s t : State} (h : Keeps m s t) (hp : m.testBit 10 = false := by rfl)
    (hm : m.testBit 11 = false := by rfl) (hs : m.testBit 19 = false := by rfl) : stepView t = stepView s := by
  unfold stepView
  rw [h.touch .pat hp, h.touch .mem hm, h.touch .sdc hs]

theorem stepSame_ite {r a b : State} {c : Prop} [Decidable c] (ha : StepSame r a) (hb : StepSame r b) : StepSame r (if c then a else b) := by
  split
  · exact ha
  · exact hb

section
variable {r s t : State} (h : StepSame r s)
include h

/-- An operation that leaves the field file and the view as they are. -/
theorem stepSame_rest (hr : t.regs = s.regs := by rfl) (hv : stepView t = stepView s := by rfl) : StepSame r t :=
  ⟨hv.trans h.view, by rw [hr]; exact h.status⟩

theorem stepSame_regsBut {ks : List Fld} (hk : ∀ k ∈ ks.map Fld.key, k % 0x20000000 ≠ 0x400000) (hb : RegsBut ks s t)
    (hv : stepView t = stepView s) : StepSame r t :=
  ⟨hv.trans h.view, fun d => (hb _ fun hm => hk _ hm (status_key d)).trans (h.status d)⟩

theorem stepSame_wr {f : Fld} {v : Nat} (hf : OffStatus f := by exact offStatus_hfld (by decide)) : StepSame r (s.wr f v) :=
  stepSame_regsBut h (ks := [f]) (by simpa using hf.key) (regsBut_wr _ _ (regsBut_refl _ s) (by simp)) rfl

theorem stepSame_bump {c : Cnt} (hc : OffStatus c.cnt := by exact offStatus_hfld (by decide))
    (ho : OffStatus c.ovf := by exact offStatus_hfld (by decide)) : StepSame r (s.bump c) := by
  unfold State.bump
  exact stepSame_ite (stepSame_wr h ho) (stepSame_wr h hc)

theorem stepSame_err {unit op cls severity detail : Nat} : StepSame r (s.err unit op cls severity detail) :=
  stepSame_regsBut h (ks := recordFields) (by decide) (regsBut_err _ _ _ _ _ (regsBut_refl _ s) fun _ hk => hk)
    (stepView_of_keeps (State_err_keeps (m := 12845076) rfl (keeps_refl _ s)))

theorem stepSame_send {o : Out} {transit : Bool} : StepSame r (s.send o transit) :=
  stepSame_rest h (regs_send _ _ _) (stepView_of_keeps (State_send_keeps (m := 4112) rfl (keeps_refl _ s)))

theorem stepSame_foldl {α : Type} {f : State → α → State} {l : List α} (hf : ∀ t x, StepSame r t → StepSame r (f t x)) :
    StepSame r (l.foldl f s) :=
  List.foldlRecOn l f h fun t ht x _ => hf t x ht

/-! ### Links: the fence of an accelerator and the links that leave UP (R33, R215, R216) -/

theorem stepSame_noteRefusal (q : OpenReq) (a : Resp) : StepSame r (noteRefusal s q a) := by
  unfold noteRefusal
  extract_lets d
  split
  · exact h
  next c hc =>
    have hcnt : OffStatus c.cnt ∧ OffStatus c.ovf := by
      unfold respCount at hc
      split at hc <;> cases hc <;> exact ⟨offStatus_hfld (by decide), offStatus_hfld (by decide)⟩
    extract_lets -lift -merge -underBinder s1 s2 s3 s4 s5 key recent s6
    have h2 : StepSame r s2 := by
      iterate 4 refine stepSame_wr ?_
      exact stepSame_bump h hcnt.1 hcnt.2
    have h4 : StepSame r s4 := by
      iterate 3 refine stepSame_wr ?_
      exact stepSame_rest h2
    have h5 : StepSame r s5 := stepSame_ite (stepSame_wr h4) (stepSame_ite (stepSame_wr h4) h4)
    exact stepSame_ite h5 (stepSame_err (stepSame_rest h5))

theorem stepSame_finishOpen (id : Nat) (a : Resp) (data : List Nat) (unknown : Bool) : StepSame r (finishOpen s id a data unknown) := by
  unfold finishOpen
  split
  · exact h
  next c _ =>
    unfold answerOpen answerOpenHint
    extract_lets -lift -merge -underBinder qn s1 s2 s3
    have h1 : StepSame r s1 := stepSame_rest (stepSame_wr (f := R.MEM_CTX.used c.die) (stepSame_rest h))
    have h3 : StepSame r s3 := stepSame_noteRefusal (stepSame_ite (stepSame_rest h1) h1) _ _
    exact stepSame_send (stepSame_rest h3)

theorem stepSame_fenceAcc (slot : Nat) : StepSame r (fenceAcc s slot) := by
  unfold fenceAcc
  exact stepSame_wr (stepSame_rest h) (offStatus_hfld (by omega))

theorem stepSame_leaveUp (l : Nat) : StepSame r (leaveUp s l) := by
  unfold leaveUp
  extract_lets -lift -merge -underBinder s1 s2 src s3
  have h2 : StepSame r s2 := stepSame_foldl (stepSame_rest h) fun t c ht =>
    stepSame_ite (stepSame_finishOpen ht _ _ _ _) (stepSame_finishOpen ht _ _ _ _)
  have h3 : StepSame r s3 := stepSame_rest h2 rfl (by simp [stepView, s3, src])
  exact stepSame_ite (stepSame_fenceAcc h3 l) h3

theorem stepSame_setLinkState (l v : Nat) : StepSame r (s.setLinkState l v) :=
  stepSame_wr h (offStatus_hfld (by have := linkIdx_lt l; omega))

theorem stepSame_refreshLinks : StepSame r (refreshLinks s) := by
  refine stepSame_foldl h fun t l ht => ?_
  unfold refreshLink
  refine stepSame_ite ht ?_
  extract_lets -lift -merge -underBinder st s1 s2
  have h1 : StepSame r s1 :=
    stepSame_ite (stepSame_leaveUp ht l) (stepSame_ite (stepSame_fenceAcc ht l) ht)
  exact stepSame_ite (stepSame_ite ht (stepSame_setLinkState (stepSame_rest h1) l 0))
    (stepSame_ite (stepSame_ite (stepSame_setLinkState ht l 5) (stepSame_setLinkState ht l 1)) ht)

/-! ### Swatches: what starting, ending and aborting one does (R356 to R362) -/

theorem stepSame_setLevel (n level : Nat) : StepSame r (setLevel s n level) := stepSame_ite h (stepSame_err (stepSame_rest h))

theorem stepSame_passLevel (n : Nat) : StepSame r (passLevel s n) := by
  have hk : ∀ level f, StepSame r (setLevel (modKept s n f) n level) := fun _ _ => stepSame_setLevel (stepSame_rest h) _ _
  exact stepSame_ite h (stepSame_ite (hk _ _) (stepSame_ite (hk _ _) h))

theorem stepSame_finishSwatch (n result failBits : Nat) (keep : Bool) : StepSame r (finishSwatch s n result failBits keep) := by
  unfold finishSwatch
  extract_lets -lift -merge -underBinder u ms s1 src s2 ended kept passed counted noted failed s4 s5
  have hended : StepSame r ended := stepSame_bump (s := s2) (stepSame_rest h) (offStatus_fld (by decide)) (offStatus_fld (by decide))
  clear_value ended
  have hpassed : StepSame r passed := stepSame_rest (stepSame_passLevel (s := kept) (stepSame_rest hended) n)
  clear_value kept passed
  have hcounted : StepSame r counted :=
    stepSame_wr (stepSame_bump hended (offStatus_fld (by decide)) (offStatus_fld (by decide))) (offStatus_fld (by decide))
  have hfailed : StepSame r failed := stepSame_rest hcounted
  clear_value failed
  have h4 : StepSame r s4 :=
    stepSame_ite (stepSame_ite (stepSame_rest hpassed) (stepSame_ite (stepSame_rest hpassed) hpassed))
      (stepSame_ite (stepSame_rest hfailed) hended)
  clear_value s4
  have h5 : StepSame r s5 := stepSame_err h4
  exact stepSame_rest h5

theorem stepSame_assertPerst (slots : Nat) : StepSame r (assertPerst s slots) := by
  unfold assertPerst cutPushes
  have habort : StepSame r (abortSwatches s ((members slots 8).map (128 + ·))) := by
    refine stepSame_foldl h fun t n ht => stepSame_ite ht ?_
    have hn : StepSame r (finishSwatch t n 3 0 true) := stepSame_finishSwatch ht _ _ _ _
    exact stepSame_ite (stepSame_rest hn) hn
  extract_lets -lift -merge -underBinder cut src1 s1 s2 s3 src2 s4
  have h1 : StepSame r s1 := stepSame_rest habort
  have h2 : StepSame r s2 := stepSame_ite (stepSame_wr h1 (offStatus_fld (by decide))) h1
  have h3 : StepSame r s3 := stepSame_wr h2 (offStatus_fld (by decide))
  have h4 : StepSame r s4 := stepSame_rest h3
  exact stepSame_refreshLinks (stepSame_foldl h4 fun t i ht => stepSame_fenceAcc ht i)

theorem stepSame_endSwatch (n result failBits : Nat) (keep : Bool) : StepSame r (endSwatch s n result failBits keep) :=
  stepSame_ite (stepSame_finishSwatch h _ _ _ _) (stepSame_rest (stepSame_finishSwatch h _ _ _ _))

theorem stepSame_tryStart (n : Nat) : StepSame r (tryStart s n) := by
  unfold tryStart startSwatch
  extract_lets -lift -merge -underBinder s1 s2 slot
  have h2 : StepSame r s2 := stepSame_rest (stepSame_ite h (stepSame_assertPerst h _))
  exact stepSame_ite (stepSame_ite h2 (stepSame_ite h2 (stepSame_endSwatch h2 _ _ _ _))) h

/-! ### The operations about a step mark (R32, R192, R358, R362, R446) -/

theorem stepSame_readmitTiles : StepSame r (readmitTiles s) := by
  refine stepSame_foldl h fun t n ht => stepSame_ite ht ?_
  extract_lets -lift -merge -underBinder failed s1 s2
  have h2 : StepSame r s2 := stepSame_rest ht
  exact stepSame_rest (stepSame_ite (stepSame_setLevel h2 _ _) h2)

theorem stepSame_fenceForSwatch : StepSame r (fenceForSwatch s) :=
  stepSame_foldl h fun t n ht => stepSame_ite (stepSame_tryStart (stepSame_rest ht) n) ht

theorem stepSame_refreshShares (d : Nat) : StepSame r (refreshShares s d) := by
  unfold refreshShares
  refine stepSame_ite h ?_
  split
  iterate 4 refine stepSame_wr ?_
  exact stepSame_rest h

theorem stepSame_renewQueues : StepSame r (renewQueues s) := by
  unfold renewQueues
  extract_lets -lift -merge -underBinder stays held renewed s1
  have h1 : StepSame r s1 := stepSame_foldl h fun t q ht =>
    onDies_induct ht fun d u _ hu => stepSame_wr hu (offStatus_hfld (by omega))
  exact stepSame_rest h1

theorem stepSame_openPlanned : StepSame r (openPlanned s) := stepSame_foldl h fun _ _ ht => stepSame_ite (stepSame_rest ht) ht

theorem stepSame_sendBoundary (pattern gauge stamp : Nat) : StepSame r (sendBoundary s pattern gauge stamp) :=
  stepSame_foldl h fun _ _ ht => stepSame_ite ht (stepSame_send ht)

theorem stepSame_switchOff {d : Nat} (hd : d < 2) (set : Nat) : StepSame r (switchOff s d set) := by
  unfold switchOff
  extract_lets -lift -merge -underBinder s1 s2
  have h1 : StepSame r s1 := stepSame_wr h (offStatus_fld (by omega))
  have h2 : StepSame r s2 := stepSame_rest h1
  exact stepSame_refreshLinks (stepSame_wr h2 (offStatus_fld (by omega)))

theorem stepSame_boundaryDomains (p : Option Sys2Proof.Pattern) : StepSame r (boundaryDomains s p) := by
  have hone : ∀ t d, d < 2 → ∀ off, StepSame r t → StepSame r (if off = 0 then t else switchOff t d off) :=
    fun t d hd off ht => stepSame_ite ht (stepSame_switchOff ht hd off)
  exact hone _ 1 (by decide) _ (hone _ 0 (by decide) _ h)

theorem stepSame_startExpelled : StepSame r (startExpelled s) :=
  stepSame_foldl h fun _ _ ht => stepSame_ite (stepSame_tryStart ht _) ht

theorem stepSame_lookReady : StepSame r (lookReady s) :=
  stepSame_ite h (stepSame_wr (stepSame_wr h (offStatus_fld (by decide))) (offStatus_fld (by decide)))

end

end Sys2Proof.Proofs
end

section
/-! PROOFS. The step mark and the selection of a pattern (R44 to R46, R93 to R99). -/

namespace Sys2Proof.Proofs
open Sys2Proof.Machine Sys2Proof.Laws

/-! ## What a step mark leaves to the sequencers (R44 to R46, R93) -/

/-- The tracker after a step mark: its phase, correction, hold and stall are cleared, and it begins a step. -/
structure TrackerMarked (c : Cadence) (stamp step : Nat) : Prop where
  lastStamp : c.lastStamp = stamp
  phase : c.phase = 0
  corr : c.corr = 0
  held : c.held = false
  stalled : c.stalled = false
  started : c.started = true
  markStamp : c.markStamp = none
  takes : c.takes = []
  step : c.step = step

/-- From `s` to `m` the trackers have taken the step mark and every pending set is active, with nothing announced any more; nothing has
started yet. -/
structure StepMarked (s m : State) (stamp : Nat) : Prop where
  tracker : TrackerMarked m.cad stamp (nextStep s)
  view : stepView m = { stepView s with msets := (activateSets s).pat.msets, announce := none }
  gt : m.gt = s.gt
  sup : m.sup = s.sup

/-- R94: the sequencers where no pattern may run. -/
def refuseStep (s : State) : State :=
  setSeqAll { s with pat := { s.pat with seqs := [], flights := [], forced := none, takeUpAt := some (s.gt.time + 320) } } 3

/-- R94, R95: the pattern of the step starts, or none. -/
def startStep (s : State) (n : Option Nat) (p : Option Sys2Proof.Pattern) : State := match n, p with
  | some k, some p => startPattern s k p
  | _, _ => refuseStep s

theorem startStep_some (s : State) (n : Nat) (p : Sys2Proof.Pattern) : startStep s (some n) (some p) = startPattern s n p := rfl

theorem startStep_none (s : State) : startStep s none none = refuseStep s := rfl

/-- One more step mark is counted (R359). -/
def countMark (s : State) : State := { s with sdc := { s.sdc with marks := s.sdc.marks + 1 } }

/-- From `s` to `t` a step has begun: the step mark was taken, the pattern `p` numbered `n` started or the sequencers entered REFUSED, the step
mark was counted, and what followed left all this as it was. -/
structure StepBegun (s : State) (n : Option Nat) (p : Option Sys2Proof.Pattern) (stamp : Nat) (t : State) : Prop where
  marked : ∃ m, StepMarked s m stamp ∧ t.cad = m.cad ∧ StepSame (countMark (startStep m n p)) t

theorem mark_trackerMarked (c : Cadence) (stamp nominal : Nat) (changed forced : Bool) :
    TrackerMarked (c.mark stamp nominal changed forced).1 stamp ((c.step + 1) % 2 ^ 48) :=
  ⟨rfl, rfl, rfl, rfl, rfl, rfl, rfl, rfl, rfl⟩

/-- What changes beside the tracker's own fields leaves the step mark taken. -/
theorem TrackerMarked.withAccAtStart {c : Cadence} {stamp step : Nat} (h : TrackerMarked c stamp step) (acc : Nat) :
    TrackerMarked { c with accAtStart := acc } stamp step := by
  obtain ⟨h1, h2, h3, h4, h5, h6, h7, h8, h9⟩ := h
  exact ⟨h1, h2, h3, h4, h5, h6, h7, h8, h9⟩

/-- R45: the tracker takes the master's number for the step. -/
theorem TrackerMarked.renumber {c : Cadence} {stamp step : Nat} (h : TrackerMarked c stamp step) (k : Nat) :
    TrackerMarked { c with step := k, renumbered := true } stamp k := by
  obtain ⟨h1, h2, h3, h4, h5, h6, h7, h8, -⟩ := h
  exact ⟨h1, h2, h3, h4, h5, h6, h7, h8, rfl⟩

/-- R46: the hub's tracker takes the step mark. -/
theorem markTrackers_cad (s : State) (stamp nominal : Nat) (changed forced : Bool) :
    (markTrackers s stamp nominal changed forced).cad = (s.cad.mark stamp nominal changed forced).1 := by
  unfold markTrackers
  extract_lets -lift -merge -underBinder late a hub go
  have ha : a.cad = s.cad := onDies_induct (P := fun t => t.cad = s.cad) rfl fun d t _ ht => by
    split
    · exact ht
    · exact ht
  show (a.cad.mark stamp nominal changed forced).1 = _
  rw [ha]

/-- R44, R45: the number of the step that begins, from what a result announced of the master's. -/
theorem nextStep_eq (s : State) :
    nextStep s = (s.pat.announce.map Announce.master).elim ((s.cad.step + 1) % 2 ^ 48) fun m => (m + 1) % 2 ^ 48 := by
  unfold nextStep
  cases s.pat.announce <;> rfl

theorem activateSets_msets_congr {s t : State} (h : t.pat.msets = s.pat.msets) : (activateSets t).pat.msets = (activateSets s).pat.msets := by
  unfold activateSets
  simp only [h]

theorem rd_countMark (s : State) (f : Fld) : (countMark s).rd f = s.rd f := rfl

theorem StepSame.countMark {s t : State} (h : StepSame s t) : StepSame (countMark s) (countMark t) :=
  ⟨congrArg (fun v : StepView => { v with marks := v.marks + 1 }) h.view, h.status⟩

theorem keeps_mono {a m : Nat} {s t : State} (h : Keeps a s t) (hm : a &&& m = a) : Keeps m s t :=
  ⟨h.pending, h.inv, h.otp, fun p hp => h.touch p (testBit_sub hm hp)⟩

/-- Every part but the queue of commands and the trackers. -/
def outsideTracker : Nat := 0x7FFFFE7E

theorem startStep_keeps (s : State) (n : Option Nat) (p : Option Sys2Proof.Pattern) : Keeps outsideTracker s (startStep s n p) := by
  unfold startStep
  split
  · exact startPattern_keeps rfl (keeps_refl _ s)
  · exact setSeqAll_keeps rfl (keeps_pat (keeps_refl _ s) rfl)

theorem applyAnnounce_view (s : State) (a : Announce) : stepView (applyAnnounce s a) = { stepView s with announce := none } := rfl

theorem StepMarked.of_keeps {s a b : State} {stamp : Nat} (h : StepMarked s a stamp) (hk : Keeps 16400 a b) : StepMarked s b stamp := by
  obtain ⟨ht, hv, hg, hs⟩ := h
  exact ⟨by rw [hk.touch .cad rfl]; exact ht,
    (stepView_of_keeps hk).trans hv,
    (hk.touch .gt rfl).trans hg, (hk.touch .sup rfl).trans hs⟩

theorem beginStep_begun (s : State) (n : Option Nat) (stamp : Nat) (forced : Bool) :
    StepBegun s n (n.bind (tfind s.pat.lib)) stamp (beginStep s n stamp forced) := by
  unfold beginStep
  extract_lets -lift -merge -underBinder changed p nominal master a b c d src e
  have hp : n.bind (tfind s.pat.lib) = p := by cases n <;> rfl
  have hnext : nextStep s = master.elim ((s.cad.step + 1) % 2 ^ 48) fun m => (m + 1) % 2 ^ 48 := nextStep_eq s
  have ha : Keeps 388 s a := markTrackers_keeps rfl (keeps_refl _ s)
  have hacad : TrackerMarked a.cad stamp ((s.cad.step + 1) % 2 ^ 48) := by
    rw [markTrackers_cad]
    exact mark_trackerMarked _ _ _ _ _
  rw [hp]
  clear_value p nominal changed a master
  have hb : Keeps 388 s b ∧ TrackerMarked b.cad stamp (nextStep s) := by
    rw [hnext]
    unfold b
    cases master with
    | none => exact ⟨ha, hacad⟩
    | some m =>
      simp only [Option.elim_some]
      split
      next hm => exact ⟨ha, hm ▸ { hacad with step := rfl }⟩
      next => exact ⟨State_wrDies_keeps rfl (keeps_cad ha rfl rfl), by rw [wrDies_cad]; exact hacad.renumber _⟩
  obtain ⟨hb, hbcad⟩ := hb
  clear_value b
  have hbview : stepView b = stepView s := stepView_of_keeps hb
  have hc : Keeps 1412 s c ∧ c.cad = b.cad ∧ stepView c = { stepView s with announce := none } := by
    have hb' : Keeps 1412 s b := keeps_mono hb rfl
    unfold c
    cases hann : b.pat.announce with
    | none =>
      refine ⟨hb', rfl, ?_⟩
      rw [← hbview]
      simp [stepView, hann]
    | some x => exact ⟨applyAnnounce_keeps rfl hb', rfl, (applyAnnounce_view b x).trans (by rw [hbview])⟩
  obtain ⟨hc, hccad, hcview⟩ := hc
  clear_value c
  have he : StepMarked s e stamp := by
    have hact : Keeps 4 (activateSets c) d := showAdmitted_keeps rfl (keeps_refl _ _)
    have hd : Keeps 1412 s d := showAdmitted_keeps rfl (activateSets_keeps rfl hc)
    have hdview : stepView d = { stepView s with msets := (activateSets s).pat.msets, announce := none } := by
      rw [stepView_of_keeps hact, ← activateSets_msets_congr (congrArg StepView.msets hcview)]
      exact congrArg (fun v : StepView => { v with msets := (activateSets c).pat.msets }) hcview
    have hdcad : TrackerMarked d.cad stamp (nextStep s) := by
      rw [hact.touch .cad rfl]
      exact hccad ▸ hbcad
    clear_value d
    exact ⟨hdcad.withAccAtStart _, hdview, hd.touch .gt rfl, hd.touch .sup rfl⟩
  clear_value e
  split
  next m gauge hm =>
  have hmarked : StepMarked s m stamp :=
    he.of_keeps (keeps_of_eq (congrArg Prod.fst hm) (powerStepMark_keeps rfl (keeps_refl _ e)))
  extract_lets -lift -merge -underBinder f g i j src2 k
  have hf : f = startStep m n p := by
    unfold f startStep
    cases n <;> cases p <;> rfl
  clear_value f
  have hfkeeps : Keeps outsideTracker m f := hf ▸ startStep_keeps m n p
  have hj : StepSame f j :=
    stepSame_boundaryDomains (stepSame_sendBoundary (stepSame_openPlanned (stepSame_renewQueues (stepSame_refl f))) _ _ _) p
  have hjkeeps : Keeps outsideTracker m j :=
    boundaryDomains_keeps rfl (sendBoundary_keeps rfl (openPlanned_keeps rfl (renewQueues_keeps rfl hfkeeps)))
  clear_value j
  have hk : StepSame (countMark f) k := stepSame_startExpelled hj.countMark
  have hkkeeps : Keeps outsideTracker m k := startExpelled_keeps rfl (keeps_sdc hjkeeps rfl)
  clear_value k
  rw [hf] at hk
  exact ⟨m, hmarked, (lookReady_keeps rfl (takeMirror_keeps rfl hkkeeps)).touch .cad rfl, stepSame_lookReady (stepSame_rest hk)⟩

/-! ## What has begun, read off the state after it (R94, R95) -/

theorem setSeqAll_status (s : State) (v : Nat) {d : Nat} (hd : s.dieUp d = true) : (setSeqAll s v).rd (R.PAT_STATUS.state d) = v % 2 ^ 4 :=
  rd_wrDies_same v hd (by obtain rfl | rfl := eq_zero_or_one (die_lt_two_of_dieUp hd) <;> decide)

theorem setSeqAll_view (s : State) (v : Nat) : stepView (setSeqAll s v) = stepView s := stepView_of_keeps (wrDies_keeps s _ v)

/-- What the start of a pattern sets, before MEM_SHARE shows the shares. -/
def patternSet (s : State) (n : Nat) (p : Sys2Proof.Pattern) : State :=
  let fresh : Sequencer := { startAt := s.gt.time + 320 }
  { s with
    pat := { s.pat with active := some n, seqs := [(0, fresh), (1, fresh)], flights := [], forced := none,
                        takeUpAt := some (s.gt.time + 320), lateRecorded := [] },
    mem := { s.mem with shares := [(0, p.linkShare, p.poolShare), (1, p.linkShare, p.poolShare)] } }

theorem startPattern_same (s : State) (n : Nat) (p : Sys2Proof.Pattern) : StepSame (setSeqAll (patternSet s n p) 1) (startPattern s n p) :=
  stepSame_refreshShares (stepSame_refreshShares (stepSame_refl _) 0) 1

/-- What every step mark does, whatever starts (R44 to R46, R53, R93). -/
structure StepTaken (s t : State) (stamp : Nat) : Prop where
  tracker : TrackerMarked t.cad stamp (nextStep s)
  marks : t.sdc.marks = s.sdc.marks + 1
  announce : t.pat.announce = none
  flights : t.pat.flights = []
  msets : t.pat.msets = (activateSets s).pat.msets

theorem startStep_view (s : State) (n : Option Nat) (p : Option Sys2Proof.Pattern) :
    (stepView (startStep s n p)).marks = s.sdc.marks ∧ (stepView (startStep s n p)).announce = s.pat.announce ∧
      (stepView (startStep s n p)).flights = 0 ∧ (stepView (startStep s n p)).msets = s.pat.msets := by
  unfold startStep
  split
  · rw [(startPattern_same _ _ _).view, setSeqAll_view]
    exact ⟨rfl, rfl, rfl, rfl⟩
  · rw [refuseStep, setSeqAll_view]
    exact ⟨rfl, rfl, rfl, rfl⟩

section
variable {s t : State} {stamp : Nat}

theorem StepBegun.taken {n : Option Nat} {p : Option Sys2Proof.Pattern} (h : StepBegun s n p stamp t) : StepTaken s t stamp := by
  obtain ⟨m, hm, hcad, hsame⟩ := h
  obtain ⟨hmarks, hannounce, hflights, hmsets⟩ := startStep_view m n p
  have hv := hsame.view
  refine ⟨hcad ▸ hm.tracker, ?_, ?_, ?_, ?_⟩
  · rw [show t.sdc.marks = _ from congrArg StepView.marks hv]
    exact congrArg (· + 1) (hmarks.trans (congrArg StepView.marks hm.view))
  · exact (congrArg StepView.announce hv).trans (hannounce.trans (congrArg StepView.announce hm.view))
  · exact List.eq_nil_of_length_eq_zero ((congrArg StepView.flights hv).trans hflights)
  · exact (congrArg StepView.msets hv).trans (hmsets.trans (congrArg StepView.msets hm.view))

theorem StepMarked.dieUp {m : State} (h : StepMarked s m stamp) (d : Nat) : m.dieUp d = s.dieUp d := by
  unfold State.dieUp
  rw [h.sup]

/-- R94, R95: what the start of pattern `p`, numbered `n`, leaves to its step. -/
structure PatternBegun (s t : State) (n : Nat) (p : Sys2Proof.Pattern) : Prop where
  active : t.pat.active = some n
  forced : t.pat.forced = none
  takeUpAt : t.pat.takeUpAt = some (s.gt.time + 320)
  shares0 : tget t.mem.shares 0 = (p.linkShare, p.poolShare)
  shares1 : tget t.mem.shares 1 = (p.linkShare, p.poolShare)
  status : ∀ d, s.dieUp d = true → t.rd (R.PAT_STATUS.state d) = 1

theorem StepBegun.pattern {n : Nat} {p : Sys2Proof.Pattern} (h : StepBegun s (some n) (some p) stamp t) : PatternBegun s t n p := by
  obtain ⟨m, hm, -, hsame⟩ := h
  have hstart := startPattern_same m n p
  have hv : stepView t = { stepView (patternSet m n p) with marks := m.sdc.marks + 1 } :=
    hsame.view.trans (congrArg (fun v : StepView => { v with marks := v.marks + 1 }) (hstart.view.trans (setSeqAll_view _ _)))
  have hshares : t.mem.shares = [(0, p.linkShare, p.poolShare), (1, p.linkShare, p.poolShare)] := congrArg StepView.shares hv
  refine ⟨congrArg StepView.active hv, congrArg StepView.forced hv, ?_, ?_, ?_, fun d hd => ?_⟩
  · rw [← hm.gt]
    exact congrArg StepView.takeUpAt hv
  · rw [hshares]; rfl
  · rw [hshares]; rfl
  · have hup : (patternSet m n p).dieUp d = true := (hm.dieUp d).trans hd
    rw [hsame.rd_status, rd_countMark, startStep_some]
    exact (hstart.rd_status d).trans (setSeqAll_status _ 1 hup)

/-- R98: the sequencers in REFUSED, with the last pattern still the active one. -/
structure StepRefused (s t : State) : Prop where
  seqs : t.pat.seqs = []
  active : t.pat.active = s.pat.active
  status : ∀ d, s.dieUp d = true → t.rd (R.PAT_STATUS.state d) = 3

theorem StepBegun.refused (h : StepBegun s none none stamp t) : StepRefused s t := by
  obtain ⟨m, hm, -, hsame⟩ := h
  have hv : stepView t = stepView (countMark (refuseStep m)) := hsame.view
  have hactive : t.pat.active = m.pat.active :=
    (congrArg StepView.active hv).trans (congrArg StepView.active (setSeqAll_view _ _))
  refine ⟨(congrArg StepView.seqs hv).trans (congrArg StepView.seqs (setSeqAll_view _ _)),
    hactive.trans (congrArg StepView.active hm.view), fun d hd => ?_⟩
  rw [hsame.rd_status, rd_countMark, startStep_none]
  exact setSeqAll_status _ 3 ((hm.dieUp d).trans hd)

end

/-! ## Up to the choice of the pattern (R95, R96, R98, R358, R362) -/

/-- What precedes the step mark itself leaves all that it settles, the tracker, group time and the supply. -/
structure StepBefore (s t : State) : Prop where
  view : stepView t = stepView s
  cad : t.cad = s.cad
  gt : t.gt = s.gt
  sup : t.sup = s.sup

theorem fenceForSwatch_before (s : State) : StepBefore s (fenceForSwatch (readmitTiles s)) := by
  have hk : Keeps 348929052 s (fenceForSwatch (readmitTiles s)) := fenceForSwatch_keeps rfl (readmitTiles_keeps rfl (keeps_refl _ s))
  exact ⟨(stepSame_fenceForSwatch (stepSame_readmitTiles (stepSame_refl s))).view, hk.touch .cad rfl, hk.touch .gt rfl, hk.touch .sup rfl⟩

theorem latchPattern_before (s : State) (step : Nat) : StepBefore s (latchPattern s step).1 := by
  have hk : Keeps 12845076 s (latchPattern s step).1 := latchPattern_keeps rfl (keeps_refl _ s)
  exact ⟨stepView_of_keeps hk, hk.touch .cad rfl, hk.touch .gt rfl, hk.touch .sup rfl⟩

section
variable {r s t : State}

theorem StepBefore.trans (h : StepBefore r s) (g : StepBefore s t) : StepBefore r t :=
  ⟨g.view.trans h.view, g.cad.trans h.cad, g.gt.trans h.gt, g.sup.trans h.sup⟩

theorem StepBefore.lib (h : StepBefore s t) : t.pat.lib = s.pat.lib := congrArg StepView.lib h.view

theorem StepBefore.nextStep (h : StepBefore s t) : nextStep t = nextStep s := by
  rw [nextStep_eq, nextStep_eq, h.cad, show t.pat.announce = s.pat.announce from congrArg StepView.announce h.view]

theorem StepBefore.begun {u : State} {n : Option Nat} {p : Option Sys2Proof.Pattern} {stamp : Nat} (h : StepBefore s t)
    (g : StepBegun t n p stamp u) : StepBegun s n p stamp u := by
  obtain ⟨m, hm, hcad, hsame⟩ := g
  refine ⟨m, ⟨h.nextStep ▸ hm.tracker, ?_, hm.gt.trans h.gt, hm.sup.trans h.sup⟩, hcad, hsame⟩
  rw [hm.view, h.view, activateSets_msets_congr (congrArg StepView.msets h.view)]

end

/-- The state in which the pattern of a step is looked up, and its number if one may run. -/
def latched (s : State) : State × Option Nat := latchPattern (fenceForSwatch (readmitTiles s)) (nextStep s)

theorem stepMarkEffect_of_due {s : State} {stamp : Nat} (hm : s.cad.markStamp = some stamp) (ht : stamp + 256 ≤ s.gt.time) :
    stepMarkEffect s = beginStep (latched s).1 (latched s).2 stamp false := by
  unfold stepMarkEffect latched
  rw [← (fenceForSwatch_before s).nextStep]
  simp only [hm]
  rw [if_neg (Nat.not_lt.mpr ht)]
  generalize fenceForSwatch (readmitTiles s) = u
  unfold nextStep
  rfl

/-- R44, R94: a step mark that is due begins the step of the pattern latched. -/
theorem stepMarkEffect_begun {s : State} {stamp : Nat} (hm : s.cad.markStamp = some stamp) (ht : stamp + 256 ≤ s.gt.time) :
    StepBegun s (latched s).2 ((latched s).2.bind (tfind s.pat.lib)) stamp (stepMarkEffect s) := by
  have hbefore : StepBefore s (latched s).1 := (fenceForSwatch_before s).trans (latchPattern_before _ _)
  rw [stepMarkEffect_of_due hm ht, ← hbefore.lib]
  exact hbefore.begun (beginStep_begun _ _ _ _)

/-- R99: a forced step mark begins the step of the pattern accepted. -/
theorem forcedStepMark_begun {s : State} {n at_ : Nat} (hf : s.pat.forced = some (n, at_)) (ht : at_ < s.gt.time) :
    StepBegun s (some n) (tfind s.pat.lib n) s.gt.time (forcedStepMark s) := by
  have hbefore := fenceForSwatch_before s
  unfold forcedStepMark
  simp only [hf]
  rw [if_neg (Nat.not_le.mpr ht), ← hbefore.lib]
  generalize fenceForSwatch (readmitTiles s) = u at hbefore
  exact hbefore.begun (beginStep_begun u (some n) _ _)

end Sys2Proof.Proofs
end

section
/-! PROOFS. PAT_NEXT, the pending sets, and what the step marks settle (R93, R95, R97 to R99). -/

namespace Sys2Proof.Proofs
open Sys2Proof.Machine Sys2Proof.Laws

/-! ## The copies of PAT_NEXT (R95, R97) -/

/-- The fields of PAT_NEXT and PAT_NEXT_STEP of one die. -/
def nextFieldsOf (d : Nat) : List Fld := [R.PAT_NEXT.valid d, R.PAT_NEXT.at_step d, R.PAT_NEXT.pattern d, R.PAT_NEXT_STEP.step_lo d]

/-- The fields of PAT_NEXT and PAT_NEXT_STEP of both dies. -/
def nextFields : List Fld :=
  [R.PAT_NEXT.valid 0, R.PAT_NEXT.valid 1, R.PAT_NEXT.at_step 0, R.PAT_NEXT.at_step 1, R.PAT_NEXT.pattern 0, R.PAT_NEXT.pattern 1,
   R.PAT_NEXT_STEP.step_lo 0, R.PAT_NEXT_STEP.step_lo 1]

/-- One die's copy of PAT_NEXT and PAT_NEXT_STEP written. -/
def writeCopy (valid atStep : Bool) (pattern stepLo d : Nat) (s : State) : State :=
  (((s.wr (R.PAT_NEXT.valid d) (b2n valid)).wr (R.PAT_NEXT.at_step d) (b2n atStep)).wr (R.PAT_NEXT.pattern d) pattern).wr
    (R.PAT_NEXT_STEP.step_lo d) stepLo

/-- One die's copy reads as written. -/
structure CopyShows (valid atStep : Bool) (pattern stepLo d : Nat) (s : State) : Prop where
  valid : s.rd (R.PAT_NEXT.valid d) = b2n valid
  atStep : s.rd (R.PAT_NEXT.at_step d) = b2n atStep
  pattern : s.rd (R.PAT_NEXT.pattern d) = pattern
  stepLo : s.rd (R.PAT_NEXT_STEP.step_lo d) = stepLo

/-- The state in which Steward's write of PAT_NEXT has set the copies of the running dies. -/
def copiesWritten (valid atStep : Bool) (pattern stepLo : Nat) (s : State) : State :=
  let a := s.onDies (writeCopy valid atStep pattern stepLo)
  { a with pat := { a.pat with nextAt := a.gt.time } }

theorem writeNext_eq (valid atStep : Bool) (pattern stepLo : Nat) (s : State) :
    writeNext valid atStep pattern stepLo s =
      if valid ∧ (seqMode (copiesWritten valid atStep pattern stepLo s) = 0 ∨ seqMode (copiesWritten valid atStep pattern stepLo s) = 3)
      then acceptPattern (copiesWritten valid atStep pattern stepLo s) (pattern % 256)
      else copiesWritten valid atStep pattern stepLo s := rfl

theorem patNextWrite_steward {s : State} (valid atStep : Bool) (pattern stepLo : Nat) (h : s.anyDieUp = true) :
    patNextWrite .steward valid atStep pattern stepLo s = (writeNext valid atStep pattern stepLo s).answer .ok 0 0 := by
  unfold patNextWrite
  rw [if_neg (by simp [h]), if_neg (by decide)]

theorem nextField_ne {d e : Nat} (hd : d < 2) (he : e < 2) (hne : e ≠ d) : ∀ f ∈ nextFieldsOf d, f.key ∉ (nextFieldsOf e).map Fld.key := by
  obtain rfl | rfl := eq_zero_or_one hd <;> obtain rfl | rfl := eq_zero_or_one he
  · exact absurd rfl hne
  · decide
  · decide
  · exact absurd rfl hne

theorem writeCopy_regs (valid atStep : Bool) (pattern stepLo d : Nat) (s : State) :
    RegsBut (nextFieldsOf d) s (writeCopy valid atStep pattern stepLo d s) := by
  unfold writeCopy
  iterate 4 refine regsBut_wr _ _ ?_ (by simp [nextFieldsOf])
  exact regsBut_refl _ s

/-- Two fields of one die's block at different places. -/
theorem hfld_key_ne {d off lo w rst off' lo' w' rst' : Nat} (h : off * 32 + lo ≠ off' * 32 + lo') :
    (R.hfld d off lo w rst).key ≠ (R.hfld d off' lo' w' rst').key := by
  unfold R.hfld
  simp only
  omega

theorem b2n_lt (b : Bool) : b2n b < 2 ^ 1 := by cases b <;> decide

theorem writeCopy_shows (valid atStep : Bool) {pattern stepLo : Nat} (d : Nat) (hp : pattern < 256) (hs : stepLo < 2 ^ 32) (s : State) :
    CopyShows valid atStep pattern stepLo d (writeCopy valid atStep pattern stepLo d s) where
  stepLo := (rd_wr_same _ _ _).trans (Nat.mod_eq_of_lt hs)
  pattern := (rd_wr_other _ _ _ _ (hfld_key_ne (by decide))).trans ((rd_wr_same _ _ _).trans (Nat.mod_eq_of_lt hp))
  atStep := (rd_wr_other _ _ _ _ (hfld_key_ne (by decide))).trans ((rd_wr_other _ _ _ _ (hfld_key_ne (by decide))).trans
    ((rd_wr_same _ _ _).trans (Nat.mod_eq_of_lt (b2n_lt atStep))))
  valid := (rd_wr_other _ _ _ _ (hfld_key_ne (by decide))).trans ((rd_wr_other _ _ _ _ (hfld_key_ne (by decide))).trans
    ((rd_wr_other _ _ _ _ (hfld_key_ne (by decide))).trans ((rd_wr_same _ _ _).trans (Nat.mod_eq_of_lt (b2n_lt valid)))))

/-- What leaves a die's copy leaves what it shows. -/
theorem CopyShows.of_regsBut {valid atStep : Bool} {pattern stepLo d : Nat} {ks : List Fld} {s t : State}
    (h : CopyShows valid atStep pattern stepLo d s) (hb : RegsBut ks s t) (hk : ∀ f ∈ nextFieldsOf d, f.key ∉ ks.map Fld.key) :
    CopyShows valid atStep pattern stepLo d t where
  valid := (rd_regsBut hb _ (hk _ (by simp [nextFieldsOf]))).trans h.valid
  atStep := (rd_regsBut hb _ (hk _ (by simp [nextFieldsOf]))).trans h.atStep
  pattern := (rd_regsBut hb _ (hk _ (by simp [nextFieldsOf]))).trans h.pattern
  stepLo := (rd_regsBut hb _ (hk _ (by simp [nextFieldsOf]))).trans h.stepLo

section
variable {valid atStep : Bool} {pattern stepLo : Nat} {s : State}

theorem writeCopies_keeps : Keeps 4 s (s.onDies (writeCopy valid atStep pattern stepLo)) := by
  refine State_onDies_keeps rfl (keeps_refl _ s) fun d t ht => ?_
  unfold writeCopy
  iterate 4 refine State_wr_keeps rfl ?_
  exact ht

theorem copiesWritten_keeps : Keeps 1028 s (copiesWritten valid atStep pattern stepLo s) :=
  keeps_pat (keeps_mono writeCopies_keeps rfl) rfl

theorem copiesWritten_pat : (copiesWritten valid atStep pattern stepLo s).pat = { s.pat with nextAt := s.gt.time } := by
  have hpat : (s.onDies (writeCopy valid atStep pattern stepLo)).pat = s.pat := writeCopies_keeps.touch .pat rfl
  have hgt : (s.onDies (writeCopy valid atStep pattern stepLo)).gt = s.gt := writeCopies_keeps.touch .gt rfl
  unfold copiesWritten
  simp only [hpat, hgt]

theorem copiesWritten_regs : RegsBut nextFields s (copiesWritten valid atStep pattern stepLo s) := by
  refine regsBut_regs (onDies_induct (regsBut_refl _ s) fun d t hd ht => ?_) rfl
  refine regsBut_trans ht (regsBut_mono (writeCopy_regs _ _ _ _ _ t) ?_)
  obtain rfl | rfl := eq_zero_or_one hd <;> decide

theorem copiesWritten_shows {d : Nat} (hd : s.dieUp d = true) (hp : pattern < 256) (hs : stepLo < 2 ^ 32) :
    CopyShows valid atStep pattern stepLo d (copiesWritten valid atStep pattern stepLo s) := by
  have hlt := die_lt_two_of_dieUp hd
  have hon : CopyShows valid atStep pattern stepLo d (s.onDies (writeCopy valid atStep pattern stepLo)) :=
    onDies_of_dieUp hd (fun _ => rfl) (writeCopy_shows valid atStep d hp hs) fun t ht =>
      ht.of_regsBut (writeCopy_regs _ _ _ _ _ t) (nextField_ne hlt (by omega) (by omega))
  exact hon.of_regsBut (ks := []) (fun _ _ => rfl) (by simp)

end

/-! ## The acceptance of a pattern (R98, R99) -/

theorem leadDie_lt (s : State) : leadDie s < 2 := by
  unfold leadDie
  split <;> decide

/-- The leading sequencer's state rests on the supply and PAT_STATUS.state. -/
theorem seqMode_congr {s t : State} (hs : t.sup = s.sup) (hr : ∀ d < 2, t.rd (R.PAT_STATUS.state d) = s.rd (R.PAT_STATUS.state d)) :
    seqMode t = seqMode s := by
  have hup : ∀ d, t.dieUp d = s.dieUp d := fun d => by rw [State.dieUp, hs, State.dieUp]
  have hlead : leadDie t = leadDie s := by rw [leadDie, hup, leadDie]
  unfold seqMode
  simp only [hlead, hup, hr 0 (by decide), hr 1 (by decide), hr _ (leadDie_lt s)]

theorem seqMode_copiesWritten (s : State) (valid atStep : Bool) (pattern stepLo : Nat) :
    seqMode (copiesWritten valid atStep pattern stepLo s) = seqMode s :=
  seqMode_congr (copiesWritten_keeps.touch .sup rfl) fun d hd => rd_regsBut copiesWritten_regs _ (by
    obtain rfl | rfl := eq_zero_or_one hd <;> decide)

/-- R98: what refuses a pattern on a die is no part of PAT_NEXT. -/
theorem dieRefuses_congr {s t : State} (p : Sys2Proof.Pattern) {d : Nat} (hd : d < 2) (hm : t.mem = s.mem) (hs : t.sup = s.sup)
    (hr : RegsBut nextFields s t) : dieRefuses t p d = dieRefuses s p d := by
  have hup : t.dieUp d = s.dieUp d := by rw [State.dieUp, hs, State.dieUp]
  have hon : t.rd (R.PWR_DOMAIN_H.on d) = s.rd (R.PWR_DOMAIN_H.on d) := rd_regsBut hr _ (by
    obtain rfl | rfl := eq_zero_or_one hd <;> decide)
  have hkiln : kilnActive t d = kilnActive s d := by
    unfold kilnActive State.on
    rw [rd_regsBut hr _ (by split <;> decide)]
  unfold dieRefuses
  rw [hm, hon, hkiln, hup]

theorem refused_congr {s t : State} (n : Nat) (hl : t.pat.lib = s.pat.lib) (hm : t.mem = s.mem) (hs : t.sup = s.sup)
    (hr : RegsBut nextFields s t) : refused t n = refused s n := by
  unfold refused
  rw [hl]
  split
  · rfl
  · rw [dieRefuses_congr _ (by decide) hm hs hr, dieRefuses_congr _ (by decide) hm hs hr]

theorem clearNext_keeps_regs (s : State) : Keeps 4 s (clearNext s) := wrDies_keeps s _ _

theorem clearNext_regs (s : State) : RegsBut [R.PAT_NEXT.valid 0, R.PAT_NEXT.valid 1] s (clearNext s) :=
  onDies_induct (regsBut_refl _ s) fun d t hd ht => regsBut_wr _ _ ht (by obtain rfl | rfl := eq_zero_or_one hd <;> decide)

theorem acceptPattern_of_allowed {s : State} {n : Nat} (h : refused s n = false) :
    acceptPattern s n = { clearNext s with pat := { s.pat with forced := some (n, s.gt.time) } } := by
  have hpat : (clearNext s).pat = s.pat := (clearNext_keeps_regs s).touch .pat rfl
  have hgt : (clearNext s).gt = s.gt := (clearNext_keeps_regs s).touch .gt rfl
  have hn : refused (clearNext s) n = false := by
    rw [refused_congr n (congrArg PatState.lib hpat) ((clearNext_keeps_regs s).touch .mem rfl) ((clearNext_keeps_regs s).touch .sup rfl)
      (regsBut_mono (clearNext_regs s) (by decide)), h]
  unfold acceptPattern
  simp only [hn, hpat, hgt]
  rfl

/-- R95, R99: the copies once their selection has been taken. -/
theorem clearedCopies_show {s : State} {atStep : Bool} {pattern stepLo : Nat} (hp : pattern < 256) (hs : stepLo < 2 ^ 32) :
    (clearNext (copiesWritten true atStep pattern stepLo s)).out = s.out ∧
      ∀ d, s.dieUp d = true → (clearNext (copiesWritten true atStep pattern stepLo s)).rd (R.PAT_NEXT.valid d) = 0 ∧
        (clearNext (copiesWritten true atStep pattern stepLo s)).rd (R.PAT_NEXT.pattern d) = pattern := by
  refine ⟨(wrDies_out _ _ _).trans (copiesWritten_keeps.touch .out rfl), fun d hd => ?_⟩
  have hsup : (copiesWritten true atStep pattern stepLo s).sup = s.sup := copiesWritten_keeps.touch .sup rfl
  have hpattern := (copiesWritten_shows (valid := true) (atStep := atStep) hd hp hs).pattern
  generalize copiesWritten true atStep pattern stepLo s = c at hsup hpattern
  have hup : c.dieUp d = true := by rw [State.dieUp, hsup]; exact hd
  obtain rfl | rfl := eq_zero_or_one (die_lt_two_of_dieUp hd)
  · exact ⟨rd_wrDies_same 0 hup (by decide), (rd_regsBut (clearNext_regs c) _ (by decide)).trans hpattern⟩
  · exact ⟨rd_wrDies_same 0 hup (by decide), (rd_regsBut (clearNext_regs c) _ (by decide)).trans hpattern⟩

/-- R95, R99: where the sequencers wait, a valid selection that is not refused is accepted. -/
theorem writeNext_of_accepted {s : State} {atStep : Bool} {pattern stepLo : Nat} (hm : seqMode s = 0 ∨ seqMode s = 3)
    (hp : pattern < 256) (hr : refused s pattern = false) :
    writeNext true atStep pattern stepLo s =
      { clearNext (copiesWritten true atStep pattern stepLo s) with
        pat := { s.pat with nextAt := s.gt.time, forced := some (pattern, s.gt.time) } } := by
  have hk : Keeps 1028 s (copiesWritten true atStep pattern stepLo s) := copiesWritten_keeps
  have hgt : (copiesWritten true atStep pattern stepLo s).gt = s.gt := hk.touch .gt rfl
  have hlib : (copiesWritten true atStep pattern stepLo s).pat.lib = s.pat.lib := by rw [copiesWritten_pat]
  have hrefused : refused (copiesWritten true atStep pattern stepLo s) pattern = false := by
    rw [refused_congr pattern hlib (hk.touch .mem rfl) (hk.touch .sup rfl) copiesWritten_regs, hr]
  rw [writeNext_eq, seqMode_copiesWritten, if_pos ⟨rfl, hm⟩, Nat.mod_eq_of_lt hp, acceptPattern_of_allowed hrefused, copiesWritten_pat, hgt]

theorem writeNext_of_notAccepted {s : State} {valid atStep : Bool} {pattern stepLo : Nat}
    (h : valid = false ∨ (seqMode s ≠ 0 ∧ seqMode s ≠ 3)) :
    writeNext valid atStep pattern stepLo s = copiesWritten valid atStep pattern stepLo s := by
  rw [writeNext_eq, seqMode_copiesWritten]
  refine if_neg ?_
  rintro ⟨hv, h0 | h3⟩
  · exact h.elim (by simp [hv]) fun hn => hn.1 h0
  · exact h.elim (by simp [hv]) fun hn => hn.2 h3

/-- Settles O9: a step mark that takes effect begins a step, of which the state then tells; Steward's writes are read off the copies. -/
theorem stepMarkCommands : Obligations.StepMarkCommands := by
  unfold Obligations.StepMarkCommands
  refine ⟨fun s stamp n p hm ht hn hp => (does_iff rfl).mpr ?starts, fun s stamp hm ht hn => (does_iff rfl).mpr ?refused,
    fun s valid atStep pattern stepLo hup hmode hp hs => (does_iff rfl).mpr ?writes,
    fun s atStep pattern stepLo hup hmode hp hs hr => (does_iff rfl).mpr ?accepts,
    fun s n at_ p hf ht hp => (does_iff rfl).mpr ?forced, fun s set bitmap hup hset => (does_iff rfl).mpr ?pending⟩
  case starts =>
    have hbegun := stepMarkEffect_begun hm ht
    rw [show (latched s).2 = some n from hn, Option.bind_some, hp] at hbegun
    obtain ⟨⟨h1, h2, h3, h4, h5, h6, h7, h8, h9⟩, hmarks, hannounce, hflights, hmsets⟩ := hbegun.taken
    obtain ⟨hactive, hforced, htake, hshares0, hshares1, hstatus⟩ := hbegun.pattern
    exact ⟨h1, h2, h3, h4, h5, h6, h7, h8, hmarks, hannounce, hflights, hmsets, h9, hactive, hforced, htake, hshares0, hshares1, hstatus⟩
  case refused =>
    have hbegun := stepMarkEffect_begun hm ht
    rw [show (latched s).2 = none from hn, Option.bind_none] at hbegun
    obtain ⟨⟨h1, h2, h3, h4, h5, h6, h7, h8, h9⟩, hmarks, hannounce, hflights, hmsets⟩ := hbegun.taken
    obtain ⟨hseqs, hactive, hstatus⟩ := hbegun.refused
    exact ⟨h1, h2, h3, h4, h5, h6, h7, h8, hmarks, hannounce, hflights, hmsets, h9, hseqs, hactive, hstatus⟩
  case writes =>
    have hout : (copiesWritten valid atStep pattern stepLo s).out = s.out := copiesWritten_keeps.touch .out rfl
    have hregs : RegsBut nextFields s (copiesWritten valid atStep pattern stepLo s) := copiesWritten_regs
    have hshow := fun d hd => copiesWritten_shows (valid := valid) (atStep := atStep) (s := s) (d := d) hd hp hs
    have hpat : (copiesWritten valid atStep pattern stepLo s).pat = { s.pat with nextAt := s.gt.time } := copiesWritten_pat
    rw [patNextWrite_steward _ _ _ _ hup, writeNext_of_notAccepted hmode]
    generalize copiesWritten valid atStep pattern stepLo s = c at hout hregs hshow hpat
    refine ⟨hpat, by rw [answer_out, hout], fun d hd => ?_, hregs⟩
    obtain ⟨hvalid, hat, hpattern, hstep⟩ := hshow d hd
    exact ⟨hvalid, hat, hpattern, hstep⟩
  case accepts =>
    have hcleared := clearedCopies_show (s := s) (atStep := atStep) hp hs
    rw [patNextWrite_steward _ _ _ _ hup, writeNext_of_accepted hmode hp hr]
    generalize clearNext (copiesWritten true atStep pattern stepLo s) = c at hcleared
    obtain ⟨hout, hshow⟩ := hcleared
    exact ⟨rfl, by rw [answer_out, ← hout], hshow⟩
  case forced =>
    have hbegun := forcedStepMark_begun hf ht
    rw [hp] at hbegun
    obtain ⟨⟨h1, h2, h3, h4, h5, h6, h7, h8, h9⟩, hmarks, hannounce, hflights, hmsets⟩ := hbegun.taken
    obtain ⟨hactive, hforced, htake, -, -, hstatus⟩ := hbegun.pattern
    exact ⟨h1, h2, h3, h4, h5, h6, h7, h8, hmarks, hannounce, hflights, hmsets, h9, hactive, hforced, htake, hstatus⟩
  case pending =>
    unfold msetPendingWrite
    rw [if_neg (by simp [hup]), if_neg (by decide), if_neg (Nat.not_le.mpr hset)]

end Sys2Proof.Proofs
end

section
/-! PROOFS. The FENCE rows of both dies that complete together, and the number that PAT_FENCE shows of them (R84). -/

namespace Sys2Proof.Proofs
open Sys2Proof.Machine Sys2Proof.Laws

/-! ## One FENCE row completes -/

theorem fenceDone_seq_other (s : State) {d e : Nat} (f : FenceRow) (h : d ≠ e) :
    tget (fenceDone s d f).pat.seqs e = tget s.pat.seqs e := by
  simp [fenceDone, rowDone, modSeq, tget_tmod_other _ _ h]

theorem fenceDone_done (s : State) (d : Nat) (f : FenceRow) : (tget (fenceDone s d f).pat.seqs d).done.testBit f.row = true := by
  simp [fenceDone, rowDone, modSeq]

theorem waitingFences_fenceDone_other (s : State) {d e : Nat} (f : FenceRow) (h : d ≠ e) :
    waitingFences (fenceDone s d f) e = waitingFences s e := by
  rw [waitingFences, fenceDone_seq_other s f h, waitingFences]

/-- A die's only FENCE row that has triggered waits no longer. -/
theorem waitingFences_fenceDone_single {s : State} {d : Nat} {f : FenceRow} (h : (tget s.pat.seqs d).fences = [f]) :
    waitingFences (fenceDone s d f) d = [] := by
  simp [waitingFences, fenceDone, rowDone, modSeq, h]

/-- R84: PAT_FENCE.last_met has 16 bits. -/
theorem rd_lastMet_fenceDone (s : State) (d : Nat) (f : FenceRow) :
    (fenceDone s d f).rd (R.PAT_FENCE.last_met d) = f.number % 2 ^ 16 := by
  rw [fenceDone, rd_wr_same]
  rfl

theorem regsBut_fenceDone {ks : List Fld} {s t : State} {d : Nat} (f : FenceRow) (h : RegsBut ks s t)
    (hd : (R.PAT_FENCE.last_met d).key ∈ ks.map Fld.key) : RegsBut ks s (fenceDone t d f) :=
  regsBut_wr _ _ (regsBut_regs h rfl) hd

/-! ## The FENCE rows of both dies -/

/-- What the FENCE rows at `i` of H0 and `j` of H1, of number `n` and the only ones that wait, leave as they complete. -/
structure FencePairDone (i j n : Nat) (s t : State) : Prop where
  done0 : (tget t.pat.seqs 0).done.testBit i = true
  done1 : (tget t.pat.seqs 1).done.testBit j = true
  waiting0 : waitingFences t 0 = []
  waiting1 : waitingFences t 1 = []
  met0 : t.rd (R.PAT_FENCE.last_met 0) = n % 2 ^ 16
  met1 : t.rd (R.PAT_FENCE.last_met 1) = n % 2 ^ 16
  regs : RegsBut [R.PAT_FENCE.last_met 0, R.PAT_FENCE.last_met 1] s t

theorem fenceDone_both {s : State} {f g : FenceRow} (hf : (tget s.pat.seqs 0).fences = [f]) (hg : (tget s.pat.seqs 1).fences = [g])
    (hn : g.number = f.number) : FencePairDone f.row g.row f.number s (fenceDone (fenceDone s 0 f) 1 g) where
  done0 := by rw [fenceDone_seq_other _ _ (by decide), fenceDone_done]
  done1 := fenceDone_done _ 1 g
  waiting0 := by rw [waitingFences_fenceDone_other _ _ (by decide), waitingFences_fenceDone_single hf]
  waiting1 := waitingFences_fenceDone_single (by rw [fenceDone_seq_other _ _ (by decide), hg])
  met0 := by
    have hkey : (R.PAT_FENCE.last_met 1).key ≠ (R.PAT_FENCE.last_met 0).key := by decide
    rw [← rd_lastMet_fenceDone s 0 f]
    exact rd_wr_other _ _ _ _ hkey
  met1 := by rw [rd_lastMet_fenceDone, hn]
  regs := regsBut_fenceDone g (regsBut_fenceDone f (regsBut_refl _ s) (by simp)) (by simp)

/-- A die's only FENCE row has met the one of its number on the other die once 64 ns have passed since the later of the two. -/
theorem fencesMet_of_pair {s : State} {p : Sys2Proof.Pattern} {d i j n a b : Nat} {w : List Nat}
    (hd : (tget s.pat.seqs d).fences = [{ row := i, number := n, at_ := a }])
    (he : (tget s.pat.seqs (1 - d)).fences = [{ row := j, number := n, at_ := b }])
    (hp : fencePartner p d i = some (w, j)) (ht : max a b + 64 ≤ s.gt.time) :
    fencesMet s p d = [{ row := i, number := n, at_ := a }] := by
  simp [fencesMet, waitingFences, hd, he, hp, ht]

/-- R84: the FENCE rows of both dies complete together, and PAT_FENCE shows the low 16 bits of the number that they wait with. -/
theorem fenceComplete_of_pair {s : State} {p : Sys2Proof.Pattern} {i j n a b : Nat} {w0 w1 : List Nat}
    (h0 : (tget s.pat.seqs 0).fences = [{ row := i, number := n, at_ := a }])
    (h1 : (tget s.pat.seqs 1).fences = [{ row := j, number := n, at_ := b }]) (hp : s.activePattern = some p)
    (ht : max a b + 64 ≤ s.gt.time) (hw1 : fencePartner p 0 i = some (w1, j)) (hw0 : fencePartner p 1 j = some (w0, i)) :
    FencePairDone i j n s (fenceComplete s) := by
  have hmet0 := fencesMet_of_pair h0 h1 hw1 ht
  have hmet1 := fencesMet_of_pair h1 h0 hw0 (by rwa [Nat.max_comm])
  have hboth := fenceDone_both h0 h1 rfl
  simpa only [fenceComplete, hp, hmet0, hmet1, List.foldl_cons, List.foldl_nil] using hboth

/-! ## A number that the field cannot show -/

/-- A pattern with one FENCE row on each die. -/
def fencePattern : Sys2Proof.Pattern := { rows0 := [[9]], rows1 := [[9]] }

/-- Both dies' FENCE rows have waited 64 ns, with the number 2^16: no row of sixteen words gives it, but the state can hold it. -/
def wideFences : State :=
  { pat := { active := some 0, lib := [(0, fencePattern)],
             seqs := [(0, { fences := [{ row := 0, number := 2 ^ 16, at_ := 0 }] }), (1, { fences := [{ row := 0, number := 2 ^ 16, at_ := 0 }] })] }
    gt := { time := 64 } }

/-- Refutes O11: its clause of the FENCE rows leaves their number unbounded, and in `wideFences` PAT_FENCE.last_met, of 16 bits, shows 0 for
2^16. Below 2^16 the clause is `fenceComplete_of_pair`. -/
theorem not_rowsTriggerAndComplete : ¬ Obligations.RowsTriggerAndComplete := by
  unfold Obligations.RowsTriggerAndComplete
  intro ⟨_, _, _, _, fences, _⟩
  obtain ⟨_, _, _, _, hclaimed, _⟩ :=
    (does_iff rfl).mp (fences wideFences 0 0 (2 ^ 16) 0 0 fencePattern [9] [9] rfl rfl rfl (by decide) rfl rfl)
  have hshown := (fenceComplete_of_pair (s := wideFences) (p := fencePattern) rfl rfl rfl (by decide) rfl rfl).met0
  exact absurd (hclaimed.symm.trans hshown) (by decide)

end Sys2Proof.Proofs
end

section
/-! PROOFS. What a link's flits change of it, and what of the links the operations about traffic leave (R202 to R207, R216). -/

namespace Sys2Proof.Proofs
open Sys2Proof.Machine Sys2Proof.Laws

/-! ## One flit (R203, R207) -/

/-- What of a link no flit that it sends changes: its entries to DOWN, and what it has received. -/
structure LinkView where
  downs : List Nat
  rxSeq : Nat
  nakSent : Bool
  lastFlit : Nat

abbrev linkView (k : Link) : LinkView where
  downs := k.downs
  rxSeq := k.rxSeq
  nakSent := k.nakSent
  lastFlit := k.lastFlit

theorem foldl_emit (l : List Out) (s : State) : l.foldl (fun s o => s.emit o) s = { s with out := l.reverse ++ s.out } := by
  induction l generalizing s with
  | nil => rfl
  | cons o l ih => rw [List.foldl_cons, ih, List.reverse_cons, List.append_assoc]; rfl

/-- A packet that has not begun to leave is left as it stands, or begins. -/
theorem mem_takeWords {n : Nat} {l : List TxPacket} {p : TxPacket} (hp : p ∈ l) (hb : p.begun = false) :
    p ∈ (takeWords n l).2.2 ∨ p.out ∈ (takeWords n l).2.1 := by
  induction l generalizing n with
  | nil => exact absurd hp List.not_mem_nil
  | cons q l ih =>
    unfold takeWords
    by_cases hn : n = 0
    · rw [if_pos hn]
      exact .inl hp
    · rw [if_neg hn]
      extract_lets begins x
      rcases List.mem_cons.mp hp with rfl | hl
      · have hbegins : p.out ∈ begins := by simp [begins, hb]
        split
        · exact .inr (List.mem_append_left _ hbegins)
        · exact .inr hbegins
      · split
        · exact (ih hl).imp id (List.mem_append_right begins)
        · exact .inl (List.mem_cons_of_mem _ hl)

/-- What a sequenced flit formed at `now` makes of its link, `new` being what it sends. On channel 0 packets take turns (R120). -/
structure FlitFormed (now : Nat) (new : List Out) (k k' : Link) : Prop where
  view : linkView k' = linkView k
  store : ∃ f : StoredFlit, f.seq = k.txSeq ∧ k'.store = k.store ++ [f]
  txSeq : k'.txSeq = (k.txSeq + 1) % 4096
  lastSent : k'.lastSent = now
  queue : ∀ c p, c ≠ 0 → p ∈ tget k.queue c → p.begun = false → p ∈ tget k'.queue c ∨ p.out ∈ new

theorem formFlit_formed {s t : State} {l : Nat} {zero : Bool} (h : formFlit s l zero = some t) :
    ∃ k' new, FlitFormed s.now new (tget s.lnk.links l) k' ∧ new ≠ [] ∧ t = { s.modLink l fun _ => k' with out := new ++ s.out } := by
  unfold formFlit at h
  extract_lets -lift -merge -underBinder k ch due c vc q x f k' s1 at h
  split at h
  · cases h
  · obtain ⟨o, ho⟩ : ∃ o, s1 = (s.modLink l fun _ => k').emit o := ⟨_, rfl⟩
    have hqueue : ∀ c' p, c' ≠ 0 → p ∈ tget k.queue c' → p.begun = false → p ∈ tget k'.queue c' ∨ p.out ∈ x.2.1 := by
      intro c' p hc hp hb
      by_cases hch : ch.isSome = true
      · have hk : k'.queue = tput k.queue vc x.2.2 := if_pos hch
        by_cases hvc : vc = c'
        · subst hvc
          have hx : x = takeWords 47 (tget k.queue vc) := (if_pos hch).trans (by simp [q, hc])
          rw [hk, tget_tput_same, hx]
          exact mem_takeWords hp hb
        · exact .inl (by rwa [hk, tget_tput_other _ _ hvc])
      · have hk : k'.queue = k.queue := if_neg hch
        exact .inl (by rwa [hk])
    cases h
    rw [foldl_emit, ho]
    refine ⟨k', (c.2.1 ++ x.2.1).reverse ++ [o], ⟨rfl, ⟨f, rfl, rfl⟩, rfl, rfl, fun c' p hc hp hb => ?_⟩, by simp, ?_⟩
    · exact (hqueue c' p hc hp hb).imp id fun h => by simp [h]
    · simp [State.emit]

/-! ## The flits of a link that sends what waits (R204, R207) -/

/-- What sending on link `l` does: no other link changes, flits join its replay store, and a packet that has not begun to leave stays in its
queue or begins. -/
structure SentOn (l : Nat) (s t : State) : Prop where
  other : ∀ j, j ≠ l → tget t.lnk.links j = tget s.lnk.links j
  modules : t.lnk.modules = s.lnk.modules
  view : linkView (tget t.lnk.links l) = linkView (tget s.lnk.links l)
  store : (tget s.lnk.links l).store <+: (tget t.lnk.links l).store
  out : ∃ new, t.out = new ++ s.out ∧ ∀ c p, c ≠ 0 → p ∈ tget (tget s.lnk.links l).queue c → p.begun = false →
    p ∈ tget (tget t.lnk.links l).queue c ∨ p.out ∈ new

theorem sentOn_refl (l : Nat) (s : State) : SentOn l s s :=
  ⟨fun _ _ => rfl, rfl, rfl, ⟨[], List.append_nil _⟩, [], rfl, fun _ _ _ hp _ => .inl hp⟩

theorem SentOn.trans {l : Nat} {r s t : State} (h : SentOn l r s) (g : SentOn l s t) : SentOn l r t where
  other j hj := (g.other j hj).trans (h.other j hj)
  modules := g.modules.trans h.modules
  view := g.view.trans h.view
  store := h.store.trans g.store
  out := by
    obtain ⟨new, hnew, hq⟩ := h.out
    obtain ⟨new', hnew', hq'⟩ := g.out
    refine ⟨new' ++ new, by rw [hnew', hnew, List.append_assoc], fun c p hc hp hb => ?_⟩
    rcases hq c p hc hp hb with hs | hout
    · exact (hq' c p hc hs hb).imp id (List.mem_append_left _)
    · exact .inr (List.mem_append_right _ hout)

theorem sentOn_formFlit {s t : State} {l : Nat} {zero : Bool} (h : formFlit s l zero = some t) : SentOn l s t := by
  obtain ⟨k', new, hf, -, rfl⟩ := formFlit_formed h
  obtain ⟨f, -, hstore⟩ := hf.store
  refine ⟨fun j hj => by simp [tget_tmod_other _ _ hj.symm], rfl, ?_, ?_, new, rfl, ?_⟩
  · simpa using hf.view
  · simp [hstore]
  · simpa using hf.queue

theorem sentOn_pump (s : State) (l : Nat) : SentOn l s (pump s l) := by
  have hflits : ∀ fuel (s : State), SentOn l s (pumpFlits l fuel s) := by
    intro fuel
    induction fuel with
    | zero => exact fun s => sentOn_refl l s
    | succ n ih =>
      intro s
      unfold pumpFlits
      split
      · exact sentOn_refl l s
      next t ht => exact (sentOn_formFlit ht).trans (ih t)
  unfold pump
  split
  · exact hflits _ s
  · exact sentOn_refl l s

theorem take_new_out {s t : State} {new : List Out} (h : t.out = new ++ s.out) : t.out.take (t.out.length - s.out.length) = new := by
  simp [h]

/-- R204, R207: a packet that is sent on an UP link begins to leave, or waits on its channel. -/
theorem leaves_send {s : State} {o : Out} {l c : Nat} {ws : List Nat} (transit : Bool) (ho : outPacket o = some (l, c, ws))
    (hu : s.linkState l = 3) (h0 : c ≠ 0) (h3 : c ≠ 3) : leaves o s (s.send o transit) = true := by
  let p : TxPacket := { words := ws, out := o, transit := transit }
  let u := s.modLink l fun k => { k with queue := tput k.queue c (tget k.queue c ++ [p]) }
  have hsend : s.send o transit = pump u l := by simp [State.send, ho, hu, h3, u, p]
  obtain ⟨new, hnew, hq⟩ := (sentOn_pump u l).out
  have htake := take_new_out (s := s) hnew
  rw [hsend, leaves, ho]
  simp only [htake, h3, if_false, Bool.or_eq_true, List.contains_iff_mem, List.any_eq_true]
  rcases hq c p h0 (by simp [u]) rfl with hw | hn
  · exact .inr ⟨p, hw, by simp [p]⟩
  · exact .inl hn

/-! ## What the operations about traffic leave of the links (R194, R195, R216) -/

/-- A place among the LNK registers of the Sotin ports and their modules, LNK_ASYM and LNK_MODULE (R224). -/
def PortKey (k : Nat) : Prop := 0x60110 * 32 ≤ k % 0x20000000 ∧ k % 0x20000000 < 0x70000 * 32

/-- The supply, the time and the modules are as before, and so are each link's entries to DOWN with what it has received, and the registers
of the ports. -/
structure LinksStay (s t : State) : Prop where
  sup : t.sup = s.sup
  now : t.now = s.now
  modules : t.lnk.modules = s.lnk.modules
  view : ∀ l, linkView (tget t.lnk.links l) = linkView (tget s.lnk.links l)
  regs : ∀ k, PortKey k → tfind t.regs k = tfind s.regs k

theorem not_portKey_hfld {d off lo w rst : Nat} (h : (off * 32 + lo) % 0x20000000 < 0x60110 * 32) : ¬ PortKey (R.hfld d off lo w rst).key := by
  unfold PortKey R.hfld
  simp only
  omega

theorem linksStay_refl (s : State) : LinksStay s s := ⟨rfl, rfl, rfl, fun _ => rfl, fun _ _ => rfl⟩

theorem linksStay_ite {r a b : State} {c : Prop} [Decidable c] (ha : LinksStay r a) (hb : LinksStay r b) :
    LinksStay r (if c then a else b) := by
  split
  · exact ha
  · exact hb

section
variable {r s t : State} (h : LinksStay r s)
include h

/-- An operation that leaves the registers, the supply and the links as they are. -/
theorem linksStay_rest (hs : t.sup = s.sup := by rfl) (hn : t.now = s.now := by rfl) (hl : t.lnk = s.lnk := by rfl)
    (hr : t.regs = s.regs := by rfl) : LinksStay r t :=
  ⟨hs.trans h.sup, hn.trans h.now, (congrArg _ hl).trans h.modules, by rw [hl]; exact h.view, by rw [hr]; exact h.regs⟩

theorem linksStay_wr {f : Fld} {v : Nat} (hf : ¬ PortKey f.key := by exact not_portKey_hfld (by decide)) : LinksStay r (s.wr f v) := by
  refine ⟨h.sup, h.now, h.modules, h.view, fun k hk => ?_⟩
  rw [wr_regs, tfind_putField_other _ _ _ _ (by rintro rfl; exact hf hk)]
  exact h.regs k hk

theorem linksStay_bump {c : Cnt} (hc : ¬ PortKey c.cnt.key := by exact not_portKey_hfld (by decide))
    (ho : ¬ PortKey c.ovf.key := by exact not_portKey_hfld (by decide)) : LinksStay r (s.bump c) := by
  unfold State.bump
  exact linksStay_ite (linksStay_wr h ho) (linksStay_wr h hc)

theorem linksStay_err {unit op cls severity detail : Nat} : LinksStay r (s.err unit op cls severity detail) := by
  have hk : Keeps 12845076 s (s.err unit op cls severity detail) := State_err_keeps rfl (keeps_refl _ s)
  have hb : RegsBut recordFields s (s.err unit op cls severity detail) := regsBut_err _ _ _ _ _ (regsBut_refl _ s) fun _ hk => hk
  have hrec : ∀ k ∈ recordFields.map Fld.key, ¬ PortKey k := by unfold PortKey; decide
  have hlnk := hk.touch .lnk rfl
  exact ⟨(hk.touch .sup rfl).trans h.sup, (hk.touch .now rfl).trans h.now, (congrArg _ hlnk).trans h.modules, by rw [hlnk]; exact h.view,
    fun k hp => (hb k fun hm => hrec k hm hp).trans (h.regs k hp)⟩

theorem linksStay_modLink {l : Nat} {f : Link → Link} (hf : ∀ k, linkView (f k) = linkView k := by exact fun _ => rfl) :
    LinksStay r (s.modLink l f) := by
  refine ⟨h.sup, h.now, h.modules, fun j => ?_, h.regs⟩
  rw [← h.view j, modLink_links]
  by_cases hj : l = j
  · rw [hj, tget_tmod_same, hf]
  · rw [tget_tmod_other _ _ hj]

theorem linksStay_pump (l : Nat) : LinksStay r (pump s l) := by
  have hk : Keeps 4112 s (pump s l) := pump_keeps rfl (keeps_refl _ s)
  have hp := sentOn_pump s l
  refine ⟨(hk.touch .sup rfl).trans h.sup, (hk.touch .now rfl).trans h.now, hp.modules.trans h.modules, fun j => ?_, ?_⟩
  · rw [← h.view j]
    by_cases hj : j = l
    · rw [hj, hp.view]
    · rw [hp.other j hj]
  · rw [show (pump s l).regs = s.regs from hk.touch .regs rfl]
    exact h.regs

theorem linksStay_send {o : Out} {transit : Bool} : LinksStay r (s.send o transit) := by
  unfold State.send
  split
  · exact linksStay_rest h
  · refine linksStay_ite h (linksStay_pump (linksStay_modLink h fun k => ?_) _)
    split <;> rfl

theorem linksStay_foldl {α : Type} {f : State → α → State} {l : List α} (hf : ∀ t x, LinksStay r t → LinksStay r (f t x)) :
    LinksStay r (l.foldl f s) :=
  List.foldlRecOn l f h fun t ht x _ => hf t x ht

theorem linksStay_noteRefusal (q : OpenReq) (a : Resp) : LinksStay r (noteRefusal s q a) := by
  unfold noteRefusal
  extract_lets d
  split
  · exact h
  next c hc =>
    have hcnt : ¬ PortKey c.cnt.key ∧ ¬ PortKey c.ovf.key := by
      unfold respCount at hc
      split at hc <;> cases hc <;> exact ⟨not_portKey_hfld (by decide), not_portKey_hfld (by decide)⟩
    extract_lets -lift -merge -underBinder s1 s2 s3 s4 s5 key recent s6
    have h2 : LinksStay r s2 := by
      iterate 4 refine linksStay_wr ?_
      exact linksStay_bump h hcnt.1 hcnt.2
    have h4 : LinksStay r s4 := by
      iterate 3 refine linksStay_wr ?_
      exact linksStay_rest h2
    have h5 : LinksStay r s5 := linksStay_ite (linksStay_wr h4) (linksStay_ite (linksStay_wr h4) h4)
    exact linksStay_ite h5 (linksStay_err (linksStay_rest h5))

theorem linksStay_finishOpen (id : Nat) (a : Resp) (data : List Nat) (unknown : Bool) : LinksStay r (finishOpen s id a data unknown) := by
  unfold finishOpen
  split
  · exact h
  next c _ =>
    unfold answerOpen answerOpenHint
    extract_lets -lift -merge -underBinder qn s1 s2 s3
    have h1 : LinksStay r s1 := linksStay_rest (linksStay_wr (f := R.MEM_CTX.used c.die) (linksStay_rest h))
    have h3 : LinksStay r s3 := linksStay_noteRefusal (linksStay_ite (linksStay_rest h1) h1) _ _
    exact linksStay_send (linksStay_modLink h3)

theorem linksStay_fenceAcc (slot : Nat) : LinksStay r (fenceAcc s slot) := by
  unfold fenceAcc
  exact linksStay_wr (linksStay_rest h) (not_portKey_hfld (by omega))

theorem linksStay_leaveUp (l : Nat) : LinksStay r (leaveUp s l) := by
  unfold leaveUp
  extract_lets -lift -merge -underBinder s1 s2 src s3
  have h2 : LinksStay r s2 := linksStay_foldl (linksStay_modLink h) fun t c ht =>
    linksStay_ite (linksStay_finishOpen ht _ _ _ _) (linksStay_finishOpen ht _ _ _ _)
  have h3 : LinksStay r s3 := linksStay_rest h2
  exact linksStay_ite (linksStay_fenceAcc h3 l) h3

end

/-! ## A link goes DOWN (R215, R216) -/

/-- A link of a die that runs is in the state that its register shows. -/
theorem linkState_of_dieUp {s : State} {l : Nat} (h : s.dieUp (linkDie l) = true) :
    s.linkState l = s.rd (R.LNK_STATE.state (linkDie l) (linkIdx l)) :=
  if_pos h

theorem dieUp_of_linkState {s : State} {l n : Nat} (h : s.linkState l = n) (hn : n ≠ 0) : s.dieUp (linkDie l) = true :=
  Decidable.byContradiction fun hd => hn (h.symm.trans (if_neg hd))

theorem dieUp_congr {s t : State} (h : t.sup = s.sup) (d : Nat) : t.dieUp d = s.dieUp d := by
  unfold State.dieUp
  rw [h]

theorem linkState_congr {s t : State} (l : Nat) (hs : t.sup = s.sup) (hr : t.regs = s.regs) : t.linkState l = s.linkState l := by
  unfold State.linkState
  rw [dieUp_congr hs, rd_eq_of_regs t s _ hr]

/-- R340: a record entering the ring leaves the hubs' fields. -/
theorem rd_hfld_err (s : State) (unit op cls severity detail d off lo w rst : Nat) :
    (s.err unit op cls severity detail).rd (R.hfld d off lo w rst) = s.rd (R.hfld d off lo w rst) := by
  refine rd_regsBut (ks := recordFields) (regsBut_err _ _ _ _ _ (regsBut_refl _ s) fun _ hk => hk) _ fun hm => ?_
  have hwarden : ∀ k ∈ recordFields.map Fld.key, k < 0x1000000 * 32 := by decide
  have hlt := hwarden _ hm
  unfold R.hfld at hlt
  simp only at hlt
  omega

theorem dieUp_err (s : State) (unit op cls severity detail d : Nat) : (s.err unit op cls severity detail).dieUp d = s.dieUp d :=
  dieUp_congr (err_sup ..) d

/-- R215, R216: a link that has gone DOWN, or LATCHED at its fourth entry within 600 s, shows the cause. -/
structure WentDown (s : State) (l cause : Nat) (t : State) : Prop where
  state : t.linkState l = if 3 ≤ ((tget s.lnk.links l).downs.filter fun (x : Nat) => s.now < x + 600000000).length then 5 else 4
  cause : t.rd (R.LNK_STATE.cause (linkDie l) (linkIdx l)) = cause
  downAt : (tget t.lnk.links l).downAt = s.now
  modules : t.lnk.modules = s.lnk.modules
  regs : ∀ k, PortKey k → tfind t.regs k = tfind s.regs k

theorem WentDown.shown {s t : State} {l cause : Nat} (h : WentDown s l cause t) :
    (t.linkState l = if 3 ≤ ((tget s.lnk.links l).downs.filter fun (x : Nat) => s.now < x + 600000000).length then 5 else 4) ∧
      t.rd (R.LNK_STATE.cause (linkDie l) (linkIdx l)) = cause ∧ (tget t.lnk.links l).downAt = s.now :=
  ⟨h.state, h.cause, h.downAt⟩

theorem linkDown_wentDown {s : State} {l cause : Nat} (lane : Nat) (hu : s.dieUp (linkDie l) = true) (hc : cause < 16) :
    WentDown s l cause (linkDown s l cause lane) := by
  have hl : linkIdx l < 8 := linkIdx_lt l
  unfold linkDown
  extract_lets -lift -merge -underBinder d i attempts s1 downs latch s2 s3 s4 s5
  have h1 : LinksStay s s1 := linksStay_ite (linksStay_leaveUp (linksStay_refl s) l) (linksStay_refl s)
  have hdowns : downs = s.now :: (tget s.lnk.links l).downs.filter fun (x : Nat) => s.now < x + 600000000 := by
    unfold downs
    rw [h1.now, show (tget s1.lnk.links l).downs = (tget s.lnk.links l).downs from congrArg LinkView.downs (h1.view l)]
  have hlnk : (s5.err (0x4000 + l) 0 0x07 2 (atByte 0 cause + atByte 1 (if cause = 1 then lane else 0) + atByte 2 attempts +
      atByte 3 (b2n latch))).lnk = s2.lnk := by
    refine ((State_err_keeps (m := 12845076) rfl (keeps_refl _ s5)).touch .lnk rfl).trans ?_
    simp [s5, s4, s3]
  have hup : s5.dieUp (linkDie l) = true := by
    rw [dieUp_congr (s := s) (by simpa [s5, s4, s3, s2] using h1.sup), hu]
  have h5 : LinksStay s2 s5 := by
    refine linksStay_wr (linksStay_wr (linksStay_wr (linksStay_bump (linksStay_refl s2) ?_ ?_) ?_) ?_) ?_ <;>
      exact not_portKey_hfld (Nat.lt_of_le_of_lt (Nat.mod_le _ _) (by omega))
  refine ⟨?_, ?_, ?_, ?_, fun k hk => ?_⟩
  · rw [linkState_of_dieUp (by rw [dieUp_err, hup]), R.LNK_STATE.state, rd_hfld_err]
    refine (rd_wr_same _ _ _).trans ?_
    simp only [latch, hdowns, List.length_cons, Nat.reduceLeDiff, decide_eq_true_eq]
    split <;> rfl
  · rw [R.LNK_STATE.cause, rd_hfld_err]
    refine (rd_wr_other _ _ _ _ (hfld_key_ne (by omega))).trans ((rd_wr_other _ _ _ _ (hfld_key_ne (by omega))).trans ?_)
    exact (rd_wr_same _ _ _).trans (Nat.mod_eq_of_lt hc)
  · rw [hlnk]
    simp [s2, h1.now]
  · rw [hlnk]
    exact h1.modules
  · exact ((linksStay_err h5).regs k hk).trans (h1.regs k hk)

end Sys2Proof.Proofs
end

section
/-! PROOFS. Presence, identity memories and modules (R215, R219, R222, R252, R503). -/

namespace Sys2Proof.Proofs
open Sys2Proof.Machine Sys2Proof.Laws

/-! ## Presence, and a latched link that is cleared (R215, R503) -/

theorem linkState_setLinkState {s : State} {l : Nat} (v : Nat) (h : s.dieUp (linkDie l) = true) : (s.setLinkState l v).linkState l = v % 2 ^ 3 := by
  rw [linkState_of_dieUp (s := s.setLinkState l v) h]
  exact rd_wr_same _ _ _

theorem clearLatchedLink_of_latched {s : State} {l : Nat} (h : s.linkState l = 5) :
    clearLatchedLink s l = (s.modLink l fun k => { k with downs := [], latchHeld := false }).setLinkState l 1 :=
  if_pos h

theorem linkState_clearLatchedLink (s : State) (l : Nat) :
    (clearLatchedLink s l).linkState l = if s.linkState l = 5 then 1 else s.linkState l := by
  split
  next h =>
    rw [clearLatchedLink_of_latched h]
    exact linkState_setLinkState (s := s.modLink l _) 1 (dieUp_of_linkState h (by decide))
  next h =>
    unfold clearLatchedLink
    rw [if_neg h]
    split <;> rfl

theorem accPresentEvent_of_absent {s : State} {slot : Nat} (hslot : slot < 8) (h : s.accPresent slot = false) (hd : s.dieUp (slot / 4) = true) :
    accPresentEvent slot s = clearLatchedLink { s with seq := { s.seq with present := setBit s.seq.present slot true } } slot := by
  have hd' : State.dieUp { s with seq := { s.seq with present := setBit s.seq.present slot true } } (slot / 4) = true := hd
  simp [accPresentEvent, h, hd', Nat.not_le.mpr hslot]

theorem accPresentEvent_present {s : State} {slot : Nat} (hslot : slot < 8) (h : s.accPresent slot = false) (hd : s.dieUp (slot / 4) = true) :
    (accPresentEvent slot s).accPresent slot = true := by
  rw [accPresentEvent_of_absent hslot h hd, State.accPresent, (clearLatchedLink_keeps (m := 4100) rfl (keeps_refl _ _)).touch .seq rfl]
  simp

/-- R224: LNK_STATE.present of a slot's link. -/
theorem shownLnk_slot (s : State) (slot : Nat) : shownLnk s (slot / 4) (32 * (slot % 4)) = [(8, b2n (s.accPresent slot))] := by
  have hslot : 4 * (slot / 4) + 32 * (slot % 4) / 0x20 = slot := by omega
  rw [shownLnk, if_pos (by omega), hslot]

/-! ## Identity memories (R219, R252, R350) -/

/-- R219: a slot's identity memory as it was read. -/
def withIdentity (s : State) (slot : Nat) (m : IdentityMem) : State :=
  { s with lnk := { s.lnk with identity := tput s.lnk.identity slot m, identityRead := setBit s.lnk.identityRead slot true } }

theorem identityReadEvent_of_present {s : State} {slot : Nat} (bytes : List Nat) (hslot : slot < 8) (h : s.accPresent slot = true)
    (hp : s.procUp 0 = true) : identityReadEvent slot bytes s =
      if identityValid (decodeIdentity bytes) = true then takeIdentity (withIdentity s slot (decodeIdentity bytes)) slot (decodeIdentity bytes)
      else withIdentity s slot (decodeIdentity bytes) := by
  unfold identityReadEvent
  rw [if_neg (by simp [h, hp, hslot])]
  exact ite_not _ _ _

theorem takePowerTable_pwr (s : State) (slot : Nat) (m : IdentityMem) :
    (takePowerTable s slot m).pwr = (s.modSlotPower slot fun x => { x with table := m.gauge, coeff := m.coeff }).pwr := by
  unfold takePowerTable
  extract_lets t
  have herr : ∀ detail, (t.err (0x3000 + slot) 0 0x0B 2 detail).pwr = t.pwr := fun _ =>
    (State_err_keeps (m := 12845076) rfl (keeps_refl _ t)).touch .pwr rfl
  split
  · exact herr _
  · split
    · exact herr _
    · rfl

theorem unitKept_takeSerial (s : State) (slot serial : Nat) : (unitKept (takeSerial s slot serial) (128 + slot)).serial = serial := by
  unfold takeSerial
  split
  · assumption
  · simp [unitKept, modUnit, modKept]

/-- What a valid identity memory gives its slot. -/
structure IdentityTaken (slot : Nat) (m : IdentityMem) (s t : State) : Prop where
  lnk : t.lnk = s.lnk
  coeff : (t.slotPower slot).coeff = m.coeff
  table : (t.slotPower slot).table = m.gauge
  serial : (unitKept t (128 + slot)).serial = m.serial

theorem takeIdentity_taken (s : State) (slot : Nat) (m : IdentityMem) : IdentityTaken slot m s (takeIdentity s slot m) := by
  have hserial : Keeps 268959744 (takePowerTable s slot m) (takeIdentity s slot m) := takeSerial_keeps rfl (keeps_refl _ _)
  have hpower : (takeIdentity s slot m).slotPower slot = { s.slotPower slot with table := m.gauge, coeff := m.coeff } := by
    rw [State.slotPower, hserial.touch .pwr rfl, takePowerTable_pwr]
    simp [State.modSlotPower, State.slotPower]
  refine ⟨?_, by rw [hpower], by rw [hpower], unitKept_takeSerial _ _ _⟩
  exact (hserial.touch .lnk rfl).trans ((takePowerTable_keeps (m := 12861460) rfl (keeps_refl _ s)).touch .lnk rfl)

/-! ## Modules (R222) -/

/-- What Steward's poll of a port leaves before a link goes DOWN for it. -/
def polled (s : State) (port : Nat) (m : ModuleRead) : State := steerModule (recordModule s port m) port m

theorem linkDie_port (port : Nat) : linkDie (8 + port) = port / 4 := by
  rw [linkDie, if_neg (by omega), Nat.add_sub_cancel_left]

theorem linkIdx_port (port : Nat) : linkIdx (8 + port) = 4 + port % 4 := by
  rw [linkIdx, if_neg (by omega)]
  omega

theorem polled_regs (s : State) (port : Nat) (m : ModuleRead) : (polled s port m).regs = (recordModule s port m).regs :=
  (steerModule_keeps (m := 16) rfl (keeps_refl _ _)).touch .regs rfl

theorem polled_lnk (s : State) (port : Nat) (m : ModuleRead) :
    (polled s port m).lnk = { s.lnk with modules := tput s.lnk.modules port m } :=
  (steerModule_keeps (m := 16) rfl (keeps_refl _ _)).touch .lnk rfl

theorem polled_keeps (s : State) (port : Nat) (m : ModuleRead) : Keeps 4116 s (polled s port m) :=
  steerModule_keeps rfl (recordModule_keeps rfl (keeps_refl _ s))

theorem rd_present_polled (s : State) (port : Nat) (m : ModuleRead) :
    (polled s port m).rd (R.LNK_MODULE.present (port / 4) (port % 4)) = b2n m.present := by
  rw [rd_eq_of_regs _ _ _ (polled_regs s port m), recordModule]
  iterate 7 refine (rd_wr_other _ _ _ _ (hfld_key_ne (by omega))).trans ?_
  exact (rd_wr_same _ _ _).trans (Nat.mod_eq_of_lt (b2n_lt _))

theorem linkState_polled (s : State) (port : Nat) (m : ModuleRead) : (polled s port m).linkState (8 + port) = s.linkState (8 + port) := by
  have hrd : (polled s port m).rd (R.LNK_STATE.state (port / 4) (4 + port % 4)) = s.rd (R.LNK_STATE.state (port / 4) (4 + port % 4)) := by
    rw [rd_eq_of_regs _ _ _ (polled_regs s port m), recordModule]
    iterate 8 refine (rd_wr_other _ _ _ _ (hfld_key_ne (by omega))).trans ?_
    rfl
  simp only [State.linkState, linkDie_port, linkIdx_port, hrd, dieUp_congr ((polled_keeps s port m).touch .sup rfl)]

/-- R222: a port whose link goes DOWN for its module. -/
structure PortDown (s : State) (port : Nat) (m : ModuleRead) (t : State) : Prop where
  state : t.linkState (8 + port) =
    if 3 ≤ ((tget s.lnk.links (8 + port)).downs.filter fun (x : Nat) => s.now < x + 600000000).length then 5 else 4
  cause : t.rd (R.LNK_STATE.cause (linkDie (8 + port)) (linkIdx (8 + port))) = 6
  downAt : (tget t.lnk.links (8 + port)).downAt = s.now
  module : tget t.lnk.modules port = m
  present : t.rd (R.LNK_MODULE.present (port / 4) (port % 4)) = b2n m.present

theorem linkDown_polled {s : State} {port : Nat} (m : ModuleRead) (hd : s.dieUp (port / 4) = true) :
    PortDown s port m (linkDown (polled s port m) (8 + port) 6 0) := by
  have hkeeps := polled_keeps s port m
  have hup : (polled s port m).dieUp (linkDie (8 + port)) = true := by
    rw [linkDie_port, dieUp_congr (hkeeps.touch .sup rfl), hd]
  have hnow : (polled s port m).now = s.now := hkeeps.touch .now rfl
  obtain ⟨hstate, hcause, hdown, hmodules, hregs⟩ := linkDown_wentDown (cause := 6) 0 hup (by decide)
  rw [hnow, polled_lnk] at hstate
  rw [hnow] at hdown
  rw [polled_lnk] at hmodules
  refine ⟨hstate, hcause, hdown, by rw [hmodules, tget_tput_same], ?_⟩
  have hkey : PortKey (R.LNK_MODULE.present (port / 4) (port % 4)).key := by
    unfold PortKey R.LNK_MODULE.present R.hfld
    simp only
    omega
  rw [← rd_present_polled s, State.rd, tgetD, hregs _ hkey]
  rfl

theorem modulePresencePoll_of_removed {s : State} {port : Nat} {m : ModuleRead} (hport : port < 8)
    (hplug : (tget s.img.ports port).pluggable = true) (hp : s.procUp 0 = true) (hd : s.dieUp (port / 4) = true)
    (hwas : (tget s.lnk.modules port).present = true) (hgone : m.present = false)
    (hl : s.linkState (8 + port) = 3 ∨ s.linkState (8 + port) = 2) :
    modulePresencePoll port m s = linkDown (polled s port m) (8 + port) 6 0 := by
  rw [← linkState_polled s port m] at hl
  unfold modulePresencePoll
  rw [if_neg (by simp [hport, hplug, hp, hd])]
  exact (if_pos ⟨hwas, by simp [hgone]⟩).trans (if_pos hl)

theorem moduleFlagPoll_of_fault {s : State} {port : Nat} {m : ModuleRead} (hport : port < 8)
    (hplug : (tget s.img.ports port).pluggable = true) (hp : s.procUp 0 = true) (hd : s.dieUp (port / 4) = true)
    (hwas : (tget s.lnk.modules port).present = true) (hl : s.linkState (8 + port) = 3) (hf : m.fault = true) :
    moduleFlagPoll port m s = linkDown (polled s port m) (8 + port) 6 0 := by
  rw [← linkState_polled s port m] at hl
  unfold moduleFlagPoll
  rw [if_neg (by simp [hport, hplug, hp, hd, hwas])]
  exact if_pos ⟨hl, .inl (by simp [moduleFlag, hf])⟩

/-- Settles O21: a slot's presence and identity by what their events leave; a module that is removed or at fault takes its link DOWN. -/
theorem identityAndModuleCommands : Obligations.IdentityAndModuleCommands := by
  unfold Obligations.IdentityAndModuleCommands
  refine ⟨fun s slot hslot h hd => (does_iff rfl).mpr ?presence, fun s slot bytes mem hslot h hp hmem hv => (does_iff rfl).mpr ?valid,
    fun s slot bytes mem hslot h hp hmem hv => (does_iff rfl).mpr ?invalid,
    fun s port l m hl hport hplug hp hd hwas hgone hup => (does_iff rfl).mpr ?removed,
    fun s port l m hl hport hplug hp hd hwas hup hf => (does_iff rfl).mpr ?fault⟩
  case presence =>
    have hpresent := accPresentEvent_present hslot h hd
    refine ⟨hpresent, ?_, ?_⟩
    · rw [shownLnk_slot, hpresent]
      rfl
    · rw [accPresentEvent_of_absent hslot h hd, linkState_clearLatchedLink]
      rfl
  case valid =>
    subst hmem
    rw [identityReadEvent_of_present bytes hslot h hp, if_pos hv]
    obtain ⟨hlnk, hcoeff, htable, hserial⟩ := takeIdentity_taken (withIdentity s slot (decodeIdentity bytes)) slot (decodeIdentity bytes)
    refine ⟨?_, ?_, hcoeff, htable, hserial⟩ <;> rw [hlnk]
    · exact tget_tput_same _ _ _
    · simp [withIdentity]
  case invalid =>
    subst hmem
    rw [identityReadEvent_of_present bytes hslot h hp, if_neg (by simp [hv])]
    rfl
  case removed =>
    subst hl
    rw [modulePresencePoll_of_removed hport hplug hp hd hwas hgone hup]
    obtain ⟨hstate, hcause, hdown, hmodule, hpresent⟩ := linkDown_polled m hd
    exact ⟨hstate, hcause, hdown, hmodule, by rw [hpresent, hgone]; rfl⟩
  case fault =>
    subst hl
    rw [moduleFlagPoll_of_fault hport hplug hp hd hwas hup hf]
    obtain ⟨hstate, hcause, hdown, hmodule, _⟩ := linkDown_polled m hd
    exact ⟨hstate, hcause, hdown, hmodule⟩

end Sys2Proof.Proofs
end

section
/-! PROOFS. Flits as they are received and sent, and the hints and activity that come in them (R202, R203, R205, R211, R212, R271). -/

namespace Sys2Proof.Proofs
open Sys2Proof.Machine Sys2Proof.Laws

/-! ## Flits (R202, R203, R205) -/

/-- R203, R207: what a header without nak does to the link that it comes on. -/
def takeHeader (h : Nat) (sequenced : Bool) (k : Link) : Link :=
  let store := ackStore k.store (bits h 15 4)
  { k with store := store, nakActed := if store.length = k.store.length then k.nakActed else none,
           credit := if sequenced = true ∧ h % 2 = 1 then tmod k.credit (bits h 2 1) (· + 32) else k.credit }

theorem headerFields_of_noNak {h : Nat} (s : State) (l : Nat) (sequenced : Bool) (hn : h.testBit 3 = false) :
    headerFields s l h sequenced = s.modLink l (takeHeader h sequenced) :=
  if_pos (by simp [hn])

/-- R203: a link's flit that is next in sequence and has no nak, with header `h`: it is accepted, and its header's fields are taken. -/
def flitTaken (s : State) (l h : Nat) : State :=
  (s.modLink l fun k => { k with rxSeq := (k.rxSeq + 1) % 4096, nakSent := false, lastFlit := s.now }).modLink l (takeHeader h true)

theorem flitTaken_link (s : State) (l h : Nat) : tget (flitTaken s l h).lnk.links l =
    takeHeader h true { tget s.lnk.links l with rxSeq := ((tget s.lnk.links l).rxSeq + 1) % 4096, nakSent := false, lastFlit := s.now } := by
  simp [flitTaken]

theorem controlWord_of_filler {s : State} {l : Nat} (replayed : Bool) (h : (tget s.lnk.links l).ctlPart = []) : controlWord s l 0 replayed = s :=
  if_pos (by simp [h])

theorem takePayload_of_zeros {s : State} {l vc : Nat} {words : List Nat} (h : tget (tget s.lnk.links l).pktPart vc = [])
    (hw : words.any (· != 0) = false) : takePayload s l vc words = s :=
  if_pos (by simp [h, hw])

/-- R203: a flit next in sequence that carries neither a control word nor payload leaves its header's fields, and what may now leave does. -/
theorem acceptFlit_of_empty {s : State} {l : Nat} {flit : List Nat} (hu : s.linkState l = 3) (hn : (flitWord flit 0).testBit 3 = false)
    (hw : flitWord flit 1 = 0) (hc : (tget s.lnk.links l).ctlPart = [])
    (hp : tget (tget s.lnk.links l).pktPart (bits (flitWord flit 0) 29 28) = [])
    (hz : ((List.range 47).all fun i => flitWord flit (2 + i) == 0) = true) :
    acceptFlit s l flit = pump (flitTaken s l (flitWord flit 0)) l := by
  have hzeros : ((List.range 47).map fun i => flitWord flit (2 + i)).any (· != 0) = false := by
    simpa [List.any_map] using hz
  unfold acceptFlit
  extract_lets -lift -merge -underBinder h s1 s2 s3
  have h2 : s2 = flitTaken s l h := headerFields_of_noNak s1 l true hn
  have hup : ¬ (flitTaken s l h).linkState l ≠ 3 := not_not_intro hu
  have h3 : s3 = flitTaken s l h := by
    unfold s3
    rw [h2, hw, controlWord_of_filler _ (by rw [flitTaken_link]; exact hc)]
  rw [h3, h2, if_neg hup, if_neg hup, takePayload_of_zeros (by rw [flitTaken_link]; exact hp) hzeros]

/-- What an accepted flit with header `h` leaves of its link. -/
structure FlitAccepted (s : State) (l h : Nat) (t : State) : Prop where
  state : t.linkState l = s.linkState l
  view : linkView (tget t.lnk.links l) =
    { downs := (tget s.lnk.links l).downs, rxSeq := ((tget s.lnk.links l).rxSeq + 1) % 4096, nakSent := false, lastFlit := s.now }
  store : ackStore (tget s.lnk.links l).store (bits h 15 4) <+: (tget t.lnk.links l).store
  mem : t.mem = s.mem
  pat : t.pat = s.pat

theorem pump_flitTaken (s : State) (l h : Nat) : FlitAccepted s l h (pump (flitTaken s l h) l) := by
  have hsent := sentOn_pump (flitTaken s l h) l
  have hkeeps : Keeps 4112 (flitTaken s l h) (pump (flitTaken s l h) l) := pump_keeps rfl (keeps_refl _ _)
  refine ⟨linkState_congr l (hkeeps.touch .sup rfl) (hkeeps.touch .regs rfl), ?_, ?_, hkeeps.touch .mem rfl, hkeeps.touch .pat rfl⟩
  · rw [hsent.view, flitTaken_link]
    rfl
  · have hstore := hsent.store
    rw [flitTaken_link] at hstore
    exact hstore

theorem flitReceive_of_next {s : State} {l : Nat} {flit : List Nat} (corrected : Nat) (hl : l < 16) (hu : s.linkState l = 3)
    (hok : flitOk flit = true) (hidle : (flitWord flit 0).testBit 30 = false)
    (hseq : bits (flitWord flit 0) 27 16 = (tget s.lnk.links l).rxSeq)
    (hnak : (tget s.lnk.links l).nakSent = false ∨ (flitWord flit 0).testBit 31 = true) :
    flitReceive l flit true corrected s = acceptFlit (s.addWide (R.LNK_FEC_CORR_LO.count (linkDie l) (linkIdx l)) corrected) l flit := by
  have hnext : ¬ (bits (flitWord flit 0) 27 16 ≠ (tget s.lnk.links l).rxSeq ∨
      ((tget s.lnk.links l).nakSent = true ∧ ¬ (flitWord flit 0).testBit 31 = true)) := by
    rintro (h | ⟨h, h'⟩)
    · exact h hseq
    · simp [h, h'] at hnak
  unfold flitReceive
  rw [if_neg (by simp [hl, hu])]
  simp only [hok, hidle, addWide_lnk, not_true_eq_false, Bool.false_eq_true, if_false]
  exact if_neg hnext

theorem flitReceive_of_badCheck {s : State} {l : Nat} {flit : List Nat} (corrected : Nat) (hl : l < 16) (hu : s.linkState l = 3)
    (hok : flitOk flit = false) :
    flitReceive l flit true corrected s = discardFlit (s.addWide (R.LNK_FEC_CORR_LO.count (linkDie l) (linkIdx l)) corrected) l := by
  simp [flitReceive, Nat.not_le.mpr hl, hu, hok]

theorem formFlit_of_room {s : State} {l : Nat} (h : (tget s.lnk.links l).store.length < 2048) : ∃ t, formFlit s l true = some t := by
  simp [formFlit, Nat.not_le.mpr h]

/-- R203, R205: the zero flit of a transmitter that has been quiet for 2 µs joins the replay store under the next number. -/
theorem keepaliveFlit_formed {s : State} {l : Nat} (hl : l < 16) (hu : s.linkState l = 3) (hq : (tget s.lnk.links l).lastSent + 2 ≤ s.now)
    (hroom : (tget s.lnk.links l).store.length < 2048) : ∃ k' new, FlitFormed s.now new (tget s.lnk.links l) k' ∧ new ≠ [] ∧
      keepaliveFlit l s = { s.modLink l fun _ => k' with out := new ++ s.out } := by
  obtain ⟨t, ht⟩ := formFlit_of_room hroom
  have hsend : keepaliveFlit l s = t := by
    simp [keepaliveFlit, zeroFlit, ht, Nat.not_le.mpr hl, hu, Nat.not_lt.mpr hq]
  rw [hsend]
  exact formFlit_formed ht

/-! ## Hints and activity (R211, R212, R248, R271) -/

theorem hintDue_of_early {s : State} {h : HintWait} (hp : h.positioned = false) (hl : s.cad.angle < h.lead) (ha : s.cad.angle < h.angle) :
    hintDue s h = (s, some h) := by
  cases h
  cases hp
  simp [hintDue, Nat.not_le.mpr hl, Nat.not_le.mpr ha]

/-- R271: the only hint that waits goes on waiting where its lead has not been reached. -/
theorem hintsDue_of_early {s : State} {h : HintWait} (hs : s.pwr.hints = [h]) (hp : h.positioned = false) (hl : s.cad.angle < h.lead)
    (ha : s.cad.angle < h.angle) : hintsDue s = s := by
  have hearly := hintDue_of_early (s := { s with pwr := { s.pwr with hints := [] } }) hp hl ha
  simp only [hintsDue, hs, List.foldl_cons, List.foldl_nil, hearly, List.nil_append]
  rw [← hs]

theorem slotPower_modSlotPower (s : State) (slot : Nat) (f : SlotPower → SlotPower) :
    (s.modSlotPower slot f).slotPower slot = f (s.slotPower slot) := by
  simp [State.slotPower, State.modSlotPower]

/-- A slot's hint counted in its step. -/
def hintCounted (s : State) (slot : Nat) : State := s.modSlotPower slot fun x => { x with hints := x.hints + 1 }

theorem hintMessage_of_dropped {s : State} {slot tag : Nat} (angle watts duration : Nat) (hh : s.marksHeard slot = true)
    (hd : tag % 65536 ≠ s.cad.step % 65536 ∨ 8 ≤ (s.slotPower slot).hints) :
    hintMessage slot angle watts duration tag s = s.bump R.PWR_HINT_DROP.c := by
  unfold hintMessage
  rw [if_neg (by simp [hh]), if_pos hd]

theorem hintMessage_of_powerOut {s : State} {slot tag : Nat} (angle watts duration : Nat) (hh : s.marksHeard slot = true)
    (ht : tag % 65536 = s.cad.step % 65536) (hn : (s.slotPower slot).hints < 8) (hp : s.procUp 1 = false) :
    hintMessage slot angle watts duration tag s = hintCounted s slot := by
  have hp' : (hintCounted s slot).procUp 1 = false := hp
  have hout : (hintCounted s slot).cad.stalled = true ∨ ¬ (hintCounted s slot).procUp 1 = true := .inr (by simp [hp'])
  unfold hintMessage
  rw [if_neg (by simp [hh]), if_neg (by omega)]
  exact if_pos hout

/-- The hint of a message, with the angle at which its profile is due. -/
def hintOf (slot angle lead watts duration : Nat) : HintWait :=
  { slot := slot, angle := angle % 65536, lead := angle % 65536 - lead, watts := watts, duration := duration }

theorem hintMessage_of_early {s : State} {slot angle watts duration tag lead : Nat} (hh : s.marksHeard slot = true)
    (ht : tag % 65536 = s.cad.step % 65536) (hn : (s.slotPower slot).hints < 8) (hp : s.procUp 1 = true) (hs : s.cad.stalled = false)
    (hlead : lead = if s.periodNs = 0 then 0 else s.rd R.PWR_RAMP_CFG.lead * 10000 * 65536 / s.periodNs)
    (ha : s.cad.angle < angle % 65536 - lead) (hw : s.pwr.hints = []) : hintMessage slot angle watts duration tag s =
      { hintCounted s slot with pwr := { (hintCounted s slot).pwr with hints := [hintOf slot angle lead watts duration] } } := by
  have hruns : ¬ ((hintCounted s slot).cad.stalled = true ∨ ¬ (hintCounted s slot).procUp 1 = true) := by
    have hp' : (hintCounted s slot).procUp 1 = true := hp
    have hs' : (hintCounted s slot).cad.stalled = false := hs
    simp [hp', hs']
  have hwait : (hintCounted s slot).pwr.hints = [] := hw
  unfold hintMessage
  rw [if_neg (by simp [hh]), if_neg (by omega)]
  refine (if_neg hruns).trans ?_
  extract_lets lead' h
  have hlead' : lead' = lead := hlead.symm
  have hhint : h = hintOf slot angle lead watts duration := by rw [← hlead']; rfl
  show hintsDue { hintCounted s slot with pwr := { (hintCounted s slot).pwr with hints := (hintCounted s slot).pwr.hints ++ [h] } } = _
  rw [hwait, hhint]
  exact hintsDue_of_early rfl rfl ha (Nat.lt_of_lt_of_le ha (Nat.sub_le _ _))

/-- What an ACTIVITY message reports of its slot. -/
def Reported (slot gauge now : Nat) (counters : List Nat) (s : State) : Prop :=
  (s.slotPower slot).counters = counters ∧ (s.slotPower slot).reported = gauge ∧ (s.slotPower slot).stamp = some now

theorem reported_addSlotEnergy {s : State} {slot gauge now : Nat} {counters : List Nat} (uj : Rat) (h : Reported slot gauge now counters s) :
    Reported slot gauge now counters (addSlotEnergy s slot uj) := by
  unfold Reported
  rw [show (addSlotEnergy s slot uj).slotPower slot = _ from slotPower_modSlotPower s slot _]
  exact h

theorem activityPower_reported (slot gauge : Nat) (counters : List Nat) (s : State) :
    Reported slot gauge s.groupNow counters (activityPower slot gauge counters s) := by
  unfold activityPower
  extract_lets x now s1
  have h1 : Reported slot gauge s.groupNow counters s1 := by
    unfold Reported s1
    rw [slotPower_modSlotPower]
    exact ⟨rfl, rfl, rfl⟩
  split
  · exact h1
  · split
    · exact h1
    · refine reported_addSlotEnergy _ ?_
      unfold Reported
      rw [slotPower_modSlotPower]
      exact h1

theorem groupNow_of_dieUp {s : State} {d : Nat} (h : s.dieUp d = true) : s.groupNow = s.gt.time :=
  if_pos (anyDieUp_of_dieUp h)

/-- R212: an ACTIVITY message counted on its link. -/
def activityCounted (s : State) (slot : Nat) : State :=
  s.modLink slot fun k => { k with activityCount := min (2 ^ 32 - 1) (k.activityCount + 1), activityAt := s.now, activityLost := false }

theorem activity_of_up {s : State} {slot : Nat} (gauge tag : Nat) (slow : Bool) (counters : List Nat) (hslot : slot < 8)
    (hu : s.linkState slot = 3) : activity slot gauge slow tag counters s = activityPower slot gauge counters (activityCounted s slot) :=
  if_neg (by simp [hslot, hu])

end Sys2Proof.Proofs
end

section
/-! PROOFS. Management messages, admission and the orders of LNK_CTRL, with what flits, hints and activity do (R202 to R224, R271). -/

namespace Sys2Proof.Proofs
open Sys2Proof.Machine Sys2Proof.Laws

/-! ## Management messages (R221, R390) -/

theorem foldl_spend (l : List (Nat × Nat)) (s : State) :
    ∃ spent, l.foldl spend s = { s with mem := { s.mem with spent := spent } } := by
  induction l generalizing s with
  | nil => exact ⟨_, rfl⟩
  | cons c l ih => exact ih (spend s c)

/-- R170, R189: what the crossbar has tokens for leaves on its UP link at once, where nothing waits before it. -/
theorem forwardOn_of_tokens {s : State} {c : Crossing} {o : Out} {l ch : Nat} {ws : List Nat} (hc : c.out = o) (hw : s.mem.crossing = [])
    (ht : c.charges.all (hasTokens s) = true) (ho : outPacket o = some (l, ch, ws)) (hu : s.linkState l = 3) (h0 : ch ≠ 0) (h3 : ch ≠ 3) :
    leaves o s (forwardOn s c) = true ∧ (forwardOn s c).regs = s.regs ∧ (forwardOn s c).mem.pool = s.mem.pool := by
  obtain ⟨spent, hspent⟩ := foldl_spend c.charges s
  have hon : forwardOn s c = (State.send { s with mem := { s.mem with spent := spent } } o true) := by
    simp [forwardOn, hw, ht, hspent, hc]
  rw [hon]
  refine ⟨leaves_send (s := { s with mem := { s.mem with spent := spent } }) true ho hu h0 h3, regs_send _ _ _, ?_⟩
  rw [(State_send_keeps (m := 4112) rfl (keeps_refl _ _)).touch .mem rfl]

theorem mgmtForwardOn_of_path {s : State} {l hub : Nat} {p : OpenPath} (isReq : Bool) (tag : Nat) (payload : List Nat)
    (hhub : hub ≠ s.tree.hub) (hp : s.openPath hub = some p) (hu : s.linkState (8 + p.egress) = 3) (hw : s.mem.crossing = [])
    (ht : (([(2 * l, 4 * (3 + payload.length)), (2 * (8 + p.egress) + 1, 4 * (3 + payload.length))] ++
      bridgeCharges (linkDie l) (linkDie (8 + p.egress)) (4 * (3 + payload.length)) 0).all (hasTokens s)) = true) :
    leaves (.mgmtForward (8 + p.egress) isReq hub tag payload) s (mgmtForwardOn s l isReq hub tag payload) = true ∧
      (mgmtForwardOn s l isReq hub tag payload).regs = s.regs ∧ (mgmtForwardOn s l isReq hub tag payload).mem.pool = s.mem.pool := by
  unfold mgmtForwardOn
  simp only [if_neg hhub, hp]
  exact forwardOn_of_tokens (ch := if isReq = true then 1 else 2) rfl hw ht rfl hu (by cases isReq <;> decide) (by cases isReq <;> decide)

section
variable {s : State} {l : Nat} (hub tag : Nat) {payload : List Nat} (hl : l < 16) (hu : s.linkState l = 3)
include hl hu

theorem mgmtReq_of_badLength (hn : mgmtLength payload = false) : mgmtReq l hub tag payload s = linkDown s l 5 0 := by
  simp [mgmtReq, Nat.not_le.mpr hl, hu, hn]

theorem mgmtResp_of_badLength (hn : mgmtLength payload = false) : mgmtResp l hub tag payload s = linkDown s l 5 0 := by
  simp [mgmtResp, Nat.not_le.mpr hl, hu, hn]

theorem mgmtReq_of_accelerator (hn : mgmtLength payload = true) (h8 : l < 8) :
    mgmtReq l hub tag payload s = s.bump (R.LNK_CTL_REJECT.c (linkDie l)) := by
  simp [mgmtReq, Nat.not_le.mpr hl, hu, hn, h8]

theorem mgmtResp_of_accelerator (hn : mgmtLength payload = true) (h8 : l < 8) :
    mgmtResp l hub tag payload s = s.bump (R.LNK_CTL_REJECT.c (linkDie l)) := by
  simp [mgmtResp, Nat.not_le.mpr hl, hu, hn, h8]

theorem mgmtReq_of_port (hn : mgmtLength payload = true) (h8 : 8 ≤ l) : mgmtReq l hub tag payload s =
    if hub = s.tree.hub then s.emit (.mgmtDelivered hub tag payload) else mgmtForwardOn s l true hub tag payload := by
  simp [mgmtReq, Nat.not_le.mpr hl, hu, hn, Nat.not_lt.mpr h8]

theorem mgmtResp_of_port (hn : mgmtLength payload = true) (h8 : 8 ≤ l) :
    mgmtResp l hub tag payload s = mgmtForwardOn s l false hub tag payload := by
  simp [mgmtResp, Nat.not_le.mpr hl, hu, hn, Nat.not_lt.mpr h8]

end

/-! ## Admission and the orders of LNK_CTRL (R218, R224) -/

theorem autoAdmit_of_due {s : State} {slot : Nat} (hslot : slot < 8) (hp : s.procUp 0 = true) (hu : s.linkState slot = 3)
    (ha : s.accAdmitted slot = false) (hon : s.on (R.LNK_CFG.auto_admit (slot / 4) (slot % 4)) = true)
    (ht : (tget s.lnk.links slot).upAt + s.rd (R.LNK_CFG.admit_delay (slot / 4) (slot % 4)) * 100000 ≤ s.now) (hm : mayAdmit s slot = true) :
    autoAdmit slot s = putForward s slot :=
  if_neg (by simp [hslot, hp, hu, ha, hon, ht, hm])

theorem members_two_pow {i n : Nat} (h : i < n) : members (2 ^ i) n = [i] := by
  rw [← Nat.one_shiftLeft, members_one_shiftLeft h]

theorem linkRetrain_of_dieUp {s : State} {die : Nat} (mask : Nat) (h : s.dieUp die = true) :
    linkRetrain .steward die mask s = (retrainLinks s die mask).answer .ok 0 0 :=
  gateDie_of_dieUp _ _ h

theorem linkClear_of_dieUp {s : State} {die : Nat} (mask : Nat) (h : s.dieUp die = true) :
    linkClear .steward die mask s = (clearLinks s die mask).answer .ok 0 0 :=
  gateDie_of_dieUp _ _ h

theorem retrainLinks_single {s : State} {die i : Nat} (hi : i < 8) (hu : s.linkState (linkOf die i) = 3) :
    retrainLinks s die (2 ^ i) = linkDown s (linkOf die i) 9 0 := by
  rw [retrainLinks, members_two_pow hi]
  exact if_pos hu

theorem clearLinks_single {s : State} {die i : Nat} (hi : i < 8) : clearLinks s die (2 ^ i) = clearLatchedLink s (linkOf die i) := by
  rw [clearLinks, members_two_pow hi]
  rfl

/-- Settles O20, command by command: what it does to its link once its conditions hold, then what that leaves. -/
theorem linkMessageCommands : Obligations.LinkMessageCommands := by
  unfold Obligations.LinkMessageCommands
  refine ⟨fun s l corrected flit hl hu hok hidle hn hseq hnak hw hc hp hz => (does_iff rfl).mpr ?accepted,
    fun s l corrected flit hl hu hok => (does_iff rfl).mpr ?discarded,
    fun s l hl hu hq hroom => (does_iff rfl).mpr ?quiet,
    fun s slot angle watts duration tag lead hh ht hn hp hs hlead ha hw => (does_iff rfl).mpr ?hintWaits,
    fun s slot angle watts duration tag hh ht hn hp => (does_iff rfl).mpr (hintMessage_of_powerOut angle watts duration hh ht hn hp),
    fun s slot angle watts duration tag hh hd => (does_iff rfl).mpr (hintMessage_of_dropped angle watts duration hh hd),
    fun s slot gauge tag slow counters hslot hu => (does_iff rfl).mpr ?activity,
    fun s slot hslot hu ht => (does_iff rfl).mpr ?activityLost,
    fun s l hub tag payload hl h8 hu hn hhub => (does_iff rfl).mpr ?delivered,
    fun s l hub tag payload p h8 hu hn hhub hp hup hw ht hl => (does_iff rfl).mpr ?reqForwarded,
    fun s l hub tag payload h8 hu hn => (does_iff rfl).mpr ?reqRejected,
    fun s l hub tag payload hl hu hn => (does_iff rfl).mpr ?reqBad,
    fun s l hub tag payload p h8 hu hn hhub hp hup hw ht hl => (does_iff rfl).mpr ?respForwarded,
    fun s l hub tag payload h8 hu hn => (does_iff rfl).mpr ?respRejected,
    fun s l hub tag payload hl hu hn => (does_iff rfl).mpr ?respBad,
    fun s slot hslot hp hu ha hon ht hm => (does_iff rfl).mpr (autoAdmit_of_due hslot hp hu ha hon ht hm),
    fun s die mask hd hup hm => (does_iff rfl).mpr ?retrainNone,
    fun s die mask i l hd hup hi hm hl hu => (does_iff rfl).mpr ?retrain,
    fun s die mask i l hd hup hi hm hl hu => (does_iff rfl).mpr ?clear⟩
  case accepted =>
    rw [flitReceive_of_next corrected hl hu hok hidle hseq hnak, acceptFlit_of_empty (s := s.addWide _ _) hu hn hw hc hp hz]
    obtain ⟨hstate, hview, hstore, hmem, hpat⟩ :=
      pump_flitTaken (s.addWide (R.LNK_FEC_CORR_LO.count (linkDie l) (linkIdx l)) corrected) l (flitWord flit 0)
    exact ⟨hstate.trans hu, congrArg LinkView.rxSeq hview, congrArg LinkView.nakSent hview, congrArg LinkView.lastFlit hview,
      List.isPrefixOf_iff_prefix.mpr hstore, congrArg MemState.waiting hmem, hpat⟩
  case discarded => exact flitReceive_of_badCheck corrected hl hu hok
  case quiet =>
    obtain ⟨k', new, ⟨_, ⟨f, hf, hstore⟩, htx, hsent, _⟩, hnew, ht⟩ := keepaliveFlit_formed hl hu hq hroom
    rw [ht]
    have hlink : tget (s.modLink l fun _ => k').lnk.links l = k' := by simp
    have hlen := List.length_pos_iff.mpr hnew
    refine ⟨?_, ?_, ?_, ?_, ?_, rfl⟩ <;> simp only [hlink]
    · simp [hstore]
    · simp [hstore, hf]
    · exact htx
    · exact hsent
    · simpa using hlen
  case hintWaits =>
    rw [show hint slot angle watts duration tag s = _ from hintMessage_of_early hh ht hn hp hs hlead ha hw]
    exact ⟨congrArg SlotPower.hints (slotPower_modSlotPower s slot fun x => { x with hints := x.hints + 1 }), rfl, rfl⟩
  case activity =>
    have hlnk : (activityPower slot gauge counters (activityCounted s slot)).lnk = (activityCounted s slot).lnk :=
      (activityPower_keeps (m := 16392) rfl (keeps_refl _ _)).touch .lnk rfl
    obtain ⟨hcounters, hreported, hstamp⟩ := activityPower_reported slot gauge counters (activityCounted s slot)
    rw [activity_of_up gauge tag slow counters hslot hu, hlnk]
    have hnow : (activityCounted s slot).groupNow = s.gt.time :=
      groupNow_of_dieUp (s := activityCounted s slot) (dieUp_of_linkState hu (by decide))
    rw [hnow] at hstamp
    exact ⟨by simp [activityCounted], by simp [activityCounted], by simp [activityCounted], hcounters, hreported, hstamp⟩
  case activityLost => exact if_neg (by simp [hslot, hu, ht])
  case delivered => exact (mgmtReq_of_port hub tag hl hu hn h8).trans (if_pos hhub)
  case reqForwarded =>
    rw [mgmtReq_of_port hub tag hl hu hn h8, if_neg hhub]
    exact mgmtForwardOn_of_path true tag payload hhub hp hup hw ht
  case reqRejected => exact mgmtReq_of_accelerator hub tag (by omega) hu hn h8
  case reqBad =>
    rw [mgmtReq_of_badLength hub tag hl hu hn]
    exact (linkDown_wentDown 0 (dieUp_of_linkState hu (by decide)) (by decide)).shown
  case respForwarded =>
    rw [mgmtResp_of_port hub tag hl hu hn h8]
    exact mgmtForwardOn_of_path false tag payload hhub hp hup hw ht
  case respRejected => exact mgmtResp_of_accelerator hub tag (by omega) hu hn h8
  case respBad =>
    rw [mgmtResp_of_badLength hub tag hl hu hn]
    exact (linkDown_wentDown 0 (dieUp_of_linkState hu (by decide)) (by decide)).shown
  case retrainNone =>
    subst hm
    exact linkRetrain_of_dieUp 0 hup
  case retrain =>
    subst hm hl
    rw [linkRetrain_of_dieUp _ hup, retrainLinks_single hi hu]
    rw [linkState_congr _ (answer_sup ..) (answer_regs ..), rd_answer, answer_lnk]
    obtain ⟨hstate, hcause, hdown⟩ := (linkDown_wentDown (cause := 9) 0 (dieUp_of_linkState hu (by decide)) (by decide)).shown
    exact ⟨hstate, hcause, hdown, rfl⟩
  case clear =>
    subst hm hl
    have hstate := linkState_clearLatchedLink s (linkOf die i)
    rw [if_pos hu] at hstate
    rw [linkClear_of_dieUp _ hup, clearLinks_single hi]
    refine ⟨hstate, ?_, ?_⟩ <;> rw [clearLatchedLink_of_latched hu]
    · simp
    · rfl

end Sys2Proof.Proofs
end

section
/-! PROOFS. CLEAR_LATCH of a firmware processor, and the processors of a die that is absent (R367, R374, R402). -/

namespace Sys2Proof.Proofs
open Sys2Proof.Machine Sys2Proof.Laws

/-- A field below the FW_PROC registers is another than a processor's state. -/
theorem rd_procState_wr (s : State) {f : Fld} (v p : Nat) (h : f.key < 0x300010 * 32) :
    (s.wr f v).rd (R.FW_PROC.state p) = s.rd (R.FW_PROC.state p) := by
  refine rd_wr_other _ _ _ _ (Nat.ne_of_lt (Nat.lt_of_lt_of_le h ?_))
  unfold R.FW_PROC.state R.fld
  simp only
  omega

theorem rd_procState_dutiesUnhalt (s : State) (p q : Nat) : (dutiesUnhalt s p).rd (R.FW_PROC.state q) = s.rd (R.FW_PROC.state q) := by
  unfold dutiesUnhalt
  split
  · exact rd_procState_wr _ _ _ (by decide)
  · split
    · exact rd_procState_wr _ _ _ (by decide)
    · rfl

/-- R374, R367: a halted processor that is revived restarts where its die runs, and is stopped where it does not. -/
theorem rd_procState_revive {s : State} {p : Nat} (hp : p < 8) (h : s.rd (R.FW_PROC.state p) = 3) :
    (revive s p).rd (R.FW_PROC.state p) = if procAbsent s p = true then 0 else 2 := by
  unfold revive
  rw [if_neg (by simp [h, hp])]
  extract_lets a b c d
  have hc : c.rd (R.FW_PROC.state p) = 2 := (rd_procState_wr _ _ _ (by decide)).trans (rd_wr_same _ _ _)
  show State.rd (if procAbsent s p = true then _ else _) _ = _
  split
  · exact rd_wr_same _ _ _
  · rw [rd_procState_dutiesUnhalt]
    exact (rd_procState_wr _ _ _ (by decide)).trans hc

/-- What CLEAR_LATCH of a processor leaves in the registers, where the message is acted on. -/
theorem clearLatchProcessor_regs {s u : State} {m : Msg} {i : Nat} (h : takesUp s { code := 0x042 } m = some u) (hi : i < 8) :
    (clearLatchProcessor m i s).regs = (revive u i).regs := by
  obtain ⟨a, ha⟩ := serve_takesUp h (fun _ => decide (i < 8)) (fun s => okay (revive s i))
    (fun s => if i = 0 ∧ m.role = .rackManager ∧ s.rd (R.FW_PROC.state 0) = 3 then some (revive s 0) else none) (decide_eq_true hi)
  rw [clearLatchProcessor, ha, keepAnswer_regs, okay, reply_ok, emit_regs]

theorem rd_procState_clearLatchProcessor {s u : State} {m : Msg} {i : Nat} (h : takesUp s { code := 0x042 } m = some u) (hi : i < 8)
    (hs : u.rd (R.FW_PROC.state i) = 3) :
    (clearLatchProcessor m i s).rd (R.FW_PROC.state i) = if procAbsent u i = true then 0 else 2 := by
  rw [rd_eq_of_regs _ _ _ (clearLatchProcessor_regs h hi), rd_procState_revive hi hs]

/-- The device of `haltedQueueProc` whose Steward runs and whose session the rack manager holds: both dies are stopped, processor 4 is halted. -/
def heldHaltedProc : State :=
  { (haltedQueueProc.wr (R.FW_PROC.state 0) 1).wr R.MGT_STATUS.port_up 1 with
    sup := { wardenOn := true }, mgt := { session := some { id := 9, role := .rackManager, source := 0, key := 0 } } }

/-- The first message of that session. -/
def firstOfSession : Msg := { session := 9, sequence := 1 }

theorem heldHaltedProc_takesUp : ∃ u, takesUp heldHaltedProc { code := 0x042 } firstOfSession = some u ∧
    u.rd (R.FW_PROC.state 4) = 3 ∧ procAbsent u 4 = true :=
  ⟨_, rfl, by decide, by decide⟩

/-- Refutes O39: its clause of the processors leaves out those of an absent die. In `heldHaltedProc` H0 is stopped and its processor 4
halted, and CLEAR_LATCH leaves it stopped, with state 0, to start when H0 is released (R367). Where the die runs the clause is
`rd_procState_clearLatchProcessor`. -/
theorem not_latchMessages : ¬ Obligations.LatchMessages := by
  unfold Obligations.LatchMessages
  intro ⟨_, _, _, _, _, _, _, processor, _⟩
  obtain ⟨u, hu, hhalted, habsent⟩ := heldHaltedProc_takesUp
  obtain ⟨_, hclaimed, _⟩ := (does_iff rfl).mp (processor heldHaltedProc firstOfSession u 4 hu (by decide) hhalted)
  have hleft := rd_procState_clearLatchProcessor hu (by decide) hhalted
  rw [if_pos habsent] at hleft
  exact absurd (hclaimed.symm.trans hleft) (by decide)

end Sys2Proof.Proofs
end

section
/-! PROOFS. The invariant at reset and along every step (R340, R418, R43, R53). Of each command the laws of what its operation keeps are
gathered into one, and a step is either a command taken from the queue or one µs that passes. -/

namespace Sys2Proof.Proofs
open Sys2Proof.Machine Sys2Proof.Laws

/-- Settles O57: at reset the pools, the ring, the queue and the dies' own trackers are empty, and the cadence begins at phase 0. -/
theorem invAtReset : Obligations.InvAtReset := by
  unfold Obligations.InvAtReset
  exact ⟨rfl, ⟨by decide, nofun⟩, by decide, by decide, nofun⟩

/-- Every command answers a next state. Up to it the queue and the invariant stay, no one-time bit falls, and only the parts of its
footprint change. -/
theorem exec_keeps (i : Instr) (s : State) : ∃ t, exec i s = .next t ∧ Keeps (partMask (footprint i)) s t := by
  cases i
  all_goals
    refine ⟨_, rfl, ?_⟩
    dsimp only [footprint]
  -- Registers
  case registerWrite => exact registerWrite_keeps rfl (keeps_refl _ s)
  case readClear => exact readClear_keeps rfl (keeps_refl _ s)
  case latchedLowRead => exact latchedLowRead_keeps rfl (keeps_refl _ s)
  -- Package, dies and domains (chapter 1)
  case standbyRise => exact standbyRise_keeps rfl (keeps_refl _ s)
  case standbyFall => exact standbyFall_keeps rfl (keeps_refl _ s)
  case wardenPowerOnReset => exact wardenPowerOnReset_keeps rfl (keeps_refl _ s)
  case wardenRstN => exact wardenRstN_keeps rfl (keeps_refl _ s)
  case loaderVerify => exact loaderVerify_keeps rfl (keeps_refl _ s)
  case domainSwitchRequest => exact domainSwitchRequest_keeps rfl (keeps_refl _ s)
  case domainOnComplete => exact domainOnComplete_keeps rfl (keeps_refl _ s)
  case referenceCheck => exact referenceCheck_keeps rfl (keeps_refl _ s)
  case hubReferenceRecover => exact hubReferenceRecover_keeps rfl (keeps_refl _ s)
  case hubResetSingle => exact hubResetSingle_keeps rfl (keeps_refl _ s)
  case hubRelease => exact hubRelease_keeps rfl (keeps_refl _ s)
  case governorEstimate => exact governorEstimate_keeps rfl (keeps_refl _ s)
  case governorRescale => exact governorRescale_keeps rfl (keeps_refl _ s)
  case governorRelease => exact governorRelease_keeps rfl (keeps_refl _ s)
  case packageLimitUnmet => exact packageLimitUnmet_keeps rfl (keeps_refl _ s)
  case packageLimitClear => exact packageLimitClear_keeps rfl (keeps_refl _ s)
  case domainOffRequest => exact domainOffRequest_keeps rfl (keeps_refl _ s)
  -- Cadence (chapter 2)
  case cadenceTick => exact cadenceTick_keeps rfl (keeps_refl _ s)
  case cadenceStall => exact cadenceStall_keeps rfl (keeps_refl _ s)
  case stepMarkEffect => exact stepMarkEffect_keeps rfl (keeps_refl _ s)
  case stepMarkMessage => exact stepMarkMessage_keeps rfl (keeps_refl _ s)
  case phaseMark => exact phaseMark_keeps rfl (keeps_refl _ s)
  case markEffect => exact markEffect_keeps rfl (keeps_refl _ s)
  case toleranceWrite => exact toleranceWrite_keeps rfl (keeps_refl _ s)
  case toleranceApply => exact toleranceApply_keeps rfl (keeps_refl _ s)
  case timeRequestSend => exact timeRequestSend_keeps rfl (keeps_refl _ s)
  case timeRequest => exact timeRequest_keeps rfl (keeps_refl _ s)
  case timeReply => exact timeReply_keeps rfl (keeps_refl _ s)
  case timeReplyMissed => exact timeReplyMissed_keeps rfl (keeps_refl _ s)
  case gtHoldover => exact gtHoldover_keeps rfl (keeps_refl _ s)
  -- Patterns, their rows and memberships (chapters 3 to 6)
  case rowTrigger => exact rowTrigger_keeps rfl (keeps_refl _ s)
  case fenceComplete => exact fenceComplete_keeps rfl (keeps_refl _ s)
  case collectiveComplete => exact collectiveComplete_keeps rfl (keeps_refl _ s)
  case arrayComplete => exact arrayComplete_keeps rfl (keeps_refl _ s)
  case sliceComplete => exact sliceComplete_keeps rfl (keeps_refl _ s)
  case fusedComplete => exact fusedComplete_keeps rfl (keeps_refl _ s)
  case digestComplete => exact digestComplete_keeps rfl (keeps_refl _ s)
  case rowLimitExpire => exact rowLimitExpire_keeps rfl (keeps_refl _ s)
  case descriptorTakeUp => exact descriptorTakeUp_keeps rfl (keeps_refl _ s)
  case patNextWrite => exact patNextWrite_keeps rfl (keeps_refl _ s)
  case patternRestart => exact patternRestart_keeps rfl (keeps_refl _ s)
  case forcedStepMark => exact forcedStepMark_keeps rfl (keeps_refl _ s)
  case msetPendingWrite => exact msetPendingWrite_keeps rfl (keeps_refl _ s)
  -- Planned traffic (chapters 4 and 7)
  case plannedFlitArrive => exact plannedFlitArrive_keeps rfl (keeps_refl _ s)
  case pdata => exact pdata_keeps rfl (keeps_refl _ s)
  case pack => exact pack_keeps rfl (keeps_refl _ s)
  -- Open traffic and the pools (chapter 6)
  case read | write | writeMasked | readBulk | writeBulk | swap | cas | fetchAdd | fetchAnd | fetchOr | fetchXor | fetchMin |
      fetchMax | fetchUmin | fetchUmax | fence =>
    exact enterOpen_keeps rfl (keeps_refl _ s)
  case openDispatch => exact openDispatch_keeps rfl (keeps_refl _ s)
  case openPerformed => exact openPerformed_keeps rfl (keeps_refl _ s)
  case correctionWriteback => exact correctionWriteback_keeps rfl (keeps_refl _ s)
  case accOpenResponse => exact accOpenResponse_keeps rfl (keeps_refl _ s)
  case openTimeout => exact openTimeout_keeps rfl (keeps_refl _ s)
  case telemetryRefresh => exact telemetryRefresh_keeps rfl (keeps_refl _ s)
  case wardenSnapshot => exact wardenSnapshot_keeps rfl (keeps_refl _ s)
  case memOpenCfgWrite => exact memOpenCfgWrite_keeps rfl (keeps_refl _ s)
  case scrubRead => exact scrubRead_keeps rfl (keeps_refl _ s)
  case response => exact openResponse_keeps rfl (keeps_refl _ s)
  -- Links (chapter 7)
  case flitReceive => exact flitReceive_keeps rfl (keeps_refl _ s)
  case keepaliveFlit => exact keepaliveFlit_keeps rfl (keeps_refl _ s)
  case laneSignalLoss => exact laneSignalLoss_keeps rfl (keeps_refl _ s)
  case linkSilenceTimeout => exact linkSilenceTimeout_keeps rfl (keeps_refl _ s)
  case linkHoldoffExpire => exact linkHoldoffExpire_keeps rfl (keeps_refl _ s)
  case linkTrainStart => exact linkTrainStart_keeps rfl (keeps_refl _ s)
  case trainStepComplete => exact trainStepComplete_keeps rfl (keeps_refl _ s)
  case trainTimeout => exact trainTimeout_keeps rfl (keeps_refl _ s)
  case peerId => exact peerId_keeps rfl (keeps_refl _ s)
  case hint => exact hint_keeps rfl (keeps_refl _ s)
  case activity => exact activity_keeps rfl (keeps_refl _ s)
  case activityLost => exact activityLost_keeps rfl (keeps_refl _ s)
  case mgmtReq => exact mgmtReq_keeps rfl (keeps_refl _ s)
  case autoAdmit => exact autoAdmit_keeps rfl (keeps_refl _ s)
  case identityRead => exact identityReadEvent_keeps rfl (keeps_refl _ s)
  case modulePresencePoll => exact modulePresencePoll_keeps rfl (keeps_refl _ s)
  case moduleFlagPoll => exact moduleFlagPoll_keeps rfl (keeps_refl _ s)
  case linkRetrain => exact linkRetrain_keeps rfl (keeps_refl _ s)
  case linkClear => exact linkClear_keeps rfl (keeps_refl _ s)
  case accPresent => exact accPresentEvent_keeps rfl (keeps_refl _ s)
  case mgmtResp => exact mgmtResp_keeps rfl (keeps_refl _ s)
  -- Cast on and bind off (chapter 8)
  case accRemoved => exact accRemoved_keeps rfl (keeps_refl _ s)
  case trayCastOn => exact trayCastOn_keeps rfl (keeps_refl _ s)
  case trayBindOff => exact trayBindOff_keeps rfl (keeps_refl _ s)
  case slotCastOn => exact slotCastOn_keeps rfl (keeps_refl _ s)
  case slotBindOff => exact slotBindOff_keeps rfl (keeps_refl _ s)
  case castOnGroupEnable => exact castOnGroupEnable_keeps rfl (keeps_refl _ s)
  case railPgChange => exact railPgEvent_keeps rfl (keeps_refl _ s)
  case railGood => exact railGood_keeps rfl (keeps_refl _ s)
  case railNotGood => exact railNotGood_keeps rfl (keeps_refl _ s)
  case railFault => exact railFaultEvent_keeps rfl (keeps_refl _ s)
  case perstRelease => exact perstRelease_keeps rfl (keeps_refl _ s)
  case bindOffGroupDrop => exact bindOffGroupDrop_keeps rfl (keeps_refl _ s)
  case railVoutRead => exact railVoutRead_keeps rfl (keeps_refl _ s)
  case railFallen => exact railFallen_keeps rfl (keeps_refl _ s)
  case railNotFallen => exact railNotFallen_keeps rfl (keeps_refl _ s)
  case inputSettleExpire => exact inputSettleExpire_keeps rfl (keeps_refl _ s)
  -- Power and gauge (chapter 9)
  case ksCalibrate => exact ksCalibrate_keeps rfl (keeps_refl _ s)
  case auxUpdate => exact auxUpdate_keeps rfl (keeps_refl _ s)
  case trayEstimate => exact trayEstimate_keeps rfl (keeps_refl _ s)
  case averageRefresh => exact averageRefresh_keeps rfl (keeps_refl _ s)
  case throttleHoldExpire => exact throttleHoldExpire_keeps rfl (keeps_refl _ s)
  case capDutyStep => exact capDutyStep_keeps rfl (keeps_refl _ s)
  case capUnmet => exact capUnmet_keeps rfl (keeps_refl _ s)
  case guardDutyStep => exact guardDutyStep_keeps rfl (keeps_refl _ s)
  case voltageCutWrite => exact voltageCutWrite_keeps rfl (keeps_refl _ s)
  case voltageConfirm => exact voltageConfirm_keeps rfl (keeps_refl _ s)
  case gaugeMismatch => exact gaugeMismatch_keeps rfl (keeps_refl _ s)
  case hubAllowance => exact hubAllowance_keeps rfl (keeps_refl _ s)
  case powerReleaseWrites => exact powerReleaseWrites_keeps rfl (keeps_refl _ s)
  case rampLimiterTick => exact rampLimiterTick_keeps rfl (keeps_refl _ s)
  case rampWindowEnd => exact rampWindowEnd_keeps rfl (keeps_refl _ s)
  case energyAttribute => exact energyAttribute_keeps rfl (keeps_refl _ s)
  case gaugeResult => exact gaugeResult_keeps rfl (keeps_refl _ s)
  case gaugeApply => exact gaugeApply_keeps rfl (keeps_refl _ s)
  case slowPeriod => exact slowPeriod_keeps rfl (keeps_refl _ s)
  -- Cooling, leaks and monitors (chapter 10)
  case accTempRead => exact accTempRead_keeps rfl (keeps_refl _ s)
  case thermistorSample => exact thermistorSample_keeps rfl (keeps_refl _ s)
  case surrogateTick => exact surrogateTick_keeps rfl (keeps_refl _ s)
  case modelResume => exact modelResume_keeps rfl (keeps_refl _ s)
  case valveControl => exact valveControl_keeps rfl (keeps_refl _ s)
  case pumpFanControl => exact pumpFanControl_keeps rfl (keeps_refl _ s)
  case fanStartTimeout => exact fanStartTimeout_keeps rfl (keeps_refl _ s)
  case fanKick => exact fanKick_keeps rfl (keeps_refl _ s)
  case tachWindow => exact tachWindow_keeps rfl (keeps_refl _ s)
  case pumpSpeedFail => exact pumpSpeedFail_keeps rfl (keeps_refl _ s)
  case fanProbe => exact fanProbe_keeps rfl (keeps_refl _ s)
  case valveFlag => exact valveFlag_keeps rfl (keeps_refl _ s)
  case floorTick => exact floorTick_keeps rfl (keeps_refl _ s)
  case thermalCeiling => exact thermalCeiling_keeps rfl (keeps_refl _ s)
  case hubThermalThrottle => exact hubThermalThrottle_keeps rfl (keeps_refl _ s)
  case overJunction => exact overJunction_keeps rfl (keeps_refl _ s)
  case kilnTrip => exact kilnTripEvent_keeps rfl (keeps_refl _ s)
  case kilnTripClear => exact kilnTripClear_keeps rfl (keeps_refl _ s)
  case accThermtrip => exact accThermtrip_keeps rfl (keeps_refl _ s)
  case thermtripValveExpire => exact thermtripValveExpire_keeps rfl (keeps_refl _ s)
  case leakSample => exact leakSample_keeps rfl (keeps_refl _ s)
  case wetZoneOrder => exact wetZoneOrder_keeps rfl (keeps_refl _ s)
  case zoneUnguarded => exact zoneUnguarded_keeps rfl (keeps_refl _ s)
  case zoneUnguardClear => exact zoneUnguardClear_keeps rfl (keeps_refl _ s)
  case leakClearWrite => exact leakClearWrite_keeps rfl (keeps_refl _ s)
  case coolClearFan => exact coolClearFan_keeps rfl (keeps_refl _ s)
  case coolClearPump => exact coolClearPump_keeps rfl (keeps_refl _ s)
  case coolClearValve => exact coolClearValve_keeps rfl (keeps_refl _ s)
  case coolClearModel => exact coolClearModel_keeps rfl (keeps_refl _ s)
  case rcTrim => exact rcTrim_keeps rfl (keeps_refl _ s)
  case voltAlarm => exact voltAlarm_keeps rfl (keeps_refl _ s)
  case droopAlarm => exact droopAlarm_keeps rfl (keeps_refl _ s)
  case ringOscMeasure => exact ringOscMeasure_keeps rfl (keeps_refl _ s)
  case monSelWrite => exact monSelWrite_keeps rfl (keeps_refl _ s)
  -- Integrity and silent errors (chapters 11 and 12)
  case crossCheckReport => exact crossCheckReport_keeps rfl (keeps_refl _ s)
  case crossCheckMissing => exact crossCheckMissing_keeps rfl (keeps_refl _ s)
  case containmentRelease => exact containmentRelease_keeps rfl (keeps_refl _ s)
  case memoryRetrainComplete => exact memoryRetrainComplete_keeps rfl (keeps_refl _ s)
  case partitionWipeComplete => exact partitionWipeComplete_keeps rfl (keeps_refl _ s)
  case hubLatchRelease => exact hubLatchRelease_keeps rfl (keeps_refl _ s)
  case shadowComplete => exact shadowComplete_keeps rfl (keeps_refl _ s)
  case swatchOrder => exact swatchOrder_keeps rfl (keeps_refl _ s)
  case swatchDue => exact swatchDue_keeps rfl (keeps_refl _ s)
  case swatchEnd => exact swatchEnd_keeps rfl (keeps_refl _ s)
  -- Firmware (chapter 13)
  case watchdogExpire => exact watchdogExpire_keeps rfl (keeps_refl _ s)
  case watchdogKick => exact watchdogKick_keeps rfl (keeps_refl _ s)
  case processorTrap => exact processorTrap_keeps rfl (keeps_refl _ s)
  case processorRelease => exact processorRelease_keeps rfl (keeps_refl _ s)
  case dutiesResumed => exact dutiesResumed_keeps rfl (keeps_refl _ s)
  case restartTimeout => exact restartTimeout_keeps rfl (keeps_refl _ s)
  case processorRevive => exact processorRevive_keeps rfl (keeps_refl _ s)
  case processorRestartOrder => exact processorRestartOrder_keeps rfl (keeps_refl _ s)
  case arbPost => exact arbPost_keeps rfl (keeps_refl _ s)
  case arbDraw => exact arbDraw_keeps rfl (keeps_refl _ s)
  case arbTicketWrite => exact arbTicketWrite_keeps rfl (keeps_refl _ s)
  -- Management messages (chapter 14)
  case reassemblyTimeout => exact reassemblyTimeout_keeps rfl (keeps_refl _ s)
  case sessionOpen => exact sessionOpen_keeps rfl (keeps_refl _ s)
  case sessionClose => exact sessionClose_keeps rfl (keeps_refl _ s)
  case features => exact features_keeps rfl (keeps_refl _ s)
  case budgetSet => exact budgetSet_keeps rfl (keeps_refl _ s)
  case capSet => exact capSet_keeps rfl (keeps_refl _ s)
  case gaugeFixOn => exact gaugeFixOn_keeps rfl (keeps_refl _ s)
  case gaugeFixOff => exact gaugeFixOff_keeps rfl (keeps_refl _ s)
  case partitionPowerOn => exact partitionPowerOn_keeps rfl (keeps_refl _ s)
  case partitionPowerOff => exact partitionPowerOff_keeps rfl (keeps_refl _ s)
  case powerOff => exact powerOff_keeps rfl (keeps_refl _ s)
  case patternSelect => exact patternSelect_keeps rfl (keeps_refl _ s)
  case admitMsg => exact admitMsg_keeps rfl (keeps_refl _ s)
  case expel => exact expel_keeps rfl (keeps_refl _ s)
  case telemetryRead => exact telemetryRead_keeps rfl (keeps_refl _ s)
  case logRead => exact logRead_keeps rfl (keeps_refl _ s)
  case traceSet => exact traceSet_keeps rfl (keeps_refl _ s)
  case recorderFreeze => exact recorderFreeze_keeps rfl (keeps_refl _ s)
  case recorderRelease => exact recorderRelease_keeps rfl (keeps_refl _ s)
  case recorderRead => exact recorderRead_keeps rfl (keeps_refl _ s)
  case swatchRun => exact swatchRun_keeps rfl (keeps_refl _ s)
  case swatchResult => exact swatchResult_keeps rfl (keeps_refl _ s)
  case clearLatchFan => exact clearLatchFan_keeps rfl (keeps_refl _ s)
  case clearLatchPump => exact clearLatchPump_keeps rfl (keeps_refl _ s)
  case clearLatchValve => exact clearLatchValve_keeps rfl (keeps_refl _ s)
  case clearLatchModel => exact clearLatchModel_keeps rfl (keeps_refl _ s)
  case clearLatchZone => exact clearLatchZone_keeps rfl (keeps_refl _ s)
  case clearLatchLink => exact clearLatchLink_keeps rfl (keeps_refl _ s)
  case clearLatchProcessor => exact clearLatchProcessor_keeps rfl (keeps_refl _ s)
  case clearLatchHubHold => exact clearLatchHubHold_keeps rfl (keeps_refl _ s)
  case sessionLeaseExpire => exact sessionLeaseExpire_keeps rfl (keeps_refl _ s)
  case actAlone => exact actAlone_keeps rfl (keeps_refl _ s)
  case lockoutExpire => exact lockoutExpire_keeps rfl (keeps_refl _ s)
  case icmpv6Echo => exact icmpv6Echo_keeps rfl (keeps_refl _ s)
  case neighbourDiscovery => exact neighbourDiscovery_keeps rfl (keeps_refl _ s)
  case datagramFragment => exact datagramFragment_keeps rfl (keeps_refl _ s)
  case reservedMessageCode => exact reservedMessageCode_keeps rfl (keeps_refl _ s)
  case managementPortLink => exact managementPortLink_keeps rfl (keeps_refl _ s)
  -- Event recorder (chapter 15)
  case caskWrite => exact caskWrite_keeps rfl (keeps_refl _ s)
  case blockEraseComplete => exact blockEraseComplete_keeps rfl (keeps_refl _ s)
  case runClose => exact runClose_keeps rfl (keeps_refl _ s)
  case headerSnapshot => exact headerSnapshot_keeps rfl (keeps_refl _ s)
  case caskScan => exact caskScan_keeps rfl (keeps_refl _ s)
  case freezeExpire => exact freezeExpire_keeps rfl (keeps_refl _ s)
  case operatingSecond => exact operatingSecond_keeps rfl (keeps_refl _ s)
  -- Start-up and update (chapters 16 and 17)
  case wardenVerify => exact wardenVerify_keeps rfl (keeps_refl _ s)
  case configValidate => exact configValidate_keeps rfl (keeps_refl _ s)
  case hubSectionsLoad => exact hubSectionsLoad_keeps rfl (keeps_refl _ s)
  case memoryTrained => exact memoryTrained_keeps rfl (keeps_refl _ s)
  case teststoreVerify => exact teststoreVerify_keeps rfl (keeps_refl _ s)
  case updateBegin => exact updateBegin_keeps rfl (keeps_refl _ s)
  case updateBlock => exact updateBlock_keeps rfl (keeps_refl _ s)
  case updateEnd => exact updateEnd_keeps rfl (keeps_refl _ s)
  case skeinOpen => exact skeinOpen_keeps rfl (keeps_refl _ s)
  case skeinLoad => exact skeinLoad_keeps rfl (keeps_refl _ s)
  case skeinPublish => exact skeinPublish_keeps rfl (keeps_refl _ s)
  case skeinWithdraw => exact skeinWithdraw_keeps rfl (keeps_refl _ s)
  case activateWarden => exact activateWarden_keeps rfl (keeps_refl _ s)
  case activateHubctl => exact activateHubctl_keeps rfl (keeps_refl _ s)
  case activateFullRestart => exact activateFullRestart_keeps rfl (keeps_refl _ s)
  case regionEraseComplete => exact regionEraseComplete_keeps rfl (keeps_refl _ s)
  case transferIdleExpire => exact transferIdleExpire_keeps rfl (keeps_refl _ s)
  case tricklePoll => exact tricklePoll_keeps rfl (keeps_refl _ s)
  case tricklePull => exact tricklePull_keeps rfl (keeps_refl _ s)
  case skeinReceive => exact skeinReceive_keeps rfl (keeps_refl _ s)
  case pushChunkStatus => exact pushChunkStatus_keeps rfl (keeps_refl _ s)
  case pushTimeout => exact pushTimeout_keeps rfl (keeps_refl _ s)
  case svnAdvance => exact svnAdvance_keeps rfl (keeps_refl _ s)
  case settingsCompact => exact settingsCompact_keeps rfl (keeps_refl _ s)
  -- Security (chapter 18)
  case attestReport => exact attestReport_keeps rfl (keeps_refl _ s)
  case attestCertificate => exact attestCertificate_keeps rfl (keeps_refl _ s)
  case keyStage => exact keyStage_keeps rfl (keeps_refl _ s)
  case provision => exact provision_keeps rfl (keeps_refl _ s)
  case deploy => exact deploy_keeps rfl (keeps_refl _ s)
  case returnConsent => exact returnConsent_keeps rfl (keeps_refl _ s)
  case returnPart => exact returnPart_keeps rfl (keeps_refl _ s)
  case retire => exact retire_keeps rfl (keeps_refl _ s)
  case revoke => exact revoke_keeps rfl (keeps_refl _ s)
  case unlock => exact unlock_keeps rfl (keeps_refl _ s)
  case lock => exact lock_keeps rfl (keeps_refl _ s)
  case consentLapse => exact consentLapse_keeps rfl (keeps_refl _ s)
  case debugLimitExpire => exact debugLimitExpire_keeps rfl (keeps_refl _ s)
  case tokenShift => exact tokenShift_keeps rfl (keeps_refl _ s)
  case makerProgramming => exact makerProgramming_keeps rfl (keeps_refl _ s)
  case debugHalt => exact debugHalt_keeps rfl (keeps_refl _ s)
  -- Pins and injection (chapters 19 and 5)
  case clockHeldLow => exact clockHeldLow_keeps rfl (keeps_refl _ s)
  case arrInjectWrite => exact arrInjectWrite_keeps rfl (keeps_refl _ s)

/-- R340, R418, R43: the invariant speaks neither of the queue of commands nor of the time. -/
theorem inv_setPending (s : State) (q : List Instr) : Inv { s with pending := q } ↔ Inv s := Iff.rfl

theorem inv_setNow (s : State) (n : Nat) : Inv { s with now := n } ↔ Inv s := Iff.rfl

/-- A step lets one µs pass, or takes a command from the queue, which keeps what `exec_keeps` says. -/
theorem step_cases {s t : State} (h : step s = .next t) :
    t = { s with now := s.now + 1 } ∨
    ∃ c rest, s.pending = c :: rest ∧ Keeps (partMask (footprint c)) { s with pending := rest } t := by
  unfold step at h
  split at h
  case h_1 => exact .inl (Host.Outcome.next.inj h).symm
  case h_2 c rest hq =>
    obtain ⟨u, hu, hk⟩ := exec_keeps c { s with pending := rest }
    obtain rfl := Host.Outcome.next.inj (hu.symm.trans h)
    exact .inr ⟨c, rest, hq, hk⟩

/-- Settles O58: the µs that passes is not spoken of by the invariant, and a command taken from the queue keeps it. -/
theorem invKept : Obligations.InvKept := by
  unfold Obligations.InvKept
  intro s t hinv hstep
  rcases step_cases hstep with rfl | ⟨c, rest, _, hkeeps⟩
  · exact (inv_setNow s _).mpr hinv
  · exact hkeeps.inv ((inv_setPending s rest).mpr hinv)

end Sys2Proof.Proofs
end

section
/-! PROOFS. What is held and kept of an observed unit, by each operation on it (R349 to R364), and the unit of an accelerator slot whose
identity memory is read (R350). -/

namespace Sys2Proof.Proofs
open Sys2Proof.Machine Sys2Proof.Laws

/-! ## The accessors of a unit rest on one part of the state each -/

theorem unitLive_of_sdc {s t : State} (h : t.sdc = s.sdc) (n : Nat) : unitLive t n = unitLive s n := by
  rw [unitLive, h, unitLive]

theorem unitKept_of_flash {s t : State} (h : t.flash = s.flash) (n : Nat) : unitKept t n = unitKept s n := by
  rw [unitKept, h, unitKept]

theorem tileFenced_of_mem {s t : State} (h : t.mem = s.mem) (n : Nat) : tileFenced t n = tileFenced s n := by
  rw [tileFenced, h, tileFenced]

/-- R365: the count of a unit's faults rests on its history and the operating seconds. -/
theorem historyCount_congr {s t : State} {n : Nat} (hl : (unitLive t n).history = (unitLive s n).history)
    (hr : t.rd R.REC_SECONDS.seconds = s.rd R.REC_SECONDS.seconds) : historyCount t n = historyCount s n := by
  rw [historyCount, hl, hr, historyCount]

theorem isTile_of_lt {n : Nat} (h : n < 128) : isTile n = true := decide_eq_true h

theorem not_isTile_slot (slot : Nat) : isTile (128 + slot) = false := decide_eq_false (by omega)

theorem tile_die_lt_two {n : Nat} (h : isTile n = true) : n / 64 < 2 := by
  have := of_decide_eq_true h
  omega

/-! ## A unit changed -/

@[simp] theorem unitLive_modUnit_same (s : State) (n : Nat) (f : UnitLive → UnitLive) : unitLive (modUnit s n f) n = f (unitLive s n) :=
  tget_tmod_same _ _ _

theorem unitLive_modUnit_other (s : State) {n k : Nat} (f : UnitLive → UnitLive) (h : n ≠ k) :
    unitLive (modUnit s n f) k = unitLive s k :=
  tget_tmod_other _ _ h

@[simp] theorem unitKept_modKept_same (s : State) (n : Nat) (f : UnitKept → UnitKept) : unitKept (modKept s n f) n = f (unitKept s n) :=
  tget_tmod_same _ _ _

@[simp] theorem unitKept_modUnit (s : State) (n k : Nat) (f : UnitLive → UnitLive) : unitKept (modUnit s n f) k = unitKept s k := rfl
@[simp] theorem unitLive_modKept (s : State) (n k : Nat) (f : UnitKept → UnitKept) : unitLive (modKept s n f) k = unitLive s k := rfl
@[simp] theorem tileFenced_modUnit (s : State) (n k : Nat) (f : UnitLive → UnitLive) : tileFenced (modUnit s n f) k = tileFenced s k := rfl
@[simp] theorem tileFenced_modKept (s : State) (n k : Nat) (f : UnitKept → UnitKept) : tileFenced (modKept s n f) k = tileFenced s k := rfl
@[simp] theorem rd_modUnit (s : State) (n : Nat) (f : UnitLive → UnitLive) (g : Fld) : (modUnit s n f).rd g = s.rd g := rfl
@[simp] theorem rd_modKept (s : State) (n : Nat) (f : UnitKept → UnitKept) (g : Fld) : (modKept s n f).rd g = s.rd g := rfl

/-! ## Counts, fields and records leave the units -/

@[simp] theorem unitLive_bump (s : State) (c : Cnt) (n : Nat) : unitLive (s.bump c) n = unitLive s n := unitLive_of_sdc (Laws.bump_sdc s c) n
@[simp] theorem unitKept_bump (s : State) (c : Cnt) (n : Nat) : unitKept (s.bump c) n = unitKept s n := unitKept_of_flash (bump_flash s c) n
@[simp] theorem tileFenced_bump (s : State) (c : Cnt) (n : Nat) : tileFenced (s.bump c) n = tileFenced s n :=
  tileFenced_of_mem (bump_mem s c) n
@[simp] theorem unitLive_wr (s : State) (f : Fld) (v n : Nat) : unitLive (s.wr f v) n = unitLive s n := rfl
@[simp] theorem unitKept_wr (s : State) (f : Fld) (v n : Nat) : unitKept (s.wr f v) n = unitKept s n := rfl
@[simp] theorem tileFenced_wr (s : State) (f : Fld) (v n : Nat) : tileFenced (s.wr f v) n = tileFenced s n := rfl

theorem unitRecord_keeps_record (s : State) (n event a b : Nat) : Keeps 12845076 s (unitRecord s n event a b) :=
  unitRecord_keeps rfl (keeps_refl _ s)

@[simp] theorem unitRecord_sdc (s : State) (n event a b : Nat) : (unitRecord s n event a b).sdc = s.sdc :=
  (unitRecord_keeps_record s n event a b).touch .sdc rfl
@[simp] theorem unitLive_unitRecord (s : State) (n event a b k : Nat) : unitLive (unitRecord s n event a b) k = unitLive s k :=
  unitLive_of_sdc (unitRecord_sdc s n event a b) k
@[simp] theorem unitKept_unitRecord (s : State) (n event a b k : Nat) : unitKept (unitRecord s n event a b) k = unitKept s k :=
  unitKept_of_flash ((unitRecord_keeps_record s n event a b).touch .flash rfl) k
@[simp] theorem tileFenced_unitRecord (s : State) (n event a b k : Nat) : tileFenced (unitRecord s n event a b) k = tileFenced s k :=
  tileFenced_of_mem ((unitRecord_keeps_record s n event a b).touch .mem rfl) k

/-- R340: a unit's record changes no field beside those of every record. -/
theorem rd_unitRecord (s : State) (n event a b : Nat) {g : Fld} (hg : g.key ∉ recordFields.map Fld.key) :
    (unitRecord s n event a b).rd g = s.rd g :=
  rd_regsBut (regsBut_err _ _ _ _ _ (regsBut_refl _ s) fun _ hk => hk) g hg

/-! ## Levels, histories and fences -/

theorem setLevel_keeps_level (s : State) (n level : Nat) : Keeps 281280532 s (setLevel s n level) := setLevel_keeps rfl (keeps_refl _ s)

@[simp] theorem tileFenced_setLevel (s : State) (n level k : Nat) : tileFenced (setLevel s n level) k = tileFenced s k :=
  tileFenced_of_mem ((setLevel_keeps_level s n level).touch .mem rfl) k

/-- R351: a unit's level is set, and nothing else that is kept of it. -/
@[simp] theorem unitKept_setLevel (s : State) (n level : Nat) : unitKept (setLevel s n level) n = { unitKept s n with level := level } := by
  unfold setLevel
  split
  next h => rw [← h]
  next => rw [unitKept_unitRecord, unitKept_modKept_same]

theorem passLevel_sdc (s : State) (n : Nat) : (passLevel s n).sdc = s.sdc :=
  (passLevel_keeps (m := 281280532) rfl (keeps_refl _ s)).touch .sdc rfl

@[simp] theorem unitLive_passLevel (s : State) (n k : Nat) : unitLive (passLevel s n) k = unitLive s k :=
  unitLive_of_sdc (passLevel_sdc s n) k

@[simp] theorem rd_addHistory (s : State) (n : Nat) (g : Fld) : (addHistory s n).rd g = s.rd g := rfl

@[simp] theorem tileFenced_fenceTile_same (s : State) (n : Nat) : tileFenced (fenceTile s n) n = true := by
  simp [tileFenced, fenceTile]

/-! ## The serial number of a slot (R350) -/

theorem takeSerial_of_same {s : State} {slot serial : Nat} (h : (unitKept s (128 + slot)).serial = serial) : takeSerial s slot serial = s :=
  if_pos h

theorem takeSerial_of_new {s : State} {slot serial : Nat} (h : (unitKept s (128 + slot)).serial ≠ serial) :
    takeSerial s slot serial = modUnit (modKept s (128 + slot) fun _ => { serial := serial }) (128 + slot) fun u =>
      { u with history := [], passed := false, held := false } :=
  if_neg h

/-- Before the serial number is looked at, a valid identity memory changes nothing that is held or kept of a unit. -/
theorem unit_takePowerTable (s : State) (slot n : Nat) (m : IdentityMem) :
    unitLive (takePowerTable (withIdentity s slot m) slot m) n = unitLive s n ∧
      unitKept (takePowerTable (withIdentity s slot m) slot m) n = unitKept s n := by
  have hkeeps : Keeps 12861460 (withIdentity s slot m) (takePowerTable (withIdentity s slot m) slot m) :=
    takePowerTable_keeps rfl (keeps_refl _ _)
  exact ⟨unitLive_of_sdc (hkeeps.touch .sdc rfl) n, unitKept_of_flash (hkeeps.touch .flash rfl) n⟩

/-- An identity memory that is not valid is taken as read, or not at all. -/
theorem identityReadEvent_of_invalid {s : State} {slot : Nat} {bytes : List Nat} (h : identityValid (decodeIdentity bytes) = false) :
    identityReadEvent slot bytes s = s ∨ identityReadEvent slot bytes s = withIdentity s slot (decodeIdentity bytes) := by
  unfold identityReadEvent
  extract_lets mem t
  split
  · exact .inl rfl
  · exact .inr (if_pos (by simp [mem, h]))

/-- Settles O51: the serial number alone decides between a unit that starts afresh and one that stays. -/
theorem newSerialStartsAfresh : Obligations.NewSerialStartsAfresh := by
  unfold Obligations.NewSerialStartsAfresh
  refine ⟨fun s slot bytes m hslot hpres hproc hm hv hne => (does_iff rfl).mpr ?new,
    fun s slot bytes m hslot hpres hproc hm hv heq => (does_iff rfl).mpr ?same, fun s slot bytes m hm hv => (does_iff rfl).mpr ?invalid⟩
  case new =>
    subst hm
    obtain ⟨-, hkept⟩ := unit_takePowerTable s slot (128 + slot) (decodeIdentity bytes)
    rw [identityReadEvent_of_present bytes hslot hpres hproc, if_pos hv, takeIdentity, takeSerial_of_new (by rw [hkept]; exact hne)]
    simp
  case same =>
    subst hm
    obtain ⟨hlive, hkept⟩ := unit_takePowerTable s slot (128 + slot) (decodeIdentity bytes)
    rw [identityReadEvent_of_present bytes hslot hpres hproc, if_pos hv, takeIdentity, takeSerial_of_same (by rw [hkept]; exact heq)]
    exact ⟨hkept, hlive⟩
  case invalid =>
    subst hm
    obtain h | h := identityReadEvent_of_invalid (s := s) (slot := slot) hv <;> rw [h] <;> exact ⟨rfl, rfl⟩

end Sys2Proof.Proofs
end

section
/-! PROOFS. Swatches and re-executions (R350 to R365): a swatch is ordered, starts and ends; a fault is judged. -/

namespace Sys2Proof.Proofs
open Sys2Proof.Machine Sys2Proof.Laws

/-! ## A swatch starts (R356, R358) -/

/-- A unit whose swatch starts now. -/
def begun (now : Nat) (u : UnitLive) : UnitLive := { u with waiting := false, running := some now }

/-- A unit whose swatch is asked for. -/
def asked (u : UnitLive) : UnitLive := { u with waiting := true }

/-- A unit whose swatch is over, with the step marks counted from now on. -/
def swatchOver (marks : Nat) (u : UnitLive) : UnitLive := { u with running := none, waiting := false, base := marks }

theorem startSwatch_tile {s : State} {n : Nat} (h : isTile n = true) : startSwatch s n = modUnit s n (begun s.now) := by
  unfold startSwatch
  simp only [h, if_true]
  rfl

theorem tryStart_tile {s : State} {n : Nat} (h : isTile n = true) (hw : (unitLive s n).waiting = true)
    (hr : (unitLive s n).running = none) (hf : swatchFree s n = true) : tryStart s n = modUnit s n (begun s.now) := by
  unfold tryStart
  rw [if_pos ⟨hw, by rw [hr]; rfl, hf⟩, startSwatch_tile h]

/-- Of the waiting tiles of a die one starts, or none. -/
theorem startNextTile_cases (s : State) {d : Nat} (hd : d < 2) :
    startNextTile s d = s ∨ ∃ k, (unitLive s k).waiting = true ∧ startNextTile s d = modUnit s k (begun s.now) := by
  unfold startNextTile
  split
  next t ht =>
    have hlt : t < 64 := List.mem_range.mp (List.mem_of_find?_eq_some ht)
    have hfound := List.find?_some ht
    have hwaits := (Bool.and_eq_true_iff.mp hfound).1
    unfold tryStart
    split
    · exact .inr ⟨_, hwaits, startSwatch_tile (isTile_of_lt (by omega))⟩
    · exact .inl rfl
  next => exact .inl rfl

/-- Whether a swatch can begin rests on the swatches that run, not on those that wait. -/
theorem swatchFree_modUnit (s : State) (n k : Nat) {f : UnitLive → UnitLive} (hf : ∀ u, (f u).running = u.running) :
    swatchFree (modUnit s n f) k = swatchFree s k := by
  have hrun : ∀ j, (unitLive (modUnit s n f) j).running = (unitLive s j).running := fun j => by
    by_cases h : n = j
    · subst h; rw [unitLive_modUnit_same, hf]
    · rw [unitLive_modUnit_other s f h]
  have hunder : tileUnderSwatch (modUnit s n f) (k / 64) = tileUnderSwatch s (k / 64) := by
    unfold tileUnderSwatch
    simp only [hrun]
  unfold swatchFree
  rw [hunder]
  rfl

/-! ## A swatch is ordered (R358, R365) -/

theorem swatchAnswer_of_idle {s : State} {n : Nat} (h : (unitLive s n).running = none) : swatchAnswer s n = .ok := by
  simp [swatchAnswer, h]

theorem swatchAnswer_of_running {s : State} {n : Nat} (h : (unitLive s n).running.isSome = true) : swatchAnswer s n = .retry :=
  if_pos h

theorem swatchOrder_of_idle {s : State} {n : Nat} (hn : n ≤ 135) (h : (unitLive s n).running = none) :
    swatchOrder .steward true n s = (orderSwatch s n).answer .ok 0 0 := by
  unfold swatchOrder
  rw [if_neg (by decide), if_neg (Nat.not_lt.mpr hn), if_neg (by decide), swatchAnswer_of_idle h]

theorem orderSwatch_inService {s : State} {n : Nat} (ht : isTile n = true) (hf : tileFenced s n = false) :
    orderSwatch s n = modUnit s n asked := by
  unfold orderSwatch
  simp only [ht, if_true, tileFenced_modUnit, hf]
  rfl

theorem orderSwatch_fenced {s : State} {n : Nat} (ht : isTile n = true) (hf : tileFenced s n = true)
    (hr : (unitLive s n).running = none) (hfree : swatchFree s n = true) :
    orderSwatch s n = modUnit (modUnit s n asked) n (begun s.now) := by
  unfold orderSwatch
  simp only [ht, if_true, tileFenced_modUnit, hf]
  refine tryStart_tile ht ?_ ?_ ?_
  · exact congrArg UnitLive.waiting (unitLive_modUnit_same s n asked)
  · exact (congrArg UnitLive.running (unitLive_modUnit_same s n asked)).trans hr
  · exact (swatchFree_modUnit s n n (f := asked) fun _ => rfl).trans hfree

/-- R358: what a due tile that is idle leaves. -/
theorem swatchDue_tile {s : State} {n : Nat} (hn : n < 128) (hdue : unitDue s n 1 = true) (hauto : s.on R.SDC_CFG.auto = true)
    (hidle : unitIdle s n = true) (hr : (unitLive s n).running = none) (hfree : swatchFree s n = true) :
    tileFenced (swatchDue n s) n = true ∧ (unitLive (swatchDue n s) n).running = some s.now ∧ (swatchDue n s).regs = s.regs := by
  have ht := isTile_of_lt hn
  have hgo : ¬ (136 ≤ n ∨ ¬ unitDue s n 1 ∨ ¬ s.on R.SDC_CFG.auto ∨ ¬ unitIdle s n ∨ (unitLive s n).running.isSome ∨ ¬ swatchFree s n) := by
    simp [hdue, hauto, hidle, hr, hfree, show n < 136 by omega]
  unfold swatchDue
  rw [if_neg hgo]
  extract_lets t
  have htile : tileFenced t n = true ∧ t.now = s.now ∧ t.regs = s.regs := by
    unfold t
    split
    next => exact ⟨by rw [tileFenced_modUnit, tileFenced_fenceTile_same], rfl, rfl⟩
    next h => exact ⟨by simpa [ht] using h, rfl, rfl⟩
  obtain ⟨hfenced, hnow, hregs⟩ := htile
  rw [startSwatch_tile ht]
  exact ⟨by rw [tileFenced_modUnit, hfenced], by rw [unitLive_modUnit_same, begun, hnow], hregs⟩

/-! ## A swatch ends (R360, R362) -/

/-- A unit's swatch that has ended with a result. -/
structure Ended (n result : Nat) (t : State) : Prop where
  result : t.sdc.result = result
  lastUnit : t.sdc.lastUnit = n
  running : (unitLive t n).running = none
  waiting : (unitLive t n).waiting = false

theorem Ended.of_sdc {n result : Nat} {s t : State} (h : Ended n result s) (e : t.sdc = s.sdc) : Ended n result t where
  result := by rw [e, h.result]
  lastUnit := by rw [e, h.lastUnit]
  running := by rw [unitLive_of_sdc e, h.running]
  waiting := by rw [unitLive_of_sdc e, h.waiting]

theorem Ended.modUnit {n result : Nat} {s : State} (h : Ended n result s) {f : UnitLive → UnitLive}
    (hf : ∀ u, (f u).running = u.running ∧ (f u).waiting = u.waiting := by exact fun _ => ⟨rfl, rfl⟩) : Ended n result (modUnit s n f) where
  result := h.result
  lastUnit := h.lastUnit
  running := by rw [unitLive_modUnit_same, (hf _).1, h.running]
  waiting := by rw [unitLive_modUnit_same, (hf _).2, h.waiting]

theorem modKept_sdc (s : State) (n : Nat) (f : UnitKept → UnitKept) : (modKept s n f).sdc = s.sdc := rfl

theorem Ended.addHistory {n result : Nat} {s : State} (h : Ended n result s) : Ended n result (addHistory s n) :=
  Ended.of_sdc h.modUnit (modKept_sdc _ _ _)

/-- The end of a swatch before its result is acted on: the unit is taken out, the result shown and the swatch counted. -/
def swatchCounted (s : State) (n result : Nat) : State :=
  let t := modUnit s n (swatchOver s.sdc.marks)
  { t with sdc := { t.sdc with result := result, lastUnit := n } }.bump R.SDC_SWATCH_COUNT.c

/-- A pass of unit `n`, whose fence was for the swatch or not. -/
def passTaken (s : State) (n : Nat) (forSwatch : Bool) : State :=
  let t := modUnit (passLevel (modKept s n fun k => { k with passes := min 10 (k.passes + 1) }) n) n fun u => { u with held := false }
  if (unitKept t n).failed then modUnit t n fun u => { u with passed := true }
  else if isTile n ∧ forSwatch then modUnit t n fun u => { u with readmit := true }
  else t

/-- A failure of unit `n`. -/
def failTaken (s : State) (n : Nat) : State :=
  modUnit (modKept (addHistory ((s.bump R.SDC_SWATCH_FAIL_COUNT.c).wr R.SDC_STATUS.swatch_fail 1) n) n fun k => { k with failed := true }) n
    fun u => { u with passed := false, forSwatch := false, readmit := false }

/-- The record of a swatch's end, kept as the unit's last. -/
def endRecorded (s : State) (n result failBits ms : Nat) : State :=
  let t := unitRecord s n (3 + result) failBits ms
  modUnit t n fun u => { u with last := some (tget t.itg.ring ((t.itg.next + 255) % 256)) }

theorem finishSwatch_pass (s : State) (n failBits : Nat) : finishSwatch s n 1 failBits false =
    endRecorded (passTaken (swatchCounted s n 1) n (unitLive s n).forSwatch) n 1 failBits
      ((s.now - (unitLive s n).running.getD s.now) / 1000) := rfl

theorem finishSwatch_fail (s : State) (n failBits : Nat) : finishSwatch s n 2 failBits false =
    endRecorded (failTaken (swatchCounted s n 2) n) n 2 failBits ((s.now - (unitLive s n).running.getD s.now) / 1000) := rfl

theorem swatchCounted_ended (s : State) (n result : Nat) : Ended n result (swatchCounted s n result) := by
  unfold swatchCounted
  refine Ended.of_sdc ?_ (Laws.bump_sdc _ _)
  exact ⟨rfl, rfl, congrArg UnitLive.running (unitLive_modUnit_same s n (swatchOver s.sdc.marks)),
    congrArg UnitLive.waiting (unitLive_modUnit_same s n (swatchOver s.sdc.marks))⟩

theorem endRecorded_ended {s : State} {n result : Nat} (h : Ended n result s) (failBits ms : Nat) :
    Ended n result (endRecorded s n result failBits ms) :=
  (h.of_sdc (unitRecord_sdc _ _ _ _ _)).modUnit

theorem passTaken_ended {s : State} {n result : Nat} (h : Ended n result s) (forSwatch : Bool) :
    Ended n result (passTaken s n forSwatch) ∧ (unitLive (passTaken s n forSwatch) n).held = false := by
  unfold passTaken
  extract_lets t
  have ht : Ended n result t := ((h.of_sdc (modKept_sdc s n _)).of_sdc (passLevel_sdc _ n)).modUnit
  have hheld : (unitLive t n).held = false := congrArg UnitLive.held (unitLive_modUnit_same _ n _)
  split
  · exact ⟨ht.modUnit, by rw [unitLive_modUnit_same, hheld]⟩
  · split
    · exact ⟨ht.modUnit, by rw [unitLive_modUnit_same, hheld]⟩
    · exact ⟨ht, hheld⟩

theorem failTaken_ended {s : State} {n result : Nat} (h : Ended n result s) : Ended n result (failTaken s n) := by
  have hcount : Ended n result ((s.bump R.SDC_SWATCH_FAIL_COUNT.c).wr R.SDC_STATUS.swatch_fail 1) := h.of_sdc (Laws.bump_sdc s _)
  exact (hcount.addHistory.of_sdc (modKept_sdc _ _ _)).modUnit

/-- R360: a failure fails the unit and is shown. -/
theorem failTaken_fails (s : State) (n : Nat) :
    (unitKept (failTaken s n) n).failed = true ∧ (failTaken s n).rd R.SDC_STATUS.swatch_fail = 1 := by
  simp only [failTaken, unitKept_modUnit, unitKept_modKept_same, rd_modUnit, rd_modKept, rd_addHistory, rd_wr_same]
  decide

/-- What a swatch that has ended lets follow: on a tile, the next waiting tile of its die starts. -/
def nextStarted (s : State) (unit : Nat) : State := if isTile unit then startNextTile s (unit / 64) else s

theorem swatchEnd_of_running {s : State} {unit result : Nat} {signatureOk sramBad : Bool} (failBits : Nat)
    (hr : (unitLive s unit).running.isSome = true) (hl : isTile unit = true ∨ swatchLate s unit = false)
    (hresult : (if signatureOk ∧ ! sramBad then 1 else 2) = result) :
    swatchEnd unit false signatureOk sramBad failBits s = nextStarted (endSwatch s unit result failBits false) unit := by
  have hgo : ¬ ((unitLive s unit).running.isNone ∨ (isTile unit = false ∧ false ≠ swatchLate s unit)) := by
    rintro (h | ⟨ht, hlate⟩)
    · simp [Option.isNone_iff_eq_none.mp h] at hr
    · exact hl.elim (by simp [ht]) fun h => hlate h.symm
  subst hresult
  unfold swatchEnd
  rw [if_neg hgo]
  rfl

/-- The release of an accelerator's reset touches the sequencer alone. -/
theorem releaseSwatched_keeps_seq (s : State) (n : Nat) : Keeps 8192 s (releaseSwatched s n) := by
  unfold releaseSwatched
  split
  · exact keeps_refl _ s
  · exact schedulePerst_keeps rfl (keeps_refl _ s)

theorem endSwatch_keeps_finish (s : State) (n result failBits : Nat) :
    Keeps 8192 (finishSwatch s n result failBits false) (endSwatch s n result failBits false) :=
  releaseSwatched_keeps_seq _ n

/-- The tile that starts after a swatch is another one than the tile that has ended it, which waits no more. -/
theorem nextStarted_leaves {s : State} {unit result : Nat} (h : Ended unit result s) :
    Ended unit result (nextStarted s unit) ∧ unitLive (nextStarted s unit) unit = unitLive s unit ∧
      (nextStarted s unit).flash = s.flash ∧ (nextStarted s unit).regs = s.regs := by
  have hidle := h.waiting
  unfold nextStarted
  split
  next ht =>
    obtain e | ⟨k, hwaits, e⟩ := startNextTile_cases s (tile_die_lt_two ht)
    · rw [e]
      exact ⟨h, rfl, rfl, rfl⟩
    · have hne : k ≠ unit := fun hk => by simp [← hk, hwaits] at hidle
      have hlive := unitLive_modUnit_other s (begun s.now) hne
      rw [e]
      exact ⟨⟨h.result, h.lastUnit, by rw [hlive, h.running], by rw [hlive, h.waiting]⟩, hlive, rfl, rfl⟩
  next => exact ⟨h, rfl, rfl, rfl⟩

/-! ## A re-execution ends (R353, R355, R361) -/

@[simp] theorem unitLive_fenceTile (s : State) (n k : Nat) : unitLive (fenceTile s n) k = unitLive s k := rfl
@[simp] theorem unitKept_fenceTile (s : State) (n k : Nat) : unitKept (fenceTile s n) k = unitKept s k := rfl
@[simp] theorem rd_fenceTile (s : State) (n : Nat) (g : Fld) : (fenceTile s n).rd g = s.rd g := rfl

/-- R353: unit `n` fails for a permanent fault, before it is taken out of service. -/
def failedPermanently (s : State) (n : Nat) : State :=
  ((modUnit (modKept s n fun k => { k with failed := true }) n fun u => { u with passed := false, readmit := false, forSwatch := false }).bump
    R.SDC_PERMANENT_COUNT.c).wr R.SDC_STATUS.permanent 1

theorem judgeFault_reproduced {s : State} {n : Nat} (ht : isTile n = true) :
    judgeFault s n true = unitRecord (fenceTile (failedPermanently s n) n) n 10 0 0 := by
  unfold judgeFault
  rw [if_pos (.inl rfl)]
  simp only [ht, if_true]
  rfl

theorem judgeFault_transient {s : State} {n : Nat} (h : historyCount s n < 3) :
    judgeFault s n false = setLevel s n (min 2 ((unitKept s n).level + 1)) :=
  if_neg (by simp [h])

/-- A re-execution that has ended, noted and recorded. -/
def shadowNoted (s : State) (n : Nat) (reproduced : Bool) : State :=
  unitRecord ((modUnit s n fun u => { u with shadow := none }).bump R.SDC_SHADOW_COUNT.c) n (if reproduced then 7 else 8) 0 0

theorem shadowComplete_of_unfenced {s : State} {n : Nat} (reproduced : Bool) (hs : (unitLive s n).shadow.isSome = true)
    (hf : tileFenced s n = false) : shadowComplete n reproduced s = judgeFault (shadowNoted s n reproduced) n reproduced := by
  obtain ⟨cls, hcls⟩ := Option.isSome_iff_exists.mp hs
  unfold shadowComplete
  simp only [hcls, tileFenced_modUnit, hf]
  rfl

theorem unitLive_shadowNoted (s : State) (n : Nat) (reproduced : Bool) :
    unitLive (shadowNoted s n reproduced) n = { unitLive s n with shadow := none } := by
  simp [shadowNoted]

theorem historyCount_shadowNoted (s : State) (n : Nat) (reproduced : Bool) :
    historyCount (shadowNoted s n reproduced) n = historyCount s n := by
  refine historyCount_congr (by rw [unitLive_shadowNoted]) ?_
  rw [shadowNoted, rd_unitRecord _ _ _ _ _ (by decide), bump_other _ _ _ (by decide) (by decide), rd_modUnit]

/-- Settles O31: orders and starts by what they make of the unit, ends and re-executions by their result. -/
theorem swatchCommands : Obligations.SwatchCommands := by
  unfold Obligations.SwatchCommands
  refine ⟨fun s n hn hr hf => (does_iff rfl).mpr ?waits, fun s n hn hr hf hfree => (does_iff rfl).mpr ?starts,
    fun s n run hn => (does_iff rfl).mpr ?unknown, fun s n hn hdue hauto hidle hr hfree => (does_iff rfl).mpr ?due,
    fun s n failBits hn hr hl => (does_iff rfl).mpr ?pass, fun s n failBits sramBad hn hr hl => (does_iff rfl).mpr ?fail,
    fun s n hn hs hf => (does_iff rfl).mpr ?reproduced, fun s n hn hs hf hh => (does_iff rfl).mpr ?transient⟩
  case waits =>
    rw [swatchOrder_of_idle (by omega) hr, orderSwatch_inService (isTile_of_lt hn) hf]
    rfl
  case starts =>
    rw [swatchOrder_of_idle (by omega) hr, orderSwatch_fenced (isTile_of_lt hn) hf hr hfree]
    have hlive := unitLive_modUnit_same (modUnit s n asked) n (begun s.now)
    exact ⟨congrArg UnitLive.running hlive, congrArg UnitLive.waiting hlive, rfl, rfl⟩
  case unknown =>
    unfold swatchOrder
    rw [if_neg (by decide), if_pos hn]
  case due => exact swatchDue_tile hn hdue hauto hidle hr hfree
  case pass =>
    obtain ⟨hpassed, hheld⟩ := passTaken_ended (swatchCounted_ended s n 1) (unitLive s n).forSwatch
    have hkeeps := endSwatch_keeps_finish s n 1 failBits
    have hended : Ended n 1 (endSwatch s n 1 failBits false) := by
      refine Ended.of_sdc ?_ (hkeeps.touch .sdc rfl)
      rw [finishSwatch_pass]
      exact endRecorded_ended hpassed _ _
    obtain ⟨⟨hresult, hlast, hrunning, -⟩, hlive, -, -⟩ := nextStarted_leaves hended
    rw [swatchEnd_of_running (result := 1) failBits hr hl rfl]
    refine ⟨hresult, hlast, hrunning, ?_⟩
    rw [hlive, unitLive_of_sdc (hkeeps.touch .sdc rfl), finishSwatch_pass, endRecorded, unitLive_modUnit_same, unitLive_unitRecord, hheld]
  case fail =>
    obtain ⟨hfailed, hshown⟩ := failTaken_fails (swatchCounted s n 2) n
    have hkeeps := endSwatch_keeps_finish s n 2 failBits
    have hended : Ended n 2 (endSwatch s n 2 failBits false) := by
      refine Ended.of_sdc ?_ (hkeeps.touch .sdc rfl)
      rw [finishSwatch_fail]
      exact endRecorded_ended (failTaken_ended (swatchCounted_ended s n 2)) _ _
    obtain ⟨⟨hresult, -, hrunning, -⟩, -, hflash, hregs⟩ := nextStarted_leaves hended
    rw [swatchEnd_of_running (result := 2) failBits hr hl rfl]
    refine ⟨hresult, ?_, ?_, hrunning⟩
    · rw [unitKept_of_flash hflash, unitKept_of_flash (hkeeps.touch .flash rfl), finishSwatch_fail, endRecorded, unitKept_modUnit,
        unitKept_unitRecord, hfailed]
    · rw [rd_eq_of_regs _ _ _ hregs, rd_eq_of_regs _ _ _ (hkeeps.touch .regs rfl), finishSwatch_fail, endRecorded, rd_modUnit,
        rd_unitRecord _ _ _ _ _ (by decide), hshown]
  case reproduced =>
    have ht := isTile_of_lt hn
    rw [shadowComplete_of_unfenced true hs hf, judgeFault_reproduced ht, rd_unitRecord _ _ _ _ _ (by decide)]
    simp [failedPermanently, unitLive_shadowNoted]
    decide
  case transient =>
    rw [shadowComplete_of_unfenced false hs hf, judgeFault_transient (by rw [historyCount_shadowNoted]; exact hh)]
    simp [shadowNoted, hf]

end Sys2Proof.Proofs
end

section
/-! PROOFS. Selection, admission and swatches by message (R348, R358, R360, R362, R363, R403). -/

namespace Sys2Proof.Proofs
open Sys2Proof.Machine Sys2Proof.Laws

/-! ## A message that is acted on (R398) -/

/-- What an action left, once its answer has been sent: the parts of the state that the answering does not touch. -/
structure ActedOn (m : Msg) (code : Nat) (x : Answered) (t : State) : Prop where
  answer : t.out.head? = some (.mgmt m.role code x.2.1 x.2.2)
  pat : t.pat = x.1.pat
  sdc : t.sdc = x.1.sdc
  freeCtr : t.freeCtr = x.1.freeCtr
  regs : x.2.1 = .ok → t.regs = x.1.regs

theorem reply_out (s : State) (m : Msg) (code : Nat) (r : Resp) (body : List Nat) :
    (reply s m code r body).out = .mgmt m.role code r body :: s.out := by
  unfold reply
  cases r <;> simp

theorem serveOrder_actedOn {s u : State} {k : Order} {m : Msg} (h : takesUp s k m = some u) {bodyOk : State → Bool}
    (act : State → Answered) (hb : bodyOk u = true) : ActedOn m k.code (act u) (serveOrder k m bodyOk act s) := by
  obtain ⟨a, ha⟩ := serve_takesUp h bodyOk act (fun _ => none) hb
  have hkeeps : Keeps 4194324 (act u).1 (serveOrder k m bodyOk act s) := by
    rw [serveOrder, ha]
    exact keepAnswer_keeps rfl (reply_keeps rfl (keeps_refl _ _))
  refine ⟨?_, hkeeps.touch .pat rfl, hkeeps.touch .sdc rfl, hkeeps.touch .freeCtr rfl, fun hok => ?_⟩
  · rw [serveOrder, ha, keepAnswer_out, reply_out]
    rfl
  · rw [serveOrder, ha, keepAnswer_regs, hok, reply_ok, emit_regs]

/-- Step 8 of R398 is among the checks of a message that is acted on. -/
theorem dutyUp_of_takesUp {s u : State} {k : Order} {m : Msg} (h : takesUp s k m = some u) : dutyUp u k m = true := by
  unfold takesUp at h
  split at h
  case isFalse => cases h
  case isTrue =>
    split at h
    · cases h
    · unfold passes at h
      simp only at h
      split at h
      case isFalse => cases h
      case isTrue hd =>
        obtain ⟨-, -, -, hduty, -, -⟩ := hd
        rwa [Option.some.inj h] at hduty

theorem procUp_of_takesUp {s u : State} {k : Order} {m : Msg} (h : takesUp s k m = some u) : u.procUp k.duty = true :=
  (Bool.and_eq_true_iff.mp (dutyUp_of_takesUp h)).1

/-! ## PATTERN_SELECT (R97, R403) -/

/-- R97: PAT_NEXT_STEP holds the low 32 bits of what is written. -/
theorem writeCopy_stepLo_mod (valid atStep : Bool) (pattern stepLo d : Nat) (s : State) :
    writeCopy valid atStep pattern (stepLo % 2 ^ 32) d s = writeCopy valid atStep pattern stepLo d s := by
  have hput : ∀ t, putField t (R.PAT_NEXT_STEP.step_lo d) (stepLo % 2 ^ 32) = putField t (R.PAT_NEXT_STEP.step_lo d) stepLo := fun t => by
    rw [putField, putField, show (R.PAT_NEXT_STEP.step_lo d).w = 32 from rfl, Nat.mod_mod]
  unfold writeCopy
  rw [State.wr, hput]
  rfl

theorem copiesWritten_stepLo_mod (valid atStep : Bool) (pattern stepLo : Nat) (s : State) :
    copiesWritten valid atStep pattern (stepLo % 2 ^ 32) s = copiesWritten valid atStep pattern stepLo s := by
  unfold copiesWritten
  rw [show writeCopy valid atStep pattern (stepLo % 2 ^ 32) = writeCopy valid atStep pattern stepLo from
    funext fun d => funext fun t => writeCopy_stepLo_mod valid atStep pattern stepLo d t]

/-- R97, R403: while a pattern runs, a selection without a restart is written and waits for its step mark. -/
theorem selectPattern_of_running {u : State} {pattern : Nat} {p : Sys2Proof.Pattern} {d : Nat} (atStep : Bool) (stepLo : Nat)
    (hp : tfind u.pat.lib pattern = some p) (hm : seqMode u = 1) (hd : u.dieUp d = true) :
    selectPattern pattern atStep false stepLo u = okay (copiesWritten true atStep pattern stepLo u) := by
  unfold selectPattern
  simp only [hp]
  rw [if_neg (by simp [anyDieUp_of_dieUp hd]), if_neg (by simp [hm]), writeNext_of_notAccepted (by simp [hm])]
  rfl

theorem patternSelect_actedOn {s u : State} {m : Msg} {pattern : Nat} (atStep restart : Bool) (stepLo : Nat)
    (h : takesUp s { code := 0x020 } m = some u) (hp : pattern < 256) :
    ActedOn m 0x020 (selectPattern pattern atStep restart stepLo u) (patternSelect m pattern atStep restart stepLo s) :=
  serveOrder_actedOn h (bodyOk := fun _ => decide (pattern < 256)) _ (decide_eq_true hp)

theorem selectPattern_of_unknown {u : State} {pattern : Nat} (atStep restart : Bool) (stepLo : Nat) (hp : tfind u.pat.lib pattern = none) :
    selectPattern pattern atStep restart stepLo u = refuse .invalid u := by
  unfold selectPattern
  rw [hp]

/-! ## ADMIT and EXPEL (R218, R348, R362, R363) -/

theorem unitDomain_slot {slot : Nat} (h : slot < 8) : unitDomain (0x3000 + slot) = 3 ∧ (0x3000 + slot) % 4096 = slot := by
  unfold unitDomain
  omega

theorem admitUnit_slot {slot : Nat} (h : slot < 8) : admitUnit (0x3000 + slot) = some (128 + slot) := by
  obtain ⟨hd, hi⟩ := unitDomain_slot h
  simp [admitUnit, hd, hi, h]

theorem admitUnit_tile {n : Nat} (h : n < 64) : admitUnit (0x1000 + n) = some n := by
  have hd : unitDomain (0x1000 + n) = 1 := by unfold unitDomain; omega
  have hi : (0x1000 + n) % 4096 = n := by omega
  simp [admitUnit, hd, hi, h]

/-- R218: an accelerator whose link is UP, and of which no admission is on its way, is put forward. -/
theorem admitSlot_of_allowed {u : State} {slot : Nat} (ha : u.accAdmitted slot = false) (hl : u.pat.listedAdmit.testBit slot = false)
    (hup : u.linkState slot = 3) (hf : (unitKept u (128 + slot)).failed = false) (hmay : mayAdmit u slot = true) :
    (admitSlot u slot).2 = (.ok, []) ∧ (admitSlot u slot).1.pat.putAdmit.testBit slot = true := by
  unfold admitSlot
  simp only [hf, Bool.false_and, Bool.false_eq_true, if_false, ha, hl, hup, hmay, ne_eq, not_true_eq_false, if_true, or_false, false_or]
  split
  next hput => exact ⟨rfl, hput⟩
  next => exact ⟨rfl, by simp [okay, putForward]⟩

/-- R362: a failed tile that has passed a swatch since is readmitted at the next step mark. -/
theorem admitTile_of_passed {u : State} {n : Nat} (hf : (unitKept u n).failed = true) (hp : (unitLive u n).passed = true) :
    admitTile u n = okay (modUnit u n fun v => { v with readmit := true }) := by
  unfold admitTile
  rw [if_neg (by simp [hp]), if_pos hf]

/-- R348: while Steward runs, an admitted accelerator is put forward for expulsion and no more for admission. -/
theorem expelSlot_of_admitted {u : State} {slot : Nat} (ha : u.accAdmitted slot = true) (hp : u.procUp 0 = true) :
    (expelSlot u slot).pat.putExpel.testBit slot = true ∧ (expelSlot u slot).pat.putAdmit.testBit slot = false := by
  simp [expelSlot, State.accIncoming, ha, hp]

/-- What ADMIT does with the unit that it names. -/
def admitNamed (s : State) (n : Nat) : Answered := if isTile n then admitTile s n else admitSlot s (n - 128)

theorem admitNamed_slot (s : State) (slot : Nat) : admitNamed s (128 + slot) = admitSlot s slot := by
  rw [admitNamed, not_isTile_slot, Nat.add_sub_cancel_left]
  rfl

theorem admitNamed_tile {s : State} {n : Nat} (h : isTile n = true) : admitNamed s n = admitTile s n := if_pos h

theorem admitMsg_actedOn {s u : State} {m : Msg} {unit n : Nat} (h : takesUp s { code := 0x021, feature := 7 } m = some u)
    (hn : admitUnit unit = some n) : ActedOn m 0x021 (admitNamed u n) (admitMsg m unit s) := by
  unfold admitMsg
  simp only [hn]
  exact serveOrder_actedOn h (fun t => admitNamed t n) rfl

/-- EXPEL's action: an accelerator that was not yet on its way out is counted. -/
def expelAnswer (unit : Nat) (s : State) : Answered :=
  let slot := unit % 4096
  okay (if s.accAdmitted slot && ! s.pat.putExpel.testBit slot && ! s.pat.listedExpel.testBit slot then
    (expelSlot s slot).bump R.SDC_EXPEL_COUNT.c else expelSlot s slot)

theorem expel_actedOn {s u : State} {m : Msg} {slot : Nat} (h : takesUp s { code := 0x022, feature := 7 } m = some u) (hslot : slot < 8) :
    ActedOn m 0x022 (expelAnswer (0x3000 + slot) u) (expel m (0x3000 + slot) s) := by
  obtain ⟨hd, hi⟩ := unitDomain_slot hslot
  exact serveOrder_actedOn h (bodyOk := fun _ => unitDomain (0x3000 + slot) == 3 && decide ((0x3000 + slot) % 4096 < 8))
    (expelAnswer (0x3000 + slot)) (by simp [hd, hi, hslot])

theorem expelAnswer_pat (unit : Nat) (s : State) : (expelAnswer unit s).1.pat = (expelSlot s (unit % 4096)).pat := by
  unfold expelAnswer okay
  dsimp only
  split
  · exact bump_pat _ _
  · rfl

/-! ## SWATCH_RUN and SWATCH_RESULT (R358, R360, R361) -/

/-- SWATCH_RUN's action. -/
def swatchRunAnswer (unit : Nat) (s : State) : Answered := match swatchAnswer s unit with
  | .retry => retryIn s 100000
  | _ => okay (orderSwatch s unit)

theorem swatchRun_actedOn {s u : State} {m : Msg} {n : Nat} (h : takesUp s { code := 0x040, feature := 6 } m = some u) (hn : n < 136) :
    ActedOn m 0x040 (swatchRunAnswer n u) (swatchRun m n s) :=
  serveOrder_actedOn h (bodyOk := fun _ => decide (n < 136)) (swatchRunAnswer n) (decide_eq_true hn)

theorem swatchRunAnswer_of_idle {s : State} {n : Nat} (h : (unitLive s n).running = none) :
    swatchRunAnswer n s = okay (orderSwatch s n) := by
  rw [swatchRunAnswer, swatchAnswer_of_idle h]

theorem swatchRunAnswer_of_running {s : State} {n : Nat} (h : (unitLive s n).running.isSome = true) :
    swatchRunAnswer n s = retryIn s 100000 := by
  rw [swatchRunAnswer, swatchAnswer_of_running h]

/-- SWATCH_RESULT's action. -/
def swatchResultAnswer (unit : Nat) (s : State) : Answered := match (unitLive s unit).last with
  | some r => (s, .ok, errBytes r)
  | none => (s.drawFree, .ok, bytesOf 64 (Config.freeBody s.freeCtr unit))

theorem swatchResult_actedOn {s u : State} {m : Msg} {n : Nat} (h : takesUp s { code := 0x041, feature := 6 } m = some u) (hn : n < 136) :
    ActedOn m 0x041 (swatchResultAnswer n u) (swatchResult m n s) :=
  serveOrder_actedOn h (bodyOk := fun _ => decide (n < 136)) (swatchResultAnswer n) (decide_eq_true hn)

theorem swatchResultAnswer_of_some {s : State} {n : Nat} {r : ErrRec} (h : (unitLive s n).last = some r) :
    swatchResultAnswer n s = (s, .ok, errBytes r) := by
  rw [swatchResultAnswer, h]

theorem swatchResultAnswer_of_none {s : State} {n : Nat} (h : (unitLive s n).last = none) :
    swatchResultAnswer n s = (s.drawFree, .ok, bytesOf 64 (Config.freeBody s.freeCtr n)) := by
  rw [swatchResultAnswer, h]

/-- Settles O37: each message that is taken up answers with what its action gives, and leaves what the action leaves. The hint of
SWATCH_RUN's RETRY is log 60's, and the record before a first swatch log 4's. -/
theorem selectionMessages : Obligations.SelectionMessages := by
  unfold Obligations.SelectionMessages
  refine ⟨fun s m u pattern stepLo d atStep p h hlt hp hm hd => (does_iff rfl).mpr ?select,
    fun s m u pattern stepLo atStep restart h hlt hp => (does_iff rfl).mpr ?unknown,
    fun s m u unit slot h hslot hunit ha hl hup hf hmay => (does_iff rfl).mpr ?admitSlot,
    fun s m u unit n h hn hunit hf hp => (does_iff rfl).mpr ?admitTile, fun s m u unit slot h hslot hunit ha => (does_iff rfl).mpr ?expel,
    fun s m u n h hn hr hf => (does_iff rfl).mpr ?run, fun s m u n h hn hr => (does_iff rfl).mpr ?busy,
    fun s m u n r h hn hl => (does_iff rfl).mpr ?result, fun s m u n h hn hl => (does_iff rfl).mpr ?noResult⟩
  case select =>
    obtain ⟨hans, hpat, -, -, hregs⟩ := patternSelect_actedOn atStep false stepLo h hlt
    have hshow := copiesWritten_shows (valid := true) (atStep := atStep) hd hlt (Nat.mod_lt stepLo (Nat.two_pow_pos 32))
    rw [selectPattern_of_running atStep stepLo hp hm hd, ← copiesWritten_stepLo_mod] at hans hpat hregs
    obtain ⟨hvalid, hat, hpattern, hstep⟩ := hshow.of_regsBut (ks := []) (fun k _ => by rw [hregs rfl]; rfl) (by simp)
    refine ⟨hans, hpattern, hvalid, hat, hstep, ?_⟩
    rw [hpat, okay, copiesWritten_pat]
  case unknown =>
    obtain ⟨hans, hpat, -, -, -⟩ := patternSelect_actedOn atStep restart stepLo h hlt
    rw [selectPattern_of_unknown atStep restart stepLo hp] at hans hpat
    exact ⟨hans, hpat⟩
  case admitSlot =>
    subst hunit
    obtain ⟨hans, hpat, -, -, -⟩ := admitMsg_actedOn h (admitUnit_slot hslot)
    obtain ⟨hok, hput⟩ := admitSlot_of_allowed ha hl hup hf hmay
    rw [admitNamed_slot] at hans hpat
    rw [hok] at hans
    exact ⟨hans, by rw [hpat, hput]⟩
  case admitTile =>
    subst hunit
    obtain ⟨hans, -, hsdc, -, -⟩ := admitMsg_actedOn h (admitUnit_tile hn)
    rw [admitNamed_tile (isTile_of_lt (by omega)), admitTile_of_passed hf hp] at hans hsdc
    exact ⟨hans, by rw [unitLive_of_sdc hsdc, okay, unitLive_modUnit_same]⟩
  case expel =>
    subst hunit
    obtain ⟨hans, hpat, -, -, -⟩ := expel_actedOn h hslot
    obtain ⟨hexpel, hadmit⟩ := expelSlot_of_admitted ha (procUp_of_takesUp h)
    rw [expelAnswer_pat, (unitDomain_slot hslot).2] at hpat
    exact ⟨hans, by rw [hpat, hexpel], by rw [hpat, hadmit]⟩
  case run =>
    obtain ⟨hans, -, hsdc, -, -⟩ := swatchRun_actedOn h (n := n) (by omega)
    rw [swatchRunAnswer_of_idle hr, orderSwatch_inService (isTile_of_lt hn) hf] at hans hsdc
    refine ⟨hans, ?_⟩
    rw [unitLive_of_sdc hsdc, okay, unitLive_modUnit_same, asked]
  case busy =>
    obtain ⟨hans, -, hsdc, -, -⟩ := swatchRun_actedOn h hn
    rw [swatchRunAnswer_of_running hr] at hans hsdc
    exact ⟨hans, hsdc⟩
  case result =>
    obtain ⟨hans, -, hsdc, -, -⟩ := swatchResult_actedOn h hn
    rw [swatchResultAnswer_of_some hl] at hans hsdc
    exact ⟨hans, hsdc⟩
  case noResult =>
    obtain ⟨hans, -, hsdc, hfree, -⟩ := swatchResult_actedOn h hn
    rw [swatchResultAnswer_of_none hl] at hans hsdc hfree
    exact ⟨hans, hfree, hsdc⟩

end Sys2Proof.Proofs
end

section
/-! PROOFS. Firmware processors: Steward revives a halted processor (R367, R374, R387). -/

namespace Sys2Proof.Proofs
open Sys2Proof.Machine Sys2Proof.Laws

/-- R374, R387: FW_CTRL.revive with one bit set revives that processor. -/
theorem processorRevive_one {p : Nat} (hp : p < 8) (s : State) :
    processorRevive .steward (2 ^ p) s = (revive s p).answer .ok 0 0 := by
  rw [processorRevive, if_neg (by simp), members_two_pow hp, List.foldl_cons, List.foldl_nil]

theorem rd_procState_processorRevive {s : State} {p : Nat} (hp : p < 8) (h : s.rd (R.FW_PROC.state p) = 3) :
    (processorRevive .steward (2 ^ p) s).rd (R.FW_PROC.state p) = if procAbsent s p = true then 0 else 2 := by
  rw [processorRevive_one hp, rd_answer, rd_procState_revive hp h]

/-- Refutes O32: its clause of the revived processors leaves out those of an absent die. In `heldHaltedProc` Steward runs, H0 is stopped and
its processor 4 is halted; FW_CTRL.revive leaves it stopped, with state 0, to start when H0 is released (R367). Where the die runs, the
state is the clause's (`rd_procState_processorRevive`). -/
theorem not_firmwareCommands : ¬ Obligations.FirmwareCommands := by
  unfold Obligations.FirmwareCommands
  intro ⟨_, _, _, _, _, _, _, _, revived, _⟩
  have hhalted : heldHaltedProc.rd (R.FW_PROC.state 4) = 3 := by decide
  have habsent : procAbsent heldHaltedProc 4 = true := by decide
  obtain ⟨hclaimed, _⟩ := (does_iff rfl).mp (revived heldHaltedProc (2 ^ 4) 4 (by decide) rfl hhalted)
  have hleft := rd_procState_processorRevive (by decide) hhalted
  rw [if_pos habsent] at hleft
  exact absurd (hclaimed.symm.trans hleft) (by decide)

end Sys2Proof.Proofs
end

section
/-! PROOFS. Sessions and features (R378, R393 to R398, R401). -/

namespace Sys2Proof.Proofs
open Sys2Proof.Machine Sys2Proof.Laws

/-! ## A message that is acted on, and how it was authenticated (R392, R396, R398) -/

/-- Steps 6 to 10 of R398 come to the action where the message passes them. -/
theorem serveBody_of_passes {t u : State} {k : Order} {m : Msg} (h : passes t k m = some u) {bodyOk : State → Bool}
    (act : State → Answered) (hb : bodyOk u = true) : authPasses (authenticate t k m) = true ∧
      serveBody k m (authenticate t k m) bodyOk act (noteAccepted (heard t m.role) m (authenticate t k m)) = act u := by
  unfold passes at h
  extract_lets a v at h
  obtain ⟨⟨hauth, hrole, hfeature, hduty, hspare, htrailer⟩, hv⟩ := Option.ite_none_right_eq_some.mp h
  obtain rfl : v = u := Option.some.inj hv
  refine ⟨hauth, ?_⟩
  have hbody : (! bodyOk v || m.spare != 0 || (m.flags.testBit 2 && ! m.trailerZero)) = false := by
    cases hsigned : m.flags.testBit 2
    · simp [hb, hspare]
    · simp [hb, hspare, htrailer hsigned]
  show serveBody k m a bodyOk act v = act v
  rw [serveBody, if_neg hrole, hfeature, hduty, hbody]
  rfl

/-- A signed message outside a session passes step 5 of R398 with its key's counter, or not at all. -/
theorem signedAuth_cases (t : State) (m : Msg) :
    signedAuth t m = .signed (keySlot t m) ∨ authPasses (signedAuth t m) = false := by
  unfold signedAuth
  extract_lets k last
  split
  · exact .inr rfl
  split
  · exact .inr rfl
  split
  · exact .inr rfl
  · exact .inl rfl

/-- SESSION_OPEN is authenticated by its signature alone, so an open session is no authentication of it. -/
theorem authenticate_of_signed {t : State} {k : Order} {m : Msg} (hk : k.free = .signed) (h : authPasses (authenticate t k m) = true) :
    authenticate t k m = .signed (keySlot t m) := by
  have hauth : authenticate t k m = if m.flags.testBit 2 = true then signedAuth t m else .bad .denied := by
    rw [authenticate, if_pos hk]
  rw [hauth] at h ⊢
  by_cases hsigned : m.flags.testBit 2 = true
  · rw [if_pos hsigned] at h ⊢
    exact (signedAuth_cases t m).resolve_right fun hno => Bool.false_ne_true (hno.symm.trans h)
  · rw [if_neg hsigned] at h
    cases h

/-- A message that must be signed, and that is acted on, has its answer kept with its key's counter. -/
theorem serveOrder_of_signed {s u : State} {k : Order} {m : Msg} (h : takesUp s k m = some u) (hk : k.free = .signed)
    {bodyOk : State → Bool} (act : State → Answered) (hb : bodyOk u = true) : ∃ slot, serveOrder k m bodyOk act s =
      keepAnswer (reply (act u).1 m k.code (act u).2.1 (act u).2.2) m (.signed slot) (act u).2.1 (act u).2.2 := by
  unfold takesUp at h
  obtain ⟨⟨hreach, hport, hmagic, hversion, hlock, hresp, hheader⟩, h⟩ := Option.ite_none_right_eq_some.mp h
  have hport' : ¬ (m.role = .host ∧ m.viaHostPort = false) := fun q => by simp [hport q.1] at q
  split at h
  · cases h
  next t htoken =>
    obtain ⟨hauth, hserve⟩ := serveBody_of_passes h act hb
    have hslot := authenticate_of_signed hk hauth
    rw [hslot] at hserve
    refine ⟨keySlot t m, ?_⟩
    rw [← hserve]
    unfold serveOrder serve
    simp only [hreach, hport', hmagic, hversion, hlock, hresp, hheader, htoken, hslot, Bool.not_true, Bool.false_eq_true, if_false, ne_eq,
      not_true_eq_false, or_self]

theorem reply_mgt (s : State) (m : Msg) (code : Nat) (r : Resp) (body : List Nat) : (reply s m code r body).mgt = s.mgt :=
  (reply_keeps (m := 20) rfl (keeps_refl _ s)).touch .mgt rfl

/-- The answer to a signed message is kept beside the session, not in it. -/
theorem keepAnswer_signed_session (s : State) (m : Msg) (slot : Nat) (r : Resp) (body : List Nat) :
    (keepAnswer s m (.signed slot) r body).mgt.session = s.mgt.session := rfl

/-- No answer that is kept for a retransmission opens a session. -/
theorem keepAnswer_session_none {s : State} (m : Msg) (a : Auth) (r : Resp) (body : List Nat) (h : s.mgt.session = none) :
    (keepAnswer s m a r body).mgt.session = none := by
  cases a <;> simp [keepAnswer, h]

/-! ## The negotiated features (R378) -/

/-- The words of FW_NEG are written. -/
def negotiate (v : Nat → Nat) (s : State) : State := (List.range 4).foldl (fun s i => s.wr (R.FW_NEG.bits i) (v i)) s

@[simp] theorem negotiate_mgt (v : Nat → Nat) (s : State) : (negotiate v s).mgt = s.mgt := rfl

theorem regsBut_negotiate (v : Nat → Nat) (s : State) : RegsBut ((List.range 4).map R.FW_NEG.bits) s (negotiate v s) :=
  regsBut_wr _ _ (regsBut_wr _ _ (regsBut_wr _ _ (regsBut_wr _ _ (regsBut_refl _ s) (by decide)) (by decide)) (by decide)) (by decide)

theorem rd_negotiate_other (v : Nat → Nat) (s : State) (g : Fld) (h : g.key ∉ ((List.range 4).map R.FW_NEG.bits).map Fld.key) :
    (negotiate v s).rd g = s.rd g :=
  rd_regsBut (regsBut_negotiate v s) g h

theorem fwNeg_width (i : Nat) : (R.FW_NEG.bits i).w = 32 := rfl

theorem rd_negotiate (v : Nat → Nat) (s : State) {i : Nat} (h : i < 4) : (negotiate v s).rd (R.FW_NEG.bits i) = v i % 2 ^ 32 := by
  show State.rd ((((s.wr (R.FW_NEG.bits 0) _).wr (R.FW_NEG.bits 1) _).wr (R.FW_NEG.bits 2) _).wr (R.FW_NEG.bits 3) _) _ = _
  obtain rfl | rfl | rfl | rfl : i = 0 ∨ i = 1 ∨ i = 2 ∨ i = 3 := by omega
  all_goals simp (disch := decide) only [rd_wr_other, rd_wr_same, fwNeg_width]

/-! ## A session ends and opens (R395, R397) -/

theorem endSession_of_none {s : State} (h : s.mgt.session = none) : endSession s = s := by
  unfold endSession
  rw [h]

/-- R410: MGT_STATUS, MGT_HOLDER and MGT_HOLDER_SEQ name no holder. -/
def clearHolder (s : State) : State :=
  let s := (s.wr R.MGT_STATUS.held 0).wr R.MGT_STATUS.role 0
  let s := ((s.wr R.MGT_HOLDER.role 0).wr R.MGT_HOLDER.key 0).wr R.MGT_HOLDER.bridge 0
  s.wr R.MGT_HOLDER_SEQ.sequence 0

theorem endSession_of_some {s : State} {q : Session} (h : s.mgt.session = some q) : endSession s =
    negotiate (fun _ => 0) (clearHolder (endFreezeOf { s with mgt := { s.mgt with session := none } } q.id)) := by
  unfold endSession
  rw [h]
  rfl

theorem endFreezeOf_mgt (s : State) (id : Nat) : (endFreezeOf s id).mgt = s.mgt :=
  (endFreezeOf_keeps (m := 8388612) rfl (keeps_refl _ s)).touch .mgt rfl

theorem endSession_session (s : State) : (endSession s).mgt.session = none := by
  cases h : s.mgt.session with
  | none => rw [endSession_of_none h, h]
  | some q =>
    rw [endSession_of_some h, negotiate_mgt]
    exact congrArg MgtState.session (endFreezeOf_mgt _ _)

/-- R397, R410: MGT_STATUS and MGT_HOLDER show no holder once a session has ended. -/
theorem endSession_shows {s : State} {q : Session} (h : s.mgt.session = some q) :
    (endSession s).rd R.MGT_STATUS.held = 0 ∧ (endSession s).rd R.MGT_HOLDER.role = 0 := by
  rw [endSession_of_some h, rd_negotiate_other _ _ _ (by decide), rd_negotiate_other _ _ _ (by decide)]
  simp (disch := decide) only [clearHolder, rd_wr_other, rd_wr_same, Nat.zero_mod, and_self]

theorem rd_held_endSession (s : State) :
    (endSession s).rd R.MGT_STATUS.held = if s.mgt.session = none then s.rd R.MGT_STATUS.held else 0 := by
  cases h : s.mgt.session with
  | none => rw [endSession_of_none h, if_pos rfl]
  | some q => rw [(endSession_shows h).1, if_neg nofun]

/-- The session that opens for the sender of `m`. -/
def openedSession (s : State) (m : Msg) : Session :=
  { id := Config.freeSession s.freeCtr % (2 ^ 64 - 1) + 1, role := m.role, source := m.source, key := m.key, heardAt := s.now }

theorem beginSession_session {s : State} (m : Msg) (h : s.mgt.session = none) :
    (beginSession s m).mgt.session = some (openedSession s m) := by
  unfold beginSession
  rw [endSession_of_none h]
  rfl

theorem beginSession_shows (s : State) (m : Msg) :
    (beginSession s m).rd R.MGT_STATUS.held = 1 ∧ (beginSession s m).rd (R.FW_NEG.bits 0) = 1 := by
  unfold beginSession
  extract_lets -lift -merge -underBinder t id q _ v w x y
  refine ⟨?_, rd_wr_same _ _ _⟩
  simp (disch := decide) only [y, x, w, rd_wr_other, rd_wr_same]
  rfl

/-! ## SESSION_OPEN (R395) -/

theorem sessionOpen_session {s u : State} {m : Msg} (preempt : Bool)
    (h : takesUp s { code := 0x001, free := .signed, loader := true } m = some u) :
    (sessionOpen m preempt s).mgt.session = (openAnswer m preempt u).1.mgt.session := by
  obtain ⟨slot, hslot⟩ := serveOrder_of_signed h rfl (bodyOk := anyBody) (openAnswer m preempt) rfl
  rw [sessionOpen, hslot, keepAnswer_signed_session, reply_mgt]

theorem sessionOpen_actedOn {s u : State} {m : Msg} (preempt : Bool)
    (h : takesUp s { code := 0x001, free := .signed, loader := true } m = some u) :
    ActedOn m 0x001 (openAnswer m preempt u) (sessionOpen m preempt s) :=
  serveOrder_actedOn h (bodyOk := anyBody) (openAnswer m preempt) rfl

theorem openAnswer_of_free {u : State} (m : Msg) (preempt : Bool) (h : u.mgt.session = none) :
    (openAnswer m preempt u).1 = beginSession u m ∧ (openAnswer m preempt u).2.1 = .ok := by
  unfold openAnswer
  simp only [h, and_self]

/-- R395: the other commander's session stays, unless the rack manager preempts the host's. -/
theorem openAnswer_of_held {u : State} {m : Msg} {preempt : Bool} {q : Session} (h : u.mgt.session = some q) (hr : q.role ≠ m.role)
    (hp : m.role = .host ∨ preempt = false) : openAnswer m preempt u = (u, .denied, [roleCode q.role]) := by
  have hno : ¬ (m.role = .rackManager ∧ preempt = true) := by
    rintro ⟨hrack, hpre⟩
    cases hp with
    | inl hhost => exact absurd (hrack.symm.trans hhost) nofun
    | inr hnot => exact absurd (hpre.symm.trans hnot) nofun
  unfold openAnswer
  simp only [h, hr, hno, if_false]

/-! ## SESSION_CLOSE and FEATURES (R378, R397) -/

theorem sessionClose_actedOn {s u : State} {m : Msg} (h : takesUp s { code := 0x002, loader := true } m = some u) :
    ActedOn m 0x002 (okay (endSession u)) (sessionClose m s) :=
  serveOrder_actedOn h (bodyOk := anyBody) (fun s => okay (endSession s)) rfl

theorem sessionClose_session {s u : State} {m : Msg} (h : takesUp s { code := 0x002, loader := true } m = some u) :
    (sessionClose m s).mgt.session = none := by
  obtain ⟨a, ha⟩ := serve_takesUp h anyBody (fun s => okay (endSession s)) (fun _ => none) rfl
  rw [sessionClose, serveOrder, ha]
  refine keepAnswer_session_none _ _ _ _ ?_
  rw [reply_mgt, okay, endSession_session]

/-- R378: FEATURES's action, by the set that the two bitmaps share. -/
def featuresAnswer (bitmap : Nat) (s : State) : Answered :=
  let f := (bitmap % 2 ^ 128) &&& ownFeatures s
  (negotiate (fun i => f / 2 ^ (32 * i) % 2 ^ 32) s, .ok, bytesOf 16 f)

theorem features_actedOn {s u : State} {m : Msg} (bitmap : Nat) (h : takesUp s { code := 0x003 } m = some u) :
    ActedOn m 0x003 (featuresAnswer bitmap u) (features m bitmap s) :=
  serveOrder_actedOn h (bodyOk := anyBody) (featuresAnswer bitmap) rfl

/-! ## What ends by itself, and a reserved code (R393, R397, R401) -/

theorem sessionLeaseExpire_of_due {s : State} {q : Session} (h : s.mgt.session = some q)
    (ht : q.heardAt + s.rd R.MGT_CFG.lease * 1000000 ≤ s.now) : sessionLeaseExpire s = endSession s := by
  unfold sessionLeaseExpire
  rw [h]
  exact if_pos ht

theorem lockoutExpire_of_due {s : State} {source at_ : Nat} (h : tfind s.mgt.lockouts source = some at_) (ht : at_ ≤ s.now) :
    lockoutExpire source s = { s with mgt := { s.mgt with lockouts := tdel s.mgt.lockouts source } } := by
  unfold lockoutExpire
  rw [h]
  exact if_neg (Nat.not_lt.mpr ht)

theorem responding_renewLease (s : State) (m : Msg) : responding (renewLease s m) = responding s := by
  obtain ⟨g, hg⟩ := renewLease_cases s m
  rw [hg]
  rfl

/-- Step 3 of R398: the rack manager's message with a code that names no request. -/
theorem serveOrder_of_unknown {s : State} {k : Order} {m : Msg} (bodyOk : State → Bool) (act : State → Answered)
    (hreach : reaches s m = true) (hrole : m.role = .rackManager) (hmagic : m.magic = 0x4D47) (hversion : m.version = 1)
    (hlock : lockedOut s m = false) (hresp : responding s = false) (hk : k.known = false) :
    serveOrder k m bodyOk act s = reply (renewLease s m) m k.code .invalid [] := by
  have hheader : messageHeaderOk k m = false := by simp [messageHeaderOk, hk]
  unfold serveOrder serve
  simp [hreach, hrole, hmagic, hversion, hlock, responding_renewLease, hresp, hheader]

/-- Settles O35: each message that is taken up answers with what its action gives and leaves what the action leaves; what ends by itself is
read off its definition, and a reserved code stops at step 3. The session's number is free (log 3). -/
theorem sessionMessages : Obligations.SessionMessages := by
  unfold Obligations.SessionMessages
  refine ⟨fun s m u preempt h hfree => (does_iff rfl).mpr ?opens, fun s m u preempt q h hq hr hp => (does_iff rfl).mpr ?held,
    fun s m u h => (does_iff rfl).mpr ?close, fun s m u bitmap f h hf => (does_iff rfl).mpr ?features,
    fun s q hq ht => (does_iff rfl).mpr ?lease, fun s source at_ hl ht => (does_iff rfl).mpr (lockoutExpire_of_due hl ht),
    fun s m code hreach hrole hmagic hversion hlock hresp =>
      (does_iff rfl).mpr (serveOrder_of_unknown _ _ hreach hrole hmagic hversion hlock hresp rfl)⟩
  case opens =>
    obtain ⟨hact, hok⟩ := openAnswer_of_free m preempt hfree
    have hregs := (sessionOpen_actedOn preempt h).regs hok
    have hsession := sessionOpen_session preempt h
    rw [hact] at hregs hsession
    obtain ⟨hheld, hneg⟩ := beginSession_shows u m
    exact ⟨hsession.trans (beginSession_session m hfree), (rd_eq_of_regs _ _ _ hregs).trans hheld, (rd_eq_of_regs _ _ _ hregs).trans hneg⟩
  case held =>
    have hans := (sessionOpen_actedOn preempt h).answer
    have hsession := sessionOpen_session preempt h
    rw [openAnswer_of_held hq hr hp] at hans hsession
    exact ⟨hans, hsession.trans hq⟩
  case close =>
    have hacted := sessionClose_actedOn h
    exact ⟨hacted.answer, sessionClose_session h, (rd_eq_of_regs _ _ _ (hacted.regs rfl)).trans (rd_held_endSession u)⟩
  case features =>
    have hacted := features_actedOn bitmap h
    subst hf
    refine ⟨hacted.answer, fun i hi => ?_⟩
    rw [rd_eq_of_regs _ _ _ (hacted.regs rfl), featuresAnswer, rd_negotiate _ _ (List.mem_range.mp hi), Nat.mod_mod]
  case lease =>
    rw [sessionLeaseExpire_of_due hq ht]
    exact ⟨endSession_session s, endSession_shows hq⟩

end Sys2Proof.Proofs
end

section
/-! PROOFS. One step, the frame of every command, and the one-time bits: all three from the frame `exec_keeps` of the command that runs. -/

namespace Sys2Proof.Proofs

open Sys2Proof.Machine Sys2Proof.Laws

/-- Settles O59: a command at the front of the queue keeps the order of the OTP by its frame, and the µs that passes does not touch it. -/
theorem otpNeverFalls : Obligations.OtpNeverFalls := by
  unfold Obligations.OtpNeverFalls
  intro s t hstep
  obtain rfl | ⟨c, rest, -, hkeeps⟩ := step_cases hstep
  · exact otpRises_refl _
  · exact hkeeps.otp

/-- Settles O53: the two branches of `step`, by whether a command waits. -/
theorem stepRunsTheFront : Obligations.StepRunsTheFront := by
  unfold Obligations.StepRunsTheFront
  refine ⟨fun c rest s => rfl, fun s hempty => ?_⟩
  unfold step
  rw [hempty]

/-- No footprint names the warden's time. -/
theorem now_not_mem_footprint (c : Instr) : Part.now ∉ footprint c := by
  cases c <;> simp [footprint]

/-- Settles O54: the frame of a command is its footprint, and the time is outside of every footprint. -/
theorem commandFrames : Obligations.CommandFrames := by
  unfold Obligations.CommandFrames
  refine ⟨fun c s => ?frame, fun c s => ?queueAndTime⟩ <;> obtain ⟨t, hrun, hkeeps⟩ := exec_keeps c s
  case frame => exact ⟨t, hrun, onlyIn_of_keeps rfl hkeeps⟩
  case queueAndTime => exact ⟨t, hrun, hkeeps.pending, onlyIn_of_keeps rfl hkeeps .now (now_not_mem_footprint c)⟩

end Sys2Proof.Proofs
end

section
/-! PROOFS. The checks that every management message passes, in the order of R398: what `serve` does at each check that turns a message
away. -/

namespace Sys2Proof.Proofs

open Sys2Proof.Machine Sys2Proof.Laws

/-- `c` runs as `serve` with row `k` on message `m`, and only the two named commands have a responder that passes them on. -/
def ServedAs (c : Instr) (k : Order) (m : Msg) (s : State) : Prop :=
  ∃ bodyOk act responder, exec c s = .next (serve k m bodyOk act responder s) ∧
    ((∀ n, c ≠ .powerOff n) → (∀ n i, c ≠ .clearLatchProcessor n i) → ∀ u, responder u = none)

theorem servedAs_of_serveOrder {c : Instr} {k : Order} {m : Msg} {s : State} {bodyOk : State → Bool} {act : State → Answered}
    (h : exec c s = .next (serveOrder k m bodyOk act s)) : ServedAs c k m s :=
  ⟨bodyOk, act, fun _ => none, h, fun _ _ _ => rfl⟩

/-- Every message command is served with its row of R393. Only POWER_OFF and CLEAR_LATCH of a processor have a responder that passes them
on. -/
theorem servedAs_of_messageOf {c : Instr} {k : Order} {m : Msg} (h : messageOf c = some (k, m)) (s : State) : ServedAs c k m s := by
  unfold messageOf at h
  split at h <;> cases h
  case h_10.refl => exact ⟨_, _, _, rfl, fun hoff _ => absurd rfl (hoff m)⟩
  case h_28.refl i => exact ⟨_, _, _, rfl, fun _ hclear => absurd rfl (hclear m i)⟩
  all_goals exact servedAs_of_serveOrder rfl

section Checks

variable {k : Order} {m : Msg} {bodyOk : State → Bool} {act : State → Answered} {responder : State → Option State} {s : State}

theorem serve_of_not_reaches (h : reaches s m = false) : serve k m bodyOk act responder s = s := by
  simp [serve, h]

theorem serve_of_not_hostPort (h : reaches s m = true) (hrole : m.role = .host) (hport : m.viaHostPort = false) :
    serve k m bodyOk act responder s = (s.bump R.MGT_INVALID_COUNT.c).bump (R.LNK_CTL_REJECT.c (leadDie s)) := by
  simp [serve, h, hrole, hport]

variable (h : reaches s m = true) (hhost : ¬ (m.role = .host ∧ m.viaHostPort = false))
include h hhost

theorem serve_of_badMagic (hmagic : m.magic ≠ 0x4D47 ∨ m.version ≠ 1) :
    serve k m bodyOk act responder s = s.bump R.MGT_INVALID_COUNT.c := by
  unfold serve
  rw [if_neg (by simp [h]), if_neg hhost, if_pos hmagic]

variable (hmagic : m.magic = 0x4D47) (hversion : m.version = 1)
include hmagic hversion

theorem serve_of_lockedOut (hlock : lockedOut s m = true) : serve k m bodyOk act responder s = s := by
  simp [serve, h, hhost, hmagic, hversion, hlock]

variable (hlock : lockedOut s m = false)
include hlock

theorem serve_of_responding (hresponds : responding s = true) (hnone : responder (renewLease s m) = none) :
    serve k m bodyOk act responder s = reply (heard (renewLease s m) m.role) m k.code .busy [] := by
  have hresponds' : responding (renewLease s m) = true := by rw [responding_renewLease, hresponds]
  simp [serve, h, hhost, hmagic, hversion, hlock, hresponds', hnone]

variable (hserves : responding s = false)
include hserves

theorem serve_of_badHeader (hheader : messageHeaderOk k m = false) :
    serve k m bodyOk act responder s = reply (renewLease s m) m k.code .invalid [] := by
  have hserves' : responding (renewLease s m) = false := by rw [responding_renewLease, hserves]
  simp [serve, h, hhost, hmagic, hversion, hlock, hserves', hheader]

theorem serve_of_noToken {u : State} {hint : Nat} (hheader : messageHeaderOk k m = true)
    (htoken : takeToken (renewLease s m) (bucketOf (renewLease s m) k m) = (u, some hint)) :
    serve k m bodyOk act responder s = reply u m k.code .retry (bytesOf 4 hint) := by
  have hserves' : responding (renewLease s m) = false := by rw [responding_renewLease, hserves]
  simp [serve, h, hhost, hmagic, hversion, hlock, hserves', hheader, htoken]

theorem serve_of_badAuth {u : State} {r : Resp} (hheader : messageHeaderOk k m = true)
    (htoken : takeToken (renewLease s m) (bucketOf (renewLease s m) k m) = (u, none)) (hauth : authenticate u k m = .bad r) :
    serve k m bodyOk act responder s =
      reply (if m.flags.testBit 2 = true ∧ r = .denied then signatureFailure u k.code m else u) m k.code r [] := by
  have hserves' : responding (renewLease s m) = false := by rw [responding_renewLease, hserves]
  simp [serve, h, hhost, hmagic, hversion, hlock, hserves', hheader, htoken, hauth]

end Checks

/-- Settles O56: each clause is the check of `serve` at which the message is turned away. -/
theorem messagesTurnedAway : Obligations.MessagesTurnedAway := by
  unfold Obligations.MessagesTurnedAway
  intro s c k m hmsg
  obtain ⟨bodyOk, act, responder, hrun, hresp⟩ := servedAs_of_messageOf hmsg s
  simp only [does_iff hrun]
  refine ⟨serve_of_not_reaches, serve_of_not_hostPort, fun h hport => ?_⟩
  have hhost : ¬ (m.role = .host ∧ m.viaHostPort = false) := fun ⟨hrole, hvia⟩ => by simp [hport hrole] at hvia
  refine ⟨serve_of_badMagic h hhost, fun hmagic hversion => ⟨?locked, ?responder, ?served⟩⟩
  case locked => exact serve_of_lockedOut h hhost hmagic hversion
  case responder =>
    intro hlock hresponds hoff hclear
    exact serve_of_responding h hhost hmagic hversion hlock hresponds (hresp hoff hclear _)
  case served =>
    intro hlock hserves
    exact ⟨serve_of_badHeader h hhost hmagic hversion hlock hserves,
      fun _ _ => serve_of_noToken h hhost hmagic hversion hlock hserves,
      fun _ _ => serve_of_badAuth h hhost hmagic hversion hlock hserves⟩

end Sys2Proof.Proofs
end

section
/-! PROOFS. A management message that is acted on, with everything that its answering leaves; and the register frames of records, of the
duties of a processor and of debug access. -/

namespace Sys2Proof.Proofs

open Sys2Proof.Machine Sys2Proof.Laws

/-! ## A message that is acted on (R398) -/

/-- The fields in which an answer other than OK is counted and shown (R410). -/
def replyFields : List Fld :=
  [R.MGT_DENIED_COUNT.c.cnt, R.MGT_DENIED_COUNT.c.ovf, R.MGT_INVALID_COUNT.c.cnt, R.MGT_INVALID_COUNT.c.ovf, R.MGT_RETRY_COUNT.c.cnt,
   R.MGT_RETRY_COUNT.c.ovf, R.MGT_BUSY_COUNT.c.cnt, R.MGT_BUSY_COUNT.c.ovf, R.MGT_LAST_REFUSE.valid, R.MGT_LAST_REFUSE.role,
   R.MGT_LAST_REFUSE.response, R.MGT_LAST_REFUSE.code]

theorem regsBut_reply (s : State) (m : Msg) (code : Nat) (r : Resp) (body : List Nat) :
    RegsBut replyFields s (reply s m code r body) := by
  unfold reply
  extract_lets sent counted
  have hsent : RegsBut replyFields s sent := regsBut_refl _ _
  have hcounted : RegsBut replyFields s counted := by
    unfold counted
    split
    case h_5 => exact hsent
    all_goals exact regsBut_bump _ hsent (by decide) (by decide)
  refine regsBut_ite hcounted (regsBut_wr _ _ (regsBut_wr _ _ (regsBut_wr _ _ (regsBut_wr _ _ hcounted ?_) ?_) ?_) ?_) <;> decide

/-- `t` is what an action left, once its answer `x` has been sent: beside the answer only what has been sent, the counts of answers and the
answer that is kept for a retransmission are new. -/
structure Replied (m : Msg) (code : Nat) (x : Answered) (t : State) : Prop where
  answer : t.out.head? = some (.mgmt m.role code x.2.1 x.2.2)
  parts : Keeps 4194324 x.1 t
  regs : RegsBut replyFields x.1 t

theorem serveOrder_replied {s u : State} {k : Order} {m : Msg} (h : takesUp s k m = some u) {bodyOk : State → Bool}
    (act : State → Answered) (hb : bodyOk u = true) : Replied m k.code (act u) (serveOrder k m bodyOk act s) := by
  obtain ⟨a, ha⟩ := serve_takesUp h bodyOk act (fun _ => none) hb
  rw [serveOrder, ha]
  refine ⟨?_, keepAnswer_keeps rfl (reply_keeps rfl (keeps_refl _ _)), regsBut_regs (regsBut_reply _ _ _ _ _) (keepAnswer_regs ..)⟩
  rw [keepAnswer_out, reply_out]
  rfl

/-- A register that no answer shows reads as the action left it. -/
theorem Replied.rd {m : Msg} {code : Nat} {x : Answered} {t : State} (h : Replied m code x t) {g : Fld}
    (hg : g.key ∉ replyFields.map Fld.key) : t.rd g = x.1.rd g :=
  rd_regsBut h.regs g hg

/-- After an answer OK a register that no answer shows reads as in the state that the action left. -/
theorem Replied.rd_okay {m : Msg} {code : Nat} {v t : State} (h : Replied m code (okay v) t) {g : Fld}
    (hg : g.key ∉ replyFields.map Fld.key) : t.rd g = v.rd g :=
  rd_regsBut h.regs g hg

/-! ## Records -/

theorem rd_event (s : State) (code unit data : Nat) {g : Fld} (hg : g.key ∉ recordFields.map Fld.key) :
    (s.event code unit data).rd g = s.rd g :=
  rd_regsBut (regsBut_event _ _ _ (regsBut_refl recordFields s) fun _ h => h) g hg

theorem rd_err (s : State) (unit op cls severity detail : Nat) {g : Fld} (hg : g.key ∉ recordFields.map Fld.key) :
    (s.err unit op cls severity detail).rd g = s.rd g :=
  rd_regsBut (regsBut_err _ _ _ _ _ (regsBut_refl recordFields s) fun _ h => h) g hg

@[simp] theorem event_flash (s : State) (code unit data : Nat) : (s.event code unit data).flash = s.flash :=
  (event_keeps s code unit data).touch .flash rfl
@[simp] theorem event_upd (s : State) (code unit data : Nat) : (s.event code unit data).upd = s.upd :=
  (event_keeps s code unit data).touch .upd rfl
@[simp] theorem event_otp (s : State) (code unit data : Nat) : (s.event code unit data).otp = s.otp :=
  (event_keeps s code unit data).touch .otp rfl
@[simp] theorem event_sec (s : State) (code unit data : Nat) : (s.event code unit data).sec = s.sec :=
  (event_keeps s code unit data).touch .sec rfl

/-! ## The duties of a processor (R373) -/

/-- The fields in which a transfer that is abandoned shows, with its event. -/
def abandonFields : List Fld :=
  [R.UPD_XFER.kind, R.UPD_XFER.type, R.UPD_XFER_DONE.count, R.UPD_STATUS.abandoned] ++ recordFields

/-- R456, R459: beside the fields and its event an abandonment changes what the flash holds of a trickle. -/
theorem abandonXfer_of_some {s : State} {x : Xfer} (h : s.upd.xfer = some x) :
    ∃ f : Flash, abandonXfer s =
      (clearXfer ({ s with flash := f }.wr R.UPD_STATUS.abandoned 1)).event 0x0101 0 (atByte 0 x.typ) := by
  unfold abandonXfer
  simp only [h]
  cases s.flash.trickle with
  | none => exact ⟨s.flash, rfl⟩
  | some t =>
    cases x.trickle with
    | false => exact ⟨s.flash, rfl⟩
    | true => exact ⟨_, rfl⟩

theorem regsBut_abandonXfer (s : State) : RegsBut abandonFields s (abandonXfer s) := by
  cases h : s.upd.xfer with
  | none =>
    rw [show abandonXfer s = s by unfold abandonXfer; rw [h]]
    exact regsBut_refl _ _
  | some x =>
    obtain ⟨f, hf⟩ := abandonXfer_of_some h
    rw [hf]
    unfold clearXfer
    refine regsBut_event _ _ _ (regsBut_wr _ _ (regsBut_wr _ _ (regsBut_wr _ _ (regsBut_regs (regsBut_wr (t := { s with flash := f })
      R.UPD_STATUS.abandoned 1 (regsBut_regs (regsBut_refl _ s) rfl) ?_) rfl) ?_) ?_) ?_) ?_ <;> decide

theorem regsBut_abandonBlock (s : State) : RegsBut abandonFields s (abandonBlock s) := by
  unfold abandonBlock
  split
  · exact regsBut_ite (regsBut_refl _ _) (regsBut_abandonXfer s)
  · exact regsBut_refl _ _

/-- The fields in which the duties of processor `p` show. -/
def dutyFields (p : Nat) : List Fld := [R.COOL_STATUS.mode, R.COOL_STATUS.table_reason, lqBusy p] ++ abandonFields

theorem regsBut_dutiesPass (s : State) (p : Nat) : RegsBut (dutyFields p) s (dutiesPass s p) := by
  have h := regsBut_refl (dutyFields p) s
  unfold dutiesPass
  refine regsBut_ite (regsBut_mono (regsBut_abandonBlock s) fun k hk => ?_) (regsBut_ite (regsBut_wr _ _ (regsBut_wr _ _ h ?_) ?_)
    (regsBut_ite (regsBut_regs h rfl) (regsBut_ite (regsBut_wr _ _ h ?_) h)))
  · simp only [dutyFields, List.map_append, List.mem_append]
    exact .inr hk
  all_goals simp [dutyFields]

theorem dutiesPass_procs (s : State) {p : Nat} (hp : p ≠ 0) : (dutiesPass s p).fw.procs = s.fw.procs := by
  unfold dutiesPass
  rw [if_neg hp]
  split
  · rfl
  · split
    · rfl
    · split <;> rfl

theorem regsBut_dutiesReturn (s : State) (p : Nat) : RegsBut (lqBusy p :: recordFields) s (dutiesReturn s p) := by
  have h := regsBut_refl (lqBusy p :: recordFields) s
  unfold dutiesReturn
  refine regsBut_ite (regsBut_regs h rfl) (regsBut_ite ?recorder (regsBut_ite (regsBut_wr _ _ h ?_) h))
  case recorder =>
    split
    · exact h
    · refine List.foldlRecOn (motive := RegsBut (lqBusy p :: recordFields) s) _ _ (regsBut_regs h rfl) fun t ht i _ => ?_
      split
      · exact regsBut_submit _ ht fun k hk => List.mem_cons_of_mem _ hk
      · exact ht
  · simp

/-! ## Debug access (R484, R486) -/

/-- The fields that the release of a processor held by debug may change. -/
def haltFields : List Fld :=
  R.FW_STATUS.restarting :: (List.range 8).map R.FW_PROC.state ++ (List.range 8).map lqBusy ++ recordFields

theorem regsBut_releaseHalt {r s : State} {p : Nat} (hp : p < 8) (h : RegsBut haltFields r s) : RegsBut haltFields r (releaseHalt s p) := by
  have hstate : ∀ q < 8, (R.FW_PROC.state q).key ∈ haltFields.map Fld.key := by decide
  have hduties : ∀ q < 8, ∀ k ∈ (lqBusy q :: recordFields).map Fld.key, k ∈ haltFields.map Fld.key := by decide
  unfold releaseHalt
  refine regsBut_ite h (regsBut_trans ?_ (regsBut_mono (regsBut_dutiesReturn _ _) (hduties p hp)))
  exact regsBut_wr _ _ (regsBut_wr _ _ (regsBut_regs h rfl) (by decide)) (hstate p hp)

theorem regsBut_releaseHalts (s : State) : RegsBut haltFields s ((List.range 8).foldl releaseHalt s) :=
  List.foldlRecOn _ _ (regsBut_refl _ _) fun _ ht _ hp => regsBut_releaseHalt (List.mem_range.mp hp) ht

end Sys2Proof.Proofs
end

section
/-! PROOFS. Attestation and debug access (R474, R481, R484 to R488): what UNLOCK, LOCK and a halt by debug leave in the registers of debug
access. -/

namespace Sys2Proof.Proofs

open Sys2Proof.Machine Sys2Proof.Laws

/-! ## Tokens (R485) -/

/-- UNLOCK's action. -/
def unlockAnswer (k : Token) (s : State) : Answered := match tokenRefusal s k with
  | some why => refuseLife s 0x08 k.key why
  | none => okay (acceptToken s k)

theorem unlock_replied {s u : State} {m : Msg} {k : Token} (h : takesUp s { code := 0x061, feature := 9 } m = some u)
    (hk : tokenOk k = true) : Replied m 0x061 (unlockAnswer k u) (unlock m k s) :=
  serveOrder_replied h (bodyOk := fun _ => tokenOk k) (unlockAnswer k) hk

theorem unlockAnswer_of_accepted {s : State} {k : Token} (h : tokenRefusal s k = none) : unlockAnswer k s = okay (acceptToken s k) := by
  rw [unlockAnswer, h]

theorem unlockAnswer_of_refused {s : State} {k : Token} {why : Nat × Resp} (h : tokenRefusal s k = some why) :
    unlockAnswer k s = refuseLife s 0x08 k.key why := by
  rw [unlockAnswer, h]

theorem scope_of_tokenOk {k : Token} (h : tokenOk k = true) : k.scope < 16 := by
  simp only [tokenOk, Bool.and_eq_true, decide_eq_true_eq] at h
  exact h.2

/-- R485: the scope, the source and the limit of an accepted token are shown. -/
theorem acceptToken_shows (s : State) {k : Token} (hk : tokenOk k = true) : (acceptToken s k).rd R.SEC_DEBUG.scope = k.scope ∧
    (acceptToken s k).rd R.SEC_DEBUG.source = (if k.signer = 1 then 1 else 2) ∧
    (acceptToken s k).rd R.SEC_DEBUG_UNTIL.seconds = k.limit % 2 ^ 32 := by
  unfold acceptToken
  simp (disch := decide) only [rd_event, bump_other, rd_wr_other, rd_wr_same]
  refine ⟨Nat.mod_eq_of_lt (scope_of_tokenOk hk), ?_, rfl⟩
  split <;> rfl

theorem acceptToken_tokenCtr (s : State) (k : Token) :
    tget (acceptToken s k).flash.tokenCtr (signerSlot s k.signer k.key) = k.counter := by
  unfold acceptToken
  simp

/-! ## Refusals (R481) -/

/-- The fields in which a refused life-cycle message is counted and shown. -/
def refusalFields : List Fld :=
  [R.SEC_REFUSE_COUNT.c.cnt, R.SEC_REFUSE_COUNT.c.ovf, R.SEC_LAST_REFUSE.valid, R.SEC_LAST_REFUSE.reason, R.SEC_LAST_REFUSE.op,
   R.SEC_LAST_REFUSE.key] ++ recordFields

theorem regsBut_refuseLife (s : State) (op key : Nat) (why : Nat × Resp) : RegsBut refusalFields s (refuseLife s op key why).1 := by
  unfold refuseLife
  extract_lets recorded counted shown
  have hshown : RegsBut refusalFields s shown := by
    unfold shown counted recorded
    refine regsBut_wr _ _ (regsBut_wr _ _ (regsBut_wr _ _ (regsBut_wr _ _ (regsBut_bump _ (regsBut_err _ _ _ _ _ (regsBut_refl _ _) ?_)
      ?_ ?_) ?_) ?_) ?_) ?_ <;> decide
  split <;> exact hshown

theorem refuseLife_keeps_parts (s : State) (op key : Nat) (why : Nat × Resp) : Keeps 12845076 s (refuseLife s op key why).1 :=
  refuseLife_keeps rfl (keeps_refl _ s)

/-! ## The end of token access (R484, R486) -/

/-- R486: with token access closed nothing is open, and no processor is held. -/
theorem closeToken_shows {s : State} (reason : Nat) (h : s.rd R.SEC_DEBUG.source ≠ 0) : (closeToken s reason).rd R.SEC_DEBUG.scope = 0 ∧
    (closeToken s reason).rd R.SEC_DEBUG.source = 0 ∧ (closeToken s reason).rd R.SEC_DEBUG_UNTIL.seconds = 0xFFFFFFFF ∧
    (closeToken s reason).rd R.SEC_STATUS.debug_halt = 0 := by
  have hhalts : ∀ (t : State) {g : Fld}, g.key ∉ haltFields.map Fld.key → ((List.range 8).foldl releaseHalt t).rd g = t.rd g :=
    fun t g hg => rd_regsBut (regsBut_releaseHalts t) g hg
  unfold closeToken
  rw [if_neg h]
  simp (disch := decide) only [rd_event, hhalts, rd_wr_other, rd_wr_same]
  decide

/-- R486: token access whose limit has been reached is closed. -/
theorem debugLimitExpire_of_due {s : State} (hlimit : s.rd R.SEC_DEBUG_UNTIL.seconds ≠ 0xFFFFFFFF)
    (hdue : s.rd R.SEC_DEBUG_UNTIL.seconds ≤ s.rd R.REC_SECONDS.seconds) : debugLimitExpire s = closeToken s 1 :=
  if_pos ⟨hlimit, hdue⟩

/-! ## A halt by debug (R484, R486) -/

theorem debugHalt_shows {s : State} {p : Nat} (hp : p < 8) (hup : s.procUp p = true) (hthere : procAbsent s p = false)
    (hscope : (s.rd R.SEC_DEBUG.scope).testBit 0 = true) : (debugHalt p s).rd (R.FW_PROC.state p) = 2 ∧
    (tget (debugHalt p s).fw.procs p).debugHalt = true ∧ (debugHalt p s).rd R.SEC_STATUS.debug_halt = 1 := by
  have hne : ∀ q < 8, R.SEC_STATUS.debug_halt.key ≠ (R.FW_PROC.state q).key ∧ R.FW_STATUS.restarting.key ≠ (R.FW_PROC.state q).key ∧
      (R.FW_PROC.state q).key ∉ (dutyFields q).map Fld.key := by decide
  obtain ⟨hhalt, hrestarting, hduty⟩ := hne p hp
  unfold debugHalt
  rw [if_neg (by simp [hp, hup, hthere, hscope])]
  extract_lets held shown passed
  have hshown : shown.rd (R.FW_PROC.state p) = 2 := by
    rw [show shown = _ from rfl, rd_wr_other _ _ _ _ hrestarting, rd_wr_same]
    rfl
  have hheld : (tget shown.fw.procs p).debugHalt = true := by simp [shown, held, State.modProc]
  have hpassed : passed.rd (R.FW_PROC.state p) = 2 ∧ (tget passed.fw.procs p).debugHalt = true := by
    unfold passed
    split
    case isTrue => exact ⟨hshown, hheld⟩
    case isFalse hp0 =>
      rw [rd_regsBut (regsBut_dutiesPass shown p) _ hduty, dutiesPass_procs shown hp0]
      exact ⟨hshown, hheld⟩
  exact ⟨(rd_wr_other _ _ _ _ hhalt).trans hpassed.1, hpassed.2, rd_wr_same ..⟩

/-! ## Reports and certificates (R474, R488) -/

/-- ATTEST's report: its signature's bytes are free (log 4). -/
def reportAnswer (nonce : Nat) (s : State) : Answered :=
  (s.drawFree, .ok, reportBytes s nonce ++ bytesOf 3309 (Config.freeBody s.freeCtr 0) ++ [0, 0, 0])

theorem attestReport_replied {s u : State} {m : Msg} (nonce : Nat) (h : takesUp s { code := 0x060, feature := 8 } m = some u) :
    Replied m 0x060 (reportAnswer nonce u) (attestReport m nonce s) :=
  serveOrder_replied h (bodyOk := anyBody) (reportAnswer nonce) rfl

/-- ATTEST's part of the certificate. -/
def certificateAnswer (offset : Nat) (s : State) : Answered :=
  (s, .ok, bytesOf 4 5328 ++ bytesOf (min 4096 (5328 - offset)) (certificate s / 2 ^ (8 * offset)))

theorem attestCertificate_replied {s u : State} {m : Msg} {offset : Nat} (h : takesUp s { code := 0x060, feature := 8 } m = some u)
    (hoffset : offset = 0 ∨ offset = 4096) : Replied m 0x060 (certificateAnswer offset u) (attestCertificate m offset s) :=
  serveOrder_replied h (bodyOk := fun _ => offset == 0 || offset == 4096) (certificateAnswer offset) (by simpa using hoffset)

theorem lock_replied {s u : State} {m : Msg} (h : takesUp s { code := 0x061, feature := 9 } m = some u) :
    Replied m 0x061 (okay (closeToken u 0)) (lock m s) :=
  serveOrder_replied h (bodyOk := anyBody) (fun s => okay (closeToken s 0)) rfl

/-- Settles O45: each message by what its action leaves; the limit and a token shifted in by the same actions, and the halt by itself. A
report's signature is free (log 4). -/
theorem attestationAndDebug : Obligations.AttestationAndDebug := by
  unfold Obligations.AttestationAndDebug
  refine ⟨fun s m u nonce h => (does_iff rfl).mpr ?report, fun s m u offset h hoffset => (does_iff rfl).mpr ?certificate,
    fun s m u k h hk hr => (does_iff rfl).mpr ?unlocked, fun s m u k why h hk hr => (does_iff rfl).mpr ?refused,
    fun s m u h hsource => (does_iff rfl).mpr ?locked, fun s hlimit hdue hsource => (does_iff rfl).mpr ?limit,
    fun s k hwarden hk hr => (does_iff rfl).mpr ?shifted,
    fun s p hp hup hthere hscope => (does_iff rfl).mpr (debugHalt_shows hp hup hthere hscope)⟩
  case report =>
    obtain ⟨hans, hparts, -⟩ := attestReport_replied nonce h
    exact ⟨hans, hparts.touch .freeCtr rfl, hparts.touch .otp rfl⟩
  case certificate =>
    obtain ⟨hans, hparts, -⟩ := attestCertificate_replied h hoffset
    exact ⟨hans, hparts.touch .otp rfl⟩
  case unlocked =>
    have hreply := unlock_replied h hk
    rw [unlockAnswer_of_accepted hr] at hreply
    obtain ⟨hscope, hsource, huntil⟩ := acceptToken_shows u hk
    have hflash := hreply.parts.touch .flash rfl
    refine ⟨hreply.answer, (hreply.rd (by decide)).trans hscope, (hreply.rd (by decide)).trans hsource, (hreply.rd (by decide)).trans huntil, ?_⟩
    exact (congrArg (fun f : Flash => tget f.tokenCtr _) hflash).trans (acceptToken_tokenCtr u k)
  case refused =>
    have hreply := unlock_replied h hk
    rw [unlockAnswer_of_refused hr] at hreply
    refine ⟨(hreply.rd (by decide)).trans (rd_regsBut (regsBut_refuseLife _ _ _ _) _ (by decide)), congrArg Flash.tokenCtr ?_⟩
    exact (hreply.parts.touch .flash rfl).trans ((refuseLife_keeps_parts u 0x08 k.key why).touch .flash rfl)
  case locked =>
    have hreply := lock_replied h
    obtain ⟨hscope, hsrc, huntil, hhalt⟩ := closeToken_shows 0 hsource
    exact ⟨hreply.answer, (hreply.rd (by decide)).trans hscope, (hreply.rd (by decide)).trans hsrc, (hreply.rd (by decide)).trans huntil,
      (hreply.rd (by decide)).trans hhalt⟩
  case limit =>
    rw [debugLimitExpire_of_due hlimit hdue]
    obtain ⟨hscope, hsrc, -, hhalt⟩ := closeToken_shows 1 hsource
    exact ⟨hscope, hsrc, hhalt⟩
  case shifted =>
    rw [show tokenShift k s = acceptToken s k from if_pos ⟨hwarden, hk, by rw [hr]; rfl⟩]
    obtain ⟨hscope, hsource, -⟩ := acceptToken_shows s hk
    exact ⟨hscope, hsource, acceptToken_tokenCtr s k⟩

end Sys2Proof.Proofs
end

section
/-! PROOFS. The life cycle (R471, R478 to R483): what a transition, a revocation, a consent and a refusal leave, and the frame of the
Recorder's writing that a transition goes through. -/

namespace Sys2Proof.Proofs

open Sys2Proof.Machine Sys2Proof.Laws

/-! ## The Recorder's writing (R411, R418, R419) -/

/-- The fields that a write to the cask may change. -/
def caskFields : List Fld :=
  [R.REC_HEAD.position, R.REC_OLDEST.position, R.REC_STATUS.withheld, R.REC_STATUS.write_fail, R.REC_WRITTEN.count,
   R.REC_WRITE_FAIL_COUNT.c.cnt, R.REC_WRITE_FAIL_COUNT.c.ovf] ++ recordFields

theorem regsBut_startErase {r s : State} (q : Nat) (h : RegsBut caskFields r s) : RegsBut caskFields r (startErase s q) := by
  unfold startErase
  exact regsBut_ite (regsBut_wr _ _ (regsBut_regs h rfl) (by decide))
    (regsBut_ite (regsBut_wr _ _ (regsBut_regs h rfl) (by decide)) (regsBut_regs h rfl))

theorem regsBut_openBlock {r s : State} (q : Nat) (h : RegsBut caskFields r s) : RegsBut caskFields r (openBlock s q) := by
  unfold openBlock
  exact regsBut_startErase _ (regsBut_wr _ _ (regsBut_regs h rfl) (by decide))

theorem regsBut_roomFor {s t : State} {n : Nat} (h : roomFor s n = some t) : RegsBut caskFields s t := by
  unfold roomFor at h
  dsimp only at h
  split at h
  case isTrue => exact Option.some.inj h ▸ regsBut_refl _ _
  case isFalse =>
    split at h
    case h_1 =>
      obtain ⟨-, h⟩ := Option.ite_none_right_eq_some.mp h
      obtain rfl := Option.some.inj h
      exact regsBut_openBlock _ (regsBut_refl _ _)
    case h_2 => cases h

theorem notePosition_regs (s : State) (run pos : Nat) : (notePosition s run pos).regs = s.regs := by
  unfold notePosition
  split <;> rfl

/-- A record of `n` slots programmed whole at the write position of `s`, and taken from the queue. -/
def recordProgrammed (s : State) (r : CaskRec) (rest : List CaskRec) (n : Nat) : State :=
  let pos := s.rd R.REC_HEAD.position
  let t := { s with flash := { s.flash with cask := programSlots s.flash.cask pos (slotsOf s r) none }, rcd := { s.rcd with queue := rest } }
  let t := t.wr R.REC_HEAD.position (pos + n)
  let t := t.wr R.REC_WRITTEN.count (min (2 ^ 32 - 1) (t.rd R.REC_WRITTEN.count + 1))
  (if firstOccurrence r then notePosition t r.run pos else t).wr R.REC_PENDING.count rest.length

/-- The records dropped before now are told by an event of their own (R418). -/
def tellDropped (s : State) : State :=
  if s.rcd.dropped = 0 then s
  else { s with rcd := { s.rcd with dropped := 0 } }.event 0x000C 0x0003 (min s.rcd.dropped (2 ^ 32 - 1))

theorem caskWrite_of_room {s room : State} {r : CaskRec} {rest : List CaskRec} (hup : s.procUp 3 = true)
    (hscan : s.on R.REC_STATUS.scanning = false) (hqueue : s.rcd.queue = r :: rest)
    (hroom : roomFor s (slotsOf s r).length = some room) :
    caskWrite none s = tellDropped (recordProgrammed room r rest (slotsOf s r).length) := by
  unfold caskWrite
  rw [if_neg (by simp [hup, hscan])]
  simp only [hqueue, hroom]
  rfl

theorem caskWrite_of_noRoom {s : State} {r : CaskRec} {rest : List CaskRec} (fail : Option Nat) (hqueue : s.rcd.queue = r :: rest)
    (hroom : roomFor s (slotsOf s r).length = none) : caskWrite fail s = s := by
  unfold caskWrite
  split
  · rfl
  · simp only [hqueue, hroom]

theorem caskWrite_of_idle {s : State} (fail : Option Nat)
    (h : ¬ s.procUp 3 ∨ s.on R.REC_STATUS.scanning ∨ s.rcd.queue = []) : caskWrite fail s = s := by
  unfold caskWrite
  split
  case isTrue => rfl
  case isFalse hruns =>
    have hempty : s.rcd.queue = [] := by tauto
    simp only [hempty]

theorem regsBut_recordProgrammed (s : State) (r : CaskRec) (rest : List CaskRec) (n : Nat) :
    RegsBut caskFields s (recordProgrammed s r rest n) := by
  unfold recordProgrammed
  have hwritten : ∀ {t : State} (a b : Nat), RegsBut caskFields s t →
      RegsBut caskFields s ((t.wr R.REC_HEAD.position a).wr R.REC_WRITTEN.count b) :=
    fun a b ht => regsBut_wr _ _ (regsBut_wr _ _ ht (by decide)) (by decide)
  refine regsBut_wr _ _ (regsBut_ite ?_ ?_) (by decide)
  · exact regsBut_regs (hwritten _ _ (regsBut_regs (regsBut_refl _ s) rfl)) (notePosition_regs _ _ _)
  · exact hwritten _ _ (regsBut_regs (regsBut_refl _ s) rfl)

theorem regsBut_tellDropped (s : State) : RegsBut caskFields s (tellDropped s) :=
  regsBut_ite (regsBut_refl _ _) (regsBut_event _ _ _ (regsBut_regs (regsBut_refl _ s) rfl) (by decide))

theorem regsBut_caskWrite (s : State) : RegsBut caskFields s (caskWrite none s) := by
  by_cases hruns : s.procUp 3 = true ∧ s.on R.REC_STATUS.scanning = false
  case neg =>
    rw [caskWrite_of_idle none (by rw [Bool.not_eq_true]; cases hon : s.on R.REC_STATUS.scanning <;> simp_all)]
    exact regsBut_refl _ _
  case pos =>
    cases hqueue : s.rcd.queue with
    | nil =>
      rw [caskWrite_of_idle none (.inr (.inr hqueue))]
      exact regsBut_refl _ _
    | cons r rest =>
      cases hroom : roomFor s (slotsOf s r).length with
      | none =>
        rw [caskWrite_of_noRoom none hqueue hroom]
        exact regsBut_refl _ _
      | some room =>
        rw [caskWrite_of_room hruns.1 hruns.2 hqueue hroom]
        exact regsBut_trans (regsBut_roomFor hroom) (regsBut_trans (regsBut_recordProgrammed _ _ _ _) (regsBut_tellDropped _))

theorem regsBut_flushRecords (s : State) : RegsBut caskFields s (flushRecords s) :=
  List.foldlRecOn _ _ (regsBut_refl _ _) fun _ ht _ _ => regsBut_trans ht (regsBut_caskWrite _)

/-! ## Markers and transitions (R478, R479, R483) -/

theorem or_seven_and_seven (x : Nat) : (x ||| 7) &&& 7 = 7 := by
  refine Nat.eq_of_testBit_eq fun i => ?_
  rw [Nat.testBit_and, Nat.testBit_or]
  cases Nat.testBit 7 i <;> simp

theorem markerState_lt (k : Nat) : markerState k < 8 := by
  unfold markerState
  split <;> decide

theorem highestMarker_congr {a b : Otp} (h : a.markers = b.markers) : highestMarker a = highestMarker b := by
  unfold highestMarker
  rw [h]

theorem closeToken_otp (s : State) (reason : Nat) : (closeToken s reason).otp = s.otp :=
  (closeToken_keeps (m := 76547076) rfl (keeps_refl _ s)).touch .otp rfl

theorem flushRecords_otp (s : State) : (flushRecords s).otp = s.otp :=
  (flushRecords_keeps (m := 276824068) rfl (keeps_refl _ s)).touch .otp rfl

theorem deviceReset_otp (s : State) (source : Nat) (on : Bool) : (deviceReset s source on).otp = s.otp :=
  (deviceReset_keeps (m := 1342177260) rfl (keeps_refl _ s)).touch .otp rfl

/-- R483: of the OTP a transition writes the target's marker alone. -/
theorem transition_otp (s : State) (o : LifeOp) :
    let t := targetMarker o (highestMarker s.otp)
    (transition s o).otp = { s.otp with markers := tput s.otp.markers t (tget s.otp.markers t ||| 7) } := by
  unfold transition
  split <;> simp only [deviceReset_otp, flushRecords_otp, event_otp, wr_otp, closeToken_otp]

theorem transition_marker (s : State) (o : LifeOp) :
    tget (transition s o).otp.markers (targetMarker o (highestMarker s.otp)) &&& 7 = 7 := by
  rw [transition_otp, tget_tput_same, or_seven_and_seven]

/-- R483: a transition to FIELD is no reset: the new state is shown, and debug access is closed. -/
theorem transition_deploy_shows (s : State) :
    (transition s .deploy).rd R.SEC_STATUS.state = markerState (highestMarker s.otp + 1) ∧
      (transition s .deploy).rd R.SEC_DEBUG.scope = 0 := by
  have hflush : ∀ (t : State) {g : Fld}, g.key ∉ caskFields.map Fld.key → (flushRecords t).rd g = t.rd g :=
    fun t g hg => rd_regsBut (regsBut_flushRecords t) g hg
  unfold transition
  rw [if_pos rfl]
  simp (disch := decide) only [hflush, rd_event, rd_wr_other, rd_wr_same, targetMarker]
  refine ⟨Nat.mod_eq_of_lt (markerState_lt _), ?_⟩
  exact (rd_wr_same (closeToken s 2) R.SEC_DEBUG.scope 0).trans (Nat.zero_mod _)

/-! ## Statements (R480 to R483) -/

/-- The action of a message with a statement. -/
def statementAnswer (o : LifeOp) (st : Statement) (s : State) : Answered := match lifeRefusal s o st with
  | some why => refuseLife s o.code st.key why
  | none => okay (actLife { s with flash := { s.flash with signCtr := tput s.flash.signCtr (signerSlot s st.signer st.key) st.counter } } o st)

theorem statement_replied {s u : State} {m : Msg} {o : LifeOp} {st : Statement} (h : takesUp s { code := 0x061, feature := 9 } m = some u)
    (hst : statementOk o st = true) : Replied m 0x061 (statementAnswer o st u) (statement m o st s) :=
  serveOrder_replied h (bodyOk := fun _ => statementOk o st) (statementAnswer o st) hst

/-- An accepted statement is answered OK, and acted on with its counter recorded. -/
theorem statement_replied_of_accepted {s u : State} {m : Msg} {o : LifeOp} {st : Statement}
    (h : takesUp s { code := 0x061, feature := 9 } m = some u) (hst : statementOk o st = true) (hr : lifeRefusal u o st = none) :
    ∃ f : Flash, Replied m 0x061 (okay (actLife { u with flash := f } o st)) (statement m o st s) := by
  have hreply := statement_replied h hst
  rw [statementAnswer, hr] at hreply
  exact ⟨_, hreply⟩

/-- R481: a refused statement writes no OTP. -/
theorem statement_replied_of_refused {s u : State} {m : Msg} {o : LifeOp} {st : Statement} {why : Nat × Resp}
    (h : takesUp s { code := 0x061, feature := 9 } m = some u) (hst : statementOk o st = true) (hr : lifeRefusal u o st = some why) :
    Replied m 0x061 (refuseLife u o.code st.key why) (statement m o st s) := by
  have hreply := statement_replied h hst
  rwa [statementAnswer, hr] at hreply

theorem key_of_statementOk {o : LifeOp} {st : Statement} (h : statementOk o st = true) : st.key < 4 := by
  simp only [statementOk, Bool.and_eq_true, decide_eq_true_eq] at h
  exact h.1.2

/-- R481: the reasons of a refusal are the codes 0x20 to 0x28. -/
theorem lifeRefusal_lt {s : State} {o : LifeOp} {st : Statement} {why : Nat × Resp} (h : lifeRefusal s o st = some why) : why.1 < 64 := by
  unfold lifeRefusal at h
  dsimp only at h
  split_ifs at h <;> obtain rfl := Option.some.inj h <;> decide

/-- R481: the reason of a refusal is shown. -/
theorem refuseLife_shows (s : State) (op key : Nat) (why : Nat × Resp) : (refuseLife s op key why).1.rd R.SEC_LAST_REFUSE.valid = 1 ∧
    (refuseLife s op key why).1.rd R.SEC_LAST_REFUSE.reason = why.1 % 256 := by
  have hstate : (refuseLife s op key why).1 = (((((s.err 0x0014 0x2061 0x11 2 (atByte 0 why.1 + atByte 1 op + atByte 2 key)).bump
      R.SEC_REFUSE_COUNT.c).wr R.SEC_LAST_REFUSE.valid 1).wr R.SEC_LAST_REFUSE.reason why.1).wr R.SEC_LAST_REFUSE.op op).wr
      R.SEC_LAST_REFUSE.key key := by
    unfold refuseLife
    split <;> rfl
  rw [hstate]
  simp (disch := decide) only [rd_wr_other, rd_wr_same]
  exact ⟨rfl, rfl⟩

/-! ## What an accepted statement does (R471, R479, R482) -/

theorem writeBank_markers (s : State) (b : Nat) (owners : List Nat) : (writeBank s b owners).otp.markers = s.otp.markers := by
  unfold writeBank
  dsimp only
  split <;> rfl

/-- R471: PROVISION writes the owner digests of the bank that its marker puts in use. -/
theorem actLife_provision_otp (s : State) (st : Statement) :
    tget (actLife s .provision st).otp.markers (if highestMarker s.otp = 1 then 2 else 5) &&& 7 = 7 ∧
      (if highestMarker s.otp = 1 then (actLife s .provision st).otp.owner0 else (actLife s .provision st).otp.owner1) =
        (List.range 4).map fun i => st.owners.getD i 0 := by
  have hmark := transition_marker (writeBank s (if highestMarker s.otp = 1 then 0 else 1) st.owners) .provision
  rw [highestMarker_congr (writeBank_markers ..)] at hmark
  refine ⟨hmark, ?_⟩
  rw [actLife, transition_otp]
  by_cases h : highestMarker s.otp = 1
  · simp only [h, if_true, writeBank]
  · simp [h, writeBank]

theorem takeConsent_shows (s : State) {key : Nat} (h : key < 4) : (takeConsent s key).rd R.SEC_STATUS.consent = 1 ∧
    (takeConsent s key).rd R.SEC_CONSENT.key = key := by
  unfold takeConsent
  simp (disch := decide) only [rd_wr_other, rd_wr_same]
  exact ⟨rfl, Nat.mod_eq_of_lt h⟩

/-- R482: a revoke bit of the maker is set in the OTP and shown. -/
theorem revokeKey_maker (s : State) {st : Statement} (h : st.revSigner = 0) :
    (revokeKey s st).otp = { s.otp with makerRevoked := s.otp.makerRevoked ||| 2 ^ st.revKey } ∧
      (revokeKey s st).rd R.SEC_KEYS.maker_revoked = (s.otp.makerRevoked ||| 2 ^ st.revKey) % 16 := by
  unfold revokeKey
  simp (disch := decide) only [h, if_true, event_otp, wr_otp, rd_event, rd_wr_other, rd_wr_same]
  exact ⟨trivial, rfl⟩

/-! ## Keys staged, the consent's end and maker test (R471, R474, R479, R480, R482) -/

/-- KEY_STAGE's action. -/
def keyStaged (slot digest : Nat) (s : State) : State :=
  { s with sec := { s.sec with staged := tput s.sec.staged slot digest } }.wr R.SEC_KEYS.staged (setBit (s.rd R.SEC_KEYS.staged) slot true)

theorem keyStage_replied {s u : State} {m : Msg} {slot : Nat} (digest : Nat) (h : takesUp s { code := 0x061, feature := 9 } m = some u)
    (hslot : slot < 4) : Replied m 0x061 (okay (keyStaged slot digest u)) (keyStage m slot digest s) :=
  serveOrder_replied h (bodyOk := fun _ => decide (slot < 4)) (fun s => okay (keyStaged slot digest s)) (decide_eq_true hslot)

theorem keyStaged_shows (s : State) {slot : Nat} (digest : Nat) (h : slot < 4) :
    ((keyStaged slot digest s).rd R.SEC_KEYS.staged).testBit slot = true := by
  rw [keyStaged, rd_wr_same, show R.SEC_KEYS.staged.w = 4 from rfl, Nat.testBit_mod_two_pow, testBit_setBit_true]
  simp [h]

theorem consentLapse_of_lapsed {s : State} (hheld : s.sec.consent.isSome = true) (hover : consentValid s = false) :
    consentLapse s = dropConsent s :=
  if_pos ⟨hheld, hover⟩

theorem dropConsent_shows (s : State) : (dropConsent s).rd R.SEC_STATUS.consent = 0 := by
  unfold dropConsent
  simp (disch := decide) only [rd_wr_other, rd_wr_same]
  rfl

/-- What maker test writes in the OTP of a BLANK part. -/
def makerOtp (d : MakerData) (o : Otp) : Otp :=
  { o with secret := d.secret, serial := d.serial, makerKeys := (List.range 4).map fun i => d.makerKeys.getD i 0, trims := d.trims,
           markers := tput o.markers 1 (tget o.markers 1 ||| 7) }

theorem makerProgramming_of_blank {s : State} (d : MakerData) (hblank : s.lifeState = 0) (hwarden : s.sup.wardenOn = true) :
    (makerProgramming d s).otp = makerOtp d s.otp ∧ (makerProgramming d s).rd R.SEC_STATUS.state = 1 := by
  unfold makerProgramming
  rw [if_neg (by simp [hblank, hwarden])]
  simp only [flushRecords_otp, event_otp, wr_otp]
  refine ⟨rfl, ?_⟩
  rw [rd_regsBut (regsBut_flushRecords _) _ (by decide), rd_event _ _ _ _ (by decide), rd_wr_same]
  rfl

/-- Settles O44: each message by the action of its statement, and what the action leaves in the OTP and the registers. KEY_STAGE is taken in
every life-cycle state (log 88), and the answer after a transition is sent past the reset that it makes (log 62). -/
theorem lifeCycleCommands : Obligations.LifeCycleCommands := by
  unfold Obligations.LifeCycleCommands
  refine ⟨fun s m u slot digest h hslot => (does_iff rfl).mpr ?stage, fun s m u st h hst hr => (does_iff rfl).mpr ?provision,
    fun s m u st h hst hr => (does_iff rfl).mpr ?deploy, fun s m u st h hst hr => (does_iff rfl).mpr ?consent,
    fun s m u st h hst hr => (does_iff rfl).mpr ?return_, fun s m u st h hst hr => (does_iff rfl).mpr ?retire,
    fun s m u st h hst hr hsigner => (does_iff rfl).mpr ?revoke, fun s m u st why h hst hr => (does_iff rfl).mpr ?refused,
    fun s hheld hover => (does_iff rfl).mpr ?lapse, fun s d hblank hwarden => (does_iff rfl).mpr ?maker⟩
  case stage =>
    have hreply := keyStage_replied digest h hslot
    refine ⟨hreply.answer, ?_, ?_⟩
    · rw [hreply.parts.touch .sec rfl]
      exact tget_tput_same _ _ _
    · rw [hreply.rd (by decide)]
      exact keyStaged_shows u digest hslot
  case provision =>
    obtain ⟨f, hreply⟩ := statement_replied_of_accepted h hst hr
    refine ⟨hreply.answer, ?_⟩
    rw [show (provision m st s).otp = _ from hreply.parts.touch .otp rfl]
    exact actLife_provision_otp { u with flash := f } st
  case deploy =>
    obtain ⟨f, hreply⟩ := statement_replied_of_accepted h hst hr
    obtain ⟨hstate, hscope⟩ := transition_deploy_shows { u with flash := f }
    refine ⟨hreply.answer, ?_, (hreply.rd (by decide)).trans hstate, (hreply.rd (by decide)).trans hscope⟩
    rw [show (deploy m st s).otp = _ from hreply.parts.touch .otp rfl]
    exact transition_marker { u with flash := f } .deploy
  case consent =>
    obtain ⟨f, hreply⟩ := statement_replied_of_accepted h hst hr
    obtain ⟨hconsent, hkey⟩ := takeConsent_shows { u with flash := f } (key_of_statementOk hst)
    exact ⟨hreply.answer, congrArg SecState.consent (hreply.parts.touch .sec rfl), (hreply.rd (by decide)).trans hconsent,
      (hreply.rd (by decide)).trans hkey, hreply.parts.touch .otp rfl⟩
  case return_ =>
    obtain ⟨f, hreply⟩ := statement_replied_of_accepted h hst hr
    refine ⟨hreply.answer, ?_⟩
    rw [show (returnPart m st s).otp = _ from hreply.parts.touch .otp rfl]
    exact transition_marker (dropConsent { u with flash := f }) .return_
  case retire =>
    obtain ⟨f, hreply⟩ := statement_replied_of_accepted h hst hr
    refine ⟨hreply.answer, ?_⟩
    rw [show (retire m st s).otp = _ from hreply.parts.touch .otp rfl]
    exact transition_marker { u with flash := f } .retire
  case revoke =>
    obtain ⟨f, hreply⟩ := statement_replied_of_accepted h hst hr
    obtain ⟨hotp, hshown⟩ := revokeKey_maker { u with flash := f } hsigner
    exact ⟨hreply.answer, (hreply.parts.touch .otp rfl).trans hotp, (hreply.rd (by decide)).trans hshown⟩
  case refused =>
    have hreply := statement_replied_of_refused h hst hr
    obtain ⟨hvalid, hreason⟩ := refuseLife_shows u LifeOp.retire.code st.key why
    have hlt := lifeRefusal_lt hr
    refine ⟨(hreply.parts.touch .otp rfl).trans ((refuseLife_keeps_parts ..).touch .otp rfl), ?_, (hreply.rd (by decide)).trans hvalid⟩
    rw [show (retire m st s).rd R.SEC_LAST_REFUSE.reason = _ from (hreply.rd (by decide)).trans hreason]
    omega
  case lapse =>
    rw [consentLapse_of_lapsed hheld hover]
    exact ⟨rfl, dropConsent_shows s, rfl⟩
  case maker =>
    obtain ⟨hotp, hstate⟩ := makerProgramming_of_blank d hblank hwarden
    rw [hotp]
    refine ⟨rfl, rfl, rfl, rfl, ?_, hstate⟩
    rw [makerOtp, tget_tput_same, or_seven_and_seven]

end Sys2Proof.Proofs
end

section
/-! PROOFS. Image transfers: block transfer (R454 to R456), custody (R457) and trickle (R458). -/

namespace Sys2Proof.Proofs

open Sys2Proof.Machine Sys2Proof.Laws

/-! ## Transfers that open and close (R454, R456, R470) -/

@[simp] theorem setRegion_flash (s : State) (typ v : Nat) : (setRegion s typ v).flash = s.flash := rfl
@[simp] theorem setRegion_upd (s : State) (typ v : Nat) : (setRegion s typ v).upd = s.upd := rfl
@[simp] theorem openXfer_flash (s : State) (x : Xfer) (kind done : Nat) : (openXfer s x kind done).flash = s.flash := rfl
@[simp] theorem openXfer_xfer (s : State) (x : Xfer) (kind done : Nat) : (openXfer s x kind done).upd.xfer = some x := rfl
@[simp] theorem hearXfer_flash (s : State) : (hearXfer s).flash = s.flash := rfl
@[simp] theorem clearXfer_flash (s : State) : (clearXfer s).flash = s.flash := rfl
@[simp] theorem clearXfer_xfer (s : State) : (clearXfer s).upd.xfer = none := rfl

theorem openXfer_kind (s : State) (x : Xfer) (done : Nat) : (openXfer s x 1 done).rd R.UPD_XFER.kind = 1 := by
  unfold openXfer
  simp (disch := decide) only [rd_wr_other, rd_wr_same]
  rfl

theorem openXfer_rd (s : State) (x : Xfer) (kind done : Nat) {g : Fld} (hkind : R.UPD_XFER.kind.key ≠ g.key)
    (htype : R.UPD_XFER.type.key ≠ g.key) (hdone : R.UPD_XFER_DONE.count.key ≠ g.key) : (openXfer s x kind done).rd g = s.rd g := by
  unfold openXfer
  rw [rd_wr_other _ _ _ _ hdone, rd_wr_other _ _ _ _ htype, rd_wr_other _ _ _ _ hkind]
  rfl

theorem clearXfer_kind (s : State) : (clearXfer s).rd R.UPD_XFER.kind = 0 := by
  unfold clearXfer
  simp (disch := decide) only [rd_wr_other, rd_wr_same]
  rfl

theorem clearXfer_abandoned (s : State) : (clearXfer s).rd R.UPD_STATUS.abandoned = s.rd R.UPD_STATUS.abandoned := by
  unfold clearXfer
  simp (disch := decide) only [rd_wr_other]
  rfl

/-- R454: the region of an ordered erase is INCOMPLETE, and no longer WRITTEN. -/
theorem orderErase_region (s : State) (typ : Nat) : (orderErase s typ).flash.incomplete.testBit typ = true ∧
    (orderErase s typ).flash.written.testBit typ = false := by
  simp [orderErase]

theorem orderErase_erasing (s : State) (typ : Nat) : (orderErase s typ).rd R.UPD_STATUS.erasing = 1 := rd_wr_same ..

/-- R456: the region of an image that has been received is WRITTEN, and no longer INCOMPLETE. -/
theorem regionWritten_region (s : State) (typ : Nat) (stage : StageFile) :
    (regionWritten s typ stage).flash.written.testBit typ = true ∧ (regionWritten s typ stage).flash.incomplete.testBit typ = false := by
  simp [regionWritten]

theorem blockXfer_eq_some {s : State} {x : Xfer} (h : blockXfer s = some x) : s.upd.xfer = some x ∧ x.trickle = false := by
  obtain ⟨hx, hblock⟩ := Option.filter_eq_some_iff.mp h
  exact ⟨hx, by simpa using hblock⟩

theorem trickleXfer_eq_some {s : State} {x : Xfer} (h : trickleXfer s = some x) : s.upd.xfer = some x :=
  (Option.filter_eq_some_iff.mp h).1

/-- R456: a block transfer that is abandoned leaves its region INCOMPLETE. -/
theorem abandonXfer_of_block {s : State} {x : Xfer} (h : blockXfer s = some x) : (abandonXfer s).upd.xfer = none ∧
    (abandonXfer s).rd R.UPD_STATUS.abandoned = 1 ∧ (abandonXfer s).flash = s.flash := by
  obtain ⟨hx, hblock⟩ := blockXfer_eq_some h
  have heq : abandonXfer s = (clearXfer (s.wr R.UPD_STATUS.abandoned 1)).event 0x0101 0 (atByte 0 x.typ) := by
    unfold abandonXfer
    simp only [hx, hblock]
    cases s.flash.trickle <;> rfl
  rw [heq]
  refine ⟨?_, ?_, ?_⟩
  · rw [event_upd, clearXfer_xfer]
  · rw [rd_event _ _ _ _ (by decide), clearXfer_abandoned, rd_wr_same]
    rfl
  · rw [event_flash, clearXfer_flash, wr_flash]

/-- R455: a part received is noted in the transfer and counted. -/
theorem gotPart_xfer (s : State) (x : Xfer) (i : Nat) : (gotPart s x i).upd.xfer = some { x with got := setBit x.got i true } := rfl

theorem gotPart_done (s : State) (x : Xfer) (i : Nat) :
    (gotPart s x i).rd R.UPD_XFER_DONE.count = (s.rd R.UPD_XFER_DONE.count + 1) % 2 ^ 32 := rd_wr_same ..

/-! ## Block transfer (R454 to R456) -/

/-- UPDATE_BEGIN's action. -/
def beginAnswer (typ : Nat) (abort : Bool) (length : Nat) (s : State) : Answered :=
  if typ = 1 ∧ s.lifeState ≠ 1 then refuse .denied s
  else if s.upd.xfer.isSome ∧ abort = false then retryIn s 100000
  else okay (openXfer (orderErase (abandonXfer s) typ) { typ := typ, length := length, heardAt := s.now } 1 0)

theorem updateBegin_replied {s u : State} {m : Msg} {typ length : Nat} (abort : Bool)
    (h : takesUp s { code := 0x050, loader := true } m = some u) (hlength : lengthOk typ length = true) :
    Replied m 0x050 (beginAnswer typ abort length u) (updateBegin m typ abort length s) :=
  serveOrder_replied h (bodyOk := fun _ => lengthOk typ length) (beginAnswer typ abort length) hlength

theorem updateBlock_replied {s u : State} {m : Msg} (offset length : Nat) (ok : Bool)
    (h : takesUp s { code := 0x051, bulk := true, loader := true } m = some u) :
    Replied m 0x051 (takeBlock offset length ok u) (updateBlock m offset length ok s) :=
  serveOrder_replied h (bodyOk := anyBody) (takeBlock offset length ok) rfl

theorem updateEnd_replied {s u : State} {m : Msg} (stage : StageFile) (h : takesUp s { code := 0x052, loader := true } m = some u) :
    Replied m 0x052 (endBlocks stage u) (updateEnd m stage s) :=
  serveOrder_replied h (bodyOk := anyBody) (endBlocks stage) rfl

theorem beginAnswer_of_free {s : State} {typ : Nat} {abort : Bool} (length : Nat) (htyp : typ ≠ 1)
    (hfree : s.upd.xfer = none ∨ abort = true) : beginAnswer typ abort length s =
      okay (openXfer (orderErase (abandonXfer s) typ) { typ := typ, length := length, heardAt := s.now } 1 0) := by
  have hopen : ¬ (s.upd.xfer.isSome = true ∧ abort = false) := by
    rintro ⟨hsome, hnot⟩
    rcases hfree with hnone | habort
    · rw [hnone] at hsome
      cases hsome
    · exact absurd (habort.symm.trans hnot) nofun
  rw [beginAnswer, if_neg fun hden => htyp hden.1, if_neg hopen]

theorem beginAnswer_of_loader {s : State} (abort : Bool) (length : Nat) (h : s.lifeState ≠ 1) :
    beginAnswer 1 abort length s = refuse .denied s :=
  if_pos ⟨rfl, h⟩

/-- R455: a block in its place that has not been received yet is taken. -/
theorem takeBlock_of_new {s : State} {x : Xfer} {offset length : Nat} (hx : blockXfer s = some x) (haligned : offset % 4096 = 0)
    (hwithin : offset < x.length) (hlength : length = min 4096 (x.length - offset)) (hidle : s.on R.UPD_STATUS.erasing = false)
    (hnew : x.got.testBit (offset / 4096) = false) :
    takeBlock offset length true s = okay (gotPart (hearXfer s) { x with heardAt := s.now } (offset / 4096)) := by
  have hplace : ¬ (offset % 4096 ≠ 0 ∨ x.length ≤ offset ∨ length ≠ min 4096 (x.length - offset)) := by
    rw [not_or, not_or, not_not, not_not]
    exact ⟨haligned, Nat.not_le.mpr hwithin, hlength⟩
  have hidle' : ¬ (hearXfer s).on R.UPD_STATUS.erasing = true := by rw [Bool.not_eq_true]; exact hidle
  unfold takeBlock
  simp only [hx]
  rw [if_neg hplace, if_neg hidle', if_neg (by rw [hnew]; exact Bool.false_ne_true), if_pos trivial]
  rfl

theorem takeBlock_of_none {s : State} (offset length : Nat) (ok : Bool) (hx : blockXfer s = none) :
    takeBlock offset length ok s = refuse .invalid s := by
  unfold takeBlock
  rw [hx]

theorem endBlocks_of_all {s : State} {x : Xfer} (stage : StageFile) (hx : blockXfer s = some x)
    (hall : x.got = 2 ^ divUp x.length 4096 - 1) : endBlocks stage s =
      okay ((clearXfer (regionWritten (hearXfer s) x.typ stage)).event 0x0100 0 (atByte 0 x.typ + atByte 2 x.length)) := by
  unfold endBlocks
  simp only [hx]
  exact if_neg (not_not.mpr hall)

theorem endBlocks_of_missing {s : State} {x : Xfer} (stage : StageFile) (hx : blockXfer s = some x)
    (hmissing : x.got ≠ 2 ^ divUp x.length 4096 - 1) :
    endBlocks stage s = (hearXfer s, .invalid, bytesOf 8 (4096 * firstMissing x.got)) := by
  unfold endBlocks
  simp only [hx]
  exact if_pos hmissing

/-- Settles O41: each message by its action, and an idle transfer by what its abandonment leaves. -/
theorem blockTransfers : Obligations.BlockTransfers := by
  unfold Obligations.BlockTransfers
  refine ⟨fun s m u typ length abort h hlength htyp hfree => (does_iff rfl).mpr ?begins,
    fun s m u length abort h hlength hstate => (does_iff rfl).mpr ?denied,
    fun s m u offset length x h hx haligned hwithin hlength hidle hnew => (does_iff rfl).mpr ?block,
    fun s m u offset length ok h hx => (does_iff rfl).mpr ?noTransfer, fun s m u stage x h hx hall => (does_iff rfl).mpr ?ends,
    fun s m u stage x h hx hmissing => (does_iff rfl).mpr ?missing, fun s => (does_iff rfl).mpr rfl,
    fun s x hx hdue => (does_iff rfl).mpr ?idle⟩
  case begins =>
    have hreply := updateBegin_replied abort h hlength
    rw [beginAnswer_of_free length htyp hfree] at hreply
    obtain ⟨hincomplete, hwritten⟩ := orderErase_region (abandonXfer u) typ
    have hflash := hreply.parts.touch .flash rfl
    refine ⟨hreply.answer, congrArg UpdState.xfer (hreply.parts.touch .upd rfl),
      (congrArg (fun f : Flash => f.incomplete.testBit typ) hflash).trans hincomplete,
      (congrArg (fun f : Flash => f.written.testBit typ) hflash).trans hwritten, ?_, (hreply.rd (by decide)).trans (openXfer_kind ..)⟩
    rw [hreply.rd (by decide), okay, openXfer_rd _ _ _ _ (by decide) (by decide) (by decide), orderErase_erasing]
  case denied =>
    have hreply := updateBegin_replied abort h hlength
    rw [beginAnswer_of_loader abort length hstate] at hreply
    exact ⟨hreply.answer, hreply.parts.touch .upd rfl, hreply.parts.touch .flash rfl⟩
  case block =>
    have hreply := updateBlock_replied offset length true h
    rw [takeBlock_of_new hx haligned hwithin hlength hidle hnew] at hreply
    refine ⟨hreply.answer, ?_, (hreply.rd (by decide)).trans (gotPart_done ..)⟩
    rw [show (updateBlock m offset length true s).upd = _ from hreply.parts.touch .upd rfl, okay, gotPart_xfer]
    simp
  case noTransfer =>
    have hreply := updateBlock_replied offset length ok h
    rw [takeBlock_of_none offset length ok hx] at hreply
    exact ⟨hreply.answer, hreply.parts.touch .flash rfl⟩
  case ends =>
    have hreply := updateEnd_replied stage h
    rw [endBlocks_of_all stage hx hall] at hreply
    obtain ⟨hwritten, hincomplete⟩ := regionWritten_region (hearXfer u) x.typ stage
    have hflash := (hreply.parts.touch .flash rfl).trans (event_flash ..)
    refine ⟨hreply.answer, congrArg UpdState.xfer ((hreply.parts.touch .upd rfl).trans (event_upd ..)),
      (congrArg (fun f : Flash => f.written.testBit x.typ) hflash).trans hwritten,
      (congrArg (fun f : Flash => f.incomplete.testBit x.typ) hflash).trans hincomplete, ?_⟩
    rw [hreply.rd (by decide), okay, rd_event _ _ _ _ (by decide), clearXfer_kind]
  case missing =>
    have hreply := updateEnd_replied stage h
    rw [endBlocks_of_missing stage hx hmissing] at hreply
    refine ⟨hreply.answer, hreply.parts.touch .flash rfl, ?_⟩
    rw [show (updateEnd m stage s).upd = _ from hreply.parts.touch .upd rfl]
    simp [hearXfer, (blockXfer_eq_some hx).1]
  case idle =>
    rw [show transferIdleExpire s = abandonXfer s by unfold transferIdleExpire; rw [hx]; exact if_pos hdue]
    obtain ⟨hnone, habandoned, hflash⟩ := abandonXfer_of_block hx
    exact ⟨hnone, habandoned, congrArg Flash.incomplete hflash⟩

end Sys2Proof.Proofs
end

section
/-! PROOFS. Custody and trickle transfers (R457, R458). -/

namespace Sys2Proof.Proofs

open Sys2Proof.Machine Sys2Proof.Laws

/-! ## Custody (R457) -/

theorem writeCustody_upd (s : State) (off : Nat) (l : List Nat) : (writeCustody s off l).upd = s.upd :=
  (writeCustody_keeps (m := 2052) rfl (keeps_refl _ s)).touch .upd rfl

/-- A custody header is written where its line is served. -/
theorem setCustody_of_served {s : State} (h : CustodyHeader) (loaded : Nat) (hline : lineServed s (custodyBase s) = true) :
    setCustody s h loaded =
      okay (writeCustody { s with upd := { s.upd with custody := some h, loaded := loaded } } 0 (custodyBytes h)) :=
  if_neg (by rw [hline]; exact Bool.false_ne_true)

theorem skein_replied {s u : State} {m : Msg} {bodyOk : State → Bool} (act : State → Answered)
    (h : takesUp s { code := 0x053, feature := 3, bulk := true } m = some u) (hb : bodyOk u = true) :
    Replied m 0x053 (act u) (skein m bodyOk act s) :=
  serveOrder_replied h act hb

/-- A SKEIN message whose action writes a custody header leaves that header and the skeins loaded. -/
theorem custody_of_replied {m : Msg} {u t : State} {x : Answered} {h : CustodyHeader} {loaded : Nat} (hreply : Replied m 0x053 x t)
    (hx : x = setCustody u h loaded) (hline : lineServed u (custodyBase u) = true) :
    t.out.head? = some (.mgmt m.role 0x053 .ok []) ∧ t.upd.custody = some h ∧ t.upd.loaded = loaded := by
  rw [hx, setCustody_of_served h loaded hline] at hreply
  have hupd := (hreply.parts.touch .upd rfl).trans (writeCustody_upd ..)
  exact ⟨hreply.answer, congrArg UpdState.custody hupd, congrArg UpdState.loaded hupd⟩

/-- SKEIN load's action. -/
def loadAnswer (offset : Nat) (data : List Nat) (s : State) : Answered := match s.upd.custody with
  | none => refuse .invalid s
  | some h =>
    let n := data.length / 256
    if divUp h.length 256 < offset / 256 + n then refuse .invalid s
    else if ! (linesOf (custodyBase s + 4096 + offset) data.length).all fun line => lineServed s (line * 256) then retryIn s 100000
    else
      let s := writeCustody s (4096 + offset) data
      okay { s with upd := { s.upd with loaded := setUnion s.upd.loaded ((2 ^ n - 1) * 2 ^ (offset / 256)) } }

theorem skeinLoad_replied {s u : State} {m : Msg} {offset : Nat} {data : List Nat}
    (h : takesUp s { code := 0x053, feature := 3, bulk := true } m = some u) (hcustodian : custodian u 0 = true)
    (haligned : offset % 256 = 0) (hwhole : data.length % 256 = 0) (hsize : 256 ≤ data.length ∧ data.length ≤ 4096) :
    Replied m 0x053 (loadAnswer offset data u) (skeinLoad m offset data s) :=
  skein_replied (bodyOk := fun s =>
      custodian s 0 && offset % 256 == 0 && data.length % 256 == 0 && decide (256 ≤ data.length) && decide (data.length ≤ 4096))
    (loadAnswer offset data) h (by simp [hcustodian, haligned, hwhole, hsize])

theorem loadAnswer_of_served {s : State} {offset : Nat} {data : List Nat} {h : CustodyHeader} (hheader : s.upd.custody = some h)
    (hwithin : offset / 256 + data.length / 256 ≤ divUp h.length 256)
    (hlines : (linesOf (custodyBase s + 4096 + offset) data.length).all (fun line => lineServed s (line * 256)) = true) :
    ∃ v, loadAnswer offset data s = okay v ∧
      v.upd = { s.upd with loaded := setUnion s.upd.loaded ((2 ^ (data.length / 256) - 1) * 2 ^ (offset / 256)) } := by
  unfold loadAnswer
  simp only [hheader, hlines]
  rw [if_neg (Nat.not_lt.mpr hwithin), if_neg (by decide)]
  exact ⟨_, rfl, by simp only [writeCustody_upd, hheader]⟩

/-- SKEIN publish's action. -/
def publishAnswer (s : State) : Answered := match s.upd.custody with
  | none => refuse .invalid s
  | some h => if s.upd.loaded = 2 ^ divUp h.length 256 - 1 then setCustody s { h with published := true } s.upd.loaded else refuse .invalid s

theorem skeinPublish_replied {s u : State} {m : Msg} (h : takesUp s { code := 0x053, feature := 3, bulk := true } m = some u)
    (hcustodian : custodian u 0 = true) : Replied m 0x053 (publishAnswer u) (skeinPublish m s) :=
  skein_replied (bodyOk := fun s => custodian s 0) publishAnswer h hcustodian

theorem publishAnswer_of_whole {s : State} {h : CustodyHeader} (hheader : s.upd.custody = some h)
    (hwhole : s.upd.loaded = 2 ^ divUp h.length 256 - 1) :
    publishAnswer s = setCustody s { h with published := true } s.upd.loaded := by
  unfold publishAnswer
  simp only [hheader]
  exact if_pos hwhole

theorem publishAnswer_of_missing {s : State} {h : CustodyHeader} (hheader : s.upd.custody = some h)
    (hmissing : s.upd.loaded ≠ 2 ^ divUp h.length 256 - 1) : publishAnswer s = refuse .invalid s := by
  unfold publishAnswer
  simp only [hheader]
  exact if_neg hmissing

/-- SKEIN withdraw's action. -/
def withdrawAnswer (s : State) : Answered := match s.upd.custody with
  | none => refuse .invalid s
  | some h => setCustody s { h with published := false } s.upd.loaded

theorem skeinWithdraw_replied {s u : State} {m : Msg} (h : takesUp s { code := 0x053, feature := 3, bulk := true } m = some u)
    (hcustodian : custodian u 0 = true) : Replied m 0x053 (withdrawAnswer u) (skeinWithdraw m s) :=
  skein_replied (bodyOk := fun s => custodian s 0) withdrawAnswer h hcustodian

theorem withdrawAnswer_of_held {s : State} {h : CustodyHeader} (hheader : s.upd.custody = some h) :
    withdrawAnswer s = setCustody s { h with published := false } s.upd.loaded := by
  unfold withdrawAnswer
  simp only [hheader]

/-! ## Trickle (R458) -/

/-- R458: a published header for this hub, of an image that is neither received nor abandoned, opens a trickle. -/
theorem trickleHeader_of_new {s : State} {h : CustodyHeader} (hfree : s.upd.xfer = none) (hmine : h.lo ≤ s.tree.hub ∧ s.tree.hub ≤ h.hi)
    (hnew : h.id ≠ s.flash.trickleDone ∧ h.id ≠ s.flash.trickleAbandoned) (hnone : s.flash.trickle = none)
    (htyp : h.typ ≠ 1 ∧ lengthOk h.typ h.length = true) : Machine.takeHeader s h = openTrickle s h := by
  have hblock : ¬ (blockXfer s).isSome = true := by simp [blockXfer, hfree]
  unfold Machine.takeHeader
  simp [hblock, hnone, hmine, hnew, htyp]

theorem openTrickle_shows (s : State) (h : CustodyHeader) :
    (openTrickle s h).upd.xfer = some { trickle := true, typ := h.typ, length := h.length } ∧
      (openTrickle s h).flash.trickle = some { id := h.id, typ := h.typ, length := h.length } ∧
      (openTrickle s h).flash.incomplete.testBit h.typ = true ∧ (openTrickle s h).upd.pollAt = s.upd.pollAt :=
  ⟨rfl, rfl, (orderErase_region _ h.typ).1, rfl⟩

/-- The header that a poll reads, at the first poll. -/
theorem tricklePoll_of_first {s : State} {h : CustodyHeader} (htarget : isTarget s = true) (hfirst : s.upd.pollAt = 0)
    (hpublished : h.published = true) :
    tricklePoll (some h) s = Machine.takeHeader { s with upd := { s.upd with pollAt := max 1 s.now } } h := by
  unfold tricklePoll
  rw [if_neg (by simp [htarget, hfirst])]
  simp only [hpublished, if_true]

theorem tricklePull_of_due {s : State} {x : Xfer} (hx : trickleXfer s = some x) (htarget : isTarget s = true) (hgoing : x.paused = false)
    (hidle : s.on R.UPD_STATUS.erasing = false) (hdue : s.upd.pullAt + 1000000 / max 1 (s.rd R.UPD_TRICKLE_CFG.rate) ≤ s.now) :
    tricklePull s = { s with upd := { s.upd with pullAt := s.now } }.emit (.skeinRead (firstMissing x.got)) := by
  unfold tricklePull
  simp only [hx]
  exact if_neg (by simp [htarget, hgoing, hidle, Nat.not_lt.mpr hdue])

@[simp] theorem saveBitmap_upd (s : State) (w : Nat) : (saveBitmap s w).upd = s.upd := rfl
@[simp] theorem rd_saveBitmap (s : State) (w : Nat) (g : Fld) : (saveBitmap s w).rd g = s.rd g := rfl

theorem saveBitmap_id (s : State) (w : Nat) : (saveBitmap s w).flash.trickle.map Trickle.id = s.flash.trickle.map Trickle.id := by
  unfold saveBitmap
  cases s.flash.trickle <;> rfl

/-- A skein that has been received: noted and counted, and its bitmap saved with every 64th. -/
def skeinTaken (s : State) (x : Xfer) (i : Nat) : State :=
  let s := gotPart s x i
  if s.rd R.UPD_XFER_DONE.count % 64 = 0 then saveBitmap s (setBit x.got i true) else s

theorem skeinTaken_shows (s : State) (x : Xfer) (i : Nat) : (skeinTaken s x i).upd.xfer = some { x with got := setBit x.got i true } ∧
    (skeinTaken s x i).rd R.UPD_XFER_DONE.count = (s.rd R.UPD_XFER_DONE.count + 1) % 2 ^ 32 ∧
    (skeinTaken s x i).flash.trickle.map Trickle.id = s.flash.trickle.map Trickle.id := by
  unfold skeinTaken
  dsimp only
  split
  · exact ⟨gotPart_xfer .., gotPart_done .., saveBitmap_id ..⟩
  · exact ⟨gotPart_xfer .., gotPart_done .., rfl⟩

section Receive

variable {s : State} {x : Xfer} {i : Nat} {page : Option Bool} (stage : StageFile) (hx : trickleXfer s = some x) (hgoing : x.paused = false)
  (hidle : s.on R.UPD_STATUS.erasing = false) (hwithin : i < divUp x.length 256) (hpage : page ≠ some false)
  (hnew : x.got.testBit i = false)
include hx hgoing hidle hwithin hpage hnew

/-- R458: a skein that is missing is taken, and the last completes the image. -/
theorem skeinReceive_of_new : skeinReceive i true page stage s =
    if setBit x.got i true = 2 ^ divUp x.length 256 - 1 then trickleComplete (skeinTaken s x i) x stage else skeinTaken s x i := by
  unfold skeinReceive
  simp only [hx]
  rw [if_neg (by simp [hgoing, hidle, hwithin]), if_neg (by decide), if_neg hpage, if_neg (by simp [hnew])]
  rfl

end Receive

theorem trickleComplete_shows (s : State) (x : Xfer) (stage : StageFile) : (trickleComplete s x stage).upd.xfer = none ∧
    (trickleComplete s x stage).flash.written.testBit x.typ = true ∧ (trickleComplete s x stage).flash.trickle = none ∧
    (trickleComplete s x stage).flash.trickleDone = (s.flash.trickle.map Trickle.id).getD 0 := by
  unfold trickleComplete
  simp only [event_upd, event_flash, clearXfer_xfer, clearXfer_flash, (regionWritten_region s x.typ stage).1, and_self]

/-- Settles O42: custody by the header that each operation writes, and trickle by the branch of each command. A load is taken whether the
custody is published or not (log 88). -/
theorem skeinAndTrickle : Obligations.SkeinAndTrickle := by
  unfold Obligations.SkeinAndTrickle
  refine ⟨fun s m u h hup hcustodian htyp hid hline => (does_iff rfl).mpr ?opens,
    fun s m u offset data h hup hcustodian haligned hwhole hsize hheader hwithin hlines => (does_iff rfl).mpr ?loads,
    fun s m u h hup hcustodian hheader hwhole hline => (does_iff rfl).mpr ?publishes,
    fun s m u h hup hcustodian hheader hmissing => (does_iff rfl).mpr ?notWhole,
    fun s m u h hup hcustodian hheader hline => (does_iff rfl).mpr ?withdraws,
    fun s h htarget hfirst hfree hpublished hmine hnew hnone htyp => (does_iff rfl).mpr ?takesHeader,
    fun s x hx htarget hgoing hidle hdue => (does_iff rfl).mpr ?pulls,
    fun s i page stage x hx hgoing hidle hwithin hpage hnew hmore => (does_iff rfl).mpr ?receives,
    fun s i page stage x hx hgoing hidle hwithin hpage hnew hlast => (does_iff rfl).mpr ?completes⟩
  case opens =>
    exact custody_of_replied (x := setCustody u { h with published := false } 0) (skein_replied
      (bodyOk := fun s => custodian s h.length && decide (1 ≤ h.typ) && decide (h.typ ≤ 6) && h.id != 0)
      (fun s => setCustody s { h with published := false } 0) hup (by simp [hcustodian, htyp, hid])) rfl hline
  case loads =>
    have hreply := skeinLoad_replied hup hcustodian haligned hwhole hsize
    obtain ⟨v, hans, hupd⟩ := loadAnswer_of_served hheader hwithin hlines
    rw [hans] at hreply
    have hu := (hreply.parts.touch .upd rfl).trans hupd
    exact ⟨hreply.answer, congrArg UpdState.loaded hu, (congrArg UpdState.custody hu).trans hheader⟩
  case publishes =>
    exact custody_of_replied (skeinPublish_replied hup hcustodian) (publishAnswer_of_whole hheader hwhole) hline
  case notWhole =>
    have hreply := skeinPublish_replied hup hcustodian
    rw [publishAnswer_of_missing hheader hmissing] at hreply
    exact ⟨hreply.answer, (congrArg UpdState.custody (hreply.parts.touch .upd rfl)).trans hheader⟩
  case withdraws =>
    exact custody_of_replied (skeinWithdraw_replied hup hcustodian) (withdrawAnswer_of_held hheader) hline
  case takesHeader =>
    rw [tricklePoll_of_first htarget hfirst hpublished]
    have heq := trickleHeader_of_new (s := { s with upd := { s.upd with pollAt := max 1 s.now } }) hfree hmine hnew hnone htyp
    rw [heq]
    exact openTrickle_shows _ h
  case pulls =>
    rw [tricklePull_of_due hx htarget hgoing hidle hdue]
    exact ⟨rfl, rfl, rfl⟩
  case receives =>
    rw [skeinReceive_of_new stage hx hgoing hidle hwithin hpage hnew, if_neg hmore]
    obtain ⟨hxfer, hdone, -⟩ := skeinTaken_shows s x i
    exact ⟨hxfer, hdone⟩
  case completes =>
    rw [skeinReceive_of_new stage hx hgoing hidle hwithin hpage hnew, if_pos hlast]
    obtain ⟨hnone, hwritten, htrickle, hdone⟩ := trickleComplete_shows (skeinTaken s x i) x stage
    obtain ⟨-, -, hid⟩ := skeinTaken_shows s x i
    exact ⟨hnone, hwritten, htrickle, hdone.trans (congrArg (fun o : Option Nat => o.getD 0) hid)⟩

end Sys2Proof.Proofs
end

section
/-! PROOFS. Activation, pushes and security versions (R460 to R467): first the restart of a processor (R372), with the fields that it may
change. -/

namespace Sys2Proof.Proofs

open Sys2Proof.Machine Sys2Proof.Laws

/-! ## The arbiter and a restart (R372, R381, R385) -/

/-- The fields of controller `c` that a grant may change. -/
def grantFields (c : Nat) : List Fld :=
  [R.ARB_CTL.held c, R.ARB_CTL.holder c, R.ARB_CTL.waiting c, R.ARB_CTL.suspended c, R.ARB_CTL.locked c, R.ARB_PROG.progress c]

/-- The fields of the controllers that a processor's crash may change. -/
def arbFields : List Fld := (List.range 6).flatMap grantFields

theorem regsBut_grant {ks : List Fld} {r s : State} {c : Nat} (w : Option Nat) (h : RegsBut ks r s)
    (hk : ∀ f ∈ grantFields c, f.key ∈ ks.map Fld.key) : RegsBut ks r (grant s c w) := by
  simp only [grantFields, List.forall_mem_cons, List.not_mem_nil, false_implies, implies_true, and_true] at hk
  obtain ⟨hheld, hholder, hwaiting, hsuspended, hlocked, hprogress⟩ := hk
  unfold grant
  split
  · exact regsBut_wr _ _ (regsBut_wr _ _ (regsBut_wr _ _ (regsBut_wr _ _ (regsBut_wr _ _ h hheld) hwaiting) hsuspended) hlocked) hprogress
  · exact regsBut_wr _ _ (regsBut_wr _ _ (regsBut_wr _ _ (regsBut_wr _ _ (regsBut_wr _ _ (regsBut_wr _ _ h hheld) hholder) hwaiting)
      hsuspended) hlocked) hprogress

theorem regsBut_arbCrash (s : State) (p : Nat) : RegsBut arbFields s (arbCrash s p) := by
  refine List.foldlRecOn (motive := RegsBut arbFields s) _ _ (regsBut_refl _ _) fun t ht c hc => ?_
  have hk : ∀ f ∈ grantFields c, f.key ∈ arbFields.map Fld.key := fun f hf =>
    List.mem_map_of_mem (List.mem_flatMap.mpr ⟨c, hc, hf⟩)
  dsimp only
  exact regsBut_ite ht (regsBut_ite (regsBut_grant _ (regsBut_regs ht rfl) hk)
    (regsBut_ite (regsBut_grant _ (regsBut_regs ht rfl) hk) (regsBut_regs ht rfl)))

/-- The fields that the restart of processor `p` may change. -/
def restartFields (p : Nat) : List Fld :=
  [R.FW_PROC.last_cause p, R.FW_PROC.state p, R.FW_STATUS.restarting, R.FW_STATUS.halted] ++ arbFields ++ dutyFields p

/-- R372: what a restart shows of its processor, before its grants end and its duties pass on. -/
def restartNoted (s : State) (p cause pc start : Nat) : State :=
  let s := s.modProc p fun q => { q with restartAt := start, released := false, armed := false }
  let s := (s.wr (R.FW_PROC.last_cause p) cause).wr (R.FW_PROC.state p) 2
  let s := s.wr R.FW_STATUS.restarting (setBit (s.rd R.FW_STATUS.restarting) p true)
  let s := s.wr R.FW_STATUS.halted (setBit (s.rd R.FW_STATUS.halted) p false)
  s.logEntry p 0xFFFF 3 [cause, pc % 2 ^ 32, (recentCrashes s p).length, 0]

theorem beginRestart_eq (s : State) (p cause pc start : Nat) :
    beginRestart s p cause pc start = dutiesPass (arbCrash (restartNoted s p cause pc start) p) p := rfl

theorem regsBut_beginRestart (s : State) (p cause pc start : Nat) : RegsBut (restartFields p) s (beginRestart s p cause pc start) := by
  have hnoted : RegsBut (restartFields p) s (restartNoted s p cause pc start) := by
    refine regsBut_regs (regsBut_wr _ _ (regsBut_wr _ _ (regsBut_wr _ _ (regsBut_wr _ _ (regsBut_regs (regsBut_refl _ s) rfl) ?_) ?_) ?_) ?_) rfl
      <;> simp [restartFields]
  refine regsBut_trans hnoted (regsBut_trans (regsBut_mono (regsBut_arbCrash _ p) fun k hk => ?_)
    (regsBut_mono (regsBut_dutiesPass _ p) fun k hk => ?_))
  · simp only [restartFields, List.map_append, List.mem_append]
    exact .inl (.inr hk)
  · simp only [restartFields, List.map_append, List.mem_append]
    exact .inr hk

theorem restartNoted_shows (s : State) {p : Nat} (cause pc start : Nat) (hp : p < 8) :
    (restartNoted s p cause pc start).rd (R.FW_PROC.state p) = 2 ∧
      (restartNoted s p cause pc start).rd (R.FW_PROC.last_cause p) = cause % 2 ^ 4 := by
  have hne : ∀ q < 8, R.FW_STATUS.halted.key ≠ (R.FW_PROC.state q).key ∧ R.FW_STATUS.restarting.key ≠ (R.FW_PROC.state q).key ∧
      R.FW_STATUS.halted.key ≠ (R.FW_PROC.last_cause q).key ∧ R.FW_STATUS.restarting.key ≠ (R.FW_PROC.last_cause q).key ∧
      (R.FW_PROC.state q).key ≠ (R.FW_PROC.last_cause q).key := by decide
  obtain ⟨hhalted, hrestarting, hhalted', hrestarting', hstate⟩ := hne p hp
  unfold restartNoted
  refine ⟨?_, ?_⟩
  · refine (rd_wr_other _ _ _ _ hhalted).trans ((rd_wr_other _ _ _ _ hrestarting).trans (rd_wr_same ..))
  · exact (rd_wr_other _ _ _ _ hhalted').trans ((rd_wr_other _ _ _ _ hrestarting').trans ((rd_wr_other _ _ _ _ hstate).trans (rd_wr_same ..)))

/-- R372: a processor that restarts shows it, with the cause. -/
theorem beginRestart_shows (s : State) {p : Nat} (cause pc start : Nat) (hp : p < 8) :
    (beginRestart s p cause pc start).rd (R.FW_PROC.state p) = 2 ∧
      (beginRestart s p cause pc start).rd (R.FW_PROC.last_cause p) = cause % 2 ^ 4 := by
  have hne : ∀ q < 8, ∀ f ∈ [R.FW_PROC.state q, R.FW_PROC.last_cause q], f.key ∉ arbFields.map Fld.key ∧
      f.key ∉ (dutyFields q).map Fld.key := by decide
  have hkeep : ∀ f ∈ [R.FW_PROC.state p, R.FW_PROC.last_cause p],
      (beginRestart s p cause pc start).rd f = (restartNoted s p cause pc start).rd f := fun f hf =>
    (rd_regsBut (regsBut_dutiesPass _ p) f (hne p hp f hf).2).trans (rd_regsBut (regsBut_arbCrash _ p) f (hne p hp f hf).1)
  obtain ⟨hstate, hcause⟩ := restartNoted_shows s cause pc start hp
  exact ⟨(hkeep _ (by simp)).trans hstate, (hkeep _ (by simp)).trans hcause⟩

/-- The restart of one processor leaves the state that the others show. -/
theorem beginRestart_state_other (s : State) {p q : Nat} (cause pc start : Nat) (hp : p < 8) (hq : q < 8) (h : p ≠ q) :
    (beginRestart s p cause pc start).rd (R.FW_PROC.state q) = s.rd (R.FW_PROC.state q) := by
  have hne : ∀ p < 8, ∀ q < 8, p ≠ q → (R.FW_PROC.state q).key ∉ (restartFields p).map Fld.key := by decide
  exact rd_regsBut (regsBut_beginRestart _ _ _ _ _) _ (hne p hp q hq h)

theorem dutiesPass_upd {s : State} {p : Nat} (h : p = 0 → s.upd.xfer = none) : (dutiesPass s p).upd = s.upd := by
  unfold dutiesPass
  split_ifs with h0
  · unfold abandonBlock
    rw [h h0]
  all_goals rfl

/-- A restart touches the update's state only where Steward's abandons a transfer (R456). -/
theorem beginRestart_upd {s : State} {p : Nat} (cause pc start : Nat) (h : p = 0 → s.upd.xfer = none) :
    (beginRestart s p cause pc start).upd = s.upd := by
  have hcrash : (arbCrash (restartNoted s p cause pc start) p).upd = s.upd :=
    (arbCrash_keeps (m := 2097172) rfl (keeps_refl _ (restartNoted s p cause pc start))).touch .upd rfl
  rw [beginRestart_eq, dutiesPass_upd (by rwa [hcrash]), hcrash]

/-! ## ACTIVATE (R460 to R462) -/

theorem activateOrder_replied {s u : State} {m : Msg} {flags : Nat} (c : CodeImages)
    (h : takesUp s { code := 0x054, loader := true } m = some u) (hflags : flags ≠ 0 ∧ flags < 8) :
    Replied m 0x054 (activate flags c u) (activateOrder m flags c s) :=
  serveOrder_replied h (bodyOk := fun _ => flags != 0 && decide (flags < 8)) (activate flags c) (by simp [hflags])

section Activate

variable {s : State} {flags : Nat} {c : CodeImages} (hxfer : s.upd.xfer = none) (hcontain : s.itg.containAt = none)
  (hseq : s.seq.state ≠ 3) (hwhole : ((flags.testBit 0 && s.flash.incomplete.testBit 2) || (flags.testBit 1 && s.flash.incomplete.testBit 3)) = false)
include hxfer hcontain hseq hwhole

/-- R460: where nothing stands in the way and the images verify, what they name restarts. -/
theorem activate_of_verified (hverdict : activationVerdict s flags c = none) : activate flags c s = okay (restartFor s flags c) := by
  unfold activate
  rw [if_neg (by simp [hxfer, hcontain, hseq]), if_neg (by rw [hwhole]; exact Bool.false_ne_true)]
  simp only [hverdict]

theorem activate_of_failed {typ r : Nat} (hverdict : activationVerdict s flags c = some (typ, r)) :
    activate flags c s = (verifyFailed s typ r 0x2054, .invalid, [r]) := by
  unfold activate
  rw [if_neg (by simp [hxfer, hcontain, hseq]), if_neg (by rw [hwhole]; exact Bool.false_ne_true)]
  simp only [hverdict]

end Activate

/-- R451: a failed verification is shown, and leaves the processors as they are. -/
theorem verifyFailed_shows (s : State) (typ reason op : Nat) : (verifyFailed s typ reason op).rd R.UPD_STATUS.verify_fail = 1 ∧
    ∀ p < 8, (verifyFailed s typ reason op).rd (R.FW_PROC.state p) = s.rd (R.FW_PROC.state p) := by
  have hstate : ∀ p < 8, R.UPD_REGIONS.state.key ≠ (R.FW_PROC.state p).key ∧ R.UPD_STATUS.verify_fail.key ≠ (R.FW_PROC.state p).key ∧
      R.UPD_VERIFY_FAIL_COUNT.c.cnt.key ≠ (R.FW_PROC.state p).key ∧ R.UPD_VERIFY_FAIL_COUNT.c.ovf.key ≠ (R.FW_PROC.state p).key ∧
      (R.FW_PROC.state p).key ∉ recordFields.map Fld.key := by decide
  unfold verifyFailed setRegion
  refine ⟨?_, fun p hp => ?_⟩
  · rw [rd_event _ _ _ _ (by decide), rd_err _ _ _ _ _ _ (by decide), rd_wr_other _ _ _ _ (by decide), rd_wr_same]
    rfl
  · obtain ⟨hregion, hfail, hcnt, hovf, hrecord⟩ := hstate p hp
    rw [rd_event _ _ _ _ hrecord, rd_err _ _ _ _ _ _ hrecord, rd_wr_other _ _ _ _ hregion, rd_wr_other _ _ _ _ hfail,
      bump_other _ _ _ hcnt hovf]

/-- R460: an activation is counted, and the 600 s of R466 start again. -/
def activationNoted (s : State) : State :=
  let s := s.bump R.UPD_ACTIVATE_COUNT.c
  { s with upd := { s.upd with svnAt := s.upd.svnAt.map fun (t : Nat × Nat) => (t.1, s.now) } }

theorem rd_activationNoted (s : State) {g : Fld} (hcnt : R.UPD_ACTIVATE_COUNT.c.cnt.key ≠ g.key)
    (hovf : R.UPD_ACTIVATE_COUNT.c.ovf.key ≠ g.key) : (activationNoted s).rd g = s.rd g :=
  bump_other s _ _ hcnt hovf

theorem activationNoted_sup (s : State) : (activationNoted s).sup = s.sup := bump_sup _ _

/-- An activation is under way with its flags, and the next processor to restart (R461). -/
def activating (s : State) (flags next : Nat) : State := { s with upd := { s.upd with act := some (flags, next) } }

/-- R461, R462: the images that an activation names, taken up, and the restarts that it makes. -/
def restartImages (s : State) (flags : Nat) (c : CodeImages) : State :=
  let s := if flags.testBit 1 then activateHub s c else s
  let s := if flags.testBit 0 then activating s flags (if flags.testBit 1 then 4 else 8)
    else (activating s 0 4).event 0x0103 0 (atByte 0 flags)
  let s := if flags.testBit 0 then activateCode s c else s
  if flags.testBit 1 then nextActivation s else s

theorem restartFor_eq (s : State) (flags : Nat) (c : CodeImages) : restartFor s flags c =
    if flags.testBit 2 then fullRestart (activationNoted s)
    else if (activationNoted s).rd R.UPD_STATUS.loader = 2 then goVerify (activationNoted s)
    else restartImages (activationNoted s) flags c := rfl

/-- Past AWAITING an activation restarts what its flags name (R452, R460). -/
theorem restartFor_of_running {s : State} {flags : Nat} (c : CodeImages) (hflags : flags.testBit 2 = false)
    (hloader : s.rd R.UPD_STATUS.loader = 1) : restartFor s flags c = restartImages (activationNoted s) flags c := by
  have h2 : ¬ (activationNoted s).rd R.UPD_STATUS.loader = 2 := by
    rw [rd_activationNoted s (by decide) (by decide), hloader]
    decide
  rw [restartFor_eq, if_neg (by rw [hflags]; exact Bool.false_ne_true), if_neg h2]

/-! ### WARDEN (R461, R462) -/

/-- The WARDEN image taken up by an activation, before its processors restart. -/
def wardenTakenUp (s : State) (c : CodeImages) : State :=
  let s := measure (verifiedImage (closeRuns s) 2 c.warden) 1 c.warden.digest
  let s := (c.copies.take 3).zipIdx.foldl (fun s p => measure s (6 + p.2) p.1) s
  let s := startSvn (settingsVersion s c.settings c.known) 2
  (showFeatures { s with upd := { s.upd with features := setBit c.features 0 true } }).wr R.SEC_STATUS.activated 1

/-- R461: the restart of a processor by an activation, where it is not halted. -/
def restartUnlessHalted (s : State) (p : Nat) : State :=
  if s.rd (R.FW_PROC.state p) = 3 then s else beginRestart s p 6 0 (s.now + 100000)

theorem activateCode_eq (s : State) (c : CodeImages) :
    activateCode s c = [0, 1, 2, 3].foldl restartUnlessHalted (wardenTakenUp s c) := rfl

/-- The fields that a WARDEN image taken up may change. -/
def takenUpFields : List Fld :=
  [R.UPD_REGIONS.state, R.UPD_SVN.running 1, R.UPD_SETTINGS.image, R.UPD_SETTINGS.store, R.SEC_STATUS.activated] ++
    (List.range 4).map R.FW_FEATURES.bits ++ (List.range 4).map R.FW_NEG.bits ++ recordFields

theorem regsBut_closeRuns {ks : List Fld} (s : State) (hr : ∀ k ∈ recordFields.map Fld.key, k ∈ ks.map Fld.key) :
    RegsBut ks s (closeRuns s) :=
  List.foldlRecOn _ _ (regsBut_refl _ _) fun _ ht _ _ => regsBut_closeRun _ ht hr

theorem measures_same (l : List (Nat × Nat)) (s : State) : (l.foldl (fun s p => measure s (6 + p.2) p.1) s).regs = s.regs ∧
    (l.foldl (fun s p => measure s (6 + p.2) p.1) s).upd = s.upd :=
  List.foldlRecOn (motive := fun t : State => t.regs = s.regs ∧ t.upd = s.upd) _ _ ⟨rfl, rfl⟩ fun _ ht _ _ => ht

theorem regsBut_settingsVersion {r s : State} (version known : Nat) (h : RegsBut takenUpFields r s) :
    RegsBut takenUpFields r (settingsVersion s version known) := by
  have hshown : RegsBut takenUpFields r ((s.wr R.UPD_SETTINGS.image version).wr R.UPD_SETTINGS.store s.flash.version) :=
    regsBut_wr _ _ (regsBut_wr _ _ h (by decide)) (by decide)
  unfold settingsVersion
  exact regsBut_ite hshown (regsBut_ite (regsBut_regs hshown rfl) (regsBut_event _ _ _ (regsBut_regs hshown rfl) (by decide)))

theorem regsBut_showFeatures {r s : State} (h : RegsBut takenUpFields r s) : RegsBut takenUpFields r (showFeatures s) := by
  have hk : ∀ i < 4, (R.FW_FEATURES.bits i).key ∈ takenUpFields.map Fld.key ∧ (R.FW_NEG.bits i).key ∈ takenUpFields.map Fld.key := by decide
  refine List.foldlRecOn (motive := RegsBut takenUpFields r) _ _ h fun t ht i hi => ?_
  obtain ⟨hbits, hneg⟩ := hk i (List.mem_range.mp hi)
  exact regsBut_wr _ _ (regsBut_wr _ _ ht hbits) hneg

theorem regsBut_wardenTakenUp (s : State) (c : CodeImages) : RegsBut takenUpFields s (wardenTakenUp s c) := by
  have hverified : RegsBut takenUpFields s (measure (verifiedImage (closeRuns s) 2 c.warden) 1 c.warden.digest) :=
    regsBut_regs (regsBut_wr (R.UPD_SVN.running 1) _ (regsBut_wr R.UPD_REGIONS.state _ (regsBut_regs (regsBut_closeRuns s (by decide)) rfl)
      (by decide)) (by decide)) rfl
  have hmeasured := regsBut_regs hverified (measures_same (c.copies.take 3).zipIdx _).1
  exact regsBut_wr _ _ (regsBut_showFeatures (regsBut_regs (regsBut_settingsVersion c.settings c.known hmeasured) rfl)) (by decide)

theorem wardenTakenUp_upd (s : State) (c : CodeImages) : (wardenTakenUp s c).upd.xfer = s.upd.xfer ∧ (wardenTakenUp s c).upd.act = s.upd.act ∧
    (wardenTakenUp s c).upd.features = setBit c.features 0 true := by
  have hclosed : (closeRuns s).upd = s.upd := (closeRuns_keeps (m := 8388612) rfl (keeps_refl _ s)).touch .upd rfl
  have hsettings : ∀ t : State, (settingsVersion t c.settings c.known).upd = t.upd := fun t =>
    (settingsVersion_keeps (m := 276824068) rfl (keeps_refl _ t)).touch .upd rfl
  have hfeatures : ∀ t : State, (showFeatures t).upd = t.upd := fun t => (showFeatures_keeps (m := 4) rfl (keeps_refl _ t)).touch .upd rfl
  have hmeasured := (measures_same (c.copies.take 3).zipIdx (measure (verifiedImage (closeRuns s) 2 c.warden) 1 c.warden.digest)).2
  have hverified : (measure (verifiedImage (closeRuns s) 2 c.warden) 1 c.warden.digest).upd = s.upd := hclosed
  unfold wardenTakenUp
  simp only [wr_upd, hfeatures, startSvn, hsettings, hmeasured, hverified, and_self]

/-- What the restarts of an activation leave of the state that a processor shows. -/
theorem restarts_state_other {l : List Nat} (hl : ∀ q ∈ l, q < 8) {p : Nat} (hp : p < 8) (h : p ∉ l) (s : State) :
    (l.foldl restartUnlessHalted s).rd (R.FW_PROC.state p) = s.rd (R.FW_PROC.state p) := by
  refine List.foldlRecOn (motive := fun t : State => t.rd (R.FW_PROC.state p) = s.rd (R.FW_PROC.state p)) _ _ rfl fun t ht q hq => ?_
  unfold restartUnlessHalted
  split
  · exact ht
  · rw [beginRestart_state_other _ _ _ _ (hl q hq) hp (fun e => h (e ▸ hq)), ht]

theorem restarts_state {l : List Nat} (hl : ∀ q ∈ l, q < 8) (hd : l.Nodup) {p : Nat} (hp : p ∈ l) {s : State}
    (h : s.rd (R.FW_PROC.state p) ≠ 3) : (l.foldl restartUnlessHalted s).rd (R.FW_PROC.state p) = 2 := by
  induction l generalizing s with
  | nil => exact absurd hp List.not_mem_nil
  | cons q l ih =>
    obtain ⟨hq, hrest⟩ := List.nodup_cons.mp hd
    have hl' : ∀ x ∈ l, x < 8 := fun x hx => hl x (List.mem_cons_of_mem _ hx)
    rw [List.foldl_cons]
    by_cases hpq : p = q
    case pos =>
      subst hpq
      rw [restarts_state_other hl' (hl p List.mem_cons_self) hq, restartUnlessHalted, if_neg h]
      exact (beginRestart_shows s 6 0 _ (hl p List.mem_cons_self)).1
    case neg =>
      have hpl := (List.mem_cons.mp hp).resolve_left hpq
      refine ih hl' hrest hpl (fun h3 => h ?_)
      have hfirst := restarts_state_other (l := [q]) (by simpa using hl q List.mem_cons_self) (hl' p hpl) (by simpa using hpq) s
      exact hfirst.symm.trans h3

theorem restarts_upd {l : List Nat} {s : State} (h : s.upd.xfer = none) : (l.foldl restartUnlessHalted s).upd = s.upd := by
  refine List.foldlRecOn (motive := fun t : State => t.upd = s.upd) _ _ rfl fun t ht q _ => ?_
  unfold restartUnlessHalted
  split
  · exact ht
  · rw [beginRestart_upd _ _ _ (fun _ => by rw [ht, h]), ht]

theorem restarts_activated {l : List Nat} (hl : ∀ q ∈ l, q < 8) (s : State) :
    (l.foldl restartUnlessHalted s).rd R.SEC_STATUS.activated = s.rd R.SEC_STATUS.activated := by
  have hne : ∀ q < 8, R.SEC_STATUS.activated.key ∉ (restartFields q).map Fld.key := by decide
  refine List.foldlRecOn (motive := fun t : State => t.rd R.SEC_STATUS.activated = s.rd R.SEC_STATUS.activated) _ _ rfl fun t ht q hq => ?_
  unfold restartUnlessHalted
  split
  · exact ht
  · rw [rd_regsBut (regsBut_beginRestart _ _ _ _ _) _ (hne q (hl q hq)), ht]

/-- R461, R462: with the WARDEN image taken up, the four processors restart but for one that is halted. -/
theorem activateCode_shows {s : State} (c : CodeImages) (hxfer : s.upd.xfer = none) :
    (∀ p < 4, s.rd (R.FW_PROC.state p) ≠ 3 → (activateCode s c).rd (R.FW_PROC.state p) = 2) ∧ (activateCode s c).upd.act = s.upd.act ∧
      (activateCode s c).upd.features = setBit c.features 0 true ∧ (activateCode s c).rd R.SEC_STATUS.activated = 1 := by
  obtain ⟨hx, hact, hfeatures⟩ := wardenTakenUp_upd s c
  have hstate : ∀ p < 4, (R.FW_PROC.state p).key ∉ takenUpFields.map Fld.key := by decide
  rw [activateCode_eq]
  refine ⟨fun p hp h3 => ?_, ?_, ?_, ?_⟩
  · refine restarts_state (by decide) (by decide) (by simp; omega) ?_
    rwa [rd_regsBut (regsBut_wardenTakenUp s c) _ (hstate p hp)]
  · rw [restarts_upd (hx.trans hxfer), hact]
  · rw [restarts_upd (hx.trans hxfer), hfeatures]
  · rw [restarts_activated (by decide)]
    exact rd_wr_same ..

theorem restartImages_warden (s : State) (c : CodeImages) :
    restartImages s 1 c = activateCode (activating s 1 8) c := by
  unfold restartImages
  simp only [show Nat.testBit 1 0 = true by decide, show Nat.testBit 1 1 = false by decide, Bool.false_eq_true, if_true, if_false]

theorem activationVerdict_warden (s : State) (c : CodeImages) :
    activationVerdict s 1 c = (imageVerdict s 2 c.warden).map fun r => (2, r) := by
  unfold activationVerdict
  simp only [show Nat.testBit 1 0 = true by decide, show Nat.testBit 1 1 = false by decide, show Nat.testBit 1 2 = false by decide,
    Bool.false_eq_true, if_true, if_false]
  cases imageVerdict s 2 c.warden <;> rfl

/-! ### HUBCTL (R461) -/

/-- A HUBCTL image taken up by an activation of it alone, before its processors restart. -/
def hubTakenUp (s : State) (c : CodeImages) : State :=
  (activating (activateHub s c) 0 4).event 0x0103 0 (atByte 0 2)

theorem restartImages_hub (s : State) (c : CodeImages) : restartImages s 2 c = nextActivation (hubTakenUp s c) := by
  unfold restartImages
  simp only [show Nat.testBit 2 0 = false by decide, show Nat.testBit 2 1 = true by decide, Bool.false_eq_true, if_true, if_false]
  rfl

theorem rd_verifiedImage (s : State) (typ : Nat) (c : ImageCheck) {g : Fld} (hsvn : (R.UPD_SVN.running (typ - 1)).key ≠ g.key)
    (hregion : R.UPD_REGIONS.state.key ≠ g.key) : (verifiedImage s typ c).rd g = s.rd g :=
  (rd_wr_other _ _ _ _ hsvn).trans (rd_wr_other { s with flash := { s.flash with written := setBit s.flash.written typ false } } _ _ _ hregion)

theorem rd_activateHub (s : State) (c : CodeImages) {g : Fld} (hactivated : R.SEC_STATUS.activated.key ≠ g.key) :
    (activateHub s c).rd g = (verifiedImage s 3 c.hubctl).rd g :=
  rd_wr_other (startSvn (measure (verifiedImage s 3 c.hubctl) 2 c.hubctl.digest) 3) _ _ _ hactivated

theorem hubTakenUp_state (s : State) (c : CodeImages) {p : Nat} (hp : p < 8) :
    (hubTakenUp s c).rd (R.FW_PROC.state p) = s.rd (R.FW_PROC.state p) := by
  have hstate : ∀ p < 8, R.SEC_STATUS.activated.key ≠ (R.FW_PROC.state p).key ∧ (R.UPD_SVN.running (3 - 1)).key ≠ (R.FW_PROC.state p).key ∧
      R.UPD_REGIONS.state.key ≠ (R.FW_PROC.state p).key ∧ (R.FW_PROC.state p).key ∉ recordFields.map Fld.key := by decide
  obtain ⟨hactivated, hsvn, hregion, hrecord⟩ := hstate p hp
  exact (rd_event _ _ _ _ hrecord).trans ((rd_activateHub s c hactivated).trans (rd_verifiedImage s 3 c.hubctl hsvn hregion))

theorem hubTakenUp_sup (s : State) (c : CodeImages) : (hubTakenUp s c).sup = s.sup :=
  (event_keeps ..).touch .sup rfl

theorem hubTakenUp_act (s : State) (c : CodeImages) : (hubTakenUp s c).upd.act = some (0, 4) :=
  congrArg UpdState.act (event_upd ..)

theorem procAbsent_congr {s t : State} (h : t.sup = s.sup) (p : Nat) : procAbsent t p = procAbsent s p := by
  unfold procAbsent
  rw [dieUp_congr h]

/-- R461: the first link-and-queue processor restarts where it runs. -/
theorem nextActivation_of_first {s : State} (hact : s.upd.act = some (0, 4)) (hruns : s.rd (R.FW_PROC.state 4) = 1)
    (hthere : procAbsent s 4 = false) :
    nextActivation s = beginRestart (activating s 0 5) 4 6 0 s.now := by
  have hfind : ((List.range 8).find? fun p => decide (4 ≤ p) && s.rd (R.FW_PROC.state p) == 1 && ! procAbsent s p) = some 4 := by
    rw [List.find?_eq_some_iff_append]
    exact ⟨by simp [hruns, hthere], [0, 1, 2, 3], [5, 6, 7], rfl, by simp⟩
  unfold nextActivation
  simp only [hact, hfind]
  rfl

theorem activationVerdict_hub (s : State) (c : CodeImages) :
    activationVerdict s 2 c = (imageVerdict s 3 c.hubctl).map fun r => (3, r) := by
  unfold activationVerdict
  simp only [show Nat.testBit 2 0 = false by decide, show Nat.testBit 2 1 = true by decide, show Nat.testBit 2 2 = false by decide,
    Bool.false_eq_true, if_true, if_false]
  cases imageVerdict s 3 c.hubctl <;> rfl

/-- R461: an activation of HUBCTL alone restarts the first link-and-queue processor, and leaves the warden's as they are. -/
theorem hubRestart_shows {s : State} (c : CodeImages) (hruns : s.rd (R.FW_PROC.state 4) = 1) (hthere : procAbsent s 4 = false) :
    (restartImages s 2 c).rd (R.FW_PROC.state 4) = 2 ∧ (restartImages s 2 c).rd (R.FW_PROC.last_cause 4) = 6 ∧
      (∀ p < 4, (restartImages s 2 c).rd (R.FW_PROC.state p) = s.rd (R.FW_PROC.state p)) ∧ (restartImages s 2 c).upd.act = some (0, 5) := by
  have hfirst := nextActivation_of_first (hubTakenUp_act s c) ((hubTakenUp_state s c (by decide)).trans hruns)
    ((procAbsent_congr (hubTakenUp_sup s c) 4).trans hthere)
  obtain ⟨hstate, hcause⟩ := beginRestart_shows (activating (hubTakenUp s c) 0 5) 6 0 (hubTakenUp s c).now (p := 4) (by decide)
  rw [restartImages_hub, hfirst]
  refine ⟨hstate, hcause, fun p hp => ?_, ?_⟩
  · rw [beginRestart_state_other _ _ _ _ (by decide) (by omega) (by omega)]
    exact hubTakenUp_state s c (by omega)
  · exact congrArg UpdState.act (beginRestart_upd (p := 4) 6 0 _ fun h => absurd h (by decide))

/-! ### A full restart (R243, R452, R463) -/

/-- The fields that the loader's return to VERIFY changes, but for its own state. -/
def verifyFields : List Fld :=
  [R.CFG_STATUS.state, R.FW_STATUS.restarting, R.CFG_STATUS.ready, R.COOL_STATUS.mode, R.COOL_STATUS.table_reason, R.SEC_STATUS.activated] ++
    [1, 2, 3].map R.FW_PROC.state ++ (List.range 8).map R.CFG_MILESTONE.ms

theorem regsBut_goVerify (s : State) : RegsBut verifyFields (s.wr R.UPD_STATUS.loader 0) (goVerify s) := by
  have hproc : ∀ p ∈ [1, 2, 3], (R.FW_PROC.state p).key ∈ verifyFields.map Fld.key := by decide
  have hms : ∀ k < 8, (R.CFG_MILESTONE.ms k).key ∈ verifyFields.map Fld.key := by decide
  unfold goVerify
  refine regsBut_wr _ _ (regsBut_wr _ _ (regsBut_wr _ _ (List.foldlRecOn (motive := RegsBut verifyFields (s.wr R.UPD_STATUS.loader 0)) _ _
    (regsBut_wr _ _ (regsBut_wr _ _ (List.foldlRecOn (motive := RegsBut verifyFields (s.wr R.UPD_STATUS.loader 0)) _ _
      (regsBut_wr _ _ (regsBut_refl _ _) ?_) fun t ht p hp => ?_) ?_) ?_) fun t ht k hk => ?_) ?_) ?_) ?_
  case refine_2 => exact regsBut_ite ht (regsBut_regs (regsBut_wr (R.FW_PROC.state p) 0 ht (hproc p hp)) rfl)
  case refine_5 => exact regsBut_wr _ _ ht (hms k (List.mem_range.mp hk))
  all_goals decide

theorem goVerify_same (s : State) : (goVerify s).sup = s.sup ∧ (goVerify s).seq = s.seq := by
  unfold goVerify
  simp only [wr_sup, wr_seq]
  refine List.foldlRecOn (motive := fun t : State => t.sup = s.sup ∧ t.seq = s.seq) _ _ ?_ fun _ ht _ _ => ht
  simp only [wr_sup, wr_seq]
  refine List.foldlRecOn (motive := fun t : State => t.sup = s.sup ∧ t.seq = s.seq) _ _ ⟨rfl, rfl⟩ fun t ht p _ => ?_
  split <;> exact ht

/-- R463: both dies are reset where they run. -/
def diesReset (s : State) : State := [0, 1].foldl (fun s d => if s.dieUp d then resetDie s d else s) (closeRuns s)

theorem diesReset_dieUp (s : State) : (diesReset s).dieUp 0 = false ∧ (diesReset s).dieUp 1 = false :=
  ⟨dieUp_resetIfUp_of_stopped 1 (dieUp_resetIfUp_same (closeRuns s) 0), dieUp_resetIfUp_same _ 1⟩

theorem diesReset_seq (s : State) : (diesReset s).seq = s.seq := by
  refine List.foldlRecOn (motive := fun t : State => t.seq = s.seq) _ _
    ((closeRuns_keeps (m := 8388612) rfl (keeps_refl _ s)).touch .seq rfl) fun t ht d _ => ?_
  split
  · exact ((resetDie_keeps (m := 352067548) rfl (keeps_refl _ t)).touch .seq rfl).trans ht
  · exact ht

/-- R463, R511: with the dies reset, the rails are held as they are and what lasts only to the next device start ends. -/
def restartCleared (s : State) : State :=
  let held := match s.cfg.oldRails with
    | some l => l
    | none => s.img.rails
  let t := diesReset s
  { t with cfg := { oldRails := some held }, sdc := { t.sdc with hubSet := false }, seq := { t.seq with verified := false },
           sup := { t.sup with want := none }, pat := { t.pat with mirror := {} } }

theorem fullRestart_eq (s : State) :
    fullRestart s = startSvn (goVerify ((restartCleared s).wr R.CFG_STATUS.full_restart 1)) 1 := rfl

theorem restartCleared_anyDieUp (s : State) : (restartCleared s).anyDieUp = false := by
  obtain ⟨h0, h1⟩ := diesReset_dieUp s
  have hany : (diesReset s).anyDieUp = false := by rw [State.anyDieUp, h0, h1]; rfl
  exact hany

theorem restartCleared_seq (s : State) : (restartCleared s).seq = { s.seq with verified := false } := by
  rw [restartCleared, diesReset_seq]

theorem rd_goVerify (s : State) {g : Fld} (hloader : R.UPD_STATUS.loader.key ≠ g.key) (hg : g.key ∉ verifyFields.map Fld.key) :
    (goVerify s).rd g = s.rd g :=
  (rd_regsBut (regsBut_goVerify s) g hg).trans (rd_wr_other _ _ _ _ hloader)

theorem goVerify_loader (s : State) : (goVerify s).rd R.UPD_STATUS.loader = 0 :=
  (rd_regsBut (regsBut_goVerify s) R.UPD_STATUS.loader (by decide)).trans ((rd_wr_same ..).trans (Nat.zero_mod _))

theorem anyDieUp_congr {s t : State} (h : t.sup = s.sup) : t.anyDieUp = s.anyDieUp := by
  rw [State.anyDieUp, State.anyDieUp, dieUp_congr h, dieUp_congr h]

@[simp] theorem rd_startSvn (s : State) (typ : Nat) (g : Fld) : (startSvn s typ).rd g = s.rd g := rfl
@[simp] theorem startSvn_sup (s : State) (typ : Nat) : (startSvn s typ).sup = s.sup := rfl
@[simp] theorem startSvn_seq (s : State) (typ : Nat) : (startSvn s typ).seq = s.seq := rfl

/-- R243, R463, R511: a full restart goes back to VERIFY with the dies in reset, and leaves the rails enabled as they are. -/
theorem fullRestart_shows (s : State) : (fullRestart s).rd R.UPD_STATUS.loader = 0 ∧ (fullRestart s).rd R.CFG_STATUS.full_restart = 1 ∧
    (fullRestart s).anyDieUp = false ∧ (fullRestart s).seq.en = s.seq.en ∧ (fullRestart s).seq.verified = false := by
  have hsup : (fullRestart s).sup = (restartCleared s).sup := by
    rw [fullRestart_eq, startSvn_sup, (goVerify_same _).1, wr_sup]
  have hseq : (fullRestart s).seq = { s.seq with verified := false } := by
    rw [fullRestart_eq, startSvn_seq, (goVerify_same _).2, wr_seq, restartCleared_seq]
  refine ⟨?_, ?_, ?_, ?_, ?_⟩
  · rw [fullRestart_eq, rd_startSvn, goVerify_loader]
  · rw [fullRestart_eq, rd_startSvn, rd_goVerify _ (by decide) (by decide), rd_wr_same]
    rfl
  · rw [anyDieUp_congr hsup, restartCleared_anyDieUp]
  · rw [hseq]
  · rw [hseq]

theorem restartFor_full (s : State) (c : CodeImages) : restartFor s 4 c = fullRestart (activationNoted s) := by
  rw [restartFor_eq, if_pos (by decide)]

/-! ### The message (R460) -/

section Message

variable {s u : State} {m : Msg} (h : takesUp s { code := 0x054, loader := true } m = some u) (hxfer : u.upd.xfer = none)
  (hcontain : u.itg.containAt = none) (hseq : u.seq.state ≠ 3)
include h hxfer hcontain hseq

theorem activateWarden_verified (c : CodeImages) (hloader : u.rd R.UPD_STATUS.loader = 1) (hwhole : u.flash.incomplete.testBit 2 = false)
    (hverdict : imageVerdict u 2 c.warden = none) :
    Replied m 0x054 (okay (activateCode (activating (activationNoted u) 1 8) c)) (activateOrder m 1 c s) := by
  have hreply := activateOrder_replied (flags := 1) c h (by decide)
  rwa [activate_of_verified hxfer hcontain hseq (by simp only [hwhole, show Nat.testBit 1 1 = false by decide, Bool.and_false,
      Bool.false_and, Bool.or_false]) (by rw [activationVerdict_warden, hverdict]; rfl),
    restartFor_of_running c (by decide) hloader, restartImages_warden] at hreply

theorem activateWarden_failed (c : CodeImages) {r : Nat} (hwhole : u.flash.incomplete.testBit 2 = false)
    (hverdict : imageVerdict u 2 c.warden = some r) :
    Replied m 0x054 (verifyFailed u 2 r 0x2054, .invalid, [r]) (activateOrder m 1 c s) := by
  have hreply := activateOrder_replied (flags := 1) c h (by decide)
  rwa [activate_of_failed hxfer hcontain hseq (by simp only [hwhole, show Nat.testBit 1 1 = false by decide, Bool.and_false,
      Bool.false_and, Bool.or_false]) (by rw [activationVerdict_warden, hverdict]; rfl)] at hreply

theorem activateHubctl_verified (c : CodeImages) (hloader : u.rd R.UPD_STATUS.loader = 1) (hwhole : u.flash.incomplete.testBit 3 = false)
    (hverdict : imageVerdict u 3 c.hubctl = none) :
    Replied m 0x054 (okay (restartImages (activationNoted u) 2 c)) (activateOrder m 2 c s) := by
  have hreply := activateOrder_replied (flags := 2) c h (by decide)
  rwa [activate_of_verified hxfer hcontain hseq (by simp only [hwhole, show Nat.testBit 2 0 = false by decide, Bool.and_false,
      Bool.false_and, Bool.or_false]) (by rw [activationVerdict_hub, hverdict]; rfl),
    restartFor_of_running c (by decide) hloader] at hreply

/-- R460: nothing is verified before a full restart. -/
theorem activateFullRestart_replied (c : CodeImages) :
    Replied m 0x054 (okay (fullRestart (activationNoted u))) (activateOrder m 4 c s) := by
  have hreply := activateOrder_replied (flags := 4) c h (by decide)
  rwa [activate_of_verified hxfer hcontain hseq (by simp only [show Nat.testBit 4 0 = false by decide,
      show Nat.testBit 4 1 = false by decide, Bool.false_and, Bool.or_false]) (if_pos (by decide)), restartFor_full] at hreply

end Message

/-! ## Pushes (R464, R465) -/

/-- Whether a push is that of component `comp` to a slot. -/
def pushNamed (slot comp : Nat) (q : Push) : Bool := q.slot == slot && q.comp == comp

/-- The pushes to come, by their slots and components, and the slots refused are those of `s`. -/
structure SamePushes (s t : State) : Prop where
  named : ∀ slot comp, t.upd.pushes.any (pushNamed slot comp) = s.upd.pushes.any (pushNamed slot comp)
  refused : t.upd.refusedSlots = s.upd.refusedSlots

theorem samePushes_of_upd {s t : State} (h : t.upd = s.upd) : SamePushes s t := ⟨fun _ _ => by rw [h], by rw [h]⟩

theorem samePushes_trans {r s t : State} (h : SamePushes r s) (g : SamePushes s t) : SamePushes r t :=
  ⟨fun slot comp => (g.named slot comp).trans (h.named slot comp), g.refused.trans h.refused⟩

theorem samePushes_finishPushes (s : State) : SamePushes s (finishPushes s) := by
  have h : (finishPushes s).upd.pushes = s.upd.pushes ∧ (finishPushes s).upd.refusedSlots = s.upd.refusedSlots := by
    unfold finishPushes
    simp only [event_upd]
    cases s.flash.stage <;> dsimp only <;> split_ifs <;> exact ⟨rfl, rfl⟩
  exact ⟨fun _ _ => by rw [h.1], h.2⟩

/-- R465: after a push the next one of its slot begins, which changes its time alone. -/
theorem samePushes_nextPush (s : State) (slot : Nat) : SamePushes s (nextPush s slot) := by
  have hfinish : ∀ t : State, SamePushes s t → SamePushes s (if s.upd.pushes.isEmpty then finishPushes t else t) := fun t ht => by
    split
    · exact samePushes_trans ht (samePushes_finishPushes t)
    · exact ht
  unfold nextPush
  cases hq : s.upd.pushes.find? fun p => decide (p.slot = slot) with
  | none =>
    simp only [hq]
    exact hfinish _ (samePushes_of_upd ((schedulePerst_keeps (m := 8192) rfl (keeps_refl _ s)).touch .upd rfl))
  | some q =>
    simp only [hq]
    refine hfinish _ ⟨fun slot' comp => ?_, rfl⟩
    simp only [emit_upd, List.any_map]
    refine congrArg s.upd.pushes.any (funext fun p => ?_)
    simp only [Function.comp_apply, pushNamed]
    split <;> rfl

/-- R465: a push that fails is dropped, and its slot noted as refused. -/
theorem endPush_of_failed (s : State) (p : Push) : (endPush s p false).upd.pushes.any (pushNamed p.slot p.comp) = false ∧
    (endPush s p false).upd.refusedSlots.testBit p.slot = true := by
  unfold endPush
  dsimp only
  rw [if_neg Bool.false_ne_true]
  refine ⟨(samePushes_nextPush _ _).named _ _ |>.trans ?_, (congrArg (fun w : Nat => w.testBit p.slot) (samePushes_nextPush _ _).refused).trans ?_⟩
  all_goals
    have herr : ∀ (t : State) (unit op cls severity detail : Nat), (t.err unit op cls severity detail).upd = t.upd :=
      fun t _ _ _ _ _ => (State_err_keeps (m := 12845076) rfl (keeps_refl _ t)).touch .upd rfl
    simp only [herr, bump_upd, wr_upd]
  · simp only [pushNamed, List.any_filter, List.any_eq_false, not_and, Bool.not_eq_true]
    intro q _
    by_cases hsame : q.slot = p.slot ∧ q.comp = p.comp <;> simp_all
  · simp

theorem pushOf_mem {s : State} {slot : Nat} {p : Push} (h : pushOf s slot = some p) : p ∈ s.upd.pushes ∧ p.slot = slot :=
  ⟨List.mem_of_find?_eq_some h, by simpa using List.find?_some h⟩

/-- R464: a slot that is ready is sent the next chunk. -/
theorem pushChunkStatus_of_ready {s : State} {slot : Nat} {p : Push} (h : pushOf s slot = some p) (hmore : p.done + 1 < p.chunks) :
    (pushChunkStatus slot 0 s).out = Out.push slot (p.done + 1) :: s.out ∧
      (pushChunkStatus slot 0 s).upd.pushes.any (fun q => q.slot == slot && q.comp == p.comp && q.done == p.done + 1 && q.at_ == s.now) =
        true := by
  obtain ⟨hmem, hslot⟩ := pushOf_mem h
  have hlast : ¬ decide (p.chunks ≤ p.done + 1) = true := by simpa using hmore
  unfold pushChunkStatus
  simp only [h]
  rw [if_neg (by decide), if_neg (by decide), if_neg hlast, if_pos trivial]
  refine ⟨rfl, ?_⟩
  rw [List.any_eq_true]
  exact ⟨_, List.mem_map.mpr ⟨p, hmem, rfl⟩, by simp [hslot]⟩

theorem pushChunkStatus_of_refused {s : State} {slot : Nat} {p : Push} (h : pushOf s slot = some p) :
    pushChunkStatus slot 3 s = endPush s p false := by
  unfold pushChunkStatus
  simp only [h, if_true]

theorem pushTimeout_of_late {s : State} {slot : Nat} {p : Push} (h : pushOf s slot = some p) (hmore : p.done < p.chunks)
    (hlate : p.at_ + 100000 ≤ s.now) : pushTimeout slot s = endPush s p false := by
  unfold pushTimeout
  simp only [h]
  rw [if_neg (Nat.not_le.mpr hmore), if_neg (Nat.not_lt.mpr hlate)]

/-! ## Security versions (R466) -/

/-- R466: the counter of a type that has run its 600 s takes the running image's version. -/
theorem svnAdvance_shows {s : State} {typ at_ : Nat} (htyp : 1 ≤ typ ∧ typ ≤ 6) (hat : tfind s.upd.svnAt typ = some at_)
    (hran : ranSince s typ at_ + 600000000 ≤ s.now) (hlt : tget s.otp.svn typ < s.rd (R.UPD_SVN.running (typ - 1))) :
    tget (svnAdvance typ true s).otp.svn typ = s.rd (R.UPD_SVN.running (typ - 1)) ∧
      (svnAdvance typ true s).rd (R.UPD_SVN.counter (typ - 1)) = s.rd (R.UPD_SVN.running (typ - 1)) % 256 ∧
      tfind (svnAdvance typ true s).upd.svnAt typ = none := by
  have hcounter : ∀ i < 6, (R.UPD_SVN.counter i).key ∉ recordFields.map Fld.key := by decide
  unfold svnAdvance
  simp only [hat]
  rw [if_neg (by omega), if_pos trivial]
  refine ⟨?_, ?_, ?_⟩
  · rw [event_otp, wr_otp, tget_tput_same]
  · rw [rd_event _ _ _ _ (hcounter _ (by omega)), rd_wr_same]
    rfl
  · rw [event_upd, wr_upd, tfind_tdel_same]

/-- Settles O43: each activation by what its flags restart, the pushes by how a push goes on or ends, and a counter by its rise. That
SETTINGS_COMPACT shows as the next generation and nothing else is the model's choice (log 84). -/
theorem activationAndPushes : Obligations.ActivationAndPushes := by
  unfold Obligations.ActivationAndPushes
  have hkey : ∀ p < 8, (R.FW_PROC.state p).key ∉ replyFields.map Fld.key := by decide
  have hcount : ∀ p < 8, R.UPD_ACTIVATE_COUNT.c.cnt.key ≠ (R.FW_PROC.state p).key ∧
      R.UPD_ACTIVATE_COUNT.c.ovf.key ≠ (R.FW_PROC.state p).key := by decide
  have hnoted : ∀ (u : State), ∀ p < 8, (activationNoted u).rd (R.FW_PROC.state p) = u.rd (R.FW_PROC.state p) := fun u p hp =>
    rd_activationNoted u (hcount p hp).1 (hcount p hp).2
  refine ⟨fun s m u code h hxfer hcontain hseq hloader hwhole hverdict => (does_iff rfl).mpr ?warden,
    fun s m u code r h hxfer hcontain hseq hloader hwhole hverdict => (does_iff rfl).mpr ?failed,
    fun s m u code h hxfer hcontain hseq hloader hwhole hverdict hruns hthere => (does_iff rfl).mpr ?hub,
    fun s m u h hxfer hcontain hseq => (does_iff rfl).mpr ?full,
    fun s slot p h hmore => (does_iff rfl).mpr (pushChunkStatus_of_ready h hmore), fun s slot p h => (does_iff rfl).mpr ?refused,
    fun s slot p h hmore hlate => (does_iff rfl).mpr ?late,
    fun s typ at_ v htyp hat hran hv hlt => (does_iff rfl).mpr (hv ▸ svnAdvance_shows htyp hat hran (hv ▸ hlt)),
    fun s hup => (does_iff rfl).mpr (if_pos hup)⟩
  case warden =>
    have hreply := activateWarden_verified h hxfer hcontain hseq code hloader hwhole hverdict
    obtain ⟨hstate, hact, hfeatures, hactivated⟩ := activateCode_shows (s := activating (activationNoted u) 1 8) code
      ((congrArg UpdState.xfer (bump_upd u _)).trans hxfer)
    have hupd : (activateWarden m 1 code s).upd = (activateCode (activating (activationNoted u) 1 8) code).upd :=
      hreply.parts.touch .upd rfl
    refine ⟨hreply.answer, fun p hp h3 => ?_, ?_, ?_, (hreply.rd_okay (by decide)).trans hactivated⟩
    · have hp4 := List.mem_range.mp hp
      exact (hreply.rd_okay (hkey p (by omega))).trans (hstate p hp4 fun e => h3 ((hnoted u p (by omega)).symm.trans e))
    · rw [hupd, hact]
      rfl
    · rw [hupd, hfeatures]
  case failed =>
    have hreply := activateWarden_failed h hxfer hcontain hseq code hwhole hverdict
    obtain ⟨hfail, hstate⟩ := verifyFailed_shows u 2 r 0x2054
    exact ⟨hreply.answer, fun p hp => (hreply.rd (hkey p (List.mem_range.mp hp))).trans (hstate p (List.mem_range.mp hp)),
      (hreply.rd (by decide)).trans hfail⟩
  case hub =>
    have hreply := activateHubctl_verified h hxfer hcontain hseq code hloader hwhole hverdict
    obtain ⟨hstate, hcause, hothers, hact⟩ := hubRestart_shows code ((hnoted u 4 (by decide)).trans hruns)
      ((procAbsent_congr (activationNoted_sup u) 4).trans hthere)
    refine ⟨hreply.answer, (hreply.rd_okay (by decide)).trans hstate, (hreply.rd_okay (by decide)).trans hcause, fun p hp => ?_,
      (congrArg UpdState.act (hreply.parts.touch .upd rfl)).trans hact⟩
    have hp4 := List.mem_range.mp hp
    exact (hreply.rd_okay (hkey p (by omega))).trans ((hothers p hp4).trans (hnoted u p (by omega)))
  case full =>
    have hreply := activateFullRestart_replied h hxfer hcontain hseq {}
    obtain ⟨hloader, hflag, hdies, hen, hverified⟩ := fullRestart_shows (activationNoted u)
    have hsq := hreply.parts.touch .seq rfl
    exact ⟨hreply.answer, (hreply.rd_okay (by decide)).trans hloader, (hreply.rd_okay (by decide)).trans hflag,
      (anyDieUp_congr (hreply.parts.touch .sup rfl)).trans hdies,
      (congrArg SeqState.en hsq).trans (hen.trans (congrArg SeqState.en (bump_seq u _))), (congrArg SeqState.verified hsq).trans hverified⟩
  case refused =>
    rw [pushChunkStatus_of_refused h, ← (pushOf_mem h).2]
    exact endPush_of_failed s p
  case late =>
    rw [pushTimeout_of_late h hmore hlate, ← (pushOf_mem h).2]
    exact endPush_of_failed s p

end Sys2Proof.Proofs
end

section
/-! PROOFS. The flight recorder (R409 to R425): the cask's writing and erasing, the close of runs, the scan and a freeze's end. -/

namespace Sys2Proof.Proofs

open Sys2Proof.Machine Sys2Proof.Laws

/-! ## Writing (R418, R419) -/

/-- A record that fits in the open block is written there. -/
theorem roomFor_of_fits {s : State} {n : Nat} (hopen : s.rd R.REC_HEAD.position % 2048 ≠ 0)
    (hfits : s.rd R.REC_HEAD.position % 2048 + n ≤ 2048) : roomFor s n = some s :=
  if_pos ⟨hopen, hfits⟩

theorem notePosition_queue_length (s : State) (run pos : Nat) : (notePosition s run pos).rcd.queue.length = s.rcd.queue.length := by
  unfold notePosition
  split
  · rfl
  · exact List.length_map ..

theorem notePosition_flash (s : State) (run pos : Nat) : (notePosition s run pos).flash = s.flash := by
  unfold notePosition
  split <;> rfl

theorem notePosition_dropped (s : State) (run pos : Nat) : (notePosition s run pos).rcd.dropped = s.rcd.dropped := by
  unfold notePosition
  split <;> rfl

/-- The record as it stands in the slots, before its run is told its position. -/
def slotsProgrammed (s : State) (r : CaskRec) (rest : List CaskRec) (n : Nat) : State :=
  let pos := s.rd R.REC_HEAD.position
  let t := { s with flash := { s.flash with cask := programSlots s.flash.cask pos (slotsOf s r) none }, rcd := { s.rcd with queue := rest } }
  let t := t.wr R.REC_HEAD.position (pos + n)
  t.wr R.REC_WRITTEN.count (min (2 ^ 32 - 1) (t.rd R.REC_WRITTEN.count + 1))

theorem recordProgrammed_eq (s : State) (r : CaskRec) (rest : List CaskRec) (n : Nat) : recordProgrammed s r rest n =
    (if firstOccurrence r then notePosition (slotsProgrammed s r rest n) r.run (s.rd R.REC_HEAD.position)
      else slotsProgrammed s r rest n).wr R.REC_PENDING.count rest.length := rfl

/-- A record that has been programmed: the cask, the write position, the queue and the count. -/
theorem recordProgrammed_shows (s : State) (r : CaskRec) (rest : List CaskRec) (n : Nat) :
    (recordProgrammed s r rest n).flash.cask = programSlots s.flash.cask (s.rd R.REC_HEAD.position) (slotsOf s r) none ∧
      (recordProgrammed s r rest n).rd R.REC_HEAD.position = (s.rd R.REC_HEAD.position + n) % 2 ^ 32 ∧
      (recordProgrammed s r rest n).rcd.queue.length = rest.length ∧
      (recordProgrammed s r rest n).rd R.REC_WRITTEN.count = min (2 ^ 32 - 1) (s.rd R.REC_WRITTEN.count + 1) ∧
      (recordProgrammed s r rest n).rcd.dropped = s.rcd.dropped := by
  have hhead : (slotsProgrammed s r rest n).rd R.REC_HEAD.position = (s.rd R.REC_HEAD.position + n) % 2 ^ 32 :=
    (rd_wr_other _ _ _ _ (by decide)).trans (rd_wr_same ..)
  have hwritten : (slotsProgrammed s r rest n).rd R.REC_WRITTEN.count = min (2 ^ 32 - 1) (s.rd R.REC_WRITTEN.count + 1) := by
    refine (rd_wr_same ..).trans ?_
    rw [rd_wr_other _ _ _ _ (by decide)]
    exact Nat.mod_eq_of_lt (by show min _ _ < 2 ^ 32; omega)
  have hrd : ∀ g : Fld, R.REC_PENDING.count.key ≠ g.key → (recordProgrammed s r rest n).rd g = (slotsProgrammed s r rest n).rd g :=
    fun g hg => by
      rw [recordProgrammed_eq, rd_wr_other _ _ _ _ hg]
      split
      · exact rd_eq_of_regs _ _ _ (notePosition_regs ..)
      · rfl
  refine ⟨?_, (hrd _ (by decide)).trans hhead, ?_, (hrd _ (by decide)).trans hwritten, ?_⟩
  · rw [recordProgrammed_eq, wr_flash, apply_ite State.flash, notePosition_flash, ite_self]
    rfl
  · rw [recordProgrammed_eq, wr_rcd]
    split
    · exact notePosition_queue_length ..
    · rfl
  · rw [recordProgrammed_eq, wr_rcd]
    split
    · exact notePosition_dropped ..
    · rfl

theorem tellDropped_of_none {s : State} (h : s.rcd.dropped = 0) : tellDropped s = s := if_pos h

/-- R419: a slot whose program fails is left torn. -/
theorem programSlots_torn {l : List CaskSlot} {k : Nat} (h : k < l.length) (cask : Tab CaskCell) (pos : Nat) :
    tfind (programSlots cask pos l (some k)) ((pos + k) % 524288) = some .torn := by
  induction l generalizing cask pos k with
  | nil => exact absurd h (Nat.not_lt_zero _)
  | cons c r ih =>
    cases k with
    | zero =>
      rw [programSlots, Nat.add_zero]
      exact tfind_tput_same _ _ _
    | succ k =>
      have hrest := ih (Nat.lt_of_succ_lt_succ h) (tput cask (pos % (256 * 2048)) (.slot c)) (pos + 1)
      rwa [Nat.add_right_comm] at hrest

/-- R419: the write of a record fails in its slot `k`. -/
def slotTorn (s : State) (r : CaskRec) (k : Nat) : State :=
  let pos := s.rd R.REC_HEAD.position
  let t := { s with flash := { s.flash with cask := programSlots s.flash.cask pos (slotsOf s r) (some k) } }
  ((t.wr R.REC_HEAD.position (pos + k + 1)).bump R.REC_WRITE_FAIL_COUNT.c).wr R.REC_STATUS.write_fail 1

theorem caskWrite_of_failed {s : State} {r : CaskRec} {rest : List CaskRec} {k : Nat} (hup : s.procUp 3 = true)
    (hscan : s.on R.REC_STATUS.scanning = false) (hqueue : s.rcd.queue = r :: rest) (hroom : roomFor s (slotsOf s r).length = some s)
    (hk : k < (slotsOf s r).length) : caskWrite (some k) s = slotTorn s r k := by
  unfold caskWrite
  rw [if_neg (by simp [hup, hscan])]
  simp only [hqueue, hroom, hk, decide_true, if_true]
  rfl

theorem slotTorn_shows (s : State) {r : CaskRec} {k : Nat} (hk : k < (slotsOf s r).length) : (slotTorn s r k).rcd.queue = s.rcd.queue ∧
    (slotTorn s r k).rd R.REC_HEAD.position = (s.rd R.REC_HEAD.position + k + 1) % 2 ^ 32 ∧
    (slotTorn s r k).rd R.REC_STATUS.write_fail = 1 ∧
    tfind (slotTorn s r k).flash.cask ((s.rd R.REC_HEAD.position + k) % 524288) = some .torn := by
  unfold slotTorn
  refine ⟨?_, ?_, rd_wr_same .., ?_⟩
  · rw [wr_rcd, bump_rcd, wr_rcd]
  · rw [rd_wr_other _ _ _ _ (by decide), bump_other _ _ _ (by decide) (by decide), rd_wr_same]
    rfl
  · rw [wr_flash, bump_flash, wr_flash]
    exact programSlots_torn hk _ _

/-! ## Erasing (R411, R419) -/

/-- R411, R425: an erase that is ordered changes the registers and which erase runs or is withheld. -/
theorem startErase_cases (s : State) (q : Nat) : ∃ erasing held regs,
    startErase s q = { s with rcd := { s.rcd with erasing := erasing, heldErase := held }, regs := regs } := by
  unfold startErase
  split
  · exact ⟨none, some q, _, rfl⟩
  · extract_lets t
    split
    · exact ⟨some q, none, _, rfl⟩
    · exact ⟨some q, none, s.regs, rfl⟩

theorem startErase_flash (s : State) (q : Nat) : (startErase s q).flash = s.flash := by
  obtain ⟨erasing, held, regs, h⟩ := startErase_cases s q
  rw [h]

theorem startErase_erased (s : State) (q : Nat) : (startErase s q).rcd.erased = s.rcd.erased := by
  obtain ⟨erasing, held, regs, h⟩ := startErase_cases s q
  rw [h]

theorem rd_startErase (s : State) (q : Nat) {g : Fld} (hwithheld : R.REC_STATUS.withheld.key ≠ g.key)
    (holdest : R.REC_OLDEST.position.key ≠ g.key) : (startErase s q).rd g = s.rd g := by
  unfold startErase
  split
  · exact rd_wr_other _ _ _ _ hwithheld
  · extract_lets t
    split
    · exact rd_wr_other _ _ _ _ holdest
    · rfl

/-- The cask with the block of physical index `b` torn. -/
def blockTorn (cask : Tab CaskCell) (b : Nat) : Tab CaskCell :=
  cask.filter (fun c => decide (c.1 < b * 2048)) ++ (List.range 2048).map (fun i => (b * 2048 + i, CaskCell.torn)) ++
    cask.filter fun c => decide (b * 2048 + 2048 ≤ c.1)

theorem blockTorn_all (cask : Tab CaskCell) (b : Nat) :
    (blockTorn cask b).all (fun (c : Nat × CaskCell) => c.1 / 2048 != b || c.2 == CaskCell.torn) = true := by
  rw [List.all_eq_true]
  intro c hc
  simp only [blockTorn, List.mem_append, List.mem_filter, List.mem_map, decide_eq_true_eq] at hc
  rw [Bool.or_eq_true, bne_iff_ne, beq_iff_eq]
  rcases hc with (⟨-, hlow⟩ | ⟨i, -, rfl⟩) | ⟨-, hhigh⟩
  · exact .inl (by omega)
  · exact .inr rfl
  · exact .inl (by omega)

/-- A block whose erase failed is skipped in place (R419). -/
def blockSkipped (s : State) (q : Nat) : State :=
  let t : State := { s with flash := { s.flash with cask := blockTorn s.flash.cask (q % 256) }, rcd := { s.rcd with erasing := none } }
  let t := (t.bump R.REC_WRITE_FAIL_COUNT.c).wr R.REC_STATUS.write_fail 1
  if t.rd R.REC_HEAD.position % 2048 = 0 then t.wr R.REC_HEAD.position ((q + 1) * 2048) else t

theorem blockEraseComplete_of_failed {s : State} {q : Nat} (h : s.rcd.erasing = some q) :
    blockEraseComplete false s = startErase (blockSkipped s q) ((q + 1) % 2 ^ 32) := by
  unfold blockEraseComplete blockSkipped blockTorn
  simp only [h, Bool.false_eq_true, if_false]

theorem blockSkipped_shows (s : State) (q : Nat) : (blockSkipped s q).flash.cask = blockTorn s.flash.cask (q % 256) ∧
    (blockSkipped s q).rd R.REC_STATUS.write_fail = 1 ∧ (blockSkipped s q).rcd.erased = s.rcd.erased := by
  unfold blockSkipped
  dsimp only
  split
  · refine ⟨?_, ?_, ?_⟩
    · rw [wr_flash, wr_flash, bump_flash]
    · rw [rd_wr_other _ _ _ _ (by decide), rd_wr_same]
      rfl
    · rw [wr_rcd, wr_rcd, bump_rcd]
  · refine ⟨?_, rd_wr_same .., ?_⟩
    · rw [wr_flash, bump_flash]
    · rw [wr_rcd, bump_rcd]

theorem blockEraseComplete_of_erased {s : State} {q : Nat} (h : s.rcd.erasing = some q) : blockEraseComplete true s =
    { s with flash := { s.flash with cask := s.flash.cask.filter fun c => c.1 / 2048 != q % 256 },
             rcd := { s.rcd with erasing := none, erased := some q } } := by
  unfold blockEraseComplete
  simp only [h, if_true]

/-! ## Records that join the queue (R418, R421, R422) -/

/-- R418: a record joins a queue that is not full, with the time stamps of now. -/
theorem enqueue_of_room {s : State} (b : CaskBody) (run : Nat) (h : s.rcd.queue.length < 1024) :
    (s.enqueue b run).rcd = { s.rcd with queue := s.rcd.queue ++
      [{ body := b, seconds := s.rd R.REC_SECONDS.seconds, cycles := s.rd R.REC_CYCLES.cycles, run := run }] } ∧
      RegsBut [R.REC_PENDING.count] s (s.enqueue b run) := by
  unfold State.enqueue
  rw [if_neg (Nat.not_le.mpr h)]
  exact ⟨rfl, regsBut_wr _ _ (regsBut_regs (regsBut_refl _ s) rfl) (by decide)⟩

/-- R421: a run that was repeated closes with its repeat record. -/
theorem closeRun_of_repeated {s : State} {r : CaskRun} (hcount : 0 < r.count) : closeRun s r =
    { s with rcd := { s.rcd with runs := s.rcd.runs.filter fun q => q.id != r.id } }.enqueue
      (.rpt r.count (r.pos.getD 0) r.first r.last r.excess) (if r.pos.isSome then 0 else r.id) :=
  if_neg (Nat.ne_of_gt hcount)

theorem runClose_of_due {s : State} {run : Nat} {r : CaskRun} (h : s.rcd.runs.find? (fun q : CaskRun => q.id = run) = some r)
    (hdue : r.last + s.rd R.REC_CFG.repeat_window ≤ s.rd R.REC_SECONDS.seconds) : runClose run s = closeRun s r := by
  unfold runClose
  rw [h]
  exact if_neg (Nat.not_lt.mpr hdue)

theorem headerSnapshot_of_due {s : State} (h : s.rcd.snapshotAt + 600 ≤ s.rd R.REC_SECONDS.seconds) : headerSnapshot s =
    { s with rcd := { s.rcd with snapshotAt := s.rd R.REC_SECONDS.seconds } }.enqueue .snapshot 0 :=
  if_neg (Nat.not_lt.mpr h)

/-! ## The scan (R417, R424) -/

/-- What the records that a command makes leave of the cask and of the block erased ahead. -/
structure CaskSame (s t : State) : Prop where
  flash : t.flash = s.flash
  erased : t.rcd.erased = s.rcd.erased

theorem caskSame_refl (s : State) : CaskSame s s := ⟨rfl, rfl⟩

theorem caskSame_trans {r s t : State} (h : CaskSame r s) (g : CaskSame s t) : CaskSame r t :=
  ⟨g.flash.trans h.flash, g.erased.trans h.erased⟩

theorem caskSame_enqueue (s : State) (b : CaskBody) (run : Nat) : CaskSame s (s.enqueue b run) := by
  unfold State.enqueue
  dsimp only
  split
  · exact ⟨by rw [wr_flash, bump_flash], by rw [wr_rcd, bump_rcd]⟩
  · exact ⟨rfl, rfl⟩

theorem caskSame_closeRun (s : State) (r : CaskRun) : CaskSame s (closeRun s r) := by
  unfold closeRun
  dsimp only
  split
  · exact ⟨rfl, rfl⟩
  · exact caskSame_trans (s := { s with rcd := { s.rcd with runs := s.rcd.runs.filter fun q => q.id != r.id } }) ⟨rfl, rfl⟩
      (caskSame_enqueue ..)

theorem caskSame_repeatRun (s : State) (r : CaskRun) : CaskSame s (repeatRun s r) := by
  unfold repeatRun
  dsimp only
  split <;> exact ⟨rfl, rfl⟩

/-- Runs that close to make room for one that opens leave the cask as it is. -/
theorem caskSame_submit (s : State) (b : CaskBody) : CaskSame s (s.submit b) := by
  have hclose : ∀ {t : State} (o : Option CaskRun), CaskSame s t → CaskSame s (match o with
      | some r => closeRun t r
      | none => t) := fun o ht => by
    split
    · exact caskSame_trans ht (caskSame_closeRun ..)
    · exact ht
  unfold State.submit
  extract_lets now stale closed room id run rcd ready
  split
  · exact caskSame_repeatRun s _
  · have hclosed : CaskSame s closed := hclose stale (caskSame_refl s)
    have hroom : CaskSame s room := by
      unfold room
      split
      · exact hclosed
      · exact hclose _ hclosed
    exact caskSame_trans (t := ready.enqueue b id) (s := ready) ⟨hroom.flash, hroom.erased⟩ (caskSame_enqueue ..)

theorem caskSame_requeue (s : State) (l : List CaskRec) : CaskSame s (s.requeue l) := by
  unfold State.requeue
  extract_lets room lost rcd joined counted
  have hcounted : CaskSame s counted := by
    unfold counted
    split
    · exact ⟨rfl, rfl⟩
    · exact ⟨by rw [wr_flash, bumpN_flash], by rw [wr_rcd, bumpN_rcd]⟩
  exact ⟨hcounted.flash, hcounted.erased⟩

/-- The end of a scan, up to its records: the history is rebuilt, and the queue of what waited is set aside. -/
def scanEnded (s : State) (valid : List CaskSlot) : State :=
  let s := (rebuildHistory s valid).wr R.REC_STATUS.scanning 0
  { s with rcd := { s.rcd with queue := [], snapshotAt := s.rd R.REC_SECONDS.seconds } }

/-- The end of a scan: the warden's start is recorded with a header snapshot, and the records that waited join the queue. -/
def scanFinished (s : State) (valid : List CaskSlot) : State :=
  let t := scanEnded s valid
  ((t.event 0x0001 0x0003 t.sup.resetSource).enqueue .snapshot 0).requeue (rebuildHistory s valid).rcd.queue

/-- A blank cask: block 0 is opened with block sequence 0, and block 1 stands erased. -/
def blankOpened (s : State) : State :=
  let s := { s with flash := { s.flash with cask := [] }, rcd := { s.rcd with erased := some 0, erasing := none } }
  let s := openBlock ((s.wr R.REC_STATUS.blank 1).wr R.REC_OLDEST.position 0) 0
  let s := { s with rcd := { s.rcd with erasing := none, erased := some 1 } }
  (s.wr R.REC_SECONDS.seconds 0).wr R.REC_CYCLES.cycles 1

/-- A cask whose newest block has sequence `q`: the write position, the time stamps and the counts are recovered. -/
def caskRecovered (s : State) (cask : Tab CaskCell) (q : Nat) : State :=
  let s := s.wr R.REC_HEAD.position (q * 2048 + lastFilled cask (q % 256) + 1)
  let s := s.wr R.REC_OLDEST.position ((match oldestBlock cask with
    | none => q
    | some o => o) * 2048)
  let s := s.wr R.REC_SECONDS.seconds (min (2 ^ 32 - 1) (caskMax CaskSlot.seconds cask + s.rd R.REC_SECONDS.seconds))
  let s := s.wr R.REC_CYCLES.cycles (min (2 ^ 24 - 1) (caskMax CaskSlot.cycles cask + 1))
  let s : State := match newestHeader cask with
    | none => s
    | some h => (s.wr R.REC_SUPPRESSED.count (h.payload / 2 ^ 32 % 2 ^ 32)).wr R.REC_WRITTEN.count (h.payload / 2 ^ 64 % 2 ^ 32)
  startErase s ((q + 1) % 2 ^ 32)

/-- The torn records that a scan finds are counted. -/
def tornCounted (s : State) (torn : Nat) : State := if torn = 0 then s else (s.bumpN R.REC_TORN_COUNT.c torn).wr R.REC_STATUS.torn 1

theorem tornCounted_flash (s : State) (torn : Nat) : (tornCounted s torn).flash = s.flash := by
  unfold tornCounted
  split
  · rfl
  · rw [wr_flash, bumpN_flash]

theorem caskScan_of_blank {s : State} (hscan : s.on R.REC_STATUS.scanning = true) (hup : s.procUp 3 = true)
    (h : newestBlock s.flash.cask = none) :
    caskScan s = scanFinished (blankOpened (tornCounted s (readCask s.flash.cask).2.2)) (readCask s.flash.cask).2.1 := by
  unfold caskScan
  rw [if_neg (by simp [hscan, hup])]
  simp only [h]
  rfl

theorem caskScan_of_found {s : State} {q : Nat} (hscan : s.on R.REC_STATUS.scanning = true) (hup : s.procUp 3 = true)
    (h : newestBlock s.flash.cask = some q) :
    caskScan s = scanFinished (caskRecovered (tornCounted s (readCask s.flash.cask).2.2) s.flash.cask q) (readCask s.flash.cask).2.1 := by
  unfold caskScan
  rw [if_neg (by simp [hscan, hup])]
  simp only [h]
  rfl

theorem regsBut_requeue {ks : List Fld} {r s : State} (l : List CaskRec) (h : RegsBut ks r s)
    (hr : ∀ k ∈ recordFields.map Fld.key, k ∈ ks.map Fld.key) : RegsBut ks r (s.requeue l) := by
  unfold State.requeue
  extract_lets room lost rcd joined counted
  have hjoined : RegsBut ks r joined := regsBut_regs h rfl
  have hbump : RegsBut ks r (joined.bumpN R.REC_DROP_COUNT.c lost) := by
    unfold State.bumpN
    exact regsBut_ite (regsBut_wr _ _ hjoined (hr _ (by decide)))
      (regsBut_wr _ _ (regsBut_wr _ _ hjoined (hr _ (by decide))) (hr _ (by decide)))
  exact regsBut_wr _ _ (regsBut_ite hjoined (regsBut_wr _ _ hbump (hr _ (by decide)))) (hr _ (by decide))

theorem rebuildHistory_same (s : State) (l : List CaskSlot) : CaskSame s (rebuildHistory s l) ∧ (rebuildHistory s l).regs = s.regs :=
  List.foldlRecOn (motive := fun t => CaskSame s t ∧ t.regs = s.regs) _ _ ⟨caskSame_refl s, rfl⟩
    fun _ ht _ _ => ⟨⟨ht.1.flash, ht.1.erased⟩, ht.2⟩

theorem caskSame_scanFinished (s : State) (valid : List CaskSlot) : CaskSame s (scanFinished s valid) := by
  have hended : CaskSame s (scanEnded s valid) := ⟨(rebuildHistory_same s valid).1.flash, (rebuildHistory_same s valid).1.erased⟩
  exact caskSame_trans hended (caskSame_trans (caskSame_submit _ _) (caskSame_trans (caskSame_enqueue ..) (caskSame_requeue ..)))

theorem scanFinished_records (s : State) (valid : List CaskSlot) : RegsBut recordFields (scanEnded s valid) (scanFinished s valid) :=
  regsBut_requeue _ (regsBut_enqueue _ _ (regsBut_event _ _ _ (regsBut_refl _ _) fun _ h => h) fun _ h => h) fun _ h => h

theorem rd_scanEnded (s : State) (valid : List CaskSlot) (g : Fld) :
    (scanEnded s valid).rd g = ((rebuildHistory s valid).wr R.REC_STATUS.scanning 0).rd g := rfl

theorem scanFinished_scanning (s : State) (valid : List CaskSlot) : (scanFinished s valid).rd R.REC_STATUS.scanning = 0 :=
  (rd_regsBut (scanFinished_records s valid) _ (by decide)).trans ((rd_scanEnded ..).trans ((rd_wr_same ..).trans (Nat.zero_mod _)))

theorem rd_scanFinished (s : State) (valid : List CaskSlot) {g : Fld} (hscan : R.REC_STATUS.scanning.key ≠ g.key)
    (hg : g.key ∉ recordFields.map Fld.key) : (scanFinished s valid).rd g = s.rd g := by
  rw [rd_regsBut (scanFinished_records s valid) g hg, rd_scanEnded, rd_wr_other _ _ _ _ hscan]
  exact rd_eq_of_regs _ _ _ (rebuildHistory_same s valid).2

/-- R424: a blank cask is opened at its first slot, with the time stamps of a first start. -/
theorem blankOpened_shows (s : State) : (blankOpened s).rd R.REC_STATUS.blank = 1 ∧ (blankOpened s).rd R.REC_HEAD.position = 1 ∧
    (blankOpened s).rd R.REC_SECONDS.seconds = 0 ∧ (blankOpened s).rd R.REC_CYCLES.cycles = 1 ∧ (blankOpened s).rcd.erased = some 1 := by
  have hopen : ∀ (t : State), (openBlock t 0).rd R.REC_HEAD.position = 1 ∧
      (openBlock t 0).rd R.REC_STATUS.blank = t.rd R.REC_STATUS.blank := fun t => by
    unfold openBlock
    dsimp only
    rw [rd_startErase _ _ (by decide) (by decide), rd_startErase _ _ (by decide) (by decide), rd_wr_same, rd_wr_other _ _ _ _ (by decide)]
    exact ⟨rfl, rfl⟩
  unfold blankOpened
  refine ⟨?_, ?_, ?_, rd_wr_same .., rfl⟩
  · refine (rd_wr_other _ _ _ _ (by decide)).trans ((rd_wr_other _ _ _ _ (by decide)).trans ((hopen _).2.trans ?_))
    exact (rd_wr_other _ _ _ _ (by decide)).trans (rd_wr_same ..)
  · exact (rd_wr_other _ _ _ _ (by decide)).trans ((rd_wr_other _ _ _ _ (by decide)).trans (hopen _).1)
  · exact (rd_wr_other _ _ _ _ (by decide)).trans (rd_wr_same ..)

/-- R417, R424: the count of power cycles goes on from the highest in the cask, whose slots stay as they are. -/
theorem caskRecovered_shows (s : State) (cask : Tab CaskCell) (q : Nat) :
    (caskRecovered s cask q).rd R.REC_CYCLES.cycles = min (2 ^ 24 - 1) (caskMax CaskSlot.cycles cask + 1) ∧
      (caskRecovered s cask q).flash = s.flash := by
  have hcounts : ∀ t : State, ((match newestHeader cask with
      | none => t
      | some h => (t.wr R.REC_SUPPRESSED.count (h.payload / 2 ^ 32 % 2 ^ 32)).wr R.REC_WRITTEN.count (h.payload / 2 ^ 64 % 2 ^ 32)).rd
        R.REC_CYCLES.cycles = t.rd R.REC_CYCLES.cycles) ∧ (match newestHeader cask with
      | none => t
      | some h => (t.wr R.REC_SUPPRESSED.count (h.payload / 2 ^ 32 % 2 ^ 32)).wr R.REC_WRITTEN.count (h.payload / 2 ^ 64 % 2 ^ 32)).flash
        = t.flash := fun t => by
    cases newestHeader cask with
    | none => exact ⟨rfl, rfl⟩
    | some h => exact ⟨(rd_wr_other _ _ _ _ (by decide)).trans (rd_wr_other _ _ _ _ (by decide)), rfl⟩
  unfold caskRecovered
  refine ⟨(rd_startErase _ _ (by decide) (by decide)).trans ((hcounts _).1.trans ((rd_wr_same ..).trans (Nat.mod_eq_of_lt ?_))),
    (startErase_flash ..).trans (hcounts _).2⟩
  show min _ _ < 2 ^ 24
  omega

/-! ## Freezes (R425) -/

/-- R425: with no freeze an erase is not withheld. -/
theorem startErase_of_thawed {s : State} {q : Nat} (h : s.on R.REC_STATUS.frozen = false) {g : Fld}
    (holdest : R.REC_OLDEST.position.key ≠ g.key) : (startErase s q).rd g = s.rd g := by
  have hnot : ¬ eraseWithheld s q = true := by simp [eraseWithheld, h]
  unfold startErase
  rw [if_neg hnot]
  extract_lets rcd t
  split
  · exact rd_wr_other _ _ _ _ holdest
  · rfl

theorem releaseFreeze_shows (s : State) : (releaseFreeze s).rd R.REC_STATUS.frozen = 0 ∧ (releaseFreeze s).rd R.REC_STATUS.withheld = 0 ∧
    (releaseFreeze s).flash = s.flash := by
  have hfrozen : ((s.wr R.REC_STATUS.frozen 0).wr R.REC_STATUS.withheld 0).rd R.REC_STATUS.frozen = 0 :=
    (rd_wr_other _ _ _ _ (by decide)).trans (rd_wr_same ..)
  have hwithheld : ((s.wr R.REC_STATUS.frozen 0).wr R.REC_STATUS.withheld 0).rd R.REC_STATUS.withheld = 0 := rd_wr_same ..
  have hthawed : ((s.wr R.REC_STATUS.frozen 0).wr R.REC_STATUS.withheld 0).on R.REC_STATUS.frozen = false := by
    rw [State.on, hfrozen]
    rfl
  unfold releaseFreeze
  dsimp only
  split
  · exact ⟨(startErase_of_thawed hthawed (by decide)).trans hfrozen, (startErase_of_thawed hthawed (by decide)).trans hwithheld,
      startErase_flash ..⟩
  · exact ⟨hfrozen, hwithheld, rfl⟩

/-- Settles O34: each command by the branch that its premises choose. A record whose first occurrence has no position yet carries position 0
(log 81). -/
theorem recorderCommands : Obligations.RecorderCommands := by
  unfold Obligations.RecorderCommands
  refine ⟨fun s r rest pos n hup hscan hqueue hpos hn hopen hfits hdropped => (does_iff rfl).mpr ?writes,
    fun s r rest pos k hup hscan hqueue hpos hk hopen hfits => (does_iff rfl).mpr ?fails, fun s q h => (does_iff rfl).mpr ?erased,
    fun s q h => (does_iff rfl).mpr ?eraseFails, fun s run r h hdue hcount hroom => (does_iff rfl).mpr ?closes,
    fun s hdue hroom => (does_iff rfl).mpr ?snapshot, fun s hscan hup h => (does_iff rfl).mpr ?blank,
    fun s q hscan hup h => (does_iff rfl).mpr ?found, fun s hfrozen hdue => (does_iff rfl).mpr ?thaws,
    fun s h => (does_iff rfl).mpr (if_neg (not_not.mpr h))⟩
  case writes =>
    subst hpos hn
    obtain ⟨hcask, hhead, hlength, hwritten, hdrop⟩ := recordProgrammed_shows s r rest (slotsOf s r).length
    rw [caskWrite_of_room hup hscan hqueue (roomFor_of_fits hopen hfits), tellDropped_of_none (hdrop.trans hdropped)]
    exact ⟨hcask, hhead, hlength, hwritten⟩
  case fails =>
    subst hpos
    rw [caskWrite_of_failed hup hscan hqueue (roomFor_of_fits hopen hfits) hk]
    exact slotTorn_shows s hk
  case erased =>
    rw [blockEraseComplete_of_erased h]
    exact ⟨rfl, rfl, rfl, rfl⟩
  case eraseFails =>
    obtain ⟨hcask, hfail, herased⟩ := blockSkipped_shows s q
    rw [blockEraseComplete_of_failed h, startErase_flash, startErase_erased, hcask, rd_startErase _ _ (by decide) (by decide)]
    exact ⟨blockTorn_all .., hfail, herased⟩
  case closes =>
    rw [runClose_of_due h hdue, closeRun_of_repeated hcount]
    obtain ⟨hrcd, hregs⟩ := enqueue_of_room (s := { s with rcd := { s.rcd with runs := s.rcd.runs.filter fun q => q.id != r.id } })
      (.rpt r.count (r.pos.getD 0) r.first r.last r.excess) (if r.pos.isSome then 0 else r.id) hroom
    rw [hrcd]
    exact ⟨rfl, rfl, hregs⟩
  case snapshot =>
    rw [headerSnapshot_of_due hdue]
    obtain ⟨hrcd, hregs⟩ := enqueue_of_room (s := { s with rcd := { s.rcd with snapshotAt := s.rd R.REC_SECONDS.seconds } }) .snapshot 0 hroom
    rw [hrcd]
    exact ⟨rfl, rfl, hregs⟩
  case blank =>
    rw [caskScan_of_blank hscan hup h]
    generalize tornCounted s _ = counted
    obtain ⟨hblank, hhead, hseconds, hcycles, herased⟩ := blankOpened_shows counted
    have hrd := fun {g : Fld} => rd_scanFinished (blankOpened counted) (readCask s.flash.cask).2.1 (g := g)
    exact ⟨scanFinished_scanning .., (hrd (by decide) (by decide)).trans hblank, (hrd (by decide) (by decide)).trans hhead,
      (hrd (by decide) (by decide)).trans hseconds, (hrd (by decide) (by decide)).trans hcycles,
      (caskSame_scanFinished ..).erased.trans herased⟩
  case found =>
    rw [caskScan_of_found hscan hup h]
    obtain ⟨hcycles, hflash⟩ := caskRecovered_shows (tornCounted s (readCask s.flash.cask).2.2) s.flash.cask q
    exact ⟨scanFinished_scanning .., (rd_scanFinished _ _ (by decide) (by decide)).trans hcycles,
      congrArg Flash.cask ((caskSame_scanFinished ..).flash.trans (hflash.trans (tornCounted_flash ..)))⟩
  case thaws =>
    rw [show freezeExpire s = releaseFreeze s from if_pos ⟨hfrozen, hdue⟩]
    exact releaseFreeze_shows s

end Sys2Proof.Proofs
end

section
/-! PROOFS. The cast-on that a validated configuration orders (R228 to R246, R445): what it leaves of the start-up, namely UPD_STATUS.loader,
CFG_STATUS.state and the mark that the configuration has been verified. -/

namespace Sys2Proof.Proofs

open Sys2Proof.Machine Sys2Proof.Laws

/-- The keys of UPD_STATUS.loader and CFG_STATUS.state. -/
def bootKeys : List Nat := [R.UPD_STATUS.loader.key, R.CFG_STATUS.state.key]

/-- A swatch taken out and counted as aborted. -/
def abortCounted (s : State) (n : Nat) : State :=
  let t := modUnit s n fun u => { u with running := none, waiting := false }
  { t with sdc := { t.sdc with result := 3, lastUnit := n } }.bump R.SDC_SWATCH_COUNT.c

theorem finishSwatch_abort (s : State) (n failBits : Nat) : finishSwatch s n 3 failBits true =
    endRecorded (abortCounted s n) n 3 failBits ((s.now - (unitLive s n).running.getD s.now) / 1000) := rfl

theorem tfind_filter_of_keep {α : Type} (l : Tab α) (keep : Nat → Bool) {k : Nat} (hk : keep k = true) :
    tfind (l.filter fun p => keep p.1) k = tfind l k := by
  induction l with
  | nil => rfl
  | cons p l ih =>
    obtain ⟨i, v⟩ := p
    by_cases hik : i = k
    · subst hik
      simp [hk, tfind]
    · cases hkeep : keep i <;> simp [hkeep, tfind, hik, ih]

/-- The start-up stands where it stood: the loader's state, the configuration's, and whether that is verified. -/
structure BootSame (s t : State) : Prop where
  field : ∀ k ∈ bootKeys, tfind t.regs k = tfind s.regs k
  verified : t.seq.verified = s.seq.verified

theorem bootSame_refl (s : State) : BootSame s s := ⟨fun _ _ => rfl, rfl⟩

theorem BootSame.rd {s t : State} (h : BootSame s t) {g : Fld} (hg : g.key ∈ bootKeys) : t.rd g = s.rd g := by
  unfold State.rd tgetD
  rw [h.field _ hg]

theorem bootSame_ite {r a b : State} {c : Prop} [Decidable c] (ha : BootSame r a) (hb : BootSame r b) : BootSame r (if c then a else b) := by
  split
  · exact ha
  · exact hb

section
variable {r s t : State} (h : BootSame r s)
include h

/-- An operation that leaves the field file and that mark as they are. -/
theorem bootSame_rest (hr : t.regs = s.regs) (hv : t.seq.verified = s.seq.verified) : BootSame r t :=
  ⟨by rw [hr]; exact h.field, hv.trans h.verified⟩

theorem bootSame_regsBut {ks : List Fld} (hk : ∀ k ∈ bootKeys, k ∉ ks.map Fld.key) (hb : RegsBut ks s t) (hv : t.seq = s.seq) :
    BootSame r t :=
  ⟨fun k hm => (hb k (hk k hm)).trans (h.field k hm), (congrArg SeqState.verified hv).trans h.verified⟩

theorem bootSame_wr {f : Fld} {v : Nat} (hf : ∀ k ∈ bootKeys, k ∉ [f].map Fld.key) : BootSame r (s.wr f v) :=
  bootSame_regsBut h hf (regsBut_wr _ _ (regsBut_refl _ s) (by simp)) rfl

theorem bootSame_bump {c : Cnt} (hc : ∀ k ∈ bootKeys, k ∉ [c.cnt, c.ovf].map Fld.key) : BootSame r (s.bump c) :=
  bootSame_regsBut h hc (regsBut_bump _ (regsBut_refl _ s) (by simp) (by simp)) (bump_seq _ _)

theorem bootSame_err {unit op cls severity detail : Nat} : BootSame r (s.err unit op cls severity detail) :=
  bootSame_regsBut h (ks := recordFields) (by decide) (regsBut_err _ _ _ _ _ (regsBut_refl _ s) fun _ hk => hk)
    ((State_err_keeps (m := 12845076) rfl (keeps_refl _ s)).touch .seq rfl)

theorem bootSame_event {code unit data : Nat} : BootSame r (s.event code unit data) :=
  bootSame_regsBut h (ks := recordFields) (by decide) (regsBut_event _ _ _ (regsBut_refl _ s) fun _ hk => hk)
    ((State_submit_keeps (m := 8388612) rfl (keeps_refl _ s)).touch .seq rfl)

/-- What the hub does of itself changes nothing of the start-up. -/
theorem bootSame_hub (hb : WardenSame s t) (hv : t.seq = s.seq) : BootSame r t where
  field k hk := by
    have hkey : ∀ k ∈ bootKeys, k < 0x1000000 * 32 ∧ k ∉ hubTouched.map Fld.key := by decide
    exact (hb.field k (hkey k hk).1 (hkey k hk).2).trans (h.field k hk)
  verified := (congrArg SeqState.verified hv).trans h.verified

theorem bootSame_foldl {α : Type} {f : State → α → State} {l : List α} (hf : ∀ t x, BootSame r t → BootSame r (f t x)) :
    BootSame r (l.foldl f s) :=
  List.foldlRecOn l f h fun t ht x _ => hf t x ht

/-! ## The hub: links, swatches, and a die's reset -/

theorem bootSame_fenceAcc (slot : Nat) : BootSame r (fenceAcc s slot) := bootSame_hub h (wardenSame_fenceAcc (wardenSame_refl s) slot) rfl

theorem bootSame_refreshLinks : BootSame r (refreshLinks s) :=
  bootSame_hub h (wardenSame_refreshLinks (wardenSame_refl s))
    ((refreshLinks_keeps (m := 12852252) rfl (keeps_refl _ s)).touch .seq rfl)

theorem bootSame_modUnit (n : Nat) (f : UnitLive → UnitLive) : BootSame r (modUnit s n f) := bootSame_rest h (by rfl) (by rfl)

theorem bootSame_endRecorded (n result failBits ms : Nat) : BootSame r (endRecorded s n result failBits ms) := by
  have hrecord : BootSame r (unitRecord s n (3 + result) failBits ms) := bootSame_err h
  exact bootSame_modUnit hrecord n _

theorem bootSame_abortSwatches (l : List Nat) : BootSame r (abortSwatches s l) := by
  have hfinish : ∀ t n, BootSame r t → BootSame r (finishSwatch t n 3 0 true) := fun t n ht => by
    rw [finishSwatch_abort]
    exact bootSame_endRecorded (bootSame_bump (bootSame_rest ht (by rfl) (by rfl)) (by decide)) _ _ _ _
  refine bootSame_foldl h fun t n ht => bootSame_ite ht ?_
  exact bootSame_ite (bootSame_modUnit (hfinish t n ht) n _) (hfinish t n ht)

theorem bootSame_resetTraffic (d : Nat) : BootSame r (resetTraffic s d) := by
  have hwarden : WardenSame s (resetTraffic s d) := by
    unfold resetTraffic
    extract_lets -lift -merge -underBinder through src t u
    have hu : WardenSame s u := wardenSame_foldl (wardenSame_regs (wardenSame_refl s)) fun _ c ht => wardenSame_timeoutCtx ht c
    exact wardenSame_foldl hu fun _ _ ht => wardenSame_wr (wardenSame_wr ht)
  exact bootSame_hub h hwarden ((resetTraffic_keeps (m := 12851228) rfl (keeps_refl _ s)).touch .seq rfl)

/-- R461: the next restart of an activation is that of one of the eight processors. -/
theorem bootSame_nextActivation : BootSame r (nextActivation s) := by
  have hkey : ∀ p < 8, ∀ k ∈ bootKeys, k ∉ (restartFields p).map Fld.key := by decide
  unfold nextActivation
  split
  · exact h
  next flags next _ =>
    split
    next p hp =>
      have hp8 : p < 8 := List.mem_range.mp (List.mem_of_find?_eq_some hp)
      have hnoted : BootSame r { s with upd := { s.upd with act := some (flags, p + 1) } } := bootSame_rest h (by rfl) (by rfl)
      exact bootSame_regsBut hnoted (hkey p hp8) (regsBut_beginRestart _ _ _ _ _)
        ((beginRestart_keeps (m := 347078676) rfl (keeps_refl _ _)).touch .seq rfl)
    next => exact bootSame_rest h (by rfl) (by rfl)

theorem bootSame_procLost {p : Nat} (hp : p < 8) : BootSame r (procLost s p) := by
  have hkey : ∀ p < 8, ∀ k ∈ bootKeys, k ∉ [R.FW_PROC.state p].map Fld.key := by decide
  unfold procLost
  extract_lets -lift -merge -underBinder a b c e
  have ha : BootSame r a := bootSame_regsBut h (ks := arbFields) (by decide) (regsBut_arbCrash s p)
    ((arbCrash_keeps (m := 2097172) rfl (keeps_refl _ s)).touch .seq rfl)
  clear_value a
  have hc : BootSame r c := bootSame_wr (bootSame_wr ha (hkey p hp)) (by decide)
  clear_value c
  have he : BootSame r e := bootSame_rest hc (by rfl) (by rfl)
  clear_value e
  exact bootSame_ite (bootSame_nextActivation he) he

theorem bootSame_procsLost {ps : List Nat} (hps : ∀ p ∈ ps, p < 8) : BootSame r (ps.foldl procLost s) := by
  induction ps generalizing s with
  | nil => exact h
  | cons p ps ih =>
    rw [List.forall_mem_cons] at hps
    rw [List.foldl_cons]
    exact ih (bootSame_procLost h hps.1) hps.2

/-- The registers of a die's blocks go, and no other (R511). -/
theorem bootSame_dieCleared {d : Nat} (hd : d < 2) {t : State} (hr : t.regs = s.regs.filter fun p => ! dieKey d p.1)
    (hv : t.seq = s.seq) : BootSame r t where
  field k hk := by
    have hkey : ∀ d < 2, ∀ k ∈ bootKeys, dieKey d k = false := by decide
    rw [hr, tfind_filter_of_keep _ (fun k => ! dieKey d k) (by rw [hkey d hd k hk]; rfl)]
    exact h.field k hk
  verified := (congrArg SeqState.verified hv).trans h.verified

theorem bootSame_resetTracker (d : Nat) : BootSame r (resetTracker s d) := by
  unfold resetTracker
  split
  · exact bootSame_ite (bootSame_rest h (by rfl) (by rfl)) (bootSame_rest h (by rfl) (by rfl))
  · exact bootSame_rest h (by rfl) (by rfl)

theorem bootSame_resetDie {d : Nat} (hd : d < 2) : BootSame r (resetDie s d) := by
  have hon : ∀ d < 2, ∀ k ∈ bootKeys, k ∉ [R.PWR_DOMAIN_H.on d].map Fld.key := by decide
  have hpending : ∀ d < 2, ∀ k ∈ bootKeys, k ∉ [R.PWR_DOMAIN_H.pending d].map Fld.key := by decide
  unfold resetDie
  extract_lets -lift -merge -underBinder a latched b links gone src7 c e kept src10 f g i j k src16 l
  have ha : BootSame r a := bootSame_abortSwatches h _
  clear_value a latched links gone kept
  have hb : BootSame r b := bootSame_dieCleared (s := a) ha hd rfl rfl
  clear_value b
  have hc : BootSame r c := bootSame_rest hb (by rfl) (by rfl)
  clear_value c
  have he : BootSame r e := bootSame_resetTraffic hc d
  clear_value e
  have hf : BootSame r f := bootSame_rest he (by rfl) (by rfl)
  clear_value f
  have hg : BootSame r g := bootSame_foldl hf fun _ _ ht => bootSame_fenceAcc ht _
  clear_value g
  have hi : BootSame r i := bootSame_wr (bootSame_wr hg (hon d hd)) (hpending d hd)
  clear_value i
  have hj : BootSame r j := bootSame_rest hi (by rfl) (by rfl)
  clear_value j
  have hk : BootSame r k := bootSame_procsLost hj fun p hp => by
    simp only [List.mem_cons, List.not_mem_nil, or_false] at hp
    omega
  clear_value k
  have hm : BootSame r src16 := bootSame_resetTracker hk d
  clear_value src16
  have hl : BootSame r l := bootSame_rest hm (by rfl) (by rfl)
  clear_value l
  exact bootSame_ite hl (bootSame_rest hl (by rfl) (by rfl))

theorem bootSame_holdDie {d : Nat} (hd : d < 2) (cause : Nat) : BootSame r (holdDie s d cause) := by
  have ht : BootSame r (s.modDie d fun x => { x with holds := setBit x.holds cause true }) := bootSame_rest h (by rfl) (by rfl)
  exact bootSame_ite (bootSame_resetDie ht hd) ht

theorem bootSame_refreshHolds : BootSame r (refreshHolds s) := by
  unfold refreshHolds
  extract_lets -lift -merge -underBinder flags byFlag byFault one a b c
  have hone : ∀ t, ∀ d < 2, BootSame r t → BootSame r (one t d) := fun t d hd ht => by
    have hflag : BootSame r (if byFlag d then holdDie t d 0 else t.modDie d fun x => { x with holds := setBit x.holds 0 false }) :=
      bootSame_ite (bootSame_holdDie ht hd 0) (bootSame_rest ht (by rfl) (by rfl))
    exact bootSame_ite (bootSame_holdDie hflag hd 1) (bootSame_rest hflag (by rfl) (by rfl))
  have ha : BootSame r a := hone _ 1 (by decide) (hone _ 0 (by decide) h)
  exact bootSame_refreshLinks (bootSame_wr (bootSame_wr (bootSame_wr (bootSame_wr ha (by decide)) (by decide)) (by decide)) (by decide))

theorem bootSame_cutPushes (slots : Nat) : BootSame r (cutPushes s slots) :=
  bootSame_ite (bootSame_wr (bootSame_rest h (by rfl) (by rfl)) (by decide)) (bootSame_rest h (by rfl) (by rfl))

theorem bootSame_assertPerst (slots : Nat) : BootSame r (assertPerst s slots) := by
  unfold assertPerst
  extract_lets -lift -merge -underBinder a b c
  have hb : BootSame r b := bootSame_wr (bootSame_cutPushes (bootSame_abortSwatches h _) slots) (by decide)
  exact bootSame_refreshLinks (bootSame_foldl (bootSame_rest hb (by rfl) (by rfl)) fun _ _ ht => bootSame_fenceAcc ht _)

/-! ## The sequencer (R228 to R246) -/

theorem bootSame_traceSeq (ch event : Nat) : BootSame r (traceSeq s ch event) :=
  bootSame_wr (bootSame_wr (bootSame_rest h (by rfl) (by rfl)) (by decide)) (by decide)

theorem bootSame_setSeqState (v : Nat) : BootSame r (setSeqState s v) := bootSame_wr (bootSame_rest h (by rfl) (by rfl)) (by decide)

theorem bootSame_setEnable (ch : Nat) (on : Bool) : BootSame r (setEnable s ch on) :=
  bootSame_ite h (bootSame_traceSeq (bootSame_rest h (by rfl) (by rfl)) _ _)

theorem bootSame_openRun (q : SeqRun) : BootSame r (openRun s q) := by
  have hcounted : BootSame r ({ s with seq := { s.seq with run := some { q with start := s.now }, startAt := s.now } }.bump R.SEQ_RUN_COUNT.c) :=
    bootSame_bump (bootSame_rest h (by rfl) (by rfl)) (by decide)
  exact bootSame_wr (bootSame_wr (bootSame_traceSeq hcounted 0 0) (by decide)) (by decide)

theorem bootSame_takeCast (q : SeqRun) (gs : List (List Nat)) : BootSame r (takeCast s q gs).1 := by
  induction gs generalizing s with
  | nil => exact h
  | cons g rest ih =>
    unfold takeCast
    extract_lets -lift -merge -underBinder t live
    have ht : BootSame r t := bootSame_foldl h fun _ _ hu => bootSame_rest hu (by rfl) (by rfl)
    clear_value t live
    cases live with
    | nil => exact ih ht
    | cons c _ => exact bootSame_wr ht (by decide)

theorem bootSame_dropGroup (g : List Nat) : BootSame r (dropGroup s g) := by
  refine bootSame_foldl h fun t c ht => bootSame_ite ?_ ht
  exact bootSame_rest (s := setEnable t c false) (bootSame_setEnable ht c false) (by rfl) (by rfl)

theorem bootSame_takeBind (q : SeqRun) (gs : List (List Nat)) : BootSame r (takeBind s q gs).1 := by
  induction gs with
  | nil => exact h
  | cons g rest ih =>
    unfold takeBind
    extract_lets -lift -merge -underBinder live
    clear_value live
    cases live with
    | nil => exact ih
    | cons c _ => exact bootSame_dropGroup (bootSame_wr h (by decide)) _

theorem bootSame_milestone {k : Nat} (hk : k < 8) : BootSame r (milestone s k) := by
  have hkey : ∀ k < 8, ∀ b ∈ bootKeys, b ∉ [R.CFG_MILESTONE.ms k].map Fld.key := by decide
  exact bootSame_ite (bootSame_wr h (hkey k hk)) h

theorem bootSame_setRegion (typ v : Nat) : BootSame r (setRegion s typ v) := bootSame_wr h (by decide)

theorem bootSame_verifyFailed (typ reason op : Nat) : BootSame r (verifyFailed s typ reason op) :=
  bootSame_event (bootSame_err (bootSame_setRegion (bootSame_wr (bootSame_bump h (by decide)) (by decide)) _ _))

theorem bootSame_verifiedImage {typ : Nat} (htyp : typ - 1 < 6) (c : ImageCheck) : BootSame r (verifiedImage s typ c) := by
  have hkey : ∀ i < 6, ∀ b ∈ bootKeys, b ∉ [R.UPD_SVN.running i].map Fld.key := by decide
  exact bootSame_wr (bootSame_setRegion (bootSame_rest h (by rfl) (by rfl)) _ _) (hkey _ htyp)

theorem bootSame_beginPushes (good : Nat → Bool) : BootSame r (beginPushes s good) := by
  unfold beginPushes
  split
  · exact h
  next f _ =>
    refine bootSame_ite h ?_
    split
    · exact bootSame_verifyFailed h _ _ _
    · have hv : BootSame r (verifiedImage s 6 f.check) := bootSame_verifiedImage h (by decide) _
      exact bootSame_foldl (bootSame_rest hv (by rfl) (by rfl)) fun _ _ ht => bootSame_rest ht (by rfl) (by rfl)

theorem bootSame_schedulePerst (slots : Nat) : BootSame r (schedulePerst s slots) := bootSame_rest h (by rfl) (by rfl)

theorem bootSame_castOnDone : BootSame r (castOnDone s) :=
  bootSame_schedulePerst (bootSame_beginPushes (bootSame_milestone (bootSame_setSeqState h 2) (by decide)) _) _

theorem bootSame_endTrayOff (q : SeqRun) : BootSame r (endTrayOff s q) :=
  bootSame_ite (bootSame_setSeqState (bootSame_traceSeq (bootSame_wr h (by decide)) _ _) _) (bootSame_setSeqState h _)

theorem bootSame_railRecord (c : RailCfg) (what : Nat) : BootSame r (railRecord s c what) := bootSame_err h

theorem bootSame_flagNotFallen (c : RailCfg) : BootSame r (flagNotFallen s c) := by
  unfold flagNotFallen
  extract_lets -lift -merge -underBinder a src
  have ha : BootSame r a := bootSame_traceSeq (bootSame_rest h (by rfl) (by rfl)) _ _
  clear_value a
  exact bootSame_railRecord (bootSame_rest ha (by rfl) (by rfl)) _ _

theorem bootSame_endSlotsOff (q : SeqRun) : BootSame r (endSlotsOff s q) :=
  bootSame_refreshHolds (bootSame_foldl h fun _ _ ht => bootSame_flagNotFallen ht _)

theorem bootSame_seqSummary (kind set slots : Nat) (hubs : Bool) (channel : Nat) : BootSame r (seqSummary s kind set slots hubs channel) :=
  bootSame_regsBut h (ks := recordFields) (by decide) (regsBut_enqueue _ _ (regsBut_refl _ s) fun _ hk => hk)
    ((seqSummary_keeps (m := 8388612) rfl (keeps_refl _ s)).touch .seq rfl)

theorem bootSame_endRun (q : SeqRun) : BootSame r (endRun s q) := by
  unfold endRun
  extract_lets -lift -merge -underBinder src a b all c e
  have hb : BootSame r b := bootSame_wr (bootSame_wr (bootSame_rest h (by rfl) (by rfl)) (by decide)) (by decide)
  clear_value b all
  have hc : BootSame r c := by
    unfold c
    split
    · exact bootSame_castOnDone (bootSame_rest hb (by rfl) (by rfl))
    · exact bootSame_castOnDone (bootSame_rest hb (by rfl) (by rfl))
    · exact bootSame_schedulePerst hb _
    · exact bootSame_endTrayOff hb q
    · exact bootSame_endSlotsOff hb q
  clear_value c
  have he : BootSame r e := bootSame_traceSeq (bootSame_refreshHolds hc) _ _
  split <;> exact bootSame_seqSummary he _ _ _ _ _

theorem bootSame_setRun (q : SeqRun) : BootSame r (setRun s q) := bootSame_rest h (by rfl) (by rfl)

/-- A group taken up goes on with the run that it gives, and where there is none the run ends. -/
theorem bootSame_advanceRun (q : SeqRun) : BootSame r (advanceRun s q).1 := by
  have hfirst : BootSame r (if q.binding then takeBind s q q.groups else takeCast s q q.groups).1 := by
    split
    · exact bootSame_takeBind h _ _
    · exact bootSame_takeCast h _ _
  unfold advanceRun
  split
  next t nx heq =>
    rw [heq] at hfirst
    split
    · exact bootSame_setRun hfirst _
    · split
      · split
        next u nx heq' =>
          have hsecond := bootSame_takeCast hfirst { q with off := false } (castGroups t.img.rails)
          rw [heq'] at hsecond
          split
          · exact bootSame_setRun hsecond _
          · exact bootSame_endRun hsecond q
      · exact bootSame_endRun hfirst q

theorem bootSame_castFrom (q : SeqRun) : BootSame r (castFrom s q) := by
  have htaken := bootSame_takeCast (bootSame_setSeqState (bootSame_openRun h q) 1) q (castGroups s.img.rails)
  unfold castFrom
  split
  next t nx heq =>
    rw [heq] at htaken
    split
    · exact bootSame_setRun htaken _
    · exact bootSame_endRun htaken q

theorem bootSame_releaseInput : BootSame r (releaseInput s) := by
  have ht : BootSame r (traceSeq (s.wr R.SEQ_HOLD.input_off 0) 0 0xE) := bootSame_traceSeq (bootSame_wr h (by decide)) _ _
  exact bootSame_rest ht (by rfl) (by rfl)

theorem bootSame_startTrayOn : BootSame r (startTrayOn s) := bootSame_ite (bootSame_releaseInput h) (bootSame_castFrom h _)

theorem bootSame_startAdopt : BootSame r (startAdopt s) := by
  have hw : BootSame r { s with seq := { s.seq with adoptWaits := false } } := bootSame_rest h (by rfl) (by rfl)
  exact bootSame_ite (bootSame_releaseInput hw) (bootSame_advanceRun (bootSame_openRun (bootSame_setSeqState hw 1) _) _)

theorem bootSame_startSlotsOn (slots : Nat) : BootSame r (startSlotsOn s slots) := by
  unfold startSlotsOn
  extract_lets -lift -merge -underBinder q src t
  have ht : BootSame r t := bootSame_openRun (bootSame_rest h (by rfl) (by rfl)) _
  have htaken := bootSame_takeCast ht q (groupsWithin (slotChannels t slots) (castGroups t.img.rails))
  split
  next u nx heq =>
    rw [heq] at htaken
    split
    · exact bootSame_setRun htaken _
    · exact bootSame_endRun htaken q

theorem bootSame_startSlotsOff (slots : Nat) : BootSame r (startSlotsOff s slots) := by
  unfold startSlotsOff
  extract_lets -lift -merge -underBinder a b gs
  have hb : BootSame r b := bootSame_openRun (bootSame_assertPerst h slots) _
  clear_value b
  exact bootSame_rest hb (by rfl) (by rfl)

theorem bootSame_runHeld (n : Nat) : BootSame r (runHeld n s) := by
  induction n generalizing s with
  | zero => exact h
  | succ k ih =>
    unfold runHeld
    refine bootSame_ite h (bootSame_ite (ih (bootSame_startAdopt h)) ?_)
    split
    · exact h
    next on tray slots _ =>
      extract_lets -lift -merge -underBinder src t u
      have ht : BootSame r t := bootSame_rest h (by rfl) (by rfl)
      exact ih (bootSame_ite (bootSame_ite (bootSame_startTrayOn ht) ht)
        (bootSame_ite (bootSame_ite (bootSame_startSlotsOn ht _) (bootSame_startSlotsOff ht _)) ht))

theorem bootSame_orderTrayOn : BootSame r (orderTrayOn s) :=
  bootSame_ite (bootSame_rest h (by rfl) (by rfl)) (bootSame_ite h (bootSame_runHeld (bootSame_startTrayOn h) _))

theorem bootSame_adoptTable (old : List RailCfg) : BootSame r (adoptTable s old) := by
  unfold adoptTable
  extract_lets -lift -merge -underBinder listed src t
  have ht : BootSame r t := bootSame_rest h (by rfl) (by rfl)
  clear_value t
  exact bootSame_ite ht (bootSame_ite (bootSame_rest ht (by rfl) (by rfl)) (bootSame_runHeld (bootSame_startAdopt ht) _))

theorem bootSame_orderCastOn : BootSame r (orderCastOn s) := by
  unfold orderCastOn
  split
  · exact bootSame_adoptTable (bootSame_rest h (by rfl) (by rfl)) _
  · exact bootSame_ite (bootSame_orderTrayOn h) h

end

end Sys2Proof.Proofs
end

section
/-! PROOFS. The start-up checks of the images (R356, R441 to R445, R452, R476). -/

namespace Sys2Proof.Proofs

open Sys2Proof.Machine Sys2Proof.Laws

/-! ## The loader (R445, R476) -/

theorem startProc_sup (s : State) (p : Nat) : (startProc s p).sup = s.sup := (startProc_keeps (m := 1048580) rfl (keeps_refl _ s)).touch .sup rfl

theorem startProc_upd (s : State) (p : Nat) : (startProc s p).upd = s.upd := (startProc_keeps (m := 1048580) rfl (keeps_refl _ s)).touch .upd rfl

/-- A processor that is not halted starts (R367, R374). -/
theorem startProc_shows {s : State} {p : Nat} (h : s.rd (R.FW_PROC.state p) ≠ 3) : (startProc s p).rd (R.FW_PROC.state p) = 1 := by
  unfold startProc
  rw [if_neg h]
  exact rd_wr_same s (R.FW_PROC.state p) 1

theorem rd_startProc (s : State) {p : Nat} {g : Fld} (hg : (R.FW_PROC.state p).key ≠ g.key) : (startProc s p).rd g = s.rd g := by
  unfold startProc
  split
  · rfl
  · exact rd_wr_other s (R.FW_PROC.state p) g 1 hg

/-- The loader as the boot ROM takes it up, before its processor starts. -/
def loaderTakenUp (s : State) (c : ImageCheck) : State :=
  let s := { s with sup := { s.sup with loaderStarted := true, w1At := s.now } }
  (measure (measure (verifiedImage s 1 c) 0 c.digest) 5 s.flash.pushed).wr R.PWR_DOMAIN_W.w1_on 1

theorem loaderVerify_of_verified {s : State} {c : ImageCheck} (hon : s.sup.wardenOn = true) (hstarted : s.sup.loaderStarted = false)
    (hhold : s.sup.romHold = false) (hverdict : imageVerdict s 1 c = none) (hlife : s.lifeState ≠ 0 ∧ s.lifeState ≠ 5) :
    loaderVerify c s = startSvn (startProc (loaderTakenUp s c) 0) 1 := by
  unfold loaderVerify
  rw [if_neg (by simp [hon, hstarted, hhold]), if_neg (by simp [hverdict, hlife])]
  rfl

/-- An image that does not verify leaves the boot ROM in ROM hold, where it may already be. -/
theorem loaderVerify_of_failed {s : State} {c : ImageCheck} (hon : s.sup.wardenOn = true) (hstarted : s.sup.loaderStarted = false)
    (hverdict : (imageVerdict s 1 c).isSome = true) : loaderVerify c s = { s with sup := { s.sup with romHold := true } } := by
  unfold loaderVerify
  cases hhold : s.sup.romHold with
  | true =>
    rw [if_pos (.inr (.inr rfl)), ← hhold]
  | false => rw [if_neg (by simp [hon, hstarted]), if_pos (.inl hverdict)]

theorem loaderTakenUp_shows (s : State) (c : ImageCheck) : (loaderTakenUp s c).rd R.PWR_DOMAIN_W.w1_on = 1 ∧
    (loaderTakenUp s c).rd (R.FW_PROC.state 0) = s.rd (R.FW_PROC.state 0) := by
  refine ⟨rd_wr_same .., (rd_wr_other _ _ _ _ (by decide)).trans ?_⟩
  exact rd_verifiedImage _ 1 c (by decide) (by decide)

/-! ## The code images (R445, R452) -/

theorem returnedErasure_of_life {s : State} (h : s.lifeState ≠ 4) : returnedErasure s = s := by
  unfold returnedErasure
  split
  next h4 _ => exact absurd h4 h
  next => rfl

/-- The code images as the loader takes them up, before the processors start. -/
def codeTakenUp (s : State) (c : CodeImages) : State :=
  let s := measure (measure (verifiedImage (verifiedImage s 2 c.warden) 3 c.hubctl) 1 c.warden.digest) 2 c.hubctl.digest
  let s := settingsVersion s c.settings c.known
  let s := (c.copies.take 3).zipIdx.foldl (fun s p => measure s (6 + p.2) p.1) s
  let s := loadTrace { s with upd := { s.upd with features := setBit c.features 0 true } } c.traceW c.traceH
  s.wr R.FW_STATUS.restarting 0

theorem startWarden_eq (s : State) (c : CodeImages) : startWarden s c =
    milestone (startSvn (startSvn (startProc (startProc (startProc (codeTakenUp s c) 1) 2) 3) 2) 3) 0 := rfl

theorem wardenVerify_of_verified {s : State} {c : CodeImages} (hstarted : s.sup.loaderStarted = true) (hloader : s.rd R.UPD_STATUS.loader = 0)
    (hcode : codeVerified s = false) (hlife : s.lifeState ≠ 4) (hwarden : imageVerdict s 2 c.warden = none)
    (hhub : imageVerdict s 3 c.hubctl = none) : wardenVerify c s = startWarden s c := by
  unfold wardenVerify
  rw [if_neg (by simp [hstarted, hloader, hcode]), returnedErasure_of_life hlife]
  simp only [hwarden, hhub]

/-- The trace enables (R377). -/
def traceFields : List Fld := (List.range 8).map R.FW_TRACE_W.enable ++ (List.range 8).map R.FW_TRACE_H.enable

theorem regsBut_loadTrace (s : State) (w h : Nat) : RegsBut traceFields s (loadTrace s w h) := by
  refine List.foldlRecOn (motive := RegsBut traceFields s) _ _ (regsBut_refl _ s) fun t ht i hi => ?_
  have hkey : ∀ i < 8, (R.FW_TRACE_W.enable i).key ∈ traceFields.map Fld.key ∧ (R.FW_TRACE_H.enable i).key ∈ traceFields.map Fld.key := by
    decide
  obtain ⟨hwarden, hhub⟩ := hkey i (List.mem_range.mp hi)
  exact regsBut_wr _ _ (regsBut_wr _ _ ht hwarden) hhub

/-- The code images taken up leave the processors as they are. -/
theorem codeTakenUp_state (s : State) (c : CodeImages) {p : Nat} (hp : p < 8) :
    (codeTakenUp s c).rd (R.FW_PROC.state p) = s.rd (R.FW_PROC.state p) := by
  have hkey : ∀ p < 8, R.FW_STATUS.restarting.key ≠ (R.FW_PROC.state p).key ∧ (R.FW_PROC.state p).key ∉ traceFields.map Fld.key ∧
      (R.FW_PROC.state p).key ∉ takenUpFields.map Fld.key ∧ (R.UPD_SVN.running 1).key ≠ (R.FW_PROC.state p).key ∧
      (R.UPD_SVN.running 2).key ≠ (R.FW_PROC.state p).key ∧ R.UPD_REGIONS.state.key ≠ (R.FW_PROC.state p).key := by decide
  obtain ⟨hrestarting, htrace, htaken, hwarden, hhub, hregion⟩ := hkey p hp
  refine (rd_wr_other _ _ _ _ hrestarting).trans ((rd_regsBut (regsBut_loadTrace _ _ _) _ htrace).trans ?_)
  refine (rd_regsBut (regsBut_regs (regsBut_settingsVersion c.settings c.known (regsBut_refl _ _)) (measures_same _ _).1) _ htaken).trans ?_
  exact (rd_verifiedImage _ 3 _ hhub hregion).trans (rd_verifiedImage _ 2 _ hwarden hregion)

theorem codeTakenUp_features (s : State) (c : CodeImages) : (codeTakenUp s c).upd.features = setBit c.features 0 true := by
  have htrace : ∀ t : State, (loadTrace t c.traceW c.traceH).upd = t.upd := fun t =>
    (loadTrace_keeps (m := 4) rfl (keeps_refl _ t)).touch .upd rfl
  unfold codeTakenUp
  simp only [wr_upd, htrace]

theorem startWarden_shows (s : State) (c : CodeImages) (hruns : ([1, 2, 3].all fun p => s.rd (R.FW_PROC.state p) != 3) = true) :
    (startWarden s c).upd.features = setBit c.features 0 true ∧ ∀ p ∈ [1, 2, 3], (startWarden s c).rd (R.FW_PROC.state p) = 1 := by
  have hmilestone : ∀ t : State, (milestone t 0).upd = t.upd := fun t => (milestone_keeps (m := 4) rfl (keeps_refl _ t)).touch .upd rfl
  have hrd : ∀ t : State, ∀ p < 8, (milestone t 0).rd (R.FW_PROC.state p) = t.rd (R.FW_PROC.state p) := fun t p hp => by
    have hkey : ∀ p < 8, (R.CFG_MILESTONE.ms 0).key ≠ (R.FW_PROC.state p).key := by decide
    unfold milestone
    split
    · exact rd_wr_other _ _ _ _ (hkey p hp)
    · rfl
  have hsvn : ∀ (t : State) (typ : Nat), (startSvn t typ).upd.features = t.upd.features := fun _ _ => rfl
  have hne : ∀ p < 8, ∀ q < 8, p ≠ q → (R.FW_PROC.state p).key ≠ (R.FW_PROC.state q).key := by decide
  have h3 : ∀ p ∈ [1, 2, 3], (codeTakenUp s c).rd (R.FW_PROC.state p) ≠ 3 := fun p hp => by
    rw [codeTakenUp_state s c (by simp at hp; omega)]
    simpa using List.all_eq_true.mp hruns p hp
  rw [startWarden_eq]
  refine ⟨?_, fun p hp => (hrd _ p (by simp at hp; omega)).trans ?_⟩
  · rw [hmilestone, hsvn, hsvn, startProc_upd, startProc_upd, startProc_upd, codeTakenUp_features]
  · rw [rd_startSvn, rd_startSvn]
    simp only [List.mem_cons, List.not_mem_nil, or_false] at hp
    rcases hp with rfl | rfl | rfl
    · rw [rd_startProc _ (hne 3 (by decide) 1 (by decide) (by decide)), rd_startProc _ (hne 2 (by decide) 1 (by decide) (by decide))]
      exact startProc_shows (h3 1 (by decide))
    · rw [rd_startProc _ (hne 3 (by decide) 2 (by decide) (by decide))]
      refine startProc_shows ?_
      rw [rd_startProc _ (hne 1 (by decide) 2 (by decide) (by decide))]
      exact h3 2 (by decide)
    · refine startProc_shows ?_
      rw [rd_startProc _ (hne 2 (by decide) 3 (by decide) (by decide)), rd_startProc _ (hne 1 (by decide) 3 (by decide) (by decide))]
      exact h3 3 (by decide)

/-! ## The configuration image (R441 to R443) -/

section Config

variable {s : State} {r : ConfigRead} (hup : s.procUp 0 = true) (hloader : s.rd R.UPD_STATUS.loader = 0) (hcode : codeVerified s = true)
  (hstate : s.rd R.CFG_STATUS.state = 0) (hverdict : imageVerdict s 4 r.check = none)
include hup hloader hcode hstate hverdict

theorem configValidate_of_valid (hvalid : configFailure s r = none) : configValidate r s =
    orderCastOn (applyConfig (startSvn (measure (verifiedImage s 4 r.check) 3 r.check.digest) 4) (configImage r)) := by
  unfold configValidate
  rw [if_neg (by simp [hup, hloader, hcode, hstate])]
  simp only [hverdict, hvalid]

theorem configValidate_of_failed {b : Nat × Nat × Nat} (hfail : configFailure s r = some b) :
    configValidate r s = configReject (setRegion s 4 3) b.1 b.2.1 b.2.2 := by
  unfold configValidate
  rw [if_neg (by simp [hup, hloader, hcode, hstate])]
  simp only [hverdict, hfail]

end Config

theorem bootSame_configMilestone (s : State) : BootSame s (milestone s 1) := bootSame_milestone (bootSame_refl s) (by decide)

/-- A validated image in force: the loader is past VERIFY and AWAITING, and the sequencer may use the table. -/
theorem applyConfig_shows (s : State) (i : Image) : (applyConfig s i).img = i ∧ (applyConfig s i).rd R.UPD_STATUS.loader = 1 ∧
    (applyConfig s i).seq.verified = true := by
  unfold applyConfig
  extract_lets -lift -merge -underBinder a b c e f g k src1 src2 src3 l
  have ha : a.img = i := (showConfig_keeps (m := 4) rfl (keeps_refl _ (settleRates { s with img := i }))).touch .img rfl
  clear_value a
  have hb : b.img = i := ((applyLoads_keeps (m := 4) rfl (keeps_refl _ a)).touch .img rfl).trans ha
  clear_value b
  have he : e.img = i := ((applyStore_keeps (m := 8388612) rfl (keeps_refl _ c)).touch .img rfl).trans hb
  clear_value e
  have hg : g.img = i := ((showFeatures_keeps (m := 4) rfl (keeps_refl _ f)).touch .img rfl).trans he
  clear_value g
  have hl : l.img = i := hg
  have hv : l.seq.verified = true := rfl
  clear_value l
  have hboot := bootSame_configMilestone (l.wr R.UPD_STATUS.loader 1)
  refine ⟨((milestone_keeps (m := 4) rfl (keeps_refl _ _)).touch .img rfl).trans hl, (hboot.rd (by decide)).trans (rd_wr_same ..), ?_⟩
  exact hboot.verified.trans hv

theorem orderCastOn_img (s : State) : (orderCastOn s).img = s.img := (orderCastOn_keeps (m := 368852956) rfl (keeps_refl _ s)).touch .img rfl

/-- The fields that AWAITING shows of the processors that it holds in reset (R286, R453). -/
def awaitingFields : List Fld :=
  [R.COOL_STATUS.mode, R.COOL_STATUS.table_reason, R.FW_STATUS.restarting] ++ [1, 2, 3].map R.FW_PROC.state

theorem regsBut_enterAwaiting (s : State) : RegsBut awaitingFields (s.wr R.UPD_STATUS.loader 2) (enterAwaiting s) := by
  have hkey : ∀ p ∈ [1, 2, 3], (R.FW_PROC.state p).key ∈ awaitingFields.map Fld.key := by decide
  refine List.foldlRecOn (motive := RegsBut awaitingFields (s.wr R.UPD_STATUS.loader 2)) _ _
    (regsBut_wr _ _ (regsBut_wr _ _ (regsBut_refl _ _) (by decide)) (by decide)) fun t ht p hp => ?_
  exact regsBut_ite ht (regsBut_regs (regsBut_wr (R.FW_PROC.state p) 2 (regsBut_wr R.FW_STATUS.restarting _ ht (by decide)) (hkey p hp)) rfl)

theorem enterAwaiting_seq (s : State) : (enterAwaiting s).seq = s.seq :=
  (enterAwaiting_keeps (m := 1048580) rfl (keeps_refl _ s)).touch .seq rfl

/-- A rejected image: the loader is in AWAITING and the sequencer may not use the table. -/
theorem configReject_shows (s : State) (reason sec entry : Nat) : (configReject s reason sec entry).rd R.CFG_STATUS.state = 2 ∧
    (configReject s reason sec entry).rd R.UPD_STATUS.loader = 2 ∧ (configReject s reason sec entry).seq.verified = false := by
  have herror : BootSame (s.wr R.CFG_STATUS.state 2) (configError (s.wr R.CFG_STATUS.state 2) reason sec entry) := by
    unfold configError
    extract_lets -lift -merge -underBinder a
    have ha : BootSame (s.wr R.CFG_STATUS.state 2) a := by
      refine bootSame_ite (bootSame_refl _) ?_
      iterate 4 refine bootSame_wr ?_ (by decide)
      exact bootSame_refl _
    exact bootSame_err ha
  unfold configReject
  extract_lets -lift -merge -underBinder a b src
  have hb : BootSame (s.wr R.CFG_STATUS.state 2) b :=
    bootSame_ite (bootSame_assertPerst (bootSame_rest herror (by rfl) (by rfl)) 0xFF) herror
  clear_value b
  refine ⟨?_, ?_, ?_⟩
  · refine (rd_regsBut (regsBut_enterAwaiting _) _ (by decide)).trans ((rd_wr_other _ _ _ _ (by decide)).trans ?_)
    exact (hb.rd (by decide)).trans (rd_wr_same ..)
  · exact (rd_regsBut (regsBut_enterAwaiting _) _ (by decide)).trans (rd_wr_same ..)
  · rw [enterAwaiting_seq]

/-! ## Hub sections (R444) -/

/-- What the hub sections give beside the registers. -/
structure Sections where
  lib : Tab Sys2Proof.Pattern
  routes : Tab Route
  guards : List Guard
  queues : Tab QueueCfg

abbrev sectionsOf (s : State) : Sections where
  lib := s.pat.lib
  routes := s.pat.routes
  guards := s.mem.guards
  queues := s.mem.queues

theorem sectionsOf_of_keeps {m : Nat} {s t : State} (h : Keeps m s t) (hp : m.testBit 10 = false := by rfl)
    (hm : m.testBit 11 = false := by rfl) : sectionsOf t = sectionsOf s := by
  unfold sectionsOf
  rw [h.touch .pat hp, h.touch .mem hm]

theorem sectionsOf_ite {c : Prop} [Decidable c] {a b : State} {x : Sections} (ha : sectionsOf a = x) (hb : sectionsOf b = x) :
    sectionsOf (if c then a else b) = x := by
  split
  · exact ha
  · exact hb

theorem sectionsOf_foldl {α : Type} {f : State → α → State} {l : List α} {s : State} (hf : ∀ t x, sectionsOf (f t x) = sectionsOf t) :
    sectionsOf (l.foldl f s) = sectionsOf s :=
  List.foldlRecOn (motive := fun t : State => sectionsOf t = sectionsOf s) _ _ rfl fun _ ht _ _ => (hf _ _).trans ht

theorem sectionsOf_fenceAcc (s : State) (slot : Nat) : sectionsOf (fenceAcc s slot) = sectionsOf s := rfl

theorem sectionsOf_noteRefusal (s : State) (q : OpenReq) (a : Resp) : sectionsOf (noteRefusal s q a) = sectionsOf s := by
  unfold noteRefusal
  extract_lets d
  split
  · rfl
  next c _ =>
    extract_lets -lift -merge -underBinder s1 s2 s3 s4 s5 key recent s6
    have h1 : sectionsOf s1 = sectionsOf s := sectionsOf_of_keeps (State_bump_keeps (m := 4) rfl (keeps_refl _ s))
    clear_value s1
    have h4 : sectionsOf s4 = sectionsOf s := h1
    clear_value s4
    have h5 : sectionsOf s5 = sectionsOf s := sectionsOf_ite h4 (sectionsOf_ite h4 h4)
    clear_value s5
    have h6 : sectionsOf s6 = sectionsOf s := h5
    clear_value s6
    exact sectionsOf_ite h5 ((sectionsOf_of_keeps (State_err_keeps (m := 12845076) rfl (keeps_refl _ s6))).trans h6)

theorem sectionsOf_finishOpen (s : State) (id : Nat) (a : Resp) (data : List Nat) (unknown : Bool) :
    sectionsOf (finishOpen s id a data unknown) = sectionsOf s := by
  unfold finishOpen
  split
  · rfl
  next c _ =>
    unfold answerOpen answerOpenHint
    extract_lets -lift -merge -underBinder qn s1 s2 s3
    have h1 : sectionsOf s1 = sectionsOf s := rfl
    clear_value s1
    have h2 : sectionsOf s2 = sectionsOf s := sectionsOf_ite h1 h1
    clear_value s2
    have h3 : sectionsOf s3 = sectionsOf s := (sectionsOf_noteRefusal _ _ _).trans h2
    clear_value s3
    exact (sectionsOf_of_keeps (State_send_keeps (m := 4112) rfl (keeps_refl _ _))).trans h3

theorem sectionsOf_timeoutCtx (s : State) (c : Context) : sectionsOf (timeoutCtx s c) = sectionsOf s :=
  sectionsOf_ite (sectionsOf_finishOpen _ _ _ _ _) (sectionsOf_finishOpen _ _ _ _ _)

theorem sectionsOf_leaveUp (s : State) (l : Nat) : sectionsOf (leaveUp s l) = sectionsOf s := by
  unfold leaveUp
  extract_lets -lift -merge -underBinder s1 s2 src s3
  have h1 : sectionsOf s1 = sectionsOf s := rfl
  clear_value s1
  have h2 : sectionsOf s2 = sectionsOf s := (sectionsOf_foldl sectionsOf_timeoutCtx).trans h1
  clear_value s2
  have h3 : sectionsOf s3 = sectionsOf s := h2
  clear_value s3
  exact sectionsOf_ite ((sectionsOf_fenceAcc s3 l).trans h3) h3

theorem sectionsOf_refreshLinks (s : State) : sectionsOf (refreshLinks s) = sectionsOf s := by
  unfold refreshLinks
  refine sectionsOf_foldl fun t l => ?_
  unfold refreshLink
  refine sectionsOf_ite rfl ?_
  extract_lets -lift -merge -underBinder st s1 s2
  have h1 : sectionsOf s1 = sectionsOf t := sectionsOf_ite (sectionsOf_leaveUp t l) (sectionsOf_ite rfl rfl)
  clear_value s1
  exact sectionsOf_ite (sectionsOf_ite rfl h1) (sectionsOf_ite (sectionsOf_ite rfl rfl) rfl)

theorem hubSectionsLoad_of_region {s : State} {d : Nat} (copyOk : Bool) (hd : s.dieUp d = true) (hup : s.procUp 0 = true)
    (hsections : (tget s.sup.dies d).sections = false) (hstate : s.rd R.CFG_STATUS.state = 1) :
    hubSectionsLoad d copyOk true s = loadSections s d := by
  unfold hubSectionsLoad
  rw [if_neg (by simp [hd, hup, hsections, hstate]), if_pos (.inr rfl)]

/-- The sections in force after a load are the image's, and the die is marked as loaded. -/
theorem loadSections_shows (s : State) (d : Nat) : (tget (loadSections s d).sup.dies d).sections = true ∧
    sectionsOf (loadSections s d) = ⟨s.img.patterns, s.img.routes, s.img.guards, s.img.queues⟩ := by
  unfold loadSections
  extract_lets -lift -merge -underBinder i other m src0 src1 a src2 src3 src4 b c src5 src6 e f
  have hb : sectionsOf b = ⟨s.img.patterns, s.img.routes, s.img.guards, s.img.queues⟩ := rfl
  clear_value a b other
  have hc : sectionsOf c = _ := (sectionsOf_of_keeps (applyLoads_keeps (m := 4) rfl (showSections_keeps rfl (keeps_refl _ b)))).trans hb
  clear_value c
  have he : sectionsOf e = _ := sectionsOf_ite hc hc
  clear_value e
  have hf : sectionsOf f = _ := he
  have hdie : (tget f.sup.dies d).sections = true := by
    unfold f State.modDie
    rw [tget_tmod_same]
  clear_value f
  have hshare : Keeps 4 f (if other = true then shareSettings f d else f) :=
    keeps_ite (shareSettings_keeps rfl (keeps_refl _ f)) (keeps_refl _ f)
  refine ⟨?_, (sectionsOf_refreshLinks _).trans ((sectionsOf_of_keeps hshare).trans hf)⟩
  rw [(refreshLinks_keeps (m := 12852252) rfl (keeps_refl _ _)).touch .sup rfl, hshare.touch .sup rfl, hdie]

/-! ## Memory training (R431, R445) -/

theorem trained_tmod (t : Tab Die) (d : Nat) {f : Die → Die} (hf : ∀ x, (f x).trained = x.trained) (e : Nat) :
    (tget (tmod t d f) e).trained = (tget t e).trained := by
  by_cases h : d = e
  · subst h
    rw [tget_tmod_same, hf]
  · rw [tget_tmod_other _ _ h]

theorem trained_requestDomains (s : State) (d set e : Nat) :
    (tget (requestDomains s d set).sup.dies e).trained = (tget s.sup.dies e).trained := by
  unfold requestDomains scheduleStarts
  split
  · rfl
  · extract_lets -lift -merge -underBinder busy new a b
    have hb : (tget b.sup.dies e).trained = (tget s.sup.dies e).trained := by
      simp only [b, a, wr_sup, State.modDie]
      rw [trained_tmod]
      exact fun _ => rfl
    clear_value b new
    split
    · exact hb
    · simp only [State.modDie]
      rw [trained_tmod]
      · exact hb
      · exact fun _ => rfl

theorem writeNext_sup (s : State) (valid atStep : Bool) (pattern stepLo : Nat) : (writeNext valid atStep pattern stepLo s).sup = s.sup :=
  (writeNext_keeps (m := 12846100) rfl (keeps_refl _ s)).touch .sup rfl

/-- A selection that waited for the training changes neither it nor what has been preloaded. -/
theorem trained_trySelect (s : State) (e : Nat) : (tget (trySelect s).sup.dies e).trained = (tget s.sup.dies e).trained := by
  have hwritten : ∀ (u : State) {restart : Bool}, u.sup.dies = s.sup.dies →
      (tget (if restart = true then restartNext u else u).sup.dies e).trained = (tget s.sup.dies e).trained := fun u restart hu => by
    split
    · rw [(restartNext_keeps (m := 12868756) rfl (keeps_refl _ u)).touch .sup rfl, hu]
    · rw [hu]
  unfold trySelect
  split
  · rfl
  next x _ =>
    extract_lets -lift -merge idle
    split
    · rfl
    next p _ =>
      split
      · rfl
      · split
        · rw [trained_requestDomains, trained_requestDomains]
        · split
          · rfl
          · refine hwritten _ ?_
            rw [writeNext_sup]

theorem memoryTrained_shows {s : State} {d : Nat} (hd : s.dieUp d = true) (hsections : (tget s.sup.dies d).sections = true)
    (htrained : (tget s.sup.dies d).trained = false) : (tget (memoryTrained d s).sup.dies d).trained = true ∧
      (memoryTrained d s).cfg.preloaded.testBit d = true := by
  unfold memoryTrained
  extract_lets -lift -merge -underBinder x a src b done
  rw [if_neg (by simp [hd, x, hsections, htrained])]
  have ha : (tget a.sup.dies d).trained = true := by
    unfold a State.modDie
    rw [tget_tmod_same]
  clear_value a
  have hb : b.sup = a.sup ∧ b.cfg.preloaded.testBit d = true := by
    unfold b
    split
    next h => exact ⟨rfl, h⟩
    next =>
      have hfold : ∀ t : State, Keeps 2048 t (a.img.preload.foldl (fun s r => preloadRecord s d r) t) := fun t =>
        keeps_foldl (keeps_refl _ t) fun _ _ ht => preloadRecord_keeps rfl ht
      refine ⟨(hfold _).touch .sup rfl, ?_⟩
      rw [(hfold _).touch .cfg rfl]
      simp
  clear_value b
  have hc : Keeps 4 b (if (done 0 && done 1) = true then lookTrained (milestone b 5) else b) :=
    keeps_ite (lookTrained_keeps rfl (milestone_keeps rfl (keeps_refl _ b))) (keeps_refl _ b)
  refine ⟨?_, ?_⟩
  · rw [trained_trySelect, hc.touch .sup rfl, hb.1, ha]
  · rw [(trySelect_keeps (m := 12868820) rfl (keeps_refl _ _)).touch .cfg rfl, hc.touch .cfg rfl, hb.2]

/-! ## The test store (R356, R448) -/

/-- A test store no larger than its region verifies as its image does. -/
theorem teststoreVerify_of_verified {s : State} {c : ImageCheck} {hubSet : Nat} (mode : Nat) (sets : List Nat) (hdie : s.anyDieUp = true)
    (hup : s.procUp 0 = true) (hsize : hubSet ≤ 1073741824) (hverdict : imageVerdict s 5 c = none) :
    (teststoreVerify c hubSet mode sets s).sdc.hubSet = true ∧ (teststoreVerify c hubSet mode sets s).sdc.sets = sets ∧
      (teststoreVerify c hubSet mode sets s).pin.emmc = mode % 4 := by
  unfold teststoreVerify
  rw [if_neg (by simp [hdie, hup])]
  extract_lets -lift -merge -underBinder src a v
  have hv : v = none := by
    unfold v
    rw [if_neg (fun h => absurd h.2.1 (Nat.not_lt.mpr hsize))]
    exact hverdict
  rw [hv]
  exact ⟨rfl, rfl, rfl⟩

/-- Settles O6: the loader's start and ROM hold, the code images with their processors, the configuration taken up or rejected, whose
cast-on leaves what the start-up shows, and the sections, the training and the test store. -/
theorem startUpChecks : Obligations.StartUpChecks := by
  unfold Obligations.StartUpChecks
  refine ⟨fun s c hon hstarted hhold hverdict hlife hruns => (does_iff rfl).mpr ?loader,
    fun s c hon hstarted hverdict => (does_iff rfl).mpr (loaderVerify_of_failed hon hstarted hverdict),
    fun s c hstarted hloader hcode hlife hwarden hhub hruns => (does_iff rfl).mpr ?warden,
    fun s r hup hloader hcode hstate hverdict hvalid => (does_iff rfl).mpr ?valid,
    fun s r hup hloader hcode hstate hverdict hfail => (does_iff rfl).mpr ?rejected,
    fun s d copyOk hd hup hsections hstate => (does_iff rfl).mpr ?sections,
    fun s d hd hsections htrained => (does_iff rfl).mpr (memoryTrained_shows hd hsections htrained),
    fun s c hubSet mode sets hdie hup hsize hverdict => (does_iff rfl).mpr
      (teststoreVerify_of_verified mode sets hdie hup hsize hverdict)⟩
  case loader =>
    obtain ⟨hw1, hproc⟩ := loaderTakenUp_shows s c
    rw [loaderVerify_of_verified hon hstarted hhold hverdict hlife, startSvn_sup, startProc_sup, rd_startSvn, rd_startSvn]
    exact ⟨rfl, rfl, (rd_startProc _ (by decide)).trans hw1, startProc_shows fun h => hruns (hproc.symm.trans h)⟩
  case warden =>
    obtain ⟨hfeatures, hprocs⟩ := startWarden_shows s c hruns
    rw [wardenVerify_of_verified hstarted hloader hcode hlife hwarden hhub]
    exact ⟨hfeatures, hprocs 1 (by decide), hprocs 2 (by decide), hprocs 3 (by decide)⟩
  case valid =>
    obtain ⟨himg, hone, hverified⟩ := applyConfig_shows (startSvn (measure (verifiedImage s 4 r.check) 3 r.check.digest) 4) (configImage r)
    rw [configValidate_of_valid hup hloader hcode hstate hverdict hvalid]
    have hboot := bootSame_orderCastOn (bootSame_refl (applyConfig (startSvn (measure (verifiedImage s 4 r.check) 3 r.check.digest) 4)
      (configImage r)))
    exact ⟨(orderCastOn_img _).trans himg, (hboot.rd (by decide)).trans hone, hboot.verified.trans hverified⟩
  case rejected =>
    obtain ⟨b, hb⟩ := Option.isSome_iff_exists.mp hfail
    rw [configValidate_of_failed hup hloader hcode hstate hverdict hb]
    exact configReject_shows _ _ _ _
  case sections =>
    obtain ⟨hloaded, hsame⟩ := loadSections_shows s d
    rw [hubSectionsLoad_of_region copyOk hd hup hsections hstate]
    simp only [sectionsOf, Sections.mk.injEq] at hsame
    exact ⟨hloaded, hsame⟩

end Sys2Proof.Proofs
end
